-- ==== Sys2Proof/Word.lean ====
section
/-! DEFINITION. The words and bytes of the device and the plain conversions between numbers, signed
numbers, bytes and words. -/

namespace Sys2Proof

/-- A 32-bit register or mailbox word. -/
abbrev Word := BitVec 32

/-- A byte of a frame, of the flash or of the CSRAM. -/
abbrev Byte := BitVec 8

/-- The signed number that the low `w` bits of `n` spell in two's complement. -/
def sext (w n : Nat) : Int :=
  if n % 2 ^ w < 2 ^ (w - 1) then (n % 2 ^ w : Nat) else (n % 2 ^ w : Nat) - (2 ^ w : Nat)

/-- The low `w` bits of a signed number in two's complement. -/
def wrap (w : Nat) (z : Int) : Nat := (z % (2 ^ w : Nat)).toNat

/-- Bits `hi` down to `lo` of a number. -/
def bits (n hi lo : Nat) : Nat := n / 2 ^ lo % 2 ^ (hi + 1 - lo)

/-- Bit `k` of a number. -/
def bitOf (n k : Nat) : Bool := n.testBit k

/-- 1 for true, 0 for false. -/
def b2n (b : Bool) : Nat := if b then 1 else 0

/-- A number held within an inclusive range. -/
def clampZ (lo hi z : Int) : Int := if z < lo then lo else if hi < z then hi else z

/-- A count held at its largest value. -/
def satN (top n : Nat) : Nat := if top < n then top else n

/-- The big-endian number that bytes spell, the first byte the most significant. -/
def beNat (l : List Byte) : Nat := l.foldl (fun a b => a * 256 + b.toNat) 0

/-- `k` bytes of a number, most significant first. -/
def beBytes : Nat → Nat → List Byte
  | 0, _ => []
  | k + 1, n => BitVec.ofNat 8 (n / 256 ^ k) :: beBytes k n

/-- `k` bytes of a number, least significant first. -/
def leBytes : Nat → Nat → List Byte
  | 0, _ => []
  | k + 1, n => BitVec.ofNat 8 n :: leBytes k (n / 256)

/-- The little-endian number that bytes spell. -/
def leNat : List Byte → Nat
  | [] => 0
  | b :: l => b.toNat + 256 * leNat l

/-- A word of a number. -/
def w32 (n : Nat) : Word := BitVec.ofNat 32 n

end Sys2Proof
end

