-- ==== Sys2Proof/Syntax.lean ====
section
/-! DEFINITION. The commands of the block: one constructor for each row of spec/opcode_table.json, with
the operands that a sender or the environment supplies. `dt` is the number of picoseconds of the
synthesis clock that have passed since the command before. -/

namespace Sys2Proof

/-- A mailbox request as its sender makes it: the initiator code of R502 that writes and rings, the
mailbox, the TAG of the header, and the argument words from word 1 on (R466). -/
structure Req where
  init : Nat
  mb : Nat
  tag : Nat
  args : List Nat
  deriving DecidableEq, Repr


/-- One channel's measurement at an epoch (R237, R250). -/
structure Meas where
  half : Bool := false
  slip : Bool := false
  pr : Nat
  carrier : Int
  cn0 : Nat
  doppler : Int
  sigma : Nat
  deriving DecidableEq, Repr

/-- A signal that is acquired (R236): C/N0 in 0.25 dB-Hz and Doppler in Hz. -/
structure Signal where
  cn0 : Nat
  doppler : Int := 0
  deriving DecidableEq, Repr

/-- A tracked signal as it fades (R236): its satellite, elevation in degrees and C/N0 in 0.25 dB-Hz. -/
structure Fading where
  svid : Nat
  elev : Nat
  cn0 : Nat
  deriving DecidableEq, Repr

/-- What a unit of navigation data carries beside its bits (R47, R247): the broadcast UTC offset, leap week, day and new
offset, none where it holds none; whether it completes its satellite's ephemeris; the satellites whose almanac it
holds; and the inter-system parameters. -/
structure NavInfo where
  utc : List Nat := []
  eph : Bool := false
  alm : List Nat := []
  inter : List Nat := []
  deriving DecidableEq, Repr

/-- A timing solution before its trust checks (R239, R244): TB less the TAI formed from the signals at the IF pins, in
2^-16 ns; the tracked satellites, each with its mean C/N0 in 0.25 dB-Hz and its pseudorange residual in cm; the
one of them that RESID excluded, if any; the between-antenna single differences of pseudorange after geometric
differencing, in cm, one for each satellite common to both antennas; and the inter-system offsets estimated, in
2^-16 ns, one for each constellation beyond the first. -/
structure Sol where
  ofs : Int
  sats : List (Nat × Int)
  excl : Option Nat := none
  diffs : List Int := []
  inter : List Int := []
  deriving DecidableEq, Repr

/-- The commands. -/
inductive Instr where
  /-- R660. A direct write to a register that has no row of its own is judged field by field against the register's rules and takes effect, is partly ignored or is ignored as a whole. -/
  | registerWrite (init addr v : Nat)
  /-- R475. A mailbox request whose opcode is not in the opcode index is answered with BAD_OPCODE. -/
  | badOpcode (op : Nat) (r : Req)
  /-- R469. Writing RING to a mailbox makes it BUSY, increments REQ_SEQ and makes the request area read-only, or sets DOOR_LOST if the mailbox is already BUSY. -/
  | doorbellRing (init mb : Nat)
  /-- R469. A host write to a mailbox request word is stored, or is ignored with REQ_WR_LOST set while the mailbox is BUSY. -/
  | requestWrite (init mb k v : Nat)
  /-- R469. A read of a response word returns the response, and a read of word LEN moves the mailbox from READY to CONSUMED. -/
  | responseRead (init mb k : Nat)
  /-- R471. A free core takes the next BUSY mailbox of its set in rotating order and begins to carry out its command. -/
  | requestTake (dt core : Nat)
  /-- R458. A command from MB08-MB15 that needs a secure block is passed by C2 or C3 to C0 once the 32-entry internal queue has room. -/
  | secureQueuePass (dt : Nat)
  /-- R476. Returns device identity, firmware and configuration image versions, BOOT_STAT and MB_STATUS. -/
  | sysInfo (r : Req)
  /-- R476. Writes NODE_ID and the trim-store Node ID record together, accepted only in BRINGUP before S7 or in MAINTENANCE. -/
  | sysNodeId (r : Req)
  /-- R476. Returns MB_STATUS, restart counts and causes, CSRAM correction count and the last double-bit error region. -/
  | sysCoreStatus (r : Req)
  /-- R461. Sets the timeout of one watchdog. -/
  | sysWdtCfg (r : Req)
  /-- R484. Sets the preferred firmware slot, trial and confirm, the configuration slot, CFG_SIGNED and MIN_SEC_VER. -/
  | sysBootCfg (r : Req)
  /-- R477. Runs the entries of a configuration image in order as if from MB00, stopping at the first response that is not OK. -/
  | sysCfgLoad (r : Req)
  /-- R476. Returns its argument words unchanged. -/
  | sysEcho (r : Req)
  /-- R478. Returns the flash busy and failure state, the running and configuration slots, the flash size and its JEDEC identification. -/
  | nvmStatus (r : Req)
  /-- R478. Reads up to 240 bytes of the external flash. -/
  | nvmRead (r : Req)
  /-- R479. Erases a 4 KiB or 64 KiB flash block unless it touches the running firmware slot or the preferred configuration slot in BRINGUP. -/
  | nvmErase (r : Req)
  /-- R479. Writes up to 240 bytes within one flash page and reads them back for comparison. -/
  | nvmWrite (r : Req)
  /-- R478. Checks a firmware or configuration slot image and returns its result and header bytes. -/
  | nvmVerify (r : Req)
  /-- R589. Returns MODE_STATE, PWR_STATE, the commanded P-states, the start status, temperatures, supplies and the keeper. -/
  | pwrStatus (r : Req)
  /-- R560. Commands a block entry or port into a power state and responds when the change completes. -/
  | pwrState (r : Req)
  /-- R577. Changes the operating mode where the mode table allows it. -/
  | pwrMode (r : Req)
  /-- R567. Accepts a device or die reset with its kind and counter clearing, the reset following 1 ms later. -/
  | pwrReset (r : Req)
  /-- R586. Writes the pin-reset kind, the wake sources, the keeper alarm and the temperature limits. -/
  | pwrStartCfg (r : Req)
  /-- R84. Reports one timebase's flags, EST_ERR, pending correction, FREQ, pair offset and UTC offset. -/
  | timeStatus (r : Req)
  /-- R85. Writes the enable, source, step permission, slew limit, step threshold and holdover limit of a timebase. -/
  | timeTbCfg (r : Req)
  /-- R86. Steps a timebase to an absolute time when SRC is HOST and steps are allowed or time is not valid. -/
  | timeSet (r : Req)
  /-- R87. Requests a phase correction of a timebase, as a slew or as a step. -/
  | timeAdjPhase (r : Req)
  /-- R88. Writes the FREQ of a timebase whose source is HOST. -/
  | timeAdjFreq (r : Req)
  /-- R89. Sets the UTC offset, writes a leap entry or clears a leap entry of a timebase. -/
  | timeUtc (r : Req)
  /-- R90. Maps or unmaps one IEEE 1588 domain number to a timebase unless a session of that domain is open. -/
  | timeDomainMap (r : Req)
  /-- R91. Configures and enables, disables or switches a primary and shadow timebase pair. -/
  | timePair (r : Req)
  /-- R92. Configures and arms a comparator, or disarms it. -/
  | timeCmp (r : Req)
  /-- R93. Configures one PPS output. -/
  | timePps (r : Req)
  /-- R94. Configures the ToD and IRIG-B outputs. -/
  | timeSerial (r : Req)
  /-- R139. Sets how one port takes part in one domain, closing its sessions when the role is none. -/
  | timePtpPort (r : Req)
  /-- R140. Reports one timing session's role, NPX state, partner, depth, offset, path delay and asymmetry. -/
  | timeSessStatus (r : Req)
  /-- R141. Sets the NPX organizationId, enable and PHASE rate, returning every session to OFF when the organizationId changes. -/
  | timeNpx (r : Req)
  /-- R188. Reports one DPLL's state, lock time, advertised quality, error term and build-out. -/
  | refStatus (r : Req)
  /-- R189. Reports one reference slot's status, frequency offset and quality. -/
  | refSlotStatus (r : Req)
  /-- R190. Configures one reference slot, restarting its qualification on a change of NOM_HZ or of the session. -/
  | refSlotCfg (r : Req)
  /-- R191. Configures one DPLL's bandwidth, revert, switch and software timeouts, holdover window and classes. -/
  | refDpllCfg (r : Req)
  /-- R192. Writes the 16 slot priorities of one DPLL, applied from the next tick. -/
  | refPrio (r : Req)
  /-- R193. Writes WTR, DISPUTE_LIM and LINE_TB. -/
  | refGlobal (r : Req)
  /-- R194. Configures the OCXO interface and the holdover model bounds. -/
  | refOcxo (r : Req)
  /-- R159. Applies or releases a forced selection or forced holdover of a DPLL, or clears a dispute of a slot. -/
  | refForce (r : Req)
  /-- R196. Opens or closes one DPLL's loop for software control. -/
  | refSwLoop (r : Req)
  /-- R197. Returns one DPLL's latest phase-detector result and frequency word. -/
  | refSwRead (r : Req)
  /-- R198. Writes one open-loop DPLL's software frequency word within its clamp. -/
  | refSwWrite (r : Req)
  /-- R226. Reports one APLL and which of its outputs drive or are gated. -/
  | synStatus (r : Req)
  /-- R227. Writes one APLL's enable, shadow fields and lock criteria. -/
  | synApllCfg (r : Req)
  /-- R228. Writes one clock output's shadow configuration, divider and delay. -/
  | synOutCfg (r : Req)
  /-- R229. Commits or cancels an APLL group's shadow at the next boundary or at a target. -/
  | synCommit (r : Req)
  /-- R230. Sets the phase offset PHOFS of one APLL. -/
  | synPhase (r : Req)
  /-- R259. Reports one antenna's solution, input status and broadcast UTC and leap parameters. -/
  | gnssStatus (r : Req)
  /-- R259. Configures one GNSS input, its notches and the receiver configuration. -/
  | gnssInputCfg (r : Req)
  /-- R259. Writes the position mode, masks, antenna delays and antenna positions. -/
  | gnssTimingCfg (r : Req)
  /-- R259. Writes the enables and limits of the trust checks. -/
  | gnssTrustCfg (r : Req)
  /-- R249. Pops up to 7 entries of the measurement or navigation FIFO under its semaphore. -/
  | gnssRead (r : Req)
  /-- R246. Puts the GNSS receiver to sleep with its kept data saved, or wakes it. -/
  | gnssSleep (r : Req)
  /-- R234. Runs one SPI transaction of 1 to 8 bytes on a front-end control port. -/
  | gnssFeSpi (r : Req)
  /-- R279. Reports the event timer status and one input's status and configuration. -/
  | evtStatus (r : Req)
  /-- R266. Writes the event timer watermark and measurement reference while every input is disabled. -/
  | evtCfg (r : Req)
  /-- R279. Configures one event input's format, mode, edges, stop input and timing parameters. -/
  | evtInputCfg (r : Req)
  /-- R272. Pops up to 15 entries of the event-timer result FIFO under its semaphore. -/
  | evtRead (r : Req)
  /-- R307. Reports one lane's state, rate-matching offset, retry counts and its grove status. -/
  | laneStatus (r : Req)
  /-- R307. Writes one lane's configuration and transmit taps. -/
  | laneCfg (r : Req)
  /-- R307. Returns a lane and the other lanes of its port to DETECT, optionally discarding the equalisation cache. -/
  | laneRestart (r : Req)
  /-- R294. Requests substitution of a port's lane by the grove spare, or releases it, responding when the exchange ends. -/
  | laneSpare (r : Req)
  /-- R298. Places a lane in a test with its generator, checker and loopback, or ends the test. -/
  | laneTest (r : Req)
  /-- R300. Sets error injection on a lane's transmitter. -/
  | laneInject (r : Req)
  /-- R307. Writes a grove's spare settings and the global lane settings. -/
  | laneGroveCfg (r : Req)
  /-- R331. Reports one port's state, configuration and module pins. -/
  | portStatus (r : Req)
  /-- R309. Writes a port's mode, frame limit and enable, claiming lanes and passing through DISABLED on a mode change. -/
  | portCfg (r : Req)
  /-- R331. Writes a port's hold time, age limit and degradation thresholds. -/
  | portDownCfg (r : Req)
  /-- R322. Writes a port's pause and priority flow control settings. -/
  | portFc (r : Req)
  /-- R314. Drives a grove's module reset and low-power pins. -/
  | portModule (r : Req)
  /-- R324. Writes the control-frame policer limits, refused from a mailbox in BRINGUP. -/
  | portPolice (r : Req)
  /-- R369. Reports the epoch state, old-tag copies, the shared pool and the Clearing check-bit status. -/
  | fwdStatus (r : Req)
  /-- R346. Writes, deletes or clears a forwarding table entry in the shadow of both dies. -/
  | fwdWrite (r : Req)
  /-- R369. Reads a forwarding table entry of either image by index or by key. -/
  | fwdRead (r : Req)
  /-- R347. Accepts a commit of the table shadows and responds at its activation. -/
  | fwdCommit (r : Req)
  /-- R369. Makes the shadow equal to the active image again. -/
  | fwdDiscard (r : Req)
  /-- R356. Writes a port's shared-buffer limit and class reserves. -/
  | fwdBufCfg (r : Req)
  /-- R369. Writes the drain bound MAX_RES, applied from the next commit. -/
  | fwdEpochCfg (r : Req)
  /-- R393. Reports a port's scheduler status, ORIGIN, active bank length and the active-write log. -/
  | schedStatus (r : Req)
  /-- R388. Writes a port's wake lead, class-B selection, schedule timebase and stop, and its round-robin weights. -/
  | schedPortCfg (r : Req)
  /-- R393. Writes one class queue's limit and shaper. -/
  | schedQueueCfg (r : Req)
  /-- R380. Writes up to 30 slot-table entries of a port's inactive bank, all or none. -/
  | schedWrite (r : Req)
  /-- R393. Reads up to 30 slot-table entries of a bank. -/
  | schedRead (r : Req)
  /-- R380. Writes CYCLE and NUM of a port's inactive bank. -/
  | schedBankCfg (r : Req)
  /-- R381. Checks and commits the inactive banks of a set of ports for the next cycle or a target, or cancels a pending commit. -/
  | schedCommit (r : Req)
  /-- R380. Copies a port's active bank into its inactive bank. -/
  | schedCopy (r : Req)
  /-- R418. Reports Forester's state, queue loads, digest and last re-placement. -/
  | flowStatus (r : Req)
  /-- R417. Writes a port's managed flag, timing window and cycle, committing its first bank when it becomes managed. -/
  | flowPortCfg (r : Req)
  /-- R402. Computes and stages a placement of a protected flow or refuses it with a reason. -/
  | flowPlace (r : Req)
  /-- R410. Stages a flow at given sub-window positions, re-placing or evicting unpinned flows it disturbs. -/
  | flowPin (r : Req)
  /-- R405. Stages the removal of a placed flow. -/
  | flowRemove (r : Req)
  /-- R406. Commits the changed ports' banks and then the tables, responding at the table activation. -/
  | flowCommit (r : Req)
  /-- R408. Returns the placement model, banks, reservations and contexts to their committed state. -/
  | flowDiscard (r : Req)
  /-- R418. Reports one flow's sub-window, run, bounds and departure interval on one port. -/
  | flowQuery (r : Req)
  /-- R418. Writes REPLACE_DELAY and AUTO_REPL. -/
  | flowCfg (r : Req)
  /-- R457. Reports the pair, role, health and PFC status with comparison counts and both digests. -/
  | redStatus (r : Req)
  /-- R427. Writes one host stream context. -/
  | redCtxCfg (r : Req)
  /-- R457. Reports one stream context's configuration, generation counter and recovery counts. -/
  | redCtxStatus (r : Req)
  /-- R427. Resets a context's generation, recovery and individual state and optionally its counters. -/
  | redCtxReset (r : Req)
  /-- R428. Configures the pair agent, its PAIR ports, witness, fault action and role settings. -/
  | redPairCfg (r : Req)
  /-- R445. Releases the clock-output role or proposes a planned handover at a PAIR_TB second boundary. -/
  | redRole (r : Req)
  /-- R457. Starts a self-test pass and returns RD_HEALTH. -/
  | redHealth (r : Req)
  /-- R451. Writes the loop-breaking port set. -/
  | redLoopBreak (r : Req)
  /-- R524. Reports the world tables, Firebreak settings, integrity status, locks and the violation-log status. -/
  | secStatus (r : Req)
  /-- R506. Moves a non-fixed block entry to a world at an access boundary. -/
  | secBlockWorld (r : Req)
  /-- R505. Moves a CSRAM region to a world unless it holds a running image. -/
  | secRegionWorld (r : Req)
  /-- R506. Moves a Clearing partition to a world. -/
  | secPartWorld (r : Req)
  /-- R513. Sets CFG_LOCK_S or CFG_LOCK_N. -/
  | secLock (r : Req)
  /-- R512. Sets the integrity reference from the next pass or from a given value, responding when it is set. -/
  | secCrcCommit (r : Req)
  /-- R524. Returns valid violation-log entries and optionally clears the log. -/
  | secViolRead (r : Req)
  /-- R515. Opens or closes the secure direct window. -/
  | secWindow (r : Req)
  /-- R517. Sets or clears DEBUG_PERMIT, ending any unlocked debug session when cleared. -/
  | secDebugUnlock (r : Req)
  /-- R557. Reports the event record FIFO status and the Tally ring state. -/
  | telStatus (r : Req)
  /-- R530. Configures a grove or global programmable counter and restarts it. -/
  | telCounterCfg (r : Req)
  /-- R526. Returns fixed, programmable or bandwidth counters captured on one cycle. -/
  | telRead (r : Req)
  /-- R533. Configures a port's bandwidth meters. -/
  | telWindowCfg (r : Req)
  /-- R541. Configures a Tally sampler or the Tally ring. -/
  | telTallyCfg (r : Req)
  /-- R557. Reads bytes of the CSRAM Tally ring advancing RP, or sets RP. -/
  | telTallyRead (r : Req)
  /-- R545. Writes one event's route byte and record enable. -/
  | telEventCfg (r : Req)
  /-- R609. Reports the calibration run, the reference inputs and the trim-store status. -/
  | calStatus (r : Req)
  /-- R594. Starts a calibration run of one item on a target or all targets, or aborts the run. -/
  | calRun (r : Req)
  /-- R609. Returns the result entries of the last calibration run. -/
  | calResult (r : Req)
  /-- R603. Writes or erases a trim-store record after its plausibility check. -/
  | calRecordWrite (r : Req)
  /-- R609. Looks up a trim-store record by type, key and partner and returns its slot. -/
  | calRecordRead (r : Req)
  /-- R602. Writes or deletes a LINK record and returns its asymCheck. -/
  | calLinkRecord (r : Req)
  /-- R459. A mismatch between C0 and C1 suppresses the cycle's writes, stops both cores and restarts the pair. -/
  | lockstepMismatch (dt : Nat)
  /-- R460. A CSRAM double-bit error gives a bus error on data or restarts the fetching core, and raises CSRAM_DBE. -/
  | csramDbe (dt core region : Nat) (fetch : Bool)
  /-- R461. A watchdog that is not kicked expires and restarts its core or pair with cause WATCHDOG. -/
  | watchdogExpiry (dt core : Nat)
  /-- R461. Writing KICK restarts a watchdog count. -/
  | wdtKick (init core : Nat)
  /-- R462. A restarted core finishes its image check or reload and its ready bit rises. -/
  | coreRestartEnd (dt core : Nat)
  /-- R488. A write with CMD 1 takes a free semaphore for the writer, starting its lease. -/
  | semAcquire (init n lease : Nat)
  /-- R488. A write with CMD 2 by the owner frees the semaphore and clears BROKEN. -/
  | semRelease (init n : Nat)
  /-- R490. A semaphore whose lease passes without release is released with BROKEN set. -/
  | semLeaseExpiry (dt n : Nat)
  /-- R567. vdd_us rises, resetting everything including Understory, and a cold start begins. -/
  | powerOn (dt : Nat)
  /-- R567. rst_n held low resets dies T, A and B and a start of the kind set by PIN_KIND follows. -/
  | pinReset (dt : Nat)
  /-- R567. A device reset by command resets dies T, A and B and a start of the commanded kind follows. -/
  | deviceReset (dt : Nat)
  /-- R25. A reset of die A or B resets its regions, takes its ports down, loses its cells and is followed by a restore and lane waves. -/
  | dieReset (dt : Nat)
  /-- R570. Start step S1 switches on the supplies of dies T, A and B and locks the core PLL. -/
  | powerSequencing (dt : Nat) (ok : Bool)
  /-- R604. Start step S2 reads every trim-store slot and loads the records with their checks. -/
  | trimLoad (dt : Nat) (ok : Bool)
  /-- R570. Start step S3 runs memory BIST and repair. -/
  | bist (dt : Nat) (ok : Bool)
  /-- R482. Start step S4 authenticates and loads firmware and releases the cores, raising FW_READY. -/
  | firmware (dt : Nat)
  /-- R570. Start step S5 runs the APLL band search, cached on a warm start. -/
  | apllBandSearch (dt : Nat)
  /-- R570. Start step S6 releases mod_rst_n and opens the training waves. -/
  | laneTraining (dt : Nat)
  /-- R570. Start step S7 ends when every enabled port is ACTIVE or after 1 s. -/
  | capabilityExchange (dt : Nat)
  /-- R570. Start step S8 initialises the timebases or resumes them from Understory with DPLLs in FREERUN. -/
  | timebases (dt : Nat)
  /-- R570. Start step S9 measures die-link residuals, DIE_OFS and tap and replica offsets. -/
  | internalDelayCalibration (dt : Nat) (ok : Bool) (vs : List Int)
  /-- R570. Start step S10 starts the GNSS receiver from its kept data or leaves it asleep. -/
  | gnss (dt : Nat)
  /-- R409. Start step S11 runs image entries and reinstates or replays the flow placement. -/
  | flowPlacement (dt : Nat)
  /-- R512. Start step S12 commits the integrity reference and passes when the first pass after it matches. -/
  | configurationCrcCheck (dt : Nat)
  /-- R573. A start step exceeds its limit and the start fails. -/
  | startStepTimeout (dt : Nat)
  /-- R573. 100 ms after a failed start the sequencer resets die T and begins the next start. -/
  | startRetryReset (dt : Nat)
  /-- R578. After an accepted DORMANT command, Shouf saves time and GNSS data and the dies are switched off. -/
  | dormantEntry (dt : Nat)
  /-- R579. wake_n low for 1 ms with the pin source armed wakes the device into a warm start. -/
  | wakePin (dt : Nat)
  /-- R579. The keeper reaching ALARM with the alarm source armed wakes the device into a warm start. -/
  | keeperAlarm (dt : Nat)
  /-- R580. A rail outside its window for 10 µs raises SUPPLY_WARN. -/
  | supplyWarn (dt rail : Nat)
  /-- R581. Each die temperature is read every 1 ms and compared with the warning and critical limits. -/
  | tempSample (dt : Nat) (t a b : Int)
  /-- R152. At each whole millisecond of the line timebase Taproot takes monitor results, resolves disputes, ranks candidates and makes one transition per DPLL. -/
  | tick (dt : Nat) (ph : List (Nat × Int))
  /-- R27. At every whole millisecond Heartwood sends each port die a pulse, phase word and time word, and the replica is checked. -/
  | heartwoodPulse (dt die tb : Nat) (err : Int)
  /-- R49. Every 1 ms both members of an enabled pair are sampled on one cycle and HW_PAIRk_OFS is written. -/
  | pairOffsetSample (dt k : Nat)
  /-- R51. At the first offset sample after a switch trigger the build-out is updated, roles swap and DOMAIN_SWITCH is raised. -/
  | domainSwitch (dt k : Nat)
  /-- R77. Writing SWITCH in HW_PAIRk_CFG requests a domain switch. -/
  | pairSwitchWrite (init k : Nat)
  /-- R46. A timebase reaching the SEC of a valid leap entry takes NEW_OFS, clears the entry and raises LEAP_APPLIED. -/
  | leapApplied (dt tb : Nat)
  /-- R74. Writing FREQ_HI commits FREQ together with the held FREQ_LO. -/
  | freqHiWrite (init tb v : Nat)
  /-- R79. Setting ARM judges the comparator's linear target and arms it or leaves ARM at 0. -/
  | cmpArm (init m w : Nat)
  /-- R52. A timebase reaching a comparator target fires it, carrying out its actions and advancing or disarming it. -/
  | cmpFire (dt m : Nat)
  /-- R53. A capture request captures every masked timebase on one cycle, or is ignored with OVERRUN while busy. -/
  | snapCapture (init w : Nat)
  /-- R53. A capture completes and the snapshot words, VALID and TS_SNAP_SEQ update together. -/
  | snapComplete (dt : Nat)
  /-- R58. At a second boundary or comparator firing a PPS output emits, suppresses or squelches its pulse. -/
  | ppsPulse (dt n : Nat)
  /-- R56. A PPS pulse ends after WIDTH. -/
  | ppsPulseEnd (dt n : Nat)
  /-- R59. OFFSET after a second boundary crossed by running, the ToD frame of that second is sent. -/
  | todFrame (dt : Nat)
  /-- R61. At each second boundary crossed by running an IRIG-B frame begins, unless squelched or suppressed. -/
  | irigFrame (dt : Nat)
  /-- R146. A slot with no edge, estimate or solution for its interval loses activity and its frequency gate resets. -/
  | activityLoss (dt slot : Nat)
  /-- R146. The first valid edge, estimate or solution returns activity to a slot. -/
  | activityReturn (dt slot : Nat) (theta : Int)
  /-- R147. At each 100 ms tick every slot's FOFS is updated and its qualification judged. -/
  | frequencyMonitorUpdate (dt : Nat) (fofs : List Int) (ocxo : Int)
  /-- R149. A slot's wait-to-restore period ends and it becomes a candidate. -/
  | wtrExpiry (dt slot : Nat)
  /-- R161. Two equal-rank candidates disagreeing for 4 s are resolved against witnesses and flagged, excluded and reported. -/
  | disputeResolution (dt n a b : Nat)
  /-- R163. Two disputed slots agreeing for 30 s clear their flags and exclusions. -/
  | disputeClear (dt n a b : Nat)
  /-- R154. SWITCH_TIME after the last targeting the DPLL enters LOCKED on its target. -/
  | switchTimeElapsed (dt n : Nat)
  /-- R160. The settle window ends 2.0 s after the first qualification and DPLLs may select. -/
  | settleWindowEnd (dt : Nat)
  /-- R168. An open loop without a software frequency write for SW_TIMEOUT is closed. -/
  | swloopTimeout (dt n : Nat)
  /-- R169. The OCXO missing 3 periods clears WARM and holdover continues on the synthesis reference. -/
  | ocxoFail (dt : Nat)
  /-- R170. The OCXO warm-up time passes or ocxo_warm rises and WARM becomes 1. -/
  | ocxoWarm (dt : Nat)
  /-- R172. A DPLL's lock time crossing 60 s or 900 s changes its holdover quality state. -/
  | hoqChange (dt n : Nat)
  /-- R174. 24 h of cumulative TRAINED lock makes the ageing and temperature model valid. -/
  | modelValid (dt n : Nat)
  /-- R174. After each further 24 h of TRAINED lock Taproot writes the OCXO frequency record. -/
  | ocxoRecordWrite (dt n : Nat) (ofs age coef : Int)
  /-- R182. Writing TR_SLOTs_FEED_HI commits one offset estimate to a port-derived slot. -/
  | feedEstimate (init slot v : Nat)
  /-- R186. Writing SWF_HI commits a software frequency word to an open-loop DPLL. -/
  | swFreqWrite (init n v : Nat)
  /-- R200. Loss of the synthesis reference moves the core PLL, gates the APLLs, takes ports down and sends DPLLs to holdover. -/
  | xoLoss (dt : Nat)
  /-- R201. xo_in present for 100 ms moves the core PLL back and the APLLs, port dies and DPLLs recover. -/
  | xoReturn (dt : Nat)
  /-- R205. An APLL's VCO band search ends and the band is cached. -/
  | bandSearchEnd (dt a band : Nat)
  /-- R206. An APLL's phase error stays within LOCK_WINDOW for LOCK_N cycles and it is declared LOCKED. -/
  | apllLock (dt a : Nat)
  /-- R206. An APLL's phase error exceeds twice LOCK_WINDOW for 4 cycles, its outputs gate and a new lock begins. -/
  | apllLol (dt a : Nat)
  /-- R211. At the first GRAN boundary after lock the APLL's enabled outputs start aligned to the timebase. -/
  | outputRestart (dt a : Nat)
  /-- R213. GO with MODE 0 makes a commit of the APLL group pending for the next GRAN boundary. -/
  | apllCommitNext (init a : Nat)
  /-- R213. GO with MODE 1 makes a commit pending for the linear target in CTGT. -/
  | apllCommitTarget (init a : Nat)
  /-- R215. GO with MODE 2 cancels a pending commit at least 1 ms from activation. -/
  | apllCommitCancel (init a : Nat)
  /-- R214. At the activation instant the group's shadow is loaded, relocking or re-edging outputs, and SYN_COMMIT is raised. -/
  | apllCommitActivation (dt a : Nat)
  /-- R216. An APLL's stepped phase movement reaches its PHOFS destination and PH_BUSY clears. -/
  | phofsMoveDone (dt a : Nat)
  /-- R232. A GNSS sample clock out of tolerance or stopped for 10 µs clears CLK_OK and the input's channels lose lock. -/
  | sampleClockLoss (dt x : Nat)
  /-- R233. Every 1 ms the phase of the sample clock is measured against the solution timebase and CLK_SYNC judged. -/
  | clockPhaseMeasure (dt x : Nat) (phase : Int)
  /-- R237. At each measurement epoch one entry per tracked channel is written to the measurement FIFO. -/
  | measurementEpoch (dt : Nat) (ms : List Meas)
  /-- R238. Decoded navigation data are written to the navigation FIFO with their check result. -/
  | navDataDecoded (dt ch check nbits sec ns : Nat) (data : List Nat) (v : NavInfo)
  /-- R239. Once per second per antenna a timing solution is formed, checked for trust and delivered to its slot. -/
  | gnssSolution (dt ant : Nat) (v : Sol)
  /-- R245. Every check passing for TRUST_HOLD sets TRUSTED again. -/
  | trustHoldExpiry (dt ant : Nat)
  /-- R240. The survey ends, the mean position is held and GNSS_SURVEY is raised. -/
  | gnssSurvey (dt ant px py pz : Nat)
  /-- R242. Every 100 ms each input's spectrum is taken and JAM judged. -/
  | spectrumMonitor (dt x : Nat) (median : Int) (agc : Nat) (peaks : List (Int × Nat))
  /-- R243. An automatic notch whose peak stays below its release level for 1 s is released. -/
  | notchRelease (dt x k : Nat)
  /-- R247. While any channel tracks, the kept data are rewritten to Understory every 60 s. -/
  | keptDataRewrite (dt : Nat)
  /-- R249. A read of W0 of a GNSS FIFO pops its oldest entry and latches words 1-7. -/
  | gnssFifoPop (init : Nat) (nav : Bool)
  /-- R262. An edge on an event input is accepted and dated, or lost to dead time or a full buffer, and processed by the input's mode. -/
  | eventEdge (dt inp : Nat) (falling : Bool) (err : Int)
  /-- R263. A dated result waiting in an input's buffer is written to the shared FIFO when it has its cycle. -/
  | etResultWrite (dt : Nat)
  /-- R270. No stop pairing within TIMEOUT after a start writes a TIMEOUT result. -/
  | intervalTimeout (dt inp : Nat)
  /-- R269. A held stop unpaired for PAIR_WIN is discarded and counted in ORPHAN_CNT. -/
  | pairWindowExpiry (dt inp : Nat)
  /-- R271. At the end of each frequency gate one result with N and SPAN is written. -/
  | gateEnd (dt inp : Nat)
  /-- R272. A read of ET_FIFO_W0 pops the oldest entry and latches words 1-3. -/
  | etFifoPop (init : Nat)
  /-- R285. A training wave opens and admits every service lane of its lane index. -/
  | trainingWaveOpen (dt : Nat)
  /-- R282. A partner signal present for 100 µs in an open wave moves a lane from DETECT to TRAIN. -/
  | partnerSignal (dt l : Nat)
  /-- R282. Training or receiver adaptation completes and the lane enters LOCK, storing its equalisation. -/
  | trainingComplete (dt l taps pre eq : Nat)
  /-- R282. No lock within 2 ms of loading a cached equalisation discards the cache and trains in full. -/
  | cacheLockTimeout (dt l : Nat)
  /-- R282. TRAIN_TO elapses, TRAIN_FAILS increments and the lane returns to DETECT in electrical idle. -/
  | trainToExpiry (dt l : Nat)
  /-- R282. The 100 ms of electrical idle after a failed training ends. -/
  | failIdleEnd (dt l : Nat)
  /-- R282. CDR lock and alignment are reached, and the port's lanes enter CAPEX when all are in LOCK. -/
  | lockReached (dt l : Nat)
  /-- R282. Alignment not reached within 50 ms of LOCK returns the lane to DETECT. -/
  | lockTimeout (dt l : Nat)
  /-- R286. A valid CAPEX HELLO moves the port's lanes to ACTIVE, or updates cached capabilities in ACTIVE. -/
  | helloReceived (dt l magic version flags node port : Nat)
  /-- R282. No partner HELLO within 200 ms moves the lanes to ACTIVE with FOREIGN set. -/
  | capexTimeout (dt p : Nat)
  /-- R286. A CAPEX HELLO is sent every 10 ms in CAPEX until one is received, and every 1 s in ACTIVE. -/
  | helloSend (dt p : Nat)
  /-- R283. Loss of signal, CDR lock or 3 beacons in CAPEX or ACTIVE returns the port's lanes to DETECT. -/
  | laneLoss (dt l : Nat)
  /-- R284. CACHE_HOLD after a lane's loss its equalisation cache becomes invalid. -/
  | cacheHoldExpiry (dt l : Nat)
  /-- R287. A P1 lane with no frame queued for IDLE_DLY enters electrical idle. -/
  | idleEntry (dt p : Nat)
  /-- R287. An idle lane sends a 64 UI phase beacon at each whole millisecond. -/
  | phaseBeacon (dt l : Nat)
  /-- R288. A queued frame or a scheduler wake request takes a lane out of idle with a training burst. -/
  | idleExit (dt p : Nat)
  /-- R291. Every 100 ms a lane measures the partner's frequency offset into RM_OFS. -/
  | rateMatchMeasure (dt l : Nat) (ofs : Int)
  /-- R291. An elastic buffer overflow or underflow drops the frame in passage and raises LANE_RM. -/
  | elasticOverflow (dt l : Nat)
  /-- R295. A received SUB_REQ is answered with SUB_ACK and bridging, or SUB_NAK. -/
  | subReq (dt p pos : Nat)
  /-- R295. A received SUB_ACK lets the local device bridge the lane onto the spare. -/
  | subAck (dt g : Nat)
  /-- R295. A received SUB_NAK ends the substitution with CHECK_FAIL. -/
  | subNak (dt g : Nat)
  /-- R295. No SUB_ACK within 100 ms abandons the attempt with TIMEOUT. -/
  | subAckTimeout (dt g : Nat)
  /-- R295. Once the spare is locked and deskewed the receiver switches to it at a boundary and sends SUB_DONE. -/
  | spareSwitch (dt g : Nat)
  /-- R295. Having sent and received SUB_DONE, a device stops bridging and LANE_SUB is raised. -/
  | subDone (dt g : Nat)
  /-- R296. A release exchange reverses a substitution and returns the spare to DISABLED. -/
  | subRel (dt g : Nat)
  /-- R295. Step 5 not reached within TRAIN_TO + 300 ms abandons the substitution with TIMEOUT. -/
  | substitutionTimeout (dt g : Nat)
  /-- R300. Writing ONE injects a single error on the lane's transmitter. -/
  | injectOne (init l : Nat)
  /-- R316. A cause on an UP port enters HOLD, stops egress, flushes class 5-7 and suspends its sessions. -/
  | causeAppears (dt p : Nat)
  /-- R318. Every cause clearing returns the port to UP, dropping aged head frames and resending the rest. -/
  | causeClears (dt p : Nat)
  /-- R319. HOLD_TIME ends, held frames are flushed as HOLD_EXPIRED and the port enters DOWN. -/
  | holdTimeExpiry (dt p : Nat)
  /-- R313. An error count reaching its threshold within a 1 ms window makes the port degraded. -/
  | degradation (dt p corr sym unc blk : Nat)
  /-- R313. A 1 ms window ends and degradation clears after CLEAR_WIN clean windows. -/
  | degradationWindowEnd (dt : Nat)
  /-- R314. A change of mod_prs_n lasting 10 µs is a cause for every enabled port of the grove. -/
  | presenceChange (dt g : Nat) (low : Bool)
  /-- R411. A port down for REPLACE_DELAY makes Forester re-place the protected flows using it. -/
  | replaceDelayExpiry (dt p : Nat)
  /-- R412. A re-placement completes after its bank and table activations and FLOW_REPLACE is raised. -/
  | flowReplace (dt : Nat)
  /-- R322. A received PAUSE or PFC frame is consumed and stops the classes it names for its quanta. -/
  | pauseFrame (dt p : Nat) (pfc : Bool) (quanta : List (Nat × Nat))
  /-- R322. A received pause's quanta run out and the paused classes resume. -/
  | pauseQuantaExpiry (dt p : Nat)
  /-- R323. A 1 ms policer window ends and the per-port and total counts restart. -/
  | policerWindow (dt : Nat)
  /-- R332. A frame's header enters its ingress pipeline for parsing, classification, lookup, epoch tag and admission. -/
  | headerReceived (dt p ago rho : Nat) (bytes : List Byte)
  /-- R355. Each 256-byte cell of an arriving frame is charged to a source and placed in a bank, or the frame is dropped as NO_BUFFER. -/
  | cellArrival (dt p : Nat) (bytes : List Byte)
  /-- R333. A frame's last byte and FCS arrive, and it is committed, trapped or dropped with its cells returned. -/
  | frameEnd (dt p : Nat) (bytes : List Byte) (ctxEcc : Bool)
  /-- R340. A frame waiting in a trap queue is carried to the control cores. -/
  | trapDelivery (dt die : Nat)
  /-- R359. A bank arbiter grants a presented request by rank order, parking or turning around, and the cell is written or read. -/
  | bankAccess (dt k : Nat) (reqs : List Nat) (agent tally : Bool) (ecc p c : Nat)
  /-- R371. When the port is free the scheduler starts the head copy of the first eligible queue. -/
  | schedulerDecision (dt p rho : Nat) (corrupt : Bool)
  /-- R353. A copy's last byte leaves and the frame's cells return when its last copy has gone. -/
  | transmitEnd (dt p : Nat)
  /-- R347. At the activation microsecond the table images swap on each die and the state becomes DRAINING. -/
  | epochActivation (dt : Nat)
  /-- R349. The old epoch drains and the state becomes RESYNC. -/
  | epochDrained (dt : Nat)
  /-- R349. MAX_RES after activation remaining old-tag copies are dropped as EPOCH_DRAIN. -/
  | maxResExpiry (dt : Nat)
  /-- R349. Changed entries are copied into the old image, the state returns to IDLE and FWD_DRAIN is raised. -/
  | resyncEnd (dt : Nat)
  /-- R364. GO with OP 0 reads a table entry by index. -/
  | tblRead (init w : Nat)
  /-- R364. GO with OP 1 writes a table entry into the shadow. -/
  | tblWrite (init w : Nat)
  /-- R364. GO with OP 2 deletes a table entry by key in the shadow. -/
  | tblDelete (init w : Nat)
  /-- R364. GO with OP 3 finds a table entry by key. -/
  | tblFind (init w : Nat)
  /-- R373. A slot-table entry boundary is reached and the open classes change. -/
  | slotEdge (dt p : Nat)
  /-- R378. WAKE_LEAD before a WAKE entry the scheduler requests the port's lanes to wake. -/
  | wakeLead (dt p : Nat)
  /-- R383. At the activation instant the inactive bank becomes active, ORIGIN is set and SCHED_COMMIT is raised. -/
  | bankActivation (dt p : Nat)
  /-- R386. GO with OP 0 reads a slot-table entry. -/
  | slotEntryRead (init w : Nat)
  /-- R386. GO with OP 1 writes a slot-table entry of the inactive bank, an active-bank write being refused and logged. -/
  | slotEntryWrite (init w : Nat)
  /-- R373. Writing STOP stops a port's schedule, opening every class. -/
  | scheduleStop (init p w : Nat)
  /-- R453. GO with OP 0 reads a stream context. -/
  | ctxRead (init w : Nat)
  /-- R453. GO with OP 1 writes a stream context under the ownership and VALID rules. -/
  | ctxWrite (init w : Nat)
  /-- R113. A trapped Announce opens a session for a possible slave port within the admission limits, or updates the session. -/
  | announce (dt p dom peer cls acc var steps : Nat)
  /-- R113. A trapped Delay_Req or Pdelay_Req opens a session for a master or responder port, or is answered in its session. -/
  | delayReq (dt p dom peer seq : Nat) (pdelay : Bool) (ago rho port : Nat) (corr : Int)
  /-- R115. Sessions still suspended when SESSION_HOLD expires are closed. -/
  | sessionHoldExpiry (dt p dom : Nat)
  /-- R123. A completed two-way exchange gives an offset estimate and replaces the anchors or moves the session to HOLD. -/
  | twoWayExchange (dt p dom t1 t2 t3 t4 sq2 sq3 : Nat) (fine2 fine4 : Bool)
  /-- R111. At its interval firmware originates a Sync, Delay_Req, Pdelay_Req or Announce of a session. -/
  | ptpMessageSend (dt p dom kind flags : Nat)
  /-- R122. A received NPX CAP moves the session to ALIGN or LEGACY and looks up its link record. -/
  | capTlv (dt p dom org version flags node depth mode rate asymVer check : Nat)
  /-- R120. A received NPX PHASE gives the master's phase for tracking and may move the session to TRACK or HOLD. -/
  | phaseTlv (dt p dom org seq flags count : Nat) (last mean : Int) (sec ns : Nat)
  /-- R122. No CAP within 8 s of PROBE moves the session to PLAIN. -/
  | probeTimeout (dt p dom : Nat)
  /-- R122. No PHASE for 4 expected intervals moves a tracking session to HOLD. -/
  | phaseTimeout (dt p dom : Nat)
  /-- R121. A CAP TLV is sent at PROBE entry, every 1 s in PROBE and every 8 s otherwise. -/
  | capSend (dt p dom : Nat)
  /-- R121. A PHASE TLV is sent at 2^NPX_RATE_LOG per second. -/
  | phaseSend (dt p dom : Nat)
  /-- R103. At each whole millisecond a lane's FPM produces a reading and a tracking session updates its estimate. -/
  | fpmReading (dt l code : Nat)
  /-- R104. 16 ms after CDR lock the FPM delivers its first VALID reading. -/
  | fpmValid (dt l : Nat)
  /-- R424. No frame passing for RESET_TO resets a context's recovery state. -/
  | resetTimeout (dt n : Nat)
  /-- R426. Every LAT_PERIOD the latent error test runs and raises RED_LATENT on failure. -/
  | latentTest (dt n : Nat)
  /-- R426. Every LAT_RESET the passed and discarded counts restart. -/
  | latReset (dt n : Nat)
  /-- R431. Within 100 µs after each PAIR_TB tick a member sends the COMPARE frames of its items. -/
  | compareSend (dt : Nat)
  /-- R434. Received items are matched against own items, a difference raising PAIR_MISMATCH with DIFFER. -/
  | compareReceived (dt ms : Nat) (items : List (Nat × Nat × Nat)) (sec utc leap flags : Nat) (dly : Int) (digest : Nat)
  /-- R434. An own item unmatched for 4 ms is dropped, a partner item with no own counterpart being counted MISSING. -/
  | itemExpiry (dt : Nat)
  /-- R436. At each 1 ms tick of PAIR_TB a member evaluates Δ and its ToD fields, declaring a PPS or TOD mismatch. -/
  | timeCompare (dt : Nat)
  /-- R438. Holding both JUDGE frames of one cause, a member takes the verdict and applies FAULT_ACT. -/
  | judgeReceived (dt cause : Nat) (qualified : Bool) (ew : Int) (onset : Nat)
  /-- R431. No partner JUDGE within 4 ms gives the verdict UNDECIDED. -/
  | judgeTimeout (dt : Nat)
  /-- R431. A member sends ROLE every 10 ms and on any change of its state byte, re-sending an unanswered claim. -/
  | roleSend (dt : Nat)
  /-- R442. A received ROLE frame settles a claim by arbitration or answers a planned handover. -/
  | roleReceived (dt state request instant health : Nat) (alignErr : Int) (node : Nat)
  /-- R444. pair_role_in falling lets a non-holder take the role and drive from its next suitable edge. -/
  | roleInFall (dt : Nat)
  /-- R442. With the pair link down and PREF set, pair_role_in low for 100 ms lets the member take the role. -/
  | roleInLowTimeout (dt : Nat)
  /-- R442. Both members holding the role makes the lower-preference member release and set CONTEND. -/
  | roleContention (dt node : Nat)
  /-- R445. At the agreed PAIR_TB second boundary the holder stops and the standby drives. -/
  | plannedHandover (dt : Nat)
  /-- R431. No acceptance 1 ms before the instant leaves the role with the holder. -/
  | handoverAnswerTimeout (dt : Nat)
  /-- R443. |Δ| within 20 ps for 1 s sets ALIGN_OK. -/
  | alignOk (dt : Nat)
  /-- R447. A member ARMED for RECOVERY_TIME leaves recovery. -/
  | recoveryEnd (dt : Nat)
  /-- R448. Every 10 ms the self-test checks the role paths and publishes RD_HEALTH. -/
  | selfTest (dt : Nat) (band clkout pps serial compare : Bool)
  /-- R511. An integrity sweep pass ends and its result is compared with the reference or taken as the new one. -/
  | sweepPassEnd (dt : Nat)
  /-- R513. Writing 1 to CFG_LOCK_S or CFG_LOCK_N locks the RWL fields of that world. -/
  | cfgLockWrite (init which : Nat)
  /-- R509. Writing CLEAR empties the violation log and resets LOST. -/
  | violLogClear (init : Nat)
  /-- R526. A read of a counter's LO word latches its HI bits for the reading initiator. -/
  | counterLoRead (init off : Nat)
  /-- R78. A read of the LO half of a 64-bit status value latches its HI half. -/
  | latchedLoRead (init addr : Nat)
  /-- R553. A write to a programmable counter's configuration restarts it. -/
  | counterCfgWrite (init addr v : Nat)
  /-- R554. A write to a port's bandwidth meter configuration restarts its meters. -/
  | bwCfgWrite (init addr v : Nat)
  /-- R532. At the end of a 1 ms window a counter that advanced by LIMIT raises CNT_THRESH. -/
  | cntThresh (dt : Nat)
  /-- R533. A bandwidth window ends, its sum judged against ALARM. -/
  | bwWindowEnd (dt p : Nat)
  /-- R535. A bandwidth period ends and its minimum, maximum and total are published. -/
  | bwPeriodEnd (dt p : Nat)
  /-- R538. A waiting capture is read through the T port and its record written to the ring, or lost. -/
  | tallyDma (dt : Nat)
  /-- R542. Writing 1 to a set EV_STATUS bit clears it and re-signals a vector still pending. -/
  | evStatusClear (init k v : Nat)
  /-- R548. Writing EV_SWRAISE bit n raises EV(120 + n). -/
  | swevt (init v : Nat)
  /-- R547. A read of an event record window W0 pops the oldest record. -/
  | evrecPop (init : Nat) (nonSecure : Bool)
  /-- R597. A calibration target's measurement ends and its result is checked, applied and recorded. -/
  | calTargetDone (dt : Nat) (vs : List Int) (q : Nat)
  /-- R594. A calibration run completes or aborts and CAL_DONE is raised. -/
  | calRunEnd (dt : Nat)
  /-- R598. A tap or internal-delay result is applied at a whole millisecond with the phase and DIE_OFS compensation. -/
  | calApply (dt : Nat)
  /-- R593. Loss of cal_pps or cal_10m during a run aborts it and raises CAL_REF_LOSS. -/
  | calRefLoss (dt : Nat) (pps ten : Bool)
  /-- R608. GO with OP 0 reads a trim-store slot. -/
  | nvSlotRead (init slot : Nat)
  /-- R608. GO with OP 1 writes a trim-store slot. -/
  | nvSlotWrite (init slot : Nat)
  /-- R608. GO with OP 2 erases a trim-store slot. -/
  | nvSlotErase (init slot : Nat)
  /-- R613. pcie_perst_n, hot reset or a link change resets configuration space and MSI-X tables and releases the functions' semaphores. -/
  | pcieLink (dt gen width : Nat) (hot : Bool)
  /-- R613. A function-level reset resets one function, clears its bus mastering and releases its semaphores. -/
  | pcieFlr (dt f : Nat)
  /-- R614. The M0 link changes state and M0_LINK is raised. -/
  | m0Link (dt speed : Nat) (up : Bool)
  /-- R616. An access frame arriving at M0 is queued or dropped when 8 wait. -/
  | m0FrameArrival (dt : Nat) (bytes : List Byte)
  /-- R616. An M0 READ is applied word by word as its function and answered. -/
  | m0Read (dt : Nat)
  /-- R616. An M0 WRITE is applied word by word as its function and answered. -/
  | m0Write (dt : Nat)
  /-- R619. Reads ERR, PEC_ERR, FW_READY_N and irq_n, clearing the error bits. -/
  | i2cStatus
  /-- R619. Reads DEV_ID. -/
  | i2cDevId
  /-- R619. Reads NODE_ID. -/
  | i2cNodeId
  /-- R619. Reads MODE_STATE. -/
  | i2cModeState
  /-- R619. Reads PWR_STATE. -/
  | i2cPwrState
  /-- R619. Reads the three die temperatures. -/
  | i2cTemp
  /-- R619. Reads the line timebase time and flags. -/
  | i2cTime
  /-- R619. Reads EV_STATUS0-3 as a non-secure initiator sees them. -/
  | i2cEvents
  /-- R619. Writes words into the selected non-secure mailbox. -/
  | i2cMbWrite (off : Nat) (words : List Nat) (pec : Bool)
  /-- R619. Reads words of the selected non-secure mailbox. -/
  | i2cMbRead (off n : Nat)
  /-- R619. Acquires or releases a semaphore SEM32-SEM63 as owner 7. -/
  | i2cSemWrite (n cmd lease : Nat) (pec : Bool)
  /-- R619. Reads a semaphore register. -/
  | i2cSemRead (n : Nat)
  /-- R619. A command byte not in the table is NACKed. -/
  | i2cUnknownCommand (c : Nat)
  /-- R621. SCL low for 35 ms resets the target, discarding the transaction and releasing owner 7's semaphores. -/
  | i2cReset (dt : Nat)
  /-- R624. A received console byte enters the buffer or is dropped and UART_OVF raised. -/
  | uartByte (dt b : Nat)
  /-- R624. The console line status is answered. -/
  | uartStatus (dt : Nat)
  /-- R624. The console line temp is answered. -/
  | uartTemp (dt : Nat)
  /-- R624. The console line ver is answered. -/
  | uartVer (dt : Nat)
  /-- R624. The console line help is answered. -/
  | uartHelp (dt : Nat)
  /-- R624. Any other console line is answered with a question mark. -/
  | uartUnknownLine (dt : Nat)
  /-- R625. A TAP reset loads IDCODE into the instruction register. -/
  | tapReset
  /-- R625. The BYPASS instruction selects the bypass register. -/
  | jtagBypass (code bit : Nat)
  /-- R625. The IDCODE instruction presents the device identification. -/
  | jtagIdcode
  /-- R625. SAMPLE/PRELOAD samples or preloads the boundary-scan chain. -/
  | jtagSamplePreload (v : Nat)
  /-- R626. EXTEST takes the pins in MAINTENANCE, otherwise acting as BYPASS. -/
  | jtagExtest (v : Nat)
  /-- R626. CLAMP holds the pins in MAINTENANCE, otherwise acting as BYPASS. -/
  | jtagClamp (v : Nat)
  /-- R626. HIGHZ floats the pins in MAINTENANCE, otherwise acting as BYPASS. -/
  | jtagHighz (v : Nat)
  /-- R627. DBG_ACCESS with OP 1 reads an internal register as initiator 8 at Update-DR. -/
  | dbgRead (addr : Nat)
  /-- R627. DBG_ACCESS with OP 2 writes an internal register as initiator 8 at Update-DR. -/
  | dbgWrite (addr v : Nat)
  /-- R628. A signed answer to the unlock challenge is verified, setting DBG_UNLOCKED or counting a failure. -/
  | dbgUnlock (key sr ss : Nat)
  /-- R170. Activity returns on osc_in, the OCXO becomes ACTIVE and the warm-up timer restarts (or WARM rises at once with WARM_SRC 1 and ocxo_warm high). -/
  | ocxoActivityReturn (dt : Nat) (pin : Bool)
  /-- R170. With WARM_SRC 1, ocxo_warm falling clears WARM, so holdover leaves the OCXO and an OCXO-referenced event timer stops. -/
  | ocxoWarmPinFall (dt : Nat)
  /-- R232. A GNSS sample clock that returns within ±100 ppm of SRATE sets CLK_OK again so the input's channels can reacquire. -/
  | sampleClockReturn (dt x : Nat)
  /-- R236. A channel acquires a satellite signal at 32 dB-Hz or more within its Doppler search and begins tracking and measuring it. -/
  | signalAcquisition (dt x sig svid elev : Nat) (v : Signal)
  /-- R236. A channel whose C/N0 falls below 26 dB-Hz, or whose satellite drops below ELEV_MASK, stops tracking and frees the channel. -/
  | lossOfTracking (dt x sig : Nat) (v : Fading)
  /-- R580. A rail that returns within its monitor window clears its OUT bit and PWR_STATE.SUPPLY_WARN and rearms SUPPLY_WARN for that rail. -/
  | supplyReturn (dt rail : Nat)
  /-- R640. vdd_us falling below 1.55 V loses the Understory contents, the keeper, the retry counters and the retained SRAM, and the device is off. -/
  | vddUsLoss (dt : Nat)
  /-- R566. Every 1 s Shouf rewrites the time-and-frequency record in Understory with each timebase's time, FREQ and keeper count. -/
  | timeRecordSave (dt : Nat)
  /-- R283. The partner entering or leaving electrical idle sets or clears RX_IDLE, which changes how loss is declared on the lane. -/
  | partnerIdleChange (dt l : Nat) (idle : Bool)
  /-- R608. A trim-store write or erase started through NV_CTRL ends up to 20 ms later, clearing BUSY and setting ERR on failure. -/
  | nvOperationEnd (dt : Nat) (ok : Bool)
  /-- R611. A host write to a function's configuration space or MSI-X table sets Bus Master Enable or masks and unmasks vectors, an unmasked pending vector sending its message. -/
  | pcieConfigWrite (f vmask : Nat) (bme msixEn fmask : Bool)
  deriving DecidableEq, Repr

end Sys2Proof
end

