-- ==== Sys2Proof/Decode.lean ====
section
/-! DEFINITION. The table gives bits to none of its rows: a command reaches the block as a request, an
access or an event, never as an instruction word, so a word spells no command. -/

namespace Sys2Proof

/-- The command that a word spells by the table's bits: none, since no row gives bits. -/
def decodeTableWord (_nbits _w : Nat) : Option Instr := none

end Sys2Proof
end

