-- ==== Sys2Proof/Config.lean ====
section
/-! DEFINITION. What the spec leaves open: free values that nothing constrains, and the functions of
cryptography and physics that lie outside it. None of them has a body. -/

namespace Sys2Proof

/-- The free values: the k-th value that the spec leaves open, in the order in which a run meets
them. -/
opaque Config.freeValue : Nat → Nat

/-- The keeper's count at a clock of the synthesis reference: the keeper has its own oscillator. -/
opaque Config.keeperAt : Nat → Nat

/-- SHA-256 of some bytes, as a number. -/
opaque Config.sha256 : List Byte → Nat

/-- ECDSA P-256 verification: key, digest and signature. -/
opaque Config.ecdsaVerify : Nat → Nat → Nat → Bool

/-- One step of a DPLL's loop (R164): from its bandwidth in mHz, its damping factor, the phase error of the latest
phase-detector result in 2^-16 ns and its integral part, the correction of the frequency word in 2^-48 and the next
integral part. The spec gives bandwidth and damping, not the loop's arithmetic. -/
opaque Config.loopStep : Nat → Nat → Int → Int → Int × Int

/-- The ageing and temperature model that a DPLL's fit has reached at a clock (R174): the ageing in 2^-48 a day and the
temperature coefficient in 2^-48 a kelvin. -/
opaque Config.holdoverFit : Nat → Nat → Int × Int

/-- The device's clockIdentity in PTP messages: the spec gives no value. -/
opaque Config.clockIdentity : Nat

/-- The source address of a port's PTP messages over UDP, as a number of 128 bits: the spec gives no value. -/
opaque Config.portIp : Nat → Nat

/-- The PHOFS, in 0.5 ps, to which a standby steers a role-controlled APLL from Δ in 2^-16 ps and its present
PHOFS: the spec gives the goal of the steering and not its law (R443). -/
opaque Config.alignSteer : Int → Int → Int

/-- The check over Forester's committed model: the spec gives the CRC and not the bytes of the model
(R413). -/
opaque Config.modelDigest : List Nat → Nat

/-- The elevation in degrees at which a satellite is expected, and the Doppler in Hz predicted for it, from its kept
ephemeris or almanac: the satellite (`satKey`) and the keeper count, and for the elevation the position (R236, R248). -/
opaque Config.expectedElev : Nat → Nat → Nat × Nat × Nat → Int
opaque Config.predictedDoppler : Nat → Nat → Int

/-- The duration of one navigation data bit of a signal, in ns: the spec does not give it (R238, R251). -/
opaque Config.navBit : Nat → Nat

/-- The manufacture value of the GNSS receiver's internal delay in a band, in 0.01 ps (R597). -/
opaque Config.gnssNominal : Nat → Int

/-- The KiB by which the board's flash exceeds 16 MiB (R622). -/
opaque Config.flashExtra : Nat

/-- The flash's JEDEC identification bytes (R478). -/
opaque Config.jedec : Nat

/-- SHA-256 of the verifying key that the boot ROM holds under an index (R481). -/
opaque Config.romKey : Nat → Nat

/-- The two sections of a firmware payload, secure and non-secure, each as an offset and a length: the spec
gives no form of the section table (R480, R481). -/
opaque Config.sections : List Byte → Option ((Nat × Nat) × (Nat × Nat))

/-- The level of the pins `i2c_addr[2:0]` (R618). -/
opaque Config.i2cStrap : Nat

/-- The 256-bit challenges of the debug port, in the order in which they are presented (R628). -/
opaque Config.challenge : Nat → Nat

end Sys2Proof
end

