-- ==== Sys2Proof/Machine/Regs.lean ====
section
/-! DEFINITION. The register map: every register of the spec with its address, its fields, their
access types, reset values and ranges, as the register tables of spec/02 to spec/19 give them.
An internal register stands at its address in the secure direct window (spec/15, R515). -/

namespace Sys2Proof.Machine

/-- The access types of R6 (spec/00). -/
inductive Acc | ro | rw | rwl | rws | wo | w1c
  deriving DecidableEq, Repr

/-- A field of a register, or of a family of registers with up to two indices: where it stands, its
access type (R6), its reset value and the range a written value must lie in (R660). -/
structure Fld where
  addr : Nat
  s1 : Nat := 0
  s2 : Nat := 0
  hi : Nat
  lo : Nat
  acc : Acc
  reset : Nat → Nat → Nat := fun _ _ => 0
  signed : Bool := false
  min : Int := 0
  max : Option Int := none

/-- The number of bits of a field. -/
def Fld.width (f : Fld) : Nat := f.hi + 1 - f.lo

/-- The storage key of a field: the register's byte address and the field's lowest bit. -/
def Fld.key (f : Fld) (i j : Nat) : Nat := (f.addr + f.s1 * i + f.s2 * j) * 32 + f.lo

/-- A register, or a family of `n1 × n2` registers, with its fields from bit 31 down; bits no field
covers are reserved (R7). -/
structure Reg where
  addr : Nat
  n1 : Nat := 1
  s1 : Nat := 0
  n2 : Nat := 1
  s2 : Nat := 0
  fields : List Fld

/-! ### BAR0 -/

def R.TS_SNAP_CTRL_CAPTURE : Fld := { addr := 0x200000, hi := 31, lo := 31, acc := .wo }
def R.TS_SNAP_CTRL_OVERRUN : Fld := { addr := 0x200000, hi := 9, lo := 9, acc := .w1c }
def R.TS_SNAP_CTRL_BUSY : Fld := { addr := 0x200000, hi := 8, lo := 8, acc := .ro }
def R.TS_SNAP_CTRL_TB_MASK : Fld := { addr := 0x200000, hi := 7, lo := 0, acc := .rw, reset := fun _ _ => 255 }
/-- TS_SNAP_CTRL (R68, spec/02). -/
def R.TS_SNAP_CTRL : Reg := { addr := 0x200000, fields := [R.TS_SNAP_CTRL_CAPTURE, R.TS_SNAP_CTRL_OVERRUN, R.TS_SNAP_CTRL_BUSY, R.TS_SNAP_CTRL_TB_MASK] }

def R.TS_SNAP_SEQ_SEQ : Fld := { addr := 0x200004, hi := 31, lo := 0, acc := .ro }
/-- TS_SNAP_SEQ (R69, spec/02). -/
def R.TS_SNAP_SEQ : Reg := { addr := 0x200004, fields := [R.TS_SNAP_SEQ_SEQ] }

def R.TS_SNAP_TBn_W0_W : Fld := { addr := 0x200010, s1 := 0x10, hi := 31, lo := 0, acc := .ro }
/-- TS_SNAP_TBn_W0 (R70, spec/02). -/
def R.TS_SNAP_TBn_W0 : Reg := { addr := 0x200010, n1 := 8, s1 := 0x10, fields := [R.TS_SNAP_TBn_W0_W] }

def R.TS_SNAP_TBn_W1_W : Fld := { addr := 0x200014, s1 := 0x10, hi := 31, lo := 0, acc := .ro }
/-- TS_SNAP_TBn_W1 (R70, spec/02). -/
def R.TS_SNAP_TBn_W1 : Reg := { addr := 0x200014, n1 := 8, s1 := 0x10, fields := [R.TS_SNAP_TBn_W1_W] }

def R.TS_SNAP_TBn_W2_W : Fld := { addr := 0x200018, s1 := 0x10, hi := 31, lo := 0, acc := .ro }
/-- TS_SNAP_TBn_W2 (R70, spec/02). -/
def R.TS_SNAP_TBn_W2 : Reg := { addr := 0x200018, n1 := 8, s1 := 0x10, fields := [R.TS_SNAP_TBn_W2_W] }

def R.TS_SNAP_TBn_STAT_VALID : Fld := { addr := 0x20001c, s1 := 0x10, hi := 31, lo := 31, acc := .ro }
def R.TS_SNAP_TBn_STAT_TIME_VALID : Fld := { addr := 0x20001c, s1 := 0x10, hi := 30, lo := 30, acc := .ro }
def R.TS_SNAP_TBn_STAT_HOLDOVER : Fld := { addr := 0x20001c, s1 := 0x10, hi := 29, lo := 29, acc := .ro }
def R.TS_SNAP_TBn_STAT_SLEWING : Fld := { addr := 0x20001c, s1 := 0x10, hi := 28, lo := 28, acc := .ro }
def R.TS_SNAP_TBn_STAT_DEPTH_EXCEEDED : Fld := { addr := 0x20001c, s1 := 0x10, hi := 27, lo := 27, acc := .ro }
def R.TS_SNAP_TBn_STAT_TP_STATE : Fld := { addr := 0x20001c, s1 := 0x10, hi := 25, lo := 24, acc := .ro }
def R.TS_SNAP_TBn_STAT_TRIG_CMP : Fld := { addr := 0x20001c, s1 := 0x10, hi := 23, lo := 23, acc := .ro }
def R.TS_SNAP_TBn_STAT_CMP_NUM : Fld := { addr := 0x20001c, s1 := 0x10, hi := 20, lo := 16, acc := .ro }
def R.TS_SNAP_TBn_STAT_EST_ERR : Fld := { addr := 0x20001c, s1 := 0x10, hi := 15, lo := 0, acc := .ro }
/-- TS_SNAP_TBn_STAT (R71, spec/02). -/
def R.TS_SNAP_TBn_STAT : Reg := { addr := 0x20001c, n1 := 8, s1 := 0x10, fields := [R.TS_SNAP_TBn_STAT_VALID, R.TS_SNAP_TBn_STAT_TIME_VALID, R.TS_SNAP_TBn_STAT_HOLDOVER, R.TS_SNAP_TBn_STAT_SLEWING, R.TS_SNAP_TBn_STAT_DEPTH_EXCEEDED, R.TS_SNAP_TBn_STAT_TP_STATE, R.TS_SNAP_TBn_STAT_TRIG_CMP, R.TS_SNAP_TBn_STAT_CMP_NUM, R.TS_SNAP_TBn_STAT_EST_ERR] }

def R.HW_STATUS_SLEWING : Fld := { addr := 0x200100, hi := 31, lo := 24, acc := .ro }
def R.HW_STATUS_HOLDOVER : Fld := { addr := 0x200100, hi := 23, lo := 16, acc := .ro }
def R.HW_STATUS_EN : Fld := { addr := 0x200100, hi := 15, lo := 8, acc := .ro }
def R.HW_STATUS_TIME_VALID : Fld := { addr := 0x200100, hi := 7, lo := 0, acc := .ro }
/-- HW_STATUS (R72, spec/02). -/
def R.HW_STATUS : Reg := { addr := 0x200100, fields := [R.HW_STATUS_SLEWING, R.HW_STATUS_HOLDOVER, R.HW_STATUS_EN, R.HW_STATUS_TIME_VALID] }

def R.MB_n_REQ_W : Fld := { addr := 0x0, s1 := 0x1000, s2 := 0x4, hi := 31, lo := 0, acc := .rw }
/-- MB_n_REQ (R465, spec/14). -/
def R.MB_n_REQ : Reg := { addr := 0x0, n1 := 16, s1 := 0x1000, n2 := 64, s2 := 0x4, fields := [R.MB_n_REQ_W] }

def R.MB_n_RSP_W : Fld := { addr := 0x100, s1 := 0x1000, s2 := 0x4, hi := 31, lo := 0, acc := .ro }
/-- MB_n_RSP (R465, spec/14). -/
def R.MB_n_RSP : Reg := { addr := 0x100, n1 := 16, s1 := 0x1000, n2 := 64, s2 := 0x4, fields := [R.MB_n_RSP_W] }

def R.MB_n_DOOR_RING : Fld := { addr := 0x200, s1 := 0x1000, hi := 0, lo := 0, acc := .wo }
/-- MB_n_DOOR (R493, spec/14). -/
def R.MB_n_DOOR : Reg := { addr := 0x200, n1 := 16, s1 := 0x1000, fields := [R.MB_n_DOOR_RING] }

def R.MB_n_STATE_LEN : Fld := { addr := 0x204, s1 := 0x1000, hi := 21, lo := 16, acc := .ro }
def R.MB_n_STATE_REQ_WR_LOST : Fld := { addr := 0x204, s1 := 0x1000, hi := 4, lo := 4, acc := .w1c }
def R.MB_n_STATE_DOOR_LOST : Fld := { addr := 0x204, s1 := 0x1000, hi := 3, lo := 3, acc := .w1c }
def R.MB_n_STATE_PEND_NR : Fld := { addr := 0x204, s1 := 0x1000, hi := 2, lo := 2, acc := .ro }
def R.MB_n_STATE_STATE : Fld := { addr := 0x204, s1 := 0x1000, hi := 1, lo := 0, acc := .ro }
/-- MB_n_STATE (R494, spec/14). -/
def R.MB_n_STATE : Reg := { addr := 0x204, n1 := 16, s1 := 0x1000, fields := [R.MB_n_STATE_LEN, R.MB_n_STATE_REQ_WR_LOST, R.MB_n_STATE_DOOR_LOST, R.MB_n_STATE_PEND_NR, R.MB_n_STATE_STATE] }

def R.MB_n_SEQ_RSP_SEQ : Fld := { addr := 0x208, s1 := 0x1000, hi := 31, lo := 16, acc := .ro }
def R.MB_n_SEQ_REQ_SEQ : Fld := { addr := 0x208, s1 := 0x1000, hi := 15, lo := 0, acc := .ro }
/-- MB_n_SEQ (R495, spec/14). -/
def R.MB_n_SEQ : Reg := { addr := 0x208, n1 := 16, s1 := 0x1000, fields := [R.MB_n_SEQ_RSP_SEQ, R.MB_n_SEQ_REQ_SEQ] }

def R.MB_STATUS_LOCKSTEP_CNT : Fld := { addr := 0x10000, hi := 31, lo := 24, acc := .ro }
def R.MB_STATUS_RST_CNT_S : Fld := { addr := 0x10000, hi := 23, lo := 16, acc := .ro }
def R.MB_STATUS_RST_CNT_N : Fld := { addr := 0x10000, hi := 15, lo := 8, acc := .ro }
def R.MB_STATUS_C3_READY : Fld := { addr := 0x10000, hi := 3, lo := 3, acc := .ro }
def R.MB_STATUS_C2_READY : Fld := { addr := 0x10000, hi := 2, lo := 2, acc := .ro }
def R.MB_STATUS_FW_READY_N : Fld := { addr := 0x10000, hi := 1, lo := 1, acc := .ro }
def R.MB_STATUS_FW_READY : Fld := { addr := 0x10000, hi := 0, lo := 0, acc := .ro }
/-- MB_STATUS (R496, spec/14). -/
def R.MB_STATUS : Reg := { addr := 0x10000, fields := [R.MB_STATUS_LOCKSTEP_CNT, R.MB_STATUS_RST_CNT_S, R.MB_STATUS_RST_CNT_N, R.MB_STATUS_C3_READY, R.MB_STATUS_C2_READY, R.MB_STATUS_FW_READY_N, R.MB_STATUS_FW_READY] }

def R.SEMnn_HELD : Fld := { addr := 0x500000, s1 := 0x4, hi := 31, lo := 31, acc := .ro }
def R.SEMnn_MINE : Fld := { addr := 0x500000, s1 := 0x4, hi := 30, lo := 30, acc := .ro }
def R.SEMnn_BROKEN : Fld := { addr := 0x500000, s1 := 0x4, hi := 29, lo := 29, acc := .ro }
def R.SEMnn_LEASED : Fld := { addr := 0x500000, s1 := 0x4, hi := 28, lo := 28, acc := .ro }
def R.SEMnn_OWNER : Fld := { addr := 0x500000, s1 := 0x4, hi := 26, lo := 24, acc := .ro }
def R.SEMnn_LEASE : Fld := { addr := 0x500000, s1 := 0x4, hi := 19, lo := 10, acc := .ro }
def R.SEMnn_CMD : Fld := { addr := 0x500000, s1 := 0x4, hi := 1, lo := 0, acc := .wo }
/-- SEMnn (R499, spec/14). -/
def R.SEMnn : Reg := { addr := 0x500000, n1 := 64, s1 := 0x4, fields := [R.SEMnn_HELD, R.SEMnn_MINE, R.SEMnn_BROKEN, R.SEMnn_LEASED, R.SEMnn_OWNER, R.SEMnn_LEASE, R.SEMnn_CMD] }

def R.SEM_HELD_LO_HELD : Fld := { addr := 0x500100, hi := 31, lo := 0, acc := .ro }
/-- SEM_HELD_LO (R500, spec/14). -/
def R.SEM_HELD_LO : Reg := { addr := 0x500100, fields := [R.SEM_HELD_LO_HELD] }

def R.SEM_HELD_HI_HELD : Fld := { addr := 0x500104, hi := 31, lo := 0, acc := .ro }
/-- SEM_HELD_HI (R500, spec/14). -/
def R.SEM_HELD_HI : Reg := { addr := 0x500104, fields := [R.SEM_HELD_HI_HELD] }

def R.SEM_BROKEN_LO_BROKEN : Fld := { addr := 0x500108, hi := 31, lo := 0, acc := .ro }
/-- SEM_BROKEN_LO (R500, spec/14). -/
def R.SEM_BROKEN_LO : Reg := { addr := 0x500108, fields := [R.SEM_BROKEN_LO_BROKEN] }

def R.SEM_BROKEN_HI_BROKEN : Fld := { addr := 0x50010c, hi := 31, lo := 0, acc := .ro }
/-- SEM_BROKEN_HI (R500, spec/14). -/
def R.SEM_BROKEN_HI : Reg := { addr := 0x50010c, fields := [R.SEM_BROKEN_HI_BROKEN] }

def R.DEV_ID_DEV_ID : Fld := { addr := 0x700000, hi := 31, lo := 0, acc := .ro, reset := fun _ _ => 1264207894 }
/-- DEV_ID (R501, spec/14). -/
def R.DEV_ID : Reg := { addr := 0x700000, fields := [R.DEV_ID_DEV_ID] }

def R.DEV_REV_REV_T : Fld := { addr := 0x700004, hi := 31, lo := 24, acc := .ro }
def R.DEV_REV_REV_A : Fld := { addr := 0x700004, hi := 23, lo := 16, acc := .ro }
def R.DEV_REV_REV_B : Fld := { addr := 0x700004, hi := 15, lo := 8, acc := .ro }
def R.DEV_REV_PKG : Fld := { addr := 0x700004, hi := 7, lo := 0, acc := .ro, reset := fun _ _ => 1 }
/-- DEV_REV (R501, spec/14). -/
def R.DEV_REV : Reg := { addr := 0x700004, fields := [R.DEV_REV_REV_T, R.DEV_REV_REV_A, R.DEV_REV_REV_B, R.DEV_REV_PKG] }

def R.NODE_ID_UNSET : Fld := { addr := 0x700008, hi := 31, lo := 31, acc := .ro, reset := fun _ _ => 1 }
def R.NODE_ID_NODE_ID : Fld := { addr := 0x700008, hi := 19, lo := 0, acc := .ro }
/-- NODE_ID (R501, spec/14). -/
def R.NODE_ID : Reg := { addr := 0x700008, fields := [R.NODE_ID_UNSET, R.NODE_ID_NODE_ID] }

def R.FB_VIOL_STAT_CLEAR : Fld := { addr := 0x400000, hi := 31, lo := 31, acc := .wo }
def R.FB_VIOL_STAT_LOST : Fld := { addr := 0x400000, hi := 20, lo := 5, acc := .ro }
def R.FB_VIOL_STAT_COUNT : Fld := { addr := 0x400000, hi := 4, lo := 0, acc := .ro }
/-- FB_VIOL_STAT (R518, spec/15). -/
def R.FB_VIOL_STAT : Reg := { addr := 0x400000, fields := [R.FB_VIOL_STAT_CLEAR, R.FB_VIOL_STAT_LOST, R.FB_VIOL_STAT_COUNT] }

def R.FB_VIOLn_INFO_VALID : Fld := { addr := 0x480100, s1 := 0x20, hi := 31, lo := 31, acc := .ro }
def R.FB_VIOLn_INFO_KIND : Fld := { addr := 0x480100, s1 := 0x20, hi := 30, lo := 28, acc := .ro }
def R.FB_VIOLn_INFO_SPACE : Fld := { addr := 0x480100, s1 := 0x20, hi := 27, lo := 26, acc := .ro }
def R.FB_VIOLn_INFO_TARGET : Fld := { addr := 0x480100, s1 := 0x20, hi := 25, lo := 20, acc := .ro }
def R.FB_VIOLn_INFO_INIT : Fld := { addr := 0x480100, s1 := 0x20, hi := 19, lo := 16, acc := .ro }
def R.FB_VIOLn_INFO_I_WORLD : Fld := { addr := 0x480100, s1 := 0x20, hi := 15, lo := 15, acc := .ro }
def R.FB_VIOLn_INFO_T_WORLD : Fld := { addr := 0x480100, s1 := 0x20, hi := 14, lo := 14, acc := .ro }
def R.FB_VIOLn_INFO_ACC : Fld := { addr := 0x480100, s1 := 0x20, hi := 13, lo := 12, acc := .ro }
def R.FB_VIOLn_INFO_TIME_VALID : Fld := { addr := 0x480100, s1 := 0x20, hi := 11, lo := 11, acc := .ro }
/-- FB_VIOLn_INFO (R519, spec/15). The fields of the log entries are stored under keys of their own, beyond the map: three offsets of
entry 8 are those of CI_ registers. -/
def R.FB_VIOLn_INFO : Reg := { addr := 0x400100, n1 := 16, s1 := 0x20, fields := [R.FB_VIOLn_INFO_VALID, R.FB_VIOLn_INFO_KIND, R.FB_VIOLn_INFO_SPACE, R.FB_VIOLn_INFO_TARGET, R.FB_VIOLn_INFO_INIT, R.FB_VIOLn_INFO_I_WORLD, R.FB_VIOLn_INFO_T_WORLD, R.FB_VIOLn_INFO_ACC, R.FB_VIOLn_INFO_TIME_VALID] }

def R.FB_VIOLn_ADDR_ADDR : Fld := { addr := 0x480104, s1 := 0x20, hi := 31, lo := 0, acc := .ro }
/-- FB_VIOLn_ADDR (R519, spec/15). -/
def R.FB_VIOLn_ADDR : Reg := { addr := 0x400104, n1 := 16, s1 := 0x20, fields := [R.FB_VIOLn_ADDR_ADDR] }

def R.FB_VIOLn_T0_TIME : Fld := { addr := 0x480108, s1 := 0x20, hi := 31, lo := 0, acc := .ro }
/-- FB_VIOLn_T0 (R519, spec/15). -/
def R.FB_VIOLn_T0 : Reg := { addr := 0x400108, n1 := 16, s1 := 0x20, fields := [R.FB_VIOLn_T0_TIME] }

def R.FB_VIOLn_T1_TIME : Fld := { addr := 0x48010c, s1 := 0x20, hi := 31, lo := 0, acc := .ro }
/-- FB_VIOLn_T1 (R519, spec/15). -/
def R.FB_VIOLn_T1 : Reg := { addr := 0x40010c, n1 := 16, s1 := 0x20, fields := [R.FB_VIOLn_T1_TIME] }

def R.FB_VIOLn_T2_TIME : Fld := { addr := 0x480110, s1 := 0x20, hi := 31, lo := 0, acc := .ro }
/-- FB_VIOLn_T2 (R519, spec/15). -/
def R.FB_VIOLn_T2 : Reg := { addr := 0x400110, n1 := 16, s1 := 0x20, fields := [R.FB_VIOLn_T2_TIME] }

def R.CI_CRC_LIVE_CRC_LIVE : Fld := { addr := 0x400200, hi := 31, lo := 0, acc := .ro }
/-- CI_CRC_LIVE (R520, spec/15). -/
def R.CI_CRC_LIVE : Reg := { addr := 0x400200, fields := [R.CI_CRC_LIVE_CRC_LIVE] }

def R.CI_CRC_REF_CRC_REF : Fld := { addr := 0x400204, hi := 31, lo := 0, acc := .ro }
/-- CI_CRC_REF (R520, spec/15). -/
def R.CI_CRC_REF : Reg := { addr := 0x400204, fields := [R.CI_CRC_REF_CRC_REF] }

def R.CI_STAT_REF_VALID : Fld := { addr := 0x400208, hi := 31, lo := 31, acc := .ro }
def R.CI_STAT_DRIFT : Fld := { addr := 0x400208, hi := 30, lo := 30, acc := .ro }
def R.CI_STAT_PENDING : Fld := { addr := 0x400208, hi := 29, lo := 29, acc := .ro }
def R.CI_STAT_BLOCK : Fld := { addr := 0x400208, hi := 21, lo := 16, acc := .ro }
def R.CI_STAT_PASS_SEQ : Fld := { addr := 0x400208, hi := 15, lo := 0, acc := .ro }
/-- CI_STAT (R520, spec/15). -/
def R.CI_STAT : Reg := { addr := 0x400208, fields := [R.CI_STAT_REF_VALID, R.CI_STAT_DRIFT, R.CI_STAT_PENDING, R.CI_STAT_BLOCK, R.CI_STAT_PASS_SEQ] }

def R.CFG_LOCK_S_LOCK : Fld := { addr := 0x400300, hi := 0, lo := 0, acc := .rws }
/-- CFG_LOCK_S (R521, spec/15). -/
def R.CFG_LOCK_S : Reg := { addr := 0x400300, fields := [R.CFG_LOCK_S_LOCK] }

def R.CFG_LOCK_N_LOCK : Fld := { addr := 0x400304, hi := 0, lo := 0, acc := .rw }
/-- CFG_LOCK_N (R521, spec/15). -/
def R.CFG_LOCK_N : Reg := { addr := 0x400304, fields := [R.CFG_LOCK_N_LOCK] }

def R.EV_STATUSi_STATUS : Fld := { addr := 0x100000, s1 := 0x4, hi := 31, lo := 0, acc := .w1c }
/-- EV_STATUSi (R549, spec/16). -/
def R.EV_STATUSi : Reg := { addr := 0x100000, n1 := 4, s1 := 0x4, fields := [R.EV_STATUSi_STATUS] }

def R.EV_ENABLEi_ENABLE : Fld := { addr := 0x100010, s1 := 0x4, hi := 31, lo := 0, acc := .rw }
/-- EV_ENABLEi (R549, spec/16). -/
def R.EV_ENABLEi : Reg := { addr := 0x100010, n1 := 4, s1 := 0x4, fields := [R.EV_ENABLEi_ENABLE] }

def R.EV_REC_ENi_REC_EN : Fld := { addr := 0x100020, s1 := 0x4, hi := 31, lo := 0, acc := .rws, reset := fun i _ => if i = 0 then 0x0000FFFF else if i = 1 then 0xFFF7FFFF else 0xFFFFFFFF }
/-- EV_REC_ENi (R550, spec/16). -/
def R.EV_REC_ENi : Reg := { addr := 0x100020, n1 := 4, s1 := 0x4, fields := [R.EV_REC_ENi_REC_EN] }

def R.EV_SWRAISE_RAISE : Fld := { addr := 0x100030, hi := 7, lo := 0, acc := .wo }
/-- EV_SWRAISE (R550, spec/16). -/
def R.EV_SWRAISE : Reg := { addr := 0x100030, fields := [R.EV_SWRAISE_RAISE] }

def R.EV_REC_STAT_S_OVF : Fld := { addr := 0x100034, hi := 31, lo := 31, acc := .w1c }
def R.EV_REC_STAT_N_OVF : Fld := { addr := 0x100034, hi := 30, lo := 30, acc := .w1c }
def R.EV_REC_STAT_S_LEVEL : Fld := { addr := 0x100034, hi := 26, lo := 16, acc := .ro }
def R.EV_REC_STAT_N_LEVEL : Fld := { addr := 0x100034, hi := 8, lo := 0, acc := .ro }
/-- EV_REC_STAT (R550, spec/16). -/
def R.EV_REC_STAT : Reg := { addr := 0x100034, fields := [R.EV_REC_STAT_S_OVF, R.EV_REC_STAT_N_OVF, R.EV_REC_STAT_S_LEVEL, R.EV_REC_STAT_N_LEVEL] }

def R.EV_REC_S_Wk_W : Fld := { addr := 0x100040, s1 := 0x4, hi := 31, lo := 0, acc := .ro }
/-- EV_REC_S_Wk (R551, spec/16). -/
def R.EV_REC_S_Wk : Reg := { addr := 0x100040, n1 := 4, s1 := 0x4, fields := [R.EV_REC_S_Wk_W] }

def R.EV_REC_N_Wk_W : Fld := { addr := 0x100050, s1 := 0x4, hi := 31, lo := 0, acc := .ro }
/-- EV_REC_N_Wk (R551, spec/16). -/
def R.EV_REC_N_Wk : Reg := { addr := 0x100050, n1 := 4, s1 := 0x4, fields := [R.EV_REC_N_Wk_W] }

def R.EV_ROUTEi_PIN3 : Fld := { addr := 0x100100, s1 := 0x4, hi := 31, lo := 31, acc := .rws }
def R.EV_ROUTEi_PF1_3 : Fld := { addr := 0x100100, s1 := 0x4, hi := 30, lo := 30, acc := .rws }
def R.EV_ROUTEi_PF0_3 : Fld := { addr := 0x100100, s1 := 0x4, hi := 29, lo := 29, acc := .rws, reset := fun _ _ => 1 }
def R.EV_ROUTEi_VEC3 : Fld := { addr := 0x100100, s1 := 0x4, hi := 28, lo := 24, acc := .rws }
def R.EV_ROUTEi_PIN2 : Fld := { addr := 0x100100, s1 := 0x4, hi := 23, lo := 23, acc := .rws }
def R.EV_ROUTEi_PF1_2 : Fld := { addr := 0x100100, s1 := 0x4, hi := 22, lo := 22, acc := .rws }
def R.EV_ROUTEi_PF0_2 : Fld := { addr := 0x100100, s1 := 0x4, hi := 21, lo := 21, acc := .rws, reset := fun _ _ => 1 }
def R.EV_ROUTEi_VEC2 : Fld := { addr := 0x100100, s1 := 0x4, hi := 20, lo := 16, acc := .rws }
def R.EV_ROUTEi_PIN1 : Fld := { addr := 0x100100, s1 := 0x4, hi := 15, lo := 15, acc := .rws }
def R.EV_ROUTEi_PF1_1 : Fld := { addr := 0x100100, s1 := 0x4, hi := 14, lo := 14, acc := .rws }
def R.EV_ROUTEi_PF0_1 : Fld := { addr := 0x100100, s1 := 0x4, hi := 13, lo := 13, acc := .rws, reset := fun _ _ => 1 }
def R.EV_ROUTEi_VEC1 : Fld := { addr := 0x100100, s1 := 0x4, hi := 12, lo := 8, acc := .rws }
def R.EV_ROUTEi_PIN0 : Fld := { addr := 0x100100, s1 := 0x4, hi := 7, lo := 7, acc := .rws }
def R.EV_ROUTEi_PF1_0 : Fld := { addr := 0x100100, s1 := 0x4, hi := 6, lo := 6, acc := .rws }
def R.EV_ROUTEi_PF0_0 : Fld := { addr := 0x100100, s1 := 0x4, hi := 5, lo := 5, acc := .rws, reset := fun _ _ => 1 }
def R.EV_ROUTEi_VEC0 : Fld := { addr := 0x100100, s1 := 0x4, hi := 4, lo := 0, acc := .rws }
/-- EV_ROUTEi (R552, spec/16). -/
def R.EV_ROUTEi : Reg := { addr := 0x100100, n1 := 32, s1 := 0x4, fields := [R.EV_ROUTEi_PIN3, R.EV_ROUTEi_PF1_3, R.EV_ROUTEi_PF0_3, R.EV_ROUTEi_VEC3, R.EV_ROUTEi_PIN2, R.EV_ROUTEi_PF1_2, R.EV_ROUTEi_PF0_2, R.EV_ROUTEi_VEC2, R.EV_ROUTEi_PIN1, R.EV_ROUTEi_PF1_1, R.EV_ROUTEi_PF0_1, R.EV_ROUTEi_VEC1, R.EV_ROUTEi_PIN0, R.EV_ROUTEi_PF1_0, R.EV_ROUTEi_PF0_0, R.EV_ROUTEi_VEC0] }

def R.MODE_STATE_LAST_FAIL_STEP : Fld := { addr := 0x70000c, hi := 23, lo := 20, acc := .ro }
def R.MODE_STATE_COLD_FAILS : Fld := { addr := 0x70000c, hi := 19, lo := 18, acc := .ro }
def R.MODE_STATE_WARM_FAILS : Fld := { addr := 0x70000c, hi := 17, lo := 16, acc := .ro }
def R.MODE_STATE_ROM_ONLY : Fld := { addr := 0x70000c, hi := 11, lo := 11, acc := .ro }
def R.MODE_STATE_FAIL_ENTRY : Fld := { addr := 0x70000c, hi := 10, lo := 10, acc := .ro }
def R.MODE_STATE_START_DONE : Fld := { addr := 0x70000c, hi := 9, lo := 9, acc := .ro }
def R.MODE_STATE_START_KIND : Fld := { addr := 0x70000c, hi := 8, lo := 8, acc := .ro }
def R.MODE_STATE_STEP : Fld := { addr := 0x70000c, hi := 7, lo := 4, acc := .ro }
def R.MODE_STATE_START_RUN : Fld := { addr := 0x70000c, hi := 3, lo := 3, acc := .ro, reset := fun _ _ => 1 }
def R.MODE_STATE_MODE : Fld := { addr := 0x70000c, hi := 2, lo := 0, acc := .ro, reset := fun _ _ => 1 }
/-- MODE_STATE (R583, spec/17). -/
def R.MODE_STATE : Reg := { addr := 0x70000c, fields := [R.MODE_STATE_LAST_FAIL_STEP, R.MODE_STATE_COLD_FAILS, R.MODE_STATE_WARM_FAILS, R.MODE_STATE_ROM_ONLY, R.MODE_STATE_FAIL_ENTRY, R.MODE_STATE_START_DONE, R.MODE_STATE_START_KIND, R.MODE_STATE_STEP, R.MODE_STATE_START_RUN, R.MODE_STATE_MODE] }

def R.PWR_STATE_BUSY : Fld := { addr := 0x700010, hi := 31, lo := 31, acc := .ro }
def R.PWR_STATE_TEMP_MAX : Fld := { addr := 0x700010, hi := 15, lo := 8, acc := .ro, signed := true }
def R.PWR_STATE_TEMP_CRIT : Fld := { addr := 0x700010, hi := 7, lo := 7, acc := .ro }
def R.PWR_STATE_TEMP_WARN : Fld := { addr := 0x700010, hi := 6, lo := 6, acc := .ro }
def R.PWR_STATE_SUPPLY_WARN : Fld := { addr := 0x700010, hi := 5, lo := 5, acc := .ro }
/-- PWR_STATE (R584, spec/17). -/
def R.PWR_STATE : Reg := { addr := 0x700010, fields := [R.PWR_STATE_BUSY, R.PWR_STATE_TEMP_MAX, R.PWR_STATE_TEMP_CRIT, R.PWR_STATE_TEMP_WARN, R.PWR_STATE_SUPPLY_WARN] }

/-- The registers of BAR0. -/
def regsBAR0 : List Reg :=
  [R.TS_SNAP_CTRL, R.TS_SNAP_SEQ, R.TS_SNAP_TBn_W0, R.TS_SNAP_TBn_W1, R.TS_SNAP_TBn_W2,
   R.TS_SNAP_TBn_STAT, R.HW_STATUS, R.MB_n_REQ, R.MB_n_RSP, R.MB_n_DOOR, R.MB_n_STATE, R.MB_n_SEQ,
   R.MB_STATUS, R.SEMnn, R.SEM_HELD_LO, R.SEM_HELD_HI, R.SEM_BROKEN_LO, R.SEM_BROKEN_HI, R.DEV_ID,
   R.DEV_REV, R.NODE_ID, R.FB_VIOL_STAT, R.FB_VIOLn_INFO, R.FB_VIOLn_ADDR, R.FB_VIOLn_T0,
   R.FB_VIOLn_T1, R.FB_VIOLn_T2, R.CI_CRC_LIVE, R.CI_CRC_REF, R.CI_STAT, R.CFG_LOCK_S,
   R.CFG_LOCK_N, R.EV_STATUSi, R.EV_ENABLEi, R.EV_REC_ENi, R.EV_SWRAISE, R.EV_REC_STAT,
   R.EV_REC_S_Wk, R.EV_REC_N_Wk, R.EV_ROUTEi, R.MODE_STATE, R.PWR_STATE]

/-! ### HW -/

def R.HW_TBn_CTRL_STEP_ALLOW : Fld := { addr := 0x610100, s1 := 0x40, hi := 2, lo := 2, acc := .rwl }
def R.HW_TBn_CTRL_SRC : Fld := { addr := 0x610100, s1 := 0x40, hi := 1, lo := 1, acc := .rwl }
def R.HW_TBn_CTRL_EN : Fld := { addr := 0x610100, s1 := 0x40, hi := 0, lo := 0, acc := .rwl }
/-- HW_TBn_CTRL (R73, spec/02). -/
def R.HW_TBn_CTRL : Reg := { addr := 0x610100, n1 := 8, s1 := 0x40, fields := [R.HW_TBn_CTRL_STEP_ALLOW, R.HW_TBn_CTRL_SRC, R.HW_TBn_CTRL_EN] }

def R.HW_TBn_FREQ_LO_FREQ : Fld := { addr := 0x610104, s1 := 0x40, hi := 31, lo := 0, acc := .rwl, signed := true }
/-- HW_TBn_FREQ_LO (R74, spec/02). -/
def R.HW_TBn_FREQ_LO : Reg := { addr := 0x610104, n1 := 8, s1 := 0x40, fields := [R.HW_TBn_FREQ_LO_FREQ] }

def R.HW_TBn_FREQ_HI_FREQ : Fld := { addr := 0x610108, s1 := 0x40, hi := 7, lo := 0, acc := .rwl, signed := true }
/-- HW_TBn_FREQ_HI (R74, spec/02). -/
def R.HW_TBn_FREQ_HI : Reg := { addr := 0x610108, n1 := 8, s1 := 0x40, fields := [R.HW_TBn_FREQ_HI_FREQ] }

def R.HW_TBn_SLEW_SLEW_MAX : Fld := { addr := 0x61010c, s1 := 0x40, hi := 19, lo := 0, acc := .rwl, reset := fun _ _ => 100, min := 1, max := some 10000 }
/-- HW_TBn_SLEW (R75, spec/02). -/
def R.HW_TBn_SLEW : Reg := { addr := 0x61010c, n1 := 8, s1 := 0x40, fields := [R.HW_TBn_SLEW_SLEW_MAX] }

def R.HW_TBn_STEP_THR_STEP_THRESHOLD : Fld := { addr := 0x610110, s1 := 0x40, hi := 29, lo := 0, acc := .rwl, reset := fun _ _ => 500, min := 10, max := some 1000000000 }
/-- HW_TBn_STEP_THR (R75, spec/02). -/
def R.HW_TBn_STEP_THR : Reg := { addr := 0x610110, n1 := 8, s1 := 0x40, fields := [R.HW_TBn_STEP_THR_STEP_THRESHOLD] }

def R.HW_TBn_HO_LIMIT_HOLDOVER_LIMIT : Fld := { addr := 0x610114, s1 := 0x40, hi := 29, lo := 0, acc := .rwl, reset := fun _ _ => 1000, min := 10, max := some 1000000000 }
/-- HW_TBn_HO_LIMIT (R75, spec/02). -/
def R.HW_TBn_HO_LIMIT : Reg := { addr := 0x610114, n1 := 8, s1 := 0x40, fields := [R.HW_TBn_HO_LIMIT_HOLDOVER_LIMIT] }

def R.HW_TBn_UTC_UTC_OFS : Fld := { addr := 0x610118, s1 := 0x40, hi := 15, lo := 0, acc := .rwl, signed := true }
/-- HW_TBn_UTC (R76, spec/02). -/
def R.HW_TBn_UTC : Reg := { addr := 0x610118, n1 := 8, s1 := 0x40, fields := [R.HW_TBn_UTC_UTC_OFS] }

def R.HW_TBn_LEAPk_A_SEC : Fld := { addr := 0x610120, s1 := 0x40, s2 := 0x8, hi := 31, lo := 0, acc := .rwl }
/-- HW_TBn_LEAPk_A (R76, spec/02). -/
def R.HW_TBn_LEAPk_A : Reg := { addr := 0x610120, n1 := 8, s1 := 0x40, n2 := 4, s2 := 0x8, fields := [R.HW_TBn_LEAPk_A_SEC] }

def R.HW_TBn_LEAPk_B_NEW_OFS : Fld := { addr := 0x610124, s1 := 0x40, s2 := 0x8, hi := 31, lo := 16, acc := .rwl, signed := true }
def R.HW_TBn_LEAPk_B_SEC : Fld := { addr := 0x610124, s1 := 0x40, s2 := 0x8, hi := 15, lo := 0, acc := .rwl }
/-- HW_TBn_LEAPk_B (R76, spec/02). -/
def R.HW_TBn_LEAPk_B : Reg := { addr := 0x610124, n1 := 8, s1 := 0x40, n2 := 4, s2 := 0x8, fields := [R.HW_TBn_LEAPk_B_NEW_OFS, R.HW_TBn_LEAPk_B_SEC] }

def R.HW_PAIRk_CFG_SWITCH : Fld := { addr := 0x610000, s1 := 0x4, hi := 16, lo := 16, acc := .wo }
def R.HW_PAIRk_CFG_ACTIVE : Fld := { addr := 0x610000, s1 := 0x4, hi := 11, lo := 11, acc := .ro }
def R.HW_PAIRk_CFG_CONVERGE : Fld := { addr := 0x610000, s1 := 0x4, hi := 10, lo := 10, acc := .rwl, reset := fun _ _ => 1 }
def R.HW_PAIRk_CFG_AUTO : Fld := { addr := 0x610000, s1 := 0x4, hi := 9, lo := 9, acc := .rwl }
def R.HW_PAIRk_CFG_EN : Fld := { addr := 0x610000, s1 := 0x4, hi := 8, lo := 8, acc := .rwl }
def R.HW_PAIRk_CFG_SHADOW : Fld := { addr := 0x610000, s1 := 0x4, hi := 6, lo := 4, acc := .rwl, reset := fun _ _ => 1 }
def R.HW_PAIRk_CFG_PRIMARY : Fld := { addr := 0x610000, s1 := 0x4, hi := 2, lo := 0, acc := .rwl }
/-- HW_PAIRk_CFG (R77, spec/02). -/
def R.HW_PAIRk_CFG : Reg := { addr := 0x610000, n1 := 4, s1 := 0x4, fields := [R.HW_PAIRk_CFG_SWITCH, R.HW_PAIRk_CFG_ACTIVE, R.HW_PAIRk_CFG_CONVERGE, R.HW_PAIRk_CFG_AUTO, R.HW_PAIRk_CFG_EN, R.HW_PAIRk_CFG_SHADOW, R.HW_PAIRk_CFG_PRIMARY] }

def R.HW_PAIRk_OFS_LO_OFS : Fld := { addr := 0x610020, s1 := 0x8, hi := 31, lo := 0, acc := .ro }
/-- HW_PAIRk_OFS_LO (R78, spec/02). -/
def R.HW_PAIRk_OFS_LO : Reg := { addr := 0x610020, n1 := 4, s1 := 0x8, fields := [R.HW_PAIRk_OFS_LO_OFS] }

def R.HW_PAIRk_OFS_HI_OFS : Fld := { addr := 0x610024, s1 := 0x8, hi := 31, lo := 0, acc := .ro }
/-- HW_PAIRk_OFS_HI (R78, spec/02). -/
def R.HW_PAIRk_OFS_HI : Reg := { addr := 0x610024, n1 := 4, s1 := 0x8, fields := [R.HW_PAIRk_OFS_HI_OFS] }

def R.HW_CMPm_CTRL_STEPPED : Fld := { addr := 0x610400, s1 := 0x10, hi := 16, lo := 16, acc := .w1c }
def R.HW_CMPm_CTRL_SKIPPED : Fld := { addr := 0x610400, s1 := 0x10, hi := 15, lo := 8, acc := .w1c }
def R.HW_CMPm_CTRL_ACT_SNAP : Fld := { addr := 0x610400, s1 := 0x10, hi := 7, lo := 7, acc := .rwl }
def R.HW_CMPm_CTRL_ACT_EVENT : Fld := { addr := 0x610400, s1 := 0x10, hi := 6, lo := 6, acc := .rwl }
def R.HW_CMPm_CTRL_PERIODIC : Fld := { addr := 0x610400, s1 := 0x10, hi := 4, lo := 4, acc := .rwl }
def R.HW_CMPm_CTRL_ARM : Fld := { addr := 0x610400, s1 := 0x10, hi := 3, lo := 3, acc := .rwl }
def R.HW_CMPm_CTRL_TB : Fld := { addr := 0x610400, s1 := 0x10, hi := 2, lo := 0, acc := .rwl }
/-- HW_CMPm_CTRL (R79, spec/02). -/
def R.HW_CMPm_CTRL : Reg := { addr := 0x610400, n1 := 32, s1 := 0x10, fields := [R.HW_CMPm_CTRL_STEPPED, R.HW_CMPm_CTRL_SKIPPED, R.HW_CMPm_CTRL_ACT_SNAP, R.HW_CMPm_CTRL_ACT_EVENT, R.HW_CMPm_CTRL_PERIODIC, R.HW_CMPm_CTRL_ARM, R.HW_CMPm_CTRL_TB] }

def R.HW_CMPm_TGT_LO_TGT : Fld := { addr := 0x610404, s1 := 0x10, hi := 31, lo := 0, acc := .rwl }
/-- HW_CMPm_TGT_LO (R79, spec/02). -/
def R.HW_CMPm_TGT_LO : Reg := { addr := 0x610404, n1 := 32, s1 := 0x10, fields := [R.HW_CMPm_TGT_LO_TGT] }

def R.HW_CMPm_TGT_HI_TGT : Fld := { addr := 0x610408, s1 := 0x10, hi := 31, lo := 0, acc := .rwl }
/-- HW_CMPm_TGT_HI (R79, spec/02). -/
def R.HW_CMPm_TGT_HI : Reg := { addr := 0x610408, n1 := 32, s1 := 0x10, fields := [R.HW_CMPm_TGT_HI_TGT] }

def R.HW_CMPm_PER_PERIOD : Fld := { addr := 0x61040c, s1 := 0x10, hi := 29, lo := 0, acc := .rwl, reset := fun _ _ => 1, min := 1, max := some 1000000000 }
/-- HW_CMPm_PER (R79, spec/02). -/
def R.HW_CMPm_PER : Reg := { addr := 0x61040c, n1 := 32, s1 := 0x10, fields := [R.HW_CMPm_PER_PERIOD] }

def R.HW_PPSn_CFG_HO_ACT : Fld := { addr := 0x610600, s1 := 0x10, hi := 12, lo := 12, acc := .rwl }
def R.HW_PPSn_CFG_PPS_FREE : Fld := { addr := 0x610600, s1 := 0x10, hi := 11, lo := 11, acc := .rwl }
def R.HW_PPSn_CFG_POL : Fld := { addr := 0x610600, s1 := 0x10, hi := 10, lo := 10, acc := .rwl }
def R.HW_PPSn_CFG_CMP_NUM : Fld := { addr := 0x610600, s1 := 0x10, hi := 9, lo := 5, acc := .rwl }
def R.HW_PPSn_CFG_TB : Fld := { addr := 0x610600, s1 := 0x10, hi := 4, lo := 2, acc := .rwl }
def R.HW_PPSn_CFG_MODE : Fld := { addr := 0x610600, s1 := 0x10, hi := 1, lo := 0, acc := .rwl, max := some 2 }
/-- HW_PPSn_CFG (R80, spec/02). -/
def R.HW_PPSn_CFG : Reg := { addr := 0x610600, n1 := 4, s1 := 0x10, fields := [R.HW_PPSn_CFG_HO_ACT, R.HW_PPSn_CFG_PPS_FREE, R.HW_PPSn_CFG_POL, R.HW_PPSn_CFG_CMP_NUM, R.HW_PPSn_CFG_TB, R.HW_PPSn_CFG_MODE] }

def R.HW_PPSn_WIDTH_WIDTH : Fld := { addr := 0x610604, s1 := 0x10, hi := 18, lo := 0, acc := .rwl, reset := fun _ _ => 100000, min := 1, max := some 500000 }
/-- HW_PPSn_WIDTH (R80, spec/02). -/
def R.HW_PPSn_WIDTH : Reg := { addr := 0x610604, n1 := 4, s1 := 0x10, fields := [R.HW_PPSn_WIDTH_WIDTH] }

def R.HW_PPSn_DLY_DLY : Fld := { addr := 0x610608, s1 := 0x10, hi := 17, lo := 0, acc := .rwl, signed := true, min := -100000, max := some 100000 }
/-- HW_PPSn_DLY (R80, spec/02). -/
def R.HW_PPSn_DLY : Reg := { addr := 0x610608, n1 := 4, s1 := 0x10, fields := [R.HW_PPSn_DLY_DLY] }

def R.HW_TOD_CFG_OFFSET : Fld := { addr := 0x610700, hi := 25, lo := 16, acc := .rwl, reset := fun _ _ => 100, min := 1, max := some 900 }
def R.HW_TOD_CFG_BAUD : Fld := { addr := 0x610700, hi := 6, lo := 4, acc := .rwl, reset := fun _ _ => 4 }
def R.HW_TOD_CFG_PPS_SEL : Fld := { addr := 0x610700, hi := 2, lo := 1, acc := .rwl }
def R.HW_TOD_CFG_EN : Fld := { addr := 0x610700, hi := 0, lo := 0, acc := .rwl }
/-- HW_TOD_CFG (R81, spec/02). -/
def R.HW_TOD_CFG : Reg := { addr := 0x610700, fields := [R.HW_TOD_CFG_OFFSET, R.HW_TOD_CFG_BAUD, R.HW_TOD_CFG_PPS_SEL, R.HW_TOD_CFG_EN] }

def R.HW_IRIG_CFG_FREE : Fld := { addr := 0x610704, hi := 9, lo := 9, acc := .rwl }
def R.HW_IRIG_CFG_HO_ACT : Fld := { addr := 0x610704, hi := 8, lo := 8, acc := .rwl }
def R.HW_IRIG_CFG_TB : Fld := { addr := 0x610704, hi := 6, lo := 4, acc := .rwl }
def R.HW_IRIG_CFG_SCALE : Fld := { addr := 0x610704, hi := 2, lo := 2, acc := .rwl }
def R.HW_IRIG_CFG_CODE : Fld := { addr := 0x610704, hi := 1, lo := 1, acc := .rwl }
def R.HW_IRIG_CFG_EN : Fld := { addr := 0x610704, hi := 0, lo := 0, acc := .rwl }
/-- HW_IRIG_CFG (R81, spec/02). -/
def R.HW_IRIG_CFG : Reg := { addr := 0x610704, fields := [R.HW_IRIG_CFG_FREE, R.HW_IRIG_CFG_HO_ACT, R.HW_IRIG_CFG_TB, R.HW_IRIG_CFG_SCALE, R.HW_IRIG_CFG_CODE, R.HW_IRIG_CFG_EN] }

def R.HW_DOMMAPj_MAP : Fld := { addr := 0x610800, s1 := 0x4, hi := 31, lo := 0, acc := .rwl, reset := fun i _ => if i = 0 then 8 else 0 }
/-- HW_DOMMAPj (R82, spec/02). -/
def R.HW_DOMMAPj : Reg := { addr := 0x610800, n1 := 32, s1 := 0x4, fields := [R.HW_DOMMAPj_MAP] }

/-- The registers of HW. -/
def regsHW : List Reg :=
  [R.HW_TBn_CTRL, R.HW_TBn_FREQ_LO, R.HW_TBn_FREQ_HI, R.HW_TBn_SLEW, R.HW_TBn_STEP_THR,
   R.HW_TBn_HO_LIMIT, R.HW_TBn_UTC, R.HW_TBn_LEAPk_A, R.HW_TBn_LEAPk_B, R.HW_PAIRk_CFG,
   R.HW_PAIRk_OFS_LO, R.HW_PAIRk_OFS_HI, R.HW_CMPm_CTRL, R.HW_CMPm_TGT_LO, R.HW_CMPm_TGT_HI,
   R.HW_CMPm_PER, R.HW_PPSn_CFG, R.HW_PPSn_WIDTH, R.HW_PPSn_DLY, R.HW_TOD_CFG, R.HW_IRIG_CFG,
   R.HW_DOMMAPj]

/-! ### PT -/

def R.PT_RES_CFG_RES_LIMIT : Fld := { addr := 0x608000, hi := 13, lo := 0, acc := .rwl, reset := fun _ _ => 1000, min := 10, max := some 10000 }
/-- PT_RES_CFG (R131, spec/03). -/
def R.PT_RES_CFG : Reg := { addr := 0x608000, fields := [R.PT_RES_CFG_RES_LIMIT] }

def R.PT_DIE_OFS_DIE_OFS : Fld := { addr := 0x608004, hi := 31, lo := 0, acc := .rwl, signed := true }
/-- PT_DIE_OFS (R132, spec/03). -/
def R.PT_DIE_OFS : Reg := { addr := 0x608004, fields := [R.PT_DIE_OFS_DIE_OFS] }

def R.PT_NPX_CFG_NPX_RATE_LOG : Fld := { addr := 0x608014, hi := 27, lo := 25, acc := .rwl, reset := fun _ _ => 5 }
def R.PT_NPX_CFG_NPX_EN : Fld := { addr := 0x608014, hi := 24, lo := 24, acc := .rwl }
def R.PT_NPX_CFG_NPX_ORG_ID : Fld := { addr := 0x608014, hi := 23, lo := 0, acc := .rwl }
/-- PT_NPX_CFG (R661, spec/03). -/
def R.PT_NPX_CFG : Reg := { addr := 0x608014, fields := [R.PT_NPX_CFG_NPX_RATE_LOG, R.PT_NPX_CFG_NPX_EN, R.PT_NPX_CFG_NPX_ORG_ID] }

def R.PT_TSCFGp_FU_CORR : Fld := { addr := 0x608400, s1 := 0x40, hi := 5, lo := 5, acc := .rwl, reset := fun _ _ => 1 }
def R.PT_TSCFGp_LINKDLY_APPLY : Fld := { addr := 0x608400, s1 := 0x40, hi := 4, lo := 4, acc := .rwl }
def R.PT_TSCFGp_ASYM_APPLY : Fld := { addr := 0x608400, s1 := 0x40, hi := 3, lo := 3, acc := .rwl }
def R.PT_TSCFGp_EN_CORR : Fld := { addr := 0x608400, s1 := 0x40, hi := 2, lo := 2, acc := .rwl }
def R.PT_TSCFGp_EN_ORIG : Fld := { addr := 0x608400, s1 := 0x40, hi := 1, lo := 1, acc := .rwl, reset := fun _ _ => 1 }
def R.PT_TSCFGp_EN_TS : Fld := { addr := 0x608400, s1 := 0x40, hi := 0, lo := 0, acc := .rwl, reset := fun _ _ => 1 }
/-- PT_TSCFGp (R133, spec/03). -/
def R.PT_TSCFGp : Reg := { addr := 0x608400, n1 := 48, s1 := 0x40, fields := [R.PT_TSCFGp_FU_CORR, R.PT_TSCFGp_LINKDLY_APPLY, R.PT_TSCFGp_ASYM_APPLY, R.PT_TSCFGp_EN_CORR, R.PT_TSCFGp_EN_ORIG, R.PT_TSCFGp_EN_TS] }

def R.PT_KTXp_K_TX : Fld := { addr := 0x608404, s1 := 0x40, hi := 31, lo := 0, acc := .rwl }
/-- PT_KTXp (R134, spec/03). -/
def R.PT_KTXp : Reg := { addr := 0x608404, n1 := 48, s1 := 0x40, fields := [R.PT_KTXp_K_TX] }

def R.PT_KRXp_K_RX : Fld := { addr := 0x608408, s1 := 0x40, hi := 31, lo := 0, acc := .rwl }
/-- PT_KRXp (R134, spec/03). -/
def R.PT_KRXp : Reg := { addr := 0x608408, n1 := 48, s1 := 0x40, fields := [R.PT_KRXp_K_RX] }

def R.PT_ASYMp_ASYM : Fld := { addr := 0x60840c, s1 := 0x40, hi := 31, lo := 0, acc := .rwl, signed := true }
/-- PT_ASYMp (R135, spec/03). -/
def R.PT_ASYMp : Reg := { addr := 0x60840c, n1 := 48, s1 := 0x40, fields := [R.PT_ASYMp_ASYM] }

def R.PT_LINKDLYp_LINKDLY : Fld := { addr := 0x608410, s1 := 0x40, hi := 31, lo := 0, acc := .rwl }
/-- PT_LINKDLYp (R135, spec/03). -/
def R.PT_LINKDLYp : Reg := { addr := 0x608410, n1 := 48, s1 := 0x40, fields := [R.PT_LINKDLYp_LINKDLY] }

def R.PT_TSSTATp_ASYM_MISMATCH : Fld := { addr := 0x608414, s1 := 0x40, hi := 16, lo := 16, acc := .ro }
def R.PT_TSSTATp_LINK_UNCAL : Fld := { addr := 0x608414, s1 := 0x40, hi := 15, lo := 15, acc := .ro }
def R.PT_TSSTATp_DELAY_UNCAL : Fld := { addr := 0x608414, s1 := 0x40, hi := 14, lo := 14, acc := .ro }
def R.PT_TSSTATp_FINE_OK : Fld := { addr := 0x608414, s1 := 0x40, hi := 13, lo := 13, acc := .ro }
def R.PT_TSSTATp_NPX_STATE : Fld := { addr := 0x608414, s1 := 0x40, hi := 12, lo := 10, acc := .ro }
def R.PT_TSSTATp_SESSIONS : Fld := { addr := 0x608414, s1 := 0x40, hi := 8, lo := 0, acc := .ro }
/-- PT_TSSTATp (R136, spec/03). -/
def R.PT_TSSTATp : Reg := { addr := 0x608414, n1 := 48, s1 := 0x40, fields := [R.PT_TSSTATp_ASYM_MISMATCH, R.PT_TSSTATp_LINK_UNCAL, R.PT_TSSTATp_DELAY_UNCAL, R.PT_TSSTATp_FINE_OK, R.PT_TSSTATp_NPX_STATE, R.PT_TSSTATp_SESSIONS] }

def R.PT_POLICE_CFG_TOTAL_LIM : Fld := { addr := 0x608008, hi := 29, lo := 16, acc := .rwl, reset := fun _ _ => 4096, min := 64, max := some 8192 }
def R.PT_POLICE_CFG_PORT_LIM : Fld := { addr := 0x608008, hi := 8, lo := 0, acc := .rwl, reset := fun _ _ => 32, min := 1, max := some 256 }
/-- PT_POLICE_CFG (R325, spec/09). -/
def R.PT_POLICE_CFG : Reg := { addr := 0x608008, fields := [R.PT_POLICE_CFG_TOTAL_LIM, R.PT_POLICE_CFG_PORT_LIM] }

def R.PT_MAC_BASE_LO_MAC_BASE : Fld := { addr := 0x60800c, hi := 31, lo := 0, acc := .rwl }
/-- PT_MAC_BASE_LO (R325, spec/09). -/
def R.PT_MAC_BASE_LO : Reg := { addr := 0x60800c, fields := [R.PT_MAC_BASE_LO_MAC_BASE] }

def R.PT_MAC_BASE_HI_MAC_BASE : Fld := { addr := 0x608010, hi := 15, lo := 0, acc := .rwl }
/-- PT_MAC_BASE_HI (R325, spec/09). -/
def R.PT_MAC_BASE_HI : Reg := { addr := 0x608010, fields := [R.PT_MAC_BASE_HI_MAC_BASE] }

def R.PT_CFGp_MAX_FRAME : Fld := { addr := 0x60a000, s1 := 0x40, hi := 31, lo := 18, acc := .rwl, reset := fun _ _ => 1522, min := 1518, max := some 9216 }
def R.PT_CFGp_MODE : Fld := { addr := 0x60a000, s1 := 0x40, hi := 7, lo := 4, acc := .rwl, max := some 9 }
def R.PT_CFGp_AN_EN : Fld := { addr := 0x60a000, s1 := 0x40, hi := 2, lo := 2, acc := .rwl, reset := fun _ _ => 1 }
def R.PT_CFGp_EN : Fld := { addr := 0x60a000, s1 := 0x40, hi := 0, lo := 0, acc := .rwl }
/-- PT_CFGp (R326, spec/09). -/
def R.PT_CFGp : Reg := { addr := 0x60a000, n1 := 48, s1 := 0x40, fields := [R.PT_CFGp_MAX_FRAME, R.PT_CFGp_MODE, R.PT_CFGp_AN_EN, R.PT_CFGp_EN] }

def R.PT_HOLDp_HOLD_TIME : Fld := { addr := 0x60a004, s1 := 0x40, hi := 31, lo := 16, acc := .rwl, reset := fun _ _ => 500, max := some 10000 }
def R.PT_HOLDp_AGE_LIMIT : Fld := { addr := 0x60a004, s1 := 0x40, hi := 15, lo := 0, acc := .rwl, reset := fun _ _ => 200, min := 10, max := some 10000 }
/-- PT_HOLDp (R326, spec/09). -/
def R.PT_HOLDp : Reg := { addr := 0x60a004, n1 := 48, s1 := 0x40, fields := [R.PT_HOLDp_HOLD_TIME, R.PT_HOLDp_AGE_LIMIT] }

def R.PT_DEGp_UNCORR_THR : Fld := { addr := 0x60a008, s1 := 0x40, hi := 31, lo := 16, acc := .rwl, reset := fun _ _ => 4, min := 1, max := some 65535 }
def R.PT_DEGp_BLK_THR : Fld := { addr := 0x60a008, s1 := 0x40, hi := 15, lo := 0, acc := .rwl, reset := fun _ _ => 16, min := 1, max := some 65535 }
/-- PT_DEGp (R327, spec/09). -/
def R.PT_DEGp : Reg := { addr := 0x60a008, n1 := 48, s1 := 0x40, fields := [R.PT_DEGp_UNCORR_THR, R.PT_DEGp_BLK_THR] }

def R.PT_DEG2p_CLEAR_WIN : Fld := { addr := 0x60a00c, s1 := 0x40, hi := 31, lo := 28, acc := .rwl, reset := fun _ _ => 4, min := 1, max := some 15 }
def R.PT_DEG2p_SYM_THR : Fld := { addr := 0x60a00c, s1 := 0x40, hi := 19, lo := 0, acc := .rwl, reset := fun _ _ => 65536, min := 1, max := some 1048575 }
/-- PT_DEG2p (R327, spec/09). -/
def R.PT_DEG2p : Reg := { addr := 0x60a00c, n1 := 48, s1 := 0x40, fields := [R.PT_DEG2p_CLEAR_WIN, R.PT_DEG2p_SYM_THR] }

def R.PT_FCp_PFC_EN : Fld := { addr := 0x60a010, s1 := 0x40, hi := 28, lo := 24, acc := .rwl }
def R.PT_FCp_PAUSE_RX : Fld := { addr := 0x60a010, s1 := 0x40, hi := 23, lo := 23, acc := .rwl }
def R.PT_FCp_PAUSE_TX : Fld := { addr := 0x60a010, s1 := 0x40, hi := 22, lo := 22, acc := .rwl }
def R.PT_FCp_XOFF : Fld := { addr := 0x60a010, s1 := 0x40, hi := 15, lo := 8, acc := .rwl, reset := fun _ _ => 192 }
def R.PT_FCp_XON : Fld := { addr := 0x60a010, s1 := 0x40, hi := 7, lo := 0, acc := .rwl, reset := fun _ _ => 128 }
/-- PT_FCp (R328, spec/09). -/
def R.PT_FCp : Reg := { addr := 0x60a010, n1 := 48, s1 := 0x40, fields := [R.PT_FCp_PFC_EN, R.PT_FCp_PAUSE_RX, R.PT_FCp_PAUSE_TX, R.PT_FCp_XOFF, R.PT_FCp_XON] }

def R.PT_STATp_STATE : Fld := { addr := 0x60a014, s1 := 0x40, hi := 31, lo := 29, acc := .ro }
def R.PT_STATp_DOWN : Fld := { addr := 0x60a014, s1 := 0x40, hi := 28, lo := 28, acc := .ro }
def R.PT_STATp_C_LOSS : Fld := { addr := 0x60a014, s1 := 0x40, hi := 27, lo := 27, acc := .ro }
def R.PT_STATp_C_DEG : Fld := { addr := 0x60a014, s1 := 0x40, hi := 26, lo := 26, acc := .ro }
def R.PT_STATp_C_PRS : Fld := { addr := 0x60a014, s1 := 0x40, hi := 25, lo := 25, acc := .ro }
def R.PT_STATp_C_TEST : Fld := { addr := 0x60a014, s1 := 0x40, hi := 24, lo := 24, acc := .ro }
def R.PT_STATp_TX_PAUSED : Fld := { addr := 0x60a014, s1 := 0x40, hi := 23, lo := 23, acc := .ro }
def R.PT_STATp_HOLD_REMAIN : Fld := { addr := 0x60a014, s1 := 0x40, hi := 15, lo := 0, acc := .ro }
/-- PT_STATp (R329, spec/09). -/
def R.PT_STATp : Reg := { addr := 0x60a014, n1 := 48, s1 := 0x40, fields := [R.PT_STATp_STATE, R.PT_STATp_DOWN, R.PT_STATp_C_LOSS, R.PT_STATp_C_DEG, R.PT_STATp_C_PRS, R.PT_STATp_C_TEST, R.PT_STATp_TX_PAUSED, R.PT_STATp_HOLD_REMAIN] }

def R.PT_MODg_LPMODE : Fld := { addr := 0x60b000, s1 := 0x4, hi := 2, lo := 2, acc := .rwl }
def R.PT_MODg_RST : Fld := { addr := 0x60b000, s1 := 0x4, hi := 1, lo := 1, acc := .rwl, reset := fun _ _ => 1 }
def R.PT_MODg_PRS : Fld := { addr := 0x60b000, s1 := 0x4, hi := 0, lo := 0, acc := .ro }
/-- PT_MODg (R330, spec/09). -/
def R.PT_MODg : Reg := { addr := 0x60b000, n1 := 12, s1 := 0x4, fields := [R.PT_MODg_LPMODE, R.PT_MODg_RST, R.PT_MODg_PRS] }

/-- The registers of PT. -/
def regsPT : List Reg :=
  [R.PT_RES_CFG, R.PT_DIE_OFS, R.PT_NPX_CFG, R.PT_TSCFGp, R.PT_KTXp, R.PT_KRXp, R.PT_ASYMp,
   R.PT_LINKDLYp, R.PT_TSSTATp, R.PT_POLICE_CFG, R.PT_MAC_BASE_LO, R.PT_MAC_BASE_HI, R.PT_CFGp,
   R.PT_HOLDp, R.PT_DEGp, R.PT_DEG2p, R.PT_FCp, R.PT_STATp, R.PT_MODg]

/-! ### LN -/

def R.LN_FPMl_STAT_VALID : Fld := { addr := 0x600300, s1 := 0x10, hi := 31, lo := 31, acc := .ro }
def R.LN_FPMl_STAT_LOCKED : Fld := { addr := 0x600300, s1 := 0x10, hi := 30, lo := 30, acc := .ro }
def R.LN_FPMl_STAT_SEQ : Fld := { addr := 0x600300, s1 := 0x10, hi := 27, lo := 20, acc := .ro }
def R.LN_FPMl_STAT_PHASE : Fld := { addr := 0x600300, s1 := 0x10, hi := 11, lo := 0, acc := .ro }
/-- LN_FPMl_STAT (R137, spec/03). -/
def R.LN_FPMl_STAT : Reg := { addr := 0x600300, n1 := 60, s1 := 0x10, fields := [R.LN_FPMl_STAT_VALID, R.LN_FPMl_STAT_LOCKED, R.LN_FPMl_STAT_SEQ, R.LN_FPMl_STAT_PHASE] }

def R.LN_FPMl_UNW_LO_UNW : Fld := { addr := 0x600304, s1 := 0x10, hi := 31, lo := 0, acc := .ro }
/-- LN_FPMl_UNW_LO (R138, spec/03). -/
def R.LN_FPMl_UNW_LO : Reg := { addr := 0x600304, n1 := 60, s1 := 0x10, fields := [R.LN_FPMl_UNW_LO_UNW] }

def R.LN_FPMl_UNW_HI_UNW : Fld := { addr := 0x600308, s1 := 0x10, hi := 31, lo := 0, acc := .ro }
/-- LN_FPMl_UNW_HI (R138, spec/03). -/
def R.LN_FPMl_UNW_HI : Reg := { addr := 0x600308, n1 := 60, s1 := 0x10, fields := [R.LN_FPMl_UNW_HI_UNW] }

def R.LN_GLOBAL_CFG_TRAIN_TO : Fld := { addr := 0x600000, hi := 31, lo := 22, acc := .rwl, reset := fun _ _ => 50, min := 1, max := some 1000 }
def R.LN_GLOBAL_CFG_CACHE_HOLD : Fld := { addr := 0x600000, hi := 19, lo := 8, acc := .rwl, reset := fun _ _ => 100, max := some 4000 }
def R.LN_GLOBAL_CFG_CAPEX_EN : Fld := { addr := 0x600000, hi := 0, lo := 0, acc := .rwl, reset := fun _ _ => 1 }
/-- LN_GLOBAL_CFG (R301, spec/08). -/
def R.LN_GLOBAL_CFG : Reg := { addr := 0x600000, fields := [R.LN_GLOBAL_CFG_TRAIN_TO, R.LN_GLOBAL_CFG_CACHE_HOLD, R.LN_GLOBAL_CFG_CAPEX_EN] }

def R.LN_GLOBAL_STAT_WAVE : Fld := { addr := 0x600004, hi := 2, lo := 0, acc := .ro }
/-- LN_GLOBAL_STAT (R301, spec/08). -/
def R.LN_GLOBAL_STAT : Reg := { addr := 0x600004, fields := [R.LN_GLOBAL_STAT_WAVE] }

def R.LN_GRVg_CFG_SUB_ACCEPT : Fld := { addr := 0x600100, s1 := 0x10, hi := 1, lo := 1, acc := .rwl, reset := fun _ _ => 1 }
def R.LN_GRVg_CFG_SPARE_WIRED : Fld := { addr := 0x600100, s1 := 0x10, hi := 0, lo := 0, acc := .rwl }
/-- LN_GRVg_CFG (R302, spec/08). -/
def R.LN_GRVg_CFG : Reg := { addr := 0x600100, n1 := 12, s1 := 0x10, fields := [R.LN_GRVg_CFG_SUB_ACCEPT, R.LN_GRVg_CFG_SPARE_WIRED] }

def R.LN_GRVg_STAT_SUB_STATE : Fld := { addr := 0x600104, s1 := 0x10, hi := 6, lo := 4, acc := .ro }
def R.LN_GRVg_STAT_SUB_IDX : Fld := { addr := 0x600104, s1 := 0x10, hi := 3, lo := 2, acc := .ro }
def R.LN_GRVg_STAT_PARTNER_SPARE : Fld := { addr := 0x600104, s1 := 0x10, hi := 0, lo := 0, acc := .ro }
/-- LN_GRVg_STAT (R302, spec/08). -/
def R.LN_GRVg_STAT : Reg := { addr := 0x600104, n1 := 12, s1 := 0x10, fields := [R.LN_GRVg_STAT_SUB_STATE, R.LN_GRVg_STAT_SUB_IDX, R.LN_GRVg_STAT_PARTNER_SPARE] }

def R.LN_Ll_CFG_IDLE_DLY : Fld := { addr := 0x601000, s1 := 0x40, hi := 31, lo := 20, acc := .rwl, reset := fun _ _ => 10, min := 1, max := some 4000 }
def R.LN_Ll_CFG_PRECODE_RX : Fld := { addr := 0x601000, s1 := 0x40, hi := 15, lo := 15, acc := .rwl }
def R.LN_Ll_CFG_PRECODE_TX : Fld := { addr := 0x601000, s1 := 0x40, hi := 14, lo := 14, acc := .rwl }
def R.LN_Ll_CFG_POL_RX : Fld := { addr := 0x601000, s1 := 0x40, hi := 12, lo := 12, acc := .rwl }
def R.LN_Ll_CFG_POL_TX : Fld := { addr := 0x601000, s1 := 0x40, hi := 11, lo := 11, acc := .rwl }
def R.LN_Ll_CFG_TRAIN_EN : Fld := { addr := 0x601000, s1 := 0x40, hi := 10, lo := 10, acc := .rwl, reset := fun _ _ => 1 }
def R.LN_Ll_CFG_RATE : Fld := { addr := 0x601000, s1 := 0x40, hi := 7, lo := 4, acc := .ro }
def R.LN_Ll_CFG_EN : Fld := { addr := 0x601000, s1 := 0x40, hi := 0, lo := 0, acc := .ro }
/-- LN_Ll_CFG (R303, spec/08). -/
def R.LN_Ll_CFG : Reg := { addr := 0x601000, n1 := 60, s1 := 0x40, fields := [R.LN_Ll_CFG_IDLE_DLY, R.LN_Ll_CFG_PRECODE_RX, R.LN_Ll_CFG_PRECODE_TX, R.LN_Ll_CFG_POL_RX, R.LN_Ll_CFG_POL_TX, R.LN_Ll_CFG_TRAIN_EN, R.LN_Ll_CFG_RATE, R.LN_Ll_CFG_EN] }

def R.LN_Ll_TXEQ_PRE : Fld := { addr := 0x601010, s1 := 0x40, hi := 17, lo := 12, acc := .rwl, max := some 15 }
def R.LN_Ll_TXEQ_MAIN : Fld := { addr := 0x601010, s1 := 0x40, hi := 11, lo := 6, acc := .rwl, reset := fun _ _ => 48, min := 16, max := some 63 }
def R.LN_Ll_TXEQ_POST : Fld := { addr := 0x601010, s1 := 0x40, hi := 5, lo := 0, acc := .rwl, max := some 31 }
/-- LN_Ll_TXEQ (R303, spec/08). -/
def R.LN_Ll_TXEQ : Reg := { addr := 0x601010, n1 := 60, s1 := 0x40, fields := [R.LN_Ll_TXEQ_PRE, R.LN_Ll_TXEQ_MAIN, R.LN_Ll_TXEQ_POST] }

def R.LN_Ll_STAT_STATE : Fld := { addr := 0x601004, s1 := 0x40, hi := 31, lo := 29, acc := .ro }
def R.LN_Ll_STAT_IDLE : Fld := { addr := 0x601004, s1 := 0x40, hi := 28, lo := 28, acc := .ro }
def R.LN_Ll_STAT_RX_IDLE : Fld := { addr := 0x601004, s1 := 0x40, hi := 27, lo := 27, acc := .ro }
def R.LN_Ll_STAT_SIG_DET : Fld := { addr := 0x601004, s1 := 0x40, hi := 26, lo := 26, acc := .ro }
def R.LN_Ll_STAT_CDR_LOCK : Fld := { addr := 0x601004, s1 := 0x40, hi := 25, lo := 25, acc := .ro }
def R.LN_Ll_STAT_ALIGNED : Fld := { addr := 0x601004, s1 := 0x40, hi := 24, lo := 24, acc := .ro }
def R.LN_Ll_STAT_EQ_CACHED : Fld := { addr := 0x601004, s1 := 0x40, hi := 23, lo := 23, acc := .ro }
def R.LN_Ll_STAT_FOREIGN : Fld := { addr := 0x601004, s1 := 0x40, hi := 22, lo := 22, acc := .ro }
def R.LN_Ll_STAT_IDLE_CAP : Fld := { addr := 0x601004, s1 := 0x40, hi := 21, lo := 21, acc := .ro }
def R.LN_Ll_STAT_WAVE_WAIT : Fld := { addr := 0x601004, s1 := 0x40, hi := 20, lo := 20, acc := .ro }
def R.LN_Ll_STAT_PRECODE_TX_ACT : Fld := { addr := 0x601004, s1 := 0x40, hi := 19, lo := 19, acc := .ro }
def R.LN_Ll_STAT_PRECODE_RX_ACT : Fld := { addr := 0x601004, s1 := 0x40, hi := 18, lo := 18, acc := .ro }
/-- LN_Ll_STAT (R304, spec/08). -/
def R.LN_Ll_STAT : Reg := { addr := 0x601004, n1 := 60, s1 := 0x40, fields := [R.LN_Ll_STAT_STATE, R.LN_Ll_STAT_IDLE, R.LN_Ll_STAT_RX_IDLE, R.LN_Ll_STAT_SIG_DET, R.LN_Ll_STAT_CDR_LOCK, R.LN_Ll_STAT_ALIGNED, R.LN_Ll_STAT_EQ_CACHED, R.LN_Ll_STAT_FOREIGN, R.LN_Ll_STAT_IDLE_CAP, R.LN_Ll_STAT_WAVE_WAIT, R.LN_Ll_STAT_PRECODE_TX_ACT, R.LN_Ll_STAT_PRECODE_RX_ACT] }

def R.LN_Ll_RM_RM_OFS : Fld := { addr := 0x601008, s1 := 0x40, hi := 31, lo := 0, acc := .ro, signed := true }
/-- LN_Ll_RM (R304, spec/08). -/
def R.LN_Ll_RM : Reg := { addr := 0x601008, n1 := 60, s1 := 0x40, fields := [R.LN_Ll_RM_RM_OFS] }

def R.LN_Ll_RETRY_TRAIN_FAILS : Fld := { addr := 0x60100c, s1 := 0x40, hi := 31, lo := 16, acc := .ro }
def R.LN_Ll_RETRY_LOS_CNT : Fld := { addr := 0x60100c, s1 := 0x40, hi := 15, lo := 0, acc := .ro }
/-- LN_Ll_RETRY (R304, spec/08). -/
def R.LN_Ll_RETRY : Reg := { addr := 0x60100c, n1 := 60, s1 := 0x40, fields := [R.LN_Ll_RETRY_TRAIN_FAILS, R.LN_Ll_RETRY_LOS_CNT] }

def R.LN_Ll_TEST_GEN_PAT : Fld := { addr := 0x601014, s1 := 0x40, hi := 31, lo := 28, acc := .rwl, max := some 11 }
def R.LN_Ll_TEST_CHK_PAT : Fld := { addr := 0x601014, s1 := 0x40, hi := 27, lo := 24, acc := .rwl, max := some 11 }
def R.LN_Ll_TEST_LOOP : Fld := { addr := 0x601014, s1 := 0x40, hi := 23, lo := 22, acc := .rwl }
def R.LN_Ll_TEST_SQUELCH : Fld := { addr := 0x601014, s1 := 0x40, hi := 21, lo := 21, acc := .rwl }
/-- LN_Ll_TEST (R305, spec/08). -/
def R.LN_Ll_TEST : Reg := { addr := 0x601014, n1 := 60, s1 := 0x40, fields := [R.LN_Ll_TEST_GEN_PAT, R.LN_Ll_TEST_CHK_PAT, R.LN_Ll_TEST_LOOP, R.LN_Ll_TEST_SQUELCH] }

def R.LN_Ll_USER_LO_USER : Fld := { addr := 0x601018, s1 := 0x40, hi := 31, lo := 0, acc := .rwl }
/-- LN_Ll_USER_LO (R305, spec/08). -/
def R.LN_Ll_USER_LO : Reg := { addr := 0x601018, n1 := 60, s1 := 0x40, fields := [R.LN_Ll_USER_LO_USER] }

def R.LN_Ll_USER_HI_USER : Fld := { addr := 0x60101c, s1 := 0x40, hi := 31, lo := 0, acc := .rwl }
/-- LN_Ll_USER_HI (R305, spec/08). -/
def R.LN_Ll_USER_HI : Reg := { addr := 0x60101c, n1 := 60, s1 := 0x40, fields := [R.LN_Ll_USER_HI_USER] }

def R.LN_Ll_INJ_ONE : Fld := { addr := 0x601020, s1 := 0x40, hi := 31, lo := 31, acc := .wo }
def R.LN_Ll_INJ_INJ_MODE : Fld := { addr := 0x601020, s1 := 0x40, hi := 30, lo := 28, acc := .rwl, max := some 3 }
def R.LN_Ll_INJ_RATE_LOG : Fld := { addr := 0x601020, s1 := 0x40, hi := 27, lo := 22, acc := .rwl, reset := fun _ _ => 20, min := 4, max := some 40 }
def R.LN_Ll_INJ_FEC_SYM : Fld := { addr := 0x601020, s1 := 0x40, hi := 21, lo := 16, acc := .rwl, reset := fun _ _ => 1, min := 1, max := some 32 }
def R.LN_Ll_INJ_CW_EVERY : Fld := { addr := 0x601020, s1 := 0x40, hi := 15, lo := 0, acc := .rwl, reset := fun _ _ => 1, min := 1, max := some 65535 }
/-- LN_Ll_INJ (R305, spec/08). -/
def R.LN_Ll_INJ : Reg := { addr := 0x601020, n1 := 60, s1 := 0x40, fields := [R.LN_Ll_INJ_ONE, R.LN_Ll_INJ_INJ_MODE, R.LN_Ll_INJ_RATE_LOG, R.LN_Ll_INJ_FEC_SYM, R.LN_Ll_INJ_CW_EVERY] }

def R.LN_Ll_CHK_STAT_CHK_LOCK : Fld := { addr := 0x601024, s1 := 0x40, hi := 31, lo := 31, acc := .ro }
/-- LN_Ll_CHK_STAT (R306, spec/08). -/
def R.LN_Ll_CHK_STAT : Reg := { addr := 0x601024, n1 := 60, s1 := 0x40, fields := [R.LN_Ll_CHK_STAT_CHK_LOCK] }

def R.LN_Ll_CHK_ERR_LO_CHK_ERR : Fld := { addr := 0x601028, s1 := 0x40, hi := 31, lo := 0, acc := .ro }
/-- LN_Ll_CHK_ERR_LO (R306, spec/08). -/
def R.LN_Ll_CHK_ERR_LO : Reg := { addr := 0x601028, n1 := 60, s1 := 0x40, fields := [R.LN_Ll_CHK_ERR_LO_CHK_ERR] }

def R.LN_Ll_CHK_ERR_HI_CHK_ERR : Fld := { addr := 0x60102c, s1 := 0x40, hi := 31, lo := 0, acc := .ro }
/-- LN_Ll_CHK_ERR_HI (R306, spec/08). -/
def R.LN_Ll_CHK_ERR_HI : Reg := { addr := 0x60102c, n1 := 60, s1 := 0x40, fields := [R.LN_Ll_CHK_ERR_HI_CHK_ERR] }

def R.LN_Ll_CHK_BITS_LO_CHK_BITS : Fld := { addr := 0x601030, s1 := 0x40, hi := 31, lo := 0, acc := .ro }
/-- LN_Ll_CHK_BITS_LO (R306, spec/08). -/
def R.LN_Ll_CHK_BITS_LO : Reg := { addr := 0x601030, n1 := 60, s1 := 0x40, fields := [R.LN_Ll_CHK_BITS_LO_CHK_BITS] }

def R.LN_Ll_CHK_BITS_HI_CHK_BITS : Fld := { addr := 0x601034, s1 := 0x40, hi := 31, lo := 0, acc := .ro }
/-- LN_Ll_CHK_BITS_HI (R306, spec/08). -/
def R.LN_Ll_CHK_BITS_HI : Reg := { addr := 0x601034, n1 := 60, s1 := 0x40, fields := [R.LN_Ll_CHK_BITS_HI_CHK_BITS] }

/-- The registers of LN. -/
def regsLN : List Reg :=
  [R.LN_FPMl_STAT, R.LN_FPMl_UNW_LO, R.LN_FPMl_UNW_HI, R.LN_GLOBAL_CFG, R.LN_GLOBAL_STAT,
   R.LN_GRVg_CFG, R.LN_GRVg_STAT, R.LN_Ll_CFG, R.LN_Ll_TXEQ, R.LN_Ll_STAT, R.LN_Ll_RM,
   R.LN_Ll_RETRY, R.LN_Ll_TEST, R.LN_Ll_USER_LO, R.LN_Ll_USER_HI, R.LN_Ll_INJ, R.LN_Ll_CHK_STAT,
   R.LN_Ll_CHK_ERR_LO, R.LN_Ll_CHK_ERR_HI, R.LN_Ll_CHK_BITS_LO, R.LN_Ll_CHK_BITS_HI]

/-! ### TR -/

def R.TR_GLOBAL_CFG_LINE_TB : Fld := { addr := 0x618000, hi := 30, lo := 28, acc := .rwl }
def R.TR_GLOBAL_CFG_DISPUTE_LIM : Fld := { addr := 0x618000, hi := 25, lo := 16, acc := .rwl, reset := fun _ _ => 20, min := 1, max := some 1000 }
def R.TR_GLOBAL_CFG_WTR : Fld := { addr := 0x618000, hi := 11, lo := 0, acc := .rwl, reset := fun _ _ => 10, max := some 3600 }
/-- TR_GLOBAL_CFG (R177, spec/04). -/
def R.TR_GLOBAL_CFG : Reg := { addr := 0x618000, fields := [R.TR_GLOBAL_CFG_LINE_TB, R.TR_GLOBAL_CFG_DISPUTE_LIM, R.TR_GLOBAL_CFG_WTR] }

def R.TR_OCXO_CFG_OCXO_WARMUP : Fld := { addr := 0x618004, hi := 15, lo := 4, acc := .rwl, reset := fun _ _ => 900, max := some 3600 }
def R.TR_OCXO_CFG_WARM_SRC : Fld := { addr := 0x618004, hi := 3, lo := 2, acc := .rwl, max := some 2 }
def R.TR_OCXO_CFG_OSC_FREQ : Fld := { addr := 0x618004, hi := 1, lo := 0, acc := .rwl, max := some 2 }
/-- TR_OCXO_CFG (R178, spec/04). -/
def R.TR_OCXO_CFG : Reg := { addr := 0x618004, fields := [R.TR_OCXO_CFG_OCXO_WARMUP, R.TR_OCXO_CFG_WARM_SRC, R.TR_OCXO_CFG_OSC_FREQ] }

def R.TR_OCXO_STAT_ACTIVE : Fld := { addr := 0x618008, hi := 13, lo := 13, acc := .ro }
def R.TR_OCXO_STAT_WARM : Fld := { addr := 0x618008, hi := 12, lo := 12, acc := .ro }
def R.TR_OCXO_STAT_REMAIN : Fld := { addr := 0x618008, hi := 11, lo := 0, acc := .ro }
/-- TR_OCXO_STAT (R178, spec/04). -/
def R.TR_OCXO_STAT : Reg := { addr := 0x618008, fields := [R.TR_OCXO_STAT_ACTIVE, R.TR_OCXO_STAT_WARM, R.TR_OCXO_STAT_REMAIN] }

def R.TR_HO_MODEL0_HO_AGE : Fld := { addr := 0x61800c, hi := 31, lo := 16, acc := .rwl, reset := fun _ _ => 100, min := 1, max := some 65535 }
def R.TR_HO_MODEL0_HO_FERR : Fld := { addr := 0x61800c, hi := 15, lo := 0, acc := .rwl, reset := fun _ _ => 10, min := 1, max := some 65535 }
/-- TR_HO_MODEL0 (R179, spec/04). -/
def R.TR_HO_MODEL0 : Reg := { addr := 0x61800c, fields := [R.TR_HO_MODEL0_HO_AGE, R.TR_HO_MODEL0_HO_FERR] }

def R.TR_HO_MODEL1_FERR_TRIM : Fld := { addr := 0x618010, hi := 31, lo := 16, acc := .rwl, reset := fun _ _ => 50, min := 1, max := some 65535 }
def R.TR_HO_MODEL1_TCO_NOMODEL : Fld := { addr := 0x618010, hi := 15, lo := 8, acc := .rwl, reset := fun _ _ => 10 }
def R.TR_HO_MODEL1_TCO_VALID : Fld := { addr := 0x618010, hi := 7, lo := 0, acc := .rwl, reset := fun _ _ => 1 }
/-- TR_HO_MODEL1 (R179, spec/04). -/
def R.TR_HO_MODEL1 : Reg := { addr := 0x618010, fields := [R.TR_HO_MODEL1_FERR_TRIM, R.TR_HO_MODEL1_TCO_NOMODEL, R.TR_HO_MODEL1_TCO_VALID] }

def R.TR_HO_MODEL2_XO_FERR : Fld := { addr := 0x618014, hi := 15, lo := 0, acc := .rwl, reset := fun _ _ => 1000, min := 1, max := some 65535 }
/-- TR_HO_MODEL2 (R179, spec/04). -/
def R.TR_HO_MODEL2 : Reg := { addr := 0x618014, fields := [R.TR_HO_MODEL2_XO_FERR] }

def R.TR_SLOTs_CFG_DOMAIN : Fld := { addr := 0x618100, s1 := 0x20, hi := 23, lo := 16, acc := .rwl }
def R.TR_SLOTs_CFG_PORT : Fld := { addr := 0x618100, s1 := 0x20, hi := 13, lo := 8, acc := .rwl, max := some 47 }
def R.TR_SLOTs_CFG_ACT_PER : Fld := { addr := 0x618100, s1 := 0x20, hi := 7, lo := 4, acc := .rwl, reset := fun _ _ => 3, min := 2, max := some 15 }
def R.TR_SLOTs_CFG_ALIGN : Fld := { addr := 0x618100, s1 := 0x20, hi := 1, lo := 1, acc := .rwl, reset := fun i _ => if 8 ≤ i then 1 else 0 }
def R.TR_SLOTs_CFG_EN : Fld := { addr := 0x618100, s1 := 0x20, hi := 0, lo := 0, acc := .rwl }
/-- TR_SLOTs_CFG (R180, spec/04). -/
def R.TR_SLOTs_CFG : Reg := { addr := 0x618100, n1 := 16, s1 := 0x20, fields := [R.TR_SLOTs_CFG_DOMAIN, R.TR_SLOTs_CFG_PORT, R.TR_SLOTs_CFG_ACT_PER, R.TR_SLOTs_CFG_ALIGN, R.TR_SLOTs_CFG_EN] }

def R.TR_SLOTs_LIM_REJECT_LIM : Fld := { addr := 0x618104, s1 := 0x20, hi := 31, lo := 16, acc := .rwl, reset := fun _ _ => 2000, min := 1, max := some 65535 }
def R.TR_SLOTs_LIM_ACCEPT_LIM : Fld := { addr := 0x618104, s1 := 0x20, hi := 15, lo := 0, acc := .rwl, reset := fun _ _ => 500, min := 1, max := some 65535 }
/-- TR_SLOTs_LIM (R180, spec/04). -/
def R.TR_SLOTs_LIM : Reg := { addr := 0x618104, n1 := 16, s1 := 0x20, fields := [R.TR_SLOTs_LIM_REJECT_LIM, R.TR_SLOTs_LIM_ACCEPT_LIM] }

def R.TR_SLOTs_NOM_NOM_HZ : Fld := { addr := 0x618108, s1 := 0x20, hi := 29, lo := 0, acc := .rwl, reset := fun _ _ => 10000000, min := 1, max := some 800000000 }
/-- TR_SLOTs_NOM (R180, spec/04). -/
def R.TR_SLOTs_NOM : Reg := { addr := 0x618108, n1 := 16, s1 := 0x20, fields := [R.TR_SLOTs_NOM_NOM_HZ] }

def R.TR_SLOTs_QUAL_VARIANCE : Fld := { addr := 0x61810c, s1 := 0x20, hi := 31, lo := 16, acc := .rwl, reset := fun _ _ => 65535 }
def R.TR_SLOTs_QUAL_ACCURACY : Fld := { addr := 0x61810c, s1 := 0x20, hi := 15, lo := 8, acc := .rwl, reset := fun i _ => if i = 14 ∨ i = 15 then 0x20 else 0xFE }
def R.TR_SLOTs_QUAL_CLASS : Fld := { addr := 0x61810c, s1 := 0x20, hi := 7, lo := 0, acc := .rwl, reset := fun i _ => if i = 14 ∨ i = 15 then 6 else 248 }
/-- TR_SLOTs_QUAL (R180, spec/04). -/
def R.TR_SLOTs_QUAL : Reg := { addr := 0x61810c, n1 := 16, s1 := 0x20, fields := [R.TR_SLOTs_QUAL_VARIANCE, R.TR_SLOTs_QUAL_ACCURACY, R.TR_SLOTs_QUAL_CLASS] }

def R.TR_SLOTs_STAT_WTR_REMAIN : Fld := { addr := 0x618110, s1 := 0x20, hi := 27, lo := 16, acc := .ro }
def R.TR_SLOTs_STAT_CAND : Fld := { addr := 0x618110, s1 := 0x20, hi := 15, lo := 8, acc := .ro }
def R.TR_SLOTs_STAT_UNTRUSTED : Fld := { addr := 0x618110, s1 := 0x20, hi := 5, lo := 5, acc := .ro }
def R.TR_SLOTs_STAT_EXCLUDED : Fld := { addr := 0x618110, s1 := 0x20, hi := 4, lo := 4, acc := .ro }
def R.TR_SLOTs_STAT_DISPUTED : Fld := { addr := 0x618110, s1 := 0x20, hi := 3, lo := 3, acc := .ro }
def R.TR_SLOTs_STAT_WTR_RUN : Fld := { addr := 0x618110, s1 := 0x20, hi := 2, lo := 2, acc := .ro }
def R.TR_SLOTs_STAT_QUALIFIED : Fld := { addr := 0x618110, s1 := 0x20, hi := 1, lo := 1, acc := .ro }
def R.TR_SLOTs_STAT_ACTIVE : Fld := { addr := 0x618110, s1 := 0x20, hi := 0, lo := 0, acc := .ro }
/-- TR_SLOTs_STAT (R181, spec/04). -/
def R.TR_SLOTs_STAT : Reg := { addr := 0x618110, n1 := 16, s1 := 0x20, fields := [R.TR_SLOTs_STAT_WTR_REMAIN, R.TR_SLOTs_STAT_CAND, R.TR_SLOTs_STAT_UNTRUSTED, R.TR_SLOTs_STAT_EXCLUDED, R.TR_SLOTs_STAT_DISPUTED, R.TR_SLOTs_STAT_WTR_RUN, R.TR_SLOTs_STAT_QUALIFIED, R.TR_SLOTs_STAT_ACTIVE] }

def R.TR_SLOTs_FOFS_FOFS : Fld := { addr := 0x618114, s1 := 0x20, hi := 31, lo := 0, acc := .ro, signed := true }
/-- TR_SLOTs_FOFS (R181, spec/04). -/
def R.TR_SLOTs_FOFS : Reg := { addr := 0x618114, n1 := 16, s1 := 0x20, fields := [R.TR_SLOTs_FOFS_FOFS] }

def R.TR_SLOTs_FEED_LO_THETA : Fld := { addr := 0x618118, s1 := 0x20, hi := 31, lo := 0, acc := .wo }
/-- TR_SLOTs_FEED_LO (R182, spec/04). -/
def R.TR_SLOTs_FEED_LO : Reg := { addr := 0x618118, n1 := 16, s1 := 0x20, fields := [R.TR_SLOTs_FEED_LO_THETA] }

def R.TR_SLOTs_FEED_HI_THETA : Fld := { addr := 0x61811c, s1 := 0x20, hi := 31, lo := 0, acc := .wo }
/-- TR_SLOTs_FEED_HI (R182, spec/04). -/
def R.TR_SLOTs_FEED_HI : Reg := { addr := 0x61811c, n1 := 16, s1 := 0x20, fields := [R.TR_SLOTs_FEED_HI_THETA] }

def R.TR_DPLLn_CFG_FORCE_SLOT : Fld := { addr := 0x618400, s1 := 0x40, hi := 19, lo := 16, acc := .rwl }
def R.TR_DPLLn_CFG_FORCE : Fld := { addr := 0x618400, s1 := 0x40, hi := 13, lo := 12, acc := .rwl, max := some 2 }
def R.TR_DPLLn_CFG_OPEN : Fld := { addr := 0x618400, s1 := 0x40, hi := 9, lo := 9, acc := .rwl }
def R.TR_DPLLn_CFG_REVERT : Fld := { addr := 0x618400, s1 := 0x40, hi := 8, lo := 8, acc := .rwl, reset := fun _ _ => 1 }
def R.TR_DPLLn_CFG_BW : Fld := { addr := 0x618400, s1 := 0x40, hi := 4, lo := 0, acc := .rwl, reset := fun _ _ => 6, max := some 20 }
/-- TR_DPLLn_CFG (R183, spec/04). -/
def R.TR_DPLLn_CFG : Reg := { addr := 0x618400, n1 := 8, s1 := 0x40, fields := [R.TR_DPLLn_CFG_FORCE_SLOT, R.TR_DPLLn_CFG_FORCE, R.TR_DPLLn_CFG_OPEN, R.TR_DPLLn_CFG_REVERT, R.TR_DPLLn_CFG_BW] }

def R.TR_DPLLn_SWT_SW_TIMEOUT : Fld := { addr := 0x618404, s1 := 0x40, hi := 31, lo := 16, acc := .rwl, reset := fun _ _ => 100, min := 10, max := some 10000 }
def R.TR_DPLLn_SWT_SWITCH_TIME : Fld := { addr := 0x618404, s1 := 0x40, hi := 15, lo := 0, acc := .rwl, reset := fun _ _ => 1000, min := 10, max := some 60000 }
/-- TR_DPLLn_SWT (R183, spec/04). -/
def R.TR_DPLLn_SWT : Reg := { addr := 0x618404, n1 := 8, s1 := 0x40, fields := [R.TR_DPLLn_SWT_SW_TIMEOUT, R.TR_DPLLn_SWT_SWITCH_TIME] }

def R.TR_DPLLn_PRIO_LO_PRIO : Fld := { addr := 0x618408, s1 := 0x40, hi := 31, lo := 0, acc := .rwl, reset := fun _ _ => 4294967295 }
/-- TR_DPLLn_PRIO_LO (R183, spec/04). -/
def R.TR_DPLLn_PRIO_LO : Reg := { addr := 0x618408, n1 := 8, s1 := 0x40, fields := [R.TR_DPLLn_PRIO_LO_PRIO] }

def R.TR_DPLLn_PRIO_HI_PRIO : Fld := { addr := 0x61840c, s1 := 0x40, hi := 31, lo := 0, acc := .rwl, reset := fun _ _ => 4294967295 }
/-- TR_DPLLn_PRIO_HI (R183, spec/04). -/
def R.TR_DPLLn_PRIO_HI : Reg := { addr := 0x61840c, n1 := 8, s1 := 0x40, fields := [R.TR_DPLLn_PRIO_HI_PRIO] }

def R.TR_DPLLn_HO_HO_AVG : Fld := { addr := 0x618410, s1 := 0x40, hi := 16, lo := 0, acc := .rwl, reset := fun _ _ => 900, min := 60, max := some 86400 }
/-- TR_DPLLn_HO (R184, spec/04). -/
def R.TR_DPLLn_HO : Reg := { addr := 0x618410, n1 := 8, s1 := 0x40, fields := [R.TR_DPLLn_HO_HO_AVG] }

def R.TR_DPLLn_HOQ_FREE_CLASS : Fld := { addr := 0x618414, s1 := 0x40, hi := 23, lo := 16, acc := .rwl, reset := fun _ _ => 248 }
def R.TR_DPLLn_HOQ_HO_CLASS_OUT : Fld := { addr := 0x618414, s1 := 0x40, hi := 15, lo := 8, acc := .rwl, reset := fun _ _ => 52 }
def R.TR_DPLLn_HOQ_HO_CLASS_IN : Fld := { addr := 0x618414, s1 := 0x40, hi := 7, lo := 0, acc := .rwl, reset := fun _ _ => 7 }
/-- TR_DPLLn_HOQ (R184, spec/04). -/
def R.TR_DPLLn_HOQ : Reg := { addr := 0x618414, n1 := 8, s1 := 0x40, fields := [R.TR_DPLLn_HOQ_FREE_CLASS, R.TR_DPLLn_HOQ_HO_CLASS_OUT, R.TR_DPLLn_HOQ_HO_CLASS_IN] }

def R.TR_DPLLn_STAT_PD_SEQ : Fld := { addr := 0x618418, s1 := 0x40, hi := 31, lo := 24, acc := .ro }
def R.TR_DPLLn_STAT_FORCED : Fld := { addr := 0x618418, s1 := 0x40, hi := 17, lo := 17, acc := .ro }
def R.TR_DPLLn_STAT_BO_HELD : Fld := { addr := 0x618418, s1 := 0x40, hi := 16, lo := 16, acc := .ro }
def R.TR_DPLLn_STAT_BW_CLAMPED : Fld := { addr := 0x618418, s1 := 0x40, hi := 15, lo := 15, acc := .ro }
def R.TR_DPLLn_STAT_MODEL_VALID : Fld := { addr := 0x618418, s1 := 0x40, hi := 14, lo := 14, acc := .ro }
def R.TR_DPLLn_STAT_HOQ : Fld := { addr := 0x618418, s1 := 0x40, hi := 13, lo := 12, acc := .ro }
def R.TR_DPLLn_STAT_TARGET : Fld := { addr := 0x618418, s1 := 0x40, hi := 11, lo := 8, acc := .ro }
def R.TR_DPLLn_STAT_ACTIVE : Fld := { addr := 0x618418, s1 := 0x40, hi := 7, lo := 4, acc := .ro }
def R.TR_DPLLn_STAT_STATE : Fld := { addr := 0x618418, s1 := 0x40, hi := 1, lo := 0, acc := .ro, reset := fun _ _ => 3 }
/-- TR_DPLLn_STAT (R185, spec/04). -/
def R.TR_DPLLn_STAT : Reg := { addr := 0x618418, n1 := 8, s1 := 0x40, fields := [R.TR_DPLLn_STAT_PD_SEQ, R.TR_DPLLn_STAT_FORCED, R.TR_DPLLn_STAT_BO_HELD, R.TR_DPLLn_STAT_BW_CLAMPED, R.TR_DPLLn_STAT_MODEL_VALID, R.TR_DPLLn_STAT_HOQ, R.TR_DPLLn_STAT_TARGET, R.TR_DPLLn_STAT_ACTIVE, R.TR_DPLLn_STAT_STATE] }

def R.TR_DPLLn_LOCKT_LOCK_TIME : Fld := { addr := 0x61841c, s1 := 0x40, hi := 31, lo := 0, acc := .ro }
/-- TR_DPLLn_LOCKT (R185, spec/04). -/
def R.TR_DPLLn_LOCKT : Reg := { addr := 0x61841c, n1 := 8, s1 := 0x40, fields := [R.TR_DPLLn_LOCKT_LOCK_TIME] }

def R.TR_DPLLn_QOUT_VARIANCE : Fld := { addr := 0x618420, s1 := 0x40, hi := 31, lo := 16, acc := .ro, reset := fun _ _ => 65535 }
def R.TR_DPLLn_QOUT_ACCURACY : Fld := { addr := 0x618420, s1 := 0x40, hi := 15, lo := 8, acc := .ro, reset := fun _ _ => 254 }
def R.TR_DPLLn_QOUT_CLASS : Fld := { addr := 0x618420, s1 := 0x40, hi := 7, lo := 0, acc := .ro, reset := fun _ _ => 248 }
/-- TR_DPLLn_QOUT (R185, spec/04). -/
def R.TR_DPLLn_QOUT : Reg := { addr := 0x618420, n1 := 8, s1 := 0x40, fields := [R.TR_DPLLn_QOUT_VARIANCE, R.TR_DPLLn_QOUT_ACCURACY, R.TR_DPLLn_QOUT_CLASS] }

def R.TR_DPLLn_PD_LO_PD : Fld := { addr := 0x618424, s1 := 0x40, hi := 31, lo := 0, acc := .ro }
/-- TR_DPLLn_PD_LO (R186, spec/04). -/
def R.TR_DPLLn_PD_LO : Reg := { addr := 0x618424, n1 := 8, s1 := 0x40, fields := [R.TR_DPLLn_PD_LO_PD] }

def R.TR_DPLLn_PD_HI_PD : Fld := { addr := 0x618428, s1 := 0x40, hi := 31, lo := 0, acc := .ro }
/-- TR_DPLLn_PD_HI (R186, spec/04). -/
def R.TR_DPLLn_PD_HI : Reg := { addr := 0x618428, n1 := 8, s1 := 0x40, fields := [R.TR_DPLLn_PD_HI_PD] }

def R.TR_DPLLn_BO_LO_BO : Fld := { addr := 0x61842c, s1 := 0x40, hi := 31, lo := 0, acc := .ro }
/-- TR_DPLLn_BO_LO (R186, spec/04). -/
def R.TR_DPLLn_BO_LO : Reg := { addr := 0x61842c, n1 := 8, s1 := 0x40, fields := [R.TR_DPLLn_BO_LO_BO] }

def R.TR_DPLLn_BO_HI_BO : Fld := { addr := 0x618430, s1 := 0x40, hi := 31, lo := 0, acc := .ro }
/-- TR_DPLLn_BO_HI (R186, spec/04). -/
def R.TR_DPLLn_BO_HI : Reg := { addr := 0x618430, n1 := 8, s1 := 0x40, fields := [R.TR_DPLLn_BO_HI_BO] }

def R.TR_DPLLn_SWF_LO_SWF : Fld := { addr := 0x618434, s1 := 0x40, hi := 31, lo := 0, acc := .rwl }
/-- TR_DPLLn_SWF_LO (R186, spec/04). -/
def R.TR_DPLLn_SWF_LO : Reg := { addr := 0x618434, n1 := 8, s1 := 0x40, fields := [R.TR_DPLLn_SWF_LO_SWF] }

def R.TR_DPLLn_SWF_HI_SWF : Fld := { addr := 0x618438, s1 := 0x40, hi := 31, lo := 0, acc := .rwl }
/-- TR_DPLLn_SWF_HI (R186, spec/04). -/
def R.TR_DPLLn_SWF_HI : Reg := { addr := 0x618438, n1 := 8, s1 := 0x40, fields := [R.TR_DPLLn_SWF_HI_SWF] }

/-- The registers of TR. -/
def regsTR : List Reg :=
  [R.TR_GLOBAL_CFG, R.TR_OCXO_CFG, R.TR_OCXO_STAT, R.TR_HO_MODEL0, R.TR_HO_MODEL1, R.TR_HO_MODEL2,
   R.TR_SLOTs_CFG, R.TR_SLOTs_LIM, R.TR_SLOTs_NOM, R.TR_SLOTs_QUAL, R.TR_SLOTs_STAT,
   R.TR_SLOTs_FOFS, R.TR_SLOTs_FEED_LO, R.TR_SLOTs_FEED_HI, R.TR_DPLLn_CFG, R.TR_DPLLn_SWT,
   R.TR_DPLLn_PRIO_LO, R.TR_DPLLn_PRIO_HI, R.TR_DPLLn_HO, R.TR_DPLLn_HOQ, R.TR_DPLLn_STAT,
   R.TR_DPLLn_LOCKT, R.TR_DPLLn_QOUT, R.TR_DPLLn_PD_LO, R.TR_DPLLn_PD_HI, R.TR_DPLLn_BO_LO,
   R.TR_DPLLn_BO_HI, R.TR_DPLLn_SWF_LO, R.TR_DPLLn_SWF_HI]

/-! ### SY -/

def R.SY_APLLa_CFG_PRE : Fld := { addr := 0x620000, s1 := 0x40, hi := 20, lo := 16, acc := .rwl, reset := fun _ _ => 4, min := 4, max := some 16 }
def R.SY_APLLa_CFG_GRAN : Fld := { addr := 0x620000, s1 := 0x40, hi := 11, lo := 11, acc := .rwl, reset := fun i _ => if i < 2 then 1 else 0 }
def R.SY_APLLa_CFG_SRC_DPLL : Fld := { addr := 0x620000, s1 := 0x40, hi := 10, lo := 8, acc := .rwl }
def R.SY_APLLa_CFG_EN : Fld := { addr := 0x620000, s1 := 0x40, hi := 0, lo := 0, acc := .rwl, reset := fun i _ => if i < 2 then 1 else 0 }
/-- SY_APLLa_CFG (R219, spec/05). -/
def R.SY_APLLa_CFG : Reg := { addr := 0x620000, n1 := 4, s1 := 0x40, fields := [R.SY_APLLa_CFG_PRE, R.SY_APLLa_CFG_GRAN, R.SY_APLLa_CFG_SRC_DPLL, R.SY_APLLa_CFG_EN] }

def R.SY_APLLa_M_MINT : Fld := { addr := 0x620004, s1 := 0x40, hi := 30, lo := 24, acc := .rwl, reset := fun _ _ => 100, min := 96, max := some 125 }
def R.SY_APLLa_M_MFRAC : Fld := { addr := 0x620004, s1 := 0x40, hi := 23, lo := 0, acc := .rwl }
/-- SY_APLLa_M (R220, spec/05). -/
def R.SY_APLLa_M : Reg := { addr := 0x620004, n1 := 4, s1 := 0x40, fields := [R.SY_APLLa_M_MINT, R.SY_APLLa_M_MFRAC] }

def R.SY_APLLa_LOCK_LOCK_WINDOW : Fld := { addr := 0x620008, s1 := 0x40, hi := 26, lo := 16, acc := .rwl, reset := fun _ _ => 200, min := 50, max := some 2000 }
def R.SY_APLLa_LOCK_LOCK_N : Fld := { addr := 0x620008, s1 := 0x40, hi := 15, lo := 0, acc := .rwl, reset := fun _ _ => 1024, min := 16, max := some 65535 }
/-- SY_APLLa_LOCK (R220, spec/05). -/
def R.SY_APLLa_LOCK : Reg := { addr := 0x620008, n1 := 4, s1 := 0x40, fields := [R.SY_APLLa_LOCK_LOCK_WINDOW, R.SY_APLLa_LOCK_LOCK_N] }

def R.SY_APLLa_PHOFS_PHOFS : Fld := { addr := 0x62000c, s1 := 0x40, hi := 15, lo := 0, acc := .rwl, signed := true, min := -20000, max := some 20000 }
/-- SY_APLLa_PHOFS (R220, spec/05). -/
def R.SY_APLLa_PHOFS : Reg := { addr := 0x62000c, n1 := 4, s1 := 0x40, fields := [R.SY_APLLa_PHOFS_PHOFS] }

def R.SY_APLLa_COMMIT_GO : Fld := { addr := 0x620010, s1 := 0x40, hi := 31, lo := 31, acc := .wo }
def R.SY_APLLa_COMMIT_MODE : Fld := { addr := 0x620010, s1 := 0x40, hi := 1, lo := 0, acc := .rwl, max := some 2 }
/-- SY_APLLa_COMMIT (R221, spec/05). -/
def R.SY_APLLa_COMMIT : Reg := { addr := 0x620010, n1 := 4, s1 := 0x40, fields := [R.SY_APLLa_COMMIT_GO, R.SY_APLLa_COMMIT_MODE] }

def R.SY_APLLa_CTGT_LO_TGT : Fld := { addr := 0x620014, s1 := 0x40, hi := 31, lo := 0, acc := .rwl }
/-- SY_APLLa_CTGT_LO (R221, spec/05). -/
def R.SY_APLLa_CTGT_LO : Reg := { addr := 0x620014, n1 := 4, s1 := 0x40, fields := [R.SY_APLLa_CTGT_LO_TGT] }

def R.SY_APLLa_CTGT_HI_TGT : Fld := { addr := 0x620018, s1 := 0x40, hi := 31, lo := 0, acc := .rwl }
/-- SY_APLLa_CTGT_HI (R221, spec/05). -/
def R.SY_APLLa_CTGT_HI : Reg := { addr := 0x620018, n1 := 4, s1 := 0x40, fields := [R.SY_APLLa_CTGT_HI_TGT] }

def R.SY_APLLa_STAT_PRE_ACT : Fld := { addr := 0x62001c, s1 := 0x40, hi := 28, lo := 24, acc := .ro, reset := fun _ _ => 4 }
def R.SY_APLLa_STAT_BAND : Fld := { addr := 0x62001c, s1 := 0x40, hi := 20, lo := 16, acc := .ro }
def R.SY_APLLa_STAT_FOLLOW : Fld := { addr := 0x62001c, s1 := 0x40, hi := 14, lo := 12, acc := .ro }
def R.SY_APLLa_STAT_ALIGN_LOST : Fld := { addr := 0x62001c, s1 := 0x40, hi := 7, lo := 7, acc := .ro }
def R.SY_APLLa_STAT_PH_BUSY : Fld := { addr := 0x62001c, s1 := 0x40, hi := 6, lo := 6, acc := .ro }
def R.SY_APLLa_STAT_PENDING : Fld := { addr := 0x62001c, s1 := 0x40, hi := 5, lo := 5, acc := .ro }
def R.SY_APLLa_STAT_GATED : Fld := { addr := 0x62001c, s1 := 0x40, hi := 4, lo := 4, acc := .ro, reset := fun _ _ => 1 }
def R.SY_APLLa_STAT_SEARCH : Fld := { addr := 0x62001c, s1 := 0x40, hi := 3, lo := 3, acc := .ro }
def R.SY_APLLa_STAT_REF_OK : Fld := { addr := 0x62001c, s1 := 0x40, hi := 2, lo := 2, acc := .ro }
def R.SY_APLLa_STAT_LOCKED : Fld := { addr := 0x62001c, s1 := 0x40, hi := 1, lo := 1, acc := .ro }
/-- SY_APLLa_STAT (R222, spec/05). -/
def R.SY_APLLa_STAT : Reg := { addr := 0x62001c, n1 := 4, s1 := 0x40, fields := [R.SY_APLLa_STAT_PRE_ACT, R.SY_APLLa_STAT_BAND, R.SY_APLLa_STAT_FOLLOW, R.SY_APLLa_STAT_ALIGN_LOST, R.SY_APLLa_STAT_PH_BUSY, R.SY_APLLa_STAT_PENDING, R.SY_APLLa_STAT_GATED, R.SY_APLLa_STAT_SEARCH, R.SY_APLLa_STAT_REF_OK, R.SY_APLLa_STAT_LOCKED] }

def R.SY_OUTm_CFG_ROLE_CTL : Fld := { addr := 0x620200, s1 := 0x20, hi := 13, lo := 13, acc := .rwl }
def R.SY_OUTm_CFG_DIS_HIZ : Fld := { addr := 0x620200, s1 := 0x20, hi := 12, lo := 12, acc := .rwl }
def R.SY_OUTm_CFG_CMOS_N : Fld := { addr := 0x620200, s1 := 0x20, hi := 11, lo := 10, acc := .rwl, max := some 2 }
def R.SY_OUTm_CFG_FMT : Fld := { addr := 0x620200, s1 := 0x20, hi := 9, lo := 8, acc := .rwl, max := some 2 }
def R.SY_OUTm_CFG_CASCADE : Fld := { addr := 0x620200, s1 := 0x20, hi := 4, lo := 4, acc := .rwl }
def R.SY_OUTm_CFG_APLL : Fld := { addr := 0x620200, s1 := 0x20, hi := 2, lo := 1, acc := .rwl, reset := fun _ _ => 2 }
def R.SY_OUTm_CFG_EN : Fld := { addr := 0x620200, s1 := 0x20, hi := 0, lo := 0, acc := .rwl }
/-- SY_OUTm_CFG (R223, spec/05). -/
def R.SY_OUTm_CFG : Reg := { addr := 0x620200, n1 := 16, s1 := 0x20, fields := [R.SY_OUTm_CFG_ROLE_CTL, R.SY_OUTm_CFG_DIS_HIZ, R.SY_OUTm_CFG_CMOS_N, R.SY_OUTm_CFG_FMT, R.SY_OUTm_CFG_CASCADE, R.SY_OUTm_CFG_APLL, R.SY_OUTm_CFG_EN] }

def R.SY_OUTm_DIV_DIVM1 : Fld := { addr := 0x620204, s1 := 0x20, hi := 23, lo := 0, acc := .rwl }
/-- SY_OUTm_DIV (R223, spec/05). -/
def R.SY_OUTm_DIV : Reg := { addr := 0x620204, n1 := 16, s1 := 0x20, fields := [R.SY_OUTm_DIV_DIVM1] }

def R.SY_OUTm_DLY_DLY : Fld := { addr := 0x620208, s1 := 0x20, hi := 12, lo := 0, acc := .rwl, max := some 8000 }
/-- SY_OUTm_DLY (R223, spec/05). -/
def R.SY_OUTm_DLY : Reg := { addr := 0x620208, n1 := 16, s1 := 0x20, fields := [R.SY_OUTm_DLY_DLY] }

def R.SY_OUTm_STAT_DRIVING : Fld := { addr := 0x62020c, s1 := 0x20, hi := 31, lo := 31, acc := .ro }
def R.SY_OUTm_STAT_GATED : Fld := { addr := 0x62020c, s1 := 0x20, hi := 30, lo := 30, acc := .ro }
def R.SY_OUTm_STAT_APLL_ACT : Fld := { addr := 0x62020c, s1 := 0x20, hi := 29, lo := 28, acc := .ro, reset := fun _ _ => 2 }
def R.SY_OUTm_STAT_CASCADE_ACT : Fld := { addr := 0x62020c, s1 := 0x20, hi := 27, lo := 27, acc := .ro }
def R.SY_OUTm_STAT_ROLE_HELD : Fld := { addr := 0x62020c, s1 := 0x20, hi := 26, lo := 26, acc := .ro }
def R.SY_OUTm_STAT_DIVM1_ACT : Fld := { addr := 0x62020c, s1 := 0x20, hi := 23, lo := 0, acc := .ro }
/-- SY_OUTm_STAT (R224, spec/05). -/
def R.SY_OUTm_STAT : Reg := { addr := 0x62020c, n1 := 16, s1 := 0x20, fields := [R.SY_OUTm_STAT_DRIVING, R.SY_OUTm_STAT_GATED, R.SY_OUTm_STAT_APLL_ACT, R.SY_OUTm_STAT_CASCADE_ACT, R.SY_OUTm_STAT_ROLE_HELD, R.SY_OUTm_STAT_DIVM1_ACT] }

/-- The registers of SY. -/
def regsSY : List Reg :=
  [R.SY_APLLa_CFG, R.SY_APLLa_M, R.SY_APLLa_LOCK, R.SY_APLLa_PHOFS, R.SY_APLLa_COMMIT,
   R.SY_APLLa_CTGT_LO, R.SY_APLLa_CTGT_HI, R.SY_APLLa_STAT, R.SY_OUTm_CFG, R.SY_OUTm_DIV,
   R.SY_OUTm_DLY, R.SY_OUTm_STAT]

/-! ### GN -/

def R.GN_CFG_TB : Fld := { addr := 0x628000, hi := 15, lo := 13, acc := .rwl }
def R.GN_CFG_MEAS_RATE : Fld := { addr := 0x628000, hi := 11, lo := 10, acc := .rwl }
def R.GN_CFG_NAV_EN : Fld := { addr := 0x628000, hi := 9, lo := 9, acc := .rwl }
def R.GN_CFG_MEAS_EN : Fld := { addr := 0x628000, hi := 8, lo := 8, acc := .rwl }
def R.GN_CFG_DUALBAND : Fld := { addr := 0x628000, hi := 0, lo := 0, acc := .rwl }
/-- GN_CFG (R252, spec/06). -/
def R.GN_CFG : Reg := { addr := 0x628000, fields := [R.GN_CFG_TB, R.GN_CFG_MEAS_RATE, R.GN_CFG_NAV_EN, R.GN_CFG_MEAS_EN, R.GN_CFG_DUALBAND] }

def R.GN_INx_CFG_EN : Fld := { addr := 0x628010, s1 := 0x10, hi := 31, lo := 31, acc := .rwl }
def R.GN_INx_CFG_INV : Fld := { addr := 0x628010, s1 := 0x10, hi := 30, lo := 30, acc := .rwl }
def R.GN_INx_CFG_BITS : Fld := { addr := 0x628010, s1 := 0x10, hi := 29, lo := 29, acc := .rwl }
def R.GN_INx_CFG_BAND : Fld := { addr := 0x628010, s1 := 0x10, hi := 28, lo := 28, acc := .rwl }
def R.GN_INx_CFG_SIGEN : Fld := { addr := 0x628010, s1 := 0x10, hi := 26, lo := 24, acc := .rwl, reset := fun _ _ => 7 }
def R.GN_INx_CFG_SRATE : Fld := { addr := 0x628010, s1 := 0x10, hi := 23, lo := 17, acc := .rwl, reset := fun _ _ => 40, min := 4, max := some 80 }
def R.GN_INx_CFG_IF_OFS : Fld := { addr := 0x628010, s1 := 0x10, hi := 15, lo := 0, acc := .rwl, signed := true, min := -20000, max := some 20000 }
/-- GN_INx_CFG (R253, spec/06). -/
def R.GN_INx_CFG : Reg := { addr := 0x628010, n1 := 2, s1 := 0x10, fields := [R.GN_INx_CFG_EN, R.GN_INx_CFG_INV, R.GN_INx_CFG_BITS, R.GN_INx_CFG_BAND, R.GN_INx_CFG_SIGEN, R.GN_INx_CFG_SRATE, R.GN_INx_CFG_IF_OFS] }

def R.GN_INx_STAT_CLK_OK : Fld := { addr := 0x628014, s1 := 0x10, hi := 31, lo := 31, acc := .ro }
def R.GN_INx_STAT_CLK_SYNC : Fld := { addr := 0x628014, s1 := 0x10, hi := 30, lo := 30, acc := .ro }
def R.GN_INx_STAT_JAM : Fld := { addr := 0x628014, s1 := 0x10, hi := 29, lo := 29, acc := .ro }
def R.GN_INx_STAT_SLEEP : Fld := { addr := 0x628014, s1 := 0x10, hi := 28, lo := 28, acc := .ro }
def R.GN_INx_STAT_NOTCH_ACT : Fld := { addr := 0x628014, s1 := 0x10, hi := 27, lo := 24, acc := .ro }
def R.GN_INx_STAT_AGC : Fld := { addr := 0x628014, s1 := 0x10, hi := 23, lo := 16, acc := .ro }
def R.GN_INx_STAT_PEAK : Fld := { addr := 0x628014, s1 := 0x10, hi := 15, lo := 8, acc := .ro }
def R.GN_INx_STAT_TRACKED : Fld := { addr := 0x628014, s1 := 0x10, hi := 7, lo := 0, acc := .ro }
/-- GN_INx_STAT (R253, spec/06). -/
def R.GN_INx_STAT : Reg := { addr := 0x628014, n1 := 2, s1 := 0x10, fields := [R.GN_INx_STAT_CLK_OK, R.GN_INx_STAT_CLK_SYNC, R.GN_INx_STAT_JAM, R.GN_INx_STAT_SLEEP, R.GN_INx_STAT_NOTCH_ACT, R.GN_INx_STAT_AGC, R.GN_INx_STAT_PEAK, R.GN_INx_STAT_TRACKED] }

def R.GN_NOTCHx_k_MODE : Fld := { addr := 0x628040, s1 := 0x10, s2 := 0x4, hi := 31, lo := 30, acc := .rwl, reset := fun _ _ => 1, max := some 2 }
def R.GN_NOTCHx_k_NOTCH_THR : Fld := { addr := 0x628040, s1 := 0x10, s2 := 0x4, hi := 29, lo := 24, acc := .rwl, reset := fun _ _ => 15, min := 6, max := some 40 }
def R.GN_NOTCHx_k_FREQ : Fld := { addr := 0x628040, s1 := 0x10, s2 := 0x4, hi := 23, lo := 0, acc := .rwl, signed := true }
/-- GN_NOTCHx_k (R254, spec/06). -/
def R.GN_NOTCHx_k : Reg := { addr := 0x628040, n1 := 2, s1 := 0x10, n2 := 4, s2 := 0x4, fields := [R.GN_NOTCHx_k_MODE, R.GN_NOTCHx_k_NOTCH_THR, R.GN_NOTCHx_k_FREQ] }

def R.GN_TIM_CFG_POS_MODE : Fld := { addr := 0x628080, hi := 31, lo := 30, acc := .rwl, max := some 2 }
def R.GN_TIM_CFG_SURVEY_MIN : Fld := { addr := 0x628080, hi := 27, lo := 17, acc := .rwl, reset := fun _ _ => 60, min := 1, max := some 1440 }
def R.GN_TIM_CFG_ELEV_MASK : Fld := { addr := 0x628080, hi := 16, lo := 11, acc := .rwl, reset := fun _ _ => 10, max := some 60 }
def R.GN_TIM_CFG_CN0_MASK : Fld := { addr := 0x628080, hi := 10, lo := 5, acc := .rwl, reset := fun _ _ => 30, min := 20, max := some 50 }
/-- GN_TIM_CFG (R255, spec/06). -/
def R.GN_TIM_CFG : Reg := { addr := 0x628080, fields := [R.GN_TIM_CFG_POS_MODE, R.GN_TIM_CFG_SURVEY_MIN, R.GN_TIM_CFG_ELEV_MASK, R.GN_TIM_CFG_CN0_MASK] }

def R.GN_ANT_DLYx_ANT_DLY : Fld := { addr := 0x628084, s1 := 0x4, hi := 19, lo := 0, acc := .rwl, max := some 1000000 }
/-- GN_ANT_DLYx (R255, spec/06). -/
def R.GN_ANT_DLYx : Reg := { addr := 0x628084, n1 := 2, s1 := 0x4, fields := [R.GN_ANT_DLYx_ANT_DLY] }

def R.GN_POSx_X_X : Fld := { addr := 0x628090, s1 := 0x10, hi := 31, lo := 0, acc := .rwl }
/-- GN_POSx_X (R255, spec/06). -/
def R.GN_POSx_X : Reg := { addr := 0x628090, n1 := 2, s1 := 0x10, fields := [R.GN_POSx_X_X] }

def R.GN_POSx_Y_Y : Fld := { addr := 0x628094, s1 := 0x10, hi := 31, lo := 0, acc := .rwl }
/-- GN_POSx_Y (R255, spec/06). -/
def R.GN_POSx_Y : Reg := { addr := 0x628094, n1 := 2, s1 := 0x10, fields := [R.GN_POSx_Y_Y] }

def R.GN_POSx_Z_Z : Fld := { addr := 0x628098, s1 := 0x10, hi := 31, lo := 0, acc := .rwl }
/-- GN_POSx_Z (R255, spec/06). -/
def R.GN_POSx_Z : Reg := { addr := 0x628098, n1 := 2, s1 := 0x10, fields := [R.GN_POSx_Z_Z] }

def R.GN_TRUST_CFG0_EN_CHK : Fld := { addr := 0x6280c0, hi := 31, lo := 27, acc := .rwl, reset := fun _ _ => 31 }
def R.GN_TRUST_CFG0_JUMP_LIM : Fld := { addr := 0x6280c0, hi := 26, lo := 16, acc := .rwl, reset := fun _ _ => 50, min := 5, max := some 2000 }
def R.GN_TRUST_CFG0_HOLD_CHK : Fld := { addr := 0x6280c0, hi := 15, lo := 0, acc := .rwl, reset := fun _ _ => 100, min := 10, max := some 65535 }
/-- GN_TRUST_CFG0 (R256, spec/06). -/
def R.GN_TRUST_CFG0 : Reg := { addr := 0x6280c0, fields := [R.GN_TRUST_CFG0_EN_CHK, R.GN_TRUST_CFG0_JUMP_LIM, R.GN_TRUST_CFG0_HOLD_CHK] }

def R.GN_TRUST_CFG1_TRUST_HOLD : Fld := { addr := 0x6280c4, hi := 31, lo := 20, acc := .rwl, reset := fun _ _ => 60, min := 10, max := some 3600 }
def R.GN_TRUST_CFG1_CN0_MAX : Fld := { addr := 0x6280c4, hi := 19, lo := 14, acc := .rwl, reset := fun _ _ => 55, min := 40, max := some 63 }
def R.GN_TRUST_CFG1_AGC_DROP : Fld := { addr := 0x6280c4, hi := 13, lo := 10, acc := .rwl, reset := fun _ _ => 6, min := 2, max := some 15 }
def R.GN_TRUST_CFG1_DIFF_LIM : Fld := { addr := 0x6280c4, hi := 9, lo := 5, acc := .rwl, reset := fun _ _ => 6, min := 1, max := some 31 }
def R.GN_TRUST_CFG1_RESID_LIM : Fld := { addr := 0x6280c4, hi := 4, lo := 0, acc := .rwl, reset := fun _ _ => 15, min := 5, max := some 31 }
/-- GN_TRUST_CFG1 (R256, spec/06). -/
def R.GN_TRUST_CFG1 : Reg := { addr := 0x6280c4, fields := [R.GN_TRUST_CFG1_TRUST_HOLD, R.GN_TRUST_CFG1_CN0_MAX, R.GN_TRUST_CFG1_AGC_DROP, R.GN_TRUST_CFG1_DIFF_LIM, R.GN_TRUST_CFG1_RESID_LIM] }

def R.GN_SOLx_OFS_LO_OFS : Fld := { addr := 0x628100, s1 := 0x10, hi := 31, lo := 0, acc := .ro }
/-- GN_SOLx_OFS_LO (R257, spec/06). -/
def R.GN_SOLx_OFS_LO : Reg := { addr := 0x628100, n1 := 2, s1 := 0x10, fields := [R.GN_SOLx_OFS_LO_OFS] }

def R.GN_SOLx_OFS_HI_OFS : Fld := { addr := 0x628104, s1 := 0x10, hi := 31, lo := 0, acc := .ro }
/-- GN_SOLx_OFS_HI (R257, spec/06). -/
def R.GN_SOLx_OFS_HI : Reg := { addr := 0x628104, n1 := 2, s1 := 0x10, fields := [R.GN_SOLx_OFS_HI_OFS] }

def R.GN_SOLx_STAT_TRUSTED : Fld := { addr := 0x628108, s1 := 0x10, hi := 31, lo := 31, acc := .ro }
def R.GN_SOLx_STAT_VALID : Fld := { addr := 0x628108, s1 := 0x10, hi := 30, lo := 30, acc := .ro }
def R.GN_SOLx_STAT_POS_STATE : Fld := { addr := 0x628108, s1 := 0x10, hi := 29, lo := 28, acc := .ro }
def R.GN_SOLx_STAT_FAIL : Fld := { addr := 0x628108, s1 := 0x10, hi := 27, lo := 23, acc := .ro }
def R.GN_SOLx_STAT_SV_EXCL : Fld := { addr := 0x628108, s1 := 0x10, hi := 22, lo := 22, acc := .ro }
def R.GN_SOLx_STAT_START : Fld := { addr := 0x628108, s1 := 0x10, hi := 21, lo := 20, acc := .ro }
def R.GN_SOLx_STAT_USED : Fld := { addr := 0x628108, s1 := 0x10, hi := 19, lo := 14, acc := .ro }
def R.GN_SOLx_STAT_SEQ : Fld := { addr := 0x628108, s1 := 0x10, hi := 7, lo := 0, acc := .ro }
/-- GN_SOLx_STAT (R257, spec/06). -/
def R.GN_SOLx_STAT : Reg := { addr := 0x628108, n1 := 2, s1 := 0x10, fields := [R.GN_SOLx_STAT_TRUSTED, R.GN_SOLx_STAT_VALID, R.GN_SOLx_STAT_POS_STATE, R.GN_SOLx_STAT_FAIL, R.GN_SOLx_STAT_SV_EXCL, R.GN_SOLx_STAT_START, R.GN_SOLx_STAT_USED, R.GN_SOLx_STAT_SEQ] }

def R.GN_MFIFO_Wk_W : Fld := { addr := 0x628200, s1 := 0x4, hi := 31, lo := 0, acc := .ro }
/-- GN_MFIFO_Wk (R258, spec/06). -/
def R.GN_MFIFO_Wk : Reg := { addr := 0x628200, n1 := 8, s1 := 0x4, fields := [R.GN_MFIFO_Wk_W] }

def R.GN_NFIFO_Wk_W : Fld := { addr := 0x628240, s1 := 0x4, hi := 31, lo := 0, acc := .ro }
/-- GN_NFIFO_Wk (R258, spec/06). -/
def R.GN_NFIFO_Wk : Reg := { addr := 0x628240, n1 := 8, s1 := 0x4, fields := [R.GN_NFIFO_Wk_W] }

def R.GN_FIFO_STAT_M_OVF : Fld := { addr := 0x628280, hi := 31, lo := 31, acc := .w1c }
def R.GN_FIFO_STAT_N_OVF : Fld := { addr := 0x628280, hi := 30, lo := 30, acc := .w1c }
def R.GN_FIFO_STAT_M_LEVEL : Fld := { addr := 0x628280, hi := 26, lo := 16, acc := .ro }
def R.GN_FIFO_STAT_N_LEVEL : Fld := { addr := 0x628280, hi := 9, lo := 0, acc := .ro }
/-- GN_FIFO_STAT (R258, spec/06). -/
def R.GN_FIFO_STAT : Reg := { addr := 0x628280, fields := [R.GN_FIFO_STAT_M_OVF, R.GN_FIFO_STAT_N_OVF, R.GN_FIFO_STAT_M_LEVEL, R.GN_FIFO_STAT_N_LEVEL] }

/-- The registers of GN. -/
def regsGN : List Reg :=
  [R.GN_CFG, R.GN_INx_CFG, R.GN_INx_STAT, R.GN_NOTCHx_k, R.GN_TIM_CFG, R.GN_ANT_DLYx, R.GN_POSx_X,
   R.GN_POSx_Y, R.GN_POSx_Z, R.GN_TRUST_CFG0, R.GN_TRUST_CFG1, R.GN_SOLx_OFS_LO, R.GN_SOLx_OFS_HI,
   R.GN_SOLx_STAT, R.GN_MFIFO_Wk, R.GN_NFIFO_Wk, R.GN_FIFO_STAT]

/-! ### ET -/

def R.ET_CFG_WM : Fld := { addr := 0x630000, hi := 29, lo := 16, acc := .rwl, reset := fun _ _ => 8192, min := 1, max := some 16383 }
def R.ET_CFG_REF : Fld := { addr := 0x630000, hi := 3, lo := 3, acc := .rwl }
def R.ET_CFG_TB : Fld := { addr := 0x630000, hi := 2, lo := 0, acc := .rwl }
/-- ET_CFG (R274, spec/07). -/
def R.ET_CFG : Reg := { addr := 0x630000, fields := [R.ET_CFG_WM, R.ET_CFG_REF, R.ET_CFG_TB] }

def R.ET_STAT_REF_WAIT : Fld := { addr := 0x630004, hi := 31, lo := 31, acc := .ro }
def R.ET_STAT_OVF : Fld := { addr := 0x630004, hi := 30, lo := 30, acc := .w1c }
def R.ET_STAT_DROP_CNT : Fld := { addr := 0x630004, hi := 29, lo := 15, acc := .ro }
def R.ET_STAT_LEVEL : Fld := { addr := 0x630004, hi := 14, lo := 0, acc := .ro }
/-- ET_STAT (R274, spec/07). -/
def R.ET_STAT : Reg := { addr := 0x630004, fields := [R.ET_STAT_REF_WAIT, R.ET_STAT_OVF, R.ET_STAT_DROP_CNT, R.ET_STAT_LEVEL] }

def R.ET_FIFO_Wk_W : Fld := { addr := 0x630010, s1 := 0x4, hi := 31, lo := 0, acc := .ro }
/-- ET_FIFO_Wk (R275, spec/07). -/
def R.ET_FIFO_Wk : Reg := { addr := 0x630010, n1 := 4, s1 := 0x4, fields := [R.ET_FIFO_Wk_W] }

def R.ET_INi_CFG_TERM : Fld := { addr := 0x630100, s1 := 0x20, hi := 14, lo := 14, acc := .rwl }
def R.ET_INi_CFG_FMT : Fld := { addr := 0x630100, s1 := 0x20, hi := 13, lo := 12, acc := .rwl, max := some 2 }
def R.ET_INi_CFG_STOP_IN : Fld := { addr := 0x630100, s1 := 0x20, hi := 11, lo := 8, acc := .rwl }
def R.ET_INi_CFG_STOP_EDGE : Fld := { addr := 0x630100, s1 := 0x20, hi := 6, lo := 5, acc := .rwl, max := some 2 }
def R.ET_INi_CFG_EDGE : Fld := { addr := 0x630100, s1 := 0x20, hi := 4, lo := 3, acc := .rwl, max := some 2 }
def R.ET_INi_CFG_MODE : Fld := { addr := 0x630100, s1 := 0x20, hi := 2, lo := 1, acc := .rwl }
def R.ET_INi_CFG_EN : Fld := { addr := 0x630100, s1 := 0x20, hi := 0, lo := 0, acc := .rwl }
/-- ET_INi_CFG (R276, spec/07). -/
def R.ET_INi_CFG : Reg := { addr := 0x630100, n1 := 16, s1 := 0x20, fields := [R.ET_INi_CFG_TERM, R.ET_INi_CFG_FMT, R.ET_INi_CFG_STOP_IN, R.ET_INi_CFG_STOP_EDGE, R.ET_INi_CFG_EDGE, R.ET_INi_CFG_MODE, R.ET_INi_CFG_EN] }

def R.ET_INi_TMO_LO_TIMEOUT : Fld := { addr := 0x630104, s1 := 0x20, hi := 31, lo := 0, acc := .rwl, reset := fun _ _ => 1000000000 }
/-- ET_INi_TMO_LO (R277, spec/07). -/
def R.ET_INi_TMO_LO : Reg := { addr := 0x630104, n1 := 16, s1 := 0x20, fields := [R.ET_INi_TMO_LO_TIMEOUT] }

def R.ET_INi_TMO_HI_TIMEOUT : Fld := { addr := 0x630108, s1 := 0x20, hi := 8, lo := 0, acc := .rwl }
/-- ET_INi_TMO_HI (R277, spec/07). -/
def R.ET_INi_TMO_HI : Reg := { addr := 0x630108, n1 := 16, s1 := 0x20, fields := [R.ET_INi_TMO_HI_TIMEOUT] }

def R.ET_INi_PWIN_PAIR_WIN : Fld := { addr := 0x63010c, s1 := 0x20, hi := 19, lo := 0, acc := .rwl, reset := fun _ _ => 10, max := some 1000000 }
/-- ET_INi_PWIN (R277, spec/07). -/
def R.ET_INi_PWIN : Reg := { addr := 0x63010c, n1 := 16, s1 := 0x20, fields := [R.ET_INi_PWIN_PAIR_WIN] }

def R.ET_INi_GATE_GATE : Fld := { addr := 0x630110, s1 := 0x20, hi := 29, lo := 0, acc := .rwl, reset := fun _ _ => 1000000, min := 1, max := some 1000000000 }
/-- ET_INi_GATE (R277, spec/07). -/
def R.ET_INi_GATE : Reg := { addr := 0x630110, n1 := 16, s1 := 0x20, fields := [R.ET_INi_GATE_GATE] }

def R.ET_INi_DLY_DLY : Fld := { addr := 0x630114, s1 := 0x20, hi := 17, lo := 0, acc := .rwl, signed := true, min := -100000, max := some 100000 }
/-- ET_INi_DLY (R277, spec/07). -/
def R.ET_INi_DLY : Reg := { addr := 0x630114, n1 := 16, s1 := 0x20, fields := [R.ET_INi_DLY_DLY] }

def R.ET_INi_STAT_PEND : Fld := { addr := 0x630118, s1 := 0x20, hi := 31, lo := 28, acc := .ro }
def R.ET_INi_STAT_HELD : Fld := { addr := 0x630118, s1 := 0x20, hi := 27, lo := 24, acc := .ro }
def R.ET_INi_STAT_ORPHAN_CNT : Fld := { addr := 0x630118, s1 := 0x20, hi := 23, lo := 12, acc := .ro }
def R.ET_INi_STAT_LOST_CNT : Fld := { addr := 0x630118, s1 := 0x20, hi := 11, lo := 0, acc := .ro }
/-- ET_INi_STAT (R278, spec/07). -/
def R.ET_INi_STAT : Reg := { addr := 0x630118, n1 := 16, s1 := 0x20, fields := [R.ET_INi_STAT_PEND, R.ET_INi_STAT_HELD, R.ET_INi_STAT_ORPHAN_CNT, R.ET_INi_STAT_LOST_CNT] }

/-- The registers of ET. -/
def regsET : List Reg :=
  [R.ET_CFG, R.ET_STAT, R.ET_FIFO_Wk, R.ET_INi_CFG, R.ET_INi_TMO_LO, R.ET_INi_TMO_HI,
   R.ET_INi_PWIN, R.ET_INi_GATE, R.ET_INi_DLY, R.ET_INi_STAT]

/-! ### FD -/

def R.FD_EPOCH_CFG_MAX_RES : Fld := { addr := 0x638004, hi := 13, lo := 0, acc := .rwl, reset := fun _ _ => 400, min := 10, max := some 10000 }
/-- FD_EPOCH_CFG (R363, spec/10). -/
def R.FD_EPOCH_CFG : Reg := { addr := 0x638004, fields := [R.FD_EPOCH_CFG_MAX_RES] }

def R.FD_EPOCH_STAT_EPOCH : Fld := { addr := 0x638008, hi := 31, lo := 31, acc := .ro }
def R.FD_EPOCH_STAT_STATE : Fld := { addr := 0x638008, hi := 30, lo := 29, acc := .ro }
def R.FD_EPOCH_STAT_CONFIGURED : Fld := { addr := 0x638008, hi := 28, lo := 28, acc := .ro }
def R.FD_EPOCH_STAT_CHANGES : Fld := { addr := 0x638008, hi := 12, lo := 0, acc := .ro }
/-- FD_EPOCH_STAT (R363, spec/10). -/
def R.FD_EPOCH_STAT : Reg := { addr := 0x638008, fields := [R.FD_EPOCH_STAT_EPOCH, R.FD_EPOCH_STAT_STATE, R.FD_EPOCH_STAT_CONFIGURED, R.FD_EPOCH_STAT_CHANGES] }

def R.FD_OLD_CNT_OLD_CNT : Fld := { addr := 0x63800c, hi := 31, lo := 0, acc := .ro }
/-- FD_OLD_CNT (R363, spec/10). -/
def R.FD_OLD_CNT : Reg := { addr := 0x63800c, fields := [R.FD_OLD_CNT_OLD_CNT] }

def R.FD_TBL_CTRL_GO : Fld := { addr := 0x638010, hi := 31, lo := 31, acc := .wo }
def R.FD_TBL_CTRL_BUSY : Fld := { addr := 0x638010, hi := 30, lo := 30, acc := .ro }
def R.FD_TBL_CTRL_ERR : Fld := { addr := 0x638010, hi := 29, lo := 29, acc := .ro }
def R.FD_TBL_CTRL_IMAGE : Fld := { addr := 0x638010, hi := 28, lo := 28, acc := .rw }
def R.FD_TBL_CTRL_OP : Fld := { addr := 0x638010, hi := 27, lo := 26, acc := .rw }
def R.FD_TBL_CTRL_TBL : Fld := { addr := 0x638010, hi := 25, lo := 22, acc := .rw, max := some 6 }
def R.FD_TBL_CTRL_INDEX : Fld := { addr := 0x638010, hi := 17, lo := 0, acc := .rw }
/-- FD_TBL_CTRL (R364, spec/10). -/
def R.FD_TBL_CTRL : Reg := { addr := 0x638010, fields := [R.FD_TBL_CTRL_GO, R.FD_TBL_CTRL_BUSY, R.FD_TBL_CTRL_ERR, R.FD_TBL_CTRL_IMAGE, R.FD_TBL_CTRL_OP, R.FD_TBL_CTRL_TBL, R.FD_TBL_CTRL_INDEX] }

def R.FD_TBL_DATAi_DATA : Fld := { addr := 0x638020, s1 := 0x4, hi := 31, lo := 0, acc := .rw }
/-- FD_TBL_DATAi (R364, spec/10). -/
def R.FD_TBL_DATAi : Reg := { addr := 0x638020, n1 := 18, s1 := 0x4, fields := [R.FD_TBL_DATAi_DATA] }

/-- The registers of FD. -/
def regsFD : List Reg :=
  [R.FD_EPOCH_CFG, R.FD_EPOCH_STAT, R.FD_OLD_CNT, R.FD_TBL_CTRL, R.FD_TBL_DATAi]

/-! ### CL -/

def R.CL_POOL_STAT_SHARED_FREE : Fld := { addr := 0x640000, hi := 18, lo := 0, acc := .ro, reset := fun _ _ => 259840 }
/-- CL_POOL_STAT (R365, spec/10). -/
def R.CL_POOL_STAT : Reg := { addr := 0x640000, fields := [R.CL_POOL_STAT_SHARED_FREE] }

def R.CL_ECC_STAT_DBE : Fld := { addr := 0x640004, hi := 31, lo := 31, acc := .w1c }
def R.CL_ECC_STAT_DBE_BANK : Fld := { addr := 0x640004, hi := 21, lo := 16, acc := .ro }
def R.CL_ECC_STAT_CORR : Fld := { addr := 0x640004, hi := 15, lo := 0, acc := .ro }
/-- CL_ECC_STAT (R365, spec/10). -/
def R.CL_ECC_STAT : Reg := { addr := 0x640004, fields := [R.CL_ECC_STAT_DBE, R.CL_ECC_STAT_DBE_BANK, R.CL_ECC_STAT_CORR] }

def R.CL_PORTp_SHARE_SHARE_LIM : Fld := { addr := 0x640100, s1 := 0x4, hi := 18, lo := 0, acc := .rwl, reset := fun _ _ => 16384, max := some 262143 }
/-- CL_PORTp_SHARE (R366, spec/10). -/
def R.CL_PORTp_SHARE : Reg := { addr := 0x640100, n1 := 48, s1 := 0x4, fields := [R.CL_PORTp_SHARE_SHARE_LIM] }

def R.CL_PORTp_USE_USE : Fld := { addr := 0x640200, s1 := 0x4, hi := 18, lo := 0, acc := .ro }
/-- CL_PORTp_USE (R366, spec/10). -/
def R.CL_PORTp_USE : Reg := { addr := 0x640200, n1 := 48, s1 := 0x4, fields := [R.CL_PORTp_USE_USE] }

def R.CL_RSVp_LO_RSV : Fld := { addr := 0x640300, s1 := 0x8, hi := 31, lo := 0, acc := .rwl, reset := fun _ _ => 101058054 }
/-- CL_RSVp_LO (R367, spec/10). -/
def R.CL_RSVp_LO : Reg := { addr := 0x640300, n1 := 48, s1 := 0x8, fields := [R.CL_RSVp_LO_RSV] }

def R.CL_RSVp_HI_RSV : Fld := { addr := 0x640304, s1 := 0x8, hi := 31, lo := 0, acc := .rwl, reset := fun _ _ => 101058054 }
/-- CL_RSVp_HI (R367, spec/10). -/
def R.CL_RSVp_HI : Reg := { addr := 0x640304, n1 := 48, s1 := 0x8, fields := [R.CL_RSVp_HI_RSV] }

def R.CL_BANKk_RSV_RSV : Fld := { addr := 0x640800, s1 := 0x4, hi := 12, lo := 0, acc := .rwl, max := some 4096 }
/-- CL_BANKk_RSV (R368, spec/10). -/
def R.CL_BANKk_RSV : Reg := { addr := 0x640800, n1 := 64, s1 := 0x4, fields := [R.CL_BANKk_RSV_RSV] }

def R.CL_BANKk_STAT_MAX_WAIT : Fld := { addr := 0x640900, s1 := 0x4, hi := 29, lo := 24, acc := .ro }
def R.CL_BANKk_STAT_PARK : Fld := { addr := 0x640900, s1 := 0x4, hi := 20, lo := 16, acc := .ro }
def R.CL_BANKk_STAT_FREE : Fld := { addr := 0x640900, s1 := 0x4, hi := 12, lo := 0, acc := .ro, reset := fun _ _ => 4096 }
/-- CL_BANKk_STAT (R368, spec/10). -/
def R.CL_BANKk_STAT : Reg := { addr := 0x640900, n1 := 64, s1 := 0x4, fields := [R.CL_BANKk_STAT_MAX_WAIT, R.CL_BANKk_STAT_PARK, R.CL_BANKk_STAT_FREE] }

/-- The registers of CL. -/
def regsCL : List Reg :=
  [R.CL_POOL_STAT, R.CL_ECC_STAT, R.CL_PORTp_SHARE, R.CL_PORTp_USE, R.CL_RSVp_LO, R.CL_RSVp_HI,
   R.CL_BANKk_RSV, R.CL_BANKk_STAT]

/-! ### SC -/

def R.SC_TBL_CTRL_GO : Fld := { addr := 0x648000, hi := 31, lo := 31, acc := .wo }
def R.SC_TBL_CTRL_BUSY : Fld := { addr := 0x648000, hi := 30, lo := 30, acc := .ro }
def R.SC_TBL_CTRL_ERR : Fld := { addr := 0x648000, hi := 29, lo := 29, acc := .ro }
def R.SC_TBL_CTRL_OP : Fld := { addr := 0x648000, hi := 28, lo := 28, acc := .rw }
def R.SC_TBL_CTRL_PORT : Fld := { addr := 0x648000, hi := 21, lo := 16, acc := .rw, max := some 47 }
def R.SC_TBL_CTRL_BANK : Fld := { addr := 0x648000, hi := 10, lo := 10, acc := .rw }
def R.SC_TBL_CTRL_INDEX : Fld := { addr := 0x648000, hi := 9, lo := 0, acc := .rw }
/-- SC_TBL_CTRL (R386, spec/11). -/
def R.SC_TBL_CTRL : Reg := { addr := 0x648000, fields := [R.SC_TBL_CTRL_GO, R.SC_TBL_CTRL_BUSY, R.SC_TBL_CTRL_ERR, R.SC_TBL_CTRL_OP, R.SC_TBL_CTRL_PORT, R.SC_TBL_CTRL_BANK, R.SC_TBL_CTRL_INDEX] }

def R.SC_TBL_DATAi_DATA : Fld := { addr := 0x648004, s1 := 0x4, hi := 31, lo := 0, acc := .rw }
/-- SC_TBL_DATAi (R386, spec/11). -/
def R.SC_TBL_DATAi : Reg := { addr := 0x648004, n1 := 2, s1 := 0x4, fields := [R.SC_TBL_DATAi_DATA] }

def R.SC_AW_LOG_VALID : Fld := { addr := 0x64800c, hi := 31, lo := 31, acc := .w1c }
def R.SC_AW_LOG_SRC : Fld := { addr := 0x64800c, hi := 30, lo := 30, acc := .ro }
def R.SC_AW_LOG_PORT : Fld := { addr := 0x64800c, hi := 29, lo := 24, acc := .ro }
def R.SC_AW_LOG_BANK : Fld := { addr := 0x64800c, hi := 23, lo := 23, acc := .ro }
def R.SC_AW_LOG_FIELD : Fld := { addr := 0x64800c, hi := 22, lo := 22, acc := .ro }
def R.SC_AW_LOG_INDEX : Fld := { addr := 0x64800c, hi := 19, lo := 10, acc := .ro }
def R.SC_AW_LOG_COUNT : Fld := { addr := 0x64800c, hi := 9, lo := 0, acc := .ro }
/-- SC_AW_LOG (R387, spec/11). -/
def R.SC_AW_LOG : Reg := { addr := 0x64800c, fields := [R.SC_AW_LOG_VALID, R.SC_AW_LOG_SRC, R.SC_AW_LOG_PORT, R.SC_AW_LOG_BANK, R.SC_AW_LOG_FIELD, R.SC_AW_LOG_INDEX, R.SC_AW_LOG_COUNT] }

def R.SC_Pp_CFG_WAKE_LEAD : Fld := { addr := 0x649000, s1 := 0x100, hi := 25, lo := 16, acc := .rwl, reset := fun _ _ => 160, max := some 1000 }
def R.SC_Pp_CFG_BSEL : Fld := { addr := 0x649000, s1 := 0x100, hi := 8, lo := 8, acc := .rwl }
def R.SC_Pp_CFG_TB : Fld := { addr := 0x649000, s1 := 0x100, hi := 6, lo := 4, acc := .rwl }
def R.SC_Pp_CFG_STOP : Fld := { addr := 0x649000, s1 := 0x100, hi := 1, lo := 1, acc := .wo }
/-- SC_Pp_CFG (R388, spec/11). -/
def R.SC_Pp_CFG : Reg := { addr := 0x649000, n1 := 48, s1 := 0x100, fields := [R.SC_Pp_CFG_WAKE_LEAD, R.SC_Pp_CFG_BSEL, R.SC_Pp_CFG_TB, R.SC_Pp_CFG_STOP] }

def R.SC_Pp_STAT_ACTIVE : Fld := { addr := 0x649004, s1 := 0x100, hi := 31, lo := 31, acc := .ro }
def R.SC_Pp_STAT_PENDING : Fld := { addr := 0x649004, s1 := 0x100, hi := 30, lo := 30, acc := .ro }
def R.SC_Pp_STAT_ALIGN_LOST : Fld := { addr := 0x649004, s1 := 0x100, hi := 29, lo := 29, acc := .ro }
def R.SC_Pp_STAT_RUN : Fld := { addr := 0x649004, s1 := 0x100, hi := 28, lo := 28, acc := .ro }
def R.SC_Pp_STAT_CANCELLED : Fld := { addr := 0x649004, s1 := 0x100, hi := 27, lo := 27, acc := .ro }
def R.SC_Pp_STAT_ENTRY : Fld := { addr := 0x649004, s1 := 0x100, hi := 25, lo := 16, acc := .ro }
def R.SC_Pp_STAT_SW_OVR : Fld := { addr := 0x649004, s1 := 0x100, hi := 15, lo := 0, acc := .ro }
/-- SC_Pp_STAT (R388, spec/11). -/
def R.SC_Pp_STAT : Reg := { addr := 0x649004, n1 := 48, s1 := 0x100, fields := [R.SC_Pp_STAT_ACTIVE, R.SC_Pp_STAT_PENDING, R.SC_Pp_STAT_ALIGN_LOST, R.SC_Pp_STAT_RUN, R.SC_Pp_STAT_CANCELLED, R.SC_Pp_STAT_ENTRY, R.SC_Pp_STAT_SW_OVR] }

def R.SC_Pp_CYCx_CYCLE : Fld := { addr := 0x649008, s1 := 0x100, s2 := 0x8, hi := 26, lo := 0, acc := .rwl, reset := fun _ _ => 125000, min := 125, max := some 125000000 }
/-- SC_Pp_CYCx (R389, spec/11). -/
def R.SC_Pp_CYCx : Reg := { addr := 0x649008, n1 := 48, s1 := 0x100, n2 := 2, s2 := 0x8, fields := [R.SC_Pp_CYCx_CYCLE] }

def R.SC_Pp_NUMx_NUM : Fld := { addr := 0x64900c, s1 := 0x100, s2 := 0x8, hi := 10, lo := 0, acc := .rwl, reset := fun _ _ => 1, min := 1, max := some 1024 }
/-- SC_Pp_NUMx (R389, spec/11). -/
def R.SC_Pp_NUMx : Reg := { addr := 0x64900c, n1 := 48, s1 := 0x100, n2 := 2, s2 := 0x8, fields := [R.SC_Pp_NUMx_NUM] }

def R.SC_Pp_ORIGIN_LO_ORIGIN : Fld := { addr := 0x649018, s1 := 0x100, hi := 31, lo := 0, acc := .ro }
/-- SC_Pp_ORIGIN_LO (R390, spec/11). -/
def R.SC_Pp_ORIGIN_LO : Reg := { addr := 0x649018, n1 := 48, s1 := 0x100, fields := [R.SC_Pp_ORIGIN_LO_ORIGIN] }

def R.SC_Pp_ORIGIN_HI_ORIGIN : Fld := { addr := 0x64901c, s1 := 0x100, hi := 31, lo := 0, acc := .ro }
/-- SC_Pp_ORIGIN_HI (R390, spec/11). -/
def R.SC_Pp_ORIGIN_HI : Reg := { addr := 0x64901c, n1 := 48, s1 := 0x100, fields := [R.SC_Pp_ORIGIN_HI_ORIGIN] }

def R.SC_Pp_QLIMc_QLIM : Fld := { addr := 0x649020, s1 := 0x100, s2 := 0x4, hi := 15, lo := 0, acc := .rwl, reset := fun _ j => if j < 5 then 8192 else if j < 7 then 1024 else 256 }
/-- SC_Pp_QLIMc (R391, spec/11). -/
def R.SC_Pp_QLIMc : Reg := { addr := 0x649020, n1 := 48, s1 := 0x100, n2 := 8, s2 := 0x4, fields := [R.SC_Pp_QLIMc_QLIM] }

def R.SC_Pp_SHAPEc_BURSTM1 : Fld := { addr := 0x649040, s1 := 0x100, s2 := 0x4, hi := 31, lo := 18, acc := .rwl, reset := fun _ _ => 63 }
def R.SC_Pp_SHAPEc_RATE : Fld := { addr := 0x649040, s1 := 0x100, s2 := 0x4, hi := 17, lo := 0, acc := .rwl, max := some 200000 }
/-- SC_Pp_SHAPEc (R391, spec/11). -/
def R.SC_Pp_SHAPEc : Reg := { addr := 0x649040, n1 := 48, s1 := 0x100, n2 := 8, s2 := 0x4, fields := [R.SC_Pp_SHAPEc_BURSTM1, R.SC_Pp_SHAPEc_RATE] }

def R.SC_Pp_DWRR0_W3 : Fld := { addr := 0x649060, s1 := 0x100, hi := 31, lo := 24, acc := .rwl, reset := fun _ _ => 1, min := 1, max := some 255 }
def R.SC_Pp_DWRR0_W2 : Fld := { addr := 0x649060, s1 := 0x100, hi := 23, lo := 16, acc := .rwl, reset := fun _ _ => 1, min := 1, max := some 255 }
def R.SC_Pp_DWRR0_W1 : Fld := { addr := 0x649060, s1 := 0x100, hi := 15, lo := 8, acc := .rwl, reset := fun _ _ => 1, min := 1, max := some 255 }
def R.SC_Pp_DWRR0_W0 : Fld := { addr := 0x649060, s1 := 0x100, hi := 7, lo := 0, acc := .rwl, reset := fun _ _ => 1, min := 1, max := some 255 }
/-- SC_Pp_DWRR0 (R392, spec/11). -/
def R.SC_Pp_DWRR0 : Reg := { addr := 0x649060, n1 := 48, s1 := 0x100, fields := [R.SC_Pp_DWRR0_W3, R.SC_Pp_DWRR0_W2, R.SC_Pp_DWRR0_W1, R.SC_Pp_DWRR0_W0] }

def R.SC_Pp_DWRR1_W4 : Fld := { addr := 0x649064, s1 := 0x100, hi := 7, lo := 0, acc := .rwl, reset := fun _ _ => 1, min := 1, max := some 255 }
/-- SC_Pp_DWRR1 (R392, spec/11). -/
def R.SC_Pp_DWRR1 : Reg := { addr := 0x649064, n1 := 48, s1 := 0x100, fields := [R.SC_Pp_DWRR1_W4] }

/-- The registers of SC. -/
def regsSC : List Reg :=
  [R.SC_TBL_CTRL, R.SC_TBL_DATAi, R.SC_AW_LOG, R.SC_Pp_CFG, R.SC_Pp_STAT, R.SC_Pp_CYCx,
   R.SC_Pp_NUMx, R.SC_Pp_ORIGIN_LO, R.SC_Pp_ORIGIN_HI, R.SC_Pp_QLIMc, R.SC_Pp_SHAPEc,
   R.SC_Pp_DWRR0, R.SC_Pp_DWRR1]

/-! ### FO -/

def R.FO_CFG_REPLACE_DELAY : Fld := { addr := 0x658000, hi := 25, lo := 16, acc := .rwl, reset := fun _ _ => 10, min := 1, max := some 1000 }
def R.FO_CFG_AUTO_REPL : Fld := { addr := 0x658000, hi := 0, lo := 0, acc := .rwl, reset := fun _ _ => 1 }
/-- FO_CFG (R415, spec/12). -/
def R.FO_CFG : Reg := { addr := 0x658000, fields := [R.FO_CFG_REPLACE_DELAY, R.FO_CFG_AUTO_REPL] }

def R.FO_STAT_STATE : Fld := { addr := 0x658004, hi := 31, lo := 30, acc := .ro }
def R.FO_STAT_DISCARDED : Fld := { addr := 0x658004, hi := 29, lo := 29, acc := .w1c }
def R.FO_STAT_EVICTED : Fld := { addr := 0x658004, hi := 28, lo := 28, acc := .w1c }
def R.FO_STAT_DEGRADED : Fld := { addr := 0x658004, hi := 27, lo := 27, acc := .ro }
def R.FO_STAT_LAST_REASON : Fld := { addr := 0x658004, hi := 23, lo := 16, acc := .ro }
def R.FO_STAT_PLACED : Fld := { addr := 0x658004, hi := 15, lo := 0, acc := .ro }
/-- FO_STAT (R415, spec/12). -/
def R.FO_STAT : Reg := { addr := 0x658004, fields := [R.FO_STAT_STATE, R.FO_STAT_DISCARDED, R.FO_STAT_EVICTED, R.FO_STAT_DEGRADED, R.FO_STAT_LAST_REASON, R.FO_STAT_PLACED] }

def R.FO_TQ_LOAD0_TQ1 : Fld := { addr := 0x658008, hi := 31, lo := 16, acc := .ro }
def R.FO_TQ_LOAD0_TQ0 : Fld := { addr := 0x658008, hi := 15, lo := 0, acc := .ro }
/-- FO_TQ_LOAD0 (R416, spec/12). -/
def R.FO_TQ_LOAD0 : Reg := { addr := 0x658008, fields := [R.FO_TQ_LOAD0_TQ1, R.FO_TQ_LOAD0_TQ0] }

def R.FO_TQ_LOAD1_TQ3 : Fld := { addr := 0x65800c, hi := 31, lo := 16, acc := .ro }
def R.FO_TQ_LOAD1_TQ2 : Fld := { addr := 0x65800c, hi := 15, lo := 0, acc := .ro }
/-- FO_TQ_LOAD1 (R416, spec/12). -/
def R.FO_TQ_LOAD1 : Reg := { addr := 0x65800c, fields := [R.FO_TQ_LOAD1_TQ3, R.FO_TQ_LOAD1_TQ2] }

def R.FO_DIGEST_DIGEST : Fld := { addr := 0x658010, hi := 31, lo := 0, acc := .ro }
/-- FO_DIGEST (R416, spec/12). -/
def R.FO_DIGEST : Reg := { addr := 0x658010, fields := [R.FO_DIGEST_DIGEST] }

def R.FO_REPL_STAT_REPL_CNT : Fld := { addr := 0x658014, hi := 31, lo := 16, acc := .ro }
def R.FO_REPL_STAT_LAST_US : Fld := { addr := 0x658014, hi := 15, lo := 0, acc := .ro }
/-- FO_REPL_STAT (R416, spec/12). -/
def R.FO_REPL_STAT : Reg := { addr := 0x658014, fields := [R.FO_REPL_STAT_REPL_CNT, R.FO_REPL_STAT_LAST_US] }

def R.FO_PORTp_CFG_MANAGED : Fld := { addr := 0x658100, s1 := 0x4, hi := 31, lo := 31, acc := .rwl }
def R.FO_PORTp_CFG_TIMING_WIN : Fld := { addr := 0x658100, s1 := 0x4, hi := 30, lo := 12, acc := .rwl, reset := fun _ _ => 500 }
def R.FO_PORTp_CFG_CYCLE : Fld := { addr := 0x658100, s1 := 0x4, hi := 11, lo := 0, acc := .rwl, reset := fun _ _ => 1000, min := 10, max := some 4000 }
/-- FO_PORTp_CFG (R417, spec/12). -/
def R.FO_PORTp_CFG : Reg := { addr := 0x658100, n1 := 48, s1 := 0x4, fields := [R.FO_PORTp_CFG_MANAGED, R.FO_PORTp_CFG_TIMING_WIN, R.FO_PORTp_CFG_CYCLE] }

/-- The registers of FO. -/
def regsFO : List Reg :=
  [R.FO_CFG, R.FO_STAT, R.FO_TQ_LOAD0, R.FO_TQ_LOAD1, R.FO_DIGEST, R.FO_REPL_STAT, R.FO_PORTp_CFG]

/-! ### RD -/

def R.RD_CTX_CTRL_GO : Fld := { addr := 0x650000, hi := 31, lo := 31, acc := .wo }
def R.RD_CTX_CTRL_BUSY : Fld := { addr := 0x650000, hi := 30, lo := 30, acc := .ro }
def R.RD_CTX_CTRL_ERR : Fld := { addr := 0x650000, hi := 29, lo := 29, acc := .ro }
def R.RD_CTX_CTRL_OP : Fld := { addr := 0x650000, hi := 28, lo := 28, acc := .rw }
def R.RD_CTX_CTRL_CTX : Fld := { addr := 0x650000, hi := 12, lo := 0, acc := .rw }
/-- RD_CTX_CTRL (R453, spec/13). -/
def R.RD_CTX_CTRL : Reg := { addr := 0x650000, fields := [R.RD_CTX_CTRL_GO, R.RD_CTX_CTRL_BUSY, R.RD_CTX_CTRL_ERR, R.RD_CTX_CTRL_OP, R.RD_CTX_CTRL_CTX] }

def R.RD_CTX_DATA0_LAT_PATHS : Fld := { addr := 0x650004, hi := 26, lo := 24, acc := .rw, reset := fun _ _ => 2, min := 2, max := some 7 }
def R.RD_CTX_DATA0_HIST_LEN : Fld := { addr := 0x650004, hi := 22, lo := 16, acc := .rw, reset := fun _ _ => 32, min := 2, max := some 64 }
def R.RD_CTX_DATA0_FORESTER : Fld := { addr := 0x650004, hi := 9, lo := 9, acc := .ro }
def R.RD_CTX_DATA0_CMP : Fld := { addr := 0x650004, hi := 8, lo := 8, acc := .rw }
def R.RD_CTX_DATA0_TAGLESS : Fld := { addr := 0x650004, hi := 7, lo := 7, acc := .rw }
def R.RD_CTX_DATA0_SEQ_SRC : Fld := { addr := 0x650004, hi := 6, lo := 6, acc := .rw }
def R.RD_CTX_DATA0_STRIP : Fld := { addr := 0x650004, hi := 5, lo := 5, acc := .rw }
def R.RD_CTX_DATA0_LAT_EN : Fld := { addr := 0x650004, hi := 4, lo := 4, acc := .rw }
def R.RD_CTX_DATA0_INDIV : Fld := { addr := 0x650004, hi := 3, lo := 3, acc := .rw }
def R.RD_CTX_DATA0_RCVY : Fld := { addr := 0x650004, hi := 2, lo := 2, acc := .rw }
def R.RD_CTX_DATA0_GEN : Fld := { addr := 0x650004, hi := 1, lo := 1, acc := .rw }
def R.RD_CTX_DATA0_VALID : Fld := { addr := 0x650004, hi := 0, lo := 0, acc := .rw }
/-- RD_CTX_DATA0 (R453, spec/13). -/
def R.RD_CTX_DATA0 : Reg := { addr := 0x650004, fields := [R.RD_CTX_DATA0_LAT_PATHS, R.RD_CTX_DATA0_HIST_LEN, R.RD_CTX_DATA0_FORESTER, R.RD_CTX_DATA0_CMP, R.RD_CTX_DATA0_TAGLESS, R.RD_CTX_DATA0_SEQ_SRC, R.RD_CTX_DATA0_STRIP, R.RD_CTX_DATA0_LAT_EN, R.RD_CTX_DATA0_INDIV, R.RD_CTX_DATA0_RCVY, R.RD_CTX_DATA0_GEN, R.RD_CTX_DATA0_VALID] }

def R.RD_CTX_DATA1_LAT_DIFF : Fld := { addr := 0x650008, hi := 31, lo := 16, acc := .rw, reset := fun _ _ => 50, min := 1, max := some 65535 }
def R.RD_CTX_DATA1_RESET_TO : Fld := { addr := 0x650008, hi := 15, lo := 0, acc := .rw, reset := fun _ _ => 1000, min := 1, max := some 65535 }
/-- RD_CTX_DATA1 (R453, spec/13). -/
def R.RD_CTX_DATA1 : Reg := { addr := 0x650008, fields := [R.RD_CTX_DATA1_LAT_DIFF, R.RD_CTX_DATA1_RESET_TO] }

def R.RD_CTX_DATA2_LAT_RESET : Fld := { addr := 0x65000c, hi := 31, lo := 16, acc := .rw, reset := fun _ _ => 30, min := 1, max := some 65535 }
def R.RD_CTX_DATA2_LAT_PERIOD : Fld := { addr := 0x65000c, hi := 15, lo := 0, acc := .rw, reset := fun _ _ => 2000, min := 10, max := some 65535 }
/-- RD_CTX_DATA2 (R453, spec/13). -/
def R.RD_CTX_DATA2 : Reg := { addr := 0x65000c, fields := [R.RD_CTX_DATA2_LAT_RESET, R.RD_CTX_DATA2_LAT_PERIOD] }

def R.RD_CTX_DATA3_RES : Fld := { addr := 0x650010, hi := 31, lo := 0, acc := .rw }
/-- RD_CTX_DATA3 (R453, spec/13). -/
def R.RD_CTX_DATA3 : Reg := { addr := 0x650010, fields := [R.RD_CTX_DATA3_RES] }

def R.RD_PAIR_CFG_EN : Fld := { addr := 0x650020, hi := 31, lo := 31, acc := .rwl }
def R.RD_PAIR_CFG_PAIR_TB : Fld := { addr := 0x650020, hi := 30, lo := 28, acc := .rwl }
def R.RD_PAIR_CFG_PORT_B : Fld := { addr := 0x650020, hi := 27, lo := 22, acc := .rwl, reset := fun _ _ => 47, max := some 47 }
def R.RD_PAIR_CFG_PORT_A : Fld := { addr := 0x650020, hi := 21, lo := 16, acc := .rwl, reset := fun _ _ => 46, max := some 47 }
def R.RD_PAIR_CFG_WITNESS : Fld := { addr := 0x650020, hi := 15, lo := 12, acc := .rwl, reset := fun _ _ => 14 }
def R.RD_PAIR_CFG_FAULT_ACT : Fld := { addr := 0x650020, hi := 11, lo := 10, acc := .rwl, max := some 2 }
def R.RD_PAIR_CFG_SAMPLE_LOG : Fld := { addr := 0x650020, hi := 9, lo := 7, acc := .rwl }
/-- RD_PAIR_CFG (R454, spec/13). -/
def R.RD_PAIR_CFG : Reg := { addr := 0x650020, fields := [R.RD_PAIR_CFG_EN, R.RD_PAIR_CFG_PAIR_TB, R.RD_PAIR_CFG_PORT_B, R.RD_PAIR_CFG_PORT_A, R.RD_PAIR_CFG_WITNESS, R.RD_PAIR_CFG_FAULT_ACT, R.RD_PAIR_CFG_SAMPLE_LOG] }

def R.RD_PAIR_CFG2_DOMAIN : Fld := { addr := 0x650024, hi := 31, lo := 24, acc := .rwl }
def R.RD_PAIR_CFG2_RECOVERY_TIME : Fld := { addr := 0x650024, hi := 23, lo := 12, acc := .rwl, reset := fun _ _ => 60, min := 1, max := some 4095 }
def R.RD_PAIR_CFG2_JUDGE_MARGIN : Fld := { addr := 0x650024, hi := 11, lo := 0, acc := .rwl, reset := fun _ _ => 100, min := 1, max := some 4095 }
/-- RD_PAIR_CFG2 (R454, spec/13). -/
def R.RD_PAIR_CFG2 : Reg := { addr := 0x650024, fields := [R.RD_PAIR_CFG2_DOMAIN, R.RD_PAIR_CFG2_RECOVERY_TIME, R.RD_PAIR_CFG2_JUDGE_MARGIN] }

def R.RD_PAIR_STAT_LINK_UP : Fld := { addr := 0x650028, hi := 31, lo := 31, acc := .ro }
def R.RD_PAIR_STAT_CMP_TIME : Fld := { addr := 0x650028, hi := 30, lo := 30, acc := .ro }
def R.RD_PAIR_STAT_RECOVERY : Fld := { addr := 0x650028, hi := 29, lo := 29, acc := .ro }
def R.RD_PAIR_STAT_VERDICT : Fld := { addr := 0x650028, hi := 28, lo := 27, acc := .ro }
def R.RD_PAIR_STAT_CAUSE : Fld := { addr := 0x650028, hi := 26, lo := 24, acc := .ro }
def R.RD_PAIR_STAT_DELTA : Fld := { addr := 0x650028, hi := 15, lo := 0, acc := .ro, signed := true }
/-- RD_PAIR_STAT (R454, spec/13). -/
def R.RD_PAIR_STAT : Reg := { addr := 0x650028, fields := [R.RD_PAIR_STAT_LINK_UP, R.RD_PAIR_STAT_CMP_TIME, R.RD_PAIR_STAT_RECOVERY, R.RD_PAIR_STAT_VERDICT, R.RD_PAIR_STAT_CAUSE, R.RD_PAIR_STAT_DELTA] }

def R.RD_ROLE_CFG_PREF : Fld := { addr := 0x650030, hi := 31, lo := 31, acc := .rwl }
def R.RD_ROLE_CFG_TAKE_UNALIGNED : Fld := { addr := 0x650030, hi := 8, lo := 8, acc := .rwl, reset := fun _ _ => 1 }
def R.RD_ROLE_CFG_IRIG_CTL : Fld := { addr := 0x650030, hi := 5, lo := 5, acc := .rwl }
def R.RD_ROLE_CFG_TOD_CTL : Fld := { addr := 0x650030, hi := 4, lo := 4, acc := .rwl }
def R.RD_ROLE_CFG_PPS_CTL : Fld := { addr := 0x650030, hi := 3, lo := 0, acc := .rwl }
/-- RD_ROLE_CFG (R455, spec/13). -/
def R.RD_ROLE_CFG : Reg := { addr := 0x650030, fields := [R.RD_ROLE_CFG_PREF, R.RD_ROLE_CFG_TAKE_UNALIGNED, R.RD_ROLE_CFG_IRIG_CTL, R.RD_ROLE_CFG_TOD_CTL, R.RD_ROLE_CFG_PPS_CTL] }

def R.RD_ROLE_STAT_HOLD : Fld := { addr := 0x650034, hi := 31, lo := 31, acc := .ro }
def R.RD_ROLE_STAT_ROLE_IN : Fld := { addr := 0x650034, hi := 30, lo := 30, acc := .ro }
def R.RD_ROLE_STAT_ARMED : Fld := { addr := 0x650034, hi := 29, lo := 29, acc := .ro }
def R.RD_ROLE_STAT_ALIGN_OK : Fld := { addr := 0x650034, hi := 28, lo := 28, acc := .ro }
def R.RD_ROLE_STAT_CONTEND : Fld := { addr := 0x650034, hi := 27, lo := 27, acc := .w1c }
def R.RD_ROLE_STAT_LAST_CAUSE : Fld := { addr := 0x650034, hi := 26, lo := 24, acc := .ro }
def R.RD_ROLE_STAT_ALIGN_ERR : Fld := { addr := 0x650034, hi := 15, lo := 0, acc := .ro, signed := true }
/-- RD_ROLE_STAT (R455, spec/13). -/
def R.RD_ROLE_STAT : Reg := { addr := 0x650034, fields := [R.RD_ROLE_STAT_HOLD, R.RD_ROLE_STAT_ROLE_IN, R.RD_ROLE_STAT_ARMED, R.RD_ROLE_STAT_ALIGN_OK, R.RD_ROLE_STAT_CONTEND, R.RD_ROLE_STAT_LAST_CAUSE, R.RD_ROLE_STAT_ALIGN_ERR] }

def R.RD_HEALTH_RUNNING : Fld := { addr := 0x650038, hi := 31, lo := 31, acc := .ro }
def R.RD_HEALTH_COMPARE : Fld := { addr := 0x650038, hi := 11, lo := 10, acc := .ro }
def R.RD_HEALTH_ROLE_IN : Fld := { addr := 0x650038, hi := 9, lo := 8, acc := .ro }
def R.RD_HEALTH_SERIAL : Fld := { addr := 0x650038, hi := 7, lo := 6, acc := .ro }
def R.RD_HEALTH_PPS : Fld := { addr := 0x650038, hi := 5, lo := 4, acc := .ro }
def R.RD_HEALTH_CLKOUT : Fld := { addr := 0x650038, hi := 3, lo := 2, acc := .ro }
def R.RD_HEALTH_APLL : Fld := { addr := 0x650038, hi := 1, lo := 0, acc := .ro }
/-- RD_HEALTH (R456, spec/13). -/
def R.RD_HEALTH : Reg := { addr := 0x650038, fields := [R.RD_HEALTH_RUNNING, R.RD_HEALTH_COMPARE, R.RD_HEALTH_ROLE_IN, R.RD_HEALTH_SERIAL, R.RD_HEALTH_PPS, R.RD_HEALTH_CLKOUT, R.RD_HEALTH_APLL] }

def R.RD_LOOPBRK_LO_PORTS : Fld := { addr := 0x650040, hi := 31, lo := 0, acc := .rwl }
/-- RD_LOOPBRK_LO (R456, spec/13). -/
def R.RD_LOOPBRK_LO : Reg := { addr := 0x650040, fields := [R.RD_LOOPBRK_LO_PORTS] }

def R.RD_LOOPBRK_HI_PORTS : Fld := { addr := 0x650044, hi := 15, lo := 0, acc := .rwl }
/-- RD_LOOPBRK_HI (R456, spec/13). -/
def R.RD_LOOPBRK_HI : Reg := { addr := 0x650044, fields := [R.RD_LOOPBRK_HI_PORTS] }

def R.RD_PFC_STAT_FAIL : Fld := { addr := 0x650048, hi := 31, lo := 31, acc := .ro }
def R.RD_PFC_STAT_CLASSES : Fld := { addr := 0x650048, hi := 28, lo := 24, acc := .ro }
def R.RD_PFC_STAT_PORT : Fld := { addr := 0x650048, hi := 21, lo := 16, acc := .ro }
def R.RD_PFC_STAT_RULE : Fld := { addr := 0x650048, hi := 1, lo := 0, acc := .ro }
/-- RD_PFC_STAT (R456, spec/13). -/
def R.RD_PFC_STAT : Reg := { addr := 0x650048, fields := [R.RD_PFC_STAT_FAIL, R.RD_PFC_STAT_CLASSES, R.RD_PFC_STAT_PORT, R.RD_PFC_STAT_RULE] }

/-- The registers of RD. -/
def regsRD : List Reg :=
  [R.RD_CTX_CTRL, R.RD_CTX_DATA0, R.RD_CTX_DATA1, R.RD_CTX_DATA2, R.RD_CTX_DATA3, R.RD_PAIR_CFG,
   R.RD_PAIR_CFG2, R.RD_PAIR_STAT, R.RD_ROLE_CFG, R.RD_ROLE_STAT, R.RD_HEALTH, R.RD_LOOPBRK_LO,
   R.RD_LOOPBRK_HI, R.RD_PFC_STAT]

/-! ### MB -/

def R.MB_WDTc_CFG_KICK : Fld := { addr := 0x660000, s1 := 0x4, hi := 31, lo := 31, acc := .wo }
def R.MB_WDTc_CFG_TIMEOUT : Fld := { addr := 0x660000, s1 := 0x4, hi := 13, lo := 0, acc := .rwl, reset := fun _ _ => 500, min := 10, max := some 10000 }
/-- MB_WDTc_CFG (R497, spec/14). -/
def R.MB_WDTc_CFG : Reg := { addr := 0x660000, n1 := 4, s1 := 0x4, fields := [R.MB_WDTc_CFG_KICK, R.MB_WDTc_CFG_TIMEOUT] }

def R.BOOT_STAT_SEC_VER : Fld := { addr := 0x660010, hi := 31, lo := 16, acc := .ro }
def R.BOOT_STAT_TRIAL_RUN : Fld := { addr := 0x660010, hi := 7, lo := 7, acc := .ro }
def R.BOOT_STAT_FALLBACK : Fld := { addr := 0x660010, hi := 6, lo := 6, acc := .ro }
def R.BOOT_STAT_WARM_AUTH : Fld := { addr := 0x660010, hi := 5, lo := 5, acc := .ro }
def R.BOOT_STAT_CFG_SIGNED : Fld := { addr := 0x660010, hi := 4, lo := 4, acc := .ro, reset := fun _ _ => 1 }
def R.BOOT_STAT_KEY_IDX : Fld := { addr := 0x660010, hi := 3, lo := 2, acc := .ro }
def R.BOOT_STAT_PREF : Fld := { addr := 0x660010, hi := 1, lo := 1, acc := .ro }
def R.BOOT_STAT_SLOT : Fld := { addr := 0x660010, hi := 0, lo := 0, acc := .ro }
/-- BOOT_STAT (R498, spec/14). -/
def R.BOOT_STAT : Reg := { addr := 0x660010, fields := [R.BOOT_STAT_SEC_VER, R.BOOT_STAT_TRIAL_RUN, R.BOOT_STAT_FALLBACK, R.BOOT_STAT_WARM_AUTH, R.BOOT_STAT_CFG_SIGNED, R.BOOT_STAT_KEY_IDX, R.BOOT_STAT_PREF, R.BOOT_STAT_SLOT] }

def R.CSRAM_CORR_CSRAM_CORR : Fld := { addr := 0x660014, hi := 31, lo := 0, acc := .ro }
/-- CSRAM_CORR (R498, spec/14). -/
def R.CSRAM_CORR : Reg := { addr := 0x660014, fields := [R.CSRAM_CORR_CSRAM_CORR] }

/-- The registers of MB. -/
def regsMB : List Reg :=
  [R.MB_WDTc_CFG, R.BOOT_STAT, R.CSRAM_CORR]

/-! ### FB -/

def R.FB_BLK_WORLD_LO_ENTRY : Fld := { addr := 0x668000, hi := 31, lo := 0, acc := .rwl }
/-- FB_BLK_WORLD_LO (R522, spec/15). -/
def R.FB_BLK_WORLD_LO : Reg := { addr := 0x668000, fields := [R.FB_BLK_WORLD_LO_ENTRY] }

def R.FB_BLK_WORLD_HI_ENTRY : Fld := { addr := 0x668004, hi := 15, lo := 0, acc := .rwl }
/-- FB_BLK_WORLD_HI (R522, spec/15). -/
def R.FB_BLK_WORLD_HI : Reg := { addr := 0x668004, fields := [R.FB_BLK_WORLD_HI_ENTRY] }

def R.FB_REGION_WORLD_REGION : Fld := { addr := 0x668008, hi := 31, lo := 0, acc := .rwl, reset := fun _ _ => 4294901760 }
/-- FB_REGION_WORLD (R522, spec/15). -/
def R.FB_REGION_WORLD : Reg := { addr := 0x668008, fields := [R.FB_REGION_WORLD_REGION] }

def R.FB_PART_WORLD_PART : Fld := { addr := 0x66800c, hi := 7, lo := 0, acc := .rwl }
/-- FB_PART_WORLD (R522, spec/15). -/
def R.FB_PART_WORLD : Reg := { addr := 0x66800c, fields := [R.FB_PART_WORLD_PART] }

def R.FB_CFG_DEBUG_PERMIT : Fld := { addr := 0x668010, hi := 1, lo := 1, acc := .rwl }
def R.FB_CFG_WIN_EN : Fld := { addr := 0x668010, hi := 0, lo := 0, acc := .rwl }
/-- FB_CFG (R522, spec/15). -/
def R.FB_CFG : Reg := { addr := 0x668010, fields := [R.FB_CFG_DEBUG_PERMIT, R.FB_CFG_WIN_EN] }

def R.FB_STAT_DBG_UNLOCKED : Fld := { addr := 0x668014, hi := 0, lo := 0, acc := .ro }
/-- FB_STAT (R522, spec/15). -/
def R.FB_STAT : Reg := { addr := 0x668014, fields := [R.FB_STAT_DBG_UNLOCKED] }

/-- The registers of FB. -/
def regsFB : List Reg :=
  [R.FB_BLK_WORLD_LO, R.FB_BLK_WORLD_HI, R.FB_REGION_WORLD, R.FB_PART_WORLD, R.FB_CFG, R.FB_STAT]

/-! ### CI -/

def R.CI_CFG_AUTO : Fld := { addr := 0x670000, hi := 0, lo := 0, acc := .rwl, reset := fun _ _ => 1 }
/-- CI_CFG (R523, spec/15). -/
def R.CI_CFG : Reg := { addr := 0x670000, fields := [R.CI_CFG_AUTO] }

def R.CI_BLKCRCb_CRC_b : Fld := { addr := 0x670100, s1 := 0x4, hi := 31, lo := 0, acc := .ro }
/-- CI_BLKCRCb (R523, spec/15). -/
def R.CI_BLKCRCb : Reg := { addr := 0x670100, n1 := 48, s1 := 0x4, fields := [R.CI_BLKCRCb_CRC_b] }

def R.CI_BLKREFb_REF_b : Fld := { addr := 0x670200, s1 := 0x4, hi := 31, lo := 0, acc := .ro }
/-- CI_BLKREFb (R523, spec/15). -/
def R.CI_BLKREFb : Reg := { addr := 0x670200, n1 := 48, s1 := 0x4, fields := [R.CI_BLKREFb_REF_b] }

/-- The registers of CI. -/
def regsCI : List Reg :=
  [R.CI_CFG, R.CI_BLKCRCb, R.CI_BLKREFb]

/-! ### TL -/

def R.TL_GCNTg_j_CFG_EN : Fld := { addr := 0x678400, s1 := 0x80, s2 := 0x10, hi := 31, lo := 31, acc := .rwl }
def R.TL_GCNTg_j_CFG_EVNUM : Fld := { addr := 0x678400, s1 := 0x80, s2 := 0x10, hi := 25, lo := 16, acc := .rwl }
def R.TL_GCNTg_j_CFG_PORT : Fld := { addr := 0x678400, s1 := 0x80, s2 := 0x10, hi := 5, lo := 0, acc := .rwl, max := some 47 }
/-- TL_GCNTg_j_CFG (R553, spec/16). -/
def R.TL_GCNTg_j_CFG : Reg := { addr := 0x678400, n1 := 12, s1 := 0x80, n2 := 8, s2 := 0x10, fields := [R.TL_GCNTg_j_CFG_EN, R.TL_GCNTg_j_CFG_EVNUM, R.TL_GCNTg_j_CFG_PORT] }

def R.TL_GCNTg_j_AUX_MATCH : Fld := { addr := 0x678404, s1 := 0x80, s2 := 0x10, hi := 15, lo := 0, acc := .rwl }
/-- TL_GCNTg_j_AUX (R553, spec/16). -/
def R.TL_GCNTg_j_AUX : Reg := { addr := 0x678404, n1 := 12, s1 := 0x80, n2 := 8, s2 := 0x10, fields := [R.TL_GCNTg_j_AUX_MATCH] }

def R.TL_GCNTg_j_ALM_LIMIT : Fld := { addr := 0x678408, s1 := 0x80, s2 := 0x10, hi := 31, lo := 0, acc := .rwl }
/-- TL_GCNTg_j_ALM (R553, spec/16). -/
def R.TL_GCNTg_j_ALM : Reg := { addr := 0x678408, n1 := 12, s1 := 0x80, n2 := 8, s2 := 0x10, fields := [R.TL_GCNTg_j_ALM_LIMIT] }

def R.TL_CNTk_CFG_EN : Fld := { addr := 0x679000, s1 := 0x10, hi := 31, lo := 31, acc := .rwl }
def R.TL_CNTk_CFG_EVNUM : Fld := { addr := 0x679000, s1 := 0x10, hi := 25, lo := 16, acc := .rwl }
def R.TL_CNTk_CFG_PORT : Fld := { addr := 0x679000, s1 := 0x10, hi := 5, lo := 0, acc := .rwl, max := some 47 }
/-- TL_CNTk_CFG (R553, spec/16). -/
def R.TL_CNTk_CFG : Reg := { addr := 0x679000, n1 := 32, s1 := 0x10, fields := [R.TL_CNTk_CFG_EN, R.TL_CNTk_CFG_EVNUM, R.TL_CNTk_CFG_PORT] }

def R.TL_CNTk_AUX_MATCH : Fld := { addr := 0x679004, s1 := 0x10, hi := 15, lo := 0, acc := .rwl }
/-- TL_CNTk_AUX (R553, spec/16). -/
def R.TL_CNTk_AUX : Reg := { addr := 0x679004, n1 := 32, s1 := 0x10, fields := [R.TL_CNTk_AUX_MATCH] }

def R.TL_CNTk_ALM_LIMIT : Fld := { addr := 0x679008, s1 := 0x10, hi := 31, lo := 0, acc := .rwl }
/-- TL_CNTk_ALM (R553, spec/16). -/
def R.TL_CNTk_ALM : Reg := { addr := 0x679008, n1 := 32, s1 := 0x10, fields := [R.TL_CNTk_ALM_LIMIT] }

def R.TL_BWp_CFG_EN : Fld := { addr := 0x67a000, s1 := 0x10, hi := 31, lo := 31, acc := .rwl }
def R.TL_BWp_CFG_WIN : Fld := { addr := 0x67a000, s1 := 0x10, hi := 23, lo := 0, acc := .rwl, reset := fun _ _ => 1000, min := 1, max := some 10000000 }
/-- TL_BWp_CFG (R554, spec/16). -/
def R.TL_BWp_CFG : Reg := { addr := 0x67a000, n1 := 48, s1 := 0x10, fields := [R.TL_BWp_CFG_EN, R.TL_BWp_CFG_WIN] }

def R.TL_BWp_PER_PERIOD_N : Fld := { addr := 0x67a004, s1 := 0x10, hi := 15, lo := 0, acc := .rwl, reset := fun _ _ => 1000, min := 1, max := some 65535 }
/-- TL_BWp_PER (R554, spec/16). -/
def R.TL_BWp_PER : Reg := { addr := 0x67a004, n1 := 48, s1 := 0x10, fields := [R.TL_BWp_PER_PERIOD_N] }

def R.TL_BWp_ALM_ALARM : Fld := { addr := 0x67a008, s1 := 0x10, hi := 31, lo := 0, acc := .rwl }
/-- TL_BWp_ALM (R554, spec/16). -/
def R.TL_BWp_ALM : Reg := { addr := 0x67a008, n1 := 48, s1 := 0x10, fields := [R.TL_BWp_ALM_ALARM] }

def R.TL_TSs_CFG_EN : Fld := { addr := 0x67b000, s1 := 0x20, hi := 31, lo := 31, acc := .rwl }
def R.TL_TSs_CFG_KIND : Fld := { addr := 0x67b000, s1 := 0x20, hi := 30, lo := 29, acc := .rwl, max := some 2 }
def R.TL_TSs_CFG_HDR_ONLY : Fld := { addr := 0x67b000, s1 := 0x20, hi := 28, lo := 28, acc := .rwl }
def R.TL_TSs_CFG_LEN : Fld := { addr := 0x67b000, s1 := 0x20, hi := 27, lo := 26, acc := .rwl, max := some 2 }
def R.TL_TSs_CFG_RAND : Fld := { addr := 0x67b000, s1 := 0x20, hi := 25, lo := 25, acc := .rwl }
def R.TL_TSs_CFG_MARKED : Fld := { addr := 0x67b000, s1 := 0x20, hi := 24, lo := 24, acc := .rwl }
def R.TL_TSs_CFG_FLOW_EN : Fld := { addr := 0x67b000, s1 := 0x20, hi := 23, lo := 23, acc := .rwl }
def R.TL_TSs_CFG_CLASSES : Fld := { addr := 0x67b000, s1 := 0x20, hi := 15, lo := 8, acc := .rwl, reset := fun _ _ => 255 }
/-- TL_TSs_CFG (R555, spec/16). -/
def R.TL_TSs_CFG : Reg := { addr := 0x67b000, n1 := 16, s1 := 0x20, fields := [R.TL_TSs_CFG_EN, R.TL_TSs_CFG_KIND, R.TL_TSs_CFG_HDR_ONLY, R.TL_TSs_CFG_LEN, R.TL_TSs_CFG_RAND, R.TL_TSs_CFG_MARKED, R.TL_TSs_CFG_FLOW_EN, R.TL_TSs_CFG_CLASSES] }

def R.TL_TSs_PORT_LO_PORTS : Fld := { addr := 0x67b004, s1 := 0x20, hi := 31, lo := 0, acc := .rwl }
/-- TL_TSs_PORT_LO (R555, spec/16). -/
def R.TL_TSs_PORT_LO : Reg := { addr := 0x67b004, n1 := 16, s1 := 0x20, fields := [R.TL_TSs_PORT_LO_PORTS] }

def R.TL_TSs_PORT_HI_PORTS : Fld := { addr := 0x67b008, s1 := 0x20, hi := 15, lo := 0, acc := .rwl }
/-- TL_TSs_PORT_HI (R555, spec/16). -/
def R.TL_TSs_PORT_HI : Reg := { addr := 0x67b008, n1 := 16, s1 := 0x20, fields := [R.TL_TSs_PORT_HI_PORTS] }

def R.TL_TSs_N_NM1 : Fld := { addr := 0x67b00c, s1 := 0x20, hi := 23, lo := 0, acc := .rwl }
/-- TL_TSs_N (R555, spec/16). -/
def R.TL_TSs_N : Reg := { addr := 0x67b00c, n1 := 16, s1 := 0x20, fields := [R.TL_TSs_N_NM1] }

def R.TL_TSs_FLOW_SEED : Fld := { addr := 0x67b010, s1 := 0x20, hi := 31, lo := 16, acc := .rwl, reset := fun _ _ => 1 }
def R.TL_TSs_FLOW_FLOW_ID : Fld := { addr := 0x67b010, s1 := 0x20, hi := 15, lo := 0, acc := .rwl }
/-- TL_TSs_FLOW (R555, spec/16). -/
def R.TL_TSs_FLOW : Reg := { addr := 0x67b010, n1 := 16, s1 := 0x20, fields := [R.TL_TSs_FLOW_SEED, R.TL_TSs_FLOW_FLOW_ID] }

def R.TL_TSs_SKIP_SKIP : Fld := { addr := 0x67b014, s1 := 0x20, hi := 31, lo := 0, acc := .ro }
/-- TL_TSs_SKIP (R555, spec/16). -/
def R.TL_TSs_SKIP : Reg := { addr := 0x67b014, n1 := 16, s1 := 0x20, fields := [R.TL_TSs_SKIP_SKIP] }

def R.TL_RING_CFG_EN : Fld := { addr := 0x67b400, hi := 31, lo := 31, acc := .rwl }
def R.TL_RING_CFG_HOST : Fld := { addr := 0x67b400, hi := 30, lo := 30, acc := .rwl }
def R.TL_RING_CFG_WM : Fld := { addr := 0x67b400, hi := 29, lo := 27, acc := .rwl, reset := fun _ _ => 5 }
def R.TL_RING_CFG_SIZE_LOG : Fld := { addr := 0x67b400, hi := 20, lo := 16, acc := .rwl, reset := fun _ _ => 16 }
/-- TL_RING_CFG (R556, spec/16). -/
def R.TL_RING_CFG : Reg := { addr := 0x67b400, fields := [R.TL_RING_CFG_EN, R.TL_RING_CFG_HOST, R.TL_RING_CFG_WM, R.TL_RING_CFG_SIZE_LOG] }

def R.TL_RING_BASE_LO_BASE : Fld := { addr := 0x67b404, hi := 31, lo := 0, acc := .rwl }
/-- TL_RING_BASE_LO (R556, spec/16). -/
def R.TL_RING_BASE_LO : Reg := { addr := 0x67b404, fields := [R.TL_RING_BASE_LO_BASE] }

def R.TL_RING_BASE_HI_BASE : Fld := { addr := 0x67b408, hi := 31, lo := 0, acc := .rwl }
/-- TL_RING_BASE_HI (R556, spec/16). -/
def R.TL_RING_BASE_HI : Reg := { addr := 0x67b408, fields := [R.TL_RING_BASE_HI_BASE] }

def R.TL_RING_WP_WP : Fld := { addr := 0x67b40c, hi := 31, lo := 0, acc := .ro }
/-- TL_RING_WP (R556, spec/16). -/
def R.TL_RING_WP : Reg := { addr := 0x67b40c, fields := [R.TL_RING_WP_WP] }

def R.TL_RING_RP_RP : Fld := { addr := 0x67b410, hi := 31, lo := 0, acc := .rw }
/-- TL_RING_RP (R556, spec/16). -/
def R.TL_RING_RP : Reg := { addr := 0x67b410, fields := [R.TL_RING_RP_RP] }

def R.TL_RING_WPA_LO_WPA : Fld := { addr := 0x67b414, hi := 31, lo := 0, acc := .rwl }
/-- TL_RING_WPA_LO (R556, spec/16). -/
def R.TL_RING_WPA_LO : Reg := { addr := 0x67b414, fields := [R.TL_RING_WPA_LO_WPA] }

def R.TL_RING_WPA_HI_WPA : Fld := { addr := 0x67b418, hi := 31, lo := 0, acc := .rwl }
/-- TL_RING_WPA_HI (R556, spec/16). -/
def R.TL_RING_WPA_HI : Reg := { addr := 0x67b418, fields := [R.TL_RING_WPA_HI_WPA] }

def R.TL_RING_STAT_OVF : Fld := { addr := 0x67b41c, hi := 31, lo := 31, acc := .w1c }
def R.TL_RING_STAT_LOST : Fld := { addr := 0x67b41c, hi := 23, lo := 0, acc := .ro }
/-- TL_RING_STAT (R556, spec/16). -/
def R.TL_RING_STAT : Reg := { addr := 0x67b41c, fields := [R.TL_RING_STAT_OVF, R.TL_RING_STAT_LOST] }

/-- The registers of TL. -/
def regsTL : List Reg :=
  [R.TL_GCNTg_j_CFG, R.TL_GCNTg_j_AUX, R.TL_GCNTg_j_ALM, R.TL_CNTk_CFG, R.TL_CNTk_AUX,
   R.TL_CNTk_ALM, R.TL_BWp_CFG, R.TL_BWp_PER, R.TL_BWp_ALM, R.TL_TSs_CFG, R.TL_TSs_PORT_LO,
   R.TL_TSs_PORT_HI, R.TL_TSs_N, R.TL_TSs_FLOW, R.TL_TSs_SKIP, R.TL_RING_CFG, R.TL_RING_BASE_LO,
   R.TL_RING_BASE_HI, R.TL_RING_WP, R.TL_RING_RP, R.TL_RING_WPA_LO, R.TL_RING_WPA_HI,
   R.TL_RING_STAT]

/-! ### PM -/

def R.PM_BLK_STATEi_ST : Fld := { addr := 0x698000, s1 := 0x4, hi := 31, lo := 0, acc := .ro }
/-- PM_BLK_STATEi (R585, spec/17). -/
def R.PM_BLK_STATEi : Reg := { addr := 0x698000, n1 := 3, s1 := 0x4, fields := [R.PM_BLK_STATEi_ST] }

def R.PM_PORT_STATEi_ST : Fld := { addr := 0x69800c, s1 := 0x4, hi := 31, lo := 0, acc := .ro }
/-- PM_PORT_STATEi (R585, spec/17). -/
def R.PM_PORT_STATEi : Reg := { addr := 0x69800c, n1 := 3, s1 := 0x4, fields := [R.PM_PORT_STATEi_ST] }

def R.PM_START_CFG_PIN_KIND : Fld := { addr := 0x698020, hi := 0, lo := 0, acc := .rwl }
/-- PM_START_CFG (R586, spec/17). -/
def R.PM_START_CFG : Reg := { addr := 0x698020, fields := [R.PM_START_CFG_PIN_KIND] }

def R.PM_WAKE_CFG_ALARM_EN : Fld := { addr := 0x698024, hi := 1, lo := 1, acc := .rwl }
def R.PM_WAKE_CFG_WAKE_PIN_EN : Fld := { addr := 0x698024, hi := 0, lo := 0, acc := .rwl }
/-- PM_WAKE_CFG (R586, spec/17). -/
def R.PM_WAKE_CFG : Reg := { addr := 0x698024, fields := [R.PM_WAKE_CFG_ALARM_EN, R.PM_WAKE_CFG_WAKE_PIN_EN] }

def R.PM_WAKE_ALARM_LO_ALARM : Fld := { addr := 0x698028, hi := 31, lo := 0, acc := .rwl }
/-- PM_WAKE_ALARM_LO (R586, spec/17). -/
def R.PM_WAKE_ALARM_LO : Reg := { addr := 0x698028, fields := [R.PM_WAKE_ALARM_LO_ALARM] }

def R.PM_WAKE_ALARM_HI_ALARM : Fld := { addr := 0x69802c, hi := 15, lo := 0, acc := .rwl }
/-- PM_WAKE_ALARM_HI (R586, spec/17). -/
def R.PM_WAKE_ALARM_HI : Reg := { addr := 0x69802c, fields := [R.PM_WAKE_ALARM_HI_ALARM] }

def R.PM_KEEPER_LO_KEEPER : Fld := { addr := 0x698030, hi := 31, lo := 0, acc := .ro }
/-- PM_KEEPER_LO (R587, spec/17). -/
def R.PM_KEEPER_LO : Reg := { addr := 0x698030, fields := [R.PM_KEEPER_LO_KEEPER] }

def R.PM_KEEPER_HI_KEEPER : Fld := { addr := 0x698034, hi := 15, lo := 0, acc := .ro }
/-- PM_KEEPER_HI (R587, spec/17). -/
def R.PM_KEEPER_HI : Reg := { addr := 0x698034, fields := [R.PM_KEEPER_HI_KEEPER] }

def R.PM_START_STAT_START_CNT : Fld := { addr := 0x698038, hi := 31, lo := 16, acc := .ro }
def R.PM_START_STAT_STEP_PASS : Fld := { addr := 0x698038, hi := 11, lo := 0, acc := .ro }
/-- PM_START_STAT (R587, spec/17). -/
def R.PM_START_STAT : Reg := { addr := 0x698038, fields := [R.PM_START_STAT_START_CNT, R.PM_START_STAT_STEP_PASS] }

def R.PM_TEMP_CFG_CRIT_LIM : Fld := { addr := 0x698040, hi := 15, lo := 8, acc := .rwl, reset := fun _ _ => 120, min := 60, max := some 125 }
def R.PM_TEMP_CFG_WARN_LIM : Fld := { addr := 0x698040, hi := 7, lo := 0, acc := .rwl, reset := fun _ _ => 105, min := 60, max := some 125 }
/-- PM_TEMP_CFG (R588, spec/17). -/
def R.PM_TEMP_CFG : Reg := { addr := 0x698040, fields := [R.PM_TEMP_CFG_CRIT_LIM, R.PM_TEMP_CFG_WARN_LIM] }

def R.PM_TEMP_STAT_TEMP_B : Fld := { addr := 0x698044, hi := 23, lo := 16, acc := .ro, signed := true }
def R.PM_TEMP_STAT_TEMP_A : Fld := { addr := 0x698044, hi := 15, lo := 8, acc := .ro }
def R.PM_TEMP_STAT_TEMP_T : Fld := { addr := 0x698044, hi := 7, lo := 0, acc := .ro }
/-- PM_TEMP_STAT (R588, spec/17). -/
def R.PM_TEMP_STAT : Reg := { addr := 0x698044, fields := [R.PM_TEMP_STAT_TEMP_B, R.PM_TEMP_STAT_TEMP_A, R.PM_TEMP_STAT_TEMP_T] }

def R.PM_SUPPLY_STAT_OUT : Fld := { addr := 0x698048, hi := 7, lo := 0, acc := .ro }
/-- PM_SUPPLY_STAT (R588, spec/17). -/
def R.PM_SUPPLY_STAT : Reg := { addr := 0x698048, fields := [R.PM_SUPPLY_STAT_OUT] }

/-- The registers of PM. -/
def regsPM : List Reg :=
  [R.PM_BLK_STATEi, R.PM_PORT_STATEi, R.PM_START_CFG, R.PM_WAKE_CFG, R.PM_WAKE_ALARM_LO,
   R.PM_WAKE_ALARM_HI, R.PM_KEEPER_LO, R.PM_KEEPER_HI, R.PM_START_STAT, R.PM_TEMP_CFG,
   R.PM_TEMP_STAT, R.PM_SUPPLY_STAT]

/-! ### CA -/

def R.CA_CFG_PEER_SUB : Fld := { addr := 0x688000, hi := 0, lo := 0, acc := .rwl, reset := fun _ _ => 1 }
/-- CA_CFG (R606, spec/18). -/
def R.CA_CFG : Reg := { addr := 0x688000, fields := [R.CA_CFG_PEER_SUB] }

def R.CA_PPS_DLY_PPS_DLY : Fld := { addr := 0x688004, hi := 31, lo := 0, acc := .rwl, signed := true, min := -1000000, max := some 1000000 }
/-- CA_PPS_DLY (R606, spec/18). -/
def R.CA_PPS_DLY : Reg := { addr := 0x688004, fields := [R.CA_PPS_DLY_PPS_DLY] }

def R.CA_RUN_STAT_RUNNING : Fld := { addr := 0x688008, hi := 31, lo := 31, acc := .ro }
def R.CA_RUN_STAT_OUTCOME : Fld := { addr := 0x688008, hi := 30, lo := 29, acc := .ro }
def R.CA_RUN_STAT_ABORT_CAUSE : Fld := { addr := 0x688008, hi := 28, lo := 26, acc := .ro }
def R.CA_RUN_STAT_ITEM : Fld := { addr := 0x688008, hi := 23, lo := 20, acc := .ro }
def R.CA_RUN_STAT_TARGET : Fld := { addr := 0x688008, hi := 19, lo := 12, acc := .ro }
def R.CA_RUN_STAT_RUN_SEQ : Fld := { addr := 0x688008, hi := 11, lo := 0, acc := .ro }
/-- CA_RUN_STAT (R606, spec/18). -/
def R.CA_RUN_STAT : Reg := { addr := 0x688008, fields := [R.CA_RUN_STAT_RUNNING, R.CA_RUN_STAT_OUTCOME, R.CA_RUN_STAT_ABORT_CAUSE, R.CA_RUN_STAT_ITEM, R.CA_RUN_STAT_TARGET, R.CA_RUN_STAT_RUN_SEQ] }

def R.CA_REF_STAT_PPS_OK : Fld := { addr := 0x68800c, hi := 31, lo := 31, acc := .ro }
def R.CA_REF_STAT_TEN_OK : Fld := { addr := 0x68800c, hi := 30, lo := 30, acc := .ro }
/-- CA_REF_STAT (R606, spec/18). -/
def R.CA_REF_STAT : Reg := { addr := 0x68800c, fields := [R.CA_REF_STAT_PPS_OK, R.CA_REF_STAT_TEN_OK] }

def R.CA_LIMk_ABS_ABS_WIN : Fld := { addr := 0x688100, s1 := 0x8, hi := 31, lo := 0, acc := .rwl, reset := fun i _ => if i = 1 then 50000 else if i = 2 then 250 else if i = 3 then 10000 else if i = 4 then 40000 else if i = 5 then 200000 else if i = 6 then 2000000 else if i = 7 then 10000000 else if i = 8 then 500000 else if i = 9 then 500000 else 0 }
/-- CA_LIMk_ABS (R607, spec/18). -/
def R.CA_LIMk_ABS : Reg := { addr := 0x688100, n1 := 10, s1 := 0x8, fields := [R.CA_LIMk_ABS_ABS_WIN] }

def R.CA_LIMk_DELTA_DELTA_MAX : Fld := { addr := 0x688104, s1 := 0x8, hi := 31, lo := 0, acc := .rwl, reset := fun i _ => if i = 1 then 1000 else if i = 2 then 0 else if i = 3 then 500 else if i = 4 then 1000 else if i = 5 then 2000 else if i = 6 then 200000 else if i = 7 then 50000 else if i = 8 then 1000 else if i = 9 then 50000 else 0 }
/-- CA_LIMk_DELTA (R607, spec/18). -/
def R.CA_LIMk_DELTA : Reg := { addr := 0x688104, n1 := 10, s1 := 0x8, fields := [R.CA_LIMk_DELTA_DELTA_MAX] }

/-- The registers of CA. -/
def regsCA : List Reg :=
  [R.CA_CFG, R.CA_PPS_DLY, R.CA_RUN_STAT, R.CA_REF_STAT, R.CA_LIMk_ABS, R.CA_LIMk_DELTA]

/-! ### NV -/

def R.NV_STAT_BUSY : Fld := { addr := 0x690000, hi := 31, lo := 31, acc := .ro }
def R.NV_STAT_FREE : Fld := { addr := 0x690000, hi := 26, lo := 16, acc := .ro, reset := fun _ _ => 1024 }
def R.NV_STAT_USED : Fld := { addr := 0x690000, hi := 10, lo := 0, acc := .ro }
/-- NV_STAT (R608, spec/18). -/
def R.NV_STAT : Reg := { addr := 0x690000, fields := [R.NV_STAT_BUSY, R.NV_STAT_FREE, R.NV_STAT_USED] }

def R.NV_FAIL_STAT_VALID : Fld := { addr := 0x690004, hi := 31, lo := 31, acc := .w1c }
def R.NV_FAIL_STAT_COUNT : Fld := { addr := 0x690004, hi := 25, lo := 16, acc := .ro }
def R.NV_FAIL_STAT_SLOT : Fld := { addr := 0x690004, hi := 9, lo := 0, acc := .ro }
/-- NV_FAIL_STAT (R608, spec/18). -/
def R.NV_FAIL_STAT : Reg := { addr := 0x690004, fields := [R.NV_FAIL_STAT_VALID, R.NV_FAIL_STAT_COUNT, R.NV_FAIL_STAT_SLOT] }

def R.NV_CTRL_GO : Fld := { addr := 0x690008, hi := 31, lo := 31, acc := .wo }
def R.NV_CTRL_ERR : Fld := { addr := 0x690008, hi := 30, lo := 30, acc := .ro }
def R.NV_CTRL_OP : Fld := { addr := 0x690008, hi := 29, lo := 28, acc := .rw }
def R.NV_CTRL_SLOT : Fld := { addr := 0x690008, hi := 9, lo := 0, acc := .rw }
/-- NV_CTRL (R608, spec/18). -/
def R.NV_CTRL : Reg := { addr := 0x690008, fields := [R.NV_CTRL_GO, R.NV_CTRL_ERR, R.NV_CTRL_OP, R.NV_CTRL_SLOT] }

def R.NV_DATAi_DATA : Fld := { addr := 0x690040, s1 := 0x4, hi := 31, lo := 0, acc := .rw }
/-- NV_DATAi (R608, spec/18). -/
def R.NV_DATAi : Reg := { addr := 0x690040, n1 := 16, s1 := 0x4, fields := [R.NV_DATAi_DATA] }

/-- The registers of NV. -/
def regsNV : List Reg :=
  [R.NV_STAT, R.NV_FAIL_STAT, R.NV_CTRL, R.NV_DATAi]

/-! ### HI -/

def R.HI_PCIE_STAT_LINK_UP : Fld := { addr := 0x6a0000, hi := 31, lo := 31, acc := .ro }
def R.HI_PCIE_STAT_SPEED : Fld := { addr := 0x6a0000, hi := 30, lo := 28, acc := .ro }
def R.HI_PCIE_STAT_WIDTH : Fld := { addr := 0x6a0000, hi := 27, lo := 24, acc := .ro }
def R.HI_PCIE_STAT_PF1_BME : Fld := { addr := 0x6a0000, hi := 23, lo := 23, acc := .ro }
def R.HI_PCIE_STAT_PF0_BME : Fld := { addr := 0x6a0000, hi := 22, lo := 22, acc := .ro }
def R.HI_PCIE_STAT_FLR_CNT1 : Fld := { addr := 0x6a0000, hi := 15, lo := 8, acc := .ro }
def R.HI_PCIE_STAT_FLR_CNT0 : Fld := { addr := 0x6a0000, hi := 7, lo := 0, acc := .ro }
/-- HI_PCIE_STAT (R630, spec/19). -/
def R.HI_PCIE_STAT : Reg := { addr := 0x6a0000, fields := [R.HI_PCIE_STAT_LINK_UP, R.HI_PCIE_STAT_SPEED, R.HI_PCIE_STAT_WIDTH, R.HI_PCIE_STAT_PF1_BME, R.HI_PCIE_STAT_PF0_BME, R.HI_PCIE_STAT_FLR_CNT1, R.HI_PCIE_STAT_FLR_CNT0] }

def R.HI_M0_CFG_EN : Fld := { addr := 0x6a0010, hi := 31, lo := 31, acc := .rwl }
def R.HI_M0_CFG_MODE : Fld := { addr := 0x6a0010, hi := 30, lo := 30, acc := .rwl }
def R.HI_M0_CFG_FUNC : Fld := { addr := 0x6a0010, hi := 29, lo := 29, acc := .rws, reset := fun _ _ => 1 }
def R.HI_M0_CFG_PEER_EN : Fld := { addr := 0x6a0010, hi := 28, lo := 28, acc := .rwl }
/-- HI_M0_CFG (R631, spec/19). -/
def R.HI_M0_CFG : Reg := { addr := 0x6a0010, fields := [R.HI_M0_CFG_EN, R.HI_M0_CFG_MODE, R.HI_M0_CFG_FUNC, R.HI_M0_CFG_PEER_EN] }

def R.HI_M0_PEER_LO_PEER : Fld := { addr := 0x6a0014, hi := 31, lo := 0, acc := .rwl }
/-- HI_M0_PEER_LO (R631, spec/19). -/
def R.HI_M0_PEER_LO : Reg := { addr := 0x6a0014, fields := [R.HI_M0_PEER_LO_PEER] }

def R.HI_M0_PEER_HI_PEER : Fld := { addr := 0x6a0018, hi := 15, lo := 0, acc := .rwl }
/-- HI_M0_PEER_HI (R631, spec/19). -/
def R.HI_M0_PEER_HI : Reg := { addr := 0x6a0018, fields := [R.HI_M0_PEER_HI_PEER] }

def R.HI_M0_STAT_LINK : Fld := { addr := 0x6a001c, hi := 31, lo := 31, acc := .ro }
def R.HI_M0_STAT_SPEED : Fld := { addr := 0x6a001c, hi := 30, lo := 29, acc := .ro }
def R.HI_M0_STAT_DROP : Fld := { addr := 0x6a001c, hi := 15, lo := 0, acc := .ro }
/-- HI_M0_STAT (R631, spec/19). -/
def R.HI_M0_STAT : Reg := { addr := 0x6a001c, fields := [R.HI_M0_STAT_LINK, R.HI_M0_STAT_SPEED, R.HI_M0_STAT_DROP] }

def R.HI_I2C_CFG_PEC_EN : Fld := { addr := 0x6a0020, hi := 31, lo := 31, acc := .rwl }
def R.HI_I2C_CFG_MB_SEL : Fld := { addr := 0x6a0020, hi := 2, lo := 0, acc := .rwl, reset := fun _ _ => 7 }
/-- HI_I2C_CFG (R632, spec/19). -/
def R.HI_I2C_CFG : Reg := { addr := 0x6a0020, fields := [R.HI_I2C_CFG_PEC_EN, R.HI_I2C_CFG_MB_SEL] }

def R.HI_I2C_STAT_ERR : Fld := { addr := 0x6a0024, hi := 31, lo := 31, acc := .w1c }
def R.HI_I2C_STAT_PEC_ERR : Fld := { addr := 0x6a0024, hi := 30, lo := 30, acc := .w1c }
def R.HI_I2C_STAT_ADDR : Fld := { addr := 0x6a0024, hi := 6, lo := 0, acc := .ro }
/-- HI_I2C_STAT (R632, spec/19). -/
def R.HI_I2C_STAT : Reg := { addr := 0x6a0024, fields := [R.HI_I2C_STAT_ERR, R.HI_I2C_STAT_PEC_ERR, R.HI_I2C_STAT_ADDR] }

def R.HI_UART_CFG_EN : Fld := { addr := 0x6a0030, hi := 31, lo := 31, acc := .rwl, reset := fun _ _ => 1 }
def R.HI_UART_CFG_BAUD : Fld := { addr := 0x6a0030, hi := 2, lo := 0, acc := .rwl, reset := fun _ _ => 4 }
/-- HI_UART_CFG (R633, spec/19). -/
def R.HI_UART_CFG : Reg := { addr := 0x6a0030, fields := [R.HI_UART_CFG_EN, R.HI_UART_CFG_BAUD] }

def R.HI_UART_STAT_OVF_CNT : Fld := { addr := 0x6a0034, hi := 15, lo := 0, acc := .ro }
/-- HI_UART_STAT (R633, spec/19). -/
def R.HI_UART_STAT : Reg := { addr := 0x6a0034, fields := [R.HI_UART_STAT_OVF_CNT] }

def R.HI_JTAG_STAT_PIN_BLOCKED : Fld := { addr := 0x6a0040, hi := 31, lo := 31, acc := .ro }
def R.HI_JTAG_STAT_BSCAN_ACTIVE : Fld := { addr := 0x6a0040, hi := 30, lo := 30, acc := .ro }
def R.HI_JTAG_STAT_UNLOCK_BLOCKED : Fld := { addr := 0x6a0040, hi := 29, lo := 29, acc := .ro }
def R.HI_JTAG_STAT_FAIL_CNT : Fld := { addr := 0x6a0040, hi := 25, lo := 24, acc := .ro }
/-- HI_JTAG_STAT (R634, spec/19). -/
def R.HI_JTAG_STAT : Reg := { addr := 0x6a0040, fields := [R.HI_JTAG_STAT_PIN_BLOCKED, R.HI_JTAG_STAT_BSCAN_ACTIVE, R.HI_JTAG_STAT_UNLOCK_BLOCKED, R.HI_JTAG_STAT_FAIL_CNT] }

/-- The registers of HI. -/
def regsHI : List Reg :=
  [R.HI_PCIE_STAT, R.HI_M0_CFG, R.HI_M0_PEER_LO, R.HI_M0_PEER_HI, R.HI_M0_STAT, R.HI_I2C_CFG,
   R.HI_I2C_STAT, R.HI_UART_CFG, R.HI_UART_STAT, R.HI_JTAG_STAT]

/-- Every register of the device that an address reaches. -/
def regTable : List Reg :=
  regsBAR0 ++ regsHW ++ regsPT ++ regsLN ++ regsTR ++ regsSY ++ regsGN ++ regsET ++ regsFD ++ regsCL ++ regsSC ++ regsFO ++ regsRD ++ regsMB ++ regsFB ++ regsCI ++ regsTL ++ regsPM ++ regsCA ++ regsNV ++ regsHI

end Sys2Proof.Machine
end

