-- ==== Sys2Proof/Machine/State.lean ====
section
/-! DEFINITION. The state of the block as plain data, its faults and refusals, and the state after
reset. Register fields live in `regs` (Machine/Regs.lean names them); what the spec gives the device
beside its registers lives in the records below, one per subsystem. -/

namespace Sys2Proof.Machine

/-- The reasons a command may stop the block. No meaning of this model raises one: the block answers
every refused access with a response the spec names, so the type has a single, unused constructor. -/
inductive Fault
  /-- Raised by no command (safe). -/
  | unreachable
  deriving DecidableEq, Repr

/-- The reasons a command may be refused by the model. -/
inductive Refusal
  /-- Raised by an arm of `exec` whose command has no meaning yet (safe). -/
  | notModelled (mnemonic : String)
  deriving DecidableEq, Repr

/-- What the block sends outward during one command. -/
inductive Out
  /-- An MSI-X message of a function's vector (R545). -/
  | msix (fn vec : Nat)
  /-- The error response of an initiator (R508). -/
  | errResp (init addr : Nat)
  /-- The words answered to a read. -/
  | readData (init : Nat) (words : List Nat)
  /-- A PPS leading edge: output, second, clock of the edge with DLY, width in µs, polarity (R56). -/
  | pps (n sec : Nat) (edge : Int) (width pol : Nat)
  /-- A ToD frame on `tod_tx`: its rate as BAUD gives it, and its bytes (R59, R60). -/
  | tod (baud : Nat) (bytes : List Byte)
  /-- An IRIG-B frame: the clock of its on-time edge with DLY, the time fields, the control functions CF1 to CF9, and
  the widths of the 100 pulses in ms (R61, R62). -/
  | irig (edge : Int) (code year doy hour minute sec sbs : Nat) (cf : List Bool) (widths : List Nat)
  /-- A timebase pulse to a port die, with its phase word in 2^-16 ns and its time word (R27). -/
  | pulse (die tb phase : Nat) (word : List Nat)
  /-- The increment a port die's replica applies, in 2^-48 ns per 800 ps (R28). -/
  | increment (die tb inc : Nat)
  /-- A frame transmitted on a service port. -/
  | frame (port : Nat) (bytes : List Byte)
  /-- What a partner receives of a frame whose transmission was abandoned (R316). -/
  | truncated (port : Nat) (bytes : List Byte)
  /-- A write by the device's bus mastering: function, address, bytes (R540). -/
  | dma (fn addr : Nat) (bytes : List Byte)
  /-- A frame sent on M0 (R616). -/
  | m0 (bytes : List Byte)
  /-- Bytes returned by the I²C target (R619). -/
  | i2c (bytes : List Byte)
  /-- A NACK of the I²C target (R619, R620). -/
  | i2cNack
  /-- A line sent on the console (R624). -/
  | uart (line : String)
  /-- Bits shifted out of the test port (R625). -/
  | tdo (width value : Nat)
  /-- A SPI transaction of a GNSS front-end control port (R234). -/
  | spi (port : Nat) (bytes : List Byte)
  /-- A pause frame sent on a port: class, or 8 for PAUSE, and quanta (R322). -/
  | pauseTx (port cls quanta : Nat)
  /-- A phase beacon of an idle lane, and an injected error on a lane's transmitter (R287, R300). -/
  | beacon (lane : Nat)
  | symbolError (lane : Nat)
  /-- A trapped frame handed to the control cores with its receive record, where it has one (R99, R340). -/
  | trapped (port tb stepSeq : Nat) (fine : Bool) (time : List Nat) (bytes : List Byte)
  /-- A clock output rises for the first time after a start, or stays low, from a clock in ps (R207, R211, R214). -/
  | clkout (m : Nat) (rise : Bool) (at_ : Int)
  /-- The completion entry of a message that the device originated, in the timing queue of its session: session key,
  messageType, sequence number and transmit time (R111, R414). -/
  | completion (queue key kind seq : Nat) (time : List Nat)
  deriving DecidableEq, Repr

/-- A record of an event FIFO: word 0 and the time word (R547). -/
structure EvRec where
  w0 : Nat := 0
  w1 : Nat := 0
  w2 : Nat := 0
  w3 : Nat := 0
  deriving DecidableEq, Repr

/-- The event block beside its registers (R542 to R548). -/
structure EvState where
  /-- The secure record FIFO, oldest first. -/
  secFifo : List EvRec := []
  /-- The non-secure record FIFO, oldest first. -/
  nonFifo : List EvRec := []
  /-- An overflow episode of the secure FIFO runs. -/
  secOvf : Bool := false
  /-- An overflow episode of the non-secure FIFO runs. -/
  nonOvf : Bool := false
  /-- The latched words of the secure window. -/
  secLatch : EvRec := {}
  /-- The latched words of the non-secure window. -/
  nonLatch : EvRec := {}
  deriving DecidableEq, Repr

/-- A semaphore (R487 to R491). -/
structure Sem where
  held : Bool := false
  owner : Nat := 0
  broken : Bool := false
  /-- The clock at which the lease ends, where one runs. -/
  lease : Option Nat := none
  /-- The clock of the latest access, the agents whose acquire found it held on that cycle, with their leases, and whether
  the hold began on it (R491). -/
  seen : Nat := 0
  tried : List (Nat × Nat) := []
  fresh : Bool := false
  deriving DecidableEq, Repr

/-- A run through entries of a configuration image (R477, R571). -/
structure ImgRun where
  /-- The requests not run yet, header first. -/
  left : List (List Nat) := []
  /-- Requests run, and the header of the one in hand. -/
  index : Nat := 0
  header : Nat := 0
  /-- The request in hand has not been answered yet. -/
  waiting : Bool := false
  deriving DecidableEq, Repr

/-- A command taken by a core and not yet answered. -/
structure Taken where
  mb : Nat
  deriving DecidableEq, Repr

/-- The control complex beside its registers (R458 to R486). -/
structure Ctl where
  /-- The command each core holds: the pair, C2 and C3. -/
  takenS : Option Taken := none
  taken2 : Option Taken := none
  taken3 : Option Taken := none
  /-- The mailbox each core served last, for the rotation of R471. -/
  lastS : Nat := 7
  last2 : Nat := 11
  last3 : Nat := 15
  /-- The internal queue of R458: mailboxes whose command waits for C0. -/
  queue : List Nat := []
  /-- The initiator that rang each mailbox. -/
  ringer : Tab Nat := []
  /-- The clock at which each watchdog count last restarted, by core. -/
  kicked : Tab Nat := []
  /-- The clock at which each restarting core (0, 2, 3) stopped. -/
  restart : Tab Nat := []
  /-- Restart counts and last causes by core (R476). -/
  rstCnt : Tab Nat := []
  rstCause : Tab Nat := []
  /-- The region of the last CSRAM double-bit error. -/
  dbeRegion : Option Nat := none
  /-- Firmware loaded from a slot runs, with this VERSION; none while ROM_ONLY. -/
  fwVersion : Option Nat := none
  /-- VERSION and CHECK of the configuration image in use (R476). -/
  cfgImage : Option (Nat × Nat) := none
  /-- The configuration slot in use. -/
  cfgSlot : Nat := 0
  nvmFailed : Bool := false
  /-- The restart of a core loads its image again. -/
  reload : List Nat := []
  /-- `SYS.CFG_LOAD` in hand: its mailbox and its run. -/
  load : Option (Nat × ImgRun) := none
  /-- Answers given to entries of configuration images: by 16 for a start, 17 for a load. -/
  imgAnswer : Tab Nat := []
  /-- The requests held when their core became ready, which it serves first (R472). -/
  held : List Nat := []
  /-- The clock at which a mailbox's read began to wait for its FIFO's semaphore (R492). -/
  semWait : Tab Nat := []
  deriving DecidableEq, Repr

/-- Configuration integrity beside its registers (R510 to R512). -/
structure Ci where
  /-- A configuration-class field changed and awaits the automatic commit. -/
  dirty : Bool := false
  /-- A pending commit: 0 live, 1 value; the value; the first pass that counts; who is answered. -/
  commit : Option (Nat × Nat) := none
  /-- Passes completed. -/
  passes : Nat := 0
  /-- The pass that must end before the pending commit may take its result. -/
  commitFrom : Nat := 0
  commitMb : Option Nat := none
  /-- Shouf's copy of the last committed values (R514). -/
  copy : Option (Tab Nat) := none
  /-- The last pass matched, and the block the last mismatch named. -/
  matched : Bool := true
  lastBlock : Nat := 63
  /-- The clock at which the running pass began; none before the end of S2. -/
  passStart : Option Nat := none
  /-- The CRCs of the entries that the running pass has swept. -/
  taken : List Nat := []
  deriving DecidableEq, Repr

/-- A timebase (R37 to R47, R63 to R66). -/
structure Tb where
  /-- The time, in units of 2^-48 ps. -/
  acc : Nat := 0
  /-- FREQ in force, in 2^-48. -/
  freq : Int := 0
  /-- What the core PLL's move to the OCXO adds to FREQ (R201). -/
  core : Int := 0
  /-- The held low half of FREQ (R74). -/
  freqLo : Nat := 0
  /-- Frequency words that await their tick, with the clock at which each arrived (R28). -/
  freqQ : List (Nat × Int) := []
  /-- The slew in force, in 2^-48 × 10^-10: SLEW_MAX in 0.1 ns/s is a whole number of it (R42). -/
  slew : Int := 0
  /-- The correction still to slew, in 2^-48 ps. -/
  rem : Int := 0
  /-- Corrections that await their tick, in 2^-48 ps, with their arrival. -/
  corrQ : List (Nat × Int) := []
  /-- The step counter that timestamps carry (R98). -/
  stepSeq : Nat := 0
  /-- All steps so far (R270). -/
  steps : Nat := 0
  timeValid : Bool := false
  /-- TIME_VALID has read 1 since the reset (R57). -/
  firstValid : Bool := false
  /-- HO_LIMIT has been raised and EST_ERR has not returned below its limit (R66). -/
  overLimit : Bool := false
  /-- HO_LIMIT has been raised and the outputs with HO_ACT have not been released yet. -/
  hoSquelch : Bool := false
  depthExceeded : Bool := false
  deriving DecidableEq, Repr

/-- A port die's replica of a timebase (R27, R28). -/
structure Replica where
  /-- The replica minus its timebase, in 2^-48 ps: the steps it has not met yet. -/
  ofs : Int := 0
  stepSeq : Nat := 0
  /-- The timebase has stepped since the last pulse. -/
  stale : Bool := false
  reloads : Nat := 0
  deriving DecidableEq, Repr

/-- A primary and shadow pair (R49 to R51). -/
structure Pair where
  /-- The build-out, in 2^-48 ps, as it was at a clock, and whether it moves to 0 from there. -/
  b : Int := 0
  bAt : Nat := 0
  converging : Bool := false
  /-- The clock of the last offset sample, or of the pair's setting-up. -/
  sampleAt : Nat := 0
  /-- A switch awaits its offset sample, with its cause: 0 command, 1 automatic. -/
  awaiting : Option Nat := none
  /-- The mailbox that a switch answers. -/
  awaitMb : Option Nat := none
  /-- The latest offset, in 2^-16 ns. -/
  ofs : Int := 0
  /-- The second in which the last switch was made, for FLAGS bit 5 (R60). -/
  lastSwitch : Option Nat := none
  deriving DecidableEq, Repr

/-- What a snapshot captured of one timebase (R70, R71). -/
structure SnapWord where
  tb : Nat
  w0 : Nat
  w1 : Nat
  w2 : Nat
  stat : Nat
  deriving DecidableEq, Repr

/-- The snapshot block (R53 to R55). -/
structure Snap where
  /-- The words of the capture in progress. -/
  words : List SnapWord := []
  deriving DecidableEq, Repr

/-- A PPS output (R56 to R58). -/
structure Pps where
  /-- The second the output's time stands in. -/
  seen : Nat := 0
  /-- Ranges of seconds whose pulse has been emitted, newest first. -/
  emitted : List (Nat × Nat) := []
  /-- Ranges of seconds whose boundary a step has crossed, newest first. -/
  crossed : List (Nat × Nat) := []
  /-- The clock of the last leading edge, DLY included. -/
  lastEdge : Option Int := none
  /-- The clock at which the pulse on the pin began. -/
  on : Option Int := none
  /-- CMP mode: the edges of the firings whose pulse has not been decided yet, oldest first, and the target whose
  pulse a negative DLY has placed before its firing. -/
  due : List Int := []
  early : Option Nat := none
  deriving DecidableEq, Repr

/-- A ToD frame captured at its boundary (R59). -/
structure TodFrame where
  /-- The clock of the boundary, and OFFSET in ms and BAUD as they were then. -/
  at_ : Int
  offset : Nat
  baud : Nat
  body : List Byte
  deriving DecidableEq, Repr

/-- The ToD and IRIG-B outputs (R59 to R62). -/
structure Serial where
  todSeen : Nat := 0
  /-- Ranges of seconds that have had their ToD frame captured, newest first. -/
  todDone : List (Nat × Nat) := []
  todSeq : Nat := 0
  /-- The next frame carries STEPPED. -/
  stepped : Bool := false
  frames : List TodFrame := []
  irigSeen : Nat := 0
  irigEmitted : List (Nat × Nat) := []
  irigCrossed : List (Nat × Nat) := []
  /-- The clock of the on-time edge of the IRIG-B frame on the pin, and of the last frame's. -/
  irigOn : Option Int := none
  irigLast : Option Int := none
  deriving DecidableEq, Repr

/-- Heartwood beside its timebases (R26, R27, R45). -/
structure Hw where
  /-- The target of each armed comparator, in 2^-16 ns and not taken modulo 2^64. -/
  goal : Tab Nat := []
  /-- The millisecond of the last pulse, by 8 × die + timebase. -/
  pulseMs : Tab Nat := []
  /-- The latency of each die-to-die link in 800 ps cycles, as its training set it: A–B, T–A, T–B. -/
  link : Tab Nat := []
  deriving DecidableEq, Repr

/-- A reference slot (R142 to R150). -/
structure Slot where
  /-- The clock at which activity last returned: complete gates lie after it. -/
  activeFrom : Nat := 0
  /-- The slot has qualified since the reset, its enabling or its restart (R149). -/
  everQual : Bool := false
  wtrStart : Option Nat := none
  wtrLen : Nat := 0
  /-- The clock of the last edge, estimate or solution. -/
  lastPhase : Nat := 0
  /-- The latest offset, in 2^-16 ns, and the held low half of FEED. -/
  theta : Int := 0
  feedLo : Nat := 0
  /-- The time of the reference at the latest sample of a port or GNSS slot, in 2^-48 ps, and the clocks and times of
  the samples that the frequency monitor has met, newest first: their slope is FOFS (R147). -/
  refTime : Int := 0
  marks : List (Nat × Int) := []
  deriving DecidableEq, Repr

/-- A dispute of DPLL `n` between slots `a < b` (R161 to R163). -/
structure Dispute where
  n : Nat
  a : Nat
  b : Nat
  resolved : Bool := false
  excludeA : Bool := false
  excludeB : Bool := false
  /-- The clock since which the pair disagrees, or agrees once resolved. -/
  since : Nat := 0
  agreeing : Bool := false
  deriving DecidableEq, Repr

/-- A holdover, or the error growth of a warm start's free run (R173, R175). -/
structure Holdover where
  /-- E0, and the integral so far, in 10^-12 ps. -/
  e0 : Nat := 0
  integ : Nat := 0
  entry : Nat := 0
  last : Nat := 0
  temp : Int := 0
  hoq : Nat := 0
  /-- Which F of R173 and R175 counts while the OCXO is warm: 0 100 × HO_FERR, 1 10 × HO_FERR, 2 HO_FERR,
  3 FERR_TRIM, 4 XO_FERR. -/
  ferr : Nat := 4
  freq : Int := 0
  /-- The model that moves the frequency (R174): its ageing in 2^-48 a day, and its temperature coefficient in
  2^-48 a kelvin. -/
  age : Int := 0
  tco : Int := 0
  deriving DecidableEq, Repr

/-- A DPLL beside its registers (R152 to R176). -/
structure Dpll where
  /-- LOCKED or SWITCHING has been entered since the reset. -/
  everLocked : Bool := false
  /-- The frequency word in use, in 2^-48. -/
  word : Int := 0
  lastTarget : Nat := 0
  /-- The ramp: the word and the clock where it starts, and the frequency it goes to, which is the loop's centre once
  LOCKED (R155, R164). -/
  rampFrom : Int := 0
  rampAt : Nat := 0
  goal : Int := 0
  /-- The loop's integral part, and the phase error of the latest phase-detector result, in 2^-16 ns. -/
  integ : Int := 0
  err : Int := 0
  /-- The word chosen at the entry to FREERUN (R171). -/
  base : Int := 0
  /-- The slot priorities in force, slot i at bits 4i (R192). -/
  prio : Nat := 2 ^ 64 - 1
  /-- The clock at which HOLDOVER or FREERUN was last left. -/
  lockStart : Option Nat := none
  bo : Int := 0
  /-- TIME_FAR has been raised for the build-out now held. -/
  farRaised : Bool := false
  /-- Frequency words with the clock from which each was in force, newest first. -/
  history : List (Nat × Int) := []
  /-- The end of the usable history once it is frozen (R153, R154). -/
  frozen : Option Nat := none
  hold : Option Holdover := none
  /-- The switch began from HOLDOVER. -/
  fromHold : Bool := false
  /-- E is unknown: FREERUN after a cold start or after the timebase was disabled (R175). -/
  unknownErr : Bool := true
  /-- A word resumed from Understory. -/
  resumed : Bool := false
  lastSw : Nat := 0
  /-- A software word has been written since the loop was opened. -/
  swWritten : Bool := false
  swf : Int := 0
  swfLo : Nat := 0
  /-- The slot's phase was lost: the word is held until the next tick (R153). -/
  heldWord : Bool := false
  /-- TRAINED lock counted up to this clock. -/
  trainMark : Nat := 0
  /-- The OCXO's offset, in 10^-12, when the word in use was taken. -/
  ocxoRef : Int := 0
  deriving DecidableEq, Repr

/-- Taproot as a whole (R152, R160, R169 to R171). -/
structure Taproot where
  /-- The clock of the last tick, and the millisecond of the line timebase it stood for. -/
  lastTick : Nat := 0
  lastMs : Nat := 0
  /-- The timebase whose millisecond the last tick was, where it was not one of the free-running line count. -/
  onLine : Option Nat := none
  /-- Settle window: the clock at which it began, and whether it has ended. -/
  settleFrom : Option Nat := none
  settleDone : Bool := false
  disputes : List Dispute := []
  /-- The keeper count at which OCXO activity began. -/
  ocxoSince : Nat := 0
  /-- The measured OCXO offset against the synthesis reference, in 10^-12. -/
  ocxoOfs : Int := 0
  warmPin : Bool := false
  /-- The last whole 100 ms of the line timebase at which the frequency monitors were read. -/
  lastMon : Nat := 0
  /-- The synthesis reference is absent (R200). -/
  xoLost : Bool := false
  /-- The clock at which it was lost. -/
  xoAt : Nat := 0
  /-- What drives the core PLL: 0 `xo_in`, 1 `osc_in`, 2 its held tuning word (R201). -/
  core : Nat := 0
  deriving DecidableEq, Repr

/-- The MSI-X and bus-mastering configuration of a PCIe function (R545, R611, R613). -/
structure Pf where
  bme : Bool := false
  msixEn : Bool := false
  fmask : Bool := false
  vmask : Nat := 0xFFFFFFFF
  pba : Nat := 0
  deriving DecidableEq, Repr

/-- A running programmable counter (R530, R532). -/
structure ProgCnt where
  ev : Nat
  port : Nat
  mtch : Nat
  value : Nat := 0
  /-- The value at the start of the 1 ms window. -/
  mark : Nat := 0
  deriving DecidableEq, Repr

/-- One direction of a port's bandwidth meter (R533, R535). -/
structure Meter where
  pmin : Nat := 0
  pmax : Nat := 0
  ptotal : Nat := 0
  deriving DecidableEq, Repr

/-- A port's bandwidth meters (R533 to R535). -/
structure Bw where
  rx : Meter := {}
  tx : Meter := {}
  windows : Nat := 0
  used : Nat := 0
  skip : Bool := false
  stepped : Bool := false
  alarmed : Bool := false
  /-- The first boundary after EN was set has passed. -/
  started : Bool := false
  /-- The whole second, as a time, from which boundaries are counted, and the boundaries taken. -/
  origin : Nat := 0
  index : Nat := 0
  /-- The frames of windows not ended yet: the boundaries before their timestamp, transmitted, and length. -/
  frames : List (Nat × Bool × Nat) := []
  /-- The published words of R535. -/
  result : List Nat := []
  deriving DecidableEq, Repr

/-- A port's scheduler beside its registers (R370 to R384). -/
structure Sched where
  /-- The activation instant of the pending commit, as a time of the schedule timebase. -/
  commit : Option Nat := none
  /-- The commit keeps the old phase and ALIGN_LOST (R384). -/
  keeps : Bool := false
  /-- Frames of head copies that the guard has passed over. -/
  deferred : List Nat := []
  /-- The entries of both banks that differ from their reset content, keyed by 1024 × bank + entry. -/
  entries : Tab (Nat × Nat) := []
  /-- Token-bucket levels of classes, in 10^-6 bits, and the clock they were brought up to. -/
  bucket : Tab Int := []
  bucketAt : Nat := 0
  /-- Deficits of classes 0 to 4. -/
  deficit : Tab Int := []
  /-- The class of the round in progress. -/
  turn : Nat := 0
  /-- The class whose turn it is has had its quantum. -/
  granted : Bool := false
  /-- ORIGIN as a time, and the steps of the schedule timebase since then, which the cycle counter does not
  follow, in 2^-48 ps. -/
  origin : Nat := 0
  phase : Int := 0
  deriving DecidableEq, Repr

/-- The anchors of phase tracking (R123): the exchange's offset, path delay and asymmetry, and both ends'
unwrapped phases, in 2^-16 ns. -/
structure Anchor where
  theta : Int
  d : Int
  phiS : Int
  phiM : Int
  asym : Int
  deriving DecidableEq, Repr

/-- What a received PHASE TLV told: its last phase and the linear time of that reading (R120). -/
structure PhaseRx where
  last : Int
  at_ : Nat
  deriving DecidableEq, Repr

/-- A timing session of a port and a domain (R113 to R127). -/
structure Session where
  /-- The role in force: 1 master, 2 slave. -/
  role : Nat := 0
  /-- The peer's sourcePortIdentity. -/
  peer : Nat := 0
  /-- The NPX state: 0 OFF, 1 PROBE, 2 PLAIN, 3 LEGACY, 4 ALIGN, 5 TRACK, 6 HOLD. -/
  npx : Nat := 0
  /-- The clock at which the session was suspended. -/
  suspended : Option Nat := none
  /-- The clock of the entry to the NPX state. -/
  since : Nat := 0
  /-- The partner's CAP: version, Node ID, depth, offered phase rate, asymVersion and asymCheck. -/
  cap : Option Nat := none
  node : Nat := 0
  capFlags : Nat := 0
  capDepth : Nat := 0
  offer : Nat := 0x80
  check : Nat := 0
  /-- stepsRemoved of the partner's Announce, and the quality it gives: clockClass, clockAccuracy and variance. -/
  steps : Nat := 0
  qual : Option (Nat × Nat × Nat) := none
  /-- logMessageInterval of the Sync messages received (R142). -/
  syncLog : Option Int := none
  /-- The offset estimate, the mean path delay and the asymmetry in use, in 2^-16 ns. -/
  theta : Int := 0
  mpd : Int := 0
  asym : Int := 0
  /-- ASYM_FIX in 0.01 ps, ASYM_COEF in 10^-9 and s of the link record in use (R126). -/
  link : Option (Int × Int × Int) := none
  /-- The last lookup found a usable link record. -/
  found : Bool := false
  mismatch : Bool := false
  /-- A two-way exchange with FINE at both ends has completed in this state. -/
  fine : Bool := false
  anchor : Option Anchor := none
  /-- STEP_SEQ of the stamps behind the anchors. -/
  stepSeq : Nat := 0
  /-- The last two PHASE TLVs, newest first; whether the newest says VALID and LOCKED; its clock. -/
  phases : List PhaseRx := []
  phaseOk : Bool := false
  phaseAt : Nat := 0
  /-- The clocks of the last CAP and PHASE sent, and the sequence number of the next PHASE. -/
  capSent : Nat := 0
  phaseSent : Nat := 0
  phaseSeq : Nat := 0
  /-- The readings since the last PHASE TLV. -/
  readings : List Int := []
  /-- The time of the last reading, in 2^-48 ps, and a reset of the unwrapped phase since the last PHASE
  TLV. -/
  readAt : Nat := 0
  phaseReset : Bool := false
  /-- The timing queue that serves it (R414). -/
  tq : Nat := 0
  deriving DecidableEq, Repr

/-- How a port takes part in a domain (R139). -/
structure PtpCfg where
  role : Nat
  delay : Nat
  transport : Nat
  syncLog : Int
  dreqLog : Int
  annLog : Int
  hold : Nat
  /-- Sequence numbers of the messages originated, by messageType, and the clocks at which each was last
  sent. -/
  seq : Tab Nat := []
  sent : Tab Nat := []
  deriving DecidableEq, Repr

/-- The fine phase meter of a lane beside its registers (R97, R103, R104). -/
structure Fpm where
  /-- The clock of CDR lock. -/
  lockAt : Option Nat := none
  /-- The last three readings, newest first: clock and phase in 0.25 ps. -/
  last : List (Nat × Nat) := []
  /-- The differences accumulated since VALID rose, in 0.25 ps. -/
  acc : Int := 0
  /-- Consecutive readings within 2 ps of the one before. -/
  calm : Nat := 0
  /-- The last whole millisecond that gave a reading. -/
  ms : Nat := 0
  deriving DecidableEq, Repr

/-- What a partner's HELLO tells (R286). -/
structure Hello where
  flags : Nat
  node : Nat
  port : Nat
  deriving DecidableEq, Repr

/-- A lane beside its registers (R282 to R296). -/
structure Lane where
  /-- The clock of the entry to the present state. -/
  since : Nat := 0
  /-- The clock since which a partner signal has been present. -/
  signal : Option Nat := none
  /-- A cached equalisation is loaded in this training. -/
  cached : Bool := false
  /-- The receiver's settings in force. -/
  eq : Nat := 0
  /-- The clock at which the partner last entered electrical idle: at its entry or after a phase beacon (R283). -/
  idleFrom : Option Nat := none
  /-- The end of the electrical idle that follows a failed training. -/
  quietTo : Nat := 0
  /-- The clock of the last loss: the cache stays valid for CACHE_HOLD from it. -/
  lost : Option Nat := none
  /-- The clock at which the last frame of the port left. -/
  lastTx : Nat := 0
  /-- The end of a training burst, and the last whole millisecond with a phase beacon. -/
  burstTo : Nat := 0
  beacon : Nat := 0
  /-- 100 ms measurements in a row beyond 100 ppm, the clock of the last, and the part of an idle block that the
  insertions and deletions counted so far leave, in 10^-13. -/
  rmOver : Nat := 0
  rmAt : Option Nat := none
  rmRest : Int := 0
  /-- The partner's HELLO, and whether it is the cached one. -/
  hello : Option Hello := none
  fromCache : Bool := false
  /-- The clock of the last HELLO sent, and the sequence number of CAPEX frames. -/
  helloAt : Nat := 0
  seq : Nat := 0
  /-- Receive and transmit polarity in force. -/
  polRx : Bool := false
  polTx : Bool := false
  deriving DecidableEq, Repr

/-- A substitution of a grove (R294 to R296). -/
structure Subst where
  port : Nat := 0
  pos : Nat := 0
  /-- The clock at which it began. -/
  since : Nat := 0
  /-- The partner asked for it. -/
  remote : Bool := false
  acked : Bool := false
  sentDone : Bool := false
  gotDone : Bool := false
  mb : Option Nat := none
  waits : Bool := false
  /-- A calibration run's bridging is held (R599). -/
  calib : Bool := false
  /-- This device has measured its lane during the partner's bridging. -/
  measured : Bool := false
  deriving DecidableEq, Repr

/-- A port beside its registers (R313 to R324). -/
structure Port where
  /-- The hold in progress: its start, HOLD_TIME and AGE_LIMIT as they stood at its entry, in 10 µs. -/
  hold : Option (Nat × Nat × Nat) := none
  /-- The clock since which the port is down without a break. -/
  downAt : Option Nat := none
  replaced : Bool := false
  degraded : Bool := false
  clean : Nat := 0
  /-- Uncorrectable codewords, corrected symbols and errored blocks of the window. -/
  win : Nat × Nat × Nat := (0, 0, 0)
  /-- The clock of a presence change that has not cleared yet. -/
  prs : Option Nat := none
  /-- The end of a received pause per class, and the classes whose PAUSE or PFC is sent. -/
  paused : Tab Nat := []
  pausing : List Nat := []
  /-- Control frames admitted in the policer window. -/
  admitted : Nat := 0
  /-- A partner's CAP on this port has given the device's own Node ID (R32). -/
  loop : Bool := false
  deriving DecidableEq, Repr

/-- A cell of a stored frame: bank, cell index, and the source it is charged to: 1 bank reservation,
2 port and class reserve, 3 shared pool (R352, R355). -/
structure Cell where
  bank : Nat
  index : Nat
  src : Nat
  deriving DecidableEq, Repr

/-- A timestamp: linear time, timebase, STEP_SEQ and FINE (R96 to R99). -/
structure Stamp where
  t : Nat := 0
  tb : Nat := 0
  stepSeq : Nat := 0
  fine : Bool := false
  deriving DecidableEq, Repr

/-- A PTP message that the device originates, as it waits in class 7 of its port (R111, R112, R121): its session key,
messageType, transport, flags, sequence number, correctionField, logMessageInterval, the octets after its header, and
the receive timestamp of the Pdelay_Req that a Pdelay_Resp answers. -/
structure Orig where
  key : Nat
  kind : Nat
  transport : Nat
  flags : Nat := 0
  seq : Nat
  corr : Int := 0
  log : Nat := 0x7F
  body : List Byte
  rx : Option Stamp := none
  deriving DecidableEq, Repr

/-- The merged result of a lookup (R339, R348): 0 drop, 1 trap, 2 forward, 3 pair frame. -/
structure Merged where
  kind : Nat
  reason : Nat := 0
  cls : Nat := 0
  vid : Nat := 0
  flow : Nat := 0
  placed : Bool := false
  tally : Bool := false
  /-- The egress ports. -/
  ports : List Nat := []
  redAct : Nat := 0
  sctx : Nat := 0
  bset : Nat := 0
  epoch : Nat := 0
  deriving DecidableEq, Repr

/-- A frame in reception on a port. -/
structure Rx where
  bytes : List Byte
  res : Merged
  cells : List Cell := []
  /-- The reason for which the rest is discarded. -/
  drop : Option Nat := none
  /-- The ingress timestamps: on the line timebase and on the message's timebase. -/
  line : Stamp
  own : Stamp
  /-- The terms of R107 that apply to it, in 2^-16 ns. -/
  extra : Int := 0
  deriving DecidableEq, Repr

/-- A stored frame (R333, R348, R353). -/
structure Frame where
  bytes : List Byte
  port : Nat
  res : Merged
  cells : List Cell
  line : Stamp
  own : Stamp
  /-- The terms of R107 that apply to it, in 2^-16 ns. -/
  extra : Int := 0
  /-- The number the R-TAG of each copy carries, and whether the received tag is removed. -/
  seq : Option Nat := none
  strip : Bool := false
  /-- Ports whose copy has neither left nor been dropped. -/
  left : List Nat
  /-- Captures that wait to read its cells. -/
  waiting : Nat := 0
  /-- The copies sent, with the CRC-32C of their span (R433). -/
  spans : List (Nat × Nat) := []
  /-- The self-check of a copy failed (R435). -/
  self : Bool := false
  /-- A message of the device itself, which takes no cells. -/
  orig : Option Orig := none
  deriving DecidableEq, Repr

/-- A copy in transmission: its frame, class, bytes as they leave, start and end, and the end of its first
decision. -/
structure Tx where
  frame : Nat
  cls : Nat
  bytes : List Byte
  start : Nat
  stop : Nat
  bad : Bool := false
  /-- The span CRC of the copy as it leaves (R433). -/
  span : Nat := 0
  deriving DecidableEq, Repr

/-- A frame of a trap queue, with its receive record (R99, R340). -/
structure Trap where
  port : Nat
  bytes : List Byte
  stamp : Option Stamp
  epoch : Nat
  deriving DecidableEq, Repr

/-- A bank arbiter (R358 to R361). -/
structure Arb where
  /-- The positions from the highest rank to the lowest. -/
  rank : List Nat := List.range 25
  /-- Presented requests with the rounds each has waited. -/
  reqs : Tab Nat := []
  /-- The pair agent has the next turn of the T port. -/
  agent : Bool := true
  /-- The pair agent, and the Tally DMA, wait at the T port. -/
  tAgent : Bool := false
  tTally : Bool := false
  /-- The clock, in ps, from which a decision is possible. -/
  free : Nat := 0
  deriving DecidableEq, Repr

/-- The Clearing (R352 to R356). -/
structure Clearing where
  frames : Tab Frame := []
  next : Nat := 0
  /-- Ids in the class queues, head first, keyed by 8 × port + class. -/
  queues : Tab (List Nat) := []
  tx : Tab Tx := []
  rx : Tab Rx := []
  /-- The trap queues of die A and die B. -/
  trapA : List Trap := []
  trapB : List Trap := []
  /-- Cells in use per bank, and those of its reservation; cells charged to a port and class reserve, and to
  the shared pool by port. -/
  bankUse : Tab Nat := []
  rsvUse : Tab Nat := []
  clsUse : Tab Nat := []
  shrUse : Tab Nat := []
  /-- The write pointer of each grove. -/
  ptr : Tab Nat := []
  /-- The next bank position of each placed flow's bank set. -/
  setPtr : Tab Nat := []
  arbs : Tab Arb := []
  /-- Follow_Up residences per egress port, oldest first: identity and sequence, residence, clock (R109). -/
  follow : Tab (List (Nat × Int × Nat)) := []
  deriving DecidableEq, Repr

/-- The forwarding tables (R341 to R350). -/
structure Fwd where
  /-- Entries that differ from their reset content, keyed by image, table and index. -/
  img : Tab (List Nat) := []
  /-- Keys of the entries changed in the shadow, and of those to copy back after an activation. -/
  changed : List Nat := []
  resync : List Nat := []
  /-- The activation of the pending commit, as a time of the line timebase's rules. -/
  commit : Option Nat := none
  commitMb : Option Nat := none
  commitWaits : Bool := false
  /-- The clock of the acceptance, and then of the activation, and MAX_RES as it was at acceptance. -/
  actAt : Nat := 0
  maxRes : Nat := 400
  dropped : Nat := 0
  deriving DecidableEq, Repr

/-- The recovery state of one history (R423, R425). -/
structure Rcvy where
  takeAny : Bool := true
  num : Nat := 0
  hist : List Bool := []
  /-- The clock of the last passed frame. -/
  passed : Nat := 0
  deriving DecidableEq, Repr

/-- A stream context (R420 to R427). -/
structure SCtx where
  /-- DATA0 to DATA2. -/
  d0 : Nat := 0x02200000
  d1 : Nat := 50 * 65536 + 1000
  d2 : Nat := 30 * 65536 + 2000
  gen : Nat := 0
  rcvy : Rcvy := {}
  /-- The egress region the context is bound to. -/
  home : Option Nat := none
  /-- Individual histories by ingress port, in order of first arrival. -/
  indiv : List (Nat × Rcvy) := []
  /-- The ten counts of R457, and the frames from a fifth port. -/
  cnt : Tab Nat := []
  bypass : Nat := 0
  /-- Passed and discarded since the last test reset, and the clocks of the last test and reset. -/
  latPass : Nat := 0
  latDisc : Nat := 0
  latAt : Nat := 0
  latReset : Nat := 0
  deriving DecidableEq, Repr

/-- A dated edge that waits to pair (R269). -/
structure EtEdge where
  /-- The date, in 2^-16 ns of the measurement reference. -/
  date : Nat
  /-- The clock of its arrival. -/
  at_ : Nat
  stepSeq : Nat := 0
  /-- The steps of the timebase so far. -/
  steps : Nat := 0
  falling : Bool := false
  deriving DecidableEq, Repr

/-- An entry of the event timer's FIFO, with the cycle on which it was completed (R263, R273). -/
structure EtEntry where
  cycle : Nat := 0
  w : EvRec := {}
  deriving DecidableEq, Repr

/-- A frequency gate (R271). -/
structure EtGate where
  /-- The boundary that opens it, in 2^-16 ns. -/
  open_ : Nat
  /-- An input's first gate, whose boundary has not been seen passed. -/
  armed : Bool := false
  n : Nat := 0
  first : Nat := 0
  last : Nat := 0
  /-- The steps of the timebase when it opened. -/
  steps : Nat := 0
  deriving DecidableEq, Repr

/-- An input of the event timer (R261 to R271). -/
structure EtIn where
  /-- The clock of the last accepted edge. -/
  last : Option Nat := none
  /-- Results that wait for the shared FIFO, oldest first. -/
  buf : List EtEntry := []
  starts : List EtEdge := []
  stops : List EtEdge := []
  gate : Option EtGate := none
  /-- The next result carries DEADTIME, LOST. -/
  dead : Bool := false
  lost : Bool := false
  /-- Results given so far, modulo 1,024. -/
  seq : Nat := 0
  deriving DecidableEq, Repr

/-- The event timer beside its registers (R260 to R273). -/
structure Et where
  ins : Tab EtIn := []
  fifo : List EtEntry := []
  /-- W0 to W3 as the last read of W0 left them. -/
  latch : EvRec := {}
  /-- Measurement runs: a mode that permits it, and a reference that is there. -/
  run : Bool := false
  /-- The OCXO scale, in 2^-48 ps. -/
  ocxo : Nat := 0
  /-- The 800 ps cycle of the last entry of the FIFO (R263). -/
  written : Option Nat := none
  deriving DecidableEq, Repr

/-- A timebase in the saved time-and-frequency record (R566). -/
structure UsTb where
  en : Bool := false
  /-- The time, in 2^-48 ps, and FREQ, in 2^-48. -/
  time : Nat := 0
  freq : Int := 0
  utc : Nat := 0
  /-- SEC and NEW_OFS of the four leap entries. -/
  leap : List (Nat × Nat) := []
  deriving DecidableEq, Repr

/-- A lane's equalisation and partner cache (R284). -/
structure LaneCache where
  /-- The partner's Node ID, port and capability flags. -/
  node : Nat := 0
  port : Nat := 0
  flags : Nat := 0
  /-- Receiver settings, and transmit taps in the layout of TXEQ, as training gave them. -/
  eq : Nat := 0
  taps : Nat := 0
  /-- The partner has been learnt in CAPEX. -/
  known : Bool := false
  /-- The capabilities have been found to differ: not valid for the next retrain (R286). -/
  stale : Bool := false
  /-- Valid for a warm start's step S6, whatever the time since the loss (R284). -/
  warm : Bool := false
  deriving DecidableEq, Repr

/-- A record of the GNSS kept data (R247): its kind (0 the keeper's time of the keeping, 1 the position of an antenna,
2 an ephemeris, 3 an almanac, 4 the broadcast UTC parameters, 5 the inter-system parameters, 6 an input's
sample-clock offset), what it is of, its words and their CRC-32C. -/
structure KeptRec where
  kind : Nat
  key : Nat := 0
  data : List Nat
  crc : Nat
  deriving DecidableEq, Repr

/-- Understory: what no die reset touches (R565, R566). -/
structure Us where
  /-- The keeper's raw count when `vdd_us` rose, and the clock at the last reset, in ps since the first. -/
  keeper0 : Nat := 0
  clk0 : Nat := 0
  /-- The start-state record passes its check. -/
  startOk : Bool := false
  /-- Three warm starts have failed: the next start is cold (R574, R575). -/
  cold : Bool := false
  /-- The source of the wake, to report in S1: 0 pin, 1 alarm (R579). -/
  wake : Option Nat := none
  /-- The failed starts to report at the next S1: 0 warm, 1 cold. -/
  failed : Option Nat := none
  /-- The boot record: image hash and CSRAM check (R482). -/
  boot : Option (Nat × Nat) := none
  /-- The lengths of the two sections that the check covers. -/
  bootLen : Nat × Nat := (0, 0)
  /-- The time-and-frequency record: the keeper count of the save and its timebases. -/
  saved : Option (Nat × List UsTb) := none
  /-- Cumulative TRAINED lock per DPLL, in ps (R174), and the part already recorded. -/
  trained : Tab Nat := []
  trainedDone : Tab Nat := []
  /-- The keeper count at which OCXO activity began, where the OCXO was active at the save. -/
  ocxoAt : Option Nat := none
  /-- The internal-delay results of the last cold start (R570). -/
  delays : Option (List Nat) := none
  /-- The cached band of each APLL (R205). -/
  bands : Tab Nat := []
  lanes : Tab LaneCache := []
  /-- The GNSS kept data (R247). -/
  kept : List KeptRec := []
  deriving DecidableEq, Repr

/-- An APLL beside its registers: the values in force and its lock (R202 to R216). -/
structure Apll where
  mint : Nat := 100
  mfrac : Nat := 0
  src : Nat := 0
  gran : Option Bool := none
  /-- The clock at which the band search began, and the one at which it ended. -/
  searchFrom : Nat := 0
  lockFrom : Nat := 0
  /-- LOCK_N of the lock in progress. -/
  lockN : Nat := 1024
  /-- The GRAN boundary at which the outputs restart. -/
  restartAt : Nat := 0
  /-- The linear activation instant of the pending commit. -/
  commit : Nat := 0
  /-- The phase offset when the movement began, in 0.5 ps, and the clock of that. -/
  phase : Int := 0
  phaseAt : Nat := 0
  deriving DecidableEq, Repr

/-- What a pin of a clock output does (R209, R210): held low, in high impedance, or carrying the clock or its
complement. -/
inductive Pin
  | low | hiZ | clock | inverse
  deriving DecidableEq, Repr

/-- The values in force of a clock output that its status does not show (R212), and what it does. -/
structure ClkOut where
  en : Bool := false
  fmt : Nat := 0
  cmosN : Nat := 0
  hiz : Bool := false
  roleCtl : Bool := false
  dly : Nat := 0
  /-- The time of its APLL, in 2^-48 ps, from which its cycles count: each rising edge stands a number of cycles after it,
  plus DLY and PHOFS (R211, R214). -/
  first : Option Nat := none
  /-- `clkout_p` and `clkout_n`. -/
  pinP : Pin := .low
  pinN : Pin := .low
  deriving DecidableEq, Repr

/-- A tracking channel of the GNSS receiver (R236). -/
structure Chan where
  ch : Nat
  input : Nat
  sig : Nat
  svid : Nat
  elev : Nat
  /-- The clock at which it began to track. -/
  since : Nat
  deriving DecidableEq, Repr

/-- A GNSS input beside its registers (R232, R233, R242, R243). -/
structure GnIn where
  /-- Phases measured over the last second, newest first, with their clocks. -/
  phases : List (Nat × Int) := []
  phaseFrom : Option Nat := none
  /-- The clock of the last spectrum (R242). -/
  specAt : Option Nat := none
  /-- Medians (0.01 dB) and AGC gains (0.25 dB) of the last 60 s, newest first. -/
  medians : List Int := []
  agcs : List Nat := []
  /-- The clock since which each automatic notch's peak stays below its release level. -/
  low : Tab Nat := []
  deriving DecidableEq, Repr

/-- An antenna's solutions (R239 to R245). -/
structure GnAnt where
  /-- The clock of the last solution. -/
  last : Option Nat := none
  /-- The last ten trusted solutions, newest first: clock and OFS. -/
  hist : List (Nat × Int) := []
  /-- The TAI second of the last solution. -/
  second : Option Int := none
  /-- The sum of the C/N0 of the satellites that the last solution used, and their number. -/
  cn0 : Nat × Nat := (0, 0)
  /-- The clock since which every check passes without a break. -/
  passFrom : Option Nat := none
  /-- The clock at which the survey began. -/
  survey : Option Nat := none
  /-- A check has failed since the start, so that TRUSTED returns only after TRUST_HOLD. -/
  failed : Bool := false
  /-- The first solution after a start has been given. -/
  started : Bool := false
  deriving DecidableEq, Repr

/-- The GNSS receiver beside its registers (R231 to R251). -/
structure Gnss where
  ins : Tab GnIn := []
  ants : Tab GnAnt := []
  chans : List Chan := []
  mfifo : List (List Nat) := []
  nfifo : List (List Nat) := []
  mlatch : List Nat := []
  nlatch : List Nat := []
  mDrop : Nat := 0
  nDrop : Nat := 0
  /-- The keeper count at which each satellite's ephemeris, and its almanac, was decoded, by `satKey`. -/
  eph : Tab Nat := []
  alm : Tab Nat := []
  /-- The broadcast UTC offset, leap week, day and new offset. -/
  utc : List Nat := []
  /-- The broadcast inter-system parameters, and the inter-system offsets of the last solution. -/
  inter : List Nat := []
  offsets : List Int := []
  /-- The solution timebase stepped and no restart commit has realigned its APLL (R233). -/
  stepped : Bool := false
  lastEpoch : Nat := 0
  lastKept : Nat := 0
  deriving DecidableEq, Repr

/-- A Tally sampler (R536, R537). -/
structure Sampler where
  seq : Nat := 0
  /-- Selected frames still to pass before the next capture; none until EN is set. -/
  left : Nat := 0
  deriving DecidableEq, Repr

/-- A capture that waits for the Tally DMA: its sampler, its stored frame, the 16 words of its header and
the bytes to copy (R538, R539). -/
structure Capture where
  sampler : Nat
  frame : Option Nat
  words : List Nat
  bytes : List Byte
  bank : Option Nat
  deriving DecidableEq, Repr

/-- The Tally (R536 to R540). -/
structure Tally where
  samplers : Tab Sampler := []
  waiting : List Capture := []
  deriving DecidableEq, Repr

/-- A frame item of the pair comparison (R433, R434). -/
structure Item where
  ctx : Nat
  seq : Nat
  crc : Nat
  /-- The clock at which it was recorded, or received. -/
  at_ : Nat
  /-- The self-check of a copy of the frame failed (R435). -/
  self : Bool := false
  deriving DecidableEq, Repr

/-- A JUDGE frame: its cause, whether its sender's witness is qualified, E_w in ps, and its onset, a linear
time of PAIR_TB (R430, R438). -/
structure Judge where
  cause : Nat
  qualified : Bool
  ew : Int
  onset : Nat
  /-- The clock at which it was sent or received. -/
  at_ : Nat
  deriving DecidableEq, Repr

/-- The partner's ROLE state byte and request as last received (R430). -/
structure RoleRx where
  state : Nat
  request : Nat := 0
  instant : Nat := 0
  health : Nat := 0
  alignErr : Int := 0
  at_ : Nat := 0
  deriving DecidableEq, Repr

/-- The ToD fields that COMPARE carries: SECONDS, UTC_OFS and LEAP (R436). -/
structure PairTod where
  sec : Nat
  utc : Nat
  leap : Nat
  deriving DecidableEq, Repr

/-- The pair agent beside its registers (R428 to R448). -/
structure Agent where
  /-- Own items kept for matching, own items not sent yet, and the partner's items without a counterpart. -/
  own : List Item := []
  fresh : List Item := []
  theirs : List Item := []
  /-- Matched, DIFFER, MISSING and skipped, in total. -/
  matched : Nat := 0
  differ : Nat := 0
  missing : Nat := 0
  skippedAll : Nat := 0
  /-- FAULT_ACT 2 is in force. -/
  dropping : Bool := false
  /-- The last millisecond of PAIR_TB compared, and ticks in a row beyond 50 ps. -/
  lastMs : Nat := 0
  sentMs : Nat := 0
  beyond : Nat := 0
  declared : Bool := false
  /-- The partner's PPS0 DLY and ToD fields. -/
  dly : Int := 0
  partnerDigest : Nat := 0
  /-- The member's own ToD fields of its last ticks, by millisecond, and a ToD mismatch declared. -/
  samples : List (Nat × PairTod) := []
  todBad : Bool := false
  ownJudge : Option Judge := none
  theirJudge : Option Judge := none
  role : Option RoleRx := none
  roleAt : Nat := 0
  roleByte : Nat := 0
  /-- A claim was sent, and the clock of that. -/
  claim : Option Nat := none
  /-- A planned handover: the linear instant on PAIR_TB, whether this member proposed it, and whether it is
  accepted. -/
  handover : Option (Nat × Bool × Bool) := none
  /-- The clock since which |Δ| stays within 20 ps, and the clock of the last alignment data. -/
  alignFrom : Option Nat := none
  alignAt : Nat := 0
  armedFrom : Option Nat := none
  /-- The clock since which `pair_role_in` is low. -/
  lowFrom : Option Nat := some 0
  /-- The clock of the last self-test pass, a pass that `RED.HEALTH` asked for, and whom it answers. -/
  testAt : Nat := 0
  asked : Bool := false
  askedMb : Option Nat := none
  deriving DecidableEq, Repr

/-- A flow of Forester's model (R397, R403). Masks, times and sizes are as its request gives them. -/
structure Flow where
  id : Nat
  inport : Nat
  cls : Nat
  red : Nat
  tally : Bool
  ktype : Nat
  /-- The ports the flow may leave by. -/
  egress : List Nat
  period : Nat
  size : Nat
  lat : Nat
  jit : Nat
  release : Nat
  rjit : Nat
  key : List Nat
  pinned : Bool := false
  /-- Its egress ports in ascending order, each with the start W and the length of its sub-window, in 8 ns. -/
  subs : List (Nat × Nat × Nat) := []
  latWc : Nat := 0
  jitWc : Nat := 0
  bset : Nat := 0
  /-- Cells added to the reservation of each bank of the set. -/
  cells : Nat := 0
  /-- The port set and the stream context in use. -/
  pset : Option Nat := none
  sctx : Option Nat := none
  degraded : Bool := false
  deriving DecidableEq, Repr

/-- Forester beside its registers (R394 to R413). -/
structure Forester where
  /-- The committed model and the model with every staged change, in ascending FLOW_ID. -/
  committed : List Flow := []
  work : List Flow := []
  /-- Ports whose bank changes with the work in hand. -/
  changed : List Nat := []
  /-- Ports whose mode changed while they held placed flows: failed at once (R412). -/
  failed : List Nat := []
  /-- The work in hand: 0 none, 1 banks await their activation, 2 the tables await the end of an epoch, 3 the
  tables await their activation, 4 a re-placement is complete. -/
  phase : Nat := 0
  mb : Option Nat := none
  waits : Bool := false
  /-- The clock at which the re-placement began, and the flows it re-placed. -/
  since : Nat := 0
  count : Nat := 0
  deriving DecidableEq, Repr


/-- A reset that `PWR.RESET` has accepted: scope, kind (1 warm), the clock of acceptance. -/
structure ResetReq where
  scope : Nat
  warm : Bool
  clr : Bool
  at_ : Nat
  deriving DecidableEq, Repr

/-- The power manager and start sequencer beside their registers (R558 to R589). -/
structure Pw where
  /-- The work of the running step has begun, and its image entries still to run. -/
  begun : Bool := false
  run : Option ImgRun := none
  /-- The clock at which the running step began. -/
  stepAt : Nat := 0
  /-- The clock of a failed start's failure, while a next start follows. -/
  failedAt : Option Nat := none
  /-- S12 has committed; after a commit of OP 1 it waits for the comparison of the next pass. -/
  committed : Bool := false
  checkNext : Bool := false
  /-- The live trim registers have been loaded and pass their check (R570). -/
  trim : Bool := false
  /-- Forester's committed model has been set up; what a reset kept of it: the words of FO_CFG and FO_PORTp_CFG
  (R409). -/
  placed : Bool := false
  model : Option (List Nat) := none
  /-- `vdd_us` is down (R640). -/
  off : Bool := false
  reset : Option ResetReq := none
  /-- DORMANT has been accepted. -/
  dormant : Bool := false
  /-- The start stops at the end of the step in progress (R577). -/
  stop : Bool := false
  /-- Dies over their warning and critical limits whose event is not armed again: die, or 3 + die. -/
  hot : List Nat := []
  /-- The clock of the last temperature sample and of the last time record. -/
  tempAt : Nat := 0
  saveAt : Nat := 0
  /-- SERVICE or ISLAND has been entered since the reset, and a mode other than BRINGUP. -/
  entered : Bool := false
  deriving DecidableEq, Repr

/-- A result entry of a calibration run (R609). -/
structure CalRes where
  item : Nat
  target : Nat
  result : Nat
  value : Int
  prev : Int
  quality : Nat
  deriving DecidableEq, Repr

/-- A tap or internal-delay result that awaits a whole millisecond (R598). -/
structure CalApply where
  item : Nat
  target : Nat
  values : List Int
  quality : Nat
  at_ : Nat
  deriving DecidableEq, Repr

/-- The calibration unit beside its registers (R590 to R599). -/
structure Cal where
  force : Bool := false
  /-- The arguments of the run, words 2 to 4. -/
  args : List Nat := []
  /-- The targets still to do, the one in progress first, and the clock at which it began. -/
  left : List Nat := []
  since : Nat := 0
  results : List CalRes := []
  apply : Option CalApply := none
  /-- The state and the TEST word that the lane of an item-2 run had before it. -/
  prior : Nat × Nat := (0, 0)
  deriving DecidableEq, Repr

/-- A frame that waits at M0: source address and payload after the Ethertype (R615, R616). -/
structure M0Frame where
  src : Nat
  payload : List Byte
  deriving DecidableEq, Repr

/-- The host interfaces beside their registers (R610 to R634). -/
structure Hi where
  m0 : List M0Frame := []
  /-- The console's receive buffer. -/
  uart : List Byte := []
  /-- The test port: its instruction, the pins held, the last debug access and the unlock challenge. -/
  ir : Nat := 1
  bypass : Nat := 0
  scan : Nat := 0
  dbgData : Nat := 0
  dbgDone : Bool := false
  dbgAbort : Bool := false
  /-- The HI latch of each initiator in the counter window: counter and bits [47:32] (R526). -/
  latch : Tab (Nat × Nat) := []
  /-- The HI halves that a read of a LO half latched (R78, R587). -/
  hiLatch : Tab Nat := []
  deriving DecidableEq, Repr

/-- An operation that runs in the trim store: 1 write or 2 erase, and its slot. -/
structure NvOp where
  op : Nat
  slot : Nat
  at_ : Nat
  deriving DecidableEq, Repr

/-- What `SYS.BOOT_CFG` sets and every reset keeps (R484, R486, R571). -/
structure BootCfg where
  pref : Nat := 0
  trial : Bool := false
  /-- The trial slot has been loaded and its firmware is not confirmed. -/
  tried : Bool := false
  cfgPref : Nat := 0
  signed : Bool := true
  deriving DecidableEq, Repr

/-- The block. -/
structure State where
  /-- The commands that wait, first in, first out. -/
  pending : List Instr := []
  /-- What the last command sent outward. -/
  out : List Out := []
  /-- Picoseconds of the synthesis clock since the power came on. -/
  clk : Nat := 0
  /-- How many free values have been drawn. -/
  drawn : Nat := 0
  /-- The register fields that differ from their reset value or have been written. -/
  regs : Tab Nat := []
  ev : EvState := {}
  sem : Tab Sem := []
  ctl : Ctl := {}
  ci : Ci := {}
  tb : Tab Tb := []
  replica : Tab Replica := []
  pair : Tab Pair := []
  snap : Snap := {}
  hw : Hw := {}
  pps : Tab Pps := []
  serial : Serial := {}
  slot : Tab Slot := []
  dpll : Tab Dpll := []
  tr : Taproot := {}
  pf : Tab Pf := []
  progCnt : Tab ProgCnt := []
  fixedCnt : Tab Nat := []
  bw : Tab Bw := []
  sched : Tab Sched := []
  /-- Timing sessions and port-domain configurations, keyed by 256 × port + domain. -/
  sessions : Tab Session := []
  ptp : Tab PtpCfg := []
  /-- Keeper counts of the admissions of the last 10 ms (R114). -/
  admits : List Nat := []
  fpm : Tab Fpm := []
  lane : Tab Lane := []
  subst : Tab Subst := []
  /-- The clock of the entry to start step S6, from which the training waves run (R285). -/
  waveFrom : Option Nat := none
  port : Tab Port := []
  /-- Control frames admitted in the policer window over all ports, and the ports that have raised
  CTRL_POLICE in it. -/
  police : Nat := 0
  policed : List Nat := []
  cl : Clearing := {}
  fwd : Fwd := {}
  fo : Forester := {}
  sctx : Tab SCtx := []
  et : Et := {}
  us : Us := {}
  /-- The trim store: the words of each slot that is not free (R601). -/
  nv : Tab (List Nat) := []
  /-- Slots whose record failed its plausibility check when it was loaded (R597). -/
  nvBad : List Nat := []
  nvOp : Option NvOp := none
  /-- The slot that the last write used: writes rotate through the free slots (R603). -/
  nvLast : Nat := 1023
  bootCfg : BootCfg := {}
  /-- The quad-SPI flash: a byte not listed reads 0xFF, as an erased flash does (R622, R623). -/
  flash : List Host.Cell := []
  /-- The control SRAM: a byte not listed reads 0 (R460). -/
  csram : List Host.Cell := []
  apll : Tab Apll := []
  clkout : Tab ClkOut := []
  gn : Gnss := {}
  tally : Tally := {}
  agent : Agent := {}
  /-- The last 1 ms windows of the 1.25 GHz clock that ended: of degradation, policing and counters. -/
  degWin : Nat := 0
  polWin : Nat := 0
  cntWin : Nat := 0
  pw : Pw := {}
  cal : Cal := {}
  hi : Hi := {}
  /-- The clock at which the waves of a die opened after its reset by command (R569). -/
  waveDie : Tab Nat := []
  deriving DecidableEq, Repr

/-- The block right after a power-on reset: every register at its reset value, no memory listed, every
queue empty, BRINGUP running and firmware not ready (R469, R583, R640). -/
def State.reset : State := {}

end Sys2Proof.Machine
end

