-- ==== Sys2Proof/Machine/Ops.lean ====
section
/-! DEFINITION. The named operations over registers, time, events, violations, locks and semaphores
that every command's meaning is built from. -/

namespace Sys2Proof.Machine

/-! ### Register fields -/

/-- The value of a register field. -/
def State.get (s : State) (f : Fld) (i : Nat := 0) (j : Nat := 0) : Nat :=
  Tab.get (f.reset i j) s.regs (f.key i j)

/-- The value of a signed register field. -/
def State.getZ (s : State) (f : Fld) (i : Nat := 0) (j : Nat := 0) : Int :=
  sext f.width (s.get f i j)

/-- A one-bit register field as a truth value. -/
def State.on (s : State) (f : Fld) (i : Nat := 0) (j : Nat := 0) : Bool := s.get f i j == 1

/-- Set a register field. -/
def State.set (s : State) (f : Fld) (v : Nat) (i : Nat := 0) (j : Nat := 0) : State :=
  { s with regs := Tab.put s.regs (f.key i j) (v % 2 ^ f.width) }

/-- Set a one-bit field to a truth value. -/
def State.setB (s : State) (f : Fld) (b : Bool) (i : Nat := 0) (j : Nat := 0) : State :=
  s.set f (b2n b) i j

/-- Set a signed field. -/
def State.setZ (s : State) (f : Fld) (z : Int) (i : Nat := 0) (j : Nat := 0) : State :=
  s.set f (wrap f.width z) i j

/-- Add one to a counting field that holds at its largest value. -/
def State.incSat (s : State) (f : Fld) (i : Nat := 0) (j : Nat := 0) (n : Nat := 1) : State :=
  s.set f (satN (2 ^ f.width - 1) (s.get f i j + n)) i j

/-- Add one to a counting field that wraps. -/
def State.incWrap (s : State) (f : Fld) (i : Nat := 0) (j : Nat := 0) : State :=
  s.set f (s.get f i j + 1) i j

/-- The 64-bit value of a LO and HI pair. -/
def State.get64 (s : State) (lo hi : Fld) (i : Nat := 0) (j : Nat := 0) : Nat :=
  s.get lo i j + 2 ^ 32 * s.get hi i j

/-- Set the two halves of a 64-bit value. -/
def State.set64 (s : State) (lo hi : Fld) (v : Nat) (i : Nat := 0) (j : Nat := 0) : State :=
  (s.set lo v i j).set hi (v / 2 ^ 32) i j

/-- Set the two halves of a signed 64-bit value. -/
def State.set64Z (s : State) (lo hi : Fld) (z : Int) (i : Nat := 0) (j : Nat := 0) : State :=
  s.set64 lo hi (wrap 64 z) i j

/-- A register as a word: its fields at their places; write-only fields read 0 (R6). -/
def State.word (s : State) (r : Reg) (i : Nat := 0) (j : Nat := 0) : Nat :=
  r.fields.foldl (fun a f => a + (if f.acc = .wo then 0 else s.get f i j) * 2 ^ f.lo) 0

/-- A write of one field. -/
structure FieldWrite where
  f : Fld
  i : Nat := 0
  j : Nat := 0
  v : Nat

/-- The value a field takes from a word laid out as its register. -/
def Fld.of (f : Fld) (w : Nat) : Nat := bits w f.hi f.lo

/-- A written value lies in the field's range (R660); a signed field whose range is not stated takes every value. -/
def Fld.inRange (f : Fld) (v : Nat) : Bool :=
  let z : Int := if f.signed then sext f.width v else (v : Int)
  match f.max with
  | none => f.signed || decide (f.min ≤ z)
  | some m => decide (f.min ≤ z) && decide (z ≤ m)

/-- A software-writable configuration field. -/
def Fld.isCfg (f : Fld) : Bool := f.acc == .rwl || f.acc == .rw || f.acc == .rws

/-- The writes that a word laid out as a register makes to its configuration fields. -/
def Reg.writes (r : Reg) (w : Nat) (i : Nat := 0) (j : Nat := 0) : List FieldWrite :=
  (r.fields.filter Fld.isCfg).map fun f => { f := f, i := i, j := j, v := f.of w }

/-- Every configuration field of a word is in range. -/
def Reg.ok (r : Reg) (w : Nat) : Bool := (r.fields.filter Fld.isCfg).all fun f => f.inRange (f.of w)

/-- Make field writes. -/
def State.writes (s : State) (ws : List FieldWrite) : State :=
  ws.foldl (fun s w => s.set w.f w.v w.i w.j) s

/-! ### Free values and output -/

/-- Draw the next free value of `w` bits: a value the spec leaves open. -/
def State.draw (s : State) (w : Nat) : Nat × State :=
  (Config.freeValue s.drawn % 2 ^ w, { s with drawn := s.drawn + 1 })

/-- Die-to-die links train: each gets a latency in 800 ps cycles, which the spec leaves open (R26). -/
def State.trainLinks (s : State) (l : List Nat) : State :=
  l.foldl (fun s k => let (v, t) := s.draw 8; { t with hw := { t.hw with link := Tab.put t.hw.link k v } }) s

/-- Send something outward. -/
def State.emit (s : State) (o : Out) : State := { s with out := s.out ++ [o] }

/-- Start a command: nothing has been sent outward yet. -/
def State.quiet (s : State) : State := { s with out := [] }

/-! ### Worlds, locks and the block entries of R504 -/

/-- The block entry of an internal register's address, or 63 for a direct register (R504). -/
def blockEntry (addr : Nat) : Nat :=
  if addr < 0x600000 then 63 else
  let o := (addr - 0x600000) % 0x8000
  match (addr - 0x600000) / 0x8000 with
  | 0 => if o < 0x100 then 12 else if o < 0x200 then (o - 0x100) / 0x10
         else if o < 0x1000 then (o - 0x300) / 0x10 / 5 else (o - 0x1000) / 0x40 / 5
  | 1 => if o < 0x400 then 12 else if o < 0x2000 then (o - 0x400) / 0x40 / 4
         else if o < 0x3000 then (o - 0x2000) / 0x40 / 4 else (o - 0x3000) / 4
  | 2 => if o < 0x100 then 27 else if o < 0x300 then 19 + (o - 0x100) / 0x40
         else if o < 0x600 then 27 else if o < 0x800 then 28 else 27
  | 3 => if o < 0x400 then 29 else 19 + (o - 0x400) / 0x40
  | 4 => 30
  | 5 => 31
  | 6 => 32
  | 7 => 13
  | 8 => 14
  | 9 => 15
  | 10 => if o < 0x20 then 16 else 17
  | 11 => 18
  | 12 => 39
  | 13 => 46
  | 14 => 47
  | 15 => if o < 0x3000 then 33 else 34
  | 16 => 35
  | 17 => 36
  | 18 => 37
  | 19 => 38
  | 20 => if o < 0x10 then 40 else if o < 0x20 then 41 else if o < 0x30 then 42
          else if o < 0x40 then 44 else 45
  | _ => 63

/-- The entries that are always secure (R504). -/
def fixedEntry (e : Nat) : Bool := [37, 39, 40, 43, 45, 46, 47].contains e

/-- A block entry is in the non-secure world. -/
def State.entryNonSecure (s : State) (e : Nat) : Bool :=
  if e < 32 then bitOf (s.get R.FB_BLK_WORLD_LO_ENTRY) e
  else if e < 48 then bitOf (s.get R.FB_BLK_WORLD_HI_ENTRY) (e - 32) else false

/-- An initiator is secure (R502): the pair, PF0 and the pair agent, and the debug port while
unlocked. -/
def State.initSecure (s : State) (init : Nat) : Bool :=
  init == 0 || init == 4 || init == 6 || (init == 8 && s.on R.FB_STAT_DBG_UNLOCKED)

/-- The configuration lock of a world (R513). -/
def State.worldLocked (s : State) (nonSecure : Bool) : Bool :=
  if nonSecure then s.on R.CFG_LOCK_N_LOCK else s.on R.CFG_LOCK_S_LOCK

/-- A field is made read-only by a lock: an RWL field follows the lock of its block's world; the world
tables and FB_CFG lie in a fixed secure block (R513). -/
def State.fieldLocked (s : State) (f : Fld) (i j : Nat) : Bool :=
  f.acc == .rwl && s.worldLocked (s.entryNonSecure (blockEntry (f.addr + f.s1 * i + f.s2 * j)))

/-- A field write of a command that a lock refuses, whatever value it writes: the command would write a locked
register (R473). -/
def State.cmdLocked (s : State) (w : FieldWrite) : Bool := s.fieldLocked w.f w.i w.j

/-- A direct write of a field that a lock refuses: it would change a locked field (R513). -/
def State.writeLocked (s : State) (w : FieldWrite) : Bool :=
  s.get w.f w.i w.j != w.v % 2 ^ w.f.width && s.fieldLocked w.f w.i w.j

/-- Fields the integrity sweep leaves out because the device rewrites them (R510). -/
def Fld.sweptOut (f : Fld) : Bool :=
  f.addr == R.GN_POSx_X_X.addr || f.addr == R.GN_POSx_Y_Y.addr || f.addr == R.GN_POSx_Z_Z.addr
  || (f.addr == R.HW_PAIRk_CFG_PRIMARY.addr && (f.lo == 0 || f.lo == 4))
  || (f.addr == R.TR_DPLLn_CFG_OPEN.addr && f.lo == 9)

/-- A configuration-class field (R510). -/
def Fld.cfgClass (f : Fld) : Bool := f.acc == .rwl && !f.sweptOut

/-- Field writes made by a command or under the device's own rules: a change of a configuration-class
field calls for the automatic commit of R512. -/
def State.cfgWrites (s : State) (ws : List FieldWrite) : State :=
  let changed := ws.any fun w => w.f.cfgClass && s.get w.f w.i w.j != w.v % 2 ^ w.f.width
  let t := s.writes ws
  { t with ci := { t.ci with dirty := t.ci.dirty || changed } }

/-- A mode in which the blocks of the forwarding path work: SERVICE, ISLAND or CALIBRATE (R36). -/
def State.serves (s : State) : Bool := (s.get R.MODE_STATE_MODE == 2 || s.get R.MODE_STATE_MODE == 3 || s.get R.MODE_STATE_MODE == 4)

/-! ### Time (R8, R37, R40) -/

/-- Units of 2^-48 ps in one unit of 2^-16 ns. -/
def linUnit : Nat := 1000 * 2 ^ 32

/-- Units of 2^-48 ps in one second. -/
def secUnit : Nat := 10 ^ 12 * 2 ^ 48

/-- The time wraps after 2^48 seconds. -/
def timeMod : Nat := 2 ^ 48 * secUnit

/-- Add a signed amount of 2^-48 ps to a time. -/
def addTime (t : Nat) (z : Int) : Nat := (((t : Int) + z) % (timeMod : Nat)).toNat

/-- A time in units of 2^-16 ns, truncated (R37). -/
def units16 (t : Nat) : Nat := t / linUnit

/-- The linear time of a time (R40). -/
def linear (t : Nat) : Nat := units16 t % 2 ^ 64

/-- The seconds of a time. -/
def secsOf (t : Nat) : Nat := t / secUnit

/-- The three words of a time (R8). -/
def timeWords (t : Nat) : List Nat :=
  let u := units16 t
  let fr := u % 65536
  let ns := u / 65536 % 10 ^ 9
  let sec := u / 65536 / 10 ^ 9 % 2 ^ 48
  [ns % 65536 * 65536 + fr, sec % 65536 * 65536 + ns / 65536, sec / 65536]

/-- The time that three words spell, where the nanoseconds are legal (R8). -/
def wordsTime (w0 w1 w2 : Nat) : Option Nat :=
  let ns := w0 / 65536 + w1 % 65536 * 65536
  let sec := w1 / 65536 + w2 * 65536
  if ns < 10 ^ 9 then some (((sec * 10 ^ 9 + ns) * 65536 + w0 % 65536) * linUnit) else none

/-- A timebase. -/
def State.tbOf (s : State) (n : Nat) : Tb := Tab.get {} s.tb n

/-- Change a timebase. -/
def State.tbUpd (s : State) (n : Nat) (f : Tb → Tb) : State := { s with tb := Tab.upd {} s.tb n f }

/-- The time of a timebase. -/
def State.time (s : State) (n : Nat) : Nat := (s.tbOf n).acc

/-- A timebase is enabled. -/
def State.tbOn (s : State) (n : Nat) : Bool := s.on R.HW_TBn_CTRL_EN n

/-- The line timebase (R14, R166). -/
def State.lineTb (s : State) : Nat := s.get R.TR_GLOBAL_CFG_LINE_TB

/-- The time scale of the line timebase's rules: its time while it is enabled, and otherwise the
free-running line count, in units of 2^-48 ps (R152). -/
def State.lineTime (s : State) : Nat :=
  if s.tbOn s.lineTb then s.time s.lineTb else s.clk * 2 ^ 48

/-- A time within the horizon of another: less than 2^47 ns after it, and not more than 2^47 ns before it (R41; R9 counts
2^47 ns before it out, see log entry 190). -/
def nearTime (t now : Nat) : Bool :=
  let d : Int := (units16 t : Int) - units16 now
  decide (d < 2 ^ 63) && decide (-(2 ^ 63) ≤ d)

/-- The unit of a slew: 10^10 of it are 2^-48. -/
def slewUnit : Nat := 10 ^ 10

/-- What the slew in force does in some picoseconds, in 2^-48 ps. -/
def Tb.slewed (t : Tb) (dt : Nat) : Int := dt * t.slew / slewUnit

/-- The time a timebase gains in some picoseconds of the core clock (R37, R201). -/
def Tb.gain (t : Tb) (dt : Nat) : Int := dt * (2 ^ 48 + t.freq + t.core) + t.slewed dt

/-- A timebase's rate, in 2^-48 × 10^-10: FREQ, its correction and the slew in force beside the core clock's own (R28,
R37, R201). -/
def Tb.rate (t : Tb) : Int := (2 ^ 48 + t.freq + t.core) * slewUnit + t.slew

/-- Advance a timebase, taking what its slew has done from the remaining correction. -/
def Tb.advance (t : Tb) (dt : Nat) : Tb :=
  { t with acc := addTime t.acc (t.gain dt), rem := t.rem - t.slewed dt }

/-- The correction pending on a timebase, in 2^-48 ps (R42). -/
def Tb.pendingCorr (t : Tb) : Int := t.corrQ.foldl (fun a c => a + c.2) t.rem

/-- SLEWING: from the arrival of a correction until the tick on which its slew ends (R42). -/
def Tb.slewing (t : Tb) : Bool := !t.corrQ.isEmpty || t.rem != 0 || t.slew != 0

/-! ### The trim store (R601, R602) -/

/-- CRC-32C, one byte: polynomial 0x1EDC6F41, reflected (R510). -/
def crc32cByte (c : Nat) (b : Byte) : Nat :=
  (List.range 8).foldl (fun c _ => if c % 2 = 1 then Nat.xor (c / 2) 0x82F63B78 else c / 2) (Nat.xor c b.toNat)

/-- CRC-32C of some bytes. -/
def crc32c (l : List Byte) : Nat := Nat.xor (l.foldl crc32cByte 0xFFFFFFFF) 0xFFFFFFFF

/-- CRC-32C of some words, each taken 4 bytes little-endian. -/
def crcWords (l : List Nat) : Nat := crc32c (l.flatMap fun w => leBytes 4 w)

/-- A slot's words carry MAGIC and their check word. -/
def nvGood (w : List Nat) : Bool :=
  w.length == 16 && bits (w.getD 0 0) 31 16 == 0x4E56 && crcWords (w.take 15) == w.getD 15 0

/-- A slot holds a usable record of a TYPE and KEY. -/
def State.nvIs (s : State) (type key : Nat) (e : Nat × List Nat) : Bool :=
  nvGood e.2 && !s.nvBad.contains e.1 && bits (e.2.getD 0 0) 15 8 == type && bits (e.2.getD 1 0) 15 0 == key
  && bits (e.2.getD 1 0) 31 16 != 0

/-- VERSION a is later than b, compared modulo 2^16 (R603). -/
def verLater (a b : Nat) : Bool := decide (0 < (a + 65536 - b) % 65536) && decide ((a + 65536 - b) % 65536 < 32768)

/-- The record of a TYPE and KEY in the trim store: its slot and its words. Of two valid copies the one
whose VERSION is later is used. -/
def State.nvRec (s : State) (type key : Nat) : Option (Nat × List Nat) :=
  (s.nv.filter (s.nvIs type key)).foldl (fun b e => match b with
    | none => some e
    | some c => if verLater (bits (e.2.getD 1 0) 31 16) (bits (c.2.getD 1 0) 31 16) then some e else b) none

/-- The OCXO record's frequency offset, in 10^-12 (R602). -/
def State.ocxoRec (s : State) : Option Int := (s.nvRec 0x16 0).map fun e => sext 32 (e.2.getD 4 0)

/-! ### Taproot's term of EST_ERR (R175) -/

/-- A reference slot. -/
def State.slotOf (s : State) (i : Nat) : Slot := Tab.get {} s.slot i

/-- Change a reference slot. -/
def State.slotUpd (s : State) (i : Nat) (f : Slot → Slot) : State := { s with slot := Tab.upd {} s.slot i f }

/-- A DPLL. -/
def State.dpllOf (s : State) (n : Nat) : Dpll := Tab.get {} s.dpll n

/-- Change a DPLL. -/
def State.dpllUpd (s : State) (n : Nat) (f : Dpll → Dpll) : State := { s with dpll := Tab.upd {} s.dpll n f }

/-- The DPLL state of a timebase (R185): 0 LOCKED, 1 SWITCHING, 2 HOLDOVER, 3 FREERUN. -/
def State.dpllState (s : State) (n : Nat) : Nat := s.get R.TR_DPLLn_STAT_STATE n

/-- The bound of a clockAccuracy code, in fs: codes 0x17 to 0x30 of IEEE 1588-2019 (PRESUMED), 0 for
0xFE (R175), and no bound for any other code. -/
def accBound (c : Nat) : Nat :=
  if c = 0xFE then 0
  else if c < 0x17 ∨ 0x30 < c then 2 ^ 74
  else ([10, 25, 100, 250, 1000, 2500, 10 ^ 4, 25000, 10 ^ 5, 250000, 10 ^ 6, 2500000, 10 ^ 7, 25000000,
    10 ^ 8, 250000000, 10 ^ 9, 2500000000, 10 ^ 10, 25000000000, 10 ^ 11, 250000000000, 10 ^ 12, 2500000000000,
    10 ^ 13, 10 ^ 14].getD (c - 0x17) 0) * 100

/-- The covering code: the smallest clockAccuracy code whose bound is not less than an error in ps (R176). -/
def coverCode (e : Nat) : Nat :=
  ((List.range 26).find? fun k => decide (1000 * e ≤ accBound (0x17 + k))).elim 0x31 fun k => 0x17 + k

/-- The OCXO is warm. -/
def State.warm (s : State) : Bool := s.on R.TR_OCXO_STAT_WARM

/-- The temperature of die T, in °C. -/
def State.tempT (s : State) : Int := sext 8 (s.get R.PM_TEMP_STAT_TEMP_T)

/-- The frequency uncertainty F of a kind, in 10^-12, from the bounds as they stand (R173, R175). -/
def State.ferrOf (s : State) (k : Nat) : Nat :=
  let h := s.get R.TR_HO_MODEL0_HO_FERR
  match k with
  | 0 => 100 * h
  | 1 => 10 * h
  | 2 => h
  | 3 => 1000 * s.get R.TR_HO_MODEL1_FERR_TRIM
  | _ => 1000 * s.get R.TR_HO_MODEL2_XO_FERR

/-- The error rate of a DPLL in HOLDOVER, or in the free run of a warm start, in 10^-12: F as it is in
force now, and c × |ΔT| (R173, R175, R201). -/
def State.holdRate (s : State) (n : Nat) (h : Holdover) : Nat :=
  let f := if s.tr.core = 2 then 100000000 else s.ferrOf (if s.warm then h.ferr else 4)
  let c := if s.on R.TR_DPLLn_STAT_MODEL_VALID n then s.get R.TR_HO_MODEL1_TCO_VALID else s.get R.TR_HO_MODEL1_TCO_NOMODEL
  f + c * (s.tempT - h.temp).natAbs

/-- The error of a holdover, in ps. -/
def State.holdErr (s : State) (n : Nat) (h : Holdover) : Nat :=
  let t := s.clk - h.entry
  (h.e0 + h.integ + s.holdRate n h * (s.clk - h.last) + s.get R.TR_HO_MODEL0_HO_AGE * t * t / (2 * 86400 * 10 ^ 12)) / 10 ^ 12

/-- The build-out's share of the term in fs: it counts for a slot with ALIGN (R175). -/
def State.boErr (s : State) (n slot : Nat) : Nat :=
  if s.on R.TR_SLOTs_CFG_ALIGN slot then (s.dpllOf n).bo.natAbs * 10 ^ 6 / 65536 else 0

/-- Taproot's term of EST_ERR for a timebase, in ps; 2^64 where the time is unknown (R175). -/
def State.tapTerm (s : State) (n : Nat) : Nat :=
  let d := s.dpllOf n
  match s.dpllState n with
  | 0 => let a := s.get R.TR_DPLLn_STAT_ACTIVE n
    (accBound (s.get R.TR_SLOTs_QUAL_ACCURACY a) + s.boErr n a) / 1000
  | 1 => let a := s.get R.TR_DPLLn_STAT_TARGET n
    (accBound (s.get R.TR_SLOTs_QUAL_ACCURACY a) + s.boErr n a) / 1000
  | 2 => match d.hold with | some h => s.holdErr n h | none => 2 ^ 64
  | _ => if d.unknownErr then 2 ^ 64 else match d.hold with | some h => s.holdErr n h | none => 2 ^ 64

/-- EST_ERR in ps: Taproot's term plus the magnitude of the pending correction; the pending correction
alone where the host is the source (R63). -/
def State.estErr (s : State) (n : Nat) : Nat :=
  let p := (s.tbOf n).pendingCorr.natAbs / 2 ^ 48
  if s.on R.HW_TBn_CTRL_SRC n then p else s.tapTerm n + p

/-! ### Block power and modes -/

/-- The operating mode (R583): 0 stands for DORMANT. -/
def State.mode (s : State) : Nat := s.get R.MODE_STATE_MODE

/-- Region T1 is powered: it answers in every mode but DORMANT (R578, R583). -/
def State.powered (s : State) : Bool := s.mode != 0

/-- A start has not reached step k yet (R577). -/
def State.beforeStep (s : State) (k : Nat) : Bool :=
  s.mode == 1 && s.on R.MODE_STATE_START_RUN && decide (s.get R.MODE_STATE_STEP < k)

/-- The power state of a block entry and of a port: 0 for P0 to 3 for P3 (R558). -/
def State.blkState (s : State) (e : Nat) : Nat := bits (s.get R.PM_BLK_STATEi_ST (e / 16)) (2 * (e % 16) + 1) (2 * (e % 16))

def State.portPower (s : State) (p : Nat) : Nat := bits (s.get R.PM_PORT_STATEi_ST (p / 16)) (2 * (p % 16) + 1) (2 * (p % 16))

/-- A block entry is in P2 or P3; 63 stands for no block. -/
def State.asleep (s : State) (e : Nat) : Bool := decide (e < 48) && decide (2 ≤ s.blkState e)

/-- A line on the console, while it is enabled (R624, R633). -/
def State.tell (s : State) (line : String) : State :=
  if s.asleep 44 || !s.on R.HI_UART_CFG_EN then s else s.emit (.uart line)

/-- The Understory keeper: a 48-bit count of 32,768 Hz ticks since `vdd_us` rose (R565). -/
def State.keeper (s : State) : Nat := (Config.keeperAt (s.us.clk0 + s.clk) - s.us.keeper0) % 2 ^ 48

/-- Keeper ticks in some seconds. -/
def keeperSecs (n : Nat) : Nat := 32768 * n

/-- The node's identity (R32). -/
def State.nodeId (s : State) : Nat := s.get R.NODE_ID_NODE_ID

/-! ### Events (R542 to R548) -/

/-- The block entry whose world an event takes; 64 for always secure, 65 for always non-secure
(R543). -/
def eventEntry (e : Nat) : Nat :=
  if e < 8 then 19 + e else if e < 16 then 19 + (e - 8) else if e < 24 then 64 else if e < 32 then 65
  else if e < 45 then 12 else if e < 47 then 27 else if e = 47 then 28 else if e < 54 then 27
  else if e < 60 then 29 else if e < 65 then 30 else if e < 70 then 31 else if e < 73 then 32
  else if e < 75 then 13 else if e = 75 then 14 else if e < 79 then 15 else if e < 82 then 18
  else if e = 82 then 16 else if e < 89 then 17 else if e < 94 then 39 else if e = 94 then 46
  else if e = 95 then 47 else if e < 98 then 33 else if e < 100 then 34 else if e = 100 then 35
  else if e < 109 then 38 else if e < 112 then 36 else if e < 114 then 37 else if e < 116 then 40
  else if e = 116 then 41 else if e = 117 then 42 else if e = 118 then 45 else if e = 119 then 44
  else if e < 124 then 64 else 65

/-- An event is non-secure (R544). -/
def State.eventNonSecure (s : State) (e : Nat) : Bool :=
  if eventEntry e = 64 then false else if eventEntry e = 65 then true
  else s.entryNonSecure (eventEntry e)

/-- An event is set in both EV_STATUS and EV_ENABLE. -/
def State.eventOn (s : State) (e : Nat) : Bool :=
  bitOf (s.get R.EV_STATUSi_STATUS (e / 32)) (e % 32)
  && bitOf (s.get R.EV_ENABLEi_ENABLE (e / 32)) (e % 32)

/-- The route byte of an event (R545, R552). -/
def State.route (s : State) (e : Nat) : Nat :=
  bits (s.word R.EV_ROUTEi (e / 4)) (8 * (e % 4) + 7) (8 * (e % 4))

/-- An event is routed to a function: PF1 takes only non-secure events (R545). -/
def State.routedTo (s : State) (fn e : Nat) : Bool :=
  if fn = 0 then bitOf (s.route e) 5 else bitOf (s.route e) 6 && s.eventNonSecure e

/-- A vector of a function is pending (R545). -/
def State.vecPending (s : State) (fn v : Nat) : Bool :=
  (List.range 128).any fun e => s.eventOn e && s.routedTo fn e && s.route e % 32 == v

/-- `irq_n` is driven low (R546). -/
def State.irqLow (s : State) : Bool :=
  (List.range 128).any fun e => s.eventOn e && bitOf (s.route e) 7

/-- Send a vector's message under the masking and pending-bit rules of MSI-X (R545). -/
def State.sendVec (s : State) (fn v : Nat) : State :=
  let p := Tab.get {} s.pf fn
  if !p.msixEn then s
  else if p.bme && !p.fmask && !bitOf p.vmask v then s.emit (.msix fn v)
  else { s with pf := Tab.put s.pf fn { p with pba := p.pba ||| 2 ^ v } }

/-- A record's word 0 (R547). -/
def recW0 (lost valid : Bool) (e detail : Nat) : Nat :=
  b2n lost * 2 ^ 30 + b2n valid * 2 ^ 29 + e % 128 * 2 ^ 16 + detail % 65536

/-- Set an event's status bit and signal the vectors that become pending (R542, R545). -/
def State.latchEvent (s : State) (e : Nat) : State :=
  let f := R.EV_STATUSi_STATUS
  let t := s.set f (s.get f (e / 32) ||| 2 ^ (e % 32)) (e / 32)
  if t.eventOn e && !s.eventOn e then
    let v := t.route e % 32
    let t1 := if t.routedTo 0 e && !s.vecPending 0 v then t.sendVec 0 v else t
    if t1.routedTo 1 e && !s.vecPending 1 v then t1.sendVec 1 v else t1
  else t

/-- Write a raise's record to one FIFO; tells whether an overflow episode began (R547). -/
def pushRec (cap : Nat) (ovf : Bool) (fifo : List EvRec) (r : EvRec) : List EvRec × Bool × Bool :=
  if fifo.length < cap then
    (fifo ++ [{ r with w0 := r.w0 + b2n ovf * 2 ^ 30 }], false, false)
  else (fifo, true, !ovf)

/-- Make a raise's records in the FIFOs its world gives; the result tells which overflow episodes
began. -/
def State.recordEvent (s : State) (e detail : Nat) : State × Bool × Bool :=
  if bitOf (s.get R.EV_REC_ENi_REC_EN (e / 32)) (e % 32) then
    let w := timeWords (s.time s.lineTb)
    let r : EvRec := { w0 := recW0 false (s.tbOf s.lineTb).timeValid e detail
                       w1 := w.getD 0 0, w2 := w.getD 1 0, w3 := w.getD 2 0 }
    let (fs, os, bs) := pushRec 1024 s.ev.secOvf s.ev.secFifo r
    let (fn, on, bn) := if s.eventNonSecure e then pushRec 256 s.ev.nonOvf s.ev.nonFifo r
      else (s.ev.nonFifo, s.ev.nonOvf, false)
    ({ s with ev := { s.ev with secFifo := fs, secOvf := os, nonFifo := fn, nonOvf := on } }, bs, bn)
  else (s, false, false)

/-- Add to the programmable counters that count an event number (R530, R531): `port` qualifies port
events and `m` the MATCH field. -/
def State.countProg (s : State) (ev port m n : Nat) : State :=
  { s with progCnt := s.progCnt.map fun c =>
      if c.2.ev == ev && (ev ≥ 0x100 || c.2.port == port) && (!(0x60 ≤ ev && ev < 0x64) || c.2.mtch == m)
      then (c.1, { c.2 with value := (c.2.value + n) % 2 ^ 48 }) else c }

/-- Raise an event without the overflow report of its own records. -/
def State.raiseOne (s : State) (e detail : Nat) : State × Bool × Bool :=
  ((s.countProg (0x180 + e) 0 0 1).latchEvent e).recordEvent e detail

/-- Set the overflow bits of EV_REC_STAT for episodes that began and raise EVREC_OVF once for each
(R547). -/
def State.evrecOvf (s : State) (bs bn : Bool) : State :=
  let s1 := if bs then ((s.set R.EV_REC_STAT_S_OVF 1).raiseOne 100 0).1 else s
  if bn then ((s1.set R.EV_REC_STAT_N_OVF 1).raiseOne 100 1).1 else s1

/-- Raise an event with its detail (R542, R543, R547). -/
def State.raise (s : State) (e : Nat) (detail : Nat := 0) : State :=
  let (t, bs, bn) := s.raiseOne e detail
  t.evrecOvf bs bn

/-- A detail of two values (R543). -/
def det2 (a b : Nat) : Nat := a % 256 + 256 * (b % 256)

/-! ### Violations (R507 to R509) -/

/-- The spaces of a violation (R519). -/
inductive Space | bar | internal | csram | command
  deriving DecidableEq, Repr

/-- The code of a space. -/
def Space.code : Space → Nat
  | .bar => 0 | .internal => 1 | .csram => 2 | .command => 3

/-- Log a violation and raise FB_VIOLATION; the log keeps its first 16 entries (R509). -/
def State.violation (s : State) (kind : Nat) (sp : Space) (target init : Nat) (tNonSecure : Bool)
    (acc addr : Nat) : State :=
  let n := s.get R.FB_VIOL_STAT_COUNT
  if n < 16 then
    let w := timeWords (s.time s.lineTb)
    let t := s.writes [
      { f := R.FB_VIOLn_INFO_VALID, i := n, v := 1 }, { f := R.FB_VIOLn_INFO_KIND, i := n, v := kind },
      { f := R.FB_VIOLn_INFO_SPACE, i := n, v := sp.code }, { f := R.FB_VIOLn_INFO_TARGET, i := n, v := target },
      { f := R.FB_VIOLn_INFO_INIT, i := n, v := init },
      { f := R.FB_VIOLn_INFO_I_WORLD, i := n, v := b2n (!s.initSecure init) },
      { f := R.FB_VIOLn_INFO_T_WORLD, i := n, v := b2n tNonSecure }, { f := R.FB_VIOLn_INFO_ACC, i := n, v := acc },
      { f := R.FB_VIOLn_INFO_TIME_VALID, i := n, v := b2n (s.tbOf s.lineTb).timeValid },
      { f := R.FB_VIOLn_ADDR_ADDR, i := n, v := addr }, { f := R.FB_VIOLn_T0_TIME, i := n, v := w.getD 0 0 },
      { f := R.FB_VIOLn_T1_TIME, i := n, v := w.getD 1 0 }, { f := R.FB_VIOLn_T2_TIME, i := n, v := w.getD 2 0 },
      { f := R.FB_VIOL_STAT_COUNT, v := n + 1 }]
    t.raise 94 n
  else (s.incSat R.FB_VIOL_STAT_LOST).raise 94 16

/-- Empty the violation log (R509). -/
def State.clearViolations (s : State) : State :=
  let t := (List.range 16).foldl (fun s n => s.writes (
    (R.FB_VIOLn_INFO.fields ++ R.FB_VIOLn_ADDR.fields ++ R.FB_VIOLn_T0.fields
     ++ R.FB_VIOLn_T1.fields ++ R.FB_VIOLn_T2.fields).map fun f => { f := f, i := n, v := 0 })) s
  (t.set R.FB_VIOL_STAT_COUNT 0).set R.FB_VIOL_STAT_LOST 0

/-! ### Semaphores (R487 to R491) -/

/-- A semaphore. -/
def State.semOf (s : State) (n : Nat) : Sem := Tab.get {} s.sem n

/-- Release a semaphore with BROKEN set and raise SEM_BROKEN (R489). -/
def State.breakSem (s : State) (n : Nat) : State :=
  let m := s.semOf n
  { s with sem := Tab.put s.sem n { held := false, owner := m.owner, broken := true } }.raise
    92 (det2 n m.owner)

/-- Release every semaphore of an owner that was reset or faulted (R489). -/
def State.ownerFault (s : State) (owner : Nat) : State :=
  (List.range 64).foldl (fun s n =>
    if (s.semOf n).held && (s.semOf n).owner == owner then s.breakSem n else s) s

/-- A semaphore is held by someone other than an owner. -/
def State.semTaken (s : State) (n owner : Nat) : Bool :=
  (s.semOf n).held && (s.semOf n).owner != owner

/-! ### Fixed counters (R525, R528, R529) -/

/-- Add to a fixed counter of a port, and to the programmable counters that follow it. -/
def State.count (s : State) (port i : Nat) (n : Nat := 1) : State :=
  ({ s with fixedCnt := Tab.upd 0 s.fixedCnt (64 * port + i) fun v => (v + n) % 2 ^ 48 }).countProg i port 0 n

end Sys2Proof.Machine
end

