-- ==== Sys2Proof/Machine/Layout.lean ====
section
/-! DEFINITION. The banks that Forester builds for its managed ports, the commits of their layouts, and a port's
scheduler record (R373, R382, R394 to R396). -/

namespace Sys2Proof.Machine

/-! ### A port's scheduler -/

/-- A port's scheduler. -/
def State.schedOf (s : State) (p : Nat) : Sched := Tab.get {} s.sched p

/-- Change a port's scheduler. -/
def State.schedUpd (s : State) (p : Nat) (f : Sched → Sched) : State := { s with sched := Tab.upd {} s.sched p f }

/-- 8 ns, in 2^-48 ps. -/
def tick8 : Nat := 8000 * 2 ^ 48

/-- The schedule timebase of a port. -/
def State.schedTb (s : State) (p : Nat) : Nat := s.get R.SC_Pp_CFG_TB p

/-- A commit of the port is pending. -/
def State.schedPending (s : State) (p : Nat) : Bool := s.on R.SC_Pp_STAT_PENDING p

/-- The bank that STAT.ACTIVE names. -/
def State.bankOf (s : State) (p : Nat) : Nat := s.get R.SC_Pp_STAT_ACTIVE p

/-- Accept a commit at an instant. -/
def State.schedAccept (s : State) (p t : Nat) (keeps : Bool) : State :=
  let u := (s.set R.SC_Pp_STAT_PENDING 1 p).set R.SC_Pp_STAT_CANCELLED 0 p
  u.schedUpd p fun c => { c with commit := some t, keeps := keeps }

/-! ### Layouts (R395) -/

/-- Forester manages a port (R394). -/
def State.managed (s : State) (p : Nat) : Bool := s.on R.FO_PORTp_CFG_MANAGED p

/-- CYCLE of a managed port, in 8 ns. -/
def State.foCycle (s : State) (p : Nat) : Nat := s.get R.FO_PORTp_CFG_CYCLE p * 125

/-- A sub-window in the cycle: its position and length in 8 ns, and its flow. -/
structure SubW where
  pos : Nat
  len : Nat
  id : Nat
  deriving DecidableEq, Repr

/-- Copies of a flow in one cycle (R400 rule 6). -/
def Flow.copies (f : Flow) (cyc : Nat) : Nat := if f.period * 125 < cyc then cyc / (f.period * 125) else 1

/-- The sub-windows that a flow holds on a port. -/
def Flow.subWs (f : Flow) (p cyc : Nat) : List SubW :=
  match f.subs.find? fun x => x.1 == p with
  | some (_, w, l) => (List.range (f.copies cyc)).map fun k => { pos := (w + k * f.period * 125) % cyc, len := l, id := f.id }
  | none => []

/-- Insert a sub-window in ascending position. -/
def insertSub (x : SubW) : List SubW → List SubW
  | [] => [x]
  | y :: l => if x.pos ≤ y.pos then x :: y :: l else y :: insertSub x l

/-- The sub-windows of a model on a port, in ascending position. -/
def modelSubs (model : List Flow) (p cyc : Nat) : List SubW :=
  (model.flatMap fun f => f.subWs p cyc).foldl (fun l x => insertSub x l) []

/-- The runs of ascending sub-windows: start, end, and the flow of the first. -/
def runsOf : List SubW → List (Nat × Nat × Nat)
  | [] => []
  | x :: l => match runsOf l with
    | (b, e, _) :: r => if x.pos + x.len = b then (x.pos, e, x.id) :: r else (x.pos, x.pos + x.len, x.id) :: (b, e, 0) :: r
    | [] => [(x.pos, x.pos + x.len, x.id)]

/-- The entries of a bank from a position on: its windows, and class B and 7 between them. -/
def layoutFrom (cyc cur : Nat) : List (Nat × Nat × Nat × Nat) → List (Nat × Nat)
  | [] => if cur < cyc then [(cur, 0x9F)] else []
  | (b, e, o, t) :: r =>
    (if cur < b then [(cur, 0x9F)] else []) ++ (b, o + 0x100 + t * 2 ^ 16) :: layoutFrom cyc e r

/-- The first flow of each run, by position. -/
def tagAt (l : List SubW) (pos : Nat) : Nat := ((l.find? fun x => x.pos == pos).map SubW.id).getD 0

/-- The bank of a port for a model. -/
def State.layout (s : State) (model : List Flow) (p : Nat) : List (Nat × Nat) :=
  let cyc := s.foCycle p
  let tw := s.get R.FO_PORTp_CFG_TIMING_WIN p
  let l := modelSubs model p cyc
  layoutFrom cyc 0 ((if 0 < tw then [(0, tw, 0x80, 0)] else [])
    ++ (runsOf l).map fun r => (r.1, r.2.1, 0x60, tagAt l r.1))

/-- Write a bank whole. -/
def State.writeBank (s : State) (p b : Nat) (l : List (Nat × Nat)) (cyc : Nat) : State :=
  let put (c : Sched) : Sched := { c with
    entries := ((List.range l.length).zip l).foldl (fun t e => Tab.put t (1024 * b + e.1) e.2)
      (List.filter (fun (e : Nat × Nat × Nat) => e.1 / 1024 != b) c.entries) }
  (s.schedUpd p put).cfgWrites [{ f := R.SC_Pp_CYCx_CYCLE, i := p, j := b, v := cyc },
    { f := R.SC_Pp_NUMx_NUM, i := p, j := b, v := l.length }]

/-- Write a model's layout to the inactive bank of a port. -/
def State.writeLayout (s : State) (model : List Flow) (p : Nat) : State :=
  s.writeBank p (1 - s.bankOf p) (s.layout model p) (s.foCycle p)

/-! ### Commits of layouts (R396) -/

/-- The first time at least 1 ms ahead that is a whole multiple of some 8 ns units in its second. -/
def State.alignedAt (s : State) (p units : Nat) : Nat :=
  let u := max 1 units * tick8
  ((s.time (s.schedTb p) + 10 ^ 9 * 2 ^ 48 + u - 1) / u * u) % timeMod

/-- The model in force on a port: the one in hand while its commit runs. -/
def State.foModel (s : State) (p : Nat) : List Flow :=
  if 2 ≤ s.get R.FO_STAT_STATE ∧ s.fo.changed.contains p = true then s.fo.work else s.fo.committed

/-- Forester commits a port's layout with MODE 1 at the first aligned instant. -/
def State.foRecommit (s : State) (p : Nat) : State :=
  if s.managed p && s.tbOn (s.schedTb p) then
    (s.writeLayout (s.foModel p) p).schedAccept p (s.alignedAt p (s.foCycle p)) false
  else s

/-- A managed port that holds placed flows changes its mode: it has failed (R412). -/
def State.foModeChange (s : State) (p : Nat) : State :=
  if s.managed p && s.fo.committed.any fun f => f.subs.any fun x => x.1 == p then
    { s with fo := { s.fo with failed := s.fo.failed ++ [p] } }
  else s

/-! ### Commits of the tables (R347, R350, R406) -/

/-- 0 IDLE, 1 DRAINING, 2 RESYNC. -/
def State.epochState (s : State) : Nat := s.get R.FD_EPOCH_STAT_STATE

/-- A commit is accepted and has not activated. -/
def State.fwdPending (s : State) : Bool := s.fwd.commit.isSome

/-- The forwarding tables refuse a change: the epoch drains or resyncs, or a commit awaits its instant (R350). -/
def State.fwdBusy (s : State) : Bool := s.epochState != 0 || s.fwdPending

/-- 1 µs, in 2^-48 ps. -/
def oneUs : Nat := 10 ^ 6 * 2 ^ 48

/-- The first whole microsecond of the line timebase at least 2 µs ahead. -/
def State.fwdInstant (s : State) : Nat := ((s.lineTime + 2 * oneUs + oneUs - 1) / oneUs * oneUs) % timeMod

/-- Accept a commit of the tables: MAX_RES applies as it stands now. -/
def State.fwdAccept (s : State) (mb : Option Nat) (waits : Bool) : State :=
  { s with fwd := { s.fwd with commit := some s.fwdInstant, commitMb := mb, commitWaits := waits
                               actAt := s.clk, maxRes := s.get R.FD_EPOCH_CFG_MAX_RES } }

/-- Forester's work in hand goes on: once no bank it changed awaits its activation, and no epoch is in the way,
it commits the tables. -/
def State.foPoll (s : State) : State :=
  if (s.fo.phase = 1 ∧ (s.fo.changed.all fun p => !s.schedPending p) = true) ∨ s.fo.phase = 2 then
    if s.fwdBusy then { s with fo := { s.fo with phase := 2 } }
    else { s.fwdAccept none false with fo := { s.fo with phase := 3 } }
  else s

/-! ### Timing queues (R414) -/

/-- Two to the power of minus a signed logarithm, in sixteenths. -/
def rate16 (z : Int) : Nat := if 0 ≤ z then 16 / 2 ^ z.toNat else 16 * 2 ^ (-z).toNat

/-- The load of a session, in sixteenths of a message per second. -/
def State.sessLoad (s : State) (k : Nat) (e : Session) : Nat :=
  match Tab.find? s.ptp k with
  | some c => rate16 c.syncLog + 2 * rate16 c.dreqLog + rate16 c.annLog
      + (if e.npx = 0 then 0 else 16 * 2 ^ s.get R.PT_NPX_CFG_NPX_RATE_LOG)
  | none => 0

/-- The load of a timing queue. -/
def State.queueLoad (s : State) (q : Nat) : Nat :=
  s.sessions.foldl (fun a e => a + if e.2.tq = q then s.sessLoad e.1 e.2 else 0) 0

/-- The queue with the least load, the lowest on a tie. -/
def State.freeQueue (s : State) : Nat :=
  [1, 2, 3].foldl (fun q k => if s.queueLoad k < s.queueLoad q then k else q) 0

/-- Show the loads of the queues. -/
def State.queueSync (s : State) : State :=
  s.writes [{ f := R.FO_TQ_LOAD0_TQ0, v := s.queueLoad 0 / 16 }, { f := R.FO_TQ_LOAD0_TQ1, v := s.queueLoad 1 / 16 },
    { f := R.FO_TQ_LOAD1_TQ2, v := s.queueLoad 2 / 16 }, { f := R.FO_TQ_LOAD1_TQ3, v := s.queueLoad 3 / 16 }]

end Sys2Proof.Machine
end

