-- ==== Sys2Proof/Machine/Sweep.lean ====
section
/-! DEFINITION. The integrity sweep: what a pass takes of every block entry, and when (R510, R562). -/

namespace Sys2Proof.Machine

/-- The indices of a register family. -/
def Reg.indices (r : Reg) : List (Nat × Nat) := (List.range r.n1).flatMap fun i => (List.range r.n2).map fun j => (i, j)

/-- Registers of a family that do not exist: MB_WDT1, CA_LIM0 (R497, R607). -/
def absentReg (addr : Nat) : Bool := addr == 0x660004 || addr == 0x688100 || addr == 0x688104

/-- The port whose power state governs a register (R560): its timestamp unit, MAC, scheduler, lane or phase
meter. -/
def regPort (a : Nat) : Option Nat :=
  let o := (a - 0x600000) % 0x8000
  let ofLane (l : Nat) : Option Nat := if l < 60 ∧ l % 5 < 4 then some (l / 5 * 4 + l % 5) else none
  let below (p : Nat) : Option Nat := if p < 48 then some p else none
  match (a - 0x600000) / 0x8000 with
  | 0 => if 0x300 ≤ o ∧ o < 0x6C0 then ofLane ((o - 0x300) / 0x10) else if 0x1000 ≤ o then ofLane ((o - 0x1000) / 0x40) else none
  | 1 => if 0x400 ≤ o ∧ o < 0x1000 then below ((o - 0x400) / 0x40)
         else if 0x2000 ≤ o ∧ o < 0x2C00 then below ((o - 0x2000) / 0x40) else none
  | 9 => if 0x1000 ≤ o then below ((o - 0x1000) / 0x100) else none
  | _ => none

/-- An internal register's block or port is at least in a power state: 2 for P2 or P3, 3 for P3. -/
def State.downTo (s : State) (a st : Nat) : Bool :=
  (decide (blockEntry a < 48) && decide (st ≤ s.blkState (blockEntry a)))
  || (match regPort a with | some p => decide (st ≤ s.portPower p) | none => false)

/-- The value of a configuration-class field as the integrity sweep takes it: Shouf's copy for a block or port in
P3 (R562). While a commit is pending it takes what commands have written there since, which that commit makes the copy. -/
def State.sweepGet (s : State) (f : Fld) (i j : Nat) : Nat :=
  if s.ci.commit.isNone && s.downTo (f.addr + f.s1 * i + f.s2 * j) 3 then
    match s.ci.copy with
    | some t => Tab.get (f.reset i j) t (f.key i j)
    | none => s.get f i j
  else s.get f i j

/-- The configuration-class fields of a register at an index: QUAL of the slots that ports feed is written by
the device. -/
def Reg.swept (r : Reg) (i : Nat) : List Fld :=
  if r.addr = R.TR_SLOTs_QUAL.addr ∧ 8 ≤ i ∧ i < 14 then [] else r.fields.filter Fld.cfgClass

/-- The swept words of a block entry: every register with a configuration-class field, in ascending offset, under
its mask. -/
def State.sweptWords (s : State) (b : Nat) : List Nat :=
  let l := regTable.flatMap fun r => r.indices.filterMap fun ij =>
    let addr := r.addr + r.s1 * ij.1 + r.s2 * ij.2
    let fs := r.swept ij.1
    if blockEntry addr = b ∧ !absentReg addr ∧ !fs.isEmpty then
      some (addr, fs.foldl (fun a f => a + s.sweepGet f ij.1 ij.2 * 2 ^ f.lo) 0)
    else none
  (l.mergeSort fun x y => decide (x.1 ≤ y.1)).map Prod.snd

/-- CRC_b of a block entry. -/
def State.blockCrc (s : State) (b : Nat) : Nat :=
  let w := s.sweptWords b
  if w.isEmpty then 0 else crcWords w

/-- The sweep of the running pass up to now: it takes its 48 entries in ascending order at even distances, the last at its end
(DESIGN CHOICE, log entry 247: R510 gives the order and the length of a pass). -/
def State.sweepRun (s : State) : State :=
  match s.ci.passStart with
  | some t =>
    let n := s.ci.taken.length
    let due := min 48 ((s.clk - t) * 48 / 10 ^ 9)
    { s with ci := { s.ci with taken := s.ci.taken ++ (List.range' n (due - n)).map s.blockCrc } }
  | none => s

end Sys2Proof.Machine
end

