-- ==== Sys2Proof/Machine/Time.lean ====
section
/-! DEFINITION. Time as the outputs show it, the passage of time, and everything a step of a timebase
does (R27, R28, R42 to R46, R50, R57 to R61, R204, R384, R534). -/

namespace Sys2Proof.Machine

/-! ### Pairs and outputs (R50) -/

/-- The enabled pair a timebase belongs to. -/
def State.pairOf (s : State) (n : Nat) : Option Nat :=
  (List.range 4).find? fun k => s.on R.HW_PAIRk_CFG_EN k
    && (s.get R.HW_PAIRk_CFG_PRIMARY k == n || s.get R.HW_PAIRk_CFG_SHADOW k == n)

/-- A pair. -/
def State.pairRec (s : State) (k : Nat) : Pair := Tab.get {} s.pair k

/-- The active member of a pair. -/
def State.pairActive (s : State) (k : Nat) : Nat :=
  if s.on R.HW_PAIRk_CFG_ACTIVE k then s.get R.HW_PAIRk_CFG_SHADOW k else s.get R.HW_PAIRk_CFG_PRIMARY k

/-- SLEW_MAX of a timebase, in 2^-48 × 10^-10 (R42). -/
def State.slewMax (s : State) (n : Nat) : Nat := s.get R.HW_TBn_SLEW_SLEW_MAX n * 2 ^ 48

/-- A number brought nearer to 0 by some amount. -/
def towardZero (z : Int) (m : Nat) : Int := if z.natAbs ≤ m then 0 else if z < 0 then z + m else z - m

/-- The build-out of a pair now: one that converges moves to 0 at SLEW_MAX of the primary (R51). -/
def State.buildOut (s : State) (k : Nat) : Int :=
  let r := s.pairRec k
  if r.converging then towardZero r.b ((s.clk - r.bAt) * s.slewMax (s.get R.HW_PAIRk_CFG_PRIMARY k) / slewUnit) else r.b

/-- B is still converging. -/
def State.pairConverging (s : State) (k : Nat) : Bool := (s.pairRec k).converging && s.buildOut k != 0

/-- The build-out is taken down as it stands now, before the rate changes at which it converges. -/
def State.rebasePair (s : State) (k : Nat) : State :=
  { s with pair := Tab.upd {} s.pair k fun r => { r with b := s.buildOut k, bAt := s.clk } }

/-- The timebase an output follows when it names one, and the build-out it adds (R50). -/
def State.followed (s : State) (named : Nat) : Nat × Int :=
  match s.pairOf named with
  | some k => (s.pairActive k, s.buildOut k)
  | none => (named, 0)

/-- The time an output that names a timebase shows. -/
def State.outTime (s : State) (named : Nat) : Nat :=
  addTime (s.time (s.followed named).1) (s.followed named).2

/-- The clock, in whole ps, at which a timebase reaches a time some 2^-48 ps from now: its counter moves on the
800 ps cycles, and between them an edge is placed with 1 ps resolution (R37, R56). -/
def State.clockIn (s : State) (n : Nat) (ahead : Int) : Int :=
  ((s.clk / 800 * 800 : Nat) : Int) + ahead * slewUnit / (s.tbOf n).rate

/-- PPS output n is in CMP mode. -/
def State.ppsCmpMode (s : State) (n : Nat) : Bool := s.get R.HW_PPSn_CFG_MODE n == 2

/-- The timebase of a PPS output: its comparator's in CMP mode, and otherwise the one its followed
pair or its TB field gives (R50, R56). -/
def State.ppsTb (s : State) (n : Nat) : Nat :=
  if s.ppsCmpMode n then s.get R.HW_CMPm_CTRL_TB (s.get R.HW_PPSn_CFG_CMP_NUM n)
  else (s.followed (s.get R.HW_PPSn_CFG_TB n)).1

/-- How much earlier than the instant a negative DLY places an edge, in 2^-48 ps of the timebase (R56). -/
def State.ppsEarly (s : State) (n : Nat) : Int := max 0 (-(s.getZ R.HW_PPSn_DLY_DLY n)) * 2 ^ 48

/-- The time a PPS output follows, to which R58 refers. -/
def State.ppsPlain (s : State) (n : Nat) : Nat :=
  if s.ppsCmpMode n then s.time (s.ppsTb n) else s.outTime (s.get R.HW_PPSn_CFG_TB n)

/-- The same, as far ahead as a negative DLY places the edges (R56). -/
def State.ppsTime (s : State) (n : Nat) : Nat := addTime (s.ppsPlain n) (s.ppsEarly n)

/-- A PPS output. -/
def State.ppsOf (s : State) (n : Nat) : Pps := Tab.get {} s.pps n

/-- Change a PPS output. -/
def State.ppsUpd (s : State) (n : Nat) (f : Pps → Pps) : State := { s with pps := Tab.upd {} s.pps n f }

/-- The timebase that ToD frames follow: that of the PPS output PPS_SEL names (R59). -/
def State.todTb (s : State) : Nat := s.ppsTb (s.get R.HW_TOD_CFG_PPS_SEL)

/-- The time that ToD frames describe. -/
def State.todTime (s : State) : Nat := s.ppsPlain (s.get R.HW_TOD_CFG_PPS_SEL)

/-- The timebase and the time of the IRIG-B output. -/
def State.irigTb (s : State) : Nat := (s.followed (s.get R.HW_IRIG_CFG_TB)).1

def State.irigPlain (s : State) : Nat := s.outTime (s.get R.HW_IRIG_CFG_TB)

/-- The same, as far ahead as a negative DLY of PPS0 places its frames (R61). -/
def State.irigTime (s : State) : Nat := addTime s.irigPlain (s.ppsEarly 0)

/-- A second lies in a list of ranges. -/
def inRanges (l : List (Nat × Nat)) (x : Nat) : Bool := l.any fun r => r.1 ≤ x && x ≤ r.2

/-- An APLL beside its registers. -/
def State.apllOf (s : State) (a : Nat) : Apll := Tab.get {} s.apll a

/-- The DPLL an APLL follows: the line DPLL for APLL0 and APLL1, and otherwise its steering DPLL or the
active member of that one's pair (R203, R217). -/
def State.apllFollow (s : State) (a : Nat) : Nat :=
  if a < 2 then s.lineTb else (s.followed (s.apllOf a).src).1

/-- The build-out under which an APLL's outputs stand, in steps of 0.5 ps (R217). -/
def State.apllB (s : State) (a : Nat) : Int := if a < 2 then 0 else ((s.followed (s.apllOf a).src).2 + 2 ^ 46) / 2 ^ 47

/-- The time by which an APLL's outputs are placed: that of the timebase it follows, with the build-out (R211, R217). -/
def State.apllTime (s : State) (a : Nat) : Nat :=
  let n := s.apllFollow a
  addTime (if n = s.lineTb then s.lineTime else s.time n) (s.apllB a * 2 ^ 47)

/-- A clock output's values in force. -/
def State.clkOutOf (s : State) (m : Nat) : ClkOut := Tab.get {} s.clkout m

/-- The outputs in force on an APLL. -/
def State.outsOf (s : State) (a : Nat) : List Nat := (List.range 16).filter fun m => s.get R.SY_OUTm_STAT_APLL_ACT m == a

/-- Bring FOLLOW of every APLL up to date. -/
def State.followSync (s : State) : State :=
  (List.range 4).foldl (fun s a => s.set R.SY_APLLa_STAT_FOLLOW (s.apllFollow a) a) s

/-- Add a second to a list of ranges. -/
def addRange (l : List (Nat × Nat)) (x : Nat) : List (Nat × Nat) :=
  match l with
  | (a, b) :: r => if x = b + 1 then (a, x) :: r else (x, x) :: (a, b) :: r
  | [] => [(x, x)]

/-- EST_ERR is within the limit and the DPLL condition for leaving the squelch holds (R66). -/
def State.hoCleared (s : State) (n : Nat) : Bool :=
  decide (s.estErr n ≤ 1000 * s.get R.HW_TBn_HO_LIMIT_HOLDOVER_LIMIT n)
  && (s.on R.HW_TBn_CTRL_SRC n || s.dpllState n != 3)

/-- An output is squelched: before the first valid time unless it runs free, and by HO_ACT after
HO_LIMIT until the time recovers (R57, R66). -/
def State.squelched (s : State) (tb : Nat) (free hoAct : Bool) : Bool :=
  if !(s.tbOf tb).firstValid then !free
  else hoAct && (s.tbOf tb).hoSquelch && !s.hoCleared tb

/-- The clock-output role lets a PPS output drive (R455). -/
def State.roleLets (s : State) (ctl : Bool) : Bool := !ctl || s.on R.RD_ROLE_STAT_HOLD

/-- The clock of an edge: the instant at which a timebase shows a time `ahead` of the one it shows, plus DLY of PPS
output n; a negative DLY is counted on the timebase (R56). -/
def State.edgeAt (s : State) (n tb : Nat) (ahead : Int) : Int :=
  s.clockIn tb (ahead - s.ppsEarly n) + max 0 (s.getZ R.HW_PPSn_DLY_DLY n)

/-- The clock of the leading edge of PPS output n for the boundary of a second in SECOND mode. -/
def State.ppsEdge (s : State) (n sec : Nat) : Int := s.edgeAt n (s.ppsTb n) ((sec * secUnit : Nat) - (s.ppsPlain n : Int))

/-- An edge stands 0.5 s or more after the last emitted one (R58). -/
def State.ppsSpaced (s : State) (n : Nat) (edge : Int) : Bool :=
  match (s.ppsOf n).lastEdge with
  | none => true
  | some e => decide (edge - e ≥ 500000000000)

/-- PPS output n is on and not squelched (R57, R66). -/
def State.ppsOpen (s : State) (n : Nat) : Bool :=
  s.get R.HW_PPSn_CFG_MODE n != 0
  && !s.squelched (s.ppsTb n) (s.on R.HW_PPSn_CFG_PPS_FREE n) (s.on R.HW_PPSn_CFG_HO_ACT n)

/-- PPS output n drives its pin: open, and let by the clock-output role (R455). -/
def State.ppsDrives (s : State) (n : Nat) : Bool := s.ppsOpen n && s.roleLets (bitOf (s.get R.RD_ROLE_CFG_PPS_CTL) n)

/-- In SECOND mode, output n emits a pulse at the second `sec`: it drives, no pulse of that second has been
emitted, no step has crossed its boundary, and the spacing holds (R58). -/
def State.ppsEmits (s : State) (n sec : Nat) : Bool :=
  s.ppsDrives n && !inRanges (s.ppsOf n).emitted sec && !inRanges (s.ppsOf n).crossed sec && s.ppsSpaced n (s.ppsEdge n sec)

/-- The linear target of a comparator. -/
def State.cmpTarget (s : State) (m : Nat) : Nat := s.get64 R.HW_CMPm_TGT_LO_TGT R.HW_CMPm_TGT_HI_TGT m

/-- The signed distance of a linear target from a linear now (R41). -/
def linDist (target now : Nat) : Int := sext 64 ((target + 2 ^ 64 - now % 2 ^ 64) % 2 ^ 64)

/-- The time in 2^-16 ns, not taken modulo 2^64, at which an armed comparator fires. -/
def State.cmpGoal (s : State) (m : Nat) : Int :=
  match Tab.find? s.hw.goal m with
  | some g => g
  | none => let now := s.time (s.get R.HW_CMPm_CTRL_TB m); units16 now + linDist (s.cmpTarget m) (linear now)

/-- In CMP mode, output n has a pulse at the boundary of a second: its comparator fires there (R56). -/
def State.ppsFiresAt (s : State) (n sec : Nat) : Bool :=
  let m := s.get R.HW_PPSn_CFG_CMP_NUM n
  s.ppsDrives n && s.on R.HW_CMPm_CTRL_ARM m && decide (s.cmpGoal m = (sec * 10 ^ 9 * 65536 : Nat))

/-! ### UTC and leap seconds (R46, R47) -/

/-- The SEC of a leap entry. -/
def State.leapSec (s : State) (n k : Nat) : Nat :=
  s.get R.HW_TBn_LEAPk_A_SEC n k + 2 ^ 32 * s.get R.HW_TBn_LEAPk_B_SEC n k

/-- The valid leap entries up to a second, in the order of their seconds. -/
def State.dueLeaps (s : State) (n sec : Nat) : List Nat :=
  ((List.range 4).filter fun k => s.leapSec n k != 0 && decide (s.leapSec n k ≤ sec)).mergeSort fun a b => decide (s.leapSec n a ≤ s.leapSec n b)

/-- The UTC offset in force in a second: that of the latest entry reached (R46). -/
def State.utcOfs (s : State) (n sec : Nat) : Int :=
  match (s.dueLeaps n sec).getLast? with
  | some k => s.getZ R.HW_TBn_LEAPk_B_NEW_OFS n k
  | none => s.getZ R.HW_TBn_UTC_UTC_OFS n

/-- Take the offsets of the leap entries that a timebase has reached, in the order of their seconds. -/
def State.applyLeaps (s : State) (n : Nat) : State :=
  (s.dueLeaps n (secsOf (s.time n))).foldl (fun s k => ((((s.set R.HW_TBn_UTC_UTC_OFS (s.get R.HW_TBn_LEAPk_B_NEW_OFS n k) n).set
    R.HW_TBn_LEAPk_A_SEC 0 n k).set R.HW_TBn_LEAPk_B_SEC 0 n k).set R.HW_TBn_LEAPk_B_NEW_OFS 0 n k).raise 50 n) s

/-- The earliest valid leap entry after a second. -/
def State.nextLeap (s : State) (n sec : Nat) : Option Nat :=
  (List.range 4).foldl (fun b k => if s.leapSec n k ≤ sec then b else match b with
    | none => some k
    | some j => if s.leapSec n k < s.leapSec n j then some k else b) none

/-- Leap pending, and whether it is a deletion (R47). -/
def State.leapPending (s : State) (n sec : Nat) : Bool × Bool :=
  match s.nextLeap n sec with
  | none => (false, false)
  | some k => let p := decide (s.leapSec n k ≤ sec + 86400)
      (p, p && decide (s.getZ R.HW_TBn_LEAPk_B_NEW_OFS n k < s.utcOfs n sec))

/-- The second `sec` is shown as second 60: an insertion follows at the next second (R46). -/
def State.isSecond60 (s : State) (n sec : Nat) : Bool :=
  match s.nextLeap n sec with
  | none => false
  | some k => s.leapSec n k == sec + 1
      && decide (s.getZ R.HW_TBn_LEAPk_B_NEW_OFS n k = s.utcOfs n sec + 1)

/-! ### ToD frames (R59, R60) -/

/-- CRC-16 of R60: polynomial 0x1021, initial value 0xFFFF, no reflection. -/
def crc16 (l : List Byte) : Nat :=
  l.foldl (fun c b => (List.range 8).foldl (fun c k =>
    let top := bitOf c 15 != bitOf b.toNat (7 - k)
    let d := c * 2 % 65536
    if top then Nat.xor d 0x1021 else d) c) 0xFFFF

/-- The fields of the ToD frame of a boundary, but SEQ and CHECK: what is in force now. -/
def State.todBody (s : State) (sec : Nat) : List Byte :=
  let n := s.todTb
  let o := s.get R.HW_TOD_CFG_PPS_SEL
  let st := s.dpllState n
  let (lp, ld) := s.leapPending n sec
  let sw := match s.pairOf n with
    | none => false
    | some k => (s.pairRec k).lastSwitch == some (sec - 1)
  let pulse := if s.ppsCmpMode o then s.ppsFiresAt o sec
    else s.get R.HW_PPSn_CFG_MODE o == 1 && (inRanges (s.ppsOf o).emitted sec || s.ppsEmits o sec)
  leBytes 6 sec ++ leBytes 2 (wrap 16 (s.utcOfs n sec))
  ++ leBytes 1 (b2n lp + 2 * b2n ld + 4 * b2n (s.isSecond60 n sec))
  ++ leBytes 1 (b2n (s.tbOf n).timeValid + 2 * b2n (st == 2) + 4 * b2n pulse
      + 8 * b2n s.serial.stepped + 16 * b2n (s.tbOf n).depthExceeded + 32 * b2n sw + 64 * b2n (st == 3))
  ++ leBytes 1 st ++ leBytes 1 n ++ leBytes 4 (satN (2 ^ 32 - 1) (s.estErr n))
  ++ leBytes 1 (s.get R.TR_DPLLn_QOUT_CLASS n) ++ leBytes 1 (s.get R.TR_DPLLn_QOUT_ACCURACY n)
  ++ leBytes 2 (s.get R.TR_DPLLn_QOUT_VARIANCE n) ++ leBytes 4 s.nodeId

/-- Add a range of seconds to those that a list holds. -/
def addSpan (l : List (Nat × Nat)) (a b : Nat) : List (Nat × Nat) := if a ≤ b then (a, b) :: l else l

/-- The ToD frame of a boundary is captured, with OFFSET and BAUD as they are (R59, R94). -/
def State.todTake (s : State) (sec : Nat) : State :=
  let f : TodFrame := { at_ := s.clockIn s.todTb ((sec * secUnit : Nat) - (s.todTime : Int))
                        offset := s.get R.HW_TOD_CFG_OFFSET, baud := s.get R.HW_TOD_CFG_BAUD, body := s.todBody sec }
  { s with serial := { s.serial with
      todDone := addRange s.serial.todDone sec, stepped := false, frames := s.serial.frames ++ [f] } }

/-- At each second boundary that the followed timebase crosses by running for the first time, capture the ToD
frame that describes it (R59). -/
def State.todCapture (s : State) : State :=
  let sec := secsOf s.todTime
  let s1 := if s.on R.HW_TOD_CFG_EN then
      ((List.range (sec - s.serial.todSeen)).map fun k => s.serial.todSeen + 1 + k).foldl
        (fun s x => if inRanges s.serial.todDone x then s else s.todTake x) s
    else s
  { s1 with serial := { s1.serial with todSeen := sec } }

/-! ### Counters of cycles (R531) -/

/-- A stored frame. -/
def State.frame? (s : State) (id : Nat) : Option Frame := Tab.find? s.cl.frames id

/-- A class queue, head first. -/
def State.queue (s : State) (p c : Nat) : List Nat := Tab.get [] s.cl.queues (8 * p + c)

/-- The cells of the copies in a queue. -/
def State.queueCells (s : State) (p c : Nat) : Nat :=
  (s.queue p c).foldl (fun a id => a + match s.frame? id with | some f => f.cells.length | none => 0) 0

/-- The cycles of 800 ps that a programmable counter counts while nothing else happens: every cycle, the
cycles in which its port is down, or those in which a class queue holds at least MATCH cells. -/
def State.countsCycle (s : State) (c : ProgCnt) : Bool :=
  c.ev == 0x3FF || (c.ev == 0x64 && s.on R.PT_STATp_DOWN c.port)
  || (decide (0x58 ≤ c.ev) && decide (c.ev < 0x60) && decide (c.mtch ≤ s.queueCells c.port (c.ev - 0x58)))

/-- Count the cycles of an interval that ends now; a grove in P2 has no clocks (R558). -/
def State.countCycles (s : State) (dt : Nat) : State :=
  let n := s.clk / 800 - (s.clk - dt) / 800
  let up (c : ProgCnt) : ProgCnt := { c with value := (c.value + n) % 2 ^ 48 }
  let clocked (k : Nat) : Bool := !(decide (k < 96) && s.asleep (k / 8))
  { s with progCnt := s.progCnt.map fun e => if clocked e.1 && s.countsCycle e.2 then (e.1, up e.2) else e }

/-! ### The passage of time -/

/-- Every enabled timebase advances by the 800 ps cycles of an interval that ends now (R37). -/
def State.advanceAll (s : State) (dt : Nat) : State :=
  let run := 800 * (s.clk / 800 - (s.clk - dt) / 800)
  (List.range 8).foldl (fun t n => if t.tbOn n then t.tbUpd n fun b => b.advance run else t) s

/-- The OCXO scale of the event timer advances: by the core clock while the OCXO drives that (R201, R264). -/
def State.advanceOcxo (s : State) (dt : Nat) : State :=
  let ofs := if s.tr.core = 1 then 0 else s.tr.ocxoOfs
  { s with et := { s.et with ocxo := addTime s.et.ocxo (dt * 2 ^ 48 + dt * ofs * 2 ^ 48 / 10 ^ 12) } }

/-- The synthesis clock counts, and nothing has been sent outward yet. -/
def State.clock (s : State) (dt : Nat) : State := { s with out := [], clk := s.clk + dt }

/-- Some picoseconds of the synthesis clock pass: every enabled timebase advances, and so does the OCXO scale of
the event timer; cycles are counted, a ToD frame is captured at its boundary, and the integrity sweep goes on (R37, R59,
R264, R510, R531). -/
def State.elapse (s : State) (dt : Nat) : State :=
  (((((s.clock dt).advanceAll dt).advanceOcxo dt).countCycles dt).todCapture).sweepRun

/-! ### TIME_VALID and the quality of time (R63, R66) -/

/-- TIME_VALID by its three conditions (R63); in BRINGUP it reads 0 (R36). -/
def State.validNow (s : State) (n : Nat) : Bool :=
  decide (2 ≤ s.mode) && s.tr.settleDone && (s.on R.HW_TBn_CTRL_SRC n || s.dpllState n != 3)
  && decide (s.estErr n ≤ 1000 * s.get R.HW_TBn_HO_LIMIT_HOLDOVER_LIMIT n)

/-- Judge TIME_VALID and HO_LIMIT of a timebase again, raising their events on a change. -/
def State.judgeTime (s : State) (n : Nat) : State :=
  let t := s.tbOf n
  let v := s.tbOn n && s.validNow n
  let far := s.tbOn n && decide (s.estErr n > 1000 * s.get R.HW_TBn_HO_LIMIT_HOLDOVER_LIMIT n)
  let sq := if far && !t.overLimit then true else t.hoSquelch && !s.hoCleared n
  let s1 := s.tbUpd n fun t => { t with
    timeValid := v, firstValid := t.firstValid || v, overLimit := far, hoSquelch := sq }
  let s2 := if v != t.timeValid then s1.raise (8 + n) (b2n v) else s1
  if far && !t.overLimit then s2.raise 49 n else s2

/-! ### Comparators (R41, R45, R52) -/

/-- The period of a comparator in units of 2^-16 ns. -/
def State.cmpPeriod (s : State) (m : Nat) : Nat := s.get R.HW_CMPm_PER_PERIOD m * 1000 * 65536

/-- Arm a comparator on a timebase: its linear target lies within the next 2^64 units. -/
def State.cmpAim (s : State) (m tb : Nat) : State :=
  let now := units16 (s.time tb)
  { s with hw := { s.hw with goal := Tab.put s.hw.goal m (now + 1 + (s.cmpTarget m + 2 ^ 64 - (now + 1) % 2 ^ 64) % 2 ^ 64) } }

/-- Start a snapshot capture of the timebases in a mask, or set OVERRUN while one runs (R53 to R55). -/
def State.capture (s : State) (mask : Nat) (cmp : Option Nat) : State :=
  if s.on R.TS_SNAP_CTRL_BUSY then (s.set R.TS_SNAP_CTRL_OVERRUN 1).raise 52
  else
    let ws := ((List.range 8).filter (bitOf mask)).map fun n =>
      let w := timeWords (s.time n)
      let st := s.dpllState n
      ({ tb := n, w0 := w.getD 0 0, w1 := w.getD 1 0, w2 := w.getD 2 0
         stat := b2n (s.tbOn n) * 2 ^ 31 + b2n (s.tbOf n).timeValid * 2 ^ 30 + b2n (st == 2) * 2 ^ 29
           + b2n (s.tbOf n).slewing * 2 ^ 28 + b2n (s.tbOf n).depthExceeded * 2 ^ 27
           + st * 2 ^ 24 + b2n cmp.isSome * 2 ^ 23 + cmp.getD 0 * 2 ^ 16
           + satN 0xFFFF (s.estErr n / 1000) } : SnapWord)
    let s1 := (List.range 8).foldl (fun s n => s.set R.TS_SNAP_TBn_STAT_VALID 0 n) s
    { s1.set R.TS_SNAP_CTRL_BUSY 1 with snap := { words := ws } }

/-- The pin of every PPS output in CMP mode that names a comparator has an edge to come, unless a negative DLY has
placed it already (R52, R56). -/
def State.cmpPins (s : State) (m : Nat) (edge : Nat → Int) : State :=
  (List.range 4).foldl (fun s n =>
    if s.ppsCmpMode n && s.get R.HW_PPSn_CFG_CMP_NUM n == m then s.ppsUpd n fun p =>
      if p.early == some (s.cmpGoal m).toNat then { p with early := none } else { p with due := p.due ++ [edge n], early := none }
    else s) s

/-- A comparator fires: its actions, and the pin of every PPS output in CMP mode that names it, with the edge of
each. A one-shot disarms; a periodic one advances its target by `k` periods (R52). -/
def State.fireCmp (s : State) (m k : Nat) (edge : Nat → Int) : State :=
  let s1 := if s.on R.HW_CMPm_CTRL_ACT_EVENT m then s.raise 51 m else s
  let s2 := if s.on R.HW_CMPm_CTRL_ACT_SNAP m then s1.capture (s1.get R.TS_SNAP_CTRL_TB_MASK) (some m) else s1
  let s3 := s2.cmpPins m edge
  if s3.on R.HW_CMPm_CTRL_PERIODIC m then
    { s3.set64 R.HW_CMPm_TGT_LO_TGT R.HW_CMPm_TGT_HI_TGT ((s3.cmpTarget m + k * s3.cmpPeriod m) % 2 ^ 64) m with
      hw := { s3.hw with goal := Tab.put s3.hw.goal m ((s.cmpGoal m).toNat + k * s3.cmpPeriod m) } }
  else s3.set R.HW_CMPm_CTRL_ARM 0 m

/-- A forward step past the target of an armed comparator, to a time in 2^-16 ns (R45). -/
def State.stepCmp (s : State) (m now : Nat) : State :=
  let edge (n : Nat) : Int := s.clk + max 0 (s.getZ R.HW_PPSn_DLY_DLY n)
  if s.on R.HW_CMPm_CTRL_PERIODIC m then
    let skip := (now - (s.cmpGoal m).toNat) / s.cmpPeriod m
    let t := s.fireCmp m (skip + 1) edge
    (t.set R.HW_CMPm_CTRL_STEPPED 1 m).incSat R.HW_CMPm_CTRL_SKIPPED m 0 skip
  else (s.fireCmp m 1 edge).set R.HW_CMPm_CTRL_STEPPED 1 m

/-! ### What a step of a timebase does -/

/-- A step of a schedule timebase or a reload of its replica: ALIGN_LOST, the cancelled commit and
their events (R384), for the ports of one die or of both. -/
def State.schedAlign (s : State) (tb : Nat) (ports : List Nat) : State :=
  (ports.filter fun p => s.get R.SC_Pp_CFG_TB p == tb).foldl (fun s p =>
    let s1 := (s.set R.SC_Pp_STAT_ALIGN_LOST 1 p).raise 78 p
    if s1.on R.SC_Pp_STAT_PENDING p then
      let s2 := (s1.set R.SC_Pp_STAT_PENDING 0 p).set R.SC_Pp_STAT_CANCELLED 1 p
      { s2 with sched := Tab.upd {} s2.sched p fun c => { c with commit := none } }.raise 77 (det2 p 1) |>.foRecommit p
    else s1.foRecommit p) s

/-- The cycle counters of the ports that use a timebase do not follow its step (R373). -/
def State.schedPhase (s : State) (tb : Nat) (delta : Int) : State :=
  ((List.range 48).filter fun p => s.get R.SC_Pp_CFG_TB p == tb && s.on R.SC_Pp_STAT_RUN p).foldl
    (fun (s : State) p => { s with sched := Tab.upd {} s.sched p fun c => { c with phase := c.phase - delta } }) s

/-- The clock outputs do not follow a step: their edges stand off the boundaries of the timebase by it (R204). -/
def State.standOff (s : State) (tb : Nat) (delta : Int) : State :=
  let moved (m : Nat) : Bool := s.apllFollow (s.get R.SY_OUTm_STAT_APLL_ACT m) == tb
  let off (e : Nat × ClkOut) : Nat × ClkOut :=
    if moved e.1 then (e.1, { e.2 with first := e.2.first.map fun t => addTime t delta }) else e
  { s with clkout := s.clkout.map off }

/-- A step of the timebase that APLL2 or APLL3 follows (R204). -/
def State.synAlign (s : State) (tb : Nat) : State :=
  [2, 3].foldl (fun s a =>
    if s.get R.SY_APLLa_STAT_FOLLOW a == tb && s.on R.SY_APLLa_CFG_EN a then
      (s.set R.SY_APLLa_STAT_ALIGN_LOST 1 a).raise 64 a else s) s

/-- The window boundaries of a port up to a time of the line timebase, since the second at which its meters were enabled
(R533). -/
def State.bwBefore (s : State) (p origin at_ : Nat) : Nat := (at_ - origin) / (s.get R.TL_BWp_CFG_WIN p * 10 ^ 6 * 2 ^ 48)

/-- The boundaries up to now. -/
def State.bwIndex (s : State) (p origin : Nat) : Nat := s.bwBefore p origin s.lineTime

/-- The bandwidth windows in progress end: their window is excluded and the period carries STEPPED
(R534). -/
def State.bwStep (s : State) (tb : Nat) : State :=
  if tb = s.lineTb then { s with bw := s.bw.map fun e =>
      (e.1, { e.2 with skip := true, stepped := true, index := s.bwIndex e.1 e.2.origin, frames := [] }) }
  else s

/-- The second from which boundaries of PPS output n count as still to come: a pulse that a negative DLY has placed
before its boundary counts (R58). -/
def State.ppsHere (s : State) (n : Nat) : Nat :=
  let sec := secsOf (s.ppsPlain n)
  if inRanges (s.ppsOf n).emitted (sec + 1) then sec + 1 else sec

/-- The same for the IRIG-B output. -/
def State.irigHere (s : State) : Nat :=
  let sec := secsOf s.irigPlain
  if inRanges s.serial.irigEmitted (sec + 1) then sec + 1 else sec

/-- The seconds whose boundaries a jump from one second to another crosses. -/
def crossing (l : List (Nat × Nat)) (a b : Nat) : List (Nat × Nat) := if a < b then addSpan l (a + 1) b else addSpan l (b + 1) a

/-- The outputs that follow a time which has jumped since a state `pre`: a forward step across a boundary raises
PPS_STEP once, no crossed second gets a pulse or a frame, and an IRIG-B frame in progress is aborted (R58, R59,
R61). `hit` tells which outputs moved. -/
def State.outputsStepped (s pre : State) (hitPps : Nat → Bool) (hitTod hitIrig : Bool) : State :=
  let s1 := (List.range 4).foldl (fun s n =>
    if hitPps n then
      let a := secsOf (pre.ppsPlain n)
      let b := secsOf (s.ppsPlain n)
      let t := s.ppsUpd n fun p => { p with
        seen := if pre.ppsPlain n < s.ppsPlain n then s.ppsHere n else b, crossed := crossing p.crossed a b }
      if a < b ∧ s.get R.HW_PPSn_CFG_MODE n = 1 then t.raise 47 n else t
    else s) s
  let s2 := if hitTod then { s1 with serial := { s1.serial with
      stepped := true, todSeen := secsOf s1.todTime } } else s1
  if hitIrig then { s2 with serial := { s2.serial with
      irigOn := none, irigCrossed := crossing s2.serial.irigCrossed (secsOf pre.irigPlain) (secsOf s2.irigPlain)
      irigSeen := if pre.irigPlain < s2.irigPlain then s2.irigHere else secsOf s2.irigPlain } } else s2

/-- The outputs move with a change of the pair they follow, which is handled as a step of the outputs: TIME_STEP names each
timebase that such an output now follows (R91). -/
def State.outputsMoved (s pre : State) : State :=
  let pps (n : Nat) : Bool := s.get R.HW_PPSn_CFG_MODE n == 1 && pre.ppsPlain n != s.ppsPlain n
  let tod := s.on R.HW_TOD_CFG_EN && pre.todTime != s.todTime
  let irig := s.on R.HW_IRIG_CFG_EN && pre.irigPlain != s.irigPlain
  let now := (List.range 8).filter fun n => ((List.range 4).any fun i => pps i && s.ppsTb i == n)
    || (tod && s.todTb == n) || (irig && s.irigTb == n)
  now.foldl (fun s n => s.raise 46 n) (s.outputsStepped pre pps tod irig)

/-- Whole milliseconds of a timebase. -/
def msOf (t : Nat) : Nat := t / (10 ^ 9 * 2 ^ 48)

/-- The pulses of a timebase go on from the millisecond in which it stands. -/
def State.pulseHere (s : State) (n : Nat) : State :=
  { s with hw := { s.hw with pulseMs := Tab.put (Tab.put s.hw.pulseMs n (msOf (s.time n))) (8 + n) (msOf (s.time n)) } }

/-- A whole millisecond of a timebase has come since its last pulse to a die (R27). -/
def State.pulseDue (s : State) (die n : Nat) : Bool := s.tbOn n && Tab.get 0 s.hw.pulseMs (8 * die + n) != msOf (s.time n)

/-- Send a port die the increment of a timebase: 800 ps × (1 + r_n) / (1 + r_line), in 2^-48 ns, exactly
800 ps for the line timebase (R28). -/
def State.increment (s : State) (n : Nat) : Nat :=
  if n = s.lineTb then 800 * 2 ^ 48 / 1000
  else 800 * 2 ^ 48 * (s.tbOf n).rate.toNat / ((s.tbOf s.lineTb).rate.toNat * 1000)

/-- Send both port dies the increment of a timebase. -/
def State.sendIncrement (s : State) (n : Nat) : State :=
  (s.emit (.increment 0 n (s.increment n))).emit (.increment 1 n (s.increment n))

/-- The replica of timebase n on a port die (0 A, 1 B). -/
def State.repOf (s : State) (die n : Nat) : Replica := Tab.get {} s.replica (8 * die + n)

/-- The comparators that a forward step of a timebase passes, from a time to a time in 2^-16 ns (R45). -/
def State.passedCmps (s : State) (n before now : Nat) : List Nat :=
  (List.range 32).filter fun m => s.on R.HW_CMPm_CTRL_ARM m && s.get R.HW_CMPm_CTRL_TB m == n
    && decide ((before : Int) < s.cmpGoal m) && decide (s.cmpGoal m ≤ now)

/-- Armed comparators of a timebase that has stepped backward aim at the first time that equals their target modulo
2^64 (R40, R45). -/
def State.reAim (s : State) (n : Nat) : State :=
  ((List.range 32).filter fun m => s.on R.HW_CMPm_CTRL_ARM m && s.get R.HW_CMPm_CTRL_TB m == n
    && decide ((units16 (s.time n) : Int) < s.cmpGoal m)).foldl (fun s m => s.cmpAim m n) s

/-- After a step of the line timebase the next tick, and the next update of the frequency monitors, fall on its next whole
millisecond and whole 100 ms (R147, R152). -/
def State.lineStepped (s : State) (n : Nat) : State :=
  if n = s.lineTb then
    { s with tr := { s.tr with lastMs := s.lineTime / (10 ^ 9 * 2 ^ 48), lastMon := s.lineTime / (10 ^ 11 * 2 ^ 48) } }
  else s

/-- Step a timebase by a signed amount of 2^-48 ps, whole and at once (R43, R45, R46, R58, R98,
R233). -/
def State.stepTb (s : State) (n : Nat) (delta : Int) : State :=
  let before := units16 (s.time n)
  let s1 := (s.tbUpd n fun t => { t with
    acc := addTime t.acc delta, rem := 0, corrQ := [], slew := 0, stepSeq := (t.stepSeq + 1) % 16, steps := t.steps + 1 }).pulseHere n
  let now := units16 (s1.time n)
  let late (r : Replica) : Replica := { r with ofs := r.ofs - delta, stale := true }
  let reps := Tab.upd {} (Tab.upd {} s1.replica n late) (8 + n) late
  let s2 := { s1 with replica := reps }
  let s3 := (s2.raise 46 n).sendIncrement n
  let s4 := (s3.applyLeaps n).lineStepped n
  let s5 := s4.outputsStepped s (fun k => s.ppsTb k == n) (s.todTb == n) (s.irigTb == n)
  let s6 := if before ≤ now then (s5.passedCmps n before now).foldl (fun s m => s.stepCmp m now) s5 else s5.reAim n
  let s7 := if s6.get R.GN_CFG_TB = n then
      let t := { s6 with gn := { s6.gn with stepped := true } }
      (t.set R.GN_INx_STAT_CLK_SYNC 0 0).set R.GN_INx_STAT_CLK_SYNC 0 1
    else s6
  (((((s7.schedPhase n delta).schedAlign n (List.range 48)).standOff n delta).synAlign n).bwStep n).judgeTime n

/-! ### Corrections (R42 to R44) -/

/-- The largest pending correction: 1 s (R44). -/
def corrMax : Int := secUnit

/-- A correction would be refused because the pending sum would exceed 1 s (R44). -/
def State.corrRefused (s : State) (n : Nat) (delta : Int) : Bool :=
  decide (((s.tbOf n).pendingCorr + delta).natAbs > secUnit)

/-- Hand a correction to a timebase: a step where R43 allows it, and otherwise a slew that starts at a
tick (R42). `dpll` tells a request of the timebase's own DPLL, `step` one that asks for a step. -/
def State.correct (s : State) (n : Nat) (delta : Int) (dpll step : Bool) : State :=
  let sum := (s.tbOf n).pendingCorr + delta
  let thr : Nat := s.get R.HW_TBn_STEP_THR_STEP_THRESHOLD n * 1000 * 2 ^ 48
  if step || (dpll && decide (thr < sum.natAbs) && s.on R.HW_TBn_CTRL_STEP_ALLOW n) then s.stepTb n sum
  else (s.tbUpd n fun t => { t with corrQ := t.corrQ ++ [(s.clk, delta)] }).judgeTime n

/-- A change that reached Heartwood at least 1 µs before a tick takes effect at it (R28). -/
def State.ripe (s : State) (at_ : Nat) : Bool := decide (at_ + 1000000 ≤ s.clk)

/-- At a tick, a timebase takes its new FREQ and its new corrections, and its slew for the coming
millisecond is set: SLEW_MAX, or the rest when that is smaller; a residue under 5 fs is added at once
(R28, R42). -/
def State.tickTb (s : State) (n : Nat) : State :=
  let t := s.tbOf n
  let ripeF := t.freqQ.filter fun f => s.ripe f.1
  let lastF := (ripeF.getLast?.map Prod.snd).getD t.freq
  let rem := (t.corrQ.filter fun c => s.ripe c.1).foldl (fun a c => a + c.2) t.rem
  let ms : Int := 10 ^ 9 * 2 ^ 48 / (2 ^ 48 + (s.tbOf s.lineTb).freq + (s.tbOf s.lineTb).core)
  let m : Int := s.slewMax n
  let done := decide (rem.natAbs < 5 * 2 ^ 48 / 1000)
  s.tbUpd n fun t => { t with
    freq := lastF, freqQ := t.freqQ.filter fun f => !s.ripe f.1
    corrQ := t.corrQ.filter fun c => !s.ripe c.1
    acc := if done then addTime t.acc rem else t.acc
    rem := if done then 0 else rem
    slew := if done then 0 else clampZ (-m) m (Int.tdiv (rem * slewUnit) ms) }

/-- At a tick both port dies receive the increment of every timebase in use for the coming millisecond (R28). -/
def State.sendIncrements (s : State) : State :=
  (List.range 8).foldl (fun s n => if s.tbOn n then s.sendIncrement n else s) s

end Sys2Proof.Machine
end

