-- ==== Sys2Proof/Machine/Mailbox.lean ====
section
/-! DEFINITION. The mailbox exchange: requests, the order of checks, status codes, responses, and the
commands a core has taken (R458, R466 to R474, R512). -/

namespace Sys2Proof.Machine

/-- The status codes of R473. -/
inductive Status
  | ok | busy | badOpcode | badArg | worldViolation | locked | noResource | notInMode | staleEpoch
  | timeout | hwFault | placementReject | checkFail | staleTime | commitPending
  deriving DecidableEq, Repr

/-- The code of a status. -/
def Status.code : Status → Nat
  | .ok => 0 | .busy => 1 | .badOpcode => 2 | .badArg => 3 | .worldViolation => 4 | .locked => 5
  | .noResource => 6 | .notInMode => 7 | .staleEpoch => 8 | .timeout => 9 | .hwFault => 10
  | .placementReject => 11 | .checkFail => 12 | .staleTime => 13 | .commitPending => 14

/-- What a command's body is given: the mailbox it answers (16 for an entry of a configuration image at a
start, 17 for one of a load),
its initiator, whether the mailbox is one of MB00 to MB07, and the argument words from word 1. -/
structure Ctx where
  mb : Option Nat
  init : Nat
  secure : Bool
  args : List Nat

/-- The command is an entry of a configuration image that a start step runs (R572). -/
def Ctx.image (c : Ctx) : Bool := c.mb == some 16

/-- The mailbox that a violation of the command names: MB00 for an entry of an image (R477). -/
def Ctx.target (c : Ctx) : Nat := match c.mb with
  | some m => if 16 ≤ m then 0 else m
  | none => 0

/-- Argument word k, from 1; a missing word reads 0. -/
def Ctx.arg (c : Ctx) (k : Nat) : Nat := c.args.getD (k - 1) 0

/-- Bits of argument word k. -/
def Ctx.bits (c : Ctx) (k hi lo : Nat) : Nat := Sys2Proof.bits (c.arg k) hi lo

/-- A bit of argument word k. -/
def Ctx.bit (c : Ctx) (k b : Nat) : Bool := bitOf (c.arg k) b

/-- What a command's body answers: the state, the status and the response words from word 1; `wait`
tells that the response comes at a later event. -/
structure Res where
  st : State
  status : Status := .ok
  words : List Nat := []
  wait : Bool := false
  /-- The world of the block whose locked register refused the command. -/
  lockNonSecure : Bool := false

/-- A command: opcode, whether every mailbox may send it, its mode rule, the argument words it needs,
the block entry it works on, and its body. -/
structure Cmd where
  op : Nat
  any : Bool := false
  mode : State → Bool := fun s => s.mode != 0
  need : Nat := 0
  /-- It makes its block act, which a block in P2 or P3 refuses (R561). -/
  acts : Bool := true
  entry : List Nat → Nat
  body : Ctx → State → Res

/-- Carried out, with response words. -/
def done (s : State) (words : List Nat := []) : Res := { st := s, words := words }

/-- Refused: nothing changes (R473). -/
def fail (s : State) (status : Status) : Res := { st := s, status := status }

/-- Refuse with a status unless a condition holds. -/
def need (b : Bool) (status : Status) (s : State) (k : Res) : Res := if b then k else fail s status

/-- Write configuration fields: LOCKED when a lock refuses one of them, checked before any is written
(R474, R513). -/
def writeCfg (s : State) (ws : List FieldWrite) (k : State → Res) : Res :=
  match ws.find? s.cmdLocked with
  | some w => { st := s, status := .locked
                lockNonSecure := s.entryNonSecure (blockEntry (w.f.addr + w.f.s1 * w.i + w.f.s2 * w.j)) }
  | none => k (s.cfgWrites ws)

/-- A command that changes fields which no register holds, under the lock of a block entry. -/
def unlessLocked (s : State) (e : Nat) (k : Res) : Res :=
  if s.worldLocked (s.entryNonSecure e) then
    { st := s, status := .locked, lockNonSecure := s.entryNonSecure e }
  else k

/-! ### Automatic commits (R512) -/

/-- Accept a commit of the integrity reference: it takes the first pass that begins from now on. -/
def State.acceptCommit (s : State) (op value : Nat) (mb : Option Nat) : State :=
  { s.set R.CI_STAT_PENDING 1 with ci := { s.ci with
      commit := some (op, value), commitFrom := s.ci.passes + if s.ci.passStart.isSome then 2 else 1, commitMb := mb } }

/-- After a change of configuration-class fields by a command or under the device's own rules: commit
with OP 0 where AUTO is set, joining a commit that is already pending. -/
def State.settleCfg (s : State) : State :=
  if s.ci.dirty then
    let t := { s with ci := { s.ci with dirty := false } }
    if t.on R.CI_CFG_AUTO && t.ci.commit.isNone then t.acceptCommit 0 0 none else t
  else s

/-! ### Running a command -/

/-- The commands that the boot ROM carries out: SYS.INFO, SYS.ECHO, the NVM group, PWR.STATUS and PWR.RESET
(R576). -/
def romOps : List Nat := [0x0101, 0x0107, 0x0201, 0x0202, 0x0203, 0x0204, 0x0205, 0x0301, 0x0304]

/-- The checks of R474 before a command's own conditions, then its body; an image entry of the EVT or FLOW group is not
refused for its group's mode rule (R572), and a refusal for the world or for a lock is logged (R507). -/
def State.runCmd (s : State) (cmd : Cmd) (c : Ctx) : Res :=
  if !cmd.any && !c.secure then
    { st := s.violation 0 .command c.target c.init false 3 cmd.op, status := .worldViolation }
  else if s.on R.MODE_STATE_ROM_ONLY && !romOps.contains cmd.op then fail s .notInMode
  else if (!(c.image && (cmd.op / 256 == 0x14 || cmd.op / 256 == 0x24)) && !cmd.mode s) || (cmd.acts && s.asleep (cmd.entry c.args)) then fail s .notInMode
  else if c.args.length < cmd.need then fail s .badArg
  else
    let r := cmd.body c s
    match r.status with
    | .ok => { r with st := r.st.settleCfg }
    | .locked => { r with st := r.st.violation 1 .command c.target c.init r.lockNonSecure 3 cmd.op }
    | .worldViolation => { r with st := r.st.violation 0 .command c.target c.init false 3 cmd.op }
    | _ => r

/-! ### Mailboxes -/

/-- The core that serves a mailbox: 0 for the pair, 2, 3 (R458). -/
def coreOf (mb : Nat) : Nat := if mb < 8 ∨ 16 ≤ mb then 0 else if mb < 12 then 2 else 3

/-- A core serves its mailboxes (R496); none is served once DORMANT has been accepted (R578). -/
def State.coreReady (s : State) (core : Nat) : Bool :=
  !s.pw.dormant && (if core = 0 then s.on R.MB_STATUS_FW_READY else if core = 2 then s.on R.MB_STATUS_C2_READY
  else s.on R.MB_STATUS_C3_READY)

/-- The command a core holds. -/
def State.takenBy (s : State) (core : Nat) : Option Taken :=
  if core = 0 then s.ctl.takenS else if core = 2 then s.ctl.taken2 else s.ctl.taken3

/-- Set the command a core holds. -/
def State.setTaken (s : State) (core : Nat) (t : Option Taken) : State :=
  if core = 0 then { s with ctl := { s.ctl with takenS := t } }
  else if core = 2 then { s with ctl := { s.ctl with taken2 := t } }
  else { s with ctl := { s.ctl with taken3 := t } }

/-- A mailbox is BUSY. -/
def State.mbBusy (s : State) (mb : Nat) : Bool := s.get R.MB_n_STATE_STATE mb == 1

/-- A mailbox is BUSY and no core has taken its request. -/
def State.mbWaiting (s : State) (mb : Nat) : Bool :=
  s.mbBusy mb && !([s.ctl.takenS, s.ctl.taken2, s.ctl.taken3].any fun t => match t with
    | some t => t.mb == mb
    | none => false)

/-- Word 0 of a mailbox's request. -/
def State.reqHeader (s : State) (mb : Nat) : Nat := s.get R.MB_n_REQ_W mb 0

/-- The argument words of a mailbox's request. -/
def State.reqArgs (s : State) (mb : Nat) : List Nat :=
  (List.range (bits (s.reqHeader mb) 21 16)).map fun k => s.get R.MB_n_REQ_W mb (k + 1)

/-- Write the words of a response area from word k on. -/
def State.putRsp (s : State) (mb k : Nat) : List Nat → State
  | [] => s
  | w :: ws => (s.set R.MB_n_RSP_W w mb k).putRsp mb (k + 1) ws

/-- Release the cores that hold a mailbox's command. -/
def State.freeCores (s : State) (mb : Nat) : State :=
  let clear (t : Option Taken) : Option Taken := match t with
    | some t => if t.mb = mb then none else some t
    | none => none
  { s with ctl := { s.ctl with
      takenS := clear s.ctl.takenS, taken2 := clear s.ctl.taken2, taken3 := clear s.ctl.taken3
      queue := s.ctl.queue.filter fun m => m != mb, semWait := Tab.del s.ctl.semWait mb } }

/-- Place a response: all its words, LEN, READY and RSP_SEQ together, and MB_RSP (R468, R469). The answer to
an entry of a configuration image is kept for its run. -/
def State.respond (s : State) (mb : Nat) (status : Status) (words : List Nat) : State :=
  if 16 ≤ mb then { s with ctl := { s.ctl with imgAnswer := Tab.put s.ctl.imgAnswer mb status.code } } else
  let h := s.reqHeader mb
  let ws := words.take 63
  let t := s.putRsp mb 0 ((bits h 15 0 + status.code * 2 ^ 16 + bits h 31 24 * 2 ^ 24) :: ws)
  let t := t.writes [{ f := R.MB_n_STATE_LEN, i := mb, v := ws.length },
    { f := R.MB_n_STATE_STATE, i := mb, v := 2 }, { f := R.MB_n_STATE_PEND_NR, i := mb, v := 0 },
    { f := R.MB_n_SEQ_RSP_SEQ, i := mb, v := s.get R.MB_n_SEQ_REQ_SEQ mb }]
  (t.freeCores mb).raise (16 + mb) (s.get R.MB_n_SEQ_REQ_SEQ mb)

/-- Complete a command that waited: answer its mailbox, if it came from one. -/
def State.finish (s : State) (mb : Option Nat) (status : Status) (words : List Nat := []) : State :=
  match mb with
  | some m => s.settleCfg.respond m status words
  | none => s.settleCfg

/-- The owner ID under which a command reaches a block: the core of its mailbox, or the pair for a secure block
(R458, R487). -/
def Ctx.agent (c : Ctx) (s : State) (e : Nat) : Nat := match c.mb with
  | none => 0
  | some m => if s.entryNonSecure e then coreOf m else 0

/-- A read under the semaphore of its FIFO. While another agent holds it a mailbox's command waits up to 1 ms and
is BUSY then (R492); its core tries again at REQUEST_TAKE. An entry of an image is BUSY at once (DEDUCED, log entry 29). -/
def underSem (c : Ctx) (s : State) (e n : Nat) (k : Res) : Res :=
  if !s.semTaken n (c.agent s e) then k
  else match c.mb with
    | none => fail s .busy
    | some m =>
      if 16 ≤ m then fail s .busy
      else match Tab.find? s.ctl.semWait m with
        | none => { st := { s with ctl := { s.ctl with semWait := Tab.put s.ctl.semWait m s.clk } }, wait := true }
        | some t => if t + 10 ^ 9 ≤ s.clk then fail s .busy else { st := s, wait := true }

/-- Carry out the command of a mailbox and place its response, unless it waits for a later event. -/
def State.carryOut (s : State) (mb : Nat) (cmd : Option Cmd) : State :=
  match cmd with
  | none => s.respond mb .badOpcode []
  | some cmd =>
    let r := s.runCmd cmd { mb := some mb, init := Tab.get 4 s.ctl.ringer mb, secure := decide (mb < 8)
                            args := s.reqArgs mb }
    if r.wait then r.st else r.st.respond mb r.status r.words

/-- A command of a non-secure mailbox needs a block of the secure world (R458). -/
def State.needsPair (s : State) (mb : Nat) (cmd : Option Cmd) : Bool :=
  match cmd with
  | some cmd => decide (8 ≤ mb) && decide (cmd.entry (s.reqArgs mb) < 48)
      && !s.entryNonSecure (cmd.entry (s.reqArgs mb))
  | none => false

/-- A core holds the request of a mailbox: it is the mailbox that its core served last (R471). -/
def State.holdMb (s : State) (mb : Nat) : State :=
  let core := coreOf mb
  let t := (s.setTaken core (some { mb := mb })).set R.MB_n_STATE_PEND_NR 0 mb
  let t := { t with ctl := { t.ctl with held := t.ctl.held.filter fun m => m != mb } }
  if core = 0 then { t with ctl := { t.ctl with lastS := mb } }
  else if core = 2 then { t with ctl := { t.ctl with last2 := mb } }
  else { t with ctl := { t.ctl with last3 := mb } }

/-- C0 is ready, holds no command, and nothing waits in the internal queue. -/
def State.pairFree (s : State) : Bool := s.coreReady 0 && s.ctl.takenS.isNone && s.ctl.queue.isEmpty

/-- A core takes the request of a mailbox. A command of MB08 to MB15 that needs a secure block is
carried out by C0 at once when C0 is ready and free; otherwise it enters the internal queue, or is held
by its core while the queue is full (R458, R471). -/
def State.takeMb (s : State) (mb : Nat) (cmd : Option Cmd) : State :=
  let t := s.holdMb mb
  if t.needsPair mb cmd then
    if t.pairFree then (t.setTaken 0 (some { mb := mb })).carryOut mb cmd
    else if t.ctl.queue.length < 32 then { t with ctl := { t.ctl with queue := t.ctl.queue ++ [mb] } }
    else t
  else t.carryOut mb cmd

/-- A refused access: its violation is logged and its initiator gets the error response (R508); nothing answers while
die T is off. -/
def State.refuseAccess (s : State) (kind : Nat) (sp : Space) (target init : Nat) (tNonSecure : Bool)
    (acc addr : Nat) : State :=
  if !s.powered then s else (s.violation kind sp target init tNonSecure acc addr).emit (.errResp init addr)

/-- Write a host's request words from word k on. -/
def State.putReq (s : State) (mb k : Nat) : List Nat → State
  | [] => s
  | w :: ws => (s.set R.MB_n_REQ_W w mb k).putReq mb (k + 1) ws

/-- A doorbell write that a mailbox accepts: BUSY, REQ_SEQ + 1, and PEND_NR while its core is not
ready (R469, R472). -/
def State.ring (s : State) (init mb : Nat) : State :=
  let t := (s.set R.MB_n_STATE_STATE 1 mb).incWrap R.MB_n_SEQ_REQ_SEQ mb
  let t := t.setB R.MB_n_STATE_PEND_NR (!s.coreReady (coreOf mb)) mb
  { t with ctl := { t.ctl with ringer := Tab.put t.ctl.ringer mb init } }

/-- A core is ready, holds no command, and no other mailbox of its set waits. -/
def State.servesNow (s : State) (mb : Nat) : Bool :=
  s.coreReady (coreOf mb) && (s.takenBy (coreOf mb)).isNone
  && (List.range 16).all fun m => m == mb || coreOf m != coreOf mb || !s.mbWaiting m

/-- A request is written to its mailbox and its doorbell rung: the header of R466 with LEN and TAG, then the
argument words. -/
def State.rung (s : State) (op : Nat) (r : Req) : State :=
  let args := r.args.take 63
  (s.quiet.putReq r.mb 0 ((op + args.length * 2 ^ 16 + r.tag % 256 * 2 ^ 24) :: args)).ring r.init r.mb

/-- The whole exchange of one request (R468): the request words are written, the doorbell rung, and the
command carried out and answered when its core is ready and free. On a BUSY mailbox both writes are
lost (R469). -/
def State.exchange (s : State) (cmd : Option Cmd) (op : Nat) (r : Req) : State :=
  if 16 ≤ r.mb then s.quiet.refuseAccess 4 .bar 63 r.init false 1 (0x1000 * r.mb)
  else if r.mb < 8 && !s.initSecure r.init then
    s.quiet.refuseAccess 0 .bar 63 r.init false 1 (0x1000 * r.mb)
  else if s.mbBusy r.mb then
    (s.quiet.set R.MB_n_STATE_REQ_WR_LOST 1 r.mb).set R.MB_n_STATE_DOOR_LOST 1 r.mb
  else
    let t := s.rung op r
    if t.servesNow r.mb then t.takeMb r.mb cmd else t

end Sys2Proof.Machine
end

