-- ==== Sys2Proof/Machine/Access.lean ====
section
/-! DEFINITION. The check of a register access by its initiator and the form of a direct write (R6, R7,
R464, R503, R507, R513, R515, R660). -/

namespace Sys2Proof.Machine

/-- The indices at which a register family places a register on an address. -/
def Reg.at? (r : Reg) (addr : Nat) : Option (Nat × Nat) :=
  if addr < r.addr then none else
  let d := addr - r.addr
  let i := if r.s1 = 0 then 0 else d / r.s1
  let e := if r.s1 = 0 then d else d % r.s1
  let j := if r.s2 = 0 then 0 else e / r.s2
  if i < r.n1 && j < r.n2 && r.s1 * i + r.s2 * j == d then some (i, j) else none

/-- Page 16 of the secure direct window shows the event block of BAR0 (R515). -/
def canonAddr (addr : Nat) : Nat :=
  if 0x680000 ≤ addr && addr < 0x688000 then 0x100000 + (addr - 0x680000) else addr

/-- The register at an address, with its indices. Where FB_VIOL8 and the CI_ registers are given one
offset, the CI_ registers answer (R464, R519, R520). -/
def findReg (addr : Nat) : Option (Reg × Nat × Nat) :=
  let a := canonAddr addr
  if absentReg a then none
  else if a = 0x400200 then some (R.CI_CRC_LIVE, 0, 0)
  else if a = 0x400204 then some (R.CI_CRC_REF, 0, 0)
  else if a = 0x400208 then some (R.CI_STAT, 0, 0)
  else regTable.findSome? fun r => (r.at? a).map fun ij => (r, ij.1, ij.2)

/-- A violation found before an access: kind, space, target and target world (R507, R519). -/
structure Viol where
  kind : Nat
  space : Space := .bar
  target : Nat := 63
  nonSecure : Bool := false

/-- The counter window (R527). The spec gives it no end: it ends here with the bandwidth results of the last slot of the table's
last row, so that beyond it an access is one of KIND 4 (DESIGN CHOICE, log entry 189). -/
def inCounterWindow (a : Nat) : Bool := 0x300000 ≤ a && a < 0x30B000

/-- The violation of a direct-register access, where it is one. -/
def State.checkDirect (s : State) (init a : Nat) (wr : Bool) : Option Viol :=
  let sec := s.initSecure init
  if inCounterWindow a then (if wr then some { kind := 0, nonSecure := true } else none)
  else if (findReg a).isNone then some { kind := 4 }
  else if !sec && (a < 0x8000 || a == 0x10000 || (0x100040 ≤ a && a < 0x100050)) then some { kind := 0 }
  else if !sec && wr && ((0x100100 ≤ a && a < 0x100180) || (0x100020 ≤ a && a < 0x100030) || a == 0x400300) then
    some { kind := 0 }
  else none

/-- The violation of an access to an internal register, where it is one: through the window by PF0, and
directly by a core, the pair agent or the debug port; a block or port in P2 or P3 answers neither (R561). -/
def State.checkInternal (s : State) (init a : Nat) (wr : Bool) : Option Viol :=
  let e := blockEntry a
  let page := (a - 0x600000) / 0x8000
  if init = 4 then
    if !s.on R.FB_CFG_WIN_EN then some { kind := 4 }
    else if (findReg a).isNone then some { kind := 4 }
    else if wr && (page == 13 || page == 14) then some { kind := 3, space := .internal, target := e }
    else if s.downTo a 2 then some { kind := 3, space := .internal, target := e, nonSecure := s.entryNonSecure e }
    else none
  else if init = 5 || init = 7 then some { kind := 0 }
  else if (findReg a).isNone then some { kind := 4, space := .internal, target := e }
  else if !s.initSecure init && !s.entryNonSecure e then some { kind := 0, space := .internal, target := e }
  else if s.downTo a 2 then some { kind := 3, space := .internal, target := e, nonSecure := s.entryNonSecure e }
  else none

/-- The violation of an access, where it is one (R503, R507): the debug port reaches the pages of R515 alone
(R627), and no access reaches anything while die T is off. -/
def State.checkAccess (s : State) (init addr : Nat) (wr : Bool) : Option Viol :=
  if !s.powered then some { kind := 4 }
  else if 0x600000 ≤ addr && addr < 0x700000 then
    match s.checkInternal init addr wr with
    | some v => some v
    | none => if canonAddr addr = addr then none else s.checkDirect init (canonAddr addr) wr
  else if init = 8 then some { kind := 4 }
  else s.checkDirect init addr wr

/-- Log a violation of an access and answer its error. -/
def State.violate (s : State) (v : Viol) (init addr acc : Nat) : State :=
  s.refuseAccess v.kind v.space v.target init v.nonSecure acc addr

/-- A direct write of some fields: refused where the access breaks a world, the map or a lock, and
otherwise given to `k` (R6, R513, R660). It calls for no automatic commit (R512). -/
def State.directWrite (s : State) (init addr : Nat) (ws : List FieldWrite) (k : State → State) : State :=
  let s := s.quiet
  match s.checkAccess init addr true with
  | some v => s.violate v init addr 1
  | none =>
    match ws.find? s.writeLocked with
    | some _ =>
      let e := blockEntry (canonAddr addr)
      s.refuseAccess 1 (if e = 63 then .bar else .internal) e init (s.entryNonSecure e) 1 addr
    | none => let t := k s; { t with ci := { t.ci with dirty := s.ci.dirty } }

/-! ### Registers lost and restored (R514, R562, R563) -/

/-- Do something to every field of the registers that an address selects. -/
def State.eachField (s : State) (sel : Nat → Bool) (k : State → Fld → Nat → Nat → State) : State :=
  regTable.foldl (fun s r => r.indices.foldl (fun s ij =>
    if sel (r.addr + r.s1 * ij.1 + r.s2 * ij.2) then r.fields.foldl (fun s f => k s f ij.1 ij.2) s else s) s) s

/-- HI halves that reads have latched return to their registers. -/
def State.dropLatches (s : State) (sel : Nat → Bool) : State :=
  { s with hi := { s.hi with hiLatch := s.hi.hiLatch.filter fun e => !sel e.1 } }

/-- A configuration-class field takes the value of Shouf's copy. -/
def State.restoreField (s : State) (f : Fld) (i j : Nat) : State :=
  match s.ci.copy with
  | some t => if f.cfgClass then s.set f (Tab.get (f.reset i j) t (f.key i j)) i j else s
  | none => s

/-- The registers of a block or port lose their state: all but the configuration class, which cannot be read before
it has been restored, and so stands at Shouf's copy at once. -/
def State.loseRegs (s : State) (sel : Nat → Bool) : State :=
  (s.eachField sel fun s f i j => if f.cfgClass then s.restoreField f i j else s.set f (f.reset i j) i j).dropLatches sel

/-- Restore the configuration class of the registers that an address selects. -/
def State.restoreRegs (s : State) (sel : Nat → Bool) : State := s.eachField sel State.restoreField

/-- The registers of a block entry, and those of a port; a grove's entry holds the shared ones alone. -/
def blockRegs (e a : Nat) : Bool := decide (0x600000 ≤ a) && blockEntry a == e && !(decide (e < 12) && (regPort a).isSome)

def portRegs (p a : Nat) : Bool := decide (0x600000 ≤ a) && regPort a == some p

/-- The port of a lane, or the shared part of its grove for a spare, is in P2 or P3 (R560, R561). -/
def State.laneAsleep (s : State) (l : Nat) : Bool :=
  if l % 5 = 4 then s.asleep (l / 5) else decide (2 ≤ s.portPower (l / 5 * 4 + l % 5))

/-- Set a block entry's power state (R558). -/
def State.setBlk (s : State) (e st : Nat) : State :=
  let f := R.PM_BLK_STATEi_ST
  let w := s.get f (e / 16)
  s.set f (w - bits w (2 * (e % 16) + 1) (2 * (e % 16)) * 2 ^ (2 * (e % 16)) + st * 2 ^ (2 * (e % 16))) (e / 16)

end Sys2Proof.Machine
end

