-- ==== Sys2Proof/Machine/Stamp.lean ====
section
/-! DEFINITION. Port modes, the lanes of a port, and the timestamps of its frames (R95 to R102, R308). -/

namespace Sys2Proof.Machine

/-! ### Port modes (R100, R280, R308) -/

/-- The unit of the PCS residual of a mode: ps as a numerator and a denominator. -/
def rhoUnit (m : Nat) : Nat × Nat :=
  match m with
  | 1 => (800, 1) | 2 => (6400, 66) | 3 => (6400, 165) | 4 => (6400, 165) | 5 => (6400, 170)
  | 6 => (6400, 170) | 7 => (6400, 170) | 8 => (800, 1) | 9 => (6400, 66) | _ => (0, 1)

/-- The largest residual of a mode, in units. -/
def rhoMax (m : Nat) : Nat := [0, 39, 65, 329, 5279, 2719, 1359, 1359, 39, 65].getD m 0

/-- The nominal constants of a mode, in ps. -/
def kTxNominal (m : Nat) : Nat := [0, 48000, 22400, 19200, 24000, 14400, 16000, 17600, 48000, 24000].getD m 0

def kRxNominal (m : Nat) : Nat := [0, 72000, 38400, 32000, 44800, 57600, 60800, 64000, 72000, 40000].getD m 0

/-- The MAC rate of a mode, in Gb/s (R376). -/
def modeRate (m : Nat) : Nat := [0, 1, 10, 25, 25, 50, 100, 200, 1, 10].getD m 0

/-- The lanes a mode claims, from the port's lane index on. -/
def modeLanes (m : Nat) : Nat := [0, 1, 1, 1, 1, 1, 2, 4, 2, 2].getD m 0

/-- A mode with RS-FEC. -/
def modeFec (m : Nat) : Bool := decide (4 ≤ m) && decide (m ≤ 7)

/-- A forwarded-clock mode. -/
def modeFwdClk (m : Nat) : Bool := m == 8 || m == 9

/-- The rate of a lane of a mode (R280). -/
def modeLaneRate (m : Nat) : Nat := [0, 1, 2, 3, 3, 4, 4, 4, 5, 6].getD m 0

/-- Picoseconds, as a fraction, in units of 2^-16 ns, to the nearest (R98). -/
def linOf (num den : Nat) : Nat := (2 * num * 65536 + den * 1000) / (2 * den * 1000)

/-- A residual in 2^-16 ns (R102). -/
def rhoLin (m units : Nat) : Nat := linOf (units * (rhoUnit m).1) (rhoUnit m).2

/-! ### Lanes of a port (R12) -/

/-- The lane of a port's own index. -/
def laneOf (p : Nat) : Nat := p / 4 * 5 + p % 4

/-- The port whose number a service lane gives. -/
def portOfLane (l : Nat) : Nat := l / 5 * 4 + l % 5

/-- A port's mode. -/
def State.portMode (s : State) (p : Nat) : Nat := s.get R.PT_CFGp_MODE p

/-- The service lanes of a port. -/
def State.portLanes (s : State) (p : Nat) : List Nat := (List.range (modeLanes (s.portMode p))).map fun i => laneOf p + i

/-- A grove's spare. -/
def spareOf (g : Nat) : Nat := 5 * g + 4

/-- The lane of a grove index that the spare carries since the receivers switched (R295). -/
def State.carried (s : State) (g : Nat) : Option Nat :=
  let st := s.get R.LN_GRVg_STAT_SUB_STATE g
  if st = 2 ∨ st = 3 ∨ st = 4 then some (5 * g + s.get R.LN_GRVg_STAT_SUB_IDX g) else none

/-- The lane that carries a service lane's traffic: the spare while it stands in for it. -/
def State.actual (s : State) (l : Nat) : Nat := if s.carried (l / 5) = some l then spareOf (l / 5) else l

/-- The lane whose meter supplies the fine phase of a port: the clock lane of a forwarded-clock port (R100,
R297). -/
def State.fpmLane (s : State) (p : Nat) : Nat :=
  if modeFwdClk (s.portMode p) then laneOf p + 1 else s.actual (laneOf p)

/-- The fine phase meter of a lane. -/
def State.fpmOf (s : State) (l : Nat) : Fpm := Tab.get {} s.fpm l

/-- A difference of two phases, between -400 ps and 400 ps, in 0.25 ps (R103). -/
def phaseDiff (a b : Nat) : Int := ((a : Int) - b + 1600) % 3200 - 1600

/-- The 800 ps cycle of a clock, counted from reset. -/
def cycleOf (at_ : Nat) : Nat := at_ / 800

/-- The readings of a meter that completed before the cycle of a sample: one that completes in the same cycle is not
used for it (R105). -/
def Fpm.before (f : Fpm) (at_ : Nat) : List (Nat × Nat) := f.last.filter fun r => decide (cycleOf r.1 < cycleOf at_)

/-- The fine phase of a port at a sample taken at the clock `at_`, in 2^-16 ns and to the nearest, and FINE: the two most
recent readings extrapolated and reduced modulo 800 ps, or 400 ps (R97, R98). -/
def State.phiAt (s : State) (p at_ : Nat) : Nat × Bool :=
  let l := s.fpmLane p
  match (s.fpmOf l).before at_ with
  | (t1, a) :: (t0, b) :: _ =>
    let d := phaseDiff a b
    let span := t1 - t0
    if s.on R.LN_FPMl_STAT_VALID l && decide (d.natAbs ≤ 400) && decide (t0 < t1) then
      (linOf (((a * span : Int) + d * ((at_ : Int) - t1)) % (3200 * span : Nat)).toNat (4 * span), true)
    else (linOf 400 1, false)
  | _ => (linOf 400 1, false)

/-! ### Timestamps (R96 to R99) -/

/-- The die of a port: 0 A, 1 B. -/
def dieOf (p : Nat) : Nat := if p < 24 then 0 else 1

/-- The linear time of a port die's replica at the start of the cycle `cyc`. -/
def State.replicaLin (s : State) (p tb cyc : Nat) : Nat :=
  let t := s.tbOf tb
  let now := cycleOf s.clk
  let move : Int := if cyc ≤ now then -(t.gain (800 * (now - cyc))) else t.gain (800 * (cyc - now))
  linear (addTime (addTime t.acc ((s.repOf (dieOf p) tb).ofs)) move)

/-- The cycle that a word edge of fine phase `phi`, in 2^-16 ns, fell in, where the sampler saw it at the clock `at_`:
of the candidate cycles the one that puts the edge nearest to the sample (R97; DEDUCED, log entry 202). -/
def edgeCycle (at_ phi : Nat) : Nat := (((at_ : Int) + 400 - ((phi * 1000 + 32768) / 65536 : Nat)) / 800).toNat

/-- The receive timestamp of a frame of port p in a timebase: its word edge was sampled `ago` ps before now, and the PCS
reports a residual of `rho` units. -/
def State.rxStamp (s : State) (p tb ago rho : Nat) : Stamp :=
  let at_ := s.clk - ago
  let (phi, fine) := s.phiAt p at_
  let z : Int := s.replicaLin p tb (edgeCycle at_ phi) + phi - s.get R.PT_KRXp_K_RX p - rhoLin (s.portMode p) rho
  { t := wrap 64 z, tb := tb, stepSeq := (s.repOf (dieOf p) tb).stepSeq, fine := fine }

/-- The transmit timestamp of a frame of port p that starts now. -/
def State.txStamp (s : State) (p tb rho : Nat) : Stamp :=
  { t := (s.replicaLin p tb (cycleOf s.clk) + s.get R.PT_KTXp_K_TX p + rhoLin (s.portMode p) rho) % 2 ^ 64, tb := tb
    stepSeq := (s.repOf (dieOf p) tb).stepSeq }

/-- The time, in 2^-48 ps, that a linear timestamp names: the one nearest to now. -/
def State.absOf (s : State) (st : Stamp) : Nat := addTime (s.time st.tb) (linDist st.t (linear (s.time st.tb)) * linUnit)

/-- The time words of a timestamp (R8). -/
def State.stampWords (s : State) (st : Stamp) : List Nat := timeWords (s.absOf st)

/-- The time of a timebase as a timestamp of now. -/
def State.nowStamp (s : State) (tb : Nat) : Stamp := { t := linear (s.time tb), tb := tb }

end Sys2Proof.Machine
end

