-- ==== Sys2Proof/Machine/Frame.lean ====
section
/-! DEFINITION. What the parser reads from the bytes of a frame, the keys of the lookups, and the edits that
a copy takes on egress (R334 to R337, R342 to R344, R106 to R111, R433). -/

namespace Sys2Proof.Machine

/-! ### Fields -/

/-- `k` bytes from position `at_` on, as a big-endian number; bytes beyond the end read 0. -/
def fieldAt (b : List Byte) (at_ k : Nat) : Nat := beNat ((List.range k).map fun i => b.getD (at_ + i) 0)

/-- Replace the bytes from a position on. -/
def overwrite (b : List Byte) (at_ : Nat) (v : List Byte) : List Byte :=
  b.take at_ ++ v ++ b.drop (at_ + v.length)

/-- CRC-32 of IEEE 802.3, one byte: polynomial 0x04C11DB7, reflected. -/
def crc32Byte (c : Nat) (b : Byte) : Nat :=
  (List.range 8).foldl (fun c _ => if c % 2 = 1 then Nat.xor (c / 2) 0xEDB88320 else c / 2) (Nat.xor c b.toNat)

/-- The FCS of the bytes before it, in transmission order. -/
def fcsOf (l : List Byte) : List Byte := leBytes 4 (Nat.xor (l.foldl crc32Byte 0xFFFFFFFF) 0xFFFFFFFF)

/-- A frame's last four bytes are its FCS. -/
def fcsGood (l : List Byte) : Bool := decide (4 ≤ l.length) && fcsOf (l.take (l.length - 4)) == l.drop (l.length - 4)

/-- A frame with its FCS made good again. -/
def refcs (l : List Byte) : List Byte := l.take (l.length - 4) ++ fcsOf (l.take (l.length - 4))

/-- What the parser recognises (R334). Ports are absent where the frame carries no readable L4 header. -/
structure Hdr where
  dst : Nat
  src : Nat
  /-- TPID and TCI of the tags, outer first. -/
  tags : List (Nat × Nat)
  rtag : Option Nat
  etype : Nat
  /-- The position after the tags, after the R-TAG, and of the payload. -/
  tagEnd : Nat
  rEnd : Nat
  pay : Nat
  ip4 : Bool := false
  ip6 : Bool := false
  proto : Nat := 0
  dscp : Nat := 0
  sip : Nat := 0
  dip : Nat := 0
  sport : Nat := 0
  dport : Nat := 0
  l4 : Option Nat := none
  udp : Bool := false
  deriving DecidableEq, Repr

/-- The tags of a frame: an outer tag of TPID 0x8100, or 0x88A8 with SVLAN, and an inner tag of TPID
0x8100. -/
def tagsOf (b : List Byte) (svlan : Bool) : List (Nat × Nat) :=
  let t0 := fieldAt b 12 2
  if t0 = 0x8100 ∨ (t0 = 0x88A8 ∧ svlan = true) then
    if fieldAt b 16 2 = 0x8100 then [(t0, fieldAt b 14 2), (0x8100, fieldAt b 18 2)] else [(t0, fieldAt b 14 2)]
  else []

/-- Parse the L4 header: UDP and TCP ports. -/
def Hdr.l4Fields (h : Hdr) (b : List Byte) (at_ : Nat) : Hdr :=
  if h.proto = 17 ∨ h.proto = 6 then
    { h with l4 := some at_, sport := fieldAt b at_ 2, dport := fieldAt b (at_ + 2) 2, udp := h.proto == 17 }
  else h

/-- Parse a header (R334). -/
def parse (b : List Byte) (svlan : Bool) : Hdr :=
  let tags := tagsOf b svlan
  let te := 12 + 4 * tags.length
  let r := fieldAt b te 2 == 0xF1C1
  let re := if r then te + 6 else te
  let h : Hdr := { dst := fieldAt b 0 6, src := fieldAt b 6 6, tags := tags
                   rtag := if r then some (fieldAt b (te + 4) 2) else none
                   etype := fieldAt b re 2, tagEnd := te, rEnd := re, pay := re + 2 }
  let p := h.pay
  if h.etype = 0x0800 ∧ fieldAt b p 1 / 16 = 4 then
    let h := { h with ip4 := true, proto := fieldAt b (p + 9) 1, dscp := fieldAt b (p + 1) 1 / 4
                      sip := fieldAt b (p + 12) 4, dip := fieldAt b (p + 16) 4 }
    if fieldAt b (p + 6) 2 % 0x2000 = 0 then h.l4Fields b (p + 4 * (fieldAt b p 1 % 16)) else h
  else if h.etype = 0x86DD ∧ fieldAt b p 1 / 16 = 6 then
    let h := { h with ip6 := true, proto := fieldAt b (p + 6) 1, dscp := fieldAt b p 2 / 64 % 64
                      sip := fieldAt b (p + 8) 16, dip := fieldAt b (p + 24) 16 }
    h.l4Fields b (p + 40)
  else h

/-- The position of the PTP message in a PTP frame (R334). -/
def Hdr.ptpAt (h : Hdr) : Option Nat :=
  if h.etype = 0x88F7 then some h.pay
  else match h.l4 with
    | some l => if h.udp && (h.dport == 319 || h.dport == 320) then some (l + 8) else none
    | none => none

/-- A frame is PTP. -/
def Hdr.isPtp (h : Hdr) : Bool := h.ptpAt.isSome

/-- The VLAN ID that the tags carry, where there is one. -/
def Hdr.tagVid (h : Hdr) : Option Nat := h.tags.head?.map fun t => t.2 % 4096

/-- A destination of the link-local block (R339 row 1). -/
def Hdr.linkLocal (h : Hdr) : Bool := h.dst / 16 == 0x0180C200000

/-- A pair frame: destination, Ethertype, magic and a type of 0x10 to 0x12 (R429). -/
def Hdr.pairFrame (h : Hdr) (b : List Byte) : Bool :=
  h.dst == 0x0180C200000E && h.etype == 0x88B6 && fieldAt b h.pay 2 == 0x4B5A
  && decide (0x10 ≤ fieldAt b (h.pay + 2) 1) && decide (fieldAt b (h.pay + 2) 1 ≤ 0x12)

/-- A frame that the port hardware consumes: PAUSE, PFC and CAPEX (R286, R311). -/
def Hdr.consumed (h : Hdr) (b : List Byte) : Bool :=
  h.etype == 0x8808
  || (h.dst == 0x0180C200000E && h.etype == 0x88B6 && fieldAt b h.pay 2 == 0x4B5A && decide (fieldAt b (h.pay + 2) 1 < 0x10))

/-! ### Keys (R342 to R344) -/

/-- The key of the L2 table. -/
def l2Key (mac vid : Nat) : List Byte := beBytes 6 mac ++ beBytes 2 vid

/-- The key of the flow table for a key type. -/
def Hdr.flowKey (h : Hdr) (vid ktype : Nat) : Option (List Byte) :=
  match ktype with
  | 0 => some (l2Key h.dst vid)
  | 1 => some (l2Key h.src vid)
  | 2 => if h.ip4 then some (beBytes 4 h.sip ++ beBytes 4 h.dip ++ beBytes 1 h.proto ++ [0]
          ++ beBytes 2 h.sport ++ beBytes 2 h.dport) else none
  | _ => if h.ip6 then some (beBytes 16 h.sip ++ beBytes 16 h.dip ++ beBytes 1 h.proto ++ [0]
          ++ beBytes 2 h.sport ++ beBytes 2 h.dport) else none

/-- The key of the classifier. -/
def Hdr.clsKey (h : Hdr) (port vid pcp : Nat) : Nat :=
  port + b2n (!h.tags.isEmpty) * 2 ^ 6 + vid * 2 ^ 7 + pcp * 2 ^ 19 + h.etype * 2 ^ 22 + h.dst * 2 ^ 38
  + h.src * 2 ^ 86 + b2n h.ip4 * 2 ^ 134 + b2n h.ip6 * 2 ^ 135 + h.proto * 2 ^ 136 + h.dscp * 2 ^ 144
  + h.sport * 2 ^ 150 + h.dport * 2 ^ 166 + (if h.ip4 then h.sip * 2 ^ 182 + h.dip * 2 ^ 214 else 0)
  + b2n h.isPtp * 2 ^ 246

/-! ### Egress edits (R337) -/

/-- The bytes of a copy after its tag and R-TAG edits, with a good FCS: whether it leaves untagged, the TCI
of the tag it gains, the PCP its outer tag takes, and the R-TAG number it carries. -/
def editTags (b : List Byte) (svlan untag : Bool) (gain pcp rtag : Option Nat) : List Byte :=
  let h := parse b svlan
  let tags := if untag then [] else match gain with
    | some t => if h.tags.isEmpty then [(0x8100, t)] else h.tags
    | none => h.tags
  let tags := match pcp, tags with
    | some c, (t, v) :: r => (t, v % 8192 + c * 8192) :: r
    | _, l => l
  let r := match rtag with
    | some n => beBytes 2 0xF1C1 ++ [0, 0] ++ beBytes 2 n
    | none => []
  refcs (b.take 12 ++ tags.flatMap (fun t => beBytes 2 t.1 ++ beBytes 2 t.2) ++ r ++ b.drop h.rEnd)

/-- The CRC-32C of a copy's span: the bytes after its tags and R-TAG, up to the FCS (R433). -/
def spanCrc (b : List Byte) (svlan : Bool) : Nat :=
  crc32c ((b.take (b.length - 4)).drop (parse b svlan).rEnd)

/-! ### PTP messages (R106 to R111) -/

/-- The one's complement sum of 16-bit words. -/
def ones (l : List Nat) : Nat := (l.foldl (fun a w => let s := a + w; s % 65536 + s / 65536) 0)

/-- The 16-bit words of some bytes. -/
def words16 : List Byte → List Nat
  | a :: b :: r => (a.toNat * 256 + b.toNat) :: words16 r
  | _ => []

/-- Change the 8 bytes of a correctionField at `c`, updating a UDP checksum incrementally: over IPv4 where
it is not zero, over IPv6 always (R110). -/
def putCorrection (b : List Byte) (h : Hdr) (c : Nat) (z : Int) : List Byte :=
  let old := (b.drop c).take 8
  let new := beBytes 8 (wrap 64 z)
  let t := overwrite b c new
  match h.l4 with
  | none => t
  | some l =>
    let ck := fieldAt b (l + 6) 2
    if h.udp && (h.ip6 || ck != 0) then
      let s := 65535 - ones ([65535 - ck] ++ (words16 old).map (fun w => 65535 - w) ++ words16 new)
      overwrite t (l + 6) (beBytes 2 (if s = 0 then 65535 else s))
    else t

/-- Add to the correctionField of the PTP message of a frame, in 2^-16 ns, and make the FCS good again. -/
def addCorrection (b : List Byte) (svlan : Bool) (z : Int) : List Byte :=
  let h := parse b svlan
  match h.ptpAt with
  | none => b
  | some m => refcs (putCorrection b h (m + 8) (sext 64 (fieldAt b (m + 8) 8) + z))

end Sys2Proof.Machine
end

