-- ==== Sys2Proof/Machine/Tables.lean ====
section
/-! DEFINITION. The forwarding tables: their images, lookups, writes and the merge (R335, R336, R338, R339,
R341 to R346). -/

namespace Sys2Proof.Machine

/-! ### Images and entries -/

/-- The number of entries of a table, and the words of an entry (R341). -/
def tblSize (t : Nat) : Nat := [262144, 32768, 4096, 4096, 1024, 256, 48].getD t 0

def tblWords (t : Nat) : Nat := [3, 13, 18, 4, 2, 2, 3].getD t 0

/-- Tables looked up by key. -/
def tblHashed (t : Nat) : Bool := t == 0 || t == 1

/-- The key of an entry in the images. -/
def tblKey (img t i : Nat) : Nat := img * 2 ^ 24 + t * 2 ^ 20 + i

/-- Eight fields of three bits: n at place n, but the last as given. -/
def mapOf (last : Nat) : Nat := (List.range 7).foldl (fun a n => a + n * 8 ^ n) (last * 8 ^ 7)

/-- The words of an entry after reset (R345): VLAN 1 holds every port, every port entry its defaults. -/
def tblReset (t i : Nat) : List Nat :=
  if t = 3 ∧ i = 1 then [0xFFFFFFFF, 0x8000FFFF, 0xFFFFFFFF, 0x0000FFFF]
  else if t = 6 then [1 + 2 ^ 18 + 5 * 2 ^ 20 + 2 ^ 24, mapOf 6, mapOf 7]
  else List.replicate (tblWords t) 0

/-- The active image (R346). -/
def State.epoch (s : State) : Nat := s.get R.FD_EPOCH_STAT_EPOCH

/-- An entry of an image. -/
def State.tblGet (s : State) (img t i : Nat) : List Nat := Tab.get (tblReset t i) s.fwd.img (tblKey img t i)

/-- A word of an entry. -/
def State.tblWord (s : State) (img t i k : Nat) : Nat := (s.tblGet img t i).getD k 0

/-- The words of an entry, padded or cut to its table's length. -/
def tblFit (t : Nat) (ws : List Nat) : List Nat := (List.range (tblWords t)).map fun k => ws.getD k 0 % 2 ^ 32

/-- Write an entry of the shadow; a changed entry counts once. -/
def State.shadowPut (s : State) (t i : Nat) (ws : List Nat) : State :=
  let k := tblKey (1 - s.epoch) t i
  let ch := if s.fwd.changed.contains k then s.fwd.changed else s.fwd.changed ++ [k]
  { s.set R.FD_EPOCH_STAT_CHANGES ch.length with
    fwd := { s.fwd with img := Tab.put s.fwd.img k (tblFit t ws), changed := ch } }

/-- A write of this entry would be the 4,097th change (R346). -/
def State.shadowFull (s : State) (t i : Nat) : Bool :=
  decide (4096 ≤ s.fwd.changed.length) && !s.fwd.changed.contains (tblKey (1 - s.epoch) t i)

/-! ### Lookups (R338, R341 to R345) -/

/-- The entry in use. -/
def entryValid (t : Nat) (ws : List Nat) : Bool :=
  match t with
  | 0 => bitOf (ws.getD 1 0) 31
  | 1 => bitOf (ws.getD 10 0) 31
  | 2 => bitOf (ws.getD 16 0) 10
  | 3 => bitOf (ws.getD 1 0) 31
  | _ => true

/-- The key bytes that a flow entry's words hold. -/
def flowBytes (ws : List Nat) : List Byte := (ws.take 10).flatMap fun w => leBytes 4 w

/-- Key bytes of a key type: 8, 8, 14 and 38. -/
def keyLen (ktype : Nat) : Nat := [8, 8, 14, 38].getD ktype 0

/-- The key bytes of a hashed entry. -/
def entryKey (t : Nat) (ws : List Nat) : List Byte :=
  if t = 0 then l2Key (ws.getD 0 0 + 2 ^ 32 * bits (ws.getD 1 0) 15 0) (bits (ws.getD 1 0) 27 16)
  else (flowBytes ws).take (keyLen (bits (ws.getD 10 0) 30 29))

/-- The key type of a hashed entry; 0 for L2. -/
def entryKtype (t : Nat) (ws : List Nat) : Nat := if t = 0 then 0 else bits (ws.getD 10 0) 30 29

/-- The bucket of a key. -/
def bucketOf (t : Nat) (key : List Byte) : Nat := crc32c key % (if t = 0 then 65536 else 8192)

/-- The entry of a hashed table that holds a key. -/
def State.tblFind (s : State) (img t ktype : Nat) (key : List Byte) : Option Nat :=
  let b := bucketOf t key
  ((List.range 4).map fun w => b * 4 + w).find? fun i =>
    let ws := s.tblGet img t i
    entryValid t ws && entryKtype t ws == ktype && entryKey t ws == key

/-- The first free way of a key's bucket. -/
def State.tblFree (s : State) (img t : Nat) (key : List Byte) : Option Nat :=
  let b := bucketOf t key
  ((List.range 4).map fun w => b * 4 + w).find? fun i => !entryValid t (s.tblGet img t i)

/-- A number from little-endian words. -/
def wordsNat (l : List Nat) : Nat := l.foldr (fun w a => w + 2 ^ 32 * a) 0

/-- The lowest classifier rule that matches a key (R344). -/
def State.clsFind (s : State) (img key : Nat) : Option (List Nat) :=
  let hits (e : Nat × List Nat) : Bool := e.1 / 2 ^ 20 == img * 16 + 2 && entryValid 2 e.2
    && Nat.land (Nat.xor key (wordsNat (e.2.take 8))) (wordsNat ((e.2.drop 8).take 8)) == 0
  (List.find? hits s.fwd.img).map Prod.snd

/-- The ports of a 48-bit mask in two words. -/
def maskPorts (lo hi : Nat) : List Nat := (List.range 48).filter fun p => bitOf (lo + 2 ^ 32 * (hi % 65536)) p

/-- The MEMBER set of a VLAN, and its UNTAG set. -/
def State.vlanMember (s : State) (img vid : Nat) : List Nat :=
  maskPorts (s.tblWord img 3 vid 0) (s.tblWord img 3 vid 1)

def State.vlanUntag (s : State) (img vid : Nat) : List Nat :=
  maskPorts (s.tblWord img 3 vid 2) (s.tblWord img 3 vid 3)

/-- The ports of a destination: a port, or a port set. -/
def State.destPorts (s : State) (img dtype dest : Nat) : List Nat :=
  if dtype = 0 then [dest] else maskPorts (s.tblWord img 4 dest 0) (s.tblWord img 4 dest 1)

/-! ### Roles, modes and ports that the merge asks for -/

/-- The region of a port, A0 to B1. -/
def portRegion (p : Nat) : Nat := p / 12

/-- A port has a role 1 to 3 in a domain (R139). -/
def State.ownSession (s : State) (p dom : Nat) : Bool :=
  match Tab.find? s.ptp (256 * p + dom) with
  | some c => decide (1 ≤ c.role) && decide (c.role ≤ 3)
  | none => false

/-- The mode forwards user traffic: SERVICE, ISLAND and CALIBRATE (R36). -/
def State.forwards (s : State) : Bool := s.mode == 2 || s.mode == 3 || s.mode == 4

/-- A port is in the PAIR role (R428). -/
def State.pairPort (s : State) (p : Nat) : Bool :=
  s.on R.RD_PAIR_CFG_EN && (s.get R.RD_PAIR_CFG_PORT_A == p || s.get R.RD_PAIR_CFG_PORT_B == p)

/-- A port is in the loop-breaking set (R451). -/
def State.loopBreak (s : State) (p : Nat) : Bool :=
  if p < 32 then bitOf (s.get R.RD_LOOPBRK_LO_PORTS) p else bitOf (s.get R.RD_LOOPBRK_HI_PORTS) (p - 32)

/-! ### The merge (R335, R336, R339) -/

/-- A dropped frame. -/
def dropAs (reason cls vid flow : Nat) (tally : Bool) : Merged :=
  { kind := 0, reason := reason, cls := cls, vid := vid, flow := flow, tally := tally }

/-- The egress set of a frame: its destination under the VLAN's MEMBER set, without the ingress port, PAIR
ports and, in classes 0 to 4, loop-breaking ports (R339, R428, R451). -/
def State.egressSet (s : State) (img p vid cls : Nat) (dest : List Nat) : List Nat :=
  let m := s.vlanMember img vid
  dest.filter fun q => m.contains q && q != p && !s.pairPort q && !(decide (cls < 5) && s.loopBreak q)

/-- The fields of a port's entry. -/
def State.portEntry (s : State) (img p : Nat) : List Nat := s.tblGet img 6 p

/-- A port recognises an outer tag of TPID 0x88A8. -/
def State.svlan (s : State) (img p : Nat) : Bool := bitOf ((s.portEntry img p).getD 0 0) 23

/-- The merged result of a header on an ingress port, by the rows of R339, in the active image. -/
def State.merge (s : State) (p : Nat) (b : List Byte) : Merged :=
  let img := s.epoch
  let e := s.portEntry img p
  let w0 := e.getD 0 0
  let h := parse b (bitOf w0 23)
  let untagged := h.tags.isEmpty
  let vid0 := h.tagVid.getD 0
  let vid := if vid0 = 0 then bits w0 11 0 else vid0
  let pcp := if untagged then bits w0 14 12 else bits ((h.tags.getD 0 (0, 0)).2) 15 13
  let cls0 := if bitOf w0 24 && h.isPtp then 7 else bits (e.getD 1 0) (3 * pcp + 2) (3 * pcp)
  let dom := match h.ptpAt with | some m => fieldAt b (m + 4) 1 | none => 0
  let own := h.isPtp && s.ownSession p dom
  let cls := s.clsFind img (h.clsKey p vid pcp)
  let act := match cls with | some w => w.getD 16 0 | none => 0
  let fkey := bits w0 22 20
  let hit (k : Nat) : Option Nat := match h.flowKey vid k with
    | some key => s.tblFind img 1 k key
    | none => none
  let flow := (if bitOf fkey 2 then (hit 2).orElse fun _ => hit 3 else none).orElse fun _ =>
    (if bitOf fkey 0 then hit 0 else none).orElse fun _ => if bitOf fkey 1 then hit 1 else none
  let fw := match flow with | some i => s.tblGet img 1 i | none => []
  let f10 := fw.getD 10 0
  let placed := flow.isSome && bitOf f10 19
  let classB := if flow.isSome then bits f10 18 16 else cls0
  let cl := if cls.isSome && bitOf act 3 && !placed then bits act 2 0 else classB
  let fid := if flow.isSome then bits f10 15 0 else if bitOf act 9 then bits ((cls.getD []).getD 17 0) 15 0 else 0
  let tl := bitOf act 6 || (flow.isSome && bitOf f10 28)
  let trap : Merged := { kind := 1, cls := cl, vid := vid, flow := fid, tally := tl, epoch := img }
  let drop (r : Nat) : Merged := { dropAs r cl vid fid tl with epoch := img }
  let member := s.vlanMember img vid
  let filtered := (bits w0 17 16 == 1 && vid0 == 0) || (bits w0 17 16 == 2 && !untagged && vid0 != 0)
    || (bitOf w0 18 && !(bitOf (s.tblWord img 3 vid 1) 31 && member.contains p))
  let forward (dtype dest : Nat) (red : Bool) : Merged :=
    let other := cls.isSome && bitOf act 7 && !placed
    let dests := if other then s.destPorts img (b2n (bitOf act 8)) (bits act 25 16)
      else if dtype = 4 then member else s.destPorts img dtype dest
    if s.loopBreak p && decide (cl < 5) then drop 56
    else
      let ports := s.egressSet img p vid cl dests
      if ports.isEmpty then drop 35
      else { kind := 2, cls := cl, vid := vid, flow := fid, placed := placed, tally := tl, ports := ports
             redAct := if red then bits (fw.getD 11 0) 11 10 else 0, sctx := bits (fw.getD 11 0) 25 13
             bset := bits (fw.getD 12 0) 7 0, epoch := img }
  if h.consumed b then { kind := 4, epoch := img }
  else if s.pairPort p && h.pairFrame b then { kind := 3, cls := 7, epoch := img }
  else if s.pairPort p && !(h.isPtp && dom == s.get R.RD_PAIR_CFG2_DOMAIN) then drop 54
  else if h.linkLocal then (if own then trap else drop 28)
  else if !s.on R.FD_EPOCH_STAT_CONFIGURED || !s.forwards then (if own then trap else drop 29)
  else if filtered then drop 30
  else if bitOf act 4 then drop 31
  else if bitOf act 5 then trap
  else if own then trap
  else if flow.isSome && bits f10 25 20 != 63 && bits f10 25 20 != p then drop 32
  else if flow.isSome then
    match bits f10 27 26 with
    | 2 => drop 33
    | 3 => trap
    | d => forward d (bits (fw.getD 11 0) 9 0) true
  else
    match s.tblFind img 0 0 (l2Key h.dst vid) with
    | some i =>
      let w2 := s.tblWord img 0 i 2
      match bits w2 11 10 with
      | 2 => drop 33
      | 3 => trap
      | d => forward d (bits w2 9 0) false
    | none => if cl = 5 ∨ cl = 6 then drop 34 else forward 4 0 false

end Sys2Proof.Machine
end

