-- ==== Sys2Proof/Machine/Clearing.lean ====
section
/-! DEFINITION. The Clearing: cells and their sources, class queues, drops and flushes, captures of the Tally,
pause frames and items of the pair comparison (R316, R317, R322, R352 to R357, R370, R433, R529, R536 to
R541). -/

namespace Sys2Proof.Machine

/-! ### Cells (R352 to R356) -/

/-- Cells in use in a bank, and those of its reservation. -/
def State.bankUse (s : State) (k : Nat) : Nat := Tab.get 0 s.cl.bankUse k

def State.rsvUse (s : State) (k : Nat) : Nat := Tab.get 0 s.cl.rsvUse k

/-- A bank's reservation for placed flows. -/
def State.bankRsv (s : State) (k : Nat) : Nat := s.get R.CL_BANKk_RSV_RSV k

/-- The reserve of a port and class. -/
def State.clsRsv (s : State) (p c : Nat) : Nat :=
  let w := if c < 4 then s.get R.CL_RSVp_LO_RSV p else s.get R.CL_RSVp_HI_RSV p
  bits w (8 * (c % 4) + 7) (8 * (c % 4))

/-- A bank has a free reserved cell. -/
def State.hasReserved (s : State) (k : Nat) : Bool :=
  decide (s.rsvUse k < s.bankRsv k) && decide (s.bankUse k < 4096)

/-- A bank has a free cell outside its reservation. -/
def State.hasFree (s : State) (k : Nat) : Bool := decide (s.bankUse k + (s.bankRsv k - s.rsvUse k) < 4096)

/-- The banks of a die from a pointer on, in ascending order and round. -/
def dieBanks (die ptr : Nat) : List Nat := (List.range 32).map fun i => 32 * die + (ptr + i) % 32

/-- The banks of a bank set on a die, from a position on. -/
def State.setBanks (s : State) (img bset die pos : Nat) : List Nat :=
  let m := s.tblWord img 5 bset 0 + 2 ^ 32 * s.tblWord img 5 bset 1
  let l := (List.range 32).filterMap fun i => if bitOf m (32 * die + i) then some (32 * die + i) else none
  l.drop (pos % max 1 l.length) ++ l.take (pos % max 1 l.length)

/-- The source a cell in a bank outside the reservations is charged to: the reserve of the port and class,
or the shared pool (R355). -/
def State.source (s : State) (p c : Nat) : Option Nat :=
  if Tab.get 0 s.cl.clsUse (8 * p + c) < s.clsRsv p c then some 2
  else if Tab.get 0 s.cl.shrUse p < s.get R.CL_PORTp_SHARE_SHARE_LIM p && 0 < s.get R.CL_POOL_STAT_SHARED_FREE then some 3
  else none

/-- Show a bank's free cells and a port's use. -/
def State.cellSync (s : State) (k p : Nat) : State :=
  let use := (List.range 8).foldl (fun a c => a + Tab.get 0 s.cl.clsUse (8 * p + c)) (Tab.get 0 s.cl.shrUse p)
  (s.set R.CL_BANKk_STAT_FREE (4096 - s.bankUse k) k).set R.CL_PORTp_USE_USE use p

/-- The cells that a bank's reservation holds against the pool: a reservation lowered below its cells in use takes effect
as those return (R356, R368). -/
def State.rsvHeld (s : State) (k v : Nat) : Nat := max v (s.rsvUse k)

/-- What a bank's reservation takes from the shared pool beyond what it holds, when it becomes v. -/
def State.rsvMore (s : State) (k v : Nat) : Nat := s.rsvHeld k v - s.rsvHeld k (s.bankRsv k)

/-- A bank's reservation becomes v, and the shared pool follows. -/
def State.setRsv (s : State) (k v : Nat) : State :=
  (s.cfgWrites [{ f := R.CL_BANKk_RSV_RSV, i := k, v := v }]).set R.CL_POOL_STAT_SHARED_FREE
    (s.get R.CL_POOL_STAT_SHARED_FREE + s.rsvHeld k (s.bankRsv k) - s.rsvHeld k v)

/-- Take or return a cell of port p and class c. -/
def State.cellCount (s : State) (p c : Nat) (x : Cell) (f : Nat → Nat) : State :=
  let cl := { s.cl with bankUse := Tab.upd 0 s.cl.bankUse x.bank f }
  let t := match x.src with
    | 1 =>
      let t := { s with cl := { cl with rsvUse := Tab.upd 0 cl.rsvUse x.bank f } }
      t.set R.CL_POOL_STAT_SHARED_FREE (s.get R.CL_POOL_STAT_SHARED_FREE + s.rsvHeld x.bank (s.bankRsv x.bank)
        - t.rsvHeld x.bank (s.bankRsv x.bank))
    | 2 => { s with cl := { cl with clsUse := Tab.upd 0 cl.clsUse (8 * p + c) f } }
    | _ =>
      let free := s.get R.CL_POOL_STAT_SHARED_FREE
      let used := Tab.get 0 cl.shrUse p
      { s with cl := { cl with shrUse := Tab.put cl.shrUse p (f used) } }.set R.CL_POOL_STAT_SHARED_FREE (free + used - f used)
  t.cellSync x.bank p

/-- Place and charge a cell of a frame (R354, R355): its bank and source, and the pointer past the bank
used; none where no source has room. -/
def State.takeCell (s : State) (p : Nat) (m : Merged) : Option (Cell × State) :=
  let dies := (m.ports.map dieOf).eraseDups
  let die := if dies.length = 1 then dies.getD 0 0 else dieOf p
  let (ix, s) := s.draw 12
  let pos := Tab.get 0 s.cl.setPtr m.bset
  let set := if m.placed then s.setBanks m.epoch m.bset die pos else []
  match set.find? s.hasReserved with
  | some k =>
    let n := pos + set.idxOf k + 1
    let c : Cell := { bank := k, index := ix, src := 1 }
    some (c, { s with cl := { s.cl with setPtr := Tab.put s.cl.setPtr m.bset (n % max 1 set.length) } }.cellCount p m.cls c (· + 1))
  | none =>
    match (dieBanks die (Tab.get 0 s.cl.ptr (p / 4))).find? s.hasFree, s.source p m.cls with
    | some k, some src =>
      let c : Cell := { bank := k, index := ix, src := src }
      some (c, { s with cl := { s.cl with ptr := Tab.put s.cl.ptr (p / 4) ((k + 1) % 32) } }.cellCount p m.cls c (· + 1))
    | _, _ => none

/-- Return the cells of a frame of port p and class c. -/
def State.freeCells (s : State) (p c : Nat) (l : List Cell) : State := l.foldl (fun s x => s.cellCount p c x (· - 1)) s

/-! ### Pause (R322) -/

/-- PFC sending for a class is stopped by a failed check (R452). -/
def State.pfcStopped (s : State) (c : Nat) : Bool := bitOf (s.get R.RD_PFC_STAT_CLASSES) c

/-- The classes whose pause a port sends: 8 for PAUSE, 0 to 4 for PFC, which supersedes it. -/
def State.pauseKinds (s : State) (p : Nat) : List Nat :=
  let e := s.get R.PT_FCp_PFC_EN p
  if e = 0 then (if s.on R.PT_FCp_PAUSE_TX p then [8] else [])
  else (List.range 5).filter fun c => bitOf e c && !s.pfcStopped c

/-- A port beside its registers. -/
def State.portOf (s : State) (p : Nat) : Port := Tab.get {} s.port p

/-- Change a port. -/
def State.portUpd (s : State) (p : Nat) (f : Port → Port) : State := { s with port := Tab.upd {} s.port p f }

/-- Judge a port's ingress use against XOFF and XON: a rise above XOFF sends PAUSE or PFC, whose quanta the
spec leaves open, and a fall below XON sends quanta 0; a port that is not UP sends neither. -/
def State.judgePause (s : State) (p : Nat) : State :=
  let use := s.get R.CL_PORTp_USE_USE p
  let on := (s.portOf p).pausing
  if s.get R.PT_STATp_STATE p ≠ 2 then s
  else if decide (s.get R.PT_FCp_XOFF p < use) then
    ((s.pauseKinds p).filter fun c => !on.contains c).foldl (fun s c =>
      let (q, s) := s.draw 16
      ((s.emit (.pauseTx p c q)).count p 12).portUpd p fun x => { x with pausing := x.pausing ++ [c] }) s
  else if decide (use < s.get R.PT_FCp_XON p) then
    on.foldl (fun s c => ((s.emit (.pauseTx p c 0)).count p 12).portUpd p fun x =>
      { x with pausing := x.pausing.filter fun k => k != c }) s
  else s

/-! ### Captures of the Tally (R536 to R539, R541) -/

/-- What a capture is told of a frame. -/
structure Seen where
  bytes : List Byte
  inPort : Nat
  outPort : Nat := 63
  reason : Nat := 0
  stamp : Stamp
  latency : Option Nat := none
  frame : Option Nat := none
  cell : Option Cell := none
  res : Merged
  rtag : Option Nat := none

/-- A sampler selects a frame (R536). -/
def State.selects (s : State) (k kind port : Nat) (v : Seen) : Bool :=
  let mask := s.get R.TL_TSs_PORT_LO_PORTS k + 2 ^ 32 * s.get R.TL_TSs_PORT_HI_PORTS k
  s.on R.TL_TSs_CFG_EN k && s.get R.TL_TSs_CFG_KIND k == kind && bitOf mask port
  && bitOf (s.get R.TL_TSs_CFG_CLASSES k) v.res.cls
  && (!s.on R.TL_TSs_CFG_FLOW_EN k || s.get R.TL_TSs_FLOW_FLOW_ID k == v.res.flow)
  && (!s.on R.TL_TSs_CFG_MARKED k || v.res.tally)

/-- Selected frames to the next capture (R537): N, or an interval from 1 to 2N - 1 of the LFSR, whose
polynomial the spec leaves open. -/
def State.nextInterval (s : State) (k : Nat) : Nat × State :=
  let n := s.get R.TL_TSs_N_NM1 k + 1
  if s.on R.TL_TSs_CFG_RAND k then
    let (x, t) := s.draw 32
    (x % (2 * n - 1) + 1, t)
  else (n, s)

/-- A sampler. -/
def State.sampler (s : State) (k : Nat) : Sampler := Tab.get {} s.tally.samplers k

/-- The world of the Tally lets it capture a frame: while entry 34 is non-secure, only frames whose first
cell lies in a non-secure partition. -/
def State.tallyMay (s : State) (c : Option Cell) : Bool :=
  !s.entryNonSecure 34 || (match c with
    | some x => bitOf (s.get R.FB_PART_WORLD_PART) (x.bank / 8)
    | none => false)

/-- The header words of a record (R539). -/
def State.tallyWords (s : State) (k kind : Nat) (v : Seen) : List Nat :=
  let hdr := s.on R.TL_TSs_CFG_HDR_ONLY k
  let n := if hdr || kind == 2 then 0 else 64 * 2 ^ s.get R.TL_TSs_CFG_LEN k
  let w := s.stampWords v.stamp
  [2 ^ 28 + k * 2 ^ 24 + kind * 2 ^ 22 + b2n hdr * 2 ^ 21 + b2n (decide (n < v.bytes.length)) * 2 ^ 20
      + b2n v.latency.isSome * 2 ^ 19 + b2n v.cell.isSome * 2 ^ 18 + (64 + n),
    (s.sampler k).seq * 65536 + v.bytes.length % 65536, w.getD 0 0, w.getD 1 0, w.getD 2 0,
    v.inPort * 2 ^ 24 + v.outPort * 2 ^ 16 + v.res.cls * 2 ^ 8 + v.reason, v.res.vid * 65536 + v.res.flow,
    satN 0xFFFFFFFF (v.latency.getD 0),
    (match v.cell with | some c => c.bank * 2 ^ 24 + c.index | none => 0),
    (match v.rtag with | some q => q * 65536 + 2 ^ 15 | none => 0) + v.res.sctx * 2 + v.res.epoch % 2]
  ++ List.replicate 6 0

/-- The bytes of a record: LEN bytes of the frame as stored, padded with 0; none with HDR_ONLY or in a drop
record. -/
def State.tallyBytes (s : State) (k kind : Nat) (b : List Byte) : List Byte :=
  if s.on R.TL_TSs_CFG_HDR_ONLY k || kind == 2 then []
  else
    let n := 64 * 2 ^ s.get R.TL_TSs_CFG_LEN k
    (b ++ List.replicate n 0).take n

/-- One sampler meets a frame: it counts a selected frame down and captures at the end of its interval; a
capture that finds 64 waiting, or that its world forbids, is counted in SKIP. -/
def State.sampleFrame (s : State) (kind port : Nat) (v : Seen) (k : Nat) : State :=
  let put (s : State) (m : Sampler) : State := { s with tally := { s.tally with samplers := Tab.put s.tally.samplers k m } }
  if !s.selects k kind port v then s
  else
    let m := s.sampler k
    if 1 < m.left then put s { m with left := m.left - 1 }
    else
      let (n, s) := s.nextInterval k
      let s := put s { m with left := n }
      if decide (64 ≤ s.tally.waiting.length) || !s.tallyMay v.cell then s.incSat R.TL_TSs_SKIP_SKIP k
      else
        let c : Capture := { sampler := k, frame := if kind = 2 then none else v.frame, words := s.tallyWords k kind v
                             bytes := s.tallyBytes k kind v.bytes, bank := v.cell.map Cell.bank }
        let t := put s { left := n, seq := (m.seq + 1) % 65536 }
        let hold (f : Frame) : Frame := { f with waiting := f.waiting + 1 }
        let frames := match c.frame with
          | some id => match Tab.find? t.cl.frames id with
            | some f => Tab.put t.cl.frames id (hold f)
            | none => t.cl.frames
          | none => t.cl.frames
        let cl := { t.cl with frames := frames }
        { t with cl := cl, tally := { t.tally with waiting := t.tally.waiting ++ [c] } }

/-- Every sampler meets a frame. -/
def State.tallyFrame (s : State) (kind port : Nat) (v : Seen) : State :=
  (List.range 16).foldl (fun s k => s.sampleFrame kind port v k) s

/-! ### Stored frames, queues and drops (R317, R353, R370, R529) -/

/-- Set a class queue. -/
def State.setQueue (s : State) (p c : Nat) (l : List Nat) : State :=
  { s with cl := { s.cl with queues := Tab.put s.cl.queues (8 * p + c) l } }

/-- What a capture sees of a stored frame. -/
def Frame.seen (f : Frame) (id : Nat) : Seen :=
  { bytes := f.bytes, inPort := if f.orig.isSome then 63 else f.port, stamp := f.line, frame := some id, cell := f.cells.head?, res := f.res
    rtag := f.seq }

/-- A frame whose copies are gone and whose captures are read returns its cells (R353, R538). -/
def State.release (s : State) (id : Nat) : State :=
  match s.frame? id with
  | none => s
  | some f =>
    if f.left.isEmpty && f.waiting == 0 then
      let cl := { s.cl with frames := Tab.del s.cl.frames id }
      ({ s with cl := cl }.freeCells f.port f.res.cls f.cells).judgePause f.port
    else s

/-- A stream context, and its CMP bit. -/
def State.sctxOf (s : State) (n : Nat) : SCtx := Tab.get {} s.sctx n

def State.ctxCmp (s : State) (n : Nat) : Bool := bitOf (s.sctxOf n).d0 8

/-- When the last copy of a frame has left or been dropped, its frame item is recorded: class 5 or 6, a
context with CMP, a sampled sequence number, and the pair link up (R433, R440). -/
def State.recordItem (s : State) (f : Frame) : State :=
  match f.seq with
  | none => s
  | some q =>
    if (f.res.cls == 5 || f.res.cls == 6) && f.res.redAct != 0 && s.ctxCmp f.res.sctx && s.on R.RD_PAIR_STAT_LINK_UP
        && s.on R.RD_PAIR_CFG_EN && q % 2 ^ s.get R.RD_PAIR_CFG_SAMPLE_LOG == 0 then
      let mask := f.spans.foldl (fun a x => a ||| 2 ^ x.1) 0
      let sp := (f.spans.mergeSort fun a b => decide (a.1 ≤ b.1)).flatMap fun x => leBytes 4 x.2
      let it : Item := { ctx := f.res.sctx, seq := q, at_ := s.clk, self := f.self
                         crc := crc32c (beBytes 6 mask ++ beBytes 1 f.res.cls ++ sp) }
      { s with agent := { s.agent with own := s.agent.own ++ [it], fresh := s.agent.fresh ++ [it] } }
    else s

/-- A copy has left or been dropped. -/
def State.copyGone (s : State) (id q : Nat) : State :=
  match s.frame? id with
  | none => s
  | some f =>
    let g := { f with left := f.left.filter fun p => p != q }
    let cl := { s.cl with frames := Tab.put s.cl.frames id g }
    let t := { s with cl := cl }
    (if g.left.isEmpty then t.recordItem g else t).release id

/-- Drop a copy of a frame at its egress port. -/
def State.dropCopy (s : State) (id q reason : Nat) : State :=
  match s.frame? id with
  | none => s
  | some f => ((s.count q reason).tallyFrame 2 q { f.seen id with outPort := q, reason := reason }).copyGone id q

/-- Drop the copies of a queue that satisfy a condition, keeping the order of the rest. -/
def State.dropWhere (s : State) (q c reason : Nat) (b : Frame → Bool) : State :=
  let out (id : Nat) : Bool := match s.frame? id with | some f => b f | none => true
  let l := s.queue q c
  (l.filter out).foldl (fun s id => s.dropCopy id q reason) (s.setQueue q c (l.filter fun id => !out id))

/-- Flush a class queue. -/
def State.flush (s : State) (q c reason : Nat) : State := s.dropWhere q c reason fun _ => true

/-- Enqueue a copy, or drop it: the queue's limit, the port's state, the pair's fault (R317, R319, R370,
R439). -/
def State.enqueue (s : State) (id q : Nat) : State :=
  match s.frame? id with
  | none => s
  | some f =>
    let c := f.res.cls
    let st := s.get R.PT_STATp_STATE q
    if st = 0 then s.dropCopy id q 46
    else if st = 4 ∨ (st = 3 ∧ 5 ≤ c) then s.dropCopy id q 43
    else if s.agent.dropping && (c == 5 || c == 6) && s.ctxCmp f.res.sctx && f.res.redAct != 0 then s.dropCopy id q 55
    else if s.get R.SC_Pp_QLIMc_QLIM q c ≤ s.queueCells q c then s.dropCopy id q 41
    else s.setQueue q c (s.queue q c ++ [id])

/-- A transmission is abandoned: the partner receives the frame truncated, after the preamble the bytes sent by now, and the
copy stays at the head of its queue (R316). -/
def State.abandon (s : State) (q : Nat) : State :=
  match Tab.find? s.cl.tx q with
  | none => s
  | some x =>
    let n := (s.clk - x.start) * modeRate (s.portMode q) / 8000 - 8
    ({ s with cl := { s.cl with tx := Tab.del s.cl.tx q } }.count q 21).emit (.truncated q (x.bytes.take n))

/-! ### Copies of an old epoch (R349) -/

/-- A frame carries the tag of the image that is no longer active. -/
def State.isOld (s : State) (e : Nat) : Bool := e != s.epoch

/-- Old-tag copies that remain: in reception, in the trap queues and in the class queues. -/
def State.oldCount (s : State) : Nat :=
  if s.get R.FD_EPOCH_STAT_STATE = 1 then
    (List.filter (fun (e : Nat × Rx) => s.isOld e.2.res.epoch) s.cl.rx).length
    + ((s.cl.trapA ++ s.cl.trapB).filter fun t => s.isOld t.epoch).length
    + s.cl.frames.foldl (fun a e => a + if s.isOld e.2.res.epoch && e.2.orig.isNone then e.2.left.length else 0) 0
  else 0

end Sys2Proof.Machine
end

