-- ==== Sys2Proof/Machine/Contexts.lean ====
section
/-! DEFINITION. Stream contexts: their words, sequence generation, recovery, the latent error test and the
commands and registers that reach them (R419 to R427, R453, R457). -/

namespace Sys2Proof.Machine

/-! ### Words (R420, R453) -/

/-- Forester's contexts. -/
def foresterCtx (n : Nat) : Bool := decide (4096 ≤ n)

/-- Change a context. -/
def State.sctxUpd (s : State) (n : Nat) (f : SCtx → SCtx) : State := { s with sctx := Tab.upd {} s.sctx n f }

def SCtx.valid (c : SCtx) : Bool := bitOf c.d0 0
def SCtx.gen? (c : SCtx) : Bool := bitOf c.d0 1
def SCtx.rcvy? (c : SCtx) : Bool := bitOf c.d0 2
def SCtx.indiv? (c : SCtx) : Bool := bitOf c.d0 3
def SCtx.latEn (c : SCtx) : Bool := bitOf c.d0 4
def SCtx.strip (c : SCtx) : Bool := bitOf c.d0 5
def SCtx.keep (c : SCtx) : Bool := bitOf c.d0 6
def SCtx.tagless (c : SCtx) : Bool := bitOf c.d0 7
def SCtx.histLen (c : SCtx) : Nat := bits c.d0 22 16
def SCtx.latPaths (c : SCtx) : Nat := bits c.d0 26 24
def SCtx.latDiff (c : SCtx) : Nat := bits c.d1 31 16
/-- RESET_TO, LAT_PERIOD and LAT_RESET, in ps. -/
def SCtx.resetTo (c : SCtx) : Nat := bits c.d1 15 0 * 10 ^ 9
def SCtx.latPeriod (c : SCtx) : Nat := bits c.d2 15 0 * 10 ^ 9
def SCtx.latResetLen (c : SCtx) : Nat := bits c.d2 31 16 * 10 ^ 12

/-- The words of a context as they read. -/
def State.ctxWords (s : State) (n : Nat) : List Nat :=
  let c := s.sctxOf n
  [c.d0 + 2 ^ 9 * b2n (foresterCtx n), c.d1, c.d2, 0]

/-- The reserved bits of DATA0 that read 0 here. -/
def ctxMask (d0 : Nat) : Nat := Nat.land d0 0x077F01FF

/-- The words of a context are in range. -/
def ctxOk (d0 d1 d2 : Nat) : Bool :=
  R.RD_CTX_DATA0.ok d0 && R.RD_CTX_DATA1.ok d1 && R.RD_CTX_DATA2.ok d2

/-- GEN, RCVY, INDIV or SEQ_SRC would change while VALID = 1 (R427). -/
def SCtx.frozen (c : SCtx) (d0 : Nat) : Bool := c.valid && Nat.land (Nat.xor c.d0 d0) 0x4E != 0

/-- Write the words of a context: a change of HIST_LEN resets the recovery state, and the latent error test
starts as LAT_EN is set (R426, R427). -/
def State.ctxSet (s : State) (n d0 d1 d2 : Nat) : State :=
  let d0 := ctxMask d0
  s.sctxUpd n fun c =>
    let c := if bits d0 22 16 != c.histLen then { c with rcvy := {}, home := none, indiv := [] } else c
    let c := if bitOf d0 4 && !c.latEn then { c with latAt := s.clk, latReset := s.clk, latPass := 0, latDisc := 0 } else c
    { c with d0 := d0, d1 := d1 % 2 ^ 32, d2 := d2 % 2 ^ 32 }

/-- Reset a context's generation, recovery and individual state, and with CLR its counters (R427). -/
def State.ctxReset (s : State) (n : Nat) (clr : Bool) : State :=
  s.sctxUpd n fun c => { c with
    gen := 0, rcvy := {}, home := none, indiv := [], latPass := 0, latDisc := 0
    cnt := if clr then [] else c.cnt, bypass := if clr then 0 else c.bypass }

/-- Add to one of a context's ten counts: 0 passed, 1 DUPLICATE, 2 ROGUE, 3 out of order, 4 lost, 5 tagless,
6 IND_DUP, 7 resets, 8 latent errors, 9 RCVY_HOME. -/
def State.ctxCount (s : State) (n i : Nat) (k : Nat := 1) : State :=
  s.sctxUpd n fun c => { c with cnt := Tab.upd 0 c.cnt i fun v => (v + k) % 2 ^ 48 }

/-! ### Recovery (R423 to R425) -/

/-- What the vector recovery algorithm answers: the history after it, whether the frame passes, its count (0
passed, 1 duplicate, 2 rogue), out of order, and numbers lost. -/
structure RcvyOut where
  r : Rcvy
  verdict : Nat
  ooo : Bool := false
  lost : Nat := 0

/-- Shift a history by some places, newest first. -/
def shiftHist (h : List Bool) (n len : Nat) : List Bool :=
  (true :: (List.replicate (min (n - 1) len) false ++ h)).take len

/-- The vector recovery algorithm on a number, with a history of `len`. -/
def Rcvy.take (r : Rcvy) (len num now : Nat) : RcvyOut :=
  if r.takeAny then
    { r := { takeAny := false, num := num, hist := true :: List.replicate (len - 1) false, passed := now }, verdict := 0 }
  else
    let d := sext 16 ((num + 65536 - r.num) % 65536)
    if (len : Int) ≤ d.natAbs then { r := r, verdict := 2 }
    else if d ≤ 0 then
      if r.hist.getD d.natAbs false then { r := r, verdict := 1 }
      else { r := { r with hist := r.hist.set d.natAbs true, passed := now }, verdict := 0, ooo := true }
    else
      let n := d.toNat
      let out := (r.hist.drop (len - n)).filter fun b => !b
      { r := { r with num := num, hist := shiftHist r.hist n len, passed := now }, verdict := 0
        ooo := decide (n ≠ 1), lost := out.length }

/-- No frame has passed for the reset timeout. -/
def Rcvy.stale (r : Rcvy) (lim now : Nat) : Bool := !r.takeAny && decide (r.passed + lim ≤ now)

/-- The reset timeout of a context's histories (R424). -/
def State.ctxTimeout (s : State) (n : Nat) : State :=
  let c := s.sctxOf n
  let t := if c.rcvy.stale c.resetTo s.clk then
      (s.sctxUpd n fun c => { c with rcvy := {}, home := none }).ctxCount n 7
    else s
  t.sctxUpd n fun c => { c with
    indiv := List.map (fun (e : Nat × Rcvy) => if e.2.stale c.resetTo s.clk then (e.1, {}) else e) c.indiv }

/-- Individual recovery of a frame of an ingress port: whether it passes (R425). -/
def State.indivTake (s : State) (n p num : Nat) : Bool × State :=
  let c := s.sctxOf n
  match Tab.find? c.indiv p with
  | none =>
    if 4 ≤ c.indiv.length then (true, s.sctxUpd n fun c => { c with bypass := c.bypass + 1 })
    else
      let o := ({} : Rcvy).take c.histLen num s.clk
      (true, s.sctxUpd n fun c => { c with indiv := c.indiv ++ [(p, o.r)] })
  | some r =>
    let o := r.take c.histLen num s.clk
    let t := s.sctxUpd n fun c => { c with
      indiv := List.map (fun (e : Nat × Rcvy) => if e.1 = p then (p, o.r) else e) c.indiv }
    if o.verdict = 0 then (true, t) else (false, t.ctxCount n 6)

/-- Sequence recovery of a frame: the drop reason, or none where it passes (R423, R424). -/
def State.seqTake (s : State) (n region : Nat) (num : Option Nat) : Option Nat × State :=
  let c := s.sctxOf n
  match num with
  | none =>
    let t := s.ctxCount n 5
    if c.tagless then (none, t.sctxUpd n fun c => { c with rcvy := { c.rcvy with passed := s.clk } }) else (some 51, t)
  | some q =>
    if c.home.isSome && c.home != some region then (some 53, s.ctxCount n 9)
    else
      let o := c.rcvy.take c.histLen q s.clk
      let pass := o.verdict == 0
      let put (c : SCtx) : SCtx := { c with
        rcvy := o.r, home := if pass then some region else c.home
        latPass := c.latPass + b2n pass, latDisc := c.latDisc + b2n (!pass) }
      let t := ((s.sctxUpd n put).ctxCount n o.verdict).ctxCount n 4 o.lost
      let t := if o.ooo then t.ctxCount n 3 else t
      (if pass then none else some (if o.verdict = 1 then 49 else 50), t)

/-- The redundancy action of a committed frame: the drop reason, the number its copies carry, whether the
tag is removed, and the state (R421, R422). -/
def State.redundancy (s : State) (p : Nat) (m : Merged) (tag : Option Nat) : Option Nat × Option Nat × Bool × State :=
  let n := m.sctx
  let c := s.sctxOf n
  if m.redAct = 0 ∨ m.redAct = 3 ∨ c.valid = false then (none, tag, false, s)
  else
    let gen := m.redAct == 1 && c.gen?
    if gen && c.keep && tag.isNone then (some 51, tag, false, s)
    else
      let num := if gen && !c.keep then some c.gen else tag
      let t := if gen && !c.keep then s.sctxUpd n fun c => { c with gen := (c.gen + 1) % 65536 } else s
      let t := t.ctxTimeout n
      let (ok, t) := match num with
        | some q => if c.indiv? then t.indivTake n p q else (true, t)
        | none => (true, t)
      if !ok then (some 52, num, false, t)
      else if m.redAct = 2 ∨ c.rcvy? = true then
        let (drop, t) := t.seqTake n (portRegion (m.ports.foldl min 47)) num
        (drop, num, c.strip, t)
      else (none, num, false, t)

/-! ### Timers (R424, R426) -/

/-- RESET_TIMEOUT (R424). -/
def execResetTimeout (dt n : Nat) (s : State) : Host.Outcome State Fault Refusal :=
  .next ((s.elapse dt).ctxTimeout (n % 8192))

/-- LATENT_TEST (R426). -/
def execLatentTest (dt n : Nat) (s : State) : Host.Outcome State Fault Refusal :=
  let s := s.elapse dt
  let n := n % 8192
  let c := s.sctxOf n
  if c.latEn && decide (c.latAt + c.latPeriod ≤ s.clk) then
    let t := s.sctxUpd n fun c => { c with latAt := s.clk }
    let v : Int := (c.latPass * (c.latPaths - 1) : Nat) - (c.latDisc : Int)
    .next (if v > c.latDiff then (t.ctxCount n 8).raise 82 n else t)
  else .next s

/-- LAT_RESET (R426). -/
def execLatReset (dt n : Nat) (s : State) : Host.Outcome State Fault Refusal :=
  let s := s.elapse dt
  let n := n % 8192
  let c := s.sctxOf n
  .next (if c.latEn && decide (c.latReset + c.latResetLen ≤ s.clk) then
    s.sctxUpd n fun c => { c with latReset := s.clk, latPass := 0, latDisc := 0 }
  else s)

/-! ### Registers and commands (R453, R457) -/

/-- A write of RD_CTX_CTRL with GO. -/
def State.ctxCtrl (s : State) (init w : Nat) (op : Nat) (k : State → Nat → State) : State :=
  s.directWrite init R.RD_CTX_CTRL_GO.addr [] fun s =>
    if s.on R.RD_CTX_CTRL_BUSY then s
    else k (((s.set R.RD_CTX_CTRL_OP op).set R.RD_CTX_CTRL_CTX (bits w 12 0)).set R.RD_CTX_CTRL_ERR 0) (bits w 12 0)

/-- CTX_READ (R453). -/
def execCtxRead (init w : Nat) (s : State) : Host.Outcome State Fault Refusal :=
  .next (s.ctxCtrl init w 0 fun s n =>
    let ws := s.ctxWords n
    let put (s : State) (r : Reg) (v : Nat) : State := s.writes (r.fields.map fun f => { f := f, v := f.of v })
    put (put (put (put s R.RD_CTX_DATA0 (ws.getD 0 0)) R.RD_CTX_DATA1 (ws.getD 1 0)) R.RD_CTX_DATA2 (ws.getD 2 0))
      R.RD_CTX_DATA3 0)

/-- CTX_WRITE (R420, R427, R453): the words of RD_CTX_DATA go to a context of the host. -/
def execCtxWrite (init w : Nat) (s : State) : Host.Outcome State Fault Refusal :=
  .next (s.ctxCtrl init w 1 fun s n =>
    let d0 := s.word R.RD_CTX_DATA0
    if foresterCtx n || (s.sctxOf n).frozen d0 then s.set R.RD_CTX_CTRL_ERR 1
    else s.ctxSet n d0 (s.word R.RD_CTX_DATA1) (s.word R.RD_CTX_DATA2))

/-- RED.CTX_CFG. -/
def cmdRedCtxCfg : Cmd where
  op := 0x2502
  need := 5
  entry _ := 16
  body c s :=
    let n := c.bits 1 12 0
    need (ctxOk (c.arg 2) (c.arg 3) (c.arg 4) && !foresterCtx n) .badArg s <|
    need (!(s.sctxOf n).frozen (c.arg 2)) .busy s <|
    unlessLocked s 16 <| done (s.ctxSet n (c.arg 2) (c.arg 3) (c.arg 4))

/-- RED_CTX_CFG. -/
def execRedCtxCfg (r : Req) (s : State) : Host.Outcome State Fault Refusal :=
  .next (s.exchange (some cmdRedCtxCfg) cmdRedCtxCfg.op r)

/-- RED.CTX_STATUS. -/
def cmdRedCtxStatus : Cmd where
  op := 0x2503
  any := true
  acts := false
  need := 1
  entry _ := 16
  body c s :=
    let n := c.bits 1 12 0
    let x := s.sctxOf n
    done s (s.ctxWords n ++ [x.gen] ++ (List.range 10).flatMap fun i =>
      let v := Tab.get 0 x.cnt i
      [v % 2 ^ 32, v / 2 ^ 32])

/-- RED_CTX_STATUS. -/
def execRedCtxStatus (r : Req) (s : State) : Host.Outcome State Fault Refusal :=
  .next (s.exchange (some cmdRedCtxStatus) cmdRedCtxStatus.op r)

/-- RED.CTX_RESET. -/
def cmdRedCtxReset : Cmd where
  op := 0x2504
  need := 1
  entry _ := 16
  body c s :=
    let n := c.bits 1 12 0
    need (!foresterCtx n) .badArg s <| unlessLocked s 16 <| done (s.ctxReset n (c.bit 1 16))

/-- RED_CTX_RESET. -/
def execRedCtxReset (r : Req) (s : State) : Host.Outcome State Fault Refusal :=
  .next (s.exchange (some cmdRedCtxReset) cmdRedCtxReset.op r)

end Sys2Proof.Machine
end

