-- ==== Sys2Proof/Machine/Role.lean ====
section
/-! DEFINITION. The clock outputs as they drive, the clock-output role, and the pair link (R210, R224, R428,
R440 to R447). -/

namespace Sys2Proof.Machine

/-- The pins of an output that drives, and of one that does not: low, or in high impedance where DIS_HIZ asks for it and
where the output's role is not held (R209, R210). -/
def ClkOut.pins (o : ClkOut) (drives lets : Bool) : Pin × Pin :=
  if drives then (.clock, if o.fmt = 2 then (match o.cmosN with | 0 => .inverse | 1 => .clock | _ => .low) else .inverse)
  else if o.hiz || !lets then (.hiZ, .hiZ) else (.low, .low)

/-- Bring DRIVING, ROLE_HELD and the pins of every output up to date: an output toggles while it is enabled, its
APLL runs ungated and the clock-output role lets it drive (R210, R224). -/
def State.outSync (s : State) : State :=
  (List.range 16).foldl (fun s m =>
    let a := s.get R.SY_OUTm_STAT_APLL_ACT m
    let o := s.clkOutOf m
    let gated := s.on R.SY_APLLa_STAT_GATED a
    let d := o.en && s.on R.SY_APLLa_CFG_EN a && !gated && !s.on R.SY_OUTm_STAT_GATED m && s.roleLets o.roleCtl
    let (p, n) := o.pins d (s.roleLets o.roleCtl)
    let t := (s.setB R.SY_OUTm_STAT_DRIVING d m).set R.SY_OUTm_STAT_ROLE_HELD (s.get R.RD_ROLE_STAT_HOLD) m
    { t with clkout := Tab.put t.clkout m { o with pinP := p, pinN := n } }) s

/-! ### Edges (R202, R208, R211, R216) -/

/-- The divider of an output from its APLL's bus, through its cascade (R208). -/
def wholeDiv (div : Nat → Nat) (casc : Nat → Bool) : Nat → Nat
  | 0 => div 0
  | m + 1 => div (m + 1) * if casc (m + 1) then wholeDiv div casc m else 1

/-- The divider in force of an output, through its cascade. -/
def State.actDiv (s : State) (m : Nat) : Nat :=
  wholeDiv (fun k => s.get R.SY_OUTm_STAT_DIVM1_ACT k + 1) (fun k => s.on R.SY_OUTm_STAT_CASCADE_ACT k) m

/-- The cycle of an output on the time scale of its APLL, as a fraction, in 2^-48 ps: f_VCO is 100 MHz × M of the
followed timebase's own seconds, its rate being FREQ and slew, and the bus runs at f_VCO / PRE (R202, R208). -/
def State.outCycle (s : State) (m : Nat) : Nat × Nat :=
  let a := s.get R.SY_OUTm_STAT_APLL_ACT m
  let p := s.apllOf a
  (10 ^ 4 * s.get R.SY_APLLa_STAT_PRE_ACT a * s.actDiv m * 2 ^ 24 * 2 ^ 48, p.mint * 2 ^ 24 + p.mfrac)

/-- The phase offset now: one step of 0.5 ps per 10 ns toward the destination. -/
def State.phaseNow (s : State) (a : Nat) : Int :=
  let p := s.apllOf a
  let dest := s.getZ R.SY_APLLa_PHOFS_PHOFS a
  let steps : Int := ((s.clk - p.phaseAt) / 10000 : Nat)
  if p.phase ≤ dest then min dest (p.phase + steps) else max dest (p.phase - steps)

/-- DLY and PHOFS of an output, in 2^-48 ps. -/
def State.edgeOfs (s : State) (m : Nat) : Int :=
  (s.clkOutOf m).dly * 2 ^ 48 + s.phaseNow (s.get R.SY_OUTm_STAT_APLL_ACT m) * 2 ^ 47

/-- How long ago, in 2^-48 ps, the latest rising edge of an output was; none before its first. -/
def State.sinceEdge (s : State) (m : Nat) : Option Nat :=
  match (s.clkOutOf m).first with
  | none => none
  | some f =>
    let age : Int := (s.apllTime (s.get R.SY_OUTm_STAT_APLL_ACT m) : Int) - f - s.edgeOfs m
    let (num, den) := s.outCycle m
    if age < 0 then none else some (age.toNat * den % num / den)

/-- The clock of an output's first rising edge later than a gap, in 2^-48 ps, after now (R211, R444). -/
def State.edgeAfter (s : State) (m : Nat) (gap : Int) : Int :=
  let (num, den) := s.outCycle m
  match s.sinceEdge m with
  | some x => s.clk + (((gap + x) * den / max 1 num + 1) * num / den - x) / 2 ^ 48
  | none => s.clk + gap / 2 ^ 48

/-- The outputs of a list that drive stay low. -/
def State.stayLow (s : State) (l : List Nat) (at_ : Nat → Int) : State :=
  (l.filter fun m => s.on R.SY_OUTm_STAT_DRIVING m).foldl (fun t m => t.emit (.clkout m false (at_ m))) s

/-! ### The role (R441 to R447) -/

/-- This member holds the role, and so drives `pair_role_out` high. -/
def State.roleHeld (s : State) : Bool := s.on R.RD_ROLE_STAT_HOLD

/-- An APLL drives a role-controlled output. -/
def State.roleApll (s : State) (a : Nat) : Bool := (s.outsOf a).any fun m => (s.clkOutOf m).en && (s.clkOutOf m).roleCtl

/-- The APLLs with role-controlled outputs. -/
def State.roleAplls (s : State) : List Nat := (List.range 4).filter s.roleApll

/-- ARMED: aligned, every role-controlled APLL locked, the pair link up (R443). -/
def State.armedNow (s : State) : Bool :=
  s.on R.RD_ROLE_STAT_ALIGN_OK && s.on R.RD_PAIR_STAT_LINK_UP && s.roleAplls.all fun a => s.on R.SY_APLLa_STAT_LOCKED a

/-- Bring ARMED up to date. -/
def State.armedSync (s : State) : State :=
  let a := s.armedNow
  if a == s.on R.RD_ROLE_STAT_ARMED then s
  else { s.setB R.RD_ROLE_STAT_ARMED a with agent := { s.agent with armedFrom := if a then some s.clk else none } }

/-- Enter recovery (R447): the member must be ARMED for RECOVERY_TIME from now. -/
def State.enterRecovery (s : State) : State :=
  { s.set R.RD_PAIR_STAT_RECOVERY 1 with
    agent := { s.agent with armedFrom := if s.on R.RD_ROLE_STAT_ARMED then some s.clk else none } }

/-- The outputs with ROLE_CTL = 1 that drive. -/
def State.roleDrives (s : State) : List Nat :=
  (List.range 16).filter fun m => (s.clkOutOf m).roleCtl && s.on R.SY_OUTm_STAT_DRIVING m

/-- The role changes, with its cause (R442). Outputs that it lets drive rise at their first edge later than 12 ns after now,
in a planned handover at the boundary or after it; those it stops end with the cycle in progress (R444, R445). -/
def State.roleGo (s : State) (hold : Bool) (cause : Nat) : State :=
  let t := (s.setB R.RD_ROLE_STAT_HOLD hold).set R.RD_ROLE_STAT_LAST_CAUSE cause
  let t := ({ t with agent := { t.agent with claim := none, handover := none } }.raise 86 cause).outSync
  if hold then
    let gap : Int := if cause = 3 then -1 else 12000 * 2 ^ 48
    t.roleDrives.foldl (fun u m => u.emit (.clkout m true (t.edgeAfter m gap))) t
  else s.roleDrives.foldl (fun u m => u.emit (.clkout m false (s.edgeAfter m 0))) t

/-- Give the role up, if held. -/
def State.dropRole (s : State) (cause : Nat) : State := if s.roleHeld then s.roleGo false cause else s

/-- A member may take the role: the agent enabled in a mode that forwards, ARMED unless TAKE_UNALIGNED, and
not in recovery while `pair_role_in` is high (R442, R447). -/
def State.mayTake (s : State) : Bool :=
  s.on R.RD_PAIR_CFG_EN && s.forwards && !s.roleHeld
  && (s.on R.RD_ROLE_STAT_ARMED || s.on R.RD_ROLE_CFG_TAKE_UNALIGNED)
  && !(s.on R.RD_PAIR_STAT_RECOVERY && s.on R.RD_ROLE_STAT_ROLE_IN)

/-- Take the role, where the member may. -/
def State.takeRole (s : State) (cause : Nat) : State := if s.mayTake then s.roleGo true cause else s

/-! ### The pair link (R428, R440) -/

/-- A PAIR port is UP. -/
def State.pairUp (s : State) : Bool :=
  s.on R.RD_PAIR_CFG_EN && (s.get R.PT_STATp_STATE (s.get R.RD_PAIR_CFG_PORT_A) == 2
    || s.get R.PT_STATp_STATE (s.get R.RD_PAIR_CFG_PORT_B) == 2)

/-- Judge the pair link: a change raises PAIR_LINK; as it goes down, comparison stops, items are dropped and
the pair agent's semaphores are released. -/
def State.pairLink (s : State) : State :=
  let up := s.pairUp
  if up == s.on R.RD_PAIR_STAT_LINK_UP then s
  else
    let t := (s.setB R.RD_PAIR_STAT_LINK_UP up).raise 83 (b2n up)
    if up then t.armedSync
    else
      let t := (t.ownerFault 6).set R.RD_PAIR_STAT_CMP_TIME 0
      let a := { t.agent with own := [], fresh := [], theirs := [], beyond := 0, declared := false
                              claim := none, handover := none }
      { t with agent := a }.armedSync

end Sys2Proof.Machine
end

