-- ==== Sys2Proof/Machine/Messages.lean ====
section
/-! DEFINITION. PTP messages that the device originates: their octets, their transport, and their way into class 7 of
their port (R110 to R112, R121, R139, R310). The layout of the messages and of their addresses is that of IEEE 1588-2019
(PRESUMED, log entry 203). -/

namespace Sys2Proof.Machine

/-! ### Octets -/

/-- The IEEE 1588 Timestamp of three time words: 48-bit seconds and 32-bit nanoseconds. -/
def timeBytes (w : List Nat) : List Byte :=
  beBytes 6 (w.getD 1 0 / 65536 + w.getD 2 0 * 65536) ++ beBytes 4 (w.getD 0 0 / 65536 + w.getD 1 0 % 65536 * 65536)

/-- The part of three time words below 1 ns, in 2^-16 ns. -/
def subNs (w : List Nat) : Int := (w.getD 0 0 % 65536 : Nat)

/-- The portIdentity of a port. -/
def portIdentity (p : Nat) : List Byte := beBytes 8 Config.clockIdentity ++ beBytes 2 (p + 1)

/-- controlField of a messageType. -/
def controlField (kind : Nat) : Nat := match kind with | 0 => 0 | 1 => 1 | 9 => 3 | _ => 5

/-- A PTP message of a port: its header, with a correctionField, and its body. -/
def Orig.message (o : Orig) (corr : Int) (body : List Byte) : List Byte :=
  beBytes 1 o.kind ++ [0x12] ++ beBytes 2 (34 + body.length) ++ beBytes 1 (o.key % 256) ++ [0] ++ beBytes 2 o.flags
  ++ beBytes 8 (wrap 64 corr) ++ beBytes 4 0 ++ portIdentity (o.key / 256) ++ beBytes 2 o.seq
  ++ beBytes 1 (controlField o.kind) ++ beBytes 1 o.log ++ body

/-- The MAC address of a port (R310). -/
def State.portMac (s : State) (p : Nat) : Nat :=
  (s.get R.PT_MAC_BASE_LO_MAC_BASE + 2 ^ 32 * s.get R.PT_MAC_BASE_HI_MAC_BASE + p) % 2 ^ 48

/-- A UDP datagram between equal ports, with its checksum field. -/
def udpBytes (port ck : Nat) (m : List Byte) : List Byte :=
  beBytes 2 port ++ beBytes 2 port ++ beBytes 2 (8 + m.length) ++ beBytes 2 ck ++ m

/-- The IPv4 header of a datagram of `n` octets, with its checksum field. -/
def ip4Header (n sip dip ck : Nat) : List Byte :=
  [0x45, 0] ++ beBytes 2 (20 + n) ++ beBytes 4 0 ++ [1, 17] ++ beBytes 2 ck ++ beBytes 4 sip ++ beBytes 4 dip

/-- The checksum over some octets, of an even number. -/
def checksum (b : List Byte) : Nat := let s := 65535 - ones (words16 b); if s = 0 then 65535 else s

/-- The frame of a PTP message on a port (R112): transport 0 is layer 2, with the destination 01-80-C2-00-00-0E for peer
delay messages and 01-1B-19-00-00-00 for the others, 1 UDP over IPv4 and 2 UDP over IPv6, to port 319 for event messages
and 320 for the others. -/
def State.ptpFrame (s : State) (p transport kind : Nat) (m : List Byte) : List Byte :=
  let peer := kind == 2 || kind == 3
  let src := beBytes 6 (s.portMac p)
  let port := if kind < 4 then 319 else 320
  let b := match transport with
    | 0 => beBytes 6 (if peer then 0x0180C200000E else 0x011B19000000) ++ src ++ beBytes 2 0x88F7 ++ m
    | 1 =>
      let dip := if peer then 0xE000006B else 0xE0000181
      let u := udpBytes port 0 m
      let h := ip4Header u.length (Config.portIp p % 2 ^ 32) dip
      beBytes 6 (0x01005E000000 + dip % 2 ^ 23) ++ src ++ beBytes 2 0x0800 ++ h (checksum (h 0)) ++ u
    | _ =>
      let dip := if peer then 0xFF02 * 2 ^ 112 + 0x6B else 0xFF0E * 2 ^ 112 + 0x181
      let n := 8 + m.length
      let ips := beBytes 16 (Config.portIp p) ++ beBytes 16 dip
      let ck := checksum (ips ++ beBytes 4 n ++ beBytes 4 17 ++ udpBytes port 0 m)
      beBytes 6 (0x333300000000 + dip % 2 ^ 32) ++ src ++ beBytes 2 0x86DD ++ beBytes 4 (6 * 2 ^ 28) ++ beBytes 2 n
        ++ [17, 1] ++ ips ++ udpBytes port ck m
  let b := b ++ List.replicate (60 - b.length) 0
  b ++ fcsOf b

/-- The frame of a message of the device itself. With its transmit timestamp, where EN_ORIG is set, the transmit time is
written into it as it leaves (R111): whole ns as originTimestamp and the rest into correctionField, or the turnaround
of a Pdelay_Resp. -/
def State.origBytes (s : State) (p : Nat) (o : Orig) (tx : Option Stamp) : List Byte :=
  let (corr, body) := match tx with
    | none => (o.corr, o.body)
    | some t =>
      let w := s.stampWords t
      match o.rx with
      | some r => (o.corr + linDist t.t r.t, o.body)
      | none => if o.kind < 3 then (o.corr + subNs w, timeBytes w ++ o.body.drop 10) else (o.corr, o.body)
  s.ptpFrame p o.transport o.kind (o.message corr body)

/-! ### Class 7 -/

/-- Put a frame of the device itself into class 7 of a port, where it waits for its turn (R121, R286). It takes no cells. -/
def State.sendOwn (s : State) (p : Nat) (o : Orig) (bytes : List Byte) : State :=
  let id := s.cl.next
  let now := s.nowStamp s.lineTb
  let f : Frame := { bytes := bytes, port := p, res := { kind := 2, cls := 7, ports := [p], epoch := s.epoch }
                     cells := [], line := now, own := now, left := [p], orig := some o }
  let cl := { s.cl with frames := Tab.put s.cl.frames id f, next := id + 1 }
  { s with cl := cl }.enqueue id p

/-- Send a PTP message of the device itself. -/
def State.sendOrig (s : State) (o : Orig) : State := s.sendOwn (o.key / 256) o (s.origBytes (o.key / 256) o none)

/-- Send an untagged control frame of the device itself on a port, padded to 64 bytes: in class 7 of a port that is UP, and
otherwise at once (R286). -/
def State.sendControl (s : State) (p dst type : Nat) (payload : List Byte) : State :=
  let b := beBytes 6 dst ++ beBytes 6 (s.portMac p) ++ beBytes 2 type ++ payload
  let b := b ++ List.replicate (60 - b.length) 0
  let b := b ++ fcsOf b
  if s.get R.PT_STATp_STATE p = 2 then s.sendOwn p { key := 256 * p, kind := 16, transport := 0, seq := 0, body := [] } b
  else s.emit (.frame p b)

/-- A message of the device itself leaves: the core's timing queue receives its transmit time (R111, R414), where the
port stamps its event messages. -/
def State.complete (s : State) (p : Nat) (o : Orig) (tx : Stamp) : State :=
  let q := match Tab.find? s.sessions o.key with | some e => e.tq | none => 0
  if o.kind < 4 && s.on R.PT_TSCFGp_EN_TS p then s.emit (.completion q o.key o.kind o.seq (s.stampWords tx)) else s

end Sys2Proof.Machine
end

