-- ==== Sys2Proof/Machine/EventTimer.lean ====
section
/-! DEFINITION. The event timer and the EVT command group (R260 to R279). -/

namespace Sys2Proof.Machine

/-! ### Reference and inputs -/

/-- An input. -/
def State.etIn (s : State) (i : Nat) : EtIn := Tab.get {} s.et.ins i

/-- Change an input. -/
def State.etUpd (s : State) (i : Nat) (f : EtIn → EtIn) : State :=
  { s with et := { s.et with ins := Tab.upd {} s.et.ins i f } }

/-- The OCXO is the measurement reference. -/
def State.etOcxo (s : State) : Bool := s.on R.ET_CFG_REF

/-- The time of the measurement reference, in 2^-48 ps (R264). -/
def State.etNow (s : State) : Nat := if s.etOcxo then s.et.ocxo else s.time (s.get R.ET_CFG_TB)

/-- STEP_SEQ and TB as a result carries them: 0 with the OCXO (R264). -/
def State.etSeq (s : State) : Nat := if s.etOcxo then 0 else (s.tbOf (s.get R.ET_CFG_TB)).stepSeq

/-- The steps of the measurement reference so far. -/
def State.etSteps (s : State) : Nat := if s.etOcxo then 0 else (s.tbOf (s.get R.ET_CFG_TB)).steps

def State.etTb (s : State) : Nat := if s.etOcxo then 0 else s.get R.ET_CFG_TB

/-- The measurement reference is there: the OCXO warm, or the named timebase enabled (R265). -/
def State.etRefThere (s : State) : Bool :=
  if s.etOcxo then s.on R.TR_OCXO_STAT_WARM else s.tbOn (s.get R.ET_CFG_TB)

/-- The mode permits the event timer (R36). -/
def State.etMode (s : State) : Bool := decide (2 ≤ s.mode)

/-- Bring LEVEL, PEND and HELD up to date. -/
def State.etSync (s : State) : State :=
  (List.range 16).foldl (fun s i => (s.set R.ET_INi_STAT_PEND (s.etIn i).starts.length i).set
    R.ET_INi_STAT_HELD (s.etIn i).stops.length i) (s.set R.ET_STAT_LEVEL s.et.fifo.length)

/-- What an input's dates add to an edge's arrival beside its interpolator, in 2^-48 ps: the correction of its ladder as its
ET record holds it (DEDUCED, log entry 211), less its cable delay (R261, R598). -/
def State.etShift (s : State) (i : Nat) : Int :=
  let corr := match s.nvRec 0x11 i with | some e => sext 32 (e.2.getD 5 0) | none => 0
  corr * linUnit - s.getZ R.ET_INi_DLY_DLY i * 2 ^ 48

/-- The date that an edge arriving now would have, its interpolator left out, in 2^-16 ns. -/
def State.etDateNow (s : State) (i : Nat) : Int := Int.tdiv (s.etNow + s.etShift i) linUnit

/-- The first whole second of the reference after now opens an input's first gate (R271). -/
def State.openGate (s : State) (i : Nat) : State :=
  let sec := 10 ^ 9 * 65536
  s.etUpd i fun e => { e with gate := some { open_ := (units16 s.etNow / sec + 1) * sec, armed := true, steps := s.etSteps } }

/-- An input's gate is open: its first boundary has passed. -/
def State.gateOpen (s : State) (i : Nat) : Bool :=
  match (s.etIn i).gate with
  | some g => !g.armed || decide ((g.open_ : Int) ≤ s.etDateNow i)
  | none => false

/-- Discard an input's pending starts, held stops and open gate; `count` adds each to LOST_CNT (R265,
R276). -/
def State.etDiscard (s : State) (i : Nat) (count : Bool) : State :=
  let e := s.etIn i
  let n := e.starts.length + e.stops.length + b2n (s.gateOpen i)
  let t := s.etUpd i fun e => { e with starts := [], stops := [], gate := none }
  if count then t.incSat R.ET_INi_STAT_LOST_CNT i 0 n else t

/-- Judge the measurement reference again: measurement begins when the mode permits it and the reference
is there, the OCXO scale starting at 0; it stops when the reference is lost, with ET_REF (R265). -/
def State.etRef (s : State) : State :=
  let go := s.etMode && s.etRefThere
  let s1 := s.setB R.ET_STAT_REF_WAIT (!s.etRefThere)
  let ens := (List.range 16).filter fun i => s.on R.ET_INi_CFG_EN i
  if go && !s.et.run then
    let t := { s1 with et := { s1.et with run := true, ocxo := 0 } }
    ens.foldl (fun s i => if s.get R.ET_INi_CFG_MODE i == 2 then s.openGate i else s) t
  else if !go && s.et.run then
    let t := ens.foldl (fun s i => s.etDiscard i true) { s1 with et := { s1.et with run := false } }
    (t.raise 72).etSync
  else s1

/-! ### Results -/

/-- Complete a result of input i: its flags and sequence number, and its words, wait in the input's
buffer for the shared FIFO. A result that finds the buffer full is lost (R263, R273). -/
def State.etResult (s : State) (i kind flags stepSeq w1 w2 w3 : Nat) : State :=
  let e := s.etIn i
  if 8 ≤ e.buf.length then (s.etUpd i fun e => { e with lost := true }).incSat R.ET_INi_STAT_LOST_CNT i
  else
    let w0 := kind * 2 ^ 29 + i * 2 ^ 25 + flags + b2n e.dead * 2 ^ 23 + b2n e.lost * 2 ^ 19
      + b2n s.etOcxo * 2 ^ 17 + stepSeq * 2 ^ 13 + s.etTb * 2 ^ 10 + e.seq
    s.etUpd i fun e => { e with
      dead := false, lost := false, seq := (e.seq + 1) % 1024
      buf := e.buf ++ [{ cycle := s.clk / 800, w := { w0 := w0, w1 := w1 % 2 ^ 32, w2 := w2 % 2 ^ 32, w3 := w3 % 2 ^ 32 } }] }

/-- The interval result of a pair, or of a start whose TIMEOUT expired (R270). -/
def State.intervalResult (s : State) (i : Nat) (start : EtEdge) (stop : Option EtEdge) (order : Bool) : State :=
  let ns := start.date / 65536 % 10 ^ 9
  let edge := b2n start.falling * 2 ^ 24
  match stop with
  | none =>
    let stepped := b2n (start.steps != s.etSteps) * 2 ^ 18
    s.etResult i 1 (edge + 2 ^ 20 + stepped) start.stepSeq 0xFFFFFFFF 0x7FFFFFFF ns
  | some p =>
    let d : Int := sext 64 ((((p.date : Int) - start.date) % 2 ^ 64).toNat)
    let stepped := b2n (start.steps != p.steps) * 2 ^ 18
    let small := decide (d.natAbs * 1000 < 2 * 65536)
    let v := if small then 0 else wrap 64 d
    let flag := if small then 2 ^ 21 else if order then 2 ^ 22 else 0
    s.etResult i 1 (edge + flag + stepped) start.stepSeq v (v / 2 ^ 32) ns

/-- TIMEOUT of an interval channel, in ps. -/
def State.etTimeout (s : State) (i : Nat) : Nat :=
  s.get64 R.ET_INi_TMO_LO_TIMEOUT R.ET_INi_TMO_HI_TIMEOUT i * 1000

/-- The oldest pending start of a channel has waited TIMEOUT. -/
def State.startExpired (s : State) (i : Nat) : Bool :=
  match (s.etIn i).starts with
  | e :: _ => decide (e.at_ + s.etTimeout i ≤ s.clk)
  | [] => false

/-- Write the TIMEOUT result of the oldest pending start. -/
def State.expireStart (s : State) (i : Nat) : State :=
  match (s.etIn i).starts with
  | e :: r => (s.etUpd i fun c => { c with starts := r }).intervalResult i e none false
  | [] => s

/-- The oldest held stop of a channel has waited PAIR_WIN. -/
def State.stopExpired (s : State) (i : Nat) : Bool :=
  match (s.etIn i).stops with
  | e :: _ => decide (e.at_ + s.get R.ET_INi_PWIN_PAIR_WIN i * 1000 ≤ s.clk)
  | [] => false

/-- Discard the oldest held stop, counted in ORPHAN_CNT. -/
def State.expireStop (s : State) (i : Nat) : State :=
  (s.etUpd i fun c => { c with stops := c.stops.drop 1 }).incSat R.ET_INi_STAT_ORPHAN_CNT i

/-- Every start and stop of a channel whose time is over leaves; a queue holds at most 8. -/
def State.expireAll (s : State) (i : Nat) : State :=
  (List.range 8).foldl (fun s _ =>
    let s := if s.startExpired i then s.expireStart i else s
    if s.stopExpired i then s.expireStop i else s) s

/-- A start edge of a channel (R269). -/
def State.startEdge (s : State) (i : Nat) (e : EtEdge) : State :=
  match (s.etIn i).stops with
  | p :: r => (s.etUpd i fun c => { c with stops := r }).intervalResult i e (some p) true
  | [] =>
    if (s.etIn i).starts.length < 8 then s.etUpd i fun c => { c with starts := c.starts ++ [e] }
    else (s.etUpd i fun c => { c with lost := true }).incSat R.ET_INi_STAT_LOST_CNT i

/-- A stop edge of a channel (R269). -/
def State.stopEdge (s : State) (i : Nat) (e : EtEdge) : State :=
  match (s.etIn i).starts with
  | p :: r => (s.etUpd i fun c => { c with starts := r }).intervalResult i p (some e) false
  | [] =>
    if (s.etIn i).stops.length < 8 then s.etUpd i fun c => { c with stops := c.stops ++ [e] }
    else (s.etUpd i fun c => { c with lost := true }).incSat R.ET_INi_STAT_LOST_CNT i

/-- GATE of an input, in 2^-16 ns. -/
def State.etGateLen (s : State) (i : Nat) : Nat := s.get R.ET_INi_GATE_GATE i * 1000 * 65536

/-- Close an input's gate with its result and open the next one (R271). -/
def State.closeGate (s : State) (i : Nat) : State :=
  match (s.etIn i).gate with
  | none => s
  | some g =>
    let span := if g.n < 2 then 0 else wrap 64 ((g.last : Int) - g.first)
    let flags := b2n (g.n < 2) * 2 ^ 20 + b2n (g.steps != s.etSteps) * 2 ^ 18
    (s.etResult i 2 flags s.etSeq g.n span (span / 2 ^ 32)).etUpd i fun e => { e with
      gate := some { open_ := g.open_ + s.etGateLen i, steps := s.etSteps } }

/-- Close the gates of an input that end by a date: once eight have closed the input's buffer is full, and the result of
each further one is lost (R263, R271). -/
def State.closeGates (s : State) (i : Nat) (date : Int) : State :=
  match (s.etIn i).gate with
  | none => s
  | some g =>
    let k := ((date - g.open_) / max 1 (s.etGateLen i : Int)).toNat
    let t := (List.range (min k 8)).foldl (fun s _ => s.closeGate i) s
    if k ≤ 8 then t
    else (t.etUpd i fun e => { e with
      lost := true, gate := e.gate.map fun g => { g with open_ := g.open_ + (k - 8) * s.etGateLen i } }).incSat
        R.ET_INi_STAT_LOST_CNT i 0 (k - 8)

/-- An edge of a frequency input: it belongs to the gate it opens, and an edge before the first gate is not counted. -/
def State.countEdge (s : State) (i date : Nat) : State :=
  let into (g : EtGate) : EtGate :=
    if g.armed ∧ date < g.open_ then g
    else { g with armed := false, n := (g.n + 1) % 2 ^ 32, first := if g.n = 0 then date else g.first, last := date }
  (s.closeGates i date).etUpd i fun e => { e with gate := e.gate.map into }

/-! ### Edges -/

/-- A polarity is selected by an EDGE code: 0 rising, 1 falling, 2 both. -/
def edgeSel (code : Nat) (falling : Bool) : Bool := code == 2 || (code == 1) == falling

/-- The channels that take an input's edges of a polarity as stops. -/
def State.stopChannels (s : State) (i : Nat) (falling : Bool) : List Nat :=
  (List.range 16).filter fun c => s.on R.ET_INi_CFG_EN c && s.get R.ET_INi_CFG_MODE c == 1
    && s.get R.ET_INi_CFG_STOP_IN c == i && edgeSel (s.get R.ET_INi_CFG_STOP_EDGE c) falling

/-- The date of an edge that arrives now, in 2^-48 ps (R261): the coarse count of 800 ps, the interpolator's reading of the
rest, which `err` units of 2^-16 ns put off and whose LSB is 2 ps, the ladder's correction, and DLY. -/
def State.etDate (s : State) (i : Nat) (err : Int) : Nat :=
  let past := if s.etOcxo then s.et.ocxo % (800 * 2 ^ 48) else s.clk % 800 * 2 ^ 48
  let coarse := if s.etOcxo then s.et.ocxo - past else s.etNow
  let lsb := (past + err * linUnit + 2 ^ 48) / (2 * 2 ^ 48)
  addTime coarse (lsb * (2 * 2 ^ 48) + s.etShift i)

/-- An accepted edge: dated, and processed by the input's own mode and by every channel that stops on it (R261, R267
to R271). -/
def State.acceptEdge (s : State) (i : Nat) (falling own : Bool) (err : Int) : State :=
  let s := s.etUpd i fun e => { e with last := some s.clk }
  let t := s.etDate i err
  let u := units16 t
  let e : EtEdge := { date := u, at_ := s.clk, stepSeq := s.etSeq, steps := s.etSteps, falling := falling }
  let w := timeWords t
  let s1 := if !own then s else match s.get R.ET_INi_CFG_MODE i with
    | 0 => s.etResult i 0 (b2n falling * 2 ^ 24) s.etSeq (w.getD 0 0) (w.getD 1 0) (w.getD 2 0)
    | 1 => s.startEdge i e
    | 2 => s.countEdge i u
    | _ => s
  (s.stopChannels i falling).foldl (fun s c => s.stopEdge c e) s1

/-- An edge within 3.2 ns of the last accepted edge of the input (R262). -/
def State.etDead (s : State) (i : Nat) : Bool :=
  match (s.etIn i).last with
  | some c => decide (s.clk < c + 3200)
  | none => false

/-- An edge at an input: taken while measurement runs and the input is enabled and selects it; lost to
dead time, or to a full buffer (R262, R263). -/
def State.edge (s : State) (i : Nat) (falling : Bool) (err : Int) : State :=
  let own := edgeSel (s.get R.ET_INi_CFG_EDGE i) falling
  if !s.et.run || !s.on R.ET_INi_CFG_EN i || !(own || !(s.stopChannels i falling).isEmpty) then s
  else
    let s := (s.stopChannels i falling).foldl State.expireAll (s.expireAll i)
    let t := if s.etDead i then s.etUpd i fun e => { e with dead := true }
      else if 8 ≤ (s.etIn i).buf.length then
        (s.etUpd i fun e => { e with lost := true }).incSat R.ET_INi_STAT_LOST_CNT i
      else s.acceptEdge i falling own err
    t.etSync

/-- EVENT_EDGE (R262): an edge of input i, its interpolator off by `err` units of 2^-16 ns. -/
def execEventEdge (dt i : Nat) (falling : Bool) (err : Int) (s : State) : Host.Outcome State Fault Refusal :=
  .next ((s.elapse dt).edge (i % 16) falling err)

/-- The input whose waiting result is next: the earliest cycle, then the lowest input (R263). -/
def State.etNext (s : State) : Option Nat :=
  (List.range 16).foldl (fun b i => match (s.etIn i).buf.head?, b with
    | none, _ => b
    | some _, none => some i
    | some e, some j => if e.cycle < ((s.etIn j).buf.head?.getD {}).cycle then some i else b) none

/-- Write one entry to the shared FIFO, or drop it when the FIFO is full (R272). -/
def State.etPush (s : State) (e : EtEntry) : State :=
  if s.et.fifo.length < 16384 then
    let t := { s with et := { s.et with fifo := s.et.fifo ++ [e] } }
    if t.et.fifo.length == t.get R.ET_CFG_WM then t.raise 70 else t
  else ((s.set R.ET_STAT_OVF 1).incSat R.ET_STAT_DROP_CNT).raise 71

/-- The next waiting result reaches the shared FIFO. -/
def State.etWrite (s : State) : State :=
  match s.etNext with
  | none => s
  | some i => ((s.etUpd i fun e => { e with buf := e.buf.drop 1 }).etPush ((s.etIn i).buf.headD {})).etSync

/-- ET_RESULT_WRITE (R263): the FIFO takes one entry in an 800 ps cycle. -/
def execEtResultWrite (dt : Nat) (s : State) : Host.Outcome State Fault Refusal :=
  let s := s.elapse dt
  .next (if s.et.written = some (s.clk / 800) then s
    else ({ s with et := { s.et with written := some (s.clk / 800) } }).etWrite)

/-- INTERVAL_TIMEOUT (R270). -/
def execIntervalTimeout (dt i : Nat) (s : State) : Host.Outcome State Fault Refusal :=
  let s := s.elapse dt
  .next (if s.startExpired (i % 16) then (s.expireStart (i % 16)).etSync else s)

/-- PAIR_WINDOW_EXPIRY (R269). -/
def execPairWindowExpiry (dt i : Nat) (s : State) : Host.Outcome State Fault Refusal :=
  let s := s.elapse dt
  .next (if s.stopExpired (i % 16) then (s.expireStop (i % 16)).etSync else s)

/-- An input's gate is over: no edge that still arrives can be dated before its end. -/
def State.gateOver (s : State) (i : Nat) : Bool :=
  match (s.etIn i).gate with
  | none => false
  | some g => decide (((g.open_ + s.etGateLen i : Nat) : Int) ≤ s.etDateNow i)

/-- GATE_END (R271). -/
def execGateEnd (dt i : Nat) (s : State) : Host.Outcome State Fault Refusal :=
  let s := s.elapse dt
  .next (if s.gateOver (i % 16) then s.closeGate (i % 16) else s)

/-! ### Reading the FIFO (R272) -/

/-- Pop the oldest entry, or none. -/
def State.etPop (s : State) : Option EvRec × State :=
  match s.et.fifo with
  | [] => (none, s)
  | e :: r => (some e.w, { s with et := { s.et with fifo := r } }.etSync)

/-- A read of ET_FIFO_W0: pops the oldest entry and latches words 1 to 3; EMPTY and zeros on an empty
FIFO. -/
def State.etReadW0 (s : State) : Nat × State :=
  match s.etPop with
  | (some w, t) => (w.w0, { t with et := { t.et with latch := w } })
  | (none, t) => (2 ^ 31, { t with et := { t.et with latch := {} } })

/-- ET_FIFO_POP (R272): a read of ET_FIFO_W0. -/
def execEtFifoPop (init : Nat) (s : State) : Host.Outcome State Fault Refusal :=
  let s := s.quiet
  .next (match s.checkAccess init 0x630010 false with
    | some v => s.violate v init 0x630010 0
    | none => let (w, t) := s.etReadW0; t.emit (.readData init [w]))

/-- Pop up to k entries as response words. -/
def State.etPopN (s : State) : Nat → List Nat × State
  | 0 => ([], s)
  | k + 1 => match s.etPop with
    | (none, t) => ([], t)
    | (some w, t) => let (ws, u) := t.etPopN k; ([w.w0, w.w1, w.w2, w.w3] ++ ws, u)

/-! ### The EVT command group (R279) -/

/-- The mode rule of the EVT commands sent from a mailbox. -/
def evtMode (s : State) : Bool := decide (2 ≤ s.mode)

/-- EVT.STATUS. -/
def cmdEvtStatus : Cmd where
  op := 0x1401
  any := true
  acts := false
  need := 1
  entry _ := 32
  body c s :=
    let i := c.bits 1 3 0
    done s [s.word R.ET_STAT, s.word R.ET_INi_STAT i, s.word R.ET_INi_CFG i]

/-- EVT_STATUS. -/
def execEvtStatus (r : Req) (s : State) : Host.Outcome State Fault Refusal :=
  .next (s.exchange (some cmdEvtStatus) cmdEvtStatus.op r)

/-- Some input is enabled. -/
def State.etAnyEn (s : State) : Bool := (List.range 16).any fun i => s.on R.ET_INi_CFG_EN i

/-- EVT.CFG (R266). -/
def cmdEvtCfg : Cmd where
  op := 0x1402
  need := 1
  mode := evtMode
  entry _ := 32
  body c s :=
    let same := c.bits 1 3 3 == s.get R.ET_CFG_REF && c.bits 1 2 0 == s.get R.ET_CFG_TB
    need (R.ET_CFG.ok (c.arg 1) && s.tbOn (c.bits 1 2 0)) .badArg s <| need (same || !s.etAnyEn) .busy s <|
    writeCfg s (R.ET_CFG.writes (c.arg 1)) fun t =>
      done (if same then t else { t with et := { t.et with run := false } }.etRef)

/-- EVT_CFG. -/
def execEvtCfg (r : Req) (s : State) : Host.Outcome State Fault Refusal :=
  .next (s.exchange (some cmdEvtCfg) cmdEvtCfg.op r)

/-- EN of an input has changed: its counters clear and its first gate opens, or what it held is
discarded (R276, R278). -/
def State.etEnable (s : State) (i : Nat) (was : Bool) : State :=
  let now := s.on R.ET_INi_CFG_EN i
  if now && !was then
    let t := (s.set R.ET_INi_STAT_LOST_CNT 0 i).set R.ET_INi_STAT_ORPHAN_CNT 0 i
    if t.et.run && t.get R.ET_INi_CFG_MODE i == 2 then t.openGate i else t
  else if was && !now then (s.etDiscard i false).etSync
  else s

/-- R268 and STOP_IN: an interval channel that stops on itself selects single, different edges; another
stop input must be enabled. -/
def State.intervalOk (s : State) (i w : Nat) : Bool :=
  let stop := bits w 11 8
  bits w 2 1 != 1
  || (if stop = i then bits w 4 3 != 2 && bits w 6 5 != 2 && bits w 4 3 != bits w 6 5
      else s.on R.ET_INi_CFG_EN stop)

/-- The field writes of an input's configuration words (R276, R277). -/
def etInputWrites (i w tlo thi pwin gate dly : Nat) : List FieldWrite :=
  R.ET_INi_CFG.writes w i ++ R.ET_INi_TMO_LO.writes tlo i ++ R.ET_INi_TMO_HI.writes thi i
  ++ R.ET_INi_PWIN.writes pwin i ++ R.ET_INi_GATE.writes gate i ++ R.ET_INi_DLY.writes dly i

/-- EVT.INPUT_CFG (R268, R276, R277). -/
def cmdEvtInputCfg : Cmd where
  op := 0x1403
  need := 7
  mode := evtMode
  entry _ := 32
  body c s :=
    let i := c.bits 1 3 0
    let tmo := c.arg 3 % 2 ^ 32 + 2 ^ 32 * c.arg 4
    let ws := etInputWrites i (c.arg 2) (c.arg 3) (c.arg 4) (c.arg 5) (c.arg 6) (c.arg 7)
    let other := ws.any fun w => !(w.f.addr == R.ET_INi_CFG_EN.addr && w.f.lo == 0) && s.get w.f w.i w.j != w.v % 2 ^ w.f.width
    need (R.ET_INi_CFG.ok (c.arg 2) && decide (1000 ≤ tmo) && decide (tmo ≤ 2 ^ 40) && R.ET_INi_PWIN.ok (c.arg 5)
      && R.ET_INi_GATE.ok (c.arg 6) && R.ET_INi_DLY.ok (c.arg 7) && s.intervalOk i (c.arg 2)) .badArg s <|
    need (!(s.on R.ET_INi_CFG_EN i && other)) .busy s <|
    writeCfg s ws fun t => done (t.etEnable i (s.on R.ET_INi_CFG_EN i))

/-- EVT_INPUT_CFG. -/
def execEvtInputCfg (r : Req) (s : State) : Host.Outcome State Fault Refusal :=
  .next (s.exchange (some cmdEvtInputCfg) cmdEvtInputCfg.op r)

/-- EVT.READ: the FIFO's semaphore is acquired for the length of the read (R272, R492). -/
def cmdEvtRead : Cmd where
  op := 0x1404
  any := true
  need := 1
  mode := evtMode
  entry _ := 32
  body c s :=
    let k := c.bits 1 4 0
    need (decide (1 ≤ k) && decide (k ≤ 15)) .badArg s <|
    underSem c s 32 33 <|
    let (ws, t) := s.etPopN k
    done t (ws.length / 4 :: ws)

/-- EVT_READ. -/
def execEvtRead (r : Req) (s : State) : Host.Outcome State Fault Refusal :=
  .next (s.exchange (some cmdEvtRead) cmdEvtRead.op r)

end Sys2Proof.Machine
end

