-- ==== Sys2Proof/Machine/Heartwood.lean ====
section
/-! DEFINITION. Heartwood: the pulses to the port dies, pairs, leap seconds, comparators, snapshots,
PPS, ToD and IRIG-B (R27, R46 to R62, R74, R77, R79). -/

namespace Sys2Proof.Machine

/-- Set every field of a register from a word. -/
def State.setWord (s : State) (r : Reg) (w : Nat) (i : Nat := 0) (j : Nat := 0) : State :=
  s.writes (r.fields.map fun f => { f := f, i := i, j := j, v := f.of w })

/-! ### Replicas (R27, R28, R98) -/

/-- A pulse of a timebase reaches a port die with the replica off by `err` units of 2^-16 ns beside the
steps it has not met. A replica that met a step, or stands more than 800 ps off, is reloaded. The pulse carries
its offset from the millisecond boundary and the time word of the boundary. -/
def State.pulse (s : State) (die n : Nat) (err : Int) : State :=
  let r := s.repOf die n
  let off := r.ofs + err * linUnit
  let far := decide (off.natAbs > 800 * 2 ^ 48)
  let boundary := msOf (s.time n) * (10 ^ 9 * 2 ^ 48)
  let s1 := s.emit (.pulse die n (units16 (s.time n) - units16 boundary) (timeWords boundary))
  let s1 := { s1 with hw := { s1.hw with pulseMs := Tab.put s1.hw.pulseMs (8 * die + n) (msOf (s.time n)) } }
  let save (t : State) (r : Replica) : State := { t with replica := Tab.put t.replica (8 * die + n) r }
  let ports := (List.range 24).map fun k => 24 * die + k
  if r.stale then
    let t := save s1 { r with ofs := 0, stale := false, stepSeq := (s.tbOf n).stepSeq, reloads := r.reloads + 1 }
    let t := if far then t.raise 45 (det2 die n) else t
    (t.schedAlign n ports).bwStep n
  else if far then
    let q := ((s.tbOf n).stepSeq + 1) % 16
    let t := save (s1.tbUpd n fun b => { b with stepSeq := q }) { r with stepSeq := q, reloads := r.reloads + 1 }
    (((t.raise 45 (det2 die n)).schedAlign n ports).bwStep n)
  else save s1 { r with stepSeq := (s.tbOf n).stepSeq }

/-- HEARTWOOD_PULSE (R27): at each whole millisecond of a timebase in use. -/
def execHeartwoodPulse (dt die tb : Nat) (err : Int) (s : State) : Host.Outcome State Fault Refusal :=
  let s := s.elapse dt
  .next (if die < 2 && s.pulseDue die (tb % 8) then s.pulse die (tb % 8) err else s)

/-! ### Pairs (R49 to R51) -/

/-- Change a pair. -/
def State.pairUpd (s : State) (k : Nat) (f : Pair → Pair) : State := { s with pair := Tab.upd {} s.pair k f }

/-- Milliseconds since the last offset sample of a pair (R49). -/
def State.sampleMs (s : State) (k : Nat) : Nat := (s.clk - (s.pairRec k).sampleAt) / 10 ^ 9

/-- An offset sample of an enabled pair is due: 1 ms has passed since the last. -/
def State.sampleDue (s : State) (k : Nat) : Bool := s.on R.HW_PAIRk_CFG_EN k && decide (0 < s.sampleMs k)

/-- Sample both members of a pair on one cycle and write the offset (R49). -/
def State.samplePair (s : State) (k : Nat) : State :=
  let p := s.get R.HW_PAIRk_CFG_PRIMARY k
  let h := s.get R.HW_PAIRk_CFG_SHADOW k
  let d : Int := sext 64 ((linear (s.time h) + 2 ^ 64 - linear (s.time p)) % 2 ^ 64)
  let c := s.pairConverging k
  ((s.rebasePair k).set64Z R.HW_PAIRk_OFS_LO_OFS R.HW_PAIRk_OFS_HI_OFS d k).pairUpd k fun r => { r with
    ofs := d, converging := c, sampleAt := r.sampleAt + 10 ^ 9 * s.sampleMs k }

/-- Largest offset of a switch: 1 s in 2^-16 ns (R51). -/
def switchMax : Nat := 10 ^ 9 * 65536

/-- The refusals of a switch request: BUSY while one awaits its sample or B converges, CHECK_FAIL for an
offset beyond 1 s (R51). -/
def State.switchRefusal (s : State) (k : Nat) : Option Status :=
  let r := s.pairRec k
  if r.awaiting.isSome || s.pairConverging k then some .busy
  else if r.ofs.natAbs > switchMax then some .checkFail else none

/-- Request a domain switch of a pair, with its cause: 0 command, 1 automatic. -/
def State.requestSwitch (s : State) (k cause : Nat) (mb : Option Nat) : State :=
  s.pairUpd k fun r => { r with awaiting := some cause, awaitMb := mb }

/-- The domain switch at an offset sample: B takes the offset away, the roles swap, and the outputs show
the same time (R51). APLLs that follow the pair take the new member (R217). OFS, in the register and in TIME.STATUS,
keeps this sample, taken with the old roles, until the next one; CONVERGE is read here alone (DESIGN CHOICE, log
entry 191). -/
def State.switchDomain (s : State) (k cause : Nat) : State :=
  let p := s.get R.HW_PAIRk_CFG_PRIMARY k
  let h := s.get R.HW_PAIRk_CFG_SHADOW k
  let b := s.buildOut k - ((s.time h : Int) - s.time p)
  let mb := (s.pairRec k).awaitMb
  let s1 := (s.set R.HW_PAIRk_CFG_PRIMARY h k).set R.HW_PAIRk_CFG_SHADOW p k
  let s2 := s1.pairUpd k fun r => { r with
    b := b, bAt := s.clk, converging := s.on R.HW_PAIRk_CFG_CONVERGE k && b != 0, awaiting := none, awaitMb := none
    lastSwitch := some (secsOf (addTime (s.time h) b)) }
  let s3 := s2.followSync
  let s4 := s3.raise 48 (det2 k cause)
  match mb with
  | some m => s4.respond m .ok []
  | none => s4

/-- What happens at an offset sample: the sample, and the switch that awaits it (R49, R51). -/
def State.pairTick (s : State) (k : Nat) : State :=
  let t := s.samplePair k
  match (s.pairRec k).awaiting with
  | some c => t.switchDomain k c
  | none => t

/-- PAIR_OFFSET_SAMPLE (R49): every 1 ms; a switch that awaits its sample is made with it (R51). -/
def execPairOffsetSample (dt k : Nat) (s : State) : Host.Outcome State Fault Refusal :=
  let s := s.elapse dt
  .next (if k < 4 && s.sampleDue k then s.pairTick k else s)

/-- DOMAIN_SWITCH (R51): at the first offset sample after the trigger. -/
def execDomainSwitch (dt k : Nat) (s : State) : Host.Outcome State Fault Refusal :=
  let s := s.elapse dt
  .next (if s.sampleDue (k % 4) && (s.pairRec (k % 4)).awaiting.isSome then s.pairTick (k % 4) else s)

/-- The other refusals of a pair operation at a register: the pair must be enabled. -/
def State.switchWrite (s : State) (k : Nat) : State :=
  if s.on R.HW_PAIRk_CFG_EN k && (s.switchRefusal k).isNone then s.requestSwitch k 0 none else s

/-- PAIR_SWITCH_WRITE (R77): SWITCH = 1 requests a domain switch. -/
def execPairSwitchWrite (init k : Nat) (s : State) : Host.Outcome State Fault Refusal :=
  .next (s.directWrite init (0x610000 + 4 * (k % 4)) [] fun s => s.switchWrite (k % 4))

/-! ### Leap seconds, frequency words and comparators -/

/-- LEAP_APPLIED (R46). -/
def execLeapApplied (dt tb : Nat) (s : State) : Host.Outcome State Fault Refusal :=
  .next ((s.elapse dt).applyLeaps (tb % 8))

/-- A frequency word of the DPLL reaches the timebase at a tick; the FREQ registers keep what the host wrote, and a read
answers the DPLL's word (R28, R38, R74). -/
def State.steerFreq (s : State) (n : Nat) (z : Int) : State :=
  s.tbUpd n fun t => { t with freqQ := t.freqQ ++ [(s.clk, z)] }

/-- The FREQ registers hold a word. -/
def State.hostFreq (s : State) (n : Nat) (z : Int) : State :=
  (s.cfgWrites [{ f := R.HW_TBn_FREQ_LO_FREQ, i := n, v := wrap 32 z },
    { f := R.HW_TBn_FREQ_HI_FREQ, i := n, v := wrap 40 z / 2 ^ 32 }]).tbUpd n fun t => { t with freqLo := wrap 32 z }

/-- FREQ becomes a word of the host, which reaches the timebase at a tick (R28, R74). -/
def State.takeFreq (s : State) (n : Nat) (z : Int) : State := (s.hostFreq n z).steerFreq n z

/-- A FREQ that TIME.ADJ_FREQ takes: ±500 ppm on an enabled timebase (R39, R88). -/
def State.freqOk (s : State) (n : Nat) (z : Int) : Bool := s.tbOn n && decide (z.natAbs ≤ 140737488355)

/-- The word that a write of FREQ_HI completes. -/
def State.freqJoin (s : State) (n v : Nat) : Int := sext 40 ((s.tbOf n).freqLo + v % 256 * 2 ^ 32)

/-- The write of FREQ_HI commits both halves while the host is the source, unless the command would refuse the
word (R74, R660). -/
def State.freqHi (s : State) (n v : Nat) : State :=
  if s.on R.HW_TBn_CTRL_SRC n && s.freqOk n (s.freqJoin n v) then s.takeFreq n (s.freqJoin n v) else s

/-- FREQ_HI_WRITE (R74). -/
def execFreqHiWrite (init tb v : Nat) (s : State) : Host.Outcome State Fault Refusal :=
  let n := tb % 8
  .next (s.directWrite init (0x610108 + 0x40 * n)
    (if s.on R.HW_TBn_CTRL_SRC n then [{ f := R.HW_TBn_FREQ_HI_FREQ, i := n, v := v % 256 }] else [])
    fun s => s.freqHi n v)

/-- WIDTH of every CMP-mode output that names comparator m stays below a period in µs (R56). -/
def State.widthFits (s : State) (m period : Nat) : Bool :=
  (List.range 4).all fun n => !(s.ppsCmpMode n && s.get R.HW_PPSn_CFG_CMP_NUM n == m)
    || decide (s.get R.HW_PPSn_WIDTH_WIDTH n < period)

/-- A write of a comparator's CTRL word. While armed no other field may change; setting ARM judges the
linear target by D alone and leaves ARM at 0 when it is refused (R79). -/
def State.cmpCtrl (s : State) (m w : Nat) : State :=
  let was := s.on R.HW_CMPm_CTRL_ARM m
  let arm := bitOf w 3
  let tb := bits w 2 0
  let changes := tb != s.get R.HW_CMPm_CTRL_TB m || bitOf w 4 != s.on R.HW_CMPm_CTRL_PERIODIC m
    || bitOf w 6 != s.on R.HW_CMPm_CTRL_ACT_EVENT m || bitOf w 7 != s.on R.HW_CMPm_CTRL_ACT_SNAP m
  let bad := (was && changes) || (bitOf w 4 && !s.widthFits m (s.get R.HW_CMPm_PER_PERIOD m))
    || (arm && !s.tbOn tb)
  if bad then s
  else
    let s1 := if bitOf w 16 then s.set R.HW_CMPm_CTRL_STEPPED 0 m else s
    let s1 := if bits w 15 8 != 0 then s1.set R.HW_CMPm_CTRL_SKIPPED (s1.get R.HW_CMPm_CTRL_SKIPPED m &&& (255 - bits w 15 8)) m else s1
    let ok := was || decide (linDist (s.cmpTarget m) (linear (s.time tb)) > 0)
    s1.writes [{ f := R.HW_CMPm_CTRL_TB, i := m, v := tb }, { f := R.HW_CMPm_CTRL_PERIODIC, i := m, v := bits w 4 4 },
      { f := R.HW_CMPm_CTRL_ACT_EVENT, i := m, v := bits w 6 6 }, { f := R.HW_CMPm_CTRL_ACT_SNAP, i := m, v := bits w 7 7 },
      { f := R.HW_CMPm_CTRL_ARM, i := m, v := b2n (arm && ok) }] |> fun t => if arm && ok && !was then t.cmpAim m tb else t

/-- CMP_ARM (R79): a write of HW_CMPm_CTRL. -/
def execCmpArm (init m w : Nat) (s : State) : Host.Outcome State Fault Refusal :=
  .next (s.directWrite init (0x610400 + 0x10 * (m % 32)) (R.HW_CMPm_CTRL.writes w (m % 32))
    fun s => s.cmpCtrl (m % 32) w)

/-- A comparator is armed on an enabled timebase that has reached its target. -/
def State.cmpDue (s : State) (m : Nat) : Bool :=
  let tb := s.get R.HW_CMPm_CTRL_TB m
  s.on R.HW_CMPm_CTRL_ARM m && s.tbOn tb && decide (s.cmpGoal m ≤ units16 (s.time tb))

/-- The edge of PPS output n for the instant at which comparator m reaches its target (R56). -/
def State.cmpEdge (s : State) (m n : Nat) : Int :=
  let tb := s.get R.HW_CMPm_CTRL_TB m
  s.edgeAt n tb (s.cmpGoal m * linUnit - s.time tb)

/-- CMP_FIRE (R52). -/
def execCmpFire (dt m : Nat) (s : State) : Host.Outcome State Fault Refusal :=
  let s := s.elapse dt
  .next (if s.cmpDue (m % 32) then s.fireCmp (m % 32) 1 (s.cmpEdge (m % 32)) else s)

/-! ### Snapshots (R53 to R55, R68) -/

/-- A write of TS_SNAP_CTRL. -/
def State.snapCtrl (s : State) (w : Nat) : State :=
  let s1 := s.set R.TS_SNAP_CTRL_TB_MASK (bits w 7 0)
  let s2 := if bitOf w 9 then s1.set R.TS_SNAP_CTRL_OVERRUN 0 else s1
  if bitOf w 31 then s2.capture (bits w 7 0) none else s2

/-- SNAP_CAPTURE (R53): a write of TS_SNAP_CTRL. -/
def execSnapCapture (init w : Nat) (s : State) : Host.Outcome State Fault Refusal :=
  .next (s.directWrite init 0x200000 [] fun s => s.snapCtrl w)

/-- A capture completes: the words, VALID and SEQ update together (R53). -/
def State.snapDone (s : State) : State :=
  let s1 := s.snap.words.foldl (fun s w =>
    (((s.set R.TS_SNAP_TBn_W0_W w.w0 w.tb).set R.TS_SNAP_TBn_W1_W w.w1 w.tb).set R.TS_SNAP_TBn_W2_W w.w2 w.tb).setWord
      R.TS_SNAP_TBn_STAT w.stat w.tb) s
  { (s1.set R.TS_SNAP_CTRL_BUSY 0).incWrap R.TS_SNAP_SEQ_SEQ with snap := {} }

/-- SNAP_COMPLETE (R53). -/
def execSnapComplete (dt : Nat) (s : State) : Host.Outcome State Fault Refusal :=
  let s := s.elapse dt
  .next (if s.on R.TS_SNAP_CTRL_BUSY then s.snapDone else s)

/-! ### PPS (R56 to R58) -/

/-- Emit a pulse on PPS output n with its leading edge at a clock. -/
def State.ppsPulse (s : State) (n sec : Nat) (edge : Int) : State :=
  (s.emit (.pps n sec edge (s.get R.HW_PPSn_WIDTH_WIDTH n) (s.get R.HW_PPSn_CFG_POL n))).ppsUpd n fun p =>
    { p with lastEdge := some edge, on := some edge }

/-- A second boundary of PPS output n in SECOND mode: emit its pulse, suppress it, with PPS_STEP where the second has had its
pulse or the last edge is too near, or stay squelched (R58). -/
def State.ppsBoundary (s : State) (n sec : Nat) : State :=
  let s1 := s.ppsUpd n fun p => { p with seen := sec }
  if s.ppsEmits n sec then
    (s1.ppsPulse n sec (s.ppsEdge n sec)).ppsUpd n fun p => { p with emitted := addRange p.emitted sec }
  else if s.ppsOpen n && s.get R.HW_PPSn_CFG_MODE n == 1 && (inRanges (s.ppsOf n).emitted sec
      || (!inRanges (s.ppsOf n).crossed sec && !s.ppsSpaced n (s.ppsEdge n sec))) then s1.raise 47 n
  else s1

/-- The pulse of a firing in CMP mode, at its edge. -/
def State.ppsFire (s : State) (n : Nat) (edge : Int) : State :=
  if s.ppsDrives n then s.ppsPulse n (secsOf (s.ppsPlain n)) edge else s

/-- A negative DLY places the pulse of the coming firing now (R56). -/
def State.ppsAhead (s : State) (n : Nat) : Bool :=
  let m := s.get R.HW_PPSn_CFG_CMP_NUM n
  s.ppsCmpMode n && s.on R.HW_CMPm_CTRL_ARM m && s.tbOn (s.ppsTb n) && decide (0 < s.ppsEarly n)
  && decide (s.cmpGoal m ≤ units16 (s.ppsTime n)) && (s.ppsOf n).early != some (s.cmpGoal m).toNat

/-- PPS_PULSE (R56, R58): a second boundary in SECOND mode; in CMP mode a firing, or the edge that a negative DLY places
before it. -/
def execPpsPulse (dt n : Nat) (s : State) : Host.Outcome State Fault Refusal :=
  let s := s.elapse dt
  let n := n % 4
  .next (if s.ppsCmpMode n then match (s.ppsOf n).due with
      | e :: rest => (s.ppsUpd n fun p => { p with due := rest }).ppsFire n e
      | [] =>
        if s.ppsAhead n then
          let m := s.get R.HW_PPSn_CFG_CMP_NUM n
          (s.ppsUpd n fun p => { p with early := some (s.cmpGoal m).toNat }).ppsFire n (s.cmpEdge m n)
        else s
    else if (s.ppsOf n).seen < secsOf (s.ppsTime n) then s.ppsBoundary n (secsOf (s.ppsTime n)) else s)

/-- PPS_PULSE_END (R56): the pulse lasts WIDTH. -/
def execPpsPulseEnd (dt n : Nat) (s : State) : Host.Outcome State Fault Refusal :=
  let s := s.elapse dt
  let n := n % 4
  .next (match (s.ppsOf n).on with
    | some e => if (s.clk : Int) ≥ e + (s.get R.HW_PPSn_WIDTH_WIDTH n * 10 ^ 6 : Nat) then
        s.ppsUpd n fun p => { p with on := none } else s
    | none => s)

/-! ### ToD (R59, R60) -/

/-- The 32 bytes of a ToD frame: its captured body with the sequence and the check. -/
def todBytes (body : List Byte) (seq : Nat) : List Byte :=
  let b := [0x4B, 0x5A, 0x01, 32] ++ body ++ leBytes 2 seq
  b ++ leBytes 2 (crc16 b)

/-- The ToD output is driven: it follows the clock-output role where TOD_CTL is set. -/
def State.todDriven (s : State) : Bool := s.roleLets (s.on R.RD_ROLE_CFG_TOD_CTL)

/-- TOD_FRAME (R59): OFFSET after its boundary, the oldest captured frame is sent, with OFFSET and BAUD as they stood at
the boundary (R94). -/
def execTodFrame (dt : Nat) (s : State) : Host.Outcome State Fault Refusal :=
  let s := s.elapse dt
  .next (match s.serial.frames with
    | f :: rest =>
      if (s.clk : Int) ≥ f.at_ + (f.offset * 10 ^ 9 : Nat) then
        let t := { s with serial := { s.serial with frames := rest } }
        if s.on R.HW_TOD_CFG_EN && s.todDriven then
          { t.emit (.tod f.baud (todBytes f.body s.serial.todSeq)) with
            serial := { t.serial with todSeq := (s.serial.todSeq + 1) % 65536 } }
        else t
      else s
    | [] => s)

/-! ### IRIG-B (R61, R62) -/

/-- A year is a leap year. -/
def leapYear (y : Nat) : Bool := y % 4 == 0 && (y % 100 != 0 || y % 400 == 0)

/-- The year and the day of the year, from 1, of a day counted from 1970-01-01, by the 400, 100, 4 and
1 year cycles of the calendar. -/
def civil (day : Nat) : Nat × Nat :=
  let d := day + 719162
  let q400 := d / 146097
  let r400 := d % 146097
  let q100 := if r400 / 36524 ≥ 4 then 3 else r400 / 36524
  let r100 := r400 - q100 * 36524
  let q4 := r100 / 1461
  let r4 := r100 % 1461
  let q1 := if r4 / 365 ≥ 4 then 3 else r4 / 365
  (400 * q400 + 100 * q100 + 4 * q4 + q1 + 1, r4 - q1 * 365 + 1)

/-- The error code of CF5 to CF8 (R62), EST_ERR in ps. -/
def irigErr (e : Nat) (free : Bool) : Nat :=
  if free || e > 10 ^ 12 then 15
  else ((List.range 11).find? fun k => decide (e ≤ 10 ^ (k + 2))).getD 15

/-- The BCD digits of a number, units in four bits and tens in `w`, least significant first. -/
def bcdBits (x w : Nat) : List Bool := (List.range 4).map (bitOf (x % 10)) ++ [false] ++ (List.range w).map (bitOf (x / 10 % 10))

/-- Some bits, filled with zeros to a length. -/
def fillBits (l : List Bool) (n : Nat) : List Bool := (List.range n).map fun k => l.getD k false

/-- The widths in ms of the 100 pulses of an IRIG-B frame: 8 for the reference marker and the position identifiers, 5 for a 1,
2 for a 0 (R61). The places of the fields are those of IRIG standard 200 (PRESUMED, log entry 192). -/
def irigWidths (year : Option Nat) (doy hour minute sec sbs : Nat) (cf : List Bool) : List Nat :=
  let groups := match year with
    | none => [fillBits cf 9, fillBits (cf.drop 9) 9, fillBits (cf.drop 18) 9]
    | some y => [fillBits (bcdBits y 4) 9, fillBits cf 9, fillBits (cf.drop 9) 9]
  let fields := [fillBits (bcdBits minute 3) 9, fillBits (bcdBits hour 2) 9, fillBits (bcdBits doy 4) 9,
    fillBits ((List.range 2).map (bitOf (doy / 100))) 9] ++ groups
    ++ [(List.range 9).map (bitOf sbs), fillBits ((List.range 8).map (bitOf (sbs / 512))) 9]
  [8] ++ (fillBits (bcdBits sec 3) 8).map (fun b => if b then 5 else 2) ++ [8]
    ++ fields.flatMap fun f => f.map (fun b => if b then 5 else 2) ++ [8]

/-- The IRIG-B frame of the second `sec` of the followed timebase. In a second 60 the straight-binary seconds are those of
the shown second modulo 86,400 (DESIGN CHOICE, log entry 193). -/
def State.irigFrame (s : State) (sec : Nat) (edge : Int) : Out :=
  let n := s.irigTb
  let sixty := s.isSecond60 n sec && !s.on R.HW_IRIG_CFG_SCALE
  let shown := if s.on R.HW_IRIG_CFG_SCALE then sec
    else ((sec : Int) - s.utcOfs n sec - (if sixty then 1 else 0)).toNat
  let (y, doy) := civil (shown / 86400)
  let sod := shown % 86400
  let (lp, ld) := s.leapPending n sec
  let st := s.dpllState n
  let e := irigErr (s.estErr n) (st == 3)
  let year := if s.on R.HW_IRIG_CFG_CODE then some y else none
  let cf := [lp, ld, (s.tbOf n).timeValid, st == 2, bitOf e 0, bitOf e 1, bitOf e 2, bitOf e 3, s.on R.HW_IRIG_CFG_SCALE]
  let ss := if sixty then 60 else sod % 60
  .irig edge (s.get R.HW_IRIG_CFG_CODE) (year.getD 0) doy (sod / 3600) (sod / 60 % 60) ss sod cf
    (irigWidths year doy (sod / 3600) (sod / 60 % 60) ss sod cf)

/-- The clock of the on-time edge of the frame of a second, with the delay of PPS0 (R61). -/
def State.irigEdge (s : State) (sec : Nat) : Int := s.edgeAt 0 s.irigTb ((sec * secUnit : Nat) - (s.irigPlain : Int))

/-- An IRIG-B frame may begin: enabled, driven, not squelched, not begun before, its boundary crossed by no step, and 0.5 s
after the last (R58, R61). -/
def State.irigBegins (s : State) (sec : Nat) : Bool :=
  s.on R.HW_IRIG_CFG_EN && s.roleLets (s.on R.RD_ROLE_CFG_IRIG_CTL)
  && !s.squelched s.irigTb (s.on R.HW_IRIG_CFG_FREE) (s.on R.HW_IRIG_CFG_HO_ACT)
  && !inRanges s.serial.irigEmitted sec && !inRanges s.serial.irigCrossed sec
  && (match s.serial.irigLast with | none => true | some c => decide (s.irigEdge sec ≥ c + 500000000000))

/-- The frame of a second begins. -/
def State.irigSend (s : State) (sec : Nat) : State :=
  { s.emit (s.irigFrame sec (s.irigEdge sec)) with serial := { s.serial with
      irigOn := some (s.irigEdge sec), irigLast := some (s.irigEdge sec), irigEmitted := addRange s.serial.irigEmitted sec } }

/-- IRIG_FRAME (R61): a frame begins at each second boundary crossed by running. -/
def execIrigFrame (dt : Nat) (s : State) : Host.Outcome State Fault Refusal :=
  let s := s.elapse dt
  let sec := secsOf s.irigTime
  .next (if s.serial.irigSeen < sec then
      let t := { s with serial := { s.serial with irigSeen := sec, irigOn := none } }
      if s.irigBegins sec then t.irigSend sec else t
    else s)

end Sys2Proof.Machine
end

