-- ==== Sys2Proof/Machine/TimeCmds.lean ====
section
/-! DEFINITION. The TIME command group of Heartwood (R83 to R94). -/

namespace Sys2Proof.Machine

/-- A signed 64-bit value as two response words, low first. -/
def words64 (z : Int) : List Nat := [wrap 64 z % 2 ^ 32, wrap 64 z / 2 ^ 32]

/-- The signed 64-bit value of two argument words. -/
def Ctx.int64 (c : Ctx) (k : Nat) : Int := sext 64 (c.arg k % 2 ^ 32 + 2 ^ 32 * (c.arg (k + 1) % 2 ^ 32))

/-- A timing session of a domain is open or suspended (R48). -/
def State.domainOpen (s : State) (d : Nat) : Bool := s.sessions.any fun e => e.1 % 256 == d

/-- The timebase a domain maps to (R33, R48, R82). -/
def State.domainTb (s : State) (d : Nat) : Option Nat :=
  let e := bits (s.get R.HW_DOMMAPj_MAP (d / 8)) (4 * (d % 8) + 3) (4 * (d % 8))
  if e ≥ 8 then some (e - 8) else none

/-- A timebase that may not be disabled: the line timebase, a member of an enabled pair, the target of a
domain mapping, the timebase of an enabled output or of an armed comparator (R39). -/
def State.tbInUse (s : State) (n : Nat) : Bool :=
  n == s.lineTb || (s.pairOf n).isSome
  || ((List.range 256).any fun d => s.domainTb d == some n)
  || ((List.range 4).any fun k => s.get R.HW_PPSn_CFG_MODE k != 0
      && (if s.ppsCmpMode k then s.ppsTb k else s.get R.HW_PPSn_CFG_TB k) == n)
  || (s.on R.HW_TOD_CFG_EN && s.todTb == n) || (s.on R.HW_IRIG_CFG_EN && s.get R.HW_IRIG_CFG_TB == n)
  || ((List.range 32).any fun m => s.on R.HW_CMPm_CTRL_ARM m && s.get R.HW_CMPm_CTRL_TB m == n)

/-- Stop the schedule of a port: every class opens (R373). -/
def State.stopSchedule (s : State) (p : Nat) : State :=
  let t := (s.set R.SC_Pp_STAT_RUN 0 p).set R.SC_Pp_STAT_PENDING 0 p
  { t with sched := Tab.upd {} t.sched p fun c => { c with commit := none } }.foPoll

/-- A timebase is disabled: its DPLL falls to FREERUN with its history and lock time reset, its error is
unknown, and the schedules that run on it stop with SCHED_ALIGN, a pending commit being cancelled
(R154, R175, R373). The event timer loses its reference (R265). -/
def State.disableTb (s : State) (n : Nat) : State :=
  let w : Int := match (if s.warm then s.ocxoRec else none) with | some r => Int.tdiv (r * 2 ^ 48) (10 ^ 12) | none => 0
  let s1 := s.dpllUpd n fun d => { ({} : Dpll) with word := w, base := w, ocxoRef := s.tr.ocxoOfs, prio := d.prio }
  let s1 := if s.on R.HW_TBn_CTRL_SRC n then s1 else s1.tbUpd n fun b => { b with freq := w, freqQ := [] }
  let s1 := { s1 with tr := { s1.tr with disputes := s1.tr.disputes.filter fun d => d.n != n || d.resolved } }
  let was := s.dpllState n
  let s2 := (s1.set R.TR_DPLLn_STAT_STATE 3 n).writes
    [{ f := R.TR_DPLLn_STAT_HOQ, i := n, v := 0 }, { f := R.TR_DPLLn_LOCKT_LOCK_TIME, i := n, v := 0 },
     { f := R.TR_DPLLn_STAT_BO_HELD, i := n, v := 0 }, { f := R.TR_DPLLn_STAT_BW_CLAMPED, i := n, v := 0 },
     { f := R.TR_DPLLn_BO_LO_BO, i := n, v := 0 }, { f := R.TR_DPLLn_BO_HI_BO, i := n, v := 0 },
     { f := R.TR_DPLLn_QOUT_CLASS, i := n, v := s.get R.TR_DPLLn_HOQ_FREE_CLASS n },
     { f := R.TR_DPLLn_QOUT_ACCURACY, i := n, v := 0xFE }, { f := R.TR_DPLLn_QOUT_VARIANCE, i := n, v := 0xFFFF }]
  let s3 := if was ≠ 3 then s2.raise n (det2 3 (s.get R.TR_DPLLn_STAT_ACTIVE n)) else s2
  let s4 := ((List.range 48).filter fun p => s3.get R.SC_Pp_CFG_TB p == n).foldl (fun s p =>
    let t := if s.on R.SC_Pp_STAT_PENDING p then
      (s.set R.SC_Pp_STAT_CANCELLED 1 p).raise 77 (det2 p 1) else s
    if t.on R.SC_Pp_STAT_RUN p then (t.stopSchedule p).raise 78 p else t.stopSchedule p) s3
  (s4.judgeTime n).etRef

/-- The HW_TBn_CTRL, SLEW and limit fields take new values. A build-out that converges is taken down before the rate changes;
an enabled timebase sends its pulses from here on; a DPLL that becomes the source has its word in force (R38), and a host
that becomes it finds the DPLL's word in FREQ (DESIGN CHOICE, log entry 199). -/
def State.tbCtrl (s : State) (n : Nat) (ws : List FieldWrite) : State :=
  let s := match s.pairOf n with
    | some k => s.rebasePair k
    | none => s
  let was := s.tbOn n
  let t := s.cfgWrites ws
  let t := if was && !t.tbOn n then t.disableTb n else if !was && t.tbOn n then t.pulseHere n else t
  let t := if s.on R.HW_TBn_CTRL_SRC n && !t.on R.HW_TBn_CTRL_SRC n then t.steerFreq n (t.dpllOf n).word
    else if !s.on R.HW_TBn_CTRL_SRC n && t.on R.HW_TBn_CTRL_SRC n then t.hostFreq n (t.dpllOf n).word
    else t
  (t.judgeTime n).etRef

/-- TIME.STATUS (R84). FREQ is the word in force, so that a new word is answered from its tick on, and PENDING is rounded
toward zero (DESIGN CHOICE, log entry 194). -/
def cmdTimeStatus : Cmd where
  op := 0x1001
  any := true
  acts := false
  need := 1
  entry a := 19 + a.getD 0 0 % 8
  body c s :=
    let n := c.bits 1 2 0
    let t := s.tbOf n
    let st := s.dpllState n
    let k := s.pairOf n
    let flags := b2n (s.tbOn n) + 2 * s.get R.HW_TBn_CTRL_SRC n + 4 * st + 16 * b2n t.timeValid
      + 32 * b2n (st == 2) + 64 * b2n t.slewing + 128 * b2n t.depthExceeded + 256 * b2n k.isSome
      + 512 * b2n (match k with | some k => s.pairActive k == n | none => false)
      + 1024 * s.get R.HW_TBn_CTRL_STEP_ALLOW n
    done s ([flags, satN (2 ^ 32 - 1) (s.estErr n)] ++ words64 (Int.tdiv t.pendingCorr linUnit)
      ++ words64 t.freq ++ words64 (match k with | some k => (s.pairRec k).ofs | none => 0)
      ++ [s.get R.HW_TBn_UTC_UTC_OFS n])

/-- TIME_STATUS. -/
def execTimeStatus (r : Req) (s : State) : Host.Outcome State Fault Refusal :=
  .next (s.exchange (some cmdTimeStatus) cmdTimeStatus.op r)

/-- TIME.TB_CFG (R85). -/
def cmdTimeTbCfg : Cmd where
  op := 0x1002
  need := 4
  entry a := 19 + a.getD 0 0 % 8
  body c s :=
    let n := c.bits 1 2 0
    let ok := R.HW_TBn_SLEW.ok (c.arg 2) && R.HW_TBn_STEP_THR.ok (c.arg 3) && R.HW_TBn_HO_LIMIT.ok (c.arg 4)
    let ws := [({ f := R.HW_TBn_CTRL_EN, i := n, v := c.bits 1 3 3 } : FieldWrite),
        { f := R.HW_TBn_CTRL_SRC, i := n, v := c.bits 1 4 4 }, { f := R.HW_TBn_CTRL_STEP_ALLOW, i := n, v := c.bits 1 5 5 }]
      ++ R.HW_TBn_SLEW.writes (c.arg 2) n ++ R.HW_TBn_STEP_THR.writes (c.arg 3) n
      ++ R.HW_TBn_HO_LIMIT.writes (c.arg 4) n
    need ok .badArg s <| need (!(s.tbOn n && !c.bit 1 3 && s.tbInUse n)) .busy s <|
      match ws.find? s.cmdLocked with
      | some _ => writeCfg s ws done
      | none => done (s.tbCtrl n ws)

/-- TIME_TB_CFG. -/
def execTimeTbCfg (r : Req) (s : State) : Host.Outcome State Fault Refusal :=
  .next (s.exchange (some cmdTimeTbCfg) cmdTimeTbCfg.op r)

/-- A host step is allowed: STEP_ALLOW, or no valid time (R43, R44). -/
def State.hostStepOk (s : State) (n : Nat) : Bool :=
  s.on R.HW_TBn_CTRL_STEP_ALLOW n || !(s.tbOf n).timeValid

/-- TIME.SET (R44, R86). -/
def cmdTimeSet : Cmd where
  op := 0x1003
  need := 4
  entry a := 19 + a.getD 0 0 % 8
  body c s :=
    let n := c.bits 1 2 0
    match wordsTime (c.arg 2) (c.arg 3) (c.arg 4) with
    | none => fail s .badArg
    | some t => need (s.tbOn n) .badArg s <|
        need (s.on R.HW_TBn_CTRL_SRC n && s.hostStepOk n) .notInMode s <|
        unlessLocked s (19 + n) <| done (s.stepTb n ((t : Int) - s.time n))

/-- TIME_SET. -/
def execTimeSet (r : Req) (s : State) : Host.Outcome State Fault Refusal :=
  .next (s.exchange (some cmdTimeSet) cmdTimeSet.op r)

/-- TIME.ADJ_PHASE (R38, R44, R87). BUSY is judged on the pair of the named timebase alone (DESIGN CHOICE, log entry 195). -/
def cmdTimeAdjPhase : Cmd where
  op := 0x1004
  need := 3
  entry a := 19 + a.getD 0 0 % 8
  body c s :=
    let n := c.bits 1 2 0
    let d := c.int64 2
    need (s.tbOn n && decide (d.natAbs ≤ 10 ^ 9 * 65536)) .badArg s <|
    need (s.on R.HW_TBn_CTRL_SRC n && (!c.bit 1 8 || s.hostStepOk n)) .notInMode s <|
    need (!s.corrRefused n (d * linUnit)) .badArg s <|
    need (match s.pairOf n with | some k => (s.pairRec k).awaiting.isNone | none => true) .busy s <|
    unlessLocked s (19 + n) <| done (s.correct n (d * linUnit) false (c.bit 1 8))

/-- TIME_ADJ_PHASE. -/
def execTimeAdjPhase (r : Req) (s : State) : Host.Outcome State Fault Refusal :=
  .next (s.exchange (some cmdTimeAdjPhase) cmdTimeAdjPhase.op r)

/-- TIME.ADJ_FREQ (R38, R88). -/
def cmdTimeAdjFreq : Cmd where
  op := 0x1005
  need := 3
  entry a := 19 + a.getD 0 0 % 8
  body c s :=
    let n := c.bits 1 2 0
    let z := c.int64 2
    need (s.freqOk n z) .badArg s <|
    need (s.on R.HW_TBn_CTRL_SRC n) .notInMode s <|
    writeCfg s [{ f := R.HW_TBn_FREQ_LO_FREQ, i := n, v := wrap 32 z },
      { f := R.HW_TBn_FREQ_HI_FREQ, i := n, v := wrap 40 z / 2 ^ 32 }] fun t => done (t.takeFreq n z)

/-- TIME_ADJ_FREQ. -/
def execTimeAdjFreq (r : Req) (s : State) : Host.Outcome State Fault Refusal :=
  .next (s.exchange (some cmdTimeAdjFreq) cmdTimeAdjFreq.op r)

/-- The offset in force just before a second: that of the latest earlier valid entry other than `k`, and
otherwise UTC_OFS (R47). -/
def State.ofsBefore (s : State) (n k sec : Nat) : Int :=
  match (List.range 4).foldl (fun (b : Option Nat) j =>
    if j = k ∨ s.leapSec n j = 0 ∨ s.leapSec n j ≥ sec then b else match b with
      | none => some j
      | some i => if s.leapSec n j > s.leapSec n i then some j else b) none with
  | none => s.getZ R.HW_TBn_UTC_UTC_OFS n
  | some j => s.getZ R.HW_TBn_LEAPk_B_NEW_OFS n j

/-- A leap entry that R47 allows. -/
def State.leapOk (s : State) (n k sec ofs : Nat) : Bool :=
  sec != 0 && decide ((sext 16 ofs - s.ofsBefore n k sec).natAbs = 1) && decide (((sec : Int) - sext 16 ofs) % 86400 = 0)

/-- TIME.UTC (R47, R89). -/
def cmdTimeUtc : Cmd where
  op := 0x1006
  need := 1
  entry a := 19 + a.getD 0 0 % 8
  body c s :=
    let n := c.bits 1 2 0
    let k := c.bits 1 9 8
    let ofs := c.bits 2 15 0
    let sec := c.arg 3 % 2 ^ 32 + 2 ^ 32 * c.bits 4 15 0
    let entry (sec ofs : Nat) : List FieldWrite := [{ f := R.HW_TBn_LEAPk_A_SEC, i := n, j := k, v := sec % 2 ^ 32 },
      { f := R.HW_TBn_LEAPk_B_SEC, i := n, j := k, v := sec / 2 ^ 32 }, { f := R.HW_TBn_LEAPk_B_NEW_OFS, i := n, j := k, v := ofs }]
    need (s.tbOn n) .badArg s <|
    match c.bits 1 5 4 with
    | 0 => need (decide (2 ≤ c.args.length)) .badArg s <|
        writeCfg s [{ f := R.HW_TBn_UTC_UTC_OFS, i := n, v := ofs }] done
    | 1 => need (decide (4 ≤ c.args.length) && s.leapOk n k sec ofs) .badArg s <|
        writeCfg s (entry sec ofs) done
    | 2 => writeCfg s (entry 0 0) done
    | _ => fail s .badArg

/-- TIME_UTC. -/
def execTimeUtc (r : Req) (s : State) : Host.Outcome State Fault Refusal :=
  .next (s.exchange (some cmdTimeUtc) cmdTimeUtc.op r)

/-- TIME.DOMAIN_MAP (R48, R90). Unmapping clears the entry's timebase too and does not look at TB (DESIGN CHOICE, log entry
196). -/
def cmdTimeDomainMap : Cmd where
  op := 0x1007
  need := 1
  entry _ := 27
  body c s :=
    let d := c.bits 1 7 0
    let tb := c.bits 1 10 8
    let j := d / 8
    let w := s.get R.HW_DOMMAPj_MAP j
    let e := if c.bit 1 11 then 8 + tb else 0
    let v := w - bits w (4 * (d % 8) + 3) (4 * (d % 8)) * 2 ^ (4 * (d % 8)) + e * 2 ^ (4 * (d % 8))
    need (!c.bit 1 11 || s.tbOn tb) .badArg s <| need (!s.domainOpen d) .busy s <|
    writeCfg s [{ f := R.HW_DOMMAPj_MAP, i := j, v := v }] done

/-- TIME_DOMAIN_MAP. -/
def execTimeDomainMap (r : Req) (s : State) : Host.Outcome State Fault Refusal :=
  .next (s.exchange (some cmdTimeDomainMap) cmdTimeDomainMap.op r)

/-- A pair's record starts afresh: a switch that awaits its sample does not take place, and the command that asked for it is
answered CHECK_FAIL (DESIGN CHOICE, log entry 197). -/
def State.freshPair (s : State) (k : Nat) : State :=
  let mb := (s.pairRec k).awaitMb
  let t := s.pairUpd k fun _ => { sampleAt := s.clk, bAt := s.clk }
  match mb with
  | some m => t.respond m .checkFail []
  | none => t

/-- A pair is disabled: B becomes 0 and the outputs that followed it follow the timebases they name, which is a step of the
outputs unless they do not move (R91). -/
def State.disablePair (s : State) (k : Nat) : State :=
  (((s.cfgWrites [{ f := R.HW_PAIRk_CFG_EN, i := k, v := 0 }]).freshPair k).outputsMoved s).followSync

/-- TIME.PAIR (R49, R51, R91). Setting up a pair, or giving it other members, starts with B = 0; outputs that move by it are
handled as R91 handles those of a pair that is disabled. A switch of a pair that is not enabled is BAD_ARG, and its disabling
changes nothing and is OK (DESIGN CHOICE, log entry 197). -/
def cmdTimePair : Cmd where
  op := 0x1008
  need := 1
  entry _ := 27
  body c s :=
    let k := c.bits 1 1 0
    let p := c.bits 1 6 4
    let h := c.bits 1 10 8
    match c.bits 1 3 2 with
    | 0 =>
      let free (n : Nat) : Bool := match s.pairOf n with | some j => j == k | none => true
      need (p != h && s.tbOn p && s.tbOn h && free p && free h) .badArg s <|
      writeCfg s [{ f := R.HW_PAIRk_CFG_PRIMARY, i := k, v := p }, { f := R.HW_PAIRk_CFG_SHADOW, i := k, v := h },
        { f := R.HW_PAIRk_CFG_AUTO, i := k, v := c.bits 1 12 12 }, { f := R.HW_PAIRk_CFG_CONVERGE, i := k, v := c.bits 1 13 13 },
        { f := R.HW_PAIRk_CFG_EN, i := k, v := 1 }] fun t =>
        done (if s.on R.HW_PAIRk_CFG_EN k && s.get R.HW_PAIRk_CFG_PRIMARY k == p && s.get R.HW_PAIRk_CFG_SHADOW k == h
          then t else ((t.freshPair k).outputsMoved s).followSync)
    | 1 => need (!s.pairConverging k) .busy s <|
        writeCfg s [{ f := R.HW_PAIRk_CFG_EN, i := k, v := 0 }] fun _ =>
          done (if s.on R.HW_PAIRk_CFG_EN k then s.disablePair k else s)
    | 2 => need (s.on R.HW_PAIRk_CFG_EN k) .badArg s <|
        (match s.switchRefusal k with
         | some e => fail s e
         | none => unlessLocked s 27 { st := s.requestSwitch k 0 c.mb, wait := true })
    | _ => fail s .badArg

/-- TIME_PAIR. -/
def execTimePair (r : Req) (s : State) : Host.Outcome State Fault Refusal :=
  .next (s.exchange (some cmdTimePair) cmdTimePair.op r)

/-- How a target time word is judged against a timebase (R41): BAD_ARG 2^47 ns or more after the present or more than that
before it, STALE_TIME at or before the present, and otherwise its linear time. A target exactly 2^47 ns before the present is
BAD_ARG by R9 and STALE_TIME by R41, to which R9 refers for the tests in full: R41 is followed (DESIGN CHOICE, log entry
190). -/
def State.judgeTarget (s : State) (tb : Nat) (w0 w1 w2 : Nat) : Nat ⊕ Status :=
  match wordsTime w0 w1 w2 with
  | none => .inr .badArg
  | some t =>
    if !nearTime t (s.time tb) then .inr .badArg
    else if units16 t ≤ units16 (s.time tb) then .inr .staleTime else .inl (linear t)

/-- TIME.CMP (R41, R56, R92). -/
def cmdTimeCmp : Cmd where
  op := 0x1009
  need := 1
  entry _ := 27
  body c s :=
    let m := c.bits 1 4 0
    let tb := c.bits 1 7 5
    if !c.bit 1 8 then writeCfg s [{ f := R.HW_CMPm_CTRL_ARM, i := m, v := 0 }] done
    else
      need (decide (5 ≤ c.args.length) && s.tbOn tb && R.HW_CMPm_PER.ok (c.arg 5)
        && (!c.bit 1 9 || s.widthFits m (c.bits 5 29 0))) .badArg s <|
      match s.judgeTarget tb (c.arg 2) (c.arg 3) (c.arg 4) with
      | .inr e => fail s e
      | .inl l => writeCfg s [{ f := R.HW_CMPm_CTRL_TB, i := m, v := tb }, { f := R.HW_CMPm_CTRL_PERIODIC, i := m, v := c.bits 1 9 9 },
          { f := R.HW_CMPm_CTRL_ACT_EVENT, i := m, v := c.bits 1 10 10 }, { f := R.HW_CMPm_CTRL_ACT_SNAP, i := m, v := c.bits 1 11 11 },
          { f := R.HW_CMPm_PER_PERIOD, i := m, v := c.bits 5 29 0 }, { f := R.HW_CMPm_TGT_LO_TGT, i := m, v := l % 2 ^ 32 },
          { f := R.HW_CMPm_TGT_HI_TGT, i := m, v := l / 2 ^ 32 }, { f := R.HW_CMPm_CTRL_ARM, i := m, v := 1 }]
          fun t => done (t.cmpAim m tb)

/-- TIME_CMP. -/
def execTimeCmp (r : Req) (s : State) : Host.Outcome State Fault Refusal :=
  .next (s.exchange (some cmdTimeCmp) cmdTimeCmp.op r)

/-- After a change of the outputs' configuration: an output whose time or mode is another starts where its time stands. -/
def State.restartOutputs (s pre : State) : State :=
  let t := (List.range 4).foldl (fun s n =>
    if pre.ppsTime n != s.ppsTime n || pre.get R.HW_PPSn_CFG_MODE n != s.get R.HW_PPSn_CFG_MODE n then
      s.ppsUpd n fun p => { p with seen := s.ppsHere n, due := [], early := none }
    else s) s
  let t := if pre.todTime != t.todTime || pre.on R.HW_TOD_CFG_EN != t.on R.HW_TOD_CFG_EN then
    { t with serial := { t.serial with todSeen := secsOf t.todTime } } else t
  if pre.irigTime != t.irigTime || pre.on R.HW_IRIG_CFG_EN != t.on R.HW_IRIG_CFG_EN then
    { t with serial := { t.serial with irigSeen := t.irigHere } } else t

/-- WIDTH of an output in CMP mode stays below the period of a periodic comparator (R56). -/
def State.widthOk (s : State) (m width : Nat) : Bool :=
  !s.on R.HW_CMPm_CTRL_PERIODIC m || decide (width < s.get R.HW_CMPm_PER_PERIOD m)

/-- TIME.PPS (R56, R93). In CMP mode TB is unused and may name a disabled timebase (R80). -/
def cmdTimePps : Cmd where
  op := 0x100A
  need := 3
  entry _ := 28
  body c s :=
    let n := c.bits 1 1 0
    let m := c.bits 1 11 7
    let mode := c.bits 1 3 2
    need (decide (mode ≤ 2) && R.HW_PPSn_WIDTH.ok (c.arg 2) && decide ((sext 32 (c.arg 3)).natAbs ≤ 100000)
      && (mode == 2 || s.tbOn (c.bits 1 6 4)) && (mode != 2 || s.widthOk m (c.bits 2 18 0))) .badArg s <|
    writeCfg s [{ f := R.HW_PPSn_CFG_MODE, i := n, v := mode }, { f := R.HW_PPSn_CFG_TB, i := n, v := c.bits 1 6 4 },
      { f := R.HW_PPSn_CFG_CMP_NUM, i := n, v := m }, { f := R.HW_PPSn_CFG_POL, i := n, v := c.bits 1 12 12 },
      { f := R.HW_PPSn_CFG_PPS_FREE, i := n, v := c.bits 1 13 13 }, { f := R.HW_PPSn_CFG_HO_ACT, i := n, v := c.bits 1 14 14 },
      { f := R.HW_PPSn_WIDTH_WIDTH, i := n, v := c.bits 2 18 0 }, { f := R.HW_PPSn_DLY_DLY, i := n, v := c.arg 3 }]
      fun t => done (t.restartOutputs s)

/-- TIME_PPS. -/
def execTimePps (r : Req) (s : State) : Host.Outcome State Fault Refusal :=
  .next (s.exchange (some cmdTimePps) cmdTimePps.op r)

/-- TIME.SERIAL (R94). Its IRIG word names a timebase, which must be enabled (R39); its ToD word names a PPS output, whose
timebase it does not look at (DESIGN CHOICE, log entry 198). -/
def cmdTimeSerial : Cmd where
  op := 0x100B
  need := 2
  entry _ := 28
  body c s :=
    need (R.HW_TOD_CFG.ok (c.arg 1) && R.HW_IRIG_CFG.ok (c.arg 2) && s.tbOn (c.bits 2 6 4)) .badArg s <|
    writeCfg s (R.HW_TOD_CFG.writes (c.arg 1) ++ R.HW_IRIG_CFG.writes (c.arg 2)) fun t => done (t.restartOutputs s)

/-- TIME_SERIAL. -/
def execTimeSerial (r : Req) (s : State) : Host.Outcome State Fault Refusal :=
  .next (s.exchange (some cmdTimeSerial) cmdTimeSerial.op r)

end Sys2Proof.Machine
end

