-- ==== Sys2Proof/Machine/Taproot.lean ====
section
/-! DEFINITION. Taproot: monitors, qualification, ranking, disputes, the DPLL state machine, the loop
words and holdover (R142 to R176). -/

namespace Sys2Proof.Machine

/-! ### Slots and candidates -/

/-- A port-derived slot, a GNSS slot (R142). -/
def portSlot (i : Nat) : Bool := decide (8 ≤ i) && decide (i < 14)
def gnssSlot (i : Nat) : Bool := decide (14 ≤ i)

/-- The session, port and domain, that a port-derived slot names (R143). -/
def State.slotKey (s : State) (i : Nat) : Nat := 256 * s.get R.TR_SLOTs_CFG_PORT i + s.get R.TR_SLOTs_CFG_DOMAIN i

/-- The Node ID that a port's partner gave in its HELLO. -/
def State.helloNode (s : State) (p : Nat) : Option Nat := (Tab.get ({} : Lane) s.lane (laneOf p)).hello.map Hello.node

/-- The partner of a port announces this device's own Node ID, by HELLO or by CAP (R32). -/
def State.nodeLoop (s : State) (p : Nat) : Bool :=
  s.helloNode p == some s.nodeId || (Tab.get ({} : Port) s.port p).loop

/-- The priority of a slot for a DPLL, as it stood at the last tick (R192). -/
def State.prio (s : State) (n i : Nat) : Nat := bits (s.dpllOf n).prio (4 * i + 3) (4 * i)

/-- The priorities written take effect at a tick (R192). -/
def State.takePrio (s : State) : State :=
  (List.range 8).foldl (fun s n => s.dpllUpd n fun d => { d with
    prio := s.get R.TR_DPLLn_PRIO_LO_PRIO n + 2 ^ 32 * s.get R.TR_DPLLn_PRIO_HI_PRIO n }) s

/-- A slot is a candidate for a DPLL (R150); in ISLAND no port-derived slot is (R143), and none of a port whose partner
announces this device's own Node ID (R32). -/
def State.candidate (s : State) (n i : Nat) : Bool :=
  s.on R.TR_SLOTs_CFG_EN i && s.on R.TR_SLOTs_STAT_QUALIFIED i && !s.on R.TR_SLOTs_STAT_WTR_RUN i
  && s.prio n i != 15 && !(portSlot i && (s.mode == 3 || s.nodeLoop (s.get R.TR_SLOTs_CFG_PORT i)))
  && !s.on R.TR_SLOTs_STAT_EXCLUDED i

/-- The ranking of two candidates of a DPLL (R151). -/
def State.better (s : State) (n a b : Nat) : Bool :=
  let cls (i : Nat) := s.get R.TR_SLOTs_QUAL_CLASS i
  let acc (i : Nat) := s.get R.TR_SLOTs_QUAL_ACCURACY i
  let act := if s.dpllState n = 0 then some (s.get R.TR_DPLLn_STAT_ACTIVE n) else none
  if cls a ≠ cls b then decide (cls a < cls b)
  else if acc a ≠ acc b then decide (acc a < acc b)
  else if s.prio n a ≠ s.prio n b then decide (s.prio n a < s.prio n b)
  else if act = some a then true
  else if act = some b then false
  else decide (a < b)

/-- The best candidate of a DPLL (R151). -/
def State.best (s : State) (n : Nat) : Option Nat :=
  (List.range 16).foldl (fun b i => if !s.candidate n i then b else match b with
    | none => some i
    | some j => if s.better n i j then some i else b) none

/-- Bring the CAND bits and WTR_REMAIN of every slot up to date (R181). -/
def State.slotSync (s : State) : State :=
  (List.range 16).foldl (fun s i =>
    let m := (List.range 8).foldl (fun a n => a + b2n (s.candidate n i) * 2 ^ n) 0
    let left := match (s.slotOf i).wtrStart with
      | some t => (t + (s.slotOf i).wtrLen - s.clk + 10 ^ 12 - 1) / 10 ^ 12
      | none => 0
    (s.set R.TR_SLOTs_STAT_CAND m i).set R.TR_SLOTs_STAT_WTR_REMAIN left i) s

/-! ### Timing depth (R65, R116) -/

/-- The timing depth of a timebase: one more than the partner's where its selected reference is
port-derived, and otherwise 0 (R116). -/
def State.depthOf (s : State) (n : Nat) : Nat :=
  let i := if s.dpllState n = 0 then s.get R.TR_DPLLn_STAT_ACTIVE n else s.get R.TR_DPLLn_STAT_TARGET n
  if (s.dpllState n = 0 ∨ s.dpllState n = 1) ∧ portSlot i then
    match Tab.find? s.sessions (s.slotKey i) with
    | some e => (if e.cap.isSome then e.capDepth else e.steps) + 1
    | none => 0
  else 0

/-- Judge DEPTH_EXCEEDED of a timebase, raising its event on a change (R65). -/
def State.judgeDepth (s : State) (n : Nat) : State :=
  let v := s.tbOn n && decide (32 < s.depthOf n)
  if v != (s.tbOf n).depthExceeded then (s.tbUpd n fun t => { t with depthExceeded := v }).raise 53 (det2 n (b2n v)) else s

/-- Judge DEPTH_EXCEEDED of every timebase. -/
def State.judgeDepths (s : State) : State := (List.range 8).foldl (fun s n => s.judgeDepth n) s

/-! ### Qualification (R146 to R149) -/

/-- The DPLLs that take a slot's phase: locked on it, or switching to it. -/
def State.usersOf (s : State) (i : Nat) : List Nat :=
  (List.range 8).filter fun n => s.tbOn n
    && ((s.dpllState n == 0 && s.get R.TR_DPLLn_STAT_ACTIVE n == i)
      || (s.dpllState n == 1 && s.get R.TR_DPLLn_STAT_TARGET n == i))

/-- A slot loses its qualification, and its wait-to-restore with it. -/
def State.unqualify (s : State) (i : Nat) : State :=
  let t := (s.slotUpd i fun k => { k with wtrStart := none }).set R.TR_SLOTs_STAT_WTR_RUN 0 i
  let t := if s.on R.TR_SLOTs_STAT_QUALIFIED i then
      (t.set R.TR_SLOTs_STAT_QUALIFIED 0 i).raise 54 (det2 i 0) else t
  t.slotSync

/-- A slot qualifies: a wait-to-restore starts unless this is its first qualification, and the first
qualification of the device starts the settle window (R148, R149, R160). -/
def State.qualify (s : State) (i : Nat) : State :=
  let k := s.slotOf i
  let wtr := s.get R.TR_GLOBAL_CFG_WTR * 10 ^ 12
  let t := (s.set R.TR_SLOTs_STAT_QUALIFIED 1 i).raise 54 (det2 i 1)
  let t := if k.everQual && wtr != 0 then
      (t.slotUpd i fun k => { k with wtrStart := some s.clk, wtrLen := wtr }).set R.TR_SLOTs_STAT_WTR_RUN 1 i
    else t.slotUpd i fun k => { k with everQual := true }
  let t := if t.tr.settleFrom.isNone && !t.tr.settleDone then
      { t with tr := { t.tr with settleFrom := some s.clk } } else t
  t.slotSync

/-- A slot loses activity: its gate is discarded, its qualification ends, and the DPLLs that took its
phase hold their frequency, their history ending at its last phase sample (R146, R148, R153). -/
def State.loseActivity (s : State) (i : Nat) : State :=
  let last := (s.slotOf i).lastPhase
  let t := (s.usersOf i).foldl (fun s n => s.dpllUpd n fun d => { d with
    heldWord := true, frozen := if s.dpllState n = 0 then some last else some (d.frozen.getD last) }) s
  ((t.slotUpd i fun k => { k with marks := [] }).set R.TR_SLOTs_STAT_ACTIVE 0 i).unqualify i

/-- A slot's qualification starts anew (R190). -/
def State.restartSlot (s : State) (i : Nat) : State :=
  (s.unqualify i).slotUpd i fun k => { k with everQual := false, activeFrom := s.clk }

/-- Two to a signed power of two seconds, in ps. -/
def logPs (z : Int) : Nat := if 0 ≤ z then 10 ^ 12 * 2 ^ z.toNat else 10 ^ 12 / 2 ^ (-z).toNat

/-- The expected interval of a session's estimates: 1 ms in TRACK, and otherwise its exchange interval, the longer of the
interval of the Sync messages it receives and that of the delay requests it sends (R142, R146). -/
def State.sessInterval (s : State) (k : Nat) : Nat :=
  match Tab.find? s.sessions k, Tab.find? s.ptp k with
  | some e, some c => if e.npx = 5 then 10 ^ 9 else max (logPs (e.syncLog.getD c.syncLog)) (logPs c.dreqLog)
  | _, _ => 10 ^ 12

/-- The nominal period of a CLKIN slot, in ps. -/
def State.nomPs (s : State) (i : Nat) : Nat := 10 ^ 12 / max 1 (s.get R.TR_SLOTs_NOM_NOM_HZ i)

/-- The interval after which a slot without an edge, an estimate or a solution loses activity, in ps (R146). -/
def State.silence (s : State) (i : Nat) : Nat :=
  if i < 8 then s.get R.TR_SLOTs_CFG_ACT_PER i * s.nomPs i
  else if portSlot i then 4 * s.sessInterval (s.slotKey i) else 2 * 10 ^ 12

/-- ACTIVITY_LOSS (R146): no edge, estimate or solution came for the slot's interval. -/
def execActivityLoss (dt slot : Nat) (s : State) : Host.Outcome State Fault Refusal :=
  let s := s.elapse dt
  let i := slot % 16
  .next (if s.on R.TR_SLOTs_STAT_ACTIVE i && decide ((s.slotOf i).lastPhase + s.silence i ≤ s.clk) then s.loseActivity i
    else s)

/-- The session that feeds a port-derived slot is open and not suspended, and its partner is another device (R32,
R143). -/
def State.slotFed (s : State) (i : Nat) : Bool :=
  match Tab.find? s.sessions (s.slotKey i) with
  | some e => e.suspended.isNone && !s.nodeLoop (s.get R.TR_SLOTs_CFG_PORT i)
  | none => false

/-- The phase of a reference against the output, from a slot's estimate: an estimate θ of a port-derived slot
is this device's time minus the master's (R123, R155). -/
def refPhase (i : Nat) (theta : Int) : Int := if portSlot i then -theta else theta

/-- The timebase that a slot is measured against: the one its domain maps to, or the GNSS receiver's. -/
def State.slotTb (s : State) (i : Nat) : Nat :=
  if portSlot i then (s.domainTb (s.get R.TR_SLOTs_CFG_DOMAIN i)).getD s.lineTb else s.get R.GN_CFG_TB

/-- A frequency in 10^-12 as a word in 2^-48. -/
def freqWord (z : Int) : Int := Int.tdiv (z * 2 ^ 48) (10 ^ 12)

/-- FOFS of a slot. -/
def State.fofs (s : State) (i : Nat) : Int := s.getZ R.TR_SLOTs_FOFS_FOFS i

/-- The time of a port or GNSS slot's reference now, in 2^-48 ps: its time at the latest sample, carried on at its own
frequency. -/
def State.refNow (s : State) (i : Nat) : Int :=
  (s.slotOf i).refTime + ((s.clk - (s.slotOf i).lastPhase : Nat) : Int) * (2 ^ 48 + freqWord (s.fofs i))

/-- The time of a timebase plus its pending correction, against which a phase detector measures (R156), in 2^-48 ps. -/
def State.aim (s : State) (n : Nat) : Int := s.time n + (s.tbOf n).pendingCorr

/-- An amount of 2^-48 ps in 2^-16 ns, to the nearest. -/
def linNear (z : Int) : Int := (2 * z + linUnit) / (2 * linUnit)

/-- The phase of a slot against a DPLL's output, in 2^-16 ns, as its phase detector measures it (R142, R144, R155, R156):
the edge phase that `ph` gives for a CLKIN slot, and for any other the reference's time less the output's, which is the
slot's own offset with the exact difference of the two timebases. -/
def State.phaseOf (s : State) (ph : List (Nat × Int)) (n i : Nat) : Int :=
  if i < 8 then (Tab.find? ph (16 * n + i)).getD (s.slotOf i).theta else linNear (s.refNow i - s.aim n)

/-- A phase-detector result of a DPLL (R142, R185): its sequence and value, and the error that is left beside BO. -/
def State.pdResult (s : State) (n : Nat) (phase : Int) : State :=
  ((s.incWrap R.TR_DPLLn_STAT_PD_SEQ n).set64Z R.TR_DPLLn_PD_LO_PD R.TR_DPLLn_PD_HI_PD phase n).dpllUpd n fun d => { d with
    err := phase - d.bo }

/-- A valid sample reaches a slot: its offset is kept, activity returns, and each DPLL that takes the slot has a
phase-detector result (R142, R143, R146, R185). -/
def State.sample (s : State) (i : Nat) (theta : Int) : State :=
  let t := s.slotUpd i fun k => { k with
    theta := theta, lastPhase := s.clk, refTime := s.time (s.slotTb i) + refPhase i theta * linUnit }
  let t := if s.on R.TR_SLOTs_STAT_ACTIVE i then t
    else (t.slotUpd i fun k => { k with activeFrom := s.clk }).set R.TR_SLOTs_STAT_ACTIVE 1 i
  (s.usersOf i).foldl (fun s n => s.pdResult n (s.phaseOf [] n i)) t

/-- A slot may take a sample: enabled, its session open, its solution trusted. -/
def State.mayFeed (s : State) (i : Nat) : Bool :=
  s.on R.TR_SLOTs_CFG_EN i && (!portSlot i || s.slotFed i) && (!gnssSlot i || !s.on R.TR_SLOTs_STAT_UNTRUSTED i)

/-- ACTIVITY_RETURN (R146): the first valid edge, estimate or solution, with its offset. -/
def execActivityReturn (dt slot : Nat) (theta : Int) (s : State) : Host.Outcome State Fault Refusal :=
  let s := s.elapse dt
  let i := slot % 16
  .next (if s.mayFeed i && !s.on R.TR_SLOTs_STAT_ACTIVE i then s.sample i theta else s)

/-- FEED_ESTIMATE (R182): a write of TR_SLOTs_FEED_HI commits one estimate of a port-derived slot. -/
def execFeedEstimate (init slot v : Nat) (s : State) : Host.Outcome State Fault Refusal :=
  let i := slot % 16
  .next (s.directWrite init (0x61811C + 0x20 * i) [] fun s =>
    if portSlot i && s.mayFeed i then s.sample i (sext 64 ((s.slotOf i).feedLo + v % 2 ^ 32 * 2 ^ 32)) else s)

/-- The gate of a slot's frequency monitor, in ps: 1 s, or 4 nominal periods of a CLKIN slot when that is
longer (R147). -/
def State.gateLen (s : State) (i : Nat) : Nat :=
  if i < 8 then max (10 ^ 12) (4 * 10 ^ 12 / s.get R.TR_SLOTs_NOM_NOM_HZ i) else 10 ^ 12

/-- The frequency monitor meets the latest sample of a port or GNSS slot. -/
def State.markSlot (s : State) (i : Nat) : State :=
  if i < 8 || !s.on R.TR_SLOTs_STAT_ACTIVE i then s
  else s.slotUpd i fun k => { k with
    marks := if k.marks.head?.map Prod.fst = some k.lastPhase then k.marks else ((k.lastPhase, k.refTime) :: k.marks).take 24 }

/-- FOFS of a port or GNSS slot: the slope of its offset against the synthesis reference, from the latest sample that
stood at the start of the gate to the newest, in 10^-12 (R147; DEDUCED, log entry 205). -/
def State.slope (s : State) (i : Nat) : Option Int :=
  match (s.slotOf i).marks with
  | [] => none
  | (c1, v1) :: rest => (rest.find? fun e => decide (e.1 + s.gateLen i ≤ s.clk)).map fun e =>
      Int.tdiv ((v1 - e.2 - ((c1 - e.1 : Nat) : Int) * 2 ^ 48) * 10 ^ 12) (((c1 - e.1 : Nat) : Int) * 2 ^ 48)

/-- One update of a slot's frequency monitor: FOFS over the gate that ends now, which is measured for a CLKIN slot and
follows from the samples of any other, and the judgement of the slot's qualification (R147, R148). -/
def State.monitor (s : State) (i : Nat) (given : Int) : State :=
  let s := s.markSlot i
  match (if i < 8 then some given else s.slope i) with
  | none => s
  | some fofs =>
  if s.on R.TR_SLOTs_CFG_EN i && s.on R.TR_SLOTs_STAT_ACTIVE i && !s.tr.xoLost
      && decide ((s.slotOf i).activeFrom + s.gateLen i ≤ s.clk) then
    let t := s.setZ R.TR_SLOTs_FOFS_FOFS fofs i
    if s.on R.TR_SLOTs_STAT_QUALIFIED i then
      if fofs.natAbs > 1000 * s.get R.TR_SLOTs_LIM_REJECT_LIM i then t.unqualify i else t
    else if fofs.natAbs ≤ 1000 * s.get R.TR_SLOTs_LIM_ACCEPT_LIM i then t.qualify i else t
  else s

/-- The whole 100 ms of the line timebase's rules that it is now. -/
def State.monIndex (s : State) : Nat := s.lineTime / (10 ^ 11 * 2 ^ 48)

/-- FREQUENCY_MONITOR_UPDATE (R147): at a tick on a whole 100 ms, with the measured offset of each CLKIN slot
and of the OCXO against the synthesis reference, in 10^-12. -/
def execFrequencyMonitorUpdate (dt : Nat) (fofs : List Int) (ocxo : Int) (s : State) :
    Host.Outcome State Fault Refusal :=
  let s := s.elapse dt
  .next (if s.monIndex != s.tr.lastMon then
      let t := { s with tr := { s.tr with lastMon := s.monIndex } }
      let t := if s.on R.TR_OCXO_STAT_ACTIVE && !s.tr.xoLost then { t with tr := { t.tr with ocxoOfs := ocxo } } else t
      ((List.range 16).foldl (fun s i => s.monitor i (fofs.getD i 0)) t)
    else s)

/-- A slot's wait-to-restore has run its length. -/
def State.wtrDue (s : State) (i : Nat) : Bool :=
  match (s.slotOf i).wtrStart with
  | some t => decide (t + (s.slotOf i).wtrLen ≤ s.clk)
  | none => false

/-- End a slot's wait-to-restore. -/
def State.endWtr (s : State) (i : Nat) : State :=
  ((s.slotUpd i fun k => { k with wtrStart := none }).set R.TR_SLOTs_STAT_WTR_RUN 0 i).slotSync

/-- WTR_EXPIRY (R149). -/
def execWtrExpiry (dt slot : Nat) (s : State) : Host.Outcome State Fault Refusal :=
  let s := s.elapse dt
  .next (if s.wtrDue (slot % 16) then s.endWtr (slot % 16) else s)

/-! ### Disputes (R161 to R163) -/

/-- DISPUTE_LIMIT in 10^-12. -/
def State.dispLim (s : State) : Nat := 1000 * s.get R.TR_GLOBAL_CFG_DISPUTE_LIM

/-- Two candidates of a DPLL have equal rank and stand more than DISPUTE_LIMIT apart. -/
def State.disagree (s : State) (n a b : Nat) : Bool :=
  s.candidate n a && s.candidate n b
  && s.get R.TR_SLOTs_QUAL_CLASS a == s.get R.TR_SLOTs_QUAL_CLASS b
  && s.get R.TR_SLOTs_QUAL_ACCURACY a == s.get R.TR_SLOTs_QUAL_ACCURACY b
  && s.prio n a == s.prio n b && decide ((s.fofs a - s.fofs b).natAbs > s.dispLim)

/-- The offsets of the witnesses of a dispute between two slots (R161). -/
def State.witnesses (s : State) (a b : Nat) : List Int :=
  (if s.warm then [s.tr.ocxoOfs - s.ocxoRec.getD 0] else [])
  ++ ((List.range 16).filter fun i => i != a && i != b && s.on R.TR_SLOTs_STAT_QUALIFIED i
      && !s.on R.TR_SLOTs_STAT_EXCLUDED i).map s.fofs

/-- A slot lies within half the limit of more than half of the witnesses. -/
def State.agrees (s : State) (i : Nat) (ws : List Int) : Bool :=
  decide (2 * (ws.filter fun w => decide (2 * (s.fofs i - w).natAbs ≤ s.dispLim)).length > ws.length)

/-- Set DISPUTED and EXCLUDED of every slot from the disputes that stand. -/
def State.dispSync (s : State) : State :=
  ((List.range 16).foldl (fun s i =>
    let mine := s.tr.disputes.filter fun d => d.resolved && (d.a == i || d.b == i)
    let ex := mine.any fun d => (d.a == i && d.excludeA) || (d.b == i && d.excludeB)
    (s.setB R.TR_SLOTs_STAT_DISPUTED (!mine.isEmpty) i).setB R.TR_SLOTs_STAT_EXCLUDED ex i) s).slotSync

/-- Replace the record of one dispute. -/
def State.dispPut (s : State) (d : Dispute) : State :=
  { s with tr := { s.tr with disputes :=
      (s.tr.disputes.filter fun e => !(e.n == d.n && e.a == d.a && e.b == d.b)) ++ [d] } }

/-- Drop the record of one dispute. -/
def State.dispDrop (s : State) (d : Dispute) : State :=
  { s with tr := { s.tr with disputes := s.tr.disputes.filter fun e => !(e.n == d.n && e.a == d.a && e.b == d.b) } }

/-- Resolve a dispute that has lasted 4 s (R162). -/
def State.resolve (s : State) (d : Dispute) : State :=
  let ws := s.witnesses d.a d.b
  let ga := s.agrees d.a ws
  let gb := s.agrees d.b ws
  let act (i : Nat) : Bool := s.dpllState d.n == 0 && s.get R.TR_DPLLn_STAT_ACTIVE d.n == i
  let exA := if ga != gb then gb else !act d.a
  let exB := if ga != gb then ga else !act d.b
  let t := s.dispPut { d with resolved := true, excludeA := exA, excludeB := exB, since := s.clk, agreeing := false }
  (t.raise 55 (d.a + 16 * d.b + 256 * d.n)).dispSync

/-- Both slots of a resolved dispute measure an offset of at most DISPUTE_LIMIT. -/
def State.together (s : State) (d : Dispute) : Bool :=
  s.on R.TR_SLOTs_STAT_ACTIVE d.a && s.on R.TR_SLOTs_STAT_ACTIVE d.b
  && decide ((s.fofs d.a - s.fofs d.b).natAbs ≤ s.dispLim)

/-- The dispute of two slots on a DPLL, where one is recorded. -/
def State.dispOf (s : State) (n a b : Nat) : Option Dispute :=
  s.tr.disputes.find? fun d => d.n == n && d.a == a && d.b == b

/-- Bring the record of one pair up to date: start or drop the 4 s of a disagreement, start or drop the
30 s of an agreement. -/
def State.dispTrack (s : State) (n a b : Nat) : State :=
  match s.dispOf n a b with
  | none => if s.disagree n a b then s.dispPut { n := n, a := a, b := b, since := s.clk } else s
  | some d =>
    if d.resolved then
      if s.together d then (if d.agreeing then s else s.dispPut { d with agreeing := true, since := s.clk })
      else if d.agreeing then s.dispPut { d with agreeing := false } else s
    else if s.disagree n a b then s else s.dispDrop d

/-- A disagreement has lasted 4 s. -/
def State.resolveDue (s : State) (d : Dispute) : Bool := !d.resolved && decide (d.since + 4 * 10 ^ 12 ≤ s.clk)

/-- An agreement has lasted 30 s. -/
def State.clearDue (s : State) (d : Dispute) : Bool :=
  d.resolved && d.agreeing && decide (d.since + 30 * 10 ^ 12 ≤ s.clk)

/-- Clear a dispute: flags and exclusion end unless another dispute keeps them (R163). -/
def State.clearDispute (s : State) (d : Dispute) : State := (s.dispDrop d).dispSync

/-- Step 2 of a tick for one pair of one DPLL. -/
def State.dispStep (s : State) (n a b : Nat) : State :=
  let t := s.dispTrack n a b
  match t.dispOf n a b with
  | none => t
  | some d => if t.resolveDue d then t.resolve d else if t.clearDue d then t.clearDispute d else t

/-- Detect, resolve and clear the disputes of every enabled DPLL (R152 step 2); of any other, the resolved disputes go on
until they clear (R163). -/
def State.dispAll (s : State) : State :=
  (List.range 8).foldl (fun s n => if !s.tbOn n then
      (s.tr.disputes.filter fun d => d.n == n && d.resolved).foldl (fun s d => s.dispStep n d.a d.b) s
    else
    (List.range 16).foldl (fun s a => (List.range 16).foldl (fun s b =>
      if a < b then s.dispStep n a b else s) s) s) s

/-- DISPUTE_RESOLUTION (R161). -/
def execDisputeResolution (dt n a b : Nat) (s : State) : Host.Outcome State Fault Refusal :=
  let s := s.elapse dt
  .next (match s.dispOf n a b with
    | some d => if s.resolveDue d && s.disagree n a b then s.resolve d else s
    | none => s)

/-- DISPUTE_CLEAR (R163). -/
def execDisputeClear (dt n a b : Nat) (s : State) : Host.Outcome State Fault Refusal :=
  let s := s.elapse dt
  .next (match s.dispOf n a b with
    | some d => if s.clearDue d && s.together d then s.clearDispute d else s
    | none => s)

/-! ### Frequency words, history and holdover (R164 to R174) -/

/-- The clamp of R166: ±50 ppm for the line DPLL and ±500 ppm for any other. -/
def State.clampOf (s : State) (n : Nat) : Int := if n = s.lineTb then 14073748835 else 140737488355

def State.clampWord (s : State) (n : Nat) (z : Int) : Int := clampZ (-(s.clampOf n)) (s.clampOf n) z

/-- Take a frequency word into use: history is kept, and the timebase takes it unless the host is its
source (R38). -/
def State.putWord (s : State) (n : Nat) (z : Int) : State :=
  let z := s.clampWord n z
  if z = (s.dpllOf n).word then s else
  let t := s.dpllUpd n fun d => { d with word := z, history := (s.clk, z) :: d.history }
  if s.on R.HW_TBn_CTRL_SRC n then t else t.steerFreq n z

/-- Take a word of the DPLL's own into use; while its loop is open only software writes words (R167). -/
def State.useWord (s : State) (n : Nat) (z : Int) : State := if s.on R.TR_DPLLn_CFG_OPEN n then s else s.putWord n z

/-- The mean of the words in force over a span of the clock, the newest entry first. -/
def meanWord (h : List (Nat × Int)) (lo hi : Nat) : Int :=
  if hi ≤ lo then (h.head?.map Prod.snd).getD 0 else
  let r := h.foldl (fun (acc : Int × Nat) e =>
    let from_ := max e.1 lo
    if from_ < acc.2 then (acc.1 + e.2 * ((acc.2 - from_ : Nat) : Int), from_) else acc) (0, hi)
  Int.tdiv r.1 ((hi - lo : Nat) : Int)

/-- Lock time in ps (R172). -/
def State.lockTime (s : State) (n : Nat) : Nat := match (s.dpllOf n).lockStart with
  | some t => s.clk - t
  | none => 0

/-- HOQ of a lock time (R172). -/
def hoqOf (t : Nat) : Nat := if t < 60 * 10 ^ 12 then 0 else if t < 900 * 10 ^ 12 then 1 else 2

/-- What the OCXO has moved since the word in use was taken: holdover and free run follow it while it is
warm (R171). -/
def State.oscDrift (s : State) (n : Nat) : Int :=
  if s.warm then freqWord (s.tr.ocxoOfs - (s.dpllOf n).ocxoRef) else 0

/-- The holdover frequency and the kind of its uncertainty F at entry (R173). -/
def State.holdFreq (s : State) (n : Nat) : Int × Nat :=
  let d := s.dpllOf n
  let t := s.lockTime n
  let fin := d.frozen.getD s.clk
  let start := d.lockStart.getD s.clk
  match hoqOf t with
  | 0 =>
    if t < 10 ^ 12 then
      match (if s.warm then s.ocxoRec else none) with
      | some r => (freqWord r, 3)
      | none => (d.word, 4)
    else (meanWord d.history start fin, 0)
  | q =>
    let hi := fin - 10 ^ 12
    let lo := max start (hi - s.get R.TR_DPLLn_HO_HO_AVG n * 10 ^ 12)
    (meanWord d.history lo hi, if q = 1 then 1 else 2)

/-- The ageing and temperature model of a holdover that begins now (R173, R174): that of the fit where the lock is TRAINED
and MODEL_VALID is set, and otherwise none. -/
def State.holdModel (s : State) (n : Nat) : Int × Int :=
  if hoqOf (s.lockTime n) = 2 ∧ s.on R.TR_DPLLn_STAT_MODEL_VALID n = true then Config.holdoverFit n s.clk else (0, 0)

/-- What the model has moved the frequency of a holdover since its entry: linear in time and in the temperature of die T
(R174). -/
def State.modelMove (s : State) (h : Holdover) : Int :=
  Int.tdiv (h.age * ((s.clk - h.entry : Nat) : Int)) (86400 * 10 ^ 12) + h.tco * (s.tempT - h.temp)

/-- The frequency of a holdover now: that of its entry, moved by the model and with the OCXO (R171, R173, R174). -/
def State.holdWord (s : State) (n : Nat) (h : Holdover) : Int := h.freq + s.oscDrift n + s.modelMove h

/-- Set LOCK_TIME and HOQ from the lock in progress (R172, R185). -/
def State.lockSync (s : State) (n : Nat) : State :=
  match (s.dpllOf n).lockStart with
  | some t => (s.set R.TR_DPLLn_LOCKT_LOCK_TIME (satN (2 ^ 32 - 1) ((s.clk - t) / 10 ^ 12)) n).set
      R.TR_DPLLn_STAT_HOQ (hoqOf (s.clk - t)) n
  | none => s

/-- Enter a state, with TP_STATE: its detail gives the new state and the active or target slot (R154). -/
def State.enter (s : State) (n st slot : Nat) : State :=
  (s.set R.TR_DPLLn_STAT_STATE st n).raise n (det2 st slot)

/-- Set BO, in 2^-16 ns. -/
def State.setBo (s : State) (n : Nat) (bo : Int) : State :=
  (s.dpllUpd n fun d => { d with bo := bo }).set64Z R.TR_DPLLn_BO_LO_BO R.TR_DPLLn_BO_HI_BO bo n

/-- Accrue the error of a DPLL's holdover up to now, before its rate changes (R175). -/
def State.accrue (s : State) (n : Nat) : State :=
  s.dpllUpd n fun d => { d with hold := d.hold.map fun h => { h with
    integ := h.integ + s.holdRate n h * (s.clk - h.last), last := s.clk } }

/-- Accrue the error of every DPLL. -/
def State.accrueAll (s : State) : State := (List.range 8).foldl (fun s n => s.accrue n) s

/-- A primary's DPLL has entered HOLDOVER or FREERUN while its shadow's is LOCKED: the automatic domain
switch (R51). -/
def State.autoSwitch (s : State) (n : Nat) : State :=
  (List.range 4).foldl (fun s k =>
    if s.on R.HW_PAIRk_CFG_EN k && s.on R.HW_PAIRk_CFG_AUTO k && s.get R.HW_PAIRk_CFG_PRIMARY k == n
        && s.dpllState (s.get R.HW_PAIRk_CFG_SHADOW k) == 0 && (s.switchRefusal k).isNone
    then s.requestSwitch k 1 none else s) s

/-- The entry to HOLDOVER, with the frequency of R173; a DPLL that has never been LOCKED or SWITCHING
falls to FREERUN, and a switch that began from HOLDOVER resumes it (R154). -/
def State.enterHold (s : State) (n : Nat) : State :=
  let d := s.dpllOf n
  let slot := s.get R.TR_DPLLn_STAT_ACTIVE n
  if !d.everLocked then (if s.dpllState n = 3 then s else s.enter n 3 slot)
  else
    let t := s.lockSync n
    let t := match (if d.fromHold then d.hold else none) with
      | some h =>
        (((t.set R.TR_DPLLn_STAT_HOQ h.hoq n).set R.TR_DPLLn_LOCKT_LOCK_TIME 0 n).dpllUpd n fun d => { d with
          fromHold := false, lockStart := none }).useWord n (s.holdWord n h)
      | none =>
        let (f, ferr) := t.holdFreq n
        let (age, tco) := s.holdModel n
        (t.dpllUpd n fun d => { d with
          lockStart := none, ocxoRef := s.tr.ocxoOfs
          hold := some { e0 := s.tapTerm n * 10 ^ 12, entry := s.clk, last := s.clk, temp := s.tempT
                         hoq := hoqOf (s.lockTime n), ferr := ferr, freq := f, age := age, tco := tco } }).useWord n f
    let t := if s.dpllState n = 1 then t.setBo n 0 else t
    (((t.dpllUpd n fun d => { d with heldWord := false, farRaised := false }).set R.TR_DPLLn_STAT_BO_HELD 0 n).enter n 2 slot).autoSwitch n

/-- The frequency of a slot as a word. -/
def State.slotWord (s : State) (i : Nat) : Int := freqWord (s.fofs i)

/-- Target a slot: BO is measured, so the output takes no step, and the ramp starts from the present
frequency (R155, R157). -/
def State.target (s : State) (ph : List (Nat × Int)) (n i : Nat) : State :=
  let d := s.dpllOf n
  let st := s.dpllState n
  let t := s.dpllUpd n fun d => { d with
    everLocked := true, lastTarget := s.clk, rampFrom := d.word, rampAt := s.clk, goal := s.slotWord i, integ := 0, err := 0
    heldWord := false
    fromHold := if st = 2 then true else if st = 1 then d.fromHold else false
    lockStart := if st = 2 ∨ st = 3 then some s.clk else d.lockStart
    frozen := if st = 0 then some (d.frozen.getD s.clk) else d.frozen
    hold := if st = 3 then none else d.hold, farRaised := false }
  let t := if d.lockStart.isNone then t.dpllUpd n fun d => { d with history := [(s.clk, d.word)] } else t
  let t := (t.setBo n (s.phaseOf ph n i)).set R.TR_DPLLn_STAT_BO_HELD 0 n
  (t.set R.TR_DPLLn_STAT_TARGET i n).enter n 1 i

/-- Hand BO to Heartwood, or keep it while the host is the source or the correction would be refused and
would not be a step (R156). -/
def State.handBo (s : State) (n : Nat) : State :=
  let d := s.dpllOf n
  let c := d.bo * linUnit
  let host := s.on R.HW_TBn_CTRL_SRC n
  let far := s.corrRefused n c && !s.on R.HW_TBn_CTRL_STEP_ALLOW n
  if host || far then
    let t := s.set R.TR_DPLLn_STAT_BO_HELD 1 n
    if far && !d.farRaised then (t.dpllUpd n fun d => { d with farRaised := true }).raise 56 n else t
  else (((s.setBo n 0).dpllUpd n fun d => { d with farRaised := false }).set R.TR_DPLLn_STAT_BO_HELD 0 n).correct
    n c true false

/-- Entry to LOCKED on the target (R154, R156). -/
def State.lockOn (s : State) (n : Nat) : State :=
  let i := s.get R.TR_DPLLn_STAT_TARGET n
  let t := s.dpllUpd n fun d => { d with frozen := none, fromHold := false, hold := none, trainMark := s.clk }
  let t := (t.set R.TR_DPLLn_STAT_ACTIVE i n).enter n 0 i
  if s.on R.TR_SLOTs_CFG_ALIGN i then t.handBo n else t

/-- SWITCH_TIME has passed since the last targeting. -/
def State.switchOver (s : State) (n : Nat) : Bool :=
  decide ((s.dpllOf n).lastTarget + s.get R.TR_DPLLn_SWT_SWITCH_TIME n * 10 ^ 9 ≤ s.clk)

/-- The one transition of a DPLL at a tick (R154, R157 to R159). -/
def State.transition (s : State) (ph : List (Nat × Int)) (n : Nat) : State :=
  let st := s.dpllState n
  let force := s.get R.TR_DPLLn_CFG_FORCE n
  let fs := s.get R.TR_DPLLn_CFG_FORCE_SLOT n
  let act := s.get R.TR_DPLLn_STAT_ACTIVE n
  let tgt := s.get R.TR_DPLLn_STAT_TARGET n
  if !s.tr.settleDone then s
  else if force = 2 then (if st = 0 ∨ st = 1 then s.enterHold n else s)
  else
    let b := if force = 1 then (if s.candidate n fs then some fs else none) else s.best n
    match st, b with
    | 3, none => s
    | 3, some i => s.target ph n i
    | 2, none => s
    | 2, some i => s.target ph n i
    | 0, none => s.enterHold n
    | 0, some i =>
      if i = act then s
      else if force = 1 ∨ !s.candidate n act then s.target ph n i
      else if s.on R.TR_DPLLn_CFG_REVERT n then s.target ph n i else s
    | _, none => s.enterHold n
    | _, some i =>
      if force = 1 ∧ i ≠ tgt then s.target ph n i
      else if !s.candidate n tgt then s.target ph n i
      else if s.switchOver n then s.lockOn n
      else if i ≠ tgt ∧ s.better n i tgt ∧ (s.dpllOf n).lastTarget + 10 ^ 11 ≤ s.clk then s.target ph n i
      else s

/-- SWITCH_TIME_ELAPSED (R154). -/
def execSwitchTimeElapsed (dt n : Nat) (s : State) : Host.Outcome State Fault Refusal :=
  let s := s.elapse dt
  let n := n % 8
  .next (if s.tbOn n && s.dpllState n == 1 && s.switchOver n && s.candidate n (s.get R.TR_DPLLn_STAT_TARGET n)
    then s.lockOn n else s)

/-- Bandwidth codes in mHz (R164). -/
def bwTable : List Nat := [1, 2, 5, 10, 20, 50, 100, 200, 500, 1000, 2000, 5000, 10 ^ 4, 20000, 50000,
  10 ^ 5, 200000, 500000, 10 ^ 6, 2 * 10 ^ 6, 4 * 10 ^ 6]

/-- The phase update rate of a slot, in mHz (R142). -/
def State.slotRate (s : State) (i : Nat) : Nat :=
  if i < 8 then min (s.get R.TR_SLOTs_NOM_NOM_HZ i) 1000 * 1000
  else if portSlot i then 10 ^ 15 / max 1 (s.sessInterval (s.slotKey i)) else 1000

/-- The slot that a DPLL takes: the active one in LOCKED, and otherwise the target. -/
def State.takenSlot (s : State) (n : Nat) : Nat :=
  if s.dpllState n = 0 then s.get R.TR_DPLLn_STAT_ACTIVE n else s.get R.TR_DPLLn_STAT_TARGET n

/-- The bandwidth of BW, in mHz (R164). -/
def State.bwMhz (s : State) (n : Nat) : Nat := bwTable.getD (s.get R.TR_DPLLn_CFG_BW n) 0

/-- The bandwidth at which the loop runs, in mHz: that of BW, or one tenth of the phase update rate where that is less
than ten times the bandwidth (R165). -/
def State.loopBw (s : State) (n : Nat) : Nat := min (s.bwMhz n) (s.slotRate (s.takenSlot n) / 10)

/-- Set BW_CLAMPED: the active reference updates less than ten times per bandwidth (R165). -/
def State.clampSync (s : State) (n : Nat) : State :=
  s.setB R.TR_DPLLn_STAT_BW_CLAMPED (s.dpllState n == 0 && decide (s.slotRate (s.takenSlot n) < 10 * s.bwMhz n)) n

/-- One step of the loop: the correction of the word and the next integral part, from the error that the phase detector
measures beside BO (R155, R164, R165). -/
def State.loopStep (s : State) (n : Nat) : Int × Int := Config.loopStep (s.loopBw n) 5 (s.dpllOf n).err (s.dpllOf n).integ

/-- The frequency of the ramp of a switch: linear from the word where it starts to the target's, at the end of SWITCH_TIME
(R155). -/
def State.rampWord (s : State) (n : Nat) : Int :=
  let d := s.dpllOf n
  let stop := d.lastTarget + s.get R.TR_DPLLn_SWT_SWITCH_TIME n * 10 ^ 9
  if stop ≤ s.clk ∨ stop ≤ d.rampAt then d.goal
  else d.rampFrom + Int.tdiv ((d.goal - d.rampFrom) * ((s.clk - d.rampAt : Nat) : Int)) ((stop - d.rampAt : Nat) : Int)

/-- The loop runs: closed, in LOCKED or SWITCHING, on a slot whose phase has not been lost. -/
def State.loopRuns (s : State) (n : Nat) : Bool :=
  decide (s.dpllState n ≤ 1) && !s.on R.TR_DPLLn_CFG_OPEN n && !(s.dpllOf n).heldWord

/-- The word of a DPLL at a tick: the loop's about its centre in LOCKED and about the ramp in SWITCHING, and otherwise that
of holdover or of the free run, which follow the OCXO (R155, R160, R164, R171, R173). -/
def State.tickWord (s : State) (n : Nat) : Int :=
  let d := s.dpllOf n
  match s.dpllState n with
  | 0 => if d.heldWord then d.word else d.goal + (s.loopStep n).1
  | 1 => if d.heldWord then d.word else s.rampWord n + (s.loopStep n).1
  | 2 => match d.hold with | some h => s.holdWord n h | none => d.word
  | _ => d.base + s.oscDrift n

/-- A DPLL's word and loop go on by one tick. -/
def State.tickLoop (s : State) (n : Nat) : State :=
  let t := s.useWord n (s.tickWord n)
  if s.loopRuns n then t.dpllUpd n fun d => { d with integ := (s.loopStep n).2 } else t

/-- The loop goes on from the word in force with no frequency step, as after it was open (R168). -/
def State.resumeLoop (s : State) (n : Nat) : State :=
  let w := (s.dpllOf n).word
  let st := s.dpllState n
  s.dpllUpd n fun d => { d with
    integ := 0, goal := if st = 0 then w else d.goal, rampFrom := w, rampAt := s.clk, base := w - s.oscDrift n
    hold := d.hold.map fun h => if st = 2 then { h with freq := w - s.oscDrift n - s.modelMove h } else h }

/-- Set QOUT, the quality a DPLL advertises (R176). -/
def State.qoutSync (s : State) (n : Nat) : State :=
  let put (s : State) (c a v : Nat) : State :=
    ((s.set R.TR_DPLLn_QOUT_CLASS c n).set R.TR_DPLLn_QOUT_ACCURACY a n).set R.TR_DPLLn_QOUT_VARIANCE v n
  let e := s.estErr n
  let st := s.dpllState n
  let i := s.takenSlot n
  if st = 0 ∨ st = 1 then
    put s (s.get R.TR_SLOTs_QUAL_CLASS i) (max (s.get R.TR_SLOTs_QUAL_ACCURACY i) (coverCode e)) (s.get R.TR_SLOTs_QUAL_VARIANCE i)
  else if st = 2 then
    let within := s.get R.TR_DPLLn_STAT_HOQ n != 0 && decide (e ≤ 1000 * s.get R.HW_TBn_HO_LIMIT_HOLDOVER_LIMIT n)
    put s (if within then s.get R.TR_DPLLn_HOQ_HO_CLASS_IN n else s.get R.TR_DPLLn_HOQ_HO_CLASS_OUT n) (coverCode e) 0xFFFF
  else put s (s.get R.TR_DPLLn_HOQ_FREE_CLASS n) 0xFE 0xFFFF

/-! ### Holdover quality and the model (R172, R174) -/

/-- 24 h in ps. -/
def dayPs : Nat := 86400 * 10 ^ 12

/-- TRAINED lock of a DPLL up to now: the time LOCKED beyond the first 900 s of the lock (R174). -/
def State.trainUp (s : State) (n : Nat) : State :=
  if s.dpllState n == 0 then
    let d := s.dpllOf n
    let from_ := max d.trainMark (d.lockStart.getD s.clk + 900 * 10 ^ 12)
    let add := s.clk - from_
    let t := s.dpllUpd n fun d => { d with trainMark := s.clk }
    { t with us := { t.us with trained := Tab.upd 0 t.us.trained n fun v => v + add } }
  else s

/-- 24 h of TRAINED lock have made the model valid. -/
def State.modelDue (s : State) (n : Nat) : Bool := decide (dayPs ≤ Tab.get 0 s.us.trained n)

/-- Bring lock time, HOQ, TRAINED lock and MODEL_VALID of a DPLL up to date. -/
def State.hoqStep (s : State) (n : Nat) : State :=
  let t := (s.lockSync n).trainUp n
  if t.modelDue n && !t.on R.TR_DPLLn_STAT_MODEL_VALID n then
    (t.set R.TR_DPLLn_STAT_MODEL_VALID 1 n)
  else t

/-- HOQ_CHANGE (R172): the lock time crosses 60 s or 900 s. -/
def execHoqChange (dt n : Nat) (s : State) : Host.Outcome State Fault Refusal :=
  let s := s.elapse dt
  .next (if s.tbOn (n % 8) then s.lockSync (n % 8) else s)

/-- MODEL_VALID (R174). -/
def execModelValid (dt n : Nat) (s : State) : Host.Outcome State Fault Refusal :=
  let s := s.elapse dt
  .next (if s.tbOn (n % 8) then s.hoqStep (n % 8) else s)

/-- Bring a DPLL's live registers up to date (R185). -/
def State.dpllSync (s : State) (n : Nat) : State :=
  (((s.lockSync n).setB R.TR_DPLLn_STAT_FORCED (s.get R.TR_DPLLn_CFG_FORCE n != 0) n).clampSync n).qoutSync n

/-! ### The settle window (R160) -/

/-- The settle window ends. -/
def State.endSettle (s : State) : State :=
  let t := { s with tr := { s.tr with settleDone := true } }
  (List.range 8).foldl (fun s n => s.judgeTime n) t

/-- 2.0 s have passed since the first qualification. -/
def State.settleDue (s : State) : Bool :=
  !s.tr.settleDone && (match s.tr.settleFrom with | some t => decide (t + 2 * 10 ^ 12 ≤ s.clk) | none => false)

/-- SETTLE_WINDOW_END (R160). -/
def execSettleWindowEnd (dt : Nat) (s : State) : Host.Outcome State Fault Refusal :=
  let s := s.elapse dt
  .next (if s.settleDue then s.endSettle else s)

/-! ### The OCXO (R169 to R171) -/

/-- Keeper ticks since OCXO activity began (R170). -/
def State.ocxoAge (s : State) : Nat := (s.keeper + 2 ^ 48 - s.tr.ocxoSince) % 2 ^ 48

/-- Seconds of the warm-up timer that remain (R178). -/
def State.ocxoSync (s : State) : State :=
  let end_ := keeperSecs (s.get R.TR_OCXO_CFG_OCXO_WARMUP)
  s.set R.TR_OCXO_STAT_REMAIN (if s.on R.TR_OCXO_STAT_ACTIVE && !s.warm && s.get R.TR_OCXO_CFG_WARM_SRC == 0
    then (end_ - s.ocxoAge + 32767) / 32768 else 0)

/-- The words that followed the OCXO keep what it has moved, so that leaving it makes no step. -/
def State.foldDrift (s : State) : State :=
  (List.range 8).foldl (fun s n => s.dpllUpd n fun d => { d with
    hold := d.hold.map fun h => { h with freq := h.freq + s.oscDrift n }
    base := d.base + s.oscDrift n, ocxoRef := s.tr.ocxoOfs }) s

/-- The core PLL runs from 0 `xo_in`, 1 `osc_in` or 2 its held tuning word; on the OCXO every FREQ is corrected by the
last measurement of it, so that each timebase keeps its rate (R201). -/
def State.coreTo (s : State) (c : Nat) : State :=
  let corr := if c = 1 then -(s.tr.ocxoOfs * 2 ^ 48) / 10 ^ 12 else 0
  let t := (List.range 8).foldl (fun (s : State) n => s.tbUpd n fun b => { b with core := corr }) s
  { t with tr := { t.tr with core := c } }

/-- WARM falls: holdover and free run continue on the synthesis reference, and the event timer loses its
OCXO reference (R169, R265). -/
def State.warmFall (s : State) : State :=
  if s.warm then
    let t := (s.accrueAll.foldDrift.set R.TR_OCXO_STAT_WARM 0)
    (if t.tr.core = 1 then t.coreTo 2 else t).etRef
  else s

/-- WARM rises, with OCXO_WARM (R170). -/
def State.warmRise (s : State) : State :=
  if s.warm then s else ((s.accrueAll.foldDrift.set R.TR_OCXO_STAT_WARM 1).raise 57).etRef.ocxoSync

/-- Judge WARM by WARM_SRC: the warm-up timer, the `ocxo_warm` pin, or never (R170). -/
def State.warmJudge (s : State) : State :=
  let act := s.on R.TR_OCXO_STAT_ACTIVE
  let w := match s.get R.TR_OCXO_CFG_WARM_SRC with
    | 0 => act && decide (keeperSecs (s.get R.TR_OCXO_CFG_OCXO_WARMUP) ≤ s.ocxoAge)
    | 1 => act && s.tr.warmPin
    | _ => false
  (if w then s.warmRise else s.warmFall).ocxoSync

/-- OCXO_FAIL (R169): `osc_in` misses 3 periods. -/
def execOcxoFail (dt : Nat) (s : State) : Host.Outcome State Fault Refusal :=
  let s := s.elapse dt
  .next (if s.on R.TR_OCXO_STAT_ACTIVE then ((s.warmFall.set R.TR_OCXO_STAT_ACTIVE 0).raise 58).ocxoSync else s)

/-- OCXO_ACTIVITY_RETURN (R170): the warm-up timer restarts; `pin` is the level of `ocxo_warm`. -/
def execOcxoActivityReturn (dt : Nat) (pin : Bool) (s : State) : Host.Outcome State Fault Refusal :=
  let s := s.elapse dt
  .next (if s.on R.TR_OCXO_STAT_ACTIVE then s else
    let t := { s with tr := { s.tr with ocxoSince := s.keeper, warmPin := pin } }
    (t.set R.TR_OCXO_STAT_ACTIVE 1).warmJudge)

/-- The warm-up time has passed and WARM has not risen yet (R170). -/
def State.warmDue (s : State) : Bool :=
  s.get R.TR_OCXO_CFG_WARM_SRC == 0 && s.on R.TR_OCXO_STAT_ACTIVE && !s.on R.TR_OCXO_STAT_WARM
  && decide (keeperSecs (s.get R.TR_OCXO_CFG_OCXO_WARMUP) ≤ s.ocxoAge)

/-- OCXO_WARM (R170): the end of the warm-up time where it is due, and otherwise a rise of `ocxo_warm`. -/
def execOcxoWarm (dt : Nat) (s : State) : Host.Outcome State Fault Refusal :=
  let s := s.elapse dt
  .next (if s.warmDue then s.warmJudge else ({ s with tr := { s.tr with warmPin := true } }).warmJudge)

/-- OCXO_WARM_PIN_FALL (R170): `ocxo_warm` falls. -/
def execOcxoWarmPinFall (dt : Nat) (s : State) : Host.Outcome State Fault Refusal :=
  let s := s.elapse dt
  .next ({ s with tr := { s.tr with warmPin := false } }).warmJudge

/-! ### Open loops (R167, R168) -/

/-- An open loop has had no software word for SW_TIMEOUT. -/
def State.swTimeoutDue (s : State) (n : Nat) : Bool :=
  s.on R.TR_DPLLn_CFG_OPEN n && decide ((s.dpllOf n).lastSw + s.get R.TR_DPLLn_SWT_SW_TIMEOUT n * 10 ^ 9 ≤ s.clk)

/-- SWLOOP_TIMEOUT (R168): the loop closes and resumes from the last software word with no frequency step. -/
def execSwloopTimeout (dt n : Nat) (s : State) : Host.Outcome State Fault Refusal :=
  let s := s.elapse dt
  .next (if s.swTimeoutDue (n % 8) then ((s.set R.TR_DPLLn_CFG_OPEN 0 (n % 8)).resumeLoop (n % 8)).raise 59 (n % 8) else s)

/-- A software word may not follow the last one within 1 ms (R167). -/
def State.swBusy (s : State) (n : Nat) : Bool :=
  (s.dpllOf n).swWritten && decide (s.clk < (s.dpllOf n).lastSw + 10 ^ 9)

/-- A software word is taken: it is the DPLL's word at once. -/
def State.swWord (s : State) (n : Nat) (z : Int) : State :=
  ((s.dpllUpd n fun d => { d with swf := z, lastSw := s.clk, swWritten := true }).set64Z
    R.TR_DPLLn_SWF_LO_SWF R.TR_DPLLn_SWF_HI_SWF z n).putWord n z

/-- SW_FREQ_WRITE (R186): a write of SWF_HI commits the word; it is ignored while the loop is closed. -/
def execSwFreqWrite (init n v : Nat) (s : State) : Host.Outcome State Fault Refusal :=
  let n := n % 8
  .next (s.directWrite init (0x618438 + 0x40 * n)
    (if s.on R.TR_DPLLn_CFG_OPEN n then [{ f := R.TR_DPLLn_SWF_HI_SWF, i := n, v := v % 2 ^ 32 }] else []) fun s =>
    let z := sext 40 ((s.dpllOf n).swfLo + v % 256 * 2 ^ 32)
    if s.on R.TR_DPLLn_CFG_OPEN n && !s.swBusy n && decide (z.natAbs ≤ (s.clampOf n).natAbs) then s.swWord n z else s)

/-! ### The tick (R152) -/

/-- The whole millisecond of the line timebase's rules that it is now. -/
def State.msIndex (s : State) : Nat := s.lineTime / (10 ^ 9 * 2 ^ 48)

/-- The timebase whose milliseconds are ticks now; none while the free-running line count gives them (R152). -/
def State.tickLine (s : State) : Option Nat := if s.tbOn s.lineTb then some s.lineTb else none

/-- A tick is due: a new millisecond; where ticks have moved to a line timebase, its first whole millisecond at least
500 µs after the last tick; where they have fallen back to the free-running line count, its next 1,250,000 cycles
(R152). -/
def State.tickDue (s : State) : Bool :=
  if s.tickLine = s.tr.onLine then s.msIndex != s.tr.lastMs
  else match s.tickLine with
    | some _ => decide (s.tr.lastTick + 500000000 ≤ s.clk - s.lineTime % (10 ^ 9 * 2 ^ 48) / 2 ^ 48)
    | none => decide (s.clk / 10 ^ 9 ≠ s.tr.lastTick / 10 ^ 9)

/-- A reading of a CLKIN slot that a tick brings is a phase-detector result: at most one per period of the input, and at
most one per tick (R142). -/
def State.edgeDue (s : State) (ph : List (Nat × Int)) (i : Nat) : Bool :=
  s.on R.TR_SLOTs_STAT_ACTIVE i && (ph.any fun e => e.1 % 16 == i)
  && decide ((s.slotOf i).lastPhase + s.nomPs i ≤ s.clk)

/-- The last edge of each CLKIN slot whose reading a tick brings (R142, R153). -/
def State.takeEdges (s : State) (is : List Nat) : State :=
  is.foldl (fun s i => s.slotUpd i fun k => { k with
    lastPhase := k.lastPhase + max 1 (s.nomPs i) * ((s.clk - k.lastPhase) / max 1 (s.nomPs i)) }) s

/-- A CLKIN reference gives a phase-detector result at a tick (R142, R185). -/
def State.pdTick (s : State) (ph : List (Nat × Int)) (is : List Nat) (n : Nat) : State :=
  let i := s.takenSlot n
  if s.dpllState n ≤ 1 ∧ is.contains i = true ∧ (Tab.find? ph (16 * n + i)).isSome = true then s.pdResult n (s.phaseOf ph n i)
  else s

/-- What a tick does for one enabled DPLL after its candidates are known: the transition, a held BO, the
word, lock time and quality. -/
def State.dpllTick (s : State) (ph : List (Nat × Int)) (is : List Nat) (n : Nat) : State :=
  let t := (s.pdTick ph is n).transition ph n
  let t := if t.dpllState n = 0 ∧ t.on R.TR_DPLLn_STAT_BO_HELD n ∧ s.dpllState n = 0 then t.handBo n else t
  ((t.tickLoop n).hoqStep n).dpllSync n

/-- A tick of Taproot and Heartwood, in the order of R152; both port dies then receive the increments of the timebases
(R28). -/
def State.tick (s : State) (ph : List (Nat × Int)) : State :=
  let is := (List.range 8).filter (s.edgeDue ph)
  let t := if s.settleDue then s.endSettle else s
  let t := (List.range 16).foldl (fun s i => if s.wtrDue i then s.endWtr i else s) (t.takeEdges is).takePrio
  let t := t.dispAll.slotSync.ocxoSync
  let ens := (List.range 8).filter t.tbOn
  let t := ens.foldl (fun s n => s.dpllTick ph is n) t
  let t := { t with tr := { t.tr with lastTick := s.clk, lastMs := s.msIndex, onLine := s.tickLine } }
  let t := (ens.foldl (fun s n => s.tickTb n) t).sendIncrements
  (ens.foldl (fun s n => s.judgeTime n) t).judgeDepths

/-- TICK (R152): `ph` gives what the phase detectors read of the edges of the CLKIN inputs, keyed 16 × DPLL + slot, in
2^-16 ns. -/
def execTick (dt : Nat) (ph : List (Nat × Int)) (s : State) : Host.Outcome State Fault Refusal :=
  let s := s.elapse dt
  .next (if s.tickDue then s.tick ph else s)

end Sys2Proof.Machine
end

