-- ==== Sys2Proof/Machine/Sessions.lean ====
section
/-! DEFINITION. Timing sessions: their table, states, link records, messages, and what ports and slots do to
them (R32, R113 to R127). -/

namespace Sys2Proof.Machine

/-! ### The table -/

/-- The key of a session. -/
def sessKey (p dom : Nat) : Nat := 256 * p + dom

/-- A session, open or suspended. -/
def State.sess? (s : State) (k : Nat) : Option Session := Tab.find? s.sessions k

/-- Change a session. -/
def State.sessUpd (s : State) (k : Nat) (f : Session → Session) : State :=
  match s.sess? k with
  | some e => { s with sessions := Tab.put s.sessions k (f e) }
  | none => s

/-- The keys of a port's sessions. -/
def State.portSessions (s : State) (p : Nat) : List Nat := (s.sessions.map Prod.fst).filter fun k => k / 256 == p

/-- The unwrapped phase of a lane was reset: the next PHASE TLV of each session that uses it says so
(R120). -/
def State.phaseReset (s : State) (l : Nat) : State :=
  (s.sessions.map Prod.fst).foldl (fun (s : State) k =>
    if s.fpmLane (k / 256) = l then s.sessUpd k fun e => { e with phaseReset := true } else s) s

/-- The configuration of a port in a domain. -/
def State.ptpOf (s : State) (k : Nat) : Option PtpCfg := Tab.find? s.ptp k

/-- The timebase of a session: the one its domain maps to. -/
def State.sessTb (s : State) (k : Nat) : Nat := (s.domainTb (k % 256)).getD s.lineTb

/-- Bring PT_TSSTATp of a port up to date (R136). -/
def State.sessSync (s : State) (p : Nat) : State :=
  let l := (s.portSessions p).filterMap s.sess?
  s.queueSync.writes [{ f := R.PT_TSSTATp_SESSIONS, i := p, v := l.length },
    { f := R.PT_TSSTATp_NPX_STATE, i := p, v := l.foldl (fun a e => max a e.npx) 0 },
    { f := R.PT_TSSTATp_LINK_UNCAL, i := p, v := b2n (l.any fun e => !e.found) },
    { f := R.PT_TSSTATp_ASYM_MISMATCH, i := p, v := b2n (l.any fun e => e.mismatch) },
    { f := R.PT_TSSTATp_FINE_OK, i := p, v := b2n (s.phiAt p (s.clk + 800)).2 }]

/-! ### Reference slots fed by a session (R143, R146) -/

/-- The port-derived slots that name a session's port and domain. -/
def State.sessSlots (s : State) (k : Nat) : List Nat :=
  (List.range 16).filter fun i => portSlot i && s.get R.TR_SLOTs_CFG_PORT i == k / 256 && s.get R.TR_SLOTs_CFG_DOMAIN i == k % 256

/-- The slots of a session lose activity. -/
def State.sessQuiet (s : State) (k : Nat) : State :=
  (s.sessSlots k).foldl (fun s i => if s.on R.TR_SLOTs_STAT_ACTIVE i then s.loseActivity i else s) s

/-- Deliver a session's estimate to its slots. -/
def State.sessFeed (s : State) (k : Nat) (theta : Int) : State :=
  (s.sessSlots k).foldl (fun s i => if s.mayFeed i then s.sample i theta else s) s

/-- The quality and stepsRemoved that a session has received go to its slots (R151, R180); a slot whose pair has no
Announce yet shows none. -/
def State.slotQual (s : State) (i : Nat) : State :=
  if !portSlot i then s else
  let q := match s.sess? (s.slotKey i) with | some e => e.qual | none => none
  let (cls, acc, var) := q.getD (R.TR_SLOTs_QUAL_CLASS.reset i 0, R.TR_SLOTs_QUAL_ACCURACY.reset i 0, R.TR_SLOTs_QUAL_VARIANCE.reset i 0)
  s.writes [{ f := R.TR_SLOTs_QUAL_CLASS, i := i, v := cls }, { f := R.TR_SLOTs_QUAL_ACCURACY, i := i, v := acc },
    { f := R.TR_SLOTs_QUAL_VARIANCE, i := i, v := var }]

/-- Bring the quality of a session's slots up to date. -/
def State.sessQual (s : State) (k : Nat) : State := (s.sessSlots k).foldl State.slotQual s

/-- Firmware keeps PT_ASYMp and PT_LINKDLYp current from a session: its asymmetry, and with peer delay its mean path delay
as the mean link delay (R107; DEDUCED, log entry 204). -/
def State.keepTerms (s : State) (k : Nat) : State :=
  match s.sess? k, s.ptpOf k with
  | some e, some c => s.cfgWrites ([({ f := R.PT_ASYMp_ASYM, i := k / 256, v := wrap 32 e.asym } : FieldWrite)]
      ++ if c.delay = 1 then [{ f := R.PT_LINKDLYp_LINKDLY, i := k / 256, v := wrap 32 e.mpd }] else [])
  | _, _ => s

/-! ### Link records (R126, R127, R602) -/

/-- The partner's Node ID: from its CAP, and before one from its HELLO. -/
def State.partner (s : State) (k : Nat) : Option Nat :=
  match s.sess? k with
  | some e => if e.cap.isSome then some e.node else s.helloNode (k / 256)
  | none => none

/-- The LINK record of a port for a partner; a partner that nothing names matches only a record with
PARTNER_VALID = 0. -/
def State.linkRec (s : State) (p : Nat) (node : Option Nat) : Option (List Nat) :=
  let fits (e : Nat × List Nat) : Bool := s.nvIs 0x20 p e && (match node with
    | some n => bitOf (e.2.getD 3 0) 31 && bits (e.2.getD 3 0) 19 0 == n
    | none => !bitOf (e.2.getD 3 0) 31)
  (s.nv.filter fits).foldl (fun b e => match b with
    | none => some e.2
    | some c => if verLater (bits (e.2.getD 1 0) 31 16) (bits (c.getD 1 0) 31 16) then some e.2 else some c) none

/-- asymCheck of a LINK record between two nodes. -/
def asymCheck (a b : Nat) (w : List Nat) : Nat := crcWords [min a b, max a b, w.getD 4 0 % 65536, w.getD 5 0, w.getD 6 0]

/-- The delay asymmetry of a link in use, at a mean path delay, in 2^-16 ns (R126). -/
def asymAt (l : Option (Int × Int × Int)) (d : Int) : Int :=
  match l with
  | none => 0
  | some (fix, coef, sgn) => sgn * (fix * 65536 / 100000 + coef * d / 10 ^ 9)

/-- Look up a session's link record: usable when the check words agree or cannot be compared; otherwise the
link counts as having none, which raises LINK_UNCALIBRATED (R127). With `keep` a session in TRACK goes on with the
asymmetry it has until it next enters ALIGN (R598). -/
def State.findLink (s : State) (k : Nat) (keep : Bool) : State :=
  match s.sess? k with
  | none => s
  | some e =>
    let node := s.partner k
    let master := e.role == 1
    let t := match s.linkRec (k / 256) node with
      | none => s.sessUpd k fun e => { e with link := none, found := false, mismatch := false }
      | some w =>
        let own := match node with | some n => asymCheck s.nodeId n w | none => 0
        let bad := e.cap == some 1 && e.check != 0 && e.check != own
        let low := match node with
          | some n => if master then decide (s.nodeId < n) else decide (n < s.nodeId)
          | none => master
        let l := (sext 32 (w.getD 5 0), sext 32 (w.getD 6 0), if low then (1 : Int) else -1)
        let use := if bad then none else some l
        s.sessUpd k fun e => { e with link := if keep && e.npx == 5 then e.link else use, found := !bad, mismatch := bad }
    let t := match t.sess? k with
      | some e => if !e.found then t.raise 43 (k / 256) else t
      | none => t
    t.sessSync (k / 256)

/-- The lookup at the opening of a session, at its entries to ALIGN and LEGACY, and after a write of its record. -/
def State.lookLink (s : State) (k : Nat) : State := s.findLink k false

/-! ### NPX (R117 to R122) -/

/-- NPX may run on a port (R117). -/
def State.npxOn (s : State) (p : Nat) : Bool :=
  s.get R.PT_NPX_CFG_NPX_ORG_ID != 0 && s.on R.PT_NPX_CFG_NPX_EN && s.portMode p != 0

/-- The header of an NPX TLV: type, length, organizationId and subtype (R118). -/
def State.tlvHead (s : State) (len sub : Nat) : List Byte :=
  beBytes 2 0x8000 ++ beBytes 2 len ++ beBytes 3 (s.get R.PT_NPX_CFG_NPX_ORG_ID) ++ beBytes 3 sub

/-- The CAP TLV of a session (R119): version 0 in LEGACY, and otherwise version 1. -/
def State.capTlv (s : State) (k : Nat) : List Byte :=
  let p := k / 256
  let v1 := match s.sess? k with | some e => e.npx != 3 | none => true
  let node := s.partner k
  let rec_ := s.linkRec p node
  let flags := 3 + 4 * b2n (modeFwdClk (s.portMode p)) + 8 * b2n rec_.isSome
  let body := beBytes 1 (b2n v1) ++ beBytes 1 flags ++ beBytes 4 s.nodeId ++ beBytes 1 (s.depthOf (s.sessTb k))
    ++ beBytes 1 (s.portMode p) ++ beBytes 1 (s.get R.PT_NPX_CFG_NPX_RATE_LOG) ++ [0]
  let tail := match rec_, node with
    | some w, some n => beBytes 2 (w.getD 4 0) ++ beBytes 4 (asymCheck s.nodeId n w)
    | some w, none => beBytes 2 (w.getD 4 0) ++ beBytes 4 0
    | none, _ => beBytes 6 0
  s.tlvHead (if v1 then 22 else 16) 1 ++ body ++ (if v1 then tail else [])

/-- Send a TLV in a Signaling message to a session's peer, in class 7 of its port (R117, R121). -/
def State.sendTlv (s : State) (k : Nat) (tlv : List Byte) : State :=
  match s.sess? k, s.ptpOf k with
  | some e, some c =>
    let seq := Tab.get 0 c.seq 12
    let t := { s with ptp := Tab.put s.ptp k { c with seq := Tab.put c.seq 12 ((seq + 1) % 65536) } }
    t.sendOrig { key := k, kind := 12, transport := c.transport, seq := seq, body := beBytes 10 e.peer ++ tlv }
  | _, _ => s

/-- Send a CAP TLV (R121). -/
def State.sendCap (s : State) (k : Nat) : State := (s.sendTlv k (s.capTlv k)).sessUpd k fun e => { e with capSent := s.clk }

/-- A session as it enters an NPX state: exchanges and phases of an earlier state do not count in it, and OFF keeps
nothing of the partner's CAP (R122, R127). -/
def Session.enterNpx (e : Session) (st now : Nat) : Session :=
  let x : Session := { e with npx := st, since := now, fine := false, anchor := if st = 5 then e.anchor else none
                              phases := if st = 5 then e.phases else [], phaseOk := st == 5 && e.phaseOk }
  if st = 0 then { x with cap := none, node := 0, capFlags := 0, capDepth := 0, offer := 0x80, check := 0, readings := [] }
  else x

/-- Move a session to an NPX state (R122): TRACK and HOLD raise NPX_STATE, entries to ALIGN and LEGACY look
up the link record, PROBE sends a CAP. -/
def State.setNpx (s : State) (k st : Nat) : State :=
  match s.sess? k with
  | none => s
  | some e =>
    if e.npx = st ∧ st ≠ 4 then s
    else
      let t := (s.sessUpd k fun e => e.enterNpx st s.clk).sessSync (k / 256)
      let t := if st = 5 ∨ st = 6 then t.raise 42 (det2 (k / 256) st) else t
      let t := if st = 4 ∨ st = 3 then t.lookLink k else t
      if st = 1 then t.sendCap k else t

/-- Start NPX on a session in OFF that is not suspended where R117 is met; stop it where it is not. -/
def State.judgeNpx (s : State) (k : Nat) : State :=
  match s.sess? k with
  | none => s
  | some e =>
    if !s.npxOn (k / 256) then (if e.npx = 0 then s else s.setNpx k 0)
    else if e.suspended.isNone && e.npx == 0 then s.setNpx k 1
    else s

/-- Judge NPX on every session; where the organizationId has changed, each session starts from OFF again
(R141). -/
def State.npxCfg (s : State) (orgChanged : Bool) : State :=
  ((s.sessions.map Prod.fst).foldl (fun s k => (if orgChanged then s.setNpx k 0 else s).judgeNpx k) s).queueSync

/-! ### Opening, suspending, closing (R113 to R115) -/

/-- Close a session: its slots lose activity. -/
def State.closeSession (s : State) (k : Nat) : State :=
  let t := s.sessQuiet k
  ((({ t with sessions := Tab.del t.sessions k }).sessQual k).sessSync (k / 256)).judgeDepths

/-- Close a port's sessions. -/
def State.closePort (s : State) (p : Nat) : State := (s.portSessions p).foldl (fun s k => s.closeSession k) s

/-- Suspend a port's sessions: their slots lose activity at once (R115). -/
def State.suspendPort (s : State) (p : Nat) : State :=
  ((s.portSessions p).foldl (fun s k =>
    (s.sessUpd k fun e => { e with suspended := if e.suspended.isNone then some s.clk else e.suspended }).sessQuiet k) s).sessSync p

/-- A port has returned: each suspended session resumes without admission, its NPX state from ALIGN
(R115). -/
def State.resumePort (s : State) (p : Nat) : State :=
  (s.portSessions p).foldl (fun s k => match s.sess? k with
    | some e => if e.suspended.isSome then
        let t := (s.sessUpd k fun e => { e with suspended := none }).judgeNpx k
        if e.npx ≠ 0 ∧ t.npxOn (k / 256) = true then t.setNpx k 4 else t
      else s
    | none => s) s

/-- Admissions of the last 10 ms of the keeper (R114). -/
def State.recentAdmits (s : State) : List Nat := s.admits.filter fun a => decide (100 * (s.keeper - a) < 32768)

/-- A new peer of a port and domain: ignored when all 256 sessions are in use or when 16 were admitted within
10 ms, and otherwise its session opens with a role on the timing queue with the least load (R113, R114, R127,
R414). -/
def State.openSession (s : State) (k role peer : Nat) : State :=
  let p := k / 256
  if 256 ≤ s.sessions.length then (s.count p 58).raise 41 p
  else if 16 ≤ s.recentAdmits.length then s.count p 57
  else
    let e : Session := { role := role, peer := peer, since := s.clk, tq := s.freeQueue }
    let t := { s with sessions := Tab.put s.sessions k e, admits := s.keeper :: s.recentAdmits }
    ((t.sessQual k).lookLink k).judgeNpx k

end Sys2Proof.Machine
end

