-- ==== Sys2Proof/Machine/LaneOps.lean ====
section
/-! DEFINITION. Lanes: states, loss of lock, caches, waves and the constants of a port's mode (R100, R101,
R104, R134, R282 to R286, R297). -/

namespace Sys2Proof.Machine

/-! ### Lane records -/

/-- A lane beside its registers. -/
def State.laneRec (s : State) (l : Nat) : Lane := Tab.get {} s.lane l

/-- Change a lane. -/
def State.laneUpd (s : State) (l : Nat) (f : Lane → Lane) : State := { s with lane := Tab.upd {} s.lane l f }

/-- The state of a lane: 0 DISABLED, 1 DETECT, 2 TRAIN, 3 LOCK, 4 CAPEX, 5 ACTIVE, 6 TEST (R304). -/
def State.laneState (s : State) (l : Nat) : Nat := s.get R.LN_Ll_STAT_STATE l

/-- A spare lane. -/
def isSpare (l : Nat) : Bool := l % 5 == 4

/-- The substitution of a grove. -/
def State.subst? (s : State) (g : Nat) : Option Subst := Tab.find? s.subst g

/-- The state of a grove's substitution: 0 none to 4 releasing (R302). -/
def State.subState (s : State) (g : Nat) : Nat := s.get R.LN_GRVg_STAT_SUB_STATE g

/-- The enabled port that holds a service lane. -/
def State.holder (s : State) (l : Nat) : Option Nat :=
  ((List.range 4).map fun i => l / 5 * 4 + i).find? fun p => s.on R.PT_CFGp_EN p && (s.portLanes p).contains l

/-- The port a lane works for: the one that holds it, or for a spare the one it stands in for. -/
def State.lanePort (s : State) (l : Nat) : Option Nat :=
  if isSpare l then (s.subst? (l / 5)).map Subst.port else s.holder l

/-- The lanes that carry a port now. -/
def State.liveLanes (s : State) (p : Nat) : List Nat := (s.portLanes p).map s.actual

/-- The lane's training wave is open: that of its port's lowest lane; a spare's when a substitution claims
it (R285). After its own reset a die opens its waves again (R569). -/
def State.waveOpen (s : State) (l : Nat) : Bool :=
  if isSpare l then s.subState (l / 5) != 0
  else
    let k := match s.holder l with | some p => p % 4 | none => l % 5
    decide (k < s.get R.LN_GLOBAL_STAT_WAVE)
    && (match Tab.find? s.waveDie (l / 30) with
      | some t => decide (t + 60 * 10 ^ 9 * k ≤ s.clk)
      | none => true)

/-! ### The fine phase meter (R104) -/

/-- VALID of a lane's meter falls: the unwrapped phase is reset, and a session that tracks by it goes to
HOLD (R104, R122). -/
def State.fpmDrop (s : State) (l : Nat) : State :=
  let was := s.on R.LN_FPMl_STAT_VALID l
  let t := (s.set R.LN_FPMl_STAT_VALID 0 l).set R.LN_FPMl_STAT_LOCKED 0 l
  let t := t.set64 R.LN_FPMl_UNW_LO_UNW R.LN_FPMl_UNW_HI_UNW 0 l
  let t := { t with hi := { t.hi with hiLatch := Tab.del t.hi.hiLatch (R.LN_FPMl_UNW_LO_UNW.addr + R.LN_FPMl_UNW_LO_UNW.s1 * l) } }
  let t := ({ t with fpm := Tab.put t.fpm l {} }).phaseReset l
  if was then
    (t.sessions.map Prod.fst).foldl (fun s k => match s.sess? k with
      | some e => if e.npx = 5 && s.fpmLane (k / 256) == l then s.setNpx k 6 else s
      | none => s) t
  else t

/-! ### The equalisation cache (R284) -/

/-- A lane's cache entry. -/
def State.cache? (s : State) (l : Nat) : Option LaneCache := Tab.find? s.us.lanes l

/-- Set a lane's cache entry. -/
def State.setCache (s : State) (l : Nat) (c : LaneCache) : State := { s with us := { s.us with lanes := Tab.put s.us.lanes l c } }

/-- The cache of a lane is valid: within CACHE_HOLD of its loss, or at a warm start. -/
def State.cacheValid (s : State) (l : Nat) : Bool :=
  match s.cache? l with
  | none => false
  | some c => !c.stale && (c.warm || (match (s.laneRec l).lost with
      | some t => decide (s.clk ≤ t + s.get R.LN_GLOBAL_CFG_CACHE_HOLD * 10 ^ 9)
      | none => false))

/-- Show whether a lane's cache is valid. -/
def State.cacheSync (s : State) (l : Nat) : State := s.setB R.LN_Ll_STAT_EQ_CACHED (s.cacheValid l) l

/-- Discard a lane's cache. -/
def State.dropCache (s : State) (l : Nat) : State :=
  { s with us := { s.us with lanes := Tab.del s.us.lanes l } }.set R.LN_Ll_STAT_EQ_CACHED 0 l

/-! ### Changes of state (R282) -/

/-- A lane enters a state, raising LANE_STATE on a change. -/
def State.laneGo (s : State) (l st : Nat) : State :=
  let t := (s.set R.LN_Ll_STAT_STATE st l).laneUpd l fun x => { x with since := s.clk }
  if s.laneState l = st then t else t.raise 36 (det2 l st)

/-- A lane loses its partner: no signal, no lock, no alignment, no valid fine phase. -/
def State.laneDark (s : State) (l : Nat) : State :=
  let t := s.writes [{ f := R.LN_Ll_STAT_SIG_DET, i := l, v := 0 }, { f := R.LN_Ll_STAT_CDR_LOCK, i := l, v := 0 },
    { f := R.LN_Ll_STAT_ALIGNED, i := l, v := 0 }, { f := R.LN_Ll_STAT_RX_IDLE, i := l, v := 0 }]
  (t.laneUpd l fun x => { x with signal := none, cached := false, burstTo := 0, idleFrom := none, rmOver := 0 }).fpmDrop l

/-- A lane enters DETECT: polarity and precoder changes take effect, and it transmits electrical idle while
its wave is not open (R282, R307). -/
def State.laneDetect (s : State) (l : Nat) : State :=
  let t := (s.laneDark l).laneGo l 1
  let quiet := !t.waveOpen l || decide (t.clk < (t.laneRec l).quietTo)
  let t := t.writes [{ f := R.LN_Ll_STAT_WAVE_WAIT, i := l, v := b2n (!t.waveOpen l) },
    { f := R.LN_Ll_STAT_IDLE, i := l, v := b2n quiet },
    { f := R.LN_Ll_STAT_PRECODE_TX_ACT, i := l, v := if s.get R.LN_Ll_CFG_RATE l = 4 then s.get R.LN_Ll_CFG_PRECODE_TX l else 0 },
    { f := R.LN_Ll_STAT_PRECODE_RX_ACT, i := l, v := if s.get R.LN_Ll_CFG_RATE l = 4 then s.get R.LN_Ll_CFG_PRECODE_RX l else 0 }]
  (t.laneUpd l fun x => { x with polRx := s.on R.LN_Ll_CFG_POL_RX l, polTx := s.on R.LN_Ll_CFG_POL_TX l }).cacheSync l

/-- A lane enters DISABLED and transmits electrical idle. -/
def State.laneOff (s : State) (l : Nat) : State :=
  let t := (s.laneDark l).laneGo l 0
  t.writes [{ f := R.LN_Ll_CFG_EN, i := l, v := 0 }, { f := R.LN_Ll_CFG_RATE, i := l, v := 0 },
    { f := R.LN_Ll_STAT_WAVE_WAIT, i := l, v := 0 }, { f := R.LN_Ll_STAT_IDLE, i := l, v := 1 },
    { f := R.LN_Ll_STAT_FOREIGN, i := l, v := 0 }, { f := R.LN_Ll_STAT_IDLE_CAP, i := l, v := 0 }]

/-- A port claims a lane: it leaves DISABLED for DETECT at the rate of the mode; the second lane of a
forwarded-clock port carries the clock (R280, R292). -/
def State.laneClaim (s : State) (p i : Nat) : State :=
  let m := s.portMode p
  let l := laneOf p + i
  let rate := if modeFwdClk m && i == 1 then 7 else modeLaneRate m
  ((s.set R.LN_Ll_CFG_EN 1 l).set R.LN_Ll_CFG_RATE rate l).laneDetect l

/-! ### Constants of a port's mode (R100, R101, R134, R297, R602) -/

/-- The PORT_K record's SUM and SPLIT of a port's mode, in 2^-16 ns and 2^-16. -/
def State.portK (s : State) (p : Nat) : Option (Nat × Nat) :=
  let m := s.portMode p
  let half := if m ≤ 5 then 0 else 1
  let i := if m ≤ 5 then m - 1 else m - 6
  match s.nvRec 0x10 (2 * p + half) with
  | none => none
  | some e =>
    let sum := e.2.getD (4 + 2 * i) 0
    let want : Int := 100 * (kTxNominal m + kRxNominal m)
    let got : Int := sum * 100000 / 65536
    if m != 0 && decide ((got - want).natAbs ≤ s.get R.CA_LIMk_ABS_ABS_WIN 5) then some (sum, bits (e.2.getD (5 + 2 * i) 0) 31 16)
    else none

/-- K_tx and K_rx of a SUM and a SPLIT, in 2^-16 ns. -/
def splitK (sum split : Nat) : Nat × Nat := let tx := (sum * split + 32768) / 65536; (tx, sum - tx)

/-- The SUBST record of a lane: delay and phase difference, in 2^-16 ns. -/
def State.substRec (s : State) (l : Nat) : Option (Int × Int) :=
  (s.nvRec 0x17 l).map fun e => (sext 32 (e.2.getD 4 0), sext 32 (e.2.getD 5 0))

/-- A port's lowest lane is carried by the spare. -/
def State.lowSubst (s : State) (p : Nat) : Bool := s.carried (p / 4) == some (laneOf p)

/-- Show DELAY_UNCAL of a port (R101, R297). -/
def State.delaySync (s : State) (p : Nat) : State :=
  s.setB R.PT_TSSTATp_DELAY_UNCAL ((s.portK p).isNone || (s.lowSubst p && (s.substRec (laneOf p)).isNone)) p

/-- Load the constants of a port's mode: calibrated, or nominal with DELAY_UNCAL; the delay difference of a
substituted lowest lane counts with them. -/
def State.loadK (s : State) (p : Nat) : State :=
  let m := s.portMode p
  let (tx, rx) := match s.portK p with
    | some (sum, split) => splitK sum split
    | none => (linOf (kTxNominal m) 1, linOf (kRxNominal m) 1)
  let d := if s.lowSubst p then match s.substRec (laneOf p) with | some (d, _) => d | none => 0 else 0
  (s.cfgWrites [{ f := R.PT_KTXp_K_TX, i := p, v := wrap 32 (tx + d) },
    { f := R.PT_KRXp_K_RX, i := p, v := wrap 32 (rx + d) }]).delaySync p

end Sys2Proof.Machine
end

