-- ==== Sys2Proof/Machine/PortOps.lean ====
section
/-! DEFINITION. The port state machine: causes, hold, return, enabling and disabling (R308, R309, R313 to
R320, R452). -/

namespace Sys2Proof.Machine

/-- The state of a port: 0 DISABLED, 1 LINKING, 2 UP, 3 HOLD, 4 DOWN (R329). -/
def State.portState (s : State) (p : Nat) : Nat := s.get R.PT_STATp_STATE p

/-- Every lane that carries a port is ACTIVE. -/
def State.lanesActive (s : State) (p : Nat) : Bool := (s.liveLanes p).all fun l => s.laneState l == 5

/-- Show the causes of a port: a lane not ACTIVE, a lane in TEST, degradation, and a presence change until
the pin has been stable for 10 µs and every lane is ACTIVE again (R314, R315). -/
def State.causeSync (s : State) (p : Nat) : State :=
  let loss := !s.lanesActive p
  let prs := match (s.portOf p).prs with
    | some t => loss || decide (s.clk < t + 10 ^ 7)
    | none => false
  let t := if prs then s else s.portUpd p fun x => { x with prs := none }
  t.writes [{ f := R.PT_STATp_C_LOSS, i := p, v := b2n loss },
    { f := R.PT_STATp_C_DEG, i := p, v := b2n (s.portOf p).degraded }, { f := R.PT_STATp_C_PRS, i := p, v := b2n prs },
    { f := R.PT_STATp_C_TEST, i := p, v := b2n ((s.liveLanes p).any fun l => s.laneState l == 6) }]

/-- The cause bits PT_STATp[27:24]. -/
def State.causes (s : State) (p : Nat) : Nat :=
  8 * s.get R.PT_STATp_C_LOSS p + 4 * s.get R.PT_STATp_C_DEG p + 2 * s.get R.PT_STATp_C_PRS p + s.get R.PT_STATp_C_TEST p

/-- The largest level of a class's bucket, in 10^-6 bits (R372). -/
def State.burstOf (s : State) (p c : Nat) : Int := (s.get R.SC_Pp_SHAPEc_BURSTM1 p c + 1) * 256 * 8 * 10 ^ 6

/-- The level of a class's bucket; full before its first use. -/
def State.bucketOf (s : State) (p c : Nat) : Int :=
  min (s.burstOf p c) (Tab.get (s.burstOf p c) (Tab.get {} s.sched p).bucket c)

/-- Fill the buckets of a port up to now; they do not fill while it is down (R372). -/
def State.fillBuckets (s : State) (p : Nat) : State :=
  let dt : Nat := if s.on R.PT_STATp_DOWN p then 0 else s.clk - (Tab.get {} s.sched p).bucketAt
  let lvl (c : Nat) : Int := min (s.burstOf p c) (s.bucketOf p c + s.get R.SC_Pp_SHAPEc_RATE p c * dt)
  let shaped := (List.range 7).filter fun c => s.get R.SC_Pp_SHAPEc_RATE p c != 0
  { s with sched := Tab.upd {} s.sched p fun x => { x with
      bucketAt := s.clk, bucket := shaped.foldl (fun b c => Tab.put b c (lvl c)) x.bucket } }

/-- A calibration run ends: outcome 1 complete, or 2 aborted with its cause, which leaves the target in progress
with result 3 (R594, R596, R609). -/
def State.calOver (s : State) (outcome cause : Nat) : State :=
  let cut : List CalRes := if outcome = 2 then (s.cal.left.take 1).map fun k =>
      { item := s.get R.CA_RUN_STAT_ITEM, target := k, result := 3, value := 0, prev := 0, quality := 0 } else []
  let t := { s with cal := { s.cal with left := [], apply := none, results := (s.cal.results ++ cut).take 64 } }
  let t := t.writes [{ f := R.CA_RUN_STAT_RUNNING, v := 0 }, { f := R.CA_RUN_STAT_OUTCOME, v := outcome },
    { f := R.CA_RUN_STAT_ABORT_CAUSE, v := cause }]
  t.raise 109 (det2 (s.get R.CA_RUN_STAT_RUN_SEQ) (outcome - 1))

/-- A PORT_K run measures a port. -/
def State.calOnPort (s : State) (p : Nat) : Bool :=
  s.on R.CA_RUN_STAT_RUNNING && s.get R.CA_RUN_STAT_ITEM == 5 && s.cal.left.head? == some p

/-- A port enters a state, with its events (R315); leaving UP aborts a PORT_K run on it (R596). -/
def State.portGo (s : State) (p st : Nat) : State :=
  let t := (s.fillBuckets p).writes [{ f := R.PT_STATp_STATE, i := p, v := st }, { f := R.PT_STATp_DOWN, i := p, v := b2n (st == 3 || st == 4) }]
  let t := if s.portState p = st then t else t.raise 32 (det2 p st)
  let t := if st ≠ 2 ∧ s.portState p = 2 ∧ t.calOnPort p = true then t.calOver 2 3 else t
  let t := if st = 3 then t.raise 34 (det2 p (s.causes p)) else if st = 2 then t.raise 33 p else t
  if s.pairPort p then t.pairLink else t

/-- HOLD_TIME ends: every held frame is flushed and the port enters DOWN (R319). -/
def State.holdEnd (s : State) (p : Nat) : State :=
  let t := (List.range 5).foldl (fun s c => s.flush p c 45) s
  (t.portUpd p fun x => { x with hold := none }).portGo p 4

/-- A port enters HOLD: egress stops, classes 5 to 7 are flushed, the timer starts and the sessions are
suspended; with HOLD_TIME 0 the port passes on to DOWN (R316). -/
def State.enterHoldPort (s : State) (p : Nat) : State :=
  let t := (s.abandon p).count p 20
  let t := [7, 6, 5].foldl (fun s c => s.flush p c 43) t
  let h := (s.clk, s.get R.PT_HOLDp_HOLD_TIME p, s.get R.PT_HOLDp_AGE_LIMIT p)
  let t := t.portUpd p fun x => { x with
    hold := some h, downAt := if x.downAt.isNone then some s.clk else x.downAt, loop := false, pausing := [] }
  let t := (t.suspendPort p).portGo p 3
  if h.2.1 = 0 then t.holdEnd p else t

/-- Drop the head frames of a queue while they are older than a limit in 10 µs (R318). -/
def State.dropAged (s : State) (p c lim : Nat) : Nat → State
  | 0 => s
  | n + 1 => match s.queue p c with
    | [] => s
    | id :: rest => match s.frame? id with
      | none => s
      | some f =>
        let age := - linDist f.line.t (linear (s.time f.line.tb))
        if age > lim * 10000 * 65536 then ((s.setQueue p c rest).dropCopy id p 44).dropAged p c lim n else s

/-- A port enters UP: from HOLD its held frames are aged; its sessions resume, and its ingress use is judged again (R115,
R318, R322). -/
def State.portUp (s : State) (p : Nat) : State :=
  let t := match (s.portOf p).hold with
    | some (_, _, lim) => (List.range 5).foldl (fun (s : State) c => s.dropAged p c lim (s.queue p c).length) s
    | none => s
  let t := t.portUpd p fun x => { x with hold := none, downAt := none, replaced := false }
  ((t.portGo p 2).resumePort p).judgePause p

/-- Judge a port's causes and make the change of state they call for (R315). -/
def State.judgePort (s : State) (p : Nat) : State :=
  let t := s.causeSync p
  let st := t.portState p
  let any := t.causes p != 0
  if st = 1 ∨ st = 3 ∨ st = 4 then (if any then t else t.portUp p)
  else if st = 2 then (if any then t.enterHoldPort p else t)
  else t

/-- Disable a port: every class is flushed with reason PORT_DISABLED, its sessions close, its lanes leave
(R282, R315). -/
def State.portDisable (s : State) (p : Nat) : State :=
  let t := s.abandon p
  let t := (List.range 8).foldl (fun s c => s.flush p c 46) t
  let t := t.closePort p
  let t := (s.liveLanes p ++ s.portLanes p).eraseDups.foldl (fun s l => s.laneOff l) t
  let t := t.portUpd p fun x => { x with hold := none, downAt := none, prs := none, degraded := false, clean := 0, loop := false, pausing := [] }
  (t.writes [{ f := R.PT_STATp_C_LOSS, i := p, v := 0 }, { f := R.PT_STATp_C_DEG, i := p, v := 0 },
    { f := R.PT_STATp_C_PRS, i := p, v := 0 }, { f := R.PT_STATp_C_TEST, i := p, v := 0 }]).portGo p 0

/-- A port claims the spare that carries one of its lanes; the lane itself stays freed (R296, R308). -/
def State.spareClaim (s : State) (p i : Nat) : State :=
  let sp := spareOf (p / 4)
  let rate := modeLaneRate (s.portMode p)
  let t := s.writes [{ f := R.LN_Ll_CFG_EN, i := laneOf p + i, v := 1 }, { f := R.LN_Ll_CFG_RATE, i := laneOf p + i, v := rate },
    { f := R.LN_Ll_CFG_EN, i := sp, v := 1 }, { f := R.LN_Ll_CFG_RATE, i := sp, v := rate }]
  t.laneDetect sp

/-- Enable a port: its lanes, or the spare in the place of one, leave DISABLED and it enters LINKING. -/
def State.portEnable (s : State) (p : Nat) : State :=
  ((List.range (modeLanes (s.portMode p))).foldl (fun s i =>
    if s.actual (laneOf p + i) = laneOf p + i then s.laneClaim p i else s.spareClaim p i) s).portGo p 1

/-- A word of four reserves, each raised to a least, and the sum of its four. -/
def raisedTo (least w : Nat) : Nat := (List.range 4).foldl (fun a c => a + max least (bits w (8 * c + 7) (8 * c)) * 2 ^ (8 * c)) 0

def sum4 (w : Nat) : Nat := (List.range 4).foldl (fun a c => a + bits w (8 * c + 7) (8 * c)) 0

/-- What the reserves of a port take more from the pool when none is below a least (R356). -/
def State.reserveMore (s : State) (p least : Nat) : Nat :=
  let lo := s.get R.CL_RSVp_LO_RSV p
  let hi := s.get R.CL_RSVp_HI_RSV p
  sum4 (raisedTo least lo) + sum4 (raisedTo least hi) - (sum4 lo + sum4 hi)

/-- The cells of a frame of MAX_FRAME bytes. -/
def leastCells (maxFrame : Nat) : Nat := (maxFrame + 255) / 256

/-- The reserves of a port below the least for its MAX_FRAME are raised to it (R356). -/
def State.raiseReserves (s : State) (p : Nat) : State :=
  let least := leastCells (s.get R.PT_CFGp_MAX_FRAME p)
  let more := s.reserveMore p least
  if more = 0 then s
  else (s.cfgWrites [{ f := R.CL_RSVp_LO_RSV, i := p, v := raisedTo least (s.get R.CL_RSVp_LO_RSV p) },
    { f := R.CL_RSVp_HI_RSV, i := p, v := raisedTo least (s.get R.CL_RSVp_HI_RSV p) }]).set
    R.CL_POOL_STAT_SHARED_FREE (s.get R.CL_POOL_STAT_SHARED_FREE - more)

/-- Make the writes of a PT_CFGp and what follows from them: an enabled port that changes its mode or is
disabled passes through DISABLED, new constants are loaded, an enabled port enters LINKING (R309). -/
def State.portCfgWrite (s : State) (p : Nat) (ws : List FieldWrite) : State :=
  let was := s.on R.PT_CFGp_EN p
  let u := s.writes ws
  let moved := s.portMode p != u.portMode p
  let off := was && (!u.on R.PT_CFGp_EN p || moved)
  let t := if off then s.portDisable p else s
  let t := (t.cfgWrites ws).raiseReserves p
  let t := if moved then (t.loadK p).foModeChange p else t
  if t.on R.PT_CFGp_EN p && (!was || moved) then t.portEnable p else t

/-- A mode allows a port's lane index (R308); mode 0 claims no lane. -/
def modeFits (p m : Nat) : Bool :=
  let i := p % 4
  let n := modeLanes m
  m == 0 || n == 1 || (n == 2 && i % 2 == 0) || (n == 4 && i == 0)

/-- A mode may use a port's lanes: its lane index is allowed, and no other enabled port holds them (R308). -/
def State.lanesFit (s : State) (p m : Nat) : Bool :=
  let n := modeLanes m
  modeFits p m
  && ((List.range n).map fun k => laneOf p + k).all fun l => match s.holder l with
    | some q => q == p
    | none => true

/-! ### The PFC check (R452) -/

/-- Class c is carried by PFC on some port. -/
def State.pfcUsed (s : State) (c : Nat) : Bool := (List.range 48).any fun p => bitOf (s.get R.PT_FCp_PFC_EN p) c

/-- The first rule that class c breaks, with the port found in breach. -/
def State.pfcBreach (s : State) (c : Nat) : Option (Nat × Nat) :=
  let img := s.epoch
  let r1 := (List.range 48).find? fun p => (List.range 8).any fun k =>
    k != c && bits ((s.portEntry img p).getD 1 0) (3 * k + 2) (3 * k) == c
  let cls (e : Nat × List Nat) : Bool := e.1 / 2 ^ 20 == img * 16 + 2 && entryValid 2 e.2 && bitOf (e.2.getD 16 0) 3
    && (bits (e.2.getD 16 0) 2 0 == c
      || Nat.land (Nat.xor (c * 2 ^ 19) (wordsNat (e.2.take 8))) (Nat.land (wordsNat ((e.2.drop 8).take 8)) (7 * 2 ^ 19)) == 0)
  let flow (e : Nat × List Nat) : Bool := e.1 / 2 ^ 20 == img * 16 + 1 && entryValid 1 e.2 && bits (e.2.getD 10 0) 18 16 == c
  let r2 := List.any s.fwd.img fun e => cls e || flow e
  let r3 := (List.range 48).find? fun p => bitOf ((s.portEntry img p).getD 0 0) 19
    && bits ((s.portEntry img p).getD 2 0) (3 * c + 2) (3 * c) != c
  match r1 with
  | some p => some (p, 1)
  | none => if r2 then some (((List.range 48).find? fun p => bitOf (s.get R.PT_FCp_PFC_EN p) c).getD 0, 2)
    else r3.map fun p => (p, 3)

/-- The check of R452: sending stops for every class that breaks a rule, and PFC_CHECK is raised. -/
def State.pfcCheck (s : State) : State :=
  let bad := (List.range 5).filterMap fun c => if s.pfcUsed c then (s.pfcBreach c).map fun b => (c, b) else none
  let t := s.set R.RD_PFC_STAT_CLASSES (bad.foldl (fun a b => a + 2 ^ b.1) 0)
  match bad.head? with
  | none => t.set R.RD_PFC_STAT_FAIL 0
  | some (_, p, r) => (t.writes [{ f := R.RD_PFC_STAT_FAIL, v := 1 }, { f := R.RD_PFC_STAT_PORT, v := p },
      { f := R.RD_PFC_STAT_RULE, v := r }]).raise 88 (det2 p r)

end Sys2Proof.Machine
end

