-- ==== Sys2Proof/Machine/Lanes.lean ====
section
/-! DEFINITION. Bring-up of lanes, training waves, capability exchange, electrical idle and rate matching
(R282 to R291). -/

namespace Sys2Proof.Machine

/-! ### Groups of lanes -/

/-- The lanes that move together with a lane: those of its port, or the lane alone. -/
def State.group (s : State) (l : Nat) : List Nat :=
  match s.lanePort l with
  | some p => if (s.liveLanes p).contains l then s.liveLanes p else [l]
  | none => [l]

/-- Judge the port that a lane works for. -/
def State.judgeLane (s : State) (l : Nat) : State :=
  match s.lanePort l with
  | some p => s.judgePort p
  | none => s

/-- INJ_MODE 3 forces the transmitter into electrical idle, and leaving it ends that (R300). -/
def State.forcedIdle (s : State) (l was : Nat) : State :=
  if s.get R.LN_Ll_INJ_INJ_MODE l = 3 then s.set R.LN_Ll_STAT_IDLE 1 l
  else if was = 3 then s.set R.LN_Ll_STAT_IDLE 0 l else s

/-- End every injection of a lane. -/
def State.endInject (s : State) (l : Nat) : State :=
  (s.cfgWrites [{ f := R.LN_Ll_INJ_INJ_MODE, i := l, v := 0 }]).forcedIdle l (s.get R.LN_Ll_INJ_INJ_MODE l)

/-- A test ends: the lane returns to DETECT, and a lane that neither a port nor a substitution claims goes on to DISABLED
(R282). -/
def State.endTest (s : State) (l : Nat) : State :=
  if s.laneState l = 6 then
    let t := ((s.endInject l).cfgWrites [{ f := R.LN_Ll_TEST_GEN_PAT, i := l, v := 0 },
      { f := R.LN_Ll_TEST_CHK_PAT, i := l, v := 0 }, { f := R.LN_Ll_TEST_LOOP, i := l, v := 0 },
      { f := R.LN_Ll_TEST_SQUELCH, i := l, v := 0 }]).laneDetect l
    (if t.on R.LN_Ll_CFG_EN l then t else t.laneOff l).judgeLane l
  else s

/-- A lane is lost or restarted: every lane of its port returns to DETECT, and the cache of one that was in CAPEX or ACTIVE
stays valid for CACHE_HOLD (R282 to R284). -/
def State.groupDetect (s : State) (l : Nat) : State :=
  let t := (s.group l).foldl (fun s k =>
    let t := if 4 ≤ s.laneState k then s.laneUpd k fun x => { x with lost := some s.clk } else s
    if t.laneState k = 0 then t else if t.laneState k = 6 then t.endTest k else t.laneDetect k) s
  t.judgeLane l

/-! ### Training waves (R285) -/

/-- Show which lanes wait for their wave; an open lane in DETECT stops its electrical idle. -/
def State.waveSync (s : State) : State :=
  (List.range 60).foldl (fun s l =>
    if s.laneState l = 1 then
      (s.setB R.LN_Ll_STAT_WAVE_WAIT (!s.waveOpen l) l).setB R.LN_Ll_STAT_IDLE
        (!s.waveOpen l || decide (s.clk < (s.laneRec l).quietTo)) l
    else s) s

/-- The next wave is due: 60 ms after the one before, from the entry to S6. -/
def State.waveDue (s : State) : Bool :=
  match s.waveFrom with
  | some t => s.get R.LN_GLOBAL_STAT_WAVE < 4 && decide (t + 60 * 10 ^ 9 * s.get R.LN_GLOBAL_STAT_WAVE ≤ s.clk)
  | none => false

/-- Open the next wave. -/
def State.openWave (s : State) : State := (s.set R.LN_GLOBAL_STAT_WAVE (s.get R.LN_GLOBAL_STAT_WAVE + 1)).waveSync

/-- TRAINING_WAVE_OPEN (R285). -/
def execTrainingWaveOpen (dt : Nat) (s : State) : Host.Outcome State Fault Refusal :=
  let t := s.elapse dt
  .next (if t.waveDue then t.openWave else if t.waveDie.isEmpty then t else t.waveSync)

/-! ### DETECT, TRAIN and LOCK (R282, R284) -/

/-- Link training runs on a lane: TRAIN_EN, at a rate that has it (R280, R282). -/
def State.trains (s : State) (l : Nat) : Bool :=
  let r := s.get R.LN_Ll_CFG_RATE l
  s.on R.LN_Ll_CFG_TRAIN_EN l && decide (2 ≤ r) && decide (r ≤ 4)

/-- A port die has its clock: the synthesis reference is there, and its APLL's bus reaches it (R200, R207). -/
def State.dieClocked (s : State) (die : Nat) : Bool := !s.tr.xoLost && !s.on R.SY_APLLa_STAT_GATED die

/-- A partner signal may take a lane to TRAIN: DETECT, its die clocked, its wave open, its idle over. -/
def State.signalTaken (s : State) (l : Nat) : Bool :=
  s.laneState l == 1 && s.dieClocked (l / 30) && s.waveOpen l && decide ((s.laneRec l).quietTo ≤ s.clk)

/-- The writes of some transmit taps in the layout of TXEQ. -/
def tapWrites (l taps : Nat) : List FieldWrite :=
  [{ f := R.LN_Ll_TXEQ_PRE, i := l, v := bits taps 17 12 }, { f := R.LN_Ll_TXEQ_MAIN, i := l, v := bits taps 11 6 },
   { f := R.LN_Ll_TXEQ_POST, i := l, v := bits taps 5 0 }]

/-- Load a lane's cached equalisation: the receiver's settings, and the transmit taps where training runs. -/
def State.loadCache (s : State) (l : Nat) : State :=
  match s.cache? l with
  | some c => (if s.trains l then s.cfgWrites (tapWrites l c.taps) else s).laneUpd l fun x => { x with eq := c.eq, cached := true }
  | none => s

/-- A lane enters TRAIN, loading a valid cache. -/
def State.laneTrain (s : State) (l : Nat) : State :=
  let c := s.cacheValid l
  let t := (s.laneGo l 2).writes [{ f := R.LN_Ll_STAT_SIG_DET, i := l, v := 1 }, { f := R.LN_Ll_STAT_IDLE, i := l, v := 0 }]
  let t := t.laneUpd l fun x => { x with signal := some s.clk, cached := false }
  (if c then t.loadCache l else t).cacheSync l

/-- PARTNER_SIGNAL (R282): a partner signal has been present for 100 µs. -/
def execPartnerSignal (dt l : Nat) (s : State) : Host.Outcome State Fault Refusal :=
  let l := l % 60
  let t := s.elapse dt
  .next (if t.signalTaken l then t.laneTrain l else t)

/-- A lane enters LOCK with its equalisation stored: `taps` in the layout of TXEQ and `pre` the precoder
requests of a training, `eq` the receiver's settings. A training from the cache keeps the cached ones. -/
def State.laneLock (s : State) (l taps pre eq : Nat) : State :=
  let x := s.laneRec l
  let old := (s.cache? l).getD {}
  let (taps, eq) := if x.cached then (old.taps, old.eq) else (taps, eq)
  let t := if s.trains l then s.cfgWrites (tapWrites l taps) else s
  let t := if s.trains l && s.get R.LN_Ll_CFG_RATE l == 4 then
      (t.set R.LN_Ll_STAT_PRECODE_TX_ACT (bits pre 0 0) l).set R.LN_Ll_STAT_PRECODE_RX_ACT (bits pre 1 1) l
    else t
  let c : LaneCache := { old with eq := eq, taps := taps, stale := false, warm := old.warm && x.cached }
  (((t.setCache l c).laneUpd l fun x => { x with eq := eq }).laneGo l 3).cacheSync l

/-- TRAINING_COMPLETE (R282): both sides are ready, or the receiver's own adaptation ends. -/
def execTrainingComplete (dt l taps pre eq : Nat) (s : State) : Host.Outcome State Fault Refusal :=
  let l := l % 60
  let t := s.elapse dt
  .next (if t.laneState l = 2 then t.laneLock l taps pre eq else t)

/-- CACHE_LOCK_TIMEOUT (R282): no lock within 2 ms of loading a cache, which is discarded. -/
def execCacheLockTimeout (dt l : Nat) (s : State) : Host.Outcome State Fault Refusal :=
  let l := l % 60
  let t := s.elapse dt
  .next (if t.laneState l = 2 ∧ (t.laneRec l).cached = true ∧ (t.laneRec l).since + 2 * 10 ^ 9 ≤ t.clk then
    (t.dropCache l).laneUpd l fun x => { x with cached := false }
  else t)

/-- A training or a lock fails: TRAIN_FAILS + 1 and back to DETECT, after `quiet` ps of electrical idle. -/
def State.laneFail (s : State) (l quiet : Nat) : State :=
  ((s.incSat R.LN_Ll_RETRY_TRAIN_FAILS l).laneUpd l fun x => { x with quietTo := s.clk + quiet }).laneDetect l

/-- TRAIN_TO_EXPIRY (R282): TRAIN_TO has passed in a training. -/
def execTrainToExpiry (dt l : Nat) (s : State) : Host.Outcome State Fault Refusal :=
  let l := l % 60
  let t := s.elapse dt
  .next (if t.laneState l = 2 ∧ t.trains l = true ∧ (t.laneRec l).since + t.get R.LN_GLOBAL_CFG_TRAIN_TO * 10 ^ 10 ≤ t.clk then
    t.laneFail l (10 ^ 11)
  else t)

/-- FAIL_IDLE_END (R282): the 100 ms of electrical idle after a failed training end. -/
def execFailIdleEnd (dt l : Nat) (s : State) : Host.Outcome State Fault Refusal :=
  let l := l % 60
  let t := s.elapse dt
  .next (if t.laneState l = 1 ∧ (t.laneRec l).quietTo ≤ t.clk then t.setB R.LN_Ll_STAT_IDLE (!t.waveOpen l) l else t)

/-- LOCK_TIMEOUT (R282): no alignment within 50 ms of LOCK. -/
def execLockTimeout (dt l : Nat) (s : State) : Host.Outcome State Fault Refusal :=
  let l := l % 60
  let t := s.elapse dt
  .next (if t.laneState l = 3 ∧ t.on R.LN_Ll_STAT_ALIGNED l = false ∧ (t.laneRec l).since + 5 * 10 ^ 10 ≤ t.clk then t.laneFail l 0
  else t)

/-! ### Capability exchange (R282, R286) -/

/-- The flags of the device's own HELLO on a port. -/
def State.helloFlags (s : State) (p : Nat) : Nat :=
  let fwd := modeFwdClk (s.portMode p)
  b2n (!fwd) + 2 * s.get R.LN_GRVg_CFG_SPARE_WIRED (p / 4) + 4 * s.get R.LN_GRVg_CFG_SUB_ACCEPT (p / 4) + 8 * b2n fwd

/-- Send a CAPEX frame on a port (R286): 1 HELLO, 2 SUB_REQ, 3 SUB_ACK, 4 SUB_NAK, 5 SUB_DONE, 6 SUB_REL. -/
def State.sendCapex (s : State) (p kind pos : Nat) : State :=
  let l := laneOf p
  let q := (s.laneRec l).seq
  let payload := beBytes 2 0x4B5A ++ beBytes 1 kind ++ beBytes 1 1 ++ beBytes 1 (s.helloFlags p) ++ beBytes 1 pos
    ++ beBytes 4 s.nodeId ++ beBytes 1 p ++ beBytes 1 q
  (s.sendControl p 0x0180C200000E 0x88B6 payload).laneUpd l fun x => { x with
    seq := (q + 1) % 256, helloAt := if kind = 1 then s.clk else x.helloAt }

/-- Show what a partner's HELLO tells of idle and of its spare. -/
def State.helloSync (s : State) (p : Nat) : State :=
  let f := match (s.laneRec (laneOf p)).hello with | some h => h.flags | none => 0
  let idle := bitOf f 0 && !modeFwdClk (s.portMode p)
  let t := (s.liveLanes p).foldl (fun s l => s.setB R.LN_Ll_STAT_IDLE_CAP idle l) s
  t.setB R.LN_GRVg_STAT_PARTNER_SPARE (bitOf f 1 && bitOf f 2) (p / 4)

/-- The lanes of a port enter ACTIVE. -/
def State.portActive (s : State) (p : Nat) (foreign : Bool) : State :=
  let t := (s.liveLanes p).foldl (fun s l => ((s.setB R.LN_Ll_STAT_FOREIGN foreign l).laneGo l 5).laneUpd l fun x => { x with
    lost := none, lastTx := s.clk }) s
  (t.helloSync p).judgePort p

/-- Keep a partner's HELLO for a port, in its lanes' caches too; a cache once found stale stays so until the next training. -/
def State.keepHello (s : State) (p : Nat) (h : Hello) (stale : Bool) : State :=
  let t := s.laneUpd (laneOf p) fun x => { x with hello := some h, fromCache := false }
  (s.liveLanes p).foldl (fun s l =>
    let old := (s.cache? l).getD {}
    let c : LaneCache := { old with
      node := h.node, port := h.port, flags := h.flags, known := true, stale := stale || old.stale }
    (s.setCache l c).set R.LN_Ll_STAT_FOREIGN 0 l) t

/-- The lanes of a port enter CAPEX: a HELLO is sent; a cache that names a partner passes on to ACTIVE at
once, and so does CAPEX_EN = 0, as FOREIGN. -/
def State.portCapex (s : State) (p : Nat) : State :=
  let l := s.actual (laneOf p)
  let t := (s.liveLanes p).foldl (fun s l => s.laneGo l 4) s
  if !s.on R.LN_GLOBAL_CFG_CAPEX_EN then
    (t.laneUpd (laneOf p) fun x => { x with hello := none, fromCache := false }).portActive p true
  else
    let t := t.sendCapex p 1 0
    match s.cache? l with
    | some c => if (s.laneRec l).cached && c.known then
        (t.laneUpd (laneOf p) fun x => { x with
          hello := some { flags := c.flags, node := c.node, port := c.port }, fromCache := true }).portActive p false
      else t.laneUpd (laneOf p) fun x => { x with hello := none }
    | none => t.laneUpd (laneOf p) fun x => { x with hello := none }

/-- CAPEX_EN = 0 takes the ports that are in CAPEX to ACTIVE, as FOREIGN (R282). -/
def State.capexOff (s : State) : State :=
  if s.on R.LN_GLOBAL_CFG_CAPEX_EN then s
  else (List.range 48).foldl (fun s p =>
    if s.on R.PT_CFGp_EN p && s.laneState (s.actual (laneOf p)) == 4 then s.portActive p true else s) s

/-- A lane of a port in LOCK has alignment; the port's lanes enter CAPEX when all have. -/
def State.lockDone (s : State) (l : Nat) : State :=
  let t := s.writes [{ f := R.LN_Ll_STAT_CDR_LOCK, i := l, v := 1 }, { f := R.LN_Ll_STAT_ALIGNED, i := l, v := 1 }]
  let t := { t with fpm := Tab.upd {} t.fpm l fun x => { x with lockAt := some s.clk } }
  match t.lanePort l with
  | some p => if (t.liveLanes p).contains l && (t.liveLanes p).all fun k => t.laneState k == 3 && t.on R.LN_Ll_STAT_ALIGNED k then
      t.portCapex p else t
  | none => t

/-- LOCK_REACHED (R282). -/
def execLockReached (dt l : Nat) (s : State) : Host.Outcome State Fault Refusal :=
  let l := l % 60
  let t := s.elapse dt
  .next (if t.laneState l = 3 then t.lockDone l else t)

/-- A HELLO shows whether the partner of a port is this device itself: then its sessions close and NODE_LOOP is raised
once; another node ends what an earlier CAP told (R32). -/
def State.judgeLoop (s : State) (p : Nat) (h : Hello) (new : Bool) : State :=
  if h.node = s.nodeId then (if new then (s.closePort p).raise 44 p else s) else s.portUpd p fun x => { x with loop := false }

/-- HELLO_RECEIVED (R286): a HELLO with a bad magic or version is ignored; in CAPEX it takes the port's lanes
to ACTIVE, in ACTIVE it is compared with the cached one. A partner with this device's own Node ID raises
NODE_LOOP (R32). -/
def execHelloReceived (dt l magic version flags node port : Nat) (s : State) : Host.Outcome State Fault Refusal :=
  let l := l % 60
  let t := s.elapse dt
  match t.lanePort l with
  | none => .next t
  | some p =>
    let h : Hello := { flags := flags % 256, node := node % 2 ^ 20, port := port % 256 }
    let st := t.laneState (t.actual (laneOf p))
    let x := t.laneRec (laneOf p)
    if magic ≠ 0x4B5A ∨ version ≠ 1 ∨ t.on R.LN_GLOBAL_CFG_CAPEX_EN = false ∨ ¬(st = 4 ∨ st = 5) then .next t
    else
      let t := t.judgeLoop p h (x.hello != some h)
      if st = 4 then .next ((t.keepHello p h false).portActive p false)
      else if x.fromCache && x.hello != some h then .next (((t.keepHello p h true).helloSync p).raise 39 (laneOf p))
      else .next ((t.keepHello p h false).helloSync p)

/-- CAPEX_TIMEOUT (R282): no HELLO within 200 ms. -/
def execCapexTimeout (dt p : Nat) (s : State) : Host.Outcome State Fault Refusal :=
  let p := p % 48
  let t := s.elapse dt
  let l := t.actual (laneOf p)
  .next (if t.on R.PT_CFGp_EN p = true ∧ t.laneState l = 4 ∧ (t.laneRec l).since + 2 * 10 ^ 11 ≤ t.clk then t.portActive p true else t)

/-- HELLO_SEND (R286): every 10 ms in CAPEX until a HELLO has come, every 1 s in ACTIVE. -/
def execHelloSend (dt p : Nat) (s : State) : Host.Outcome State Fault Refusal :=
  let p := p % 48
  let t := s.elapse dt
  let st := t.laneState (t.actual (laneOf p))
  let due := (t.laneRec (laneOf p)).helloAt + (if st = 4 then 10 ^ 10 else 10 ^ 12) ≤ t.clk
  .next (if t.on R.PT_CFGp_EN p = true ∧ t.on R.LN_GLOBAL_CFG_CAPEX_EN = true ∧ (st = 4 ∨ st = 5) ∧ due then t.sendCapex p 1 0 else t)

/-! ### Loss (R283, R284) -/

/-- Three phase beacons in a row are missing on a lane whose partner idles: 3 ms have passed since it last entered
electrical idle (R283; DEDUCED, log entry 212). -/
def State.beaconsGone (s : State) (l : Nat) : Bool :=
  match (s.laneRec l).idleFrom with | some t => decide (t + 3 * 10 ^ 9 ≤ s.clk) | none => true

/-- LANE_LOSS (R283): a lane in CAPEX or ACTIVE loses signal or CDR lock; with RX_IDLE = 1 that is loss only once three
phase beacons are missing. -/
def execLaneLoss (dt l : Nat) (s : State) : Host.Outcome State Fault Refusal :=
  let l := l % 60
  let t := s.elapse dt
  .next (if (t.laneState l = 4 ∨ t.laneState l = 5) ∧ (t.on R.LN_Ll_STAT_RX_IDLE l = false ∨ t.beaconsGone l = true) then
    (t.incSat R.LN_Ll_RETRY_LOS_CNT l).groupDetect l else t)

/-- CACHE_HOLD_EXPIRY (R284): CACHE_HOLD after a lane's loss its cache is no longer valid. -/
def execCacheHoldExpiry (dt l : Nat) (s : State) : Host.Outcome State Fault Refusal :=
  let l := l % 60
  let t := s.elapse dt
  .next (match (t.laneRec l).lost with
    | some a => if a + t.get R.LN_GLOBAL_CFG_CACHE_HOLD * 10 ^ 9 < t.clk then
        (t.laneUpd l fun x => { x with lost := none }).cacheSync l else t
    | none => t)

/-- The port dies lose their clock: every lane of the die that trains or carries falls to DETECT (R200,
R207). -/
def State.dieClockLost (s : State) (die : Nat) : State :=
  (List.range 30).foldl (fun s i =>
    let l := 30 * die + i
    let st := s.laneState l
    if 2 ≤ st ∧ st ≤ 5 then
      let t := s.laneUpd l fun x => { x with lost := some s.clk }
      (t.laneDetect l).judgeLane l
    else s) s

/-- PARTNER_IDLE_CHANGE (R283): the partner enters electrical idle, for the first time or again after a phase beacon, or
leaves it. -/
def execPartnerIdleChange (dt l : Nat) (idle : Bool) (s : State) : Host.Outcome State Fault Refusal :=
  let l := l % 60
  let t := s.elapse dt
  .next (if t.laneState l = 4 ∨ t.laneState l = 5 then
    (t.setB R.LN_Ll_STAT_RX_IDLE idle l).laneUpd l fun x => { x with idleFrom := if idle then some t.clk else none }
  else t)

/-! ### Electrical idle (R287 to R289) -/

/-- A port in P1 may idle its lanes: ACTIVE, a partner that can idle, no frame queued for IDLE_DLY. -/
def State.mayIdle (s : State) (p : Nat) : Bool :=
  let l := s.actual (laneOf p)
  s.portPower p == 1 && s.lanesActive p && s.on R.LN_Ll_STAT_IDLE_CAP l && !s.on R.LN_Ll_STAT_FOREIGN l
  && !modeFwdClk (s.portMode p) && !s.on R.LN_Ll_STAT_IDLE l && (Tab.find? s.cl.tx p).isNone
  && ((List.range 8).all fun c => (s.queue p c).isEmpty)
  && decide ((s.laneRec (laneOf p)).lastTx + s.get R.LN_Ll_CFG_IDLE_DLY (laneOf p) * 10 ^ 6 ≤ s.clk)

/-- The lanes of a port enter electrical idle together. -/
def State.idleLanes (s : State) (p : Nat) : State :=
  ((s.liveLanes p).foldl (fun s l => s.set R.LN_Ll_STAT_IDLE 1 l) s).count p 62

/-- IDLE_ENTRY (R287). -/
def execIdleEntry (dt p : Nat) (s : State) : Host.Outcome State Fault Refusal :=
  let p := p % 48
  let t := s.elapse dt
  .next (if t.mayIdle p then t.idleLanes p else t)

/-- PHASE_BEACON (R287): an idle lane sends a 64 UI beacon at each whole millisecond of the line timebase. -/
def execPhaseBeacon (dt l : Nat) (s : State) : Host.Outcome State Fault Refusal :=
  let l := l % 60
  let t := s.elapse dt
  .next (if t.laneState l = 5 ∧ t.on R.LN_Ll_STAT_IDLE l = true ∧ (t.laneRec l).beacon ≠ t.msIndex then
    (t.emit (.beacon l)).laneUpd l fun x => { x with beacon := t.msIndex }
  else t)

/-- The exit time of a rate: driver start and burst, in ps (R288). -/
def exitTime (rate : Nat) : Nat := if rate = 4 then 117100 else if rate = 3 then 119400 else if rate = 2 then 139300 else 142400

/-- Wake the lanes of a port: a wake of lanes that are not idle has no effect (R288, R378). -/
def State.wakePort (s : State) (p : Nat) : State :=
  (s.liveLanes p).foldl (fun s l =>
    if s.laneState l = 5 ∧ s.on R.LN_Ll_STAT_IDLE l = true then
      (s.set R.LN_Ll_STAT_IDLE 0 l).laneUpd l fun x => { x with burstTo := s.clk + exitTime (s.get R.LN_Ll_CFG_RATE l) }
    else s) s

/-- IDLE_EXIT (R288): a frame is queued for the port; the scheduler's wake comes by WAKE_LEAD. -/
def execIdleExit (dt p : Nat) (s : State) : Host.Outcome State Fault Refusal :=
  let s := s.elapse dt
  let p := p % 48
  .next (if (List.range 8).all fun c => (s.queue p c).isEmpty then s else s.wakePort p)

/-- The transmitter of a port can carry a frame: not idle, its burst over. -/
def State.awake (s : State) (p : Nat) : Bool :=
  (s.liveLanes p).all fun l => !s.on R.LN_Ll_STAT_IDLE l && decide ((s.laneRec l).burstTo ≤ s.clk)

/-! ### Rate matching (R290, R291) -/

/-- Idle blocks, or ordered sets in 8b/10b, that a rate carries in a second (R290). -/
def blockRate (rate : Nat) : Nat := match rate with
  | 1 | 5 => 62500000
  | 2 | 6 => 156250000
  | 3 => 390625000
  | 4 => 781250000
  | _ => 0

/-- Count the insertions and deletions of 100 ms at a partner's offset in 10^-12: a fast partner makes deletions. -/
def State.countMatch (s : State) (l : Nat) (ofs : Int) : State :=
  let z := (s.laneRec l).rmRest + ofs * blockRate (s.get R.LN_Ll_CFG_RATE l)
  let n := Int.tdiv z (10 ^ 13)
  let t := s.laneUpd l fun x => { x with rmRest := z - n * 10 ^ 13 }
  match s.lanePort l with
  | some p => if n = 0 then t else t.count p (if 0 < n then 18 else 17) n.natAbs
  | none => t

/-- RATE_MATCH_MEASURE (R291): every 100 ms, the partner's offset in 10^-12; more than 100 ppm for 1 s raises LANE_RM. -/
def execRateMatchMeasure (dt l : Nat) (ofs : Int) (s : State) : Host.Outcome State Fault Refusal :=
  let l := l % 60
  let t := s.elapse dt
  let due := match (t.laneRec l).rmAt with | some c => decide (c + 10 ^ 11 ≤ t.clk) | none => true
  if (t.laneState l = 4 ∨ t.laneState l = 5) ∧ due = true then
    let n := if 100000000 < ofs.natAbs then (t.laneRec l).rmOver + 1 else 0
    let t := (t.setZ R.LN_Ll_RM_RM_OFS (clampZ (-2147483648) 2147483647 ofs) l).laneUpd l fun x => { x with
      rmOver := n, rmAt := some t.clk }
    .next ((if n = 10 then t.raise 37 l else t).countMatch l ofs)
  else .next t

/-- ELASTIC_OVERFLOW (R291): the frame in passage is dropped and counted. -/
def execElasticOverflow (dt l : Nat) (s : State) : Host.Outcome State Fault Refusal :=
  let l := l % 60
  let t := (s.elapse dt).raise 37 l
  match t.lanePort l with
  | none => .next t
  | some p => match Tab.find? t.cl.rx p with
    | none => .next t
    | some r =>
      let cl := { t.cl with rx := Tab.del t.cl.rx p }
      .next ((({ t with cl := cl }.freeCells p r.res.cls r.cells).count p 19).tallyFrame 2 p
        { bytes := r.bytes, inPort := p, reason := 19, stamp := r.line, res := r.res })

end Sys2Proof.Machine
end

