-- ==== Sys2Proof/Machine/Scheduling.lean ====
section
/-! DEFINITION. Egress scheduling: slot tables, windows and the guard, banks and commits, and the SCHED command
group (R370 to R393). -/

namespace Sys2Proof.Machine

/-! ### Slot tables (R373, R374) -/

/-- The schedule of a port runs; a bank is active only then (R373). -/
def State.schedRuns (s : State) (p : Nat) : Bool := s.on R.SC_Pp_STAT_RUN p

/-- An entry of a bank: its two words. -/
def State.slotEntry (s : State) (p b i : Nat) : Nat × Nat := Tab.get (0, 0xFF) (s.schedOf p).entries (1024 * b + i)

/-- The cycle length and the entry count of a bank. -/
def State.cycleOf (s : State) (p b : Nat) : Nat := s.get R.SC_Pp_CYCx_CYCLE p b

def State.numOf (s : State) (p b : Nat) : Nat := s.get R.SC_Pp_NUMx_NUM p b

/-- START of an entry, and whether it opens a class. -/
def entStart (e : Nat × Nat) : Nat := bits e.1 26 0

def entOpen (e : Nat × Nat) (c : Nat) : Bool := bitOf e.2 c

/-- The length of a bank's cycle, in 2^-48 ps. -/
def State.cycleLen (s : State) (p b : Nat) : Nat := s.cycleOf p b * tick8

/-- The position of a time of the schedule timebase in the running cycle, in 2^-48 ps (R373). -/
def State.cyclePos (s : State) (p : Nat) (t : Nat) : Nat :=
  let c := s.schedOf p
  (((t : Int) + c.phase - c.origin) % (s.cycleLen p (s.bankOf p) : Nat)).toNat

/-- The current position, and the current entry. -/
def State.posNow (s : State) (p : Nat) : Nat := s.cyclePos p (s.time (s.schedTb p))

def State.entryNow (s : State) (p : Nat) : Nat :=
  let b := s.bankOf p
  let u := s.posNow p / tick8
  (List.range (s.numOf p b)).foldl (fun a i => if entStart (s.slotEntry p b i) ≤ u then i else a) 0

/-! ### Windows and the guard (R375 to R377) -/

/-- The entries of a bank as lengths in 8 ns, each with its OPEN bit of a class. -/
def State.runs (s : State) (p b c : Nat) : List (Nat × Bool) :=
  let n := s.numOf p b
  (List.range n).map fun i =>
    let e := s.slotEntry p b i
    let stop := if i + 1 < n then entStart (s.slotEntry p b (i + 1)) else s.cycleOf p b
    (stop - entStart e, entOpen e c)

/-- The longest run of open entries. -/
def longestRun (l : List (Nat × Bool)) : Nat :=
  (l.foldl (fun (a : Nat × Nat) e => if e.2 then (a.1 + e.1, max a.2 (a.1 + e.1)) else (0, a.2)) (0, 0)).2

/-- The longest window of a class in a bank, in 8 ns; none where the class never closes (R377). -/
def State.longestWindow (s : State) (p b c : Nat) : Option Nat :=
  let l := s.runs p b c
  if l.all (fun e => e.2) then none else some (longestRun (l ++ l))

/-- Time to the activation of the pending commit, in 2^-48 ps. -/
def State.toCommit (s : State) (p : Nat) : Option Nat :=
  match (s.schedOf p).commit with
  | some t => some ((linDist (linear t) (linear (s.time (s.schedTb p)))).toNat * linUnit)
  | none => none

/-- The time from now to the first entry that closes a class, in 2^-48 ps; none where none closes it. -/
def State.toClose (s : State) (p c : Nat) : Option Nat :=
  let b := s.bankOf p
  let n := s.numOf p b
  let i := s.entryNow p
  let pos := s.posNow p
  let later := (List.range n).find? fun j => decide (i < j) && !entOpen (s.slotEntry p b j) c
  match later with
  | some j => some (entStart (s.slotEntry p b j) * tick8 - pos)
  | none =>
    match (List.range (i + 1)).find? fun j => !entOpen (s.slotEntry p b j) c with
    | some j => some (entStart (s.slotEntry p b j) * tick8 + s.cycleLen p b - pos)
    | none => none

/-- The rest of a class's current window, in 2^-48 ps: it ends where an entry closes the class or a pending
commit switches banks (R375). -/
def State.windowLeft (s : State) (p c : Nat) : Option Nat :=
  match s.toClose p c, s.toCommit p with
  | some a, some b => some (min a b)
  | some a, none => some a
  | none, x => x

/-- A class is open (R373, R375). -/
def State.classOpen (s : State) (p c : Nat) : Bool :=
  !s.schedRuns p || entOpen (s.slotEntry p (s.bankOf p) (s.entryNow p)) c

/-- The guard of a length of L bytes at a port, in ps times the rate in Gb/s (R376). -/
def guardBits (len : Nat) : Nat := (len + 20) * 8000

/-- A length passes the guard now. -/
def State.guardOk (s : State) (p c len : Nat) : Bool :=
  !s.schedRuns p || (match s.windowLeft p c with
    | some w => decide (guardBits len * 2 ^ 48 ≤ w * modeRate (s.portMode p))
    | none => true)

/-- A length that no window of its class can hold (R377). -/
def State.noWindow (s : State) (p c len : Nat) : Bool :=
  s.schedRuns p && (match s.longestWindow p (s.bankOf p) c with
    | some w => decide (w * 8000 * modeRate (s.portMode p) < guardBits len)
    | none => false)

/-! ### Copies as they leave (R337) -/

/-- The bytes of a copy after its tag and R-TAG changes; a message of the device itself takes none. -/
def State.egressBytes (s : State) (f : Frame) (q : Nat) : List Byte :=
  if f.orig.isSome then f.bytes else
  let img := f.res.epoch
  let inW := s.portEntry img f.port
  let outW := s.portEntry img q
  let pcp := if bitOf (outW.getD 0 0) 19 then some (bits (outW.getD 2 0) (3 * f.res.cls + 2) (3 * f.res.cls)) else none
  editTags f.bytes (bitOf (inW.getD 0 0) 23) ((s.vlanUntag img f.res.vid).contains q)
    (some (bits (inW.getD 0 0) 14 12 * 8192 + f.res.vid)) pcp (if f.strip then none else f.seq)

/-- Drop the head copies of a class queue that no window can hold (R377). -/
def State.dropNoWindow (s : State) (p c : Nat) : Nat → State
  | 0 => s
  | n + 1 => match s.queue p c with
    | [] => s
    | id :: rest => match s.frame? id with
      | none => s
      | some f =>
        if ((Tab.find? s.cl.tx p).all fun x => x.frame != id) && s.noWindow p c (s.egressBytes f p).length then
          ((s.setQueue p c rest).dropCopy id p 42).dropNoWindow p c n
        else s

/-- Judge the heads of every class of a port. -/
def State.judgeWindows (s : State) (p : Nat) : State :=
  (List.range 8).foldl (fun s c => s.dropNoWindow p c (s.queue p c).length) s

/-! ### What happens to schedules (R373, R378, R383) -/

/-- SLOT_EDGE (R373): the current entry changes. -/
def execSlotEdge (dt p : Nat) (s : State) : Host.Outcome State Fault Refusal :=
  let s := s.elapse dt
  let p := p % 48
  .next (if s.schedRuns p then s.set R.SC_Pp_STAT_ENTRY (s.entryNow p) p else s)

/-- An entry with WAKE starts within WAKE_LEAD. -/
def State.wakeDue (s : State) (p : Nat) : Bool :=
  let b := s.bankOf p
  let lead := s.get R.SC_Pp_CFG_WAKE_LEAD p * 1000 * 2 ^ 48
  let cyc := s.cycleLen p b
  (List.range (s.numOf p b)).any fun i =>
    let e := s.slotEntry p b i
    bitOf e.2 8 && decide ((entStart e * tick8 + cyc - s.posNow p) % cyc ≤ lead)

/-- WAKE_LEAD (R378). -/
def execWakeLead (dt p : Nat) (s : State) : Host.Outcome State Fault Refusal :=
  let s := s.elapse dt
  let p := p % 48
  .next (if s.schedRuns p && s.wakeDue p then s.wakePort p else s)

/-- A pending commit's instant has come. -/
def State.commitDue (s : State) (p : Nat) : Bool :=
  match (s.schedOf p).commit with
  | some t => s.schedPending p && decide (linDist (linear t) (linear (s.time (s.schedTb p))) ≤ 0)
  | none => false

/-- The inactive bank becomes active (R383, R384). -/
def State.activateBank (s : State) (p : Nat) : State :=
  let c := s.schedOf p
  let at_ := c.commit.getD 0
  let lin := linear at_
  let t := s.writes [{ f := R.SC_Pp_STAT_ACTIVE, i := p, v := 1 - s.bankOf p }, { f := R.SC_Pp_STAT_RUN, i := p, v := 1 },
    { f := R.SC_Pp_STAT_PENDING, i := p, v := 0 },
    { f := R.SC_Pp_ORIGIN_LO_ORIGIN, i := p, v := lin % 2 ^ 32 }, { f := R.SC_Pp_ORIGIN_HI_ORIGIN, i := p, v := lin / 2 ^ 32 }]
  let t := if c.keeps then t else t.set R.SC_Pp_STAT_ALIGN_LOST 0 p
  let t := if (Tab.find? t.cl.tx p).isSome then t.incSat R.SC_Pp_STAT_SW_OVR p else t
  let put (c : Sched) : Sched := { c with commit := none, keeps := false, origin := at_, phase := 0 }
  let t := (t.schedUpd p put).raise 77 (det2 p 0)
  (t.set R.SC_Pp_STAT_ENTRY (t.entryNow p) p).judgeWindows p

/-! ### Writing banks (R380, R386 to R389) -/

/-- A bank of a port is active. -/
def State.bankActive (s : State) (p b : Nat) : Bool := s.schedRuns p && s.bankOf p == b

/-- A write to an active bank is logged (R380, R387): FIELD 1 for CYCLE or NUM, SRC 1 for the window. -/
def State.activeWrite (s : State) (p b i field src : Nat) : State :=
  let t := s.writes [{ f := R.SC_AW_LOG_VALID, v := 1 }, { f := R.SC_AW_LOG_SRC, v := src }, { f := R.SC_AW_LOG_PORT, v := p },
    { f := R.SC_AW_LOG_BANK, v := b }, { f := R.SC_AW_LOG_FIELD, v := field }, { f := R.SC_AW_LOG_INDEX, v := i }]
  (t.incSat R.SC_AW_LOG_COUNT).raise 76 p

/-- The fields of an entry (R374); its other bits read as 0, whatever is written (R7). -/
def entFields (e : Nat × Nat) : Nat × Nat := (bits e.1 26 0, bits e.2 31 16 * 2 ^ 16 + bits e.2 8 0)

/-- Write entries from an index on. -/
def State.putEntries (s : State) (p b i : Nat) (l : List (Nat × Nat)) : State :=
  let put (c : Sched) : Sched := { c with
    entries := ((List.range l.length).zip l).foldl (fun t e => Tab.put t (1024 * b + i + e.1) (entFields e.2)) c.entries }
  s.schedUpd p put

/-- Pairs of consecutive words. -/
def pairsOf : List Nat → List (Nat × Nat)
  | a :: b :: r => (a, b) :: pairsOf r
  | _ => []

/-- The fields of SC_TBL_CTRL after a write with GO. -/
def State.slotFields (s : State) (w op p : Nat) : State :=
  s.writes [{ f := R.SC_TBL_CTRL_OP, v := op }, { f := R.SC_TBL_CTRL_PORT, v := p },
    { f := R.SC_TBL_CTRL_BANK, v := bits w 10 10 }, { f := R.SC_TBL_CTRL_INDEX, v := bits w 9 0 }, { f := R.SC_TBL_CTRL_ERR, v := 0 }]

/-- The port that a write of SC_TBL_CTRL names; a code that names none changes nothing. -/
def State.slotPort (s : State) (w : Nat) : Nat := if bits w 21 16 < 48 then bits w 21 16 else s.get R.SC_TBL_CTRL_PORT

/-- A write of SC_TBL_CTRL with GO. -/
def State.slotCtrl (s : State) (init w op : Nat) (k : State → Nat → Nat → Nat → State) : State :=
  s.directWrite init R.SC_TBL_CTRL_GO.addr [] fun s =>
    if s.on R.SC_TBL_CTRL_BUSY then s
    else k (s.slotFields w op (s.slotPort w)) (s.slotPort w) (bits w 10 10) (bits w 9 0)

/-- SLOT_ENTRY_READ (R386). -/
def execSlotEntryRead (init w : Nat) (s : State) : Host.Outcome State Fault Refusal :=
  .next (s.slotCtrl init w 0 fun s p b i =>
    let e := s.slotEntry p b i
    (s.set R.SC_TBL_DATAi_DATA e.1 0).set R.SC_TBL_DATAi_DATA e.2 1)

/-- SLOT_ENTRY_WRITE (R380, R386). -/
def execSlotEntryWrite (init w : Nat) (s : State) : Host.Outcome State Fault Refusal :=
  .next (s.slotCtrl init w 1 fun t p b i =>
    let e := (t.get R.SC_TBL_DATAi_DATA 0, t.get R.SC_TBL_DATAi_DATA 1)
    let refuse (t : State) : State :=
      (t.set R.SC_TBL_CTRL_ERR 1).refuseAccess 3 .internal 15 init (t.entryNonSecure 15) 1 R.SC_TBL_CTRL_GO.addr
    if t.managed p then refuse t
    else if t.bankActive p b then refuse (t.activeWrite p b i 0 1)
    else if t.schedPending p then t.set R.SC_TBL_CTRL_ERR 1
    else t.putEntries p b i [e])

/-- The fields of SC_Pp_CFG that a direct write of w changes: those in range, TB only while no schedule runs (R388). -/
def State.schedWrites (s : State) (p w : Nat) : List FieldWrite :=
  (R.SC_Pp_CFG.writes w p).filter fun x => x.f.inRange x.v && !(x.f.lo == 4 && s.schedRuns p)

/-- A direct write of SC_Pp_CFG, with STOP or without: one that names a disabled timebase as its TB, or stops the schedule
of a managed port, is ignored (R39, R394, R660). -/
def State.portSchedWrite (s : State) (p w : Nat) : State :=
  if (!s.schedRuns p && !s.tbOn (bits w 6 4)) || (bitOf w 1 && s.managed p) then s
  else
    let t := s.writes (s.schedWrites p w)
    if bitOf w 1 then t.stopSchedule p else t

/-- SCHEDULE_STOP (R373, R388): a write of SC_Pp_CFG with STOP; its other fields take effect too. -/
def execScheduleStop (init p w : Nat) (s : State) : Host.Outcome State Fault Refusal :=
  let p := p % 48
  let w := Nat.lor w 2
  .next (s.directWrite init (R.SC_Pp_CFG_STOP.addr + 0x100 * p) (s.schedWrites p w) fun s => s.portSchedWrite p w)

/-! ### Commits (R381, R382) -/

/-- The inactive bank of a port may become active: entry 0 starts at 0, STARTs increase and lie in the
cycle. -/
def State.bankGood (s : State) (p : Nat) : Bool :=
  let b := 1 - s.bankOf p
  let n := s.numOf p b
  let l := (List.range n).map fun i => entStart (s.slotEntry p b i)
  l.headD 1 == 0 && ((l.zip (l.drop 1)).all fun e => decide (e.1 < e.2)) && l.all fun x => decide (x < s.cycleOf p b)

/-- 10 µs, in 2^-48 ps. -/
def tenUs : Nat := 10 ^ 7 * 2 ^ 48

/-- The first boundary of a running schedule at least 10 µs ahead, as a time. -/
def State.nextBoundary (s : State) (p : Nat) : Nat :=
  let now := s.time (s.schedTb p)
  let cyc := s.cycleLen p (s.bankOf p)
  let first := cyc - s.posNow p
  let k := if tenUs ≤ first then 0 else (tenUs - first + cyc - 1) / cyc
  addTime now (first + k * cyc : Nat)

/-- A time is a boundary of a running schedule. -/
def State.isBoundary (s : State) (p t : Nat) : Bool := s.cyclePos p t == 0

/-- A target in 8 ns: fraction 0 and nanoseconds a multiple of 8. -/
def onGrid (t : Nat) : Bool := t % tick8 == 0

/-- The conditions of R381 over a set of ports, in the rule's order. -/
def State.commitChecks (s : State) (ps : List Nat) (k : Res) : Res :=
  need (ps.all s.bankGood && !ps.any s.managed) .checkFail s <| need (ps.all fun p => s.tbOn (s.schedTb p)) .badArg s <|
  need (ps.all fun p => !s.schedPending p) .commitPending s k

/-- The response words of a commit: the activation instant of the lowest port. -/
def instantWords (l : List (Nat × Nat)) : List Nat := timeWords ((l.headD (0, 0)).2)

/-- SCHED.COMMIT (R381, R382). -/
def cmdSchedCommit : Cmd where
  op := 0x2307
  need := 3
  entry _ := 15
  body c s :=
    let ps := maskPorts (c.arg 1) (c.bits 2 15 0)
    match c.bits 3 1 0 with
    | 0 =>
      s.commitChecks ps <| need (ps.all s.schedRuns) .badArg s <| unlessLocked s 15 <|
        let l := ps.map fun p => (p, s.nextBoundary p)
        done (l.foldl (fun s e => s.schedAccept e.1 e.2 (s.on R.SC_Pp_STAT_ALIGN_LOST e.1)) s) (instantWords l)
    | 1 =>
      need (decide (6 ≤ c.args.length)) .badArg s <|
      match wordsTime (c.arg 4) (c.arg 5) (c.arg 6) with
      | none => fail s .badArg
      | some t =>
        let free (p : Nat) : Bool := !s.schedRuns p || s.on R.SC_Pp_STAT_ALIGN_LOST p
        let ok (p : Nat) : Bool := if free p then onGrid t else s.isBoundary p t
        let ahead (p : Nat) : Bool := decide (tenUs ≤ (linDist (linear t) (linear (s.time (s.schedTb p)))).toNat * linUnit)
        let near (p : Nat) : Bool := nearTime t (s.time (s.schedTb p))
        s.commitChecks ps <| need (ps.all fun p => near p && ok p) .badArg s <| need (ps.all ahead) .staleTime s <| unlessLocked s 15 <|
          done (ps.foldl (fun s p => s.schedAccept p t false) s) (if ps.isEmpty then [0, 0, 0] else timeWords t)
    | 2 =>
      let late (p : Nat) : Bool := match s.toCommit p with | some d => decide (d < tenUs) | none => false
      need (!ps.any s.managed) .checkFail s <| need (!ps.any late) .busy s <| unlessLocked s 15 <|
        done (ps.foldl (fun s p => (s.set R.SC_Pp_STAT_PENDING 0 p).schedUpd p fun c => { c with commit := none }) s) [0, 0, 0]
    | _ => fail s .badArg

/-- SCHED_COMMIT. -/
def execSchedCommit (r : Req) (s : State) : Host.Outcome State Fault Refusal :=
  .next (s.exchange (some cmdSchedCommit) cmdSchedCommit.op r)

/-! ### The other commands (R393) -/

/-- SC_Pp_STAT with its live entry. -/
def State.schedStat (s : State) (p : Nat) : Nat :=
  (if s.schedRuns p then s.set R.SC_Pp_STAT_ENTRY (s.entryNow p) p else s).word R.SC_Pp_STAT p

/-- SCHED.STATUS. -/
def cmdSchedStatus : Cmd where
  op := 0x2301
  any := true
  acts := false
  need := 1
  entry _ := 15
  body c s :=
    let p := c.bits 1 5 0
    let b := s.bankOf p
    need (decide (p < 48)) .badArg s <| done s [s.schedStat p, s.get R.SC_Pp_ORIGIN_LO_ORIGIN p, s.get R.SC_Pp_ORIGIN_HI_ORIGIN p,
      s.cycleOf p b, s.numOf p b, s.word R.SC_AW_LOG]

/-- SCHED_STATUS. -/
def execSchedStatus (r : Req) (s : State) : Host.Outcome State Fault Refusal :=
  .next (s.exchange (some cmdSchedStatus) cmdSchedStatus.op r)

/-- SCHED.PORT_CFG (R39, R388, R392): TB cannot change while a schedule runs. -/
def cmdSchedPortCfg : Cmd where
  op := 0x2302
  need := 4
  entry _ := 15
  body c s :=
    let p := c.bits 1 5 0
    let w := c.arg 2
    let ws := R.SC_Pp_CFG.writes w p ++ R.SC_Pp_DWRR0.writes (c.arg 3) p ++ R.SC_Pp_DWRR1.writes (c.arg 4) p
    need (decide (p < 48) && s.tbOn (bits w 6 4) && R.SC_Pp_CFG.ok w && R.SC_Pp_DWRR0.ok (c.arg 3) && R.SC_Pp_DWRR1.ok (c.arg 4)) .badArg s <|
    need (!(bitOf w 1 && s.managed p)) .checkFail s <|
    need (!(s.schedRuns p && bits w 6 4 != s.schedTb p)) .busy s <|
    writeCfg s ws fun t => done (if bitOf w 1 then t.stopSchedule p else t)

/-- SCHED_PORT_CFG. -/
def execSchedPortCfg (r : Req) (s : State) : Host.Outcome State Fault Refusal :=
  .next (s.exchange (some cmdSchedPortCfg) cmdSchedPortCfg.op r)

/-- SCHED.QUEUE_CFG (R391): a new shaper starts from the level the bucket has, within the new BURST; SHAPE7 is
ignored. -/
def cmdSchedQueueCfg : Cmd where
  op := 0x2303
  need := 3
  entry _ := 15
  body c s :=
    let p := c.bits 1 5 0
    let k := c.bits 1 10 8
    need (decide (p < 48) && R.SC_Pp_QLIMc.ok (c.arg 2) && R.SC_Pp_SHAPEc.ok (c.arg 3)) .badArg s <|
    writeCfg s (R.SC_Pp_QLIMc.writes (c.arg 2) p k ++ (if k = 7 then [] else R.SC_Pp_SHAPEc.writes (c.arg 3) p k)) fun t =>
      done { t with sched := (s.fillBuckets p).sched }

/-- SCHED_QUEUE_CFG. -/
def execSchedQueueCfg (r : Req) (s : State) : Host.Outcome State Fault Refusal :=
  .next (s.exchange (some cmdSchedQueueCfg) cmdSchedQueueCfg.op r)

/-- SCHED.WRITE (R380). -/
def cmdSchedWrite : Cmd where
  op := 0x2304
  need := 2
  entry _ := 15
  body c s :=
    let p := c.bits 1 5 0
    let b := c.bits 1 8 8
    let i := c.bits 2 9 0
    let n := c.bits 2 20 16
    let l := pairsOf ((c.args.drop 2).take (2 * n))
    need (decide (p < 48) && decide (1 ≤ n) && decide (n ≤ 30) && l.length == n && decide (i + n ≤ 1024)) .badArg s <|
    need (!s.managed p) .checkFail s <|
    if s.bankActive p b then { st := s.activeWrite p b i 0 0, status := .checkFail }
    else need (!s.schedPending p) .commitPending s <| unlessLocked s 15 <| done (s.putEntries p b i l)

/-- SCHED_WRITE. -/
def execSchedWrite (r : Req) (s : State) : Host.Outcome State Fault Refusal :=
  .next (s.exchange (some cmdSchedWrite) cmdSchedWrite.op r)

/-- SCHED.READ: the entries from the first on, as many as the table holds. -/
def cmdSchedRead : Cmd where
  op := 0x2305
  any := true
  acts := false
  need := 2
  entry _ := 15
  body c s :=
    let p := c.bits 1 5 0
    let b := c.bits 1 8 8
    let i := c.bits 2 9 0
    let n := c.bits 2 20 16
    let k := min n (1024 - i)
    need (decide (p < 48) && decide (1 ≤ n) && decide (n ≤ 30)) .badArg s <|
    done s (k :: (List.range k).flatMap fun j => let e := s.slotEntry p b (i + j); [e.1, e.2])

/-- SCHED_READ. -/
def execSchedRead (r : Req) (s : State) : Host.Outcome State Fault Refusal :=
  .next (s.exchange (some cmdSchedRead) cmdSchedRead.op r)

/-- SCHED.BANK_CFG (R380, R389). -/
def cmdSchedBankCfg : Cmd where
  op := 0x2306
  need := 3
  entry _ := 15
  body c s :=
    let p := c.bits 1 5 0
    let b := c.bits 1 8 8
    need (decide (p < 48) && R.SC_Pp_CYCx.ok (c.arg 2) && R.SC_Pp_NUMx.ok (c.arg 3)) .badArg s <|
    need (!s.managed p) .checkFail s <|
    if s.bankActive p b then { st := s.activeWrite p b 0 1 0, status := .checkFail }
    else need (!s.schedPending p) .commitPending s <|
      writeCfg s (R.SC_Pp_CYCx.writes (c.arg 2) p b ++ R.SC_Pp_NUMx.writes (c.arg 3) p b) done

/-- SCHED_BANK_CFG. -/
def execSchedBankCfg (r : Req) (s : State) : Host.Outcome State Fault Refusal :=
  .next (s.exchange (some cmdSchedBankCfg) cmdSchedBankCfg.op r)

/-- SCHED.COPY (R380). -/
def cmdSchedCopy : Cmd where
  op := 0x2308
  need := 1
  entry _ := 15
  body c s :=
    let p := c.bits 1 5 0
    let b := s.bankOf p
    let d := 1 - b
    need (decide (p < 48)) .badArg s <| need (!s.managed p) .checkFail s <|
    need (!s.schedPending p) .commitPending s <| unlessLocked s 15 <|
    writeCfg s [{ f := R.SC_Pp_CYCx_CYCLE, i := p, j := d, v := s.cycleOf p b }, { f := R.SC_Pp_NUMx_NUM, i := p, j := d, v := s.numOf p b }]
      fun t =>
        let keep := List.filter (fun (e : Nat × (Nat × Nat)) => e.1 / 1024 == b) (t.schedOf p).entries
        let moved := keep.map fun (e : Nat × (Nat × Nat)) => (1024 * d + e.1 % 1024, e.2)
        done (t.schedUpd p fun c => { c with entries := if d = 0 then moved ++ keep else keep ++ moved })

/-- SCHED_COPY. -/
def execSchedCopy (r : Req) (s : State) : Host.Outcome State Fault Refusal :=
  .next (s.exchange (some cmdSchedCopy) cmdSchedCopy.op r)

end Sys2Proof.Machine
end

