-- ==== Sys2Proof/Machine/Synthesis.lean ====
section
/-! DEFINITION. The synthesis reference, the APLLs, the clock outputs and the SYN command group (R199 to
R230). -/

namespace Sys2Proof.Machine

/-- Change an APLL. -/
def State.apllUpd (s : State) (a : Nat) (f : Apll → Apll) : State := { s with apll := Tab.upd {} s.apll a f }

/-- GRAN in force: milliseconds for APLL0 and APLL1 until a commit (R219). -/
def State.granMs (s : State) (a : Nat) : Bool := (s.apllOf a).gran.getD (decide (a < 2))

/-- The group of an APLL: the outputs whose shadow names it (R213). -/
def State.groupOf (s : State) (a : Nat) : List Nat := (List.range 16).filter fun m => s.get R.SY_OUTm_CFG_APLL m == a

/-- The clock from which an output gated now stays low: at once, or at the end of the high phase in progress (R207). -/
def State.gateLow (s : State) (m : Nat) : Int :=
  let (num, den) := s.outCycle m
  match s.sinceEdge m with
  | some x => s.clk + ((num / (2 * den) - x) / 2 ^ 48 : Nat)
  | none => s.clk

/-- The outputs of a list that drive rise for the first time at an instant of their APLL's time, plus DLY and PHOFS. -/
def State.firstRise (s : State) (l : List Nat) (inst : Nat) : State :=
  let edge (m : Nat) : Int :=
    let a := s.get R.SY_OUTm_STAT_APLL_ACT m
    s.clockIn (s.apllFollow a) ((inst : Int) - s.apllTime a) + s.edgeOfs m / 2 ^ 48
  (l.filter fun m => s.on R.SY_OUTm_STAT_DRIVING m).foldl (fun t m => t.emit (.clkout m true (edge m))) s

/-- Gate an APLL's outputs, each at the end of its high phase; for APLL0 and APLL1 every port of the die goes DOWN (R207).
The holder of the clock-output role gives it up with a role-controlled output and enters recovery (R444,
R447). -/
def State.gateApll (s : State) (a : Nat) : State :=
  let t := (s.stayLow (s.outsOf a) s.gateLow).set R.SY_APLLa_STAT_GATED 1 a
  let t := (s.outsOf a).foldl (fun s m => { s.set R.SY_OUTm_STAT_GATED 1 m with
    clkout := Tab.put s.clkout m { s.clkOutOf m with first := none } }) t
  let t := if a < 2 then t.dieClockLost a else t
  let t := t.outSync
  let t := if t.roleHeld && t.roleApll a then (t.dropRole 0).enterRecovery else t
  t.outSync.armedSync

/-- Begin a lock of an APLL with its band search (R205). -/
def State.relock (s : State) (a : Nat) : State :=
  (((s.gateApll a).apllUpd a fun p => { p with searchFrom := s.clk, lockN := s.get R.SY_APLLa_LOCK_LOCK_N a }).writes
    [{ f := R.SY_APLLa_STAT_SEARCH, i := a, v := b2n (s.on R.SY_APLLa_STAT_REF_OK a) },
     { f := R.SY_APLLa_STAT_LOCKED, i := a, v := 0 }]).armedSync

/-- BAND_SEARCH_END (R205): the search ends with a band; the cached one is confirmed after 100 µs. -/
def execBandSearchEnd (dt a band : Nat) (s : State) : Host.Outcome State Fault Refusal :=
  let s := s.elapse dt
  let a := a % 4
  let b := band % 32
  let cached := Tab.find? s.us.bands a == some b
  .next (if s.on R.SY_APLLa_STAT_SEARCH a && (!cached || decide ((s.apllOf a).searchFrom + 100000000 ≤ s.clk)) then
      let t := (s.set R.SY_APLLa_STAT_BAND b a).set R.SY_APLLa_STAT_SEARCH 0 a
      ({ t with us := { t.us with bands := Tab.put t.us.bands a b } }).apllUpd a fun p => { p with lockFrom := s.clk }
    else s)

/-- The distance of GRAN boundaries, in 2^-48 ps. -/
def State.granUnit (s : State) (a : Nat) : Nat := if s.granMs a then 10 ^ 9 * 2 ^ 48 else secUnit

/-- The GRAN boundary that an APLL's time last passed. -/
def State.granIndex (s : State) (a : Nat) : Nat := s.apllTime a / s.granUnit a

/-- APLL_LOCK (R206): the phase error has stayed in the window for LOCK_N reference cycles. -/
def execApllLock (dt a : Nat) (s : State) : Host.Outcome State Fault Refusal :=
  let s := s.elapse dt
  let a := a % 4
  let p := s.apllOf a
  .next (if s.on R.SY_APLLa_CFG_EN a && s.on R.SY_APLLa_STAT_REF_OK a && !s.on R.SY_APLLa_STAT_SEARCH a
      && !s.on R.SY_APLLa_STAT_LOCKED a && decide (p.searchFrom ≤ p.lockFrom)
      && decide (p.lockFrom + p.lockN * 10000 ≤ s.clk) then
      ((s.set R.SY_APLLa_STAT_LOCKED 1 a).apllUpd a fun p => { p with restartAt := s.granIndex a + 1 }).armedSync.raise 61 a
    else s)

/-- APLL_LOL (R206): loss of lock gates the outputs and begins a new lock. -/
def execApllLol (dt a : Nat) (s : State) : Host.Outcome State Fault Refusal :=
  let s := s.elapse dt
  let a := a % 4
  .next (if s.on R.SY_APLLa_STAT_LOCKED a then ((s.raise 62 a).relock a) else s)

/-- OUTPUT_RESTART (R211): at the first GRAN boundary after lock the outputs start, cascaded ones on the same edge; each
first rising edge stands at the boundary plus DLY and the present destination of PHOFS (R216). -/
def execOutputRestart (dt a : Nat) (s : State) : Host.Outcome State Fault Refusal :=
  let s := s.elapse dt
  let a := a % 4
  .next (if s.on R.SY_APLLa_STAT_LOCKED a && s.on R.SY_APLLa_STAT_GATED a && decide ((s.apllOf a).restartAt ≤ s.granIndex a) then
      let inst := (s.apllOf a).restartAt * s.granUnit a
      let t := (s.outsOf a).foldl (fun s m => { s.set R.SY_OUTm_STAT_GATED 0 m with
        clkout := Tab.put s.clkout m { s.clkOutOf m with first := some inst } }) (s.set R.SY_APLLa_STAT_GATED 0 a)
      (((t.apllUpd a fun p => { p with phase := s.getZ R.SY_APLLa_PHOFS_PHOFS a, phaseAt := s.clk }).set
        R.SY_APLLa_STAT_PH_BUSY 0 a).outSync).firstRise (s.outsOf a) inst
    else s)

/-! ### The synthesis reference (R200, R201) -/

/-- The reference goes: the core PLL moves off it, the APLLs unlock and gate, no slot stays qualified, and locked DPLLs
hold (R200). -/
def State.loseXo (s : State) : State :=
  let t := s.accrueAll
  let t := ({ t with tr := { t.tr with xoLost := true, xoAt := s.clk } }).coreTo (if s.warm then 1 else 2)
  let t := t.raise 60
  let t := (List.range 4).foldl (fun s a => (s.gateApll a).writes [{ f := R.SY_APLLa_STAT_REF_OK, i := a, v := 0 },
    { f := R.SY_APLLa_STAT_LOCKED, i := a, v := 0 }, { f := R.SY_APLLa_STAT_SEARCH, i := a, v := 0 }]) t
  let t := t.armedSync
  let t := (List.range 16).foldl (fun s i => s.unqualify i) t
  let t := (List.range 8).foldl (fun s n => if s.tbOn n && decide (s.dpllState n < 2) then s.enterHold n else s) t
  (List.range 8).foldl (fun s n => s.judgeTime n) t

/-- XO_LOSS (R200): three periods of `xo_in` pass without an edge. -/
def execXoLoss (dt : Nat) (s : State) : Host.Outcome State Fault Refusal :=
  let s := s.elapse dt
  .next (if s.tr.xoLost then s else s.loseXo)

/-- A port die restarts: every replica reloads its timebase (R27). -/
def State.reloadReplicas (s : State) (die : Nat) : State :=
  (List.range 8).foldl (fun s n => if !s.tbOn n then s else
    let r := s.repOf die n
    let r : Replica := { ofs := 0, stepSeq := (s.tbOf n).stepSeq, reloads := r.reloads + 1 }
    let t := { s with replica := Tab.put s.replica (8 * die + n) r }
    (t.raise 45 (det2 die n)).schedAlign n ((List.range 24).map fun k => 24 * die + k)) s

/-- The reference is back: gates count from now on, the enabled APLLs lock again, and the replicas load (R201). -/
def State.regainXo (s : State) : State :=
  let t := s.accrueAll
  let t := ({ t with tr := { t.tr with xoLost := false } }).coreTo 0
  let t := (List.range 16).foldl (fun s i => s.slotUpd i fun k => { k with activeFrom := max k.activeFrom s.clk }) t
  let t := (List.range 4).foldl (fun s a =>
    let s := s.set R.SY_APLLa_STAT_REF_OK 1 a
    if s.on R.SY_APLLa_CFG_EN a then s.relock a else s) t
  (t.reloadReplicas 0).reloadReplicas 1

/-- A whole millisecond of the line timebase has come since `xo_in` can have been present again for 100 ms (R201). -/
def State.xoBack (s : State) : Bool :=
  let ready := s.tr.xoAt + 10 ^ 11
  let since := ((s.tbOf s.lineTb).gain (s.clk - ready)).toNat
  s.tr.xoLost && decide (ready ≤ s.clk) && decide (s.lineTime % (10 ^ 9 * 2 ^ 48) ≤ since)

/-- XO_RETURN (R201): `xo_in` has been present again for 100 ms, and the core PLL moves back to it. -/
def execXoReturn (dt : Nat) (s : State) : Host.Outcome State Fault Refusal :=
  let s := s.elapse dt
  .next (if s.xoBack then s.regainXo else s)

/-! ### Commits (R212 to R215) -/

/-- A commit of an APLL is pending. -/
def State.synPending (s : State) (a : Nat) : Bool := s.on R.SY_APLLa_STAT_PENDING a

/-- The upper frequency limit of a format in Hz (R209). -/
def fmtLimit (f : Nat) : Nat := if f = 0 then 1500000000 else if f = 1 then 400000000 else 250000000

/-- What an output has in force after a commit of APLL a: its shadow where it is of the group, and otherwise what it
has (R213): source, cascade, divider, enable and format. -/
def State.afterCommit (s : State) (a m : Nat) : Nat × Bool × Nat × Bool × Nat :=
  if s.get R.SY_OUTm_CFG_APLL m = a then
    (a, s.on R.SY_OUTm_CFG_CASCADE m, s.get R.SY_OUTm_DIV_DIVM1 m + 1, s.on R.SY_OUTm_CFG_EN m, s.get R.SY_OUTm_CFG_FMT m)
  else (s.get R.SY_OUTm_STAT_APLL_ACT m, s.on R.SY_OUTm_STAT_CASCADE_ACT m, s.get R.SY_OUTm_STAT_DIVM1_ACT m + 1,
    (s.clkOutOf m).en, (s.clkOutOf m).fmt)

/-- The rules of R208 and R209 hold after a commit of an APLL: for its group, for an output that stays on it, and for
one cascaded from an output that leaves. -/
def State.groupOk (s : State) (a : Nat) : Bool :=
  let x (m : Nat) := s.afterCommit a m
  (List.range 16).all fun m =>
    let (src, casc, _, en, fmt) := x m
    let div := wholeDiv (fun k => (x k).2.2.1) (fun k => (x k).2.1) m
    (!casc || (m != 0 && (x (m - 1)).1 == src))
    && (src != a || !en
      || decide (100000000 * (s.get R.SY_APLLa_M_MINT a * 2 ^ 24 + s.get R.SY_APLLa_M_MFRAC a)
          ≤ fmtLimit fmt * s.get R.SY_APLLa_CFG_PRE a * div * 2 ^ 24))

/-- The linear time of the next GRAN boundary of an APLL's time. -/
def State.nextGran (s : State) (a : Nat) : Nat :=
  linear ((s.granIndex a + 1) * s.granUnit a)

/-- Make a commit pending for a linear instant. -/
def State.synPend (s : State) (a l : Nat) : State :=
  (s.set R.SY_APLLa_STAT_PENDING 1 a).apllUpd a fun p => { p with commit := l }

/-- The distance of the pending activation, in 2^-16 ns. -/
def State.synLeft (s : State) (a : Nat) : Int :=
  linDist (s.apllOf a).commit (linear (s.apllTime a))

/-- Cancel a pending commit; refused within 1 ms of its activation (R215). -/
def State.synLate (s : State) (a : Nat) : Bool := s.synPending a && decide (s.synLeft a < 10 ^ 6 * 65536)

def State.synCancel (s : State) (a : Nat) : State := s.set R.SY_APLLa_STAT_PENDING 0 a

/-- Load the shadow of an output. -/
def State.loadOut (s : State) (a m : Nat) : State :=
  let o : ClkOut := { s.clkOutOf m with
                      en := s.on R.SY_OUTm_CFG_EN m, fmt := s.get R.SY_OUTm_CFG_FMT m, cmosN := s.get R.SY_OUTm_CFG_CMOS_N m
                      hiz := s.on R.SY_OUTm_CFG_DIS_HIZ m, roleCtl := s.on R.SY_OUTm_CFG_ROLE_CTL m, dly := s.get R.SY_OUTm_DLY_DLY m }
  let t := s.writes [{ f := R.SY_OUTm_STAT_APLL_ACT, i := m, v := a }, { f := R.SY_OUTm_STAT_CASCADE_ACT, i := m, v := s.get R.SY_OUTm_CFG_CASCADE m },
      { f := R.SY_OUTm_STAT_DIVM1_ACT, i := m, v := s.get R.SY_OUTm_DIV_DIVM1 m },
      { f := R.SY_OUTm_STAT_GATED, i := m, v := s.get R.SY_APLLa_STAT_GATED a }]
  { t with clkout := Tab.put s.clkout m o }

/-- What of an output makes it start again when a commit changes it (R214). -/
def State.outForm (s : State) (m : Nat) : Nat × Nat × Nat × Nat × Bool :=
  (s.get R.SY_OUTm_STAT_APLL_ACT m, s.actDiv m, (s.clkOutOf m).dly, (s.clkOutOf m).fmt, (s.clkOutOf m).en)

/-- Outputs that a commit has changed, in state `was` before it, start again: each stays low from the end of its last
complete cycle and rises at the activation instant plus DLY and PHOFS (R214). -/
def State.startAgain (s was : State) (l : List Nat) (inst : Nat) : State :=
  let cut (m : Nat) : Int := was.clk - ((was.sinceEdge m).getD 0 / 2 ^ 48 : Nat)
  let t := l.foldl (fun (s : State) m => { s with clkout := Tab.put s.clkout m { s.clkOutOf m with first := some inst } }) s
  let low := (l.filter fun m => was.on R.SY_OUTm_STAT_DRIVING m).foldl (fun t m => t.emit (.clkout m false (cut m))) t
  low.outSync.firstRise l inst

/-- Activation of a commit: the shadow of the APLL and of its group is loaded; a change of M, PRE or
SRC_DPLL relocks the APLL, and without one the outputs changed start again, after ALIGN_LOST all of them; the GNSS
sample clock is realigned (R204, R213, R214, R233). -/
def State.synActivate (s : State) (a : Nat) : State :=
  let p := s.apllOf a
  let mint := s.get R.SY_APLLa_M_MINT a
  let mfrac := s.get R.SY_APLLa_M_MFRAC a
  let src := if a < 2 then s.lineTb else s.get R.SY_APLLa_CFG_SRC_DPLL a
  let moved := p.mint != mint || p.mfrac != mfrac || s.get R.SY_APLLa_STAT_PRE_ACT a != s.get R.SY_APLLa_CFG_PRE a
    || (decide (2 ≤ a) && p.src != src)
  let t := s.apllUpd a fun p => { p with mint := mint, mfrac := mfrac, src := src, gran := some (s.on R.SY_APLLa_CFG_GRAN a) }
  let t := t.writes [{ f := R.SY_APLLa_STAT_PENDING, i := a, v := 0 }, { f := R.SY_APLLa_STAT_ALIGN_LOST, i := a, v := 0 },
    { f := R.SY_APLLa_STAT_PRE_ACT, i := a, v := s.get R.SY_APLLa_CFG_PRE a }]
  let t := ((s.groupOf a).foldl (fun s m => s.loadOut a m) t).followSync
  let inst := addTime (s.apllTime a) (s.synLeft a * linUnit)
  let again := (s.groupOf a).filter fun m => s.on R.SY_APLLa_STAT_ALIGN_LOST a || t.outForm m != s.outForm m
  let t := if moved && t.on R.SY_APLLa_CFG_EN a then t.relock a
    else if t.on R.SY_APLLa_STAT_GATED a then t else t.startAgain s again inst
  let t := if 2 ≤ a ∧ t.apllFollow a = t.get R.GN_CFG_TB then { t with gn := { t.gn with stepped := false } } else t
  (t.raise 63 a).outSync.armedSync

/-- APLL_COMMIT_ACTIVATION (R214). -/
def execApllCommitActivation (dt a : Nat) (s : State) : Host.Outcome State Fault Refusal :=
  let s := s.elapse dt
  let a := a % 4
  .next (if s.synPending a && decide (s.synLeft a ≤ 0) then s.synActivate a else s)

/-- A write of SY_APLLa_COMMIT with GO and a MODE: one that breaks R208 or R209, or cancels too late, is ignored as a whole;
another refused operation leaves MODE (R213, R215, R660). -/
def State.synGo (s : State) (a mode : Nat) : State :=
  let t := s.writes [{ f := R.SY_APLLa_COMMIT_MODE, i := a, v := mode }]
  match mode with
  | 0 => if !s.groupOk a then s else if s.synPending a then t else t.synPend a (s.nextGran a)
  | 1 =>
    let u := t.synPend a (s.get64 R.SY_APLLa_CTGT_LO_TGT R.SY_APLLa_CTGT_HI_TGT a)
    if !s.groupOk a then s else if s.synPending a || decide (u.synLeft a ≤ 0) then t else u
  | _ => if s.synLate a then s else t.synCancel a

/-- The direct write that starts a commit operation of an APLL. -/
def State.synGoWrite (s : State) (init a mode : Nat) : State :=
  s.directWrite init (0x620010 + 0x40 * a) [{ f := R.SY_APLLa_COMMIT_MODE, i := a, v := mode }] fun s => s.synGo a mode

/-- APLL_COMMIT_NEXT (R213). -/
def execApllCommitNext (init a : Nat) (s : State) : Host.Outcome State Fault Refusal :=
  .next (s.synGoWrite init (a % 4) 0)

/-- APLL_COMMIT_TARGET (R213). -/
def execApllCommitTarget (init a : Nat) (s : State) : Host.Outcome State Fault Refusal :=
  .next (s.synGoWrite init (a % 4) 1)

/-- APLL_COMMIT_CANCEL (R215). -/
def execApllCommitCancel (init a : Nat) (s : State) : Host.Outcome State Fault Refusal :=
  .next (s.synGoWrite init (a % 4) 2)

/-! ### Phase (R216) -/

/-- A new destination of the phase offset: the movement goes on from the present phase. -/
def State.phaseTo (s : State) (a : Nat) (ws : List FieldWrite) : State :=
  let now := s.phaseNow a
  let t := (s.cfgWrites ws).apllUpd a fun p => { p with phase := now, phaseAt := s.clk }
  t.setB R.SY_APLLa_STAT_PH_BUSY (t.getZ R.SY_APLLa_PHOFS_PHOFS a != now) a

/-- PH_BUSY as it stands now (R222). -/
def State.phaseSync (s : State) (a : Nat) : State :=
  s.setB R.SY_APLLa_STAT_PH_BUSY (s.on R.SY_APLLa_STAT_PH_BUSY a && s.getZ R.SY_APLLa_PHOFS_PHOFS a != s.phaseNow a) a

/-- PHOFS_MOVE_DONE (R216). -/
def execPhofsMoveDone (dt a : Nat) (s : State) : Host.Outcome State Fault Refusal :=
  let s := s.elapse dt
  let a := a % 4
  let dest := s.getZ R.SY_APLLa_PHOFS_PHOFS a
  .next (if s.on R.SY_APLLa_STAT_PH_BUSY a && decide (s.phaseNow a = dest) then
      (s.apllUpd a fun p => { p with phase := dest, phaseAt := s.clk }).set R.SY_APLLa_STAT_PH_BUSY 0 a
    else s)

/-! ### The SYN command group (R225 to R230) -/

/-- SYN.STATUS (R226). -/
def cmdSynStatus : Cmd where
  op := 0x1201
  any := true
  acts := false
  need := 1
  entry _ := 30
  body c s :=
    let a := c.bits 1 1 0
    let mask (l : List Nat) (f : Fld) : Nat := (l.filter fun m => s.on f m).foldl (fun v m => v + 2 ^ m) 0
    let t := s.phaseSync a
    done t [t.word R.SY_APLLa_STAT a, mask (s.outsOf a) R.SY_OUTm_STAT_DRIVING + 2 ^ 16 * mask (s.groupOf a) R.SY_OUTm_STAT_GATED]

/-- SYN_STATUS. -/
def execSynStatus (r : Req) (s : State) : Host.Outcome State Fault Refusal :=
  .next (s.exchange (some cmdSynStatus) cmdSynStatus.op r)

/-- The divider M of a layout lies between 96.0 and 125.0 (R202). -/
def mOk (m : Nat) : Bool :=
  decide (96 ≤ bits m 30 24) && (decide (bits m 30 24 < 125) || (bits m 30 24 == 125 && bits m 23 0 == 0))

/-- EN of an APLL takes a new value at once (R227). -/
def State.apllEnable (s : State) (a : Nat) (was : Bool) : State :=
  let now := s.on R.SY_APLLa_CFG_EN a
  if now && !was then s.relock a
  else if was && !now then ((s.gateApll a).writes [{ f := R.SY_APLLa_STAT_LOCKED, i := a, v := 0 },
    { f := R.SY_APLLa_STAT_SEARCH, i := a, v := 0 }]).outSync
  else s

/-- SYN.APLL_CFG (R203, R227). -/
def cmdSynApllCfg : Cmd where
  op := 0x1202
  need := 4
  entry _ := 30
  body c s :=
    let a := c.bits 1 1 0
    let fixed := decide (2 ≤ a) || (c.bits 3 30 24 == 100 && c.bits 3 23 0 == 0 && c.bits 2 20 16 == 4 && c.bits 2 10 8 == s.lineTb)
    let ws := (R.SY_APLLa_CFG.writes (c.arg 2) a).filter (fun w => decide (2 ≤ a) || w.f.lo == 11)
      ++ (if 2 ≤ a then R.SY_APLLa_M.writes (c.arg 3) a else []) ++ R.SY_APLLa_LOCK.writes (c.arg 4) a
    need (R.SY_APLLa_CFG.ok (c.arg 2) && mOk (c.arg 3) && R.SY_APLLa_LOCK.ok (c.arg 4) && fixed) .badArg s <|
    need (!s.synPending a) .commitPending s <|
    writeCfg s ws fun t => done (t.apllEnable a (s.on R.SY_APLLa_CFG_EN a))

/-- SYN_APLL_CFG. -/
def execSynApllCfg (r : Req) (s : State) : Host.Outcome State Fault Refusal :=
  .next (s.exchange (some cmdSynApllCfg) cmdSynApllCfg.op r)

/-- SYN.OUT_CFG (R215, R228). -/
def cmdSynOutCfg : Cmd where
  op := 0x1203
  need := 4
  entry _ := 30
  body c s :=
    let m := c.bits 1 3 0
    need (R.SY_OUTm_CFG.ok (c.arg 2) && R.SY_OUTm_DIV.ok (c.arg 3) && R.SY_OUTm_DLY.ok (c.arg 4)) .badArg s <|
    need (!s.synPending (s.get R.SY_OUTm_CFG_APLL m) && !s.synPending (c.bits 2 2 1)) .commitPending s <|
    writeCfg s (R.SY_OUTm_CFG.writes (c.arg 2) m ++ R.SY_OUTm_DIV.writes (c.arg 3) m ++ R.SY_OUTm_DLY.writes (c.arg 4) m) done

/-- SYN_OUT_CFG. -/
def execSynOutCfg (r : Req) (s : State) : Host.Outcome State Fault Refusal :=
  .next (s.exchange (some cmdSynOutCfg) cmdSynOutCfg.op r)

/-- SYN.COMMIT (R213 to R215, R229). -/
def cmdSynCommit : Cmd where
  op := 0x1204
  need := 1
  entry _ := 30
  body c s :=
    let a := c.bits 1 1 0
    let mode := c.bits 1 5 4
    let go (ws : List FieldWrite) (k : State → State) : Res :=
      writeCfg s (({ f := R.SY_APLLa_COMMIT_MODE, i := a, v := mode } : FieldWrite) :: ws) fun t => done (k t)
    match mode with
    | 0 => need (s.groupOk a) .checkFail s <| need (!s.synPending a) .commitPending s <|
        go [] fun t => t.synPend a (s.nextGran a)
    | 1 => need (decide (4 ≤ c.args.length)) .badArg s <|
        match s.judgeTarget (s.apllFollow a) (c.arg 2) (c.arg 3) (c.arg 4) with
        | .inr e => fail s e
        | .inl l => need (s.groupOk a) .checkFail s <| need (!s.synPending a) .commitPending s <|
            go [{ f := R.SY_APLLa_CTGT_LO_TGT, i := a, v := l % 2 ^ 32 }, { f := R.SY_APLLa_CTGT_HI_TGT, i := a, v := l / 2 ^ 32 }]
              fun t => t.synPend a l
    | 2 => need (!s.synLate a) .busy s <| go [] fun t => t.synCancel a
    | _ => fail s .badArg

/-- SYN_COMMIT. -/
def execSynCommit (r : Req) (s : State) : Host.Outcome State Fault Refusal :=
  .next (s.exchange (some cmdSynCommit) cmdSynCommit.op r)

/-- SYN.PHASE (R216, R230). -/
def cmdSynPhase : Cmd where
  op := 0x1205
  need := 2
  entry _ := 30
  body c s :=
    let a := c.bits 1 1 0
    let ws := R.SY_APLLa_PHOFS.writes (c.arg 2) a
    need (R.SY_APLLa_PHOFS.ok (c.arg 2)) .badArg s <|
    match ws.find? s.cmdLocked with
    | some _ => writeCfg s ws done
    | none => done (s.phaseTo a ws)

/-- SYN_PHASE. -/
def execSynPhase (r : Req) (s : State) : Host.Outcome State Fault Refusal :=
  .next (s.exchange (some cmdSynPhase) cmdSynPhase.op r)

end Sys2Proof.Machine
end

