-- ==== Sys2Proof/Machine/Pair.lean ====
section
/-! DEFINITION. The redundant pair: comparison, judgement, the clock-output role, self-test, and the RED command
group but its contexts (R428 to R457). -/

namespace Sys2Proof.Machine

/-! ### The pair timebase and session (R432) -/

/-- Change the pair agent. -/
def State.agentUpd (s : State) (f : Agent → Agent) : State := { s with agent := f s.agent }

/-- PAIR_TB and its time. -/
def State.pairTb (s : State) : Nat := s.get R.RD_PAIR_CFG_PAIR_TB

def State.pairTime (s : State) : Nat := s.time s.pairTb

/-- The whole millisecond of PAIR_TB that it is now. -/
def State.pairMs (s : State) : Nat := s.pairTime / (10 ^ 9 * 2 ^ 48)

/-- The agent works: enabled, in a mode that lets it, with the pair link up (R36). -/
def State.pairRuns (s : State) : Bool := s.serves && s.on R.RD_PAIR_CFG_EN && s.on R.RD_PAIR_STAT_LINK_UP

/-- The session of the pair domain on a PAIR port. -/
def State.pairSession (s : State) : Option Session :=
  let k (f : Fld) : Nat := sessKey (s.get f) (s.get R.RD_PAIR_CFG2_DOMAIN)
  (s.sess? (k R.RD_PAIR_CFG_PORT_A)).orElse fun _ => s.sess? (k R.RD_PAIR_CFG_PORT_B)

/-- Time comparison runs: the session in TRACK, and neither end without a link record (R127, R432). -/
def State.cmpTime (s : State) : Bool :=
  s.pairRuns && (match s.pairSession with
    | some e => e.npx == 5 && e.suspended.isNone && e.found && bitOf e.capFlags 3
    | none => false)

/-- The PAIR port that carries pair frames: the lower-numbered one that is UP (R429). -/
def State.pairSendPort (s : State) : Nat :=
  let a := s.get R.RD_PAIR_CFG_PORT_A
  let b := s.get R.RD_PAIR_CFG_PORT_B
  let up (p : Nat) : Bool := s.get R.PT_STATp_STATE p == 2
  if up (min a b) then min a b else max a b

/-- The octets of a PTP Timestamp of a time, and of a linear instant, of PAIR_TB (R430). -/
def timestampOf (t : Nat) : List Byte := timeBytes (timeWords t)

def State.instantBytes (s : State) (lin : Nat) : List Byte := timeBytes (s.stampWords { t := lin, tb := s.pairTb })

/-- Send a pair frame, 0x10 COMPARE, 0x11 ROLE or 0x12 JUDGE, in class 7: octets 0 to 11 of the CAPEX form with flags and
position 0, and the fields of its type from octet 12 on (R429, R430). -/
def State.pairSend (s : State) (type : Nat) (body : List Byte) : State :=
  let p := s.pairSendPort
  let q := (s.laneRec (laneOf p)).seq
  let head := beBytes 2 0x4B5A ++ beBytes 1 type ++ [1, 0, 0] ++ beBytes 4 s.nodeId ++ beBytes 1 p ++ beBytes 1 q
  (s.sendControl p 0x0180C200000E 0x88B6 (head ++ body)).laneUpd (laneOf p) fun x => { x with seq := (q + 1) % 256 }

/-! ### Verdicts (R438, R439) -/

/-- What a member does when the verdict is LOCAL. -/
def State.faultAct (s : State) : State :=
  let a := s.get R.RD_PAIR_CFG_FAULT_ACT
  if a = 0 then s
  else
    let t := (s.dropRole 4).enterRecovery
    if a = 2 then t.agentUpd fun x => { x with dropping := true } else t

/-- A verdict: 1 LOCAL, 2 PARTNER, 3 UNDECIDED. -/
def State.verdict (s : State) (v : Nat) : State :=
  let t := (s.set R.RD_PAIR_STAT_VERDICT v).agentUpd fun x => { x with ownJudge := none, theirJudge := none }
  let t := t.raise 85 v
  if v = 1 then t.faultAct else t

/-- A mismatch: 1 PPS, 2 TOD, 3 DIFFER, 4 CRC_SELF. -/
def State.mismatch (s : State) (cause : Nat) : State := (s.set R.RD_PAIR_STAT_CAUSE cause).raise 84 cause

/-- The self-check of a copy fails: a fault of this member (R435). -/
def State.selfFault (s : State) : State := (s.mismatch 4).verdict 1

/-- A member's offset from the witness, in ps: the phase-detector result of a LOCKED slot with ALIGN, a GNSS
slot's OFS, and otherwise the slot's latest phase (R438). -/
def State.witnessErr (s : State) : Int :=
  let w := s.get R.RD_PAIR_CFG_WITNESS
  let n := s.pairTb
  let z := if s.on R.TR_SLOTs_CFG_ALIGN w && s.dpllState n == 0 && s.get R.TR_DPLLn_STAT_ACTIVE n == w then
      sext 64 (s.get64 R.TR_DPLLn_PD_LO_PD R.TR_DPLLn_PD_HI_PD n)
    else if gnssSlot w then sext 64 (s.get64 R.GN_SOLx_OFS_LO_OFS R.GN_SOLx_OFS_HI_OFS (w - 14))
    else refPhase w (s.slotOf w).theta
  clampZ (-2147483648) 2147483647 (Int.tdiv (z * 1000) 65536)

/-- The two JUDGE frames give a verdict where they have one cause and onsets within 2 ms (R431, R438). -/
def State.judge (s : State) : State :=
  match s.agent.ownJudge, s.agent.theirJudge with
  | some a, some b =>
    if a.cause = b.cause ∧ (linDist a.onset b.onset).natAbs ≤ 2 * 10 ^ 6 * 65536 then
      let d : Int := (a.ew.natAbs : Int) - b.ew.natAbs
      s.verdict (if !(a.qualified && b.qualified) || decide (d.natAbs < s.get R.RD_PAIR_CFG2_JUDGE_MARGIN) then 3
        else if 0 < d then 1 else 2)
    else s
  | _, _ => s

/-- Declare a mismatch of cause PPS or TOD and send JUDGE. -/
def State.declare (s : State) (cause : Nat) : State :=
  let w := s.get R.RD_PAIR_CFG_WITNESS
  let j : Judge := { cause := cause, qualified := s.on R.TR_SLOTs_STAT_QUALIFIED w, ew := s.witnessErr
                     onset := linear s.pairTime, at_ := s.clk }
  let body := beBytes 1 cause ++ beBytes 1 (b2n j.qualified) ++ beBytes 1 w ++ [0] ++ beBytes 4 (wrap 32 j.ew) ++ timestampOf s.pairTime
  let t := (s.mismatch cause).pairSend 0x12 body
  (t.agentUpd fun x => { x with ownJudge := some j }).judge

/-! ### Frame items (R433, R434) -/

/-- Match the member's items with the partner's: equal ones are matched, different ones raise DIFFER, whose
verdict is UNDECIDED unless the self-check has given one for the frame (R434, R438). -/
def State.settleItems (s : State) : State :=
  s.agent.theirs.foldl (fun s it =>
    match s.agent.own.find? fun o => o.ctx == it.ctx && o.seq == it.seq with
    | none => s
    | some o =>
      let t := s.agentUpd fun x => { x with
        own := x.own.filter fun i => !(i.ctx == it.ctx && i.seq == it.seq), theirs := x.theirs.filter fun i => i != it }
      if o.crc = it.crc then t.agentUpd fun x => { x with matched := x.matched + 1 }
      else
        let d := (t.agentUpd fun x => { x with differ := x.differ + 1 }).mismatch 3
        if o.self then d else d.verdict 3) s

/-- ITEM_EXPIRY (R434): items older than 4 ms go; one of the partner's without a counterpart is MISSING. -/
def execItemExpiry (dt : Nat) (s : State) : Host.Outcome State Fault Refusal :=
  let t := (s.elapse dt).settleItems
  let fresh (i : Item) : Bool := decide (t.clk < i.at_ + 4 * 10 ^ 9)
  let gone := t.agent.theirs.filter fun i => !fresh i
  .next (t.agentUpd fun x => { x with own := x.own.filter fresh, theirs := x.theirs.filter fresh
                                      missing := x.missing + gone.length })

/-- The ToD fields of a time's second: SECONDS, UTC_OFS and LEAP (R436). -/
def State.todFields (s : State) (back : Nat) : PairTod :=
  let n := s.todTb
  let sec := secsOf (addTime s.todTime (-(back * 2 ^ 48 : Nat)))
  let (lp, ld) := s.leapPending n sec
  { sec := sec, utc := s.get R.HW_TBn_UTC_UTC_OFS n, leap := b2n lp + 2 * b2n ld + 4 * b2n (s.isSecond60 n sec) }

/-- An item of a COMPARE frame: context, sequence number and CRC in 8 octets (R433). -/
def Item.octets (i : Item) : List Byte := beBytes 4 (i.ctx * 2 ^ 19 + i.seq * 8) ++ beBytes 4 i.crc

/-- Chunks of 256 items; one empty chunk where there is none. -/
def chunks : Nat → List Item → List (List Item)
  | 0, _ => []
  | n + 1, l => if l.length ≤ 256 then [l] else l.take 256 :: chunks n (l.drop 256)

/-- The items recorded since the last tick of PAIR_TB leave in COMPARE frames of nine, at most 2,048 of them,
the rest counted as skipped; each frame carries the tick and the ToD and PPS fields (R430, R433). -/
def State.sendCompare (s : State) : State :=
  let a := s.agent
  let sk := a.fresh.length - 2048
  let l := chunks 9 (a.fresh.take 2048)
  let tod := s.todFields 500000000
  let tick := timestampOf (s.pairMs * (10 ^ 9 * 2 ^ 48))
  let flags (last : Bool) : Nat := b2n s.cmpTime + 2 * b2n (s.tbOf s.pairTb).timeValid + 4 * b2n last
  let frame (i : Nat) (c : List Item) : List Byte :=
    beBytes 2 c.length ++ beBytes 2 (satN 65535 sk) ++ tick ++ beBytes 6 tod.sec ++ beBytes 2 tod.utc ++ beBytes 1 tod.leap
    ++ beBytes 1 (flags (i + 1 == l.length)) ++ beBytes 4 (wrap 32 (s.getZ R.HW_PPSn_DLY_DLY 0))
    ++ beBytes 4 (s.get R.FO_DIGEST_DIGEST) ++ c.flatMap Item.octets
  let t := ((List.range l.length).zip l).foldl (fun (s : State) e => s.pairSend 0x10 (frame e.1 e.2)) s
  t.agentUpd fun x => { x with fresh := [], sentMs := s.pairMs, skippedAll := x.skippedAll + sk }

/-- COMPARE_SEND (R430, R431, R433): after a tick of PAIR_TB the items recorded since the last are sent, at most
2,048, with the ToD and PPS fields. -/
def execCompareSend (dt : Nat) (s : State) : Host.Outcome State Fault Refusal :=
  let s := (s.elapse dt).settleItems
  if s.pairRuns && s.agent.sentMs != s.pairMs then .next s.sendCompare else .next s

/-- The items and fields of a COMPARE of the partner are kept and settled against the device's own (R434). -/
def State.takeItems (s : State) (items : List (Nat × Nat × Nat)) (dly : Int) (digest : Nat) : State :=
  let new := (items.take 256).map fun (e : Nat × Nat × Nat) =>
    ({ ctx := e.1 % 8192, seq := e.2.1 % 65536, crc := e.2.2 % 2 ^ 32, at_ := s.clk } : Item)
  (s.agentUpd fun x => { x with theirs := x.theirs ++ new, dly := dly, partnerDigest := digest % 2 ^ 32 }).settleItems

/-- The ToD fields of a COMPARE for the tick `ms` are compared with the device's own of that tick (R436); a
difference is declared when it begins. -/
def State.takeTod (s : State) (ms flags : Nat) (tod : PairTod) : State :=
  let bad := s.cmpTime && bitOf flags 0 && (match Tab.find? s.agent.samples ms with
    | some m => m != tod
    | none => s.agent.todBad)
  let t := s.agentUpd fun x => { x with todBad := bad }
  if bad && !s.agent.todBad then t.declare 2 else t

/-- COMPARE_RECEIVED (R430, R434, R436): a COMPARE of the partner for a tick, with its items (context, sequence
number, CRC) and its ToD and PPS fields. -/
def execCompareReceived (dt ms : Nat) (items : List (Nat × Nat × Nat)) (sec utc leap flags : Nat) (dly : Int) (digest : Nat)
    (s : State) : Host.Outcome State Fault Refusal :=
  let s := s.elapse dt
  if !s.pairRuns then .next s
  else .next ((s.takeItems items dly digest).takeTod ms flags { sec := sec, utc := utc, leap := leap })

/-! ### Time and alignment (R436, R443) -/

/-- Steer the PHOFS of the role-controlled APLLs of a standby toward the holder's edges. -/
def State.steer (s : State) (delta : Int) : State :=
  s.roleAplls.foldl (fun s a =>
    let now := s.getZ R.SY_APLLa_PHOFS_PHOFS a
    let new := clampZ (-20000) 20000 (Config.alignSteer delta now)
    if new = now then s else s.phaseTo a [{ f := R.SY_APLLa_PHOFS_PHOFS, i := a, v := wrap 16 new }]) s

/-- Δ of a tick, in 2^-16 ps: what it does to DELTA, to the alignment and to the mismatch of cause PPS. -/
def State.takeDelta (s : State) (d : Int) : State :=
  let ps := Int.tdiv d 65536
  let t := s.setZ R.RD_PAIR_STAT_DELTA (clampZ (-32768) 32767 ps)
  let t := t.setZ R.RD_ROLE_STAT_ALIGN_ERR (clampZ (-32768) 32767 (Int.tdiv (2 * d) 65536))
  let near := decide (d.natAbs ≤ 20 * 65536)
  let far := decide (50 * 65536 < d.natAbs)
  let t := t.agentUpd fun x => { x with
    alignAt := s.clk, alignFrom := if near then some (x.alignFrom.getD s.clk) else none
    beyond := if far then x.beyond + 1 else 0, declared := far && x.declared }
  let t := if near then t else (t.set R.RD_ROLE_STAT_ALIGN_OK 0).armedSync
  let t := if t.roleHeld then t else (t.steer d).settleCfg
  if t.agent.beyond ≥ 2 ∧ t.agent.declared = false then (t.agentUpd fun x => { x with declared := true }).declare 1 else t

/-- TIME_COMPARE (R432, R436). -/
def execTimeCompare (dt : Nat) (s : State) : Host.Outcome State Fault Refusal :=
  let s := s.elapse dt
  if !s.on R.RD_PAIR_CFG_EN || s.agent.lastMs == s.pairMs then .next s
  else
    let run := s.cmpTime
    let t := s.setB R.RD_PAIR_STAT_CMP_TIME run
    let t := t.agentUpd fun x => { x with
      lastMs := s.pairMs, samples := ((s.pairMs, s.todFields 500000000) :: x.samples).take 8
      beyond := if s.agent.lastMs + 1 = s.pairMs then x.beyond else 0 }
    let theta := match s.pairSession with | some e => e.theta | none => 0
    .next (if run then t.takeDelta (theta * 1000 + (s.getZ R.HW_PPSn_DLY_DLY 0 - s.agent.dly) * 65536)
      else t.agentUpd fun x => { x with beyond := 0, declared := false })

/-- ALIGN_OK (R443): |Δ| has stayed within 20 ps for 1 s, or alignment data have stopped for 1 s. -/
def execAlignOk (dt : Nat) (s : State) : Host.Outcome State Fault Refusal :=
  let s := s.elapse dt
  let a := s.agent
  .next (if s.on R.RD_ROLE_STAT_ALIGN_OK then
      if a.alignAt + 10 ^ 12 ≤ s.clk then
        ((s.set R.RD_ROLE_STAT_ALIGN_OK 0).agentUpd fun x => { x with alignFrom := none }).armedSync
      else s
    else match a.alignFrom with
      | some t => if t + 10 ^ 12 ≤ s.clk ∧ s.clk < a.alignAt + 10 ^ 12 then (s.set R.RD_ROLE_STAT_ALIGN_OK 1).armedSync else s
      | none => s)

/-- JUDGE_RECEIVED (R431, R438). -/
def execJudgeReceived (dt cause : Nat) (qualified : Bool) (ew : Int) (onset : Nat) (s : State) :
    Host.Outcome State Fault Refusal :=
  let s := s.elapse dt
  .next (if s.pairRuns then
    (s.agentUpd fun x => { x with theirJudge := some { cause := cause, qualified := qualified, ew := ew
                                                       onset := onset % 2 ^ 64, at_ := s.clk } }).judge
  else s)

/-- JUDGE_TIMEOUT (R431). -/
def execJudgeTimeout (dt : Nat) (s : State) : Host.Outcome State Fault Refusal :=
  let s := s.elapse dt
  .next (match s.agent.ownJudge with
    | some j => if j.at_ + 4 * 10 ^ 9 ≤ s.clk then s.verdict 3 else s
    | none => s)

/-! ### The clock-output role (R441 to R447) -/

/-- The state byte of ROLE (R430). -/
def State.roleState (s : State) : Nat :=
  s.get R.RD_ROLE_STAT_HOLD + 2 * s.get R.RD_ROLE_STAT_ARMED + 4 * s.get R.RD_ROLE_CFG_PREF + 8 * s.get R.RD_PAIR_STAT_RECOVERY
  + 16 * s.get R.RD_ROLE_STAT_ROLE_IN + 32 * s.get R.RD_ROLE_STAT_HOLD + 64 * b2n s.agent.claim.isSome

/-- Send a ROLE frame with a request. -/
def State.sendRole (s : State) (request instant : Nat) : State :=
  let b := s.roleState
  let body := beBytes 1 b ++ beBytes 1 request ++ (if request = 0 then List.replicate 10 0 else s.instantBytes instant)
    ++ beBytes 2 (s.word R.RD_HEALTH % 4096) ++ beBytes 2 (s.get R.RD_ROLE_STAT_ALIGN_ERR) ++ [0, 0]
  let t := s.pairSend 0x11 body
  t.agentUpd fun x => { x with roleAt := s.clk, roleByte := b }

/-- ROLE_SEND (R431, R442): every 10 ms, and on any change of the state byte; a member that may take the role
with the link up and `pair_role_in` low claims it. -/
def execRoleSend (dt : Nat) (s : State) : Host.Outcome State Fault Refusal :=
  let s := s.elapse dt
  if !s.pairRuns then .next s
  else
    let claims := s.mayTake && !s.on R.RD_ROLE_STAT_ROLE_IN && s.agent.claim.isNone
    let t := if claims then s.agentUpd fun x => { x with claim := some s.clk } else s
    .next (if t.roleState != t.agent.roleByte || decide (t.agent.roleAt + 10 ^ 10 ≤ t.clk) then t.sendRole 0 0 else t)

/-- This member wins against the partner: PREF = 1, then the lower Node ID (R442). -/
def State.wins (s : State) (pref : Bool) (node : Nat) : Bool :=
  let own := s.on R.RD_ROLE_CFG_PREF
  if own != pref then own else decide (s.nodeId < node)

/-- A ROLE frame settles this member's claim. -/
def State.settleClaim (s : State) (state node : Nat) : State :=
  match s.agent.claim with
  | none => s
  | some _ =>
    if s.on R.RD_ROLE_STAT_ROLE_IN then s.agentUpd fun x => { x with claim := none }
    else if !bitOf state 6 || s.wins (bitOf state 2) node then
      (s.agentUpd fun x => { x with claim := none }).takeRole 1
    else s.agentUpd fun x => { x with claim := none }

/-- ROLE_RECEIVED (R430, R431, R442, R445): a ROLE frame of the partner with its Node ID; `instant` is linear. -/
def execRoleReceived (dt state request instant health : Nat) (alignErr : Int) (node : Nat) (s : State) :
    Host.Outcome State Fault Refusal :=
  let s := s.elapse dt
  if !s.pairRuns then .next s
  else
    let rx : RoleRx := { state := state % 256, request := request, instant := instant, health := health, alignErr := alignErr, at_ := s.clk }
    let t := (s.agentUpd fun x => { x with role := some rx }).settleClaim state node
    .next (if request = 1 ∧ t.on R.RD_ROLE_STAT_ARMED = true ∧ t.roleHeld = false then
        (t.agentUpd fun x => { x with handover := some (instant % 2 ^ 64, false, true) }).sendRole 2 (instant % 2 ^ 64)
      else if request = 2 then match t.agent.handover with
        | some (i, true, _) => if i = instant % 2 ^ 64 then t.agentUpd fun x => { x with handover := some (i, true, true) } else t
        | _ => t
      else t)

/-- ROLE_IN_FALL (R442, R444): `pair_role_in` falls. -/
def execRoleInFall (dt : Nat) (s : State) : Host.Outcome State Fault Refusal :=
  let s := s.elapse dt
  let was := s.on R.RD_ROLE_STAT_ROLE_IN
  let t := (s.set R.RD_ROLE_STAT_ROLE_IN 0).agentUpd fun x => { x with lowFrom := if was then some s.clk else x.lowFrom }
  .next (if was then t.takeRole 2 else t)

/-- ROLE_IN_LOW_TIMEOUT (R442). -/
def execRoleInLowTimeout (dt : Nat) (s : State) : Host.Outcome State Fault Refusal :=
  let s := s.elapse dt
  let due := !s.on R.RD_ROLE_STAT_ROLE_IN && (match s.agent.lowFrom with
    | some t => decide (t + 10 ^ 11 ≤ s.clk)
    | none => false)
  .next (if due && !s.on R.RD_PAIR_STAT_LINK_UP && s.on R.RD_ROLE_CFG_PREF then s.takeRole 1 else s)

/-- ROLE_CONTENTION (R442): `pair_role_in` reads high; where both members hold the role, the one that loses
against the partner's PREF and Node ID releases it. -/
def execRoleContention (dt node : Nat) (s : State) : Host.Outcome State Fault Refusal :=
  let s := s.elapse dt
  let t := (s.set R.RD_ROLE_STAT_ROLE_IN 1).agentUpd fun x => { x with lowFrom := none }
  let pref := match t.agent.role with | some r => bitOf r.state 2 | none => false
  .next (if t.roleHeld && !t.wins pref node then (t.dropRole 5).set R.RD_ROLE_STAT_CONTEND 1 else t)

/-- PLANNED_HANDOVER (R445): the agreed second boundary of PAIR_TB. -/
def execPlannedHandover (dt : Nat) (s : State) : Host.Outcome State Fault Refusal :=
  let s := s.elapse dt
  .next (match s.agent.handover with
    | some (i, mine, true) =>
      if linDist i (linear s.pairTime) ≤ 0 then
        if mine then s.dropRole 3 else (s.agentUpd fun x => { x with handover := none }).takeRole 3
      else s
    | _ => s)

/-- HANDOVER_ANSWER_TIMEOUT (R431): 1 ms before the instant without the standby's answer. -/
def execHandoverAnswerTimeout (dt : Nat) (s : State) : Host.Outcome State Fault Refusal :=
  let s := s.elapse dt
  .next (match s.agent.handover with
    | some (i, true, false) =>
      if linDist i (linear s.pairTime) ≤ 10 ^ 6 * 65536 then s.agentUpd fun x => { x with handover := none } else s
    | _ => s)

/-- RECOVERY_END (R447). -/
def execRecoveryEnd (dt : Nat) (s : State) : Host.Outcome State Fault Refusal :=
  let s := (s.elapse dt).armedSync
  .next (match s.agent.armedFrom with
    | some t => if s.on R.RD_PAIR_STAT_RECOVERY ∧ t + s.get R.RD_PAIR_CFG2_RECOVERY_TIME * 10 ^ 12 ≤ s.clk then
        s.set R.RD_PAIR_STAT_RECOVERY 0
      else s
    | none => s)

/-! ### Self-test (R447, R448) -/

/-- Continuous self-test runs: in BRINGUP from step S3, in MAINTENANCE and in recovery. -/
def State.testRuns (s : State) : Bool :=
  (s.mode == 1 && s.on R.MODE_STATE_START_RUN && decide (3 ≤ s.get R.MODE_STATE_STEP)) || s.mode == 5
  || s.on R.RD_PAIR_STAT_RECOVERY

/-- RUNNING of RD_HEALTH as it is now: continuous self-test, or a pass that RED.HEALTH asked for (R447, R457). -/
def State.healthSync (s : State) : State := s.setB R.RD_HEALTH_RUNNING (s.testRuns || s.agent.asked)

/-- The ROLE_IN check of the self-test (R448): the wire reads what the partner's last ROLE frame said it drives,
or low where there was none. -/
def State.wireRight (s : State) : Bool :=
  match s.agent.role with
  | some r => bitOf r.state 5 == s.on R.RD_ROLE_STAT_ROLE_IN
  | none => !s.on R.RD_ROLE_STAT_ROLE_IN

/-- HEALTH takes the results of a pass of the self-test, APLL, CLKOUT, PPS, SERIAL, ROLE_IN and COMPARE, each 1
for pass and 2 for fail; a change raises HEALTH_CHANGE (R448). -/
def State.setHealth (s : State) (apll clkout pps serial wire compare : Bool) : State :=
  let v (ok : Bool) : Nat := if ok then 1 else 2
  let t := s.writes [{ f := R.RD_HEALTH_APLL, v := v apll }, { f := R.RD_HEALTH_CLKOUT, v := v clkout },
    { f := R.RD_HEALTH_PPS, v := v pps }, { f := R.RD_HEALTH_SERIAL, v := v serial }, { f := R.RD_HEALTH_ROLE_IN, v := v wire },
    { f := R.RD_HEALTH_COMPARE, v := v compare }, { f := R.RD_HEALTH_RUNNING, v := b2n s.testRuns }]
  let now := t.word R.RD_HEALTH % 4096
  if now != s.word R.RD_HEALTH % 4096 then t.raise 87 now else t

/-- SELF_TEST (R448): a pass of the self-test, with what the band, pre-driver, pulse, encoder and comparison
checkers find. -/
def execSelfTest (dt : Nat) (band clkout pps serial compare : Bool) (s : State) : Host.Outcome State Fault Refusal :=
  let s := s.elapse dt
  let due := s.agent.asked || (s.testRuns && decide (s.agent.testAt + 10 ^ 10 ≤ s.clk))
  if !due then .next s.healthSync
  else
    let apll := band && s.roleAplls.all fun a => s.on R.SY_APLLa_STAT_LOCKED a && !s.on R.SY_APLLa_STAT_ALIGN_LOST a
    let t := (s.setHealth apll clkout pps serial s.wireRight compare).agentUpd fun x =>
      { x with testAt := s.clk, asked := false, askedMb := none }
    .next (if s.agent.asked then t.finish s.agent.askedMb .ok [t.word R.RD_HEALTH] else t)

/-! ### Commands (R457) -/

/-- A 64-bit count as two words. -/
def count64 (n : Nat) : List Nat := [n % 2 ^ 32, n / 2 ^ 32 % 2 ^ 32]

/-- RED.STATUS. -/
def cmdRedStatus : Cmd where
  op := 0x2501
  any := true
  acts := false
  entry _ := 17
  body _ s :=
    let s := s.healthSync
    let a := s.agent
    done s ([s.word R.RD_PAIR_STAT, s.word R.RD_ROLE_STAT, s.word R.RD_HEALTH, s.word R.RD_PFC_STAT] ++ count64 a.matched
      ++ count64 a.differ ++ count64 a.missing ++ count64 a.skippedAll ++ [s.get R.FO_DIGEST_DIGEST, a.partnerDigest])

/-- RED_STATUS. -/
def execRedStatus (r : Req) (s : State) : Host.Outcome State Fault Refusal :=
  .next (s.exchange (some cmdRedStatus) cmdRedStatus.op r)

/-- A port may take the PAIR role: it exists, is not managed and has no running schedule (R428). -/
def State.pairFits (s : State) (p : Nat) : Bool := decide (p < 48) && !s.managed p && !s.schedRuns p

/-- RED.PAIR_CFG (R39, R428, R439). -/
def cmdRedPairCfg : Cmd where
  op := 0x2505
  need := 3
  entry _ := 17
  body c s :=
    need (!(!c.image && (s.mode == 1 || s.mode == 5))) .notInMode s <|
    need (R.RD_PAIR_CFG.ok (c.arg 1) && R.RD_PAIR_CFG2.ok (c.arg 2) && R.RD_ROLE_CFG.ok (c.arg 3)
      && s.tbOn (c.bits 1 30 28)) .badArg s <|
    need (s.pairFits (c.bits 1 27 22) && s.pairFits (c.bits 1 21 16)) .checkFail s <|
    writeCfg s (R.RD_PAIR_CFG.writes (c.arg 1) ++ R.RD_PAIR_CFG2.writes (c.arg 2) ++ R.RD_ROLE_CFG.writes (c.arg 3)) fun t =>
      done ((t.agentUpd fun x => { x with dropping := false }).pairLink.outSync)

/-- RED_PAIR_CFG. -/
def execRedPairCfg (r : Req) (s : State) : Host.Outcome State Fault Refusal :=
  .next (s.exchange (some cmdRedPairCfg) cmdRedPairCfg.op r)

/-- The first second boundary of PAIR_TB at least 2 ms ahead (R445). -/
def State.handoverAt (s : State) : Nat := (secsOf (addTime s.pairTime (2 * 10 ^ 9 * 2 ^ 48 - 1)) + 1) * secUnit % timeMod

/-- RED.ROLE (R445). -/
def cmdRedRole : Cmd where
  op := 0x2506
  need := 1
  entry _ := 17
  body c s :=
    match c.bits 1 1 0 with
    | 0 => unlessLocked s 17 <| done (s.dropRole 0)
    | 1 =>
      let armed := match s.agent.role with | some r => bitOf r.state 1 | none => false
      need (s.on R.RD_PAIR_STAT_LINK_UP && armed && s.roleHeld) .checkFail s <|
      need s.agent.handover.isNone .busy s <| unlessLocked s 17 <|
        let t := s.handoverAt
        done ((s.agentUpd fun x => { x with handover := some (linear t, true, false) }).sendRole 1 (linear t)) (timeWords t)
    | _ => fail s .badArg

/-- RED_ROLE. -/
def execRedRole (r : Req) (s : State) : Host.Outcome State Fault Refusal :=
  .next (s.exchange (some cmdRedRole) cmdRedRole.op r)

/-- RED.HEALTH (R448): RUN starts a self-test pass, and the response comes with its result. -/
def cmdRedHealth : Cmd where
  op := 0x2507
  need := 1
  entry _ := 17
  body c s :=
    if c.bit 1 0 then
      { st := ((s.set R.RD_HEALTH_RUNNING 1).agentUpd fun x => { x with asked := true, askedMb := c.mb }), wait := true }
    else let t := s.healthSync; done t [t.word R.RD_HEALTH]

/-- RED_HEALTH. -/
def execRedHealth (r : Req) (s : State) : Host.Outcome State Fault Refusal :=
  .next (s.exchange (some cmdRedHealth) cmdRedHealth.op r)

/-- RED.LOOP_BREAK (R451). -/
def cmdRedLoopBreak : Cmd where
  op := 0x2508
  need := 2
  entry _ := 17
  body c s :=
    need (decide (c.arg 2 < 65536)) .badArg s <|
    writeCfg s (R.RD_LOOPBRK_LO.writes (c.arg 1) ++ R.RD_LOOPBRK_HI.writes (c.arg 2)) done

/-- RED_LOOP_BREAK. -/
def execRedLoopBreak (r : Req) (s : State) : Host.Outcome State Fault Refusal :=
  .next (s.exchange (some cmdRedLoopBreak) cmdRedLoopBreak.op r)

end Sys2Proof.Machine
end

