-- ==== Sys2Proof/Machine/Ports.lean ====
section
/-! DEFINITION. What happens to ports, and the PORT command group (R309 to R331). -/

namespace Sys2Proof.Machine

/-! ### Causes (R313 to R319) -/

/-- CAUSE_APPEARS (R316): a cause on an UP port takes it to HOLD. -/
def execCauseAppears (dt p : Nat) (s : State) : Host.Outcome State Fault Refusal :=
  let t := s.elapse dt
  let c := t.causeSync (p % 48)
  .next (if c.portState (p % 48) = 2 ∧ c.causes (p % 48) ≠ 0 then c.enterHoldPort (p % 48) else c)

/-- CAUSE_CLEARS (R318): every cause has cleared, and the port returns to UP. -/
def execCauseClears (dt p : Nat) (s : State) : Host.Outcome State Fault Refusal :=
  let t := s.elapse dt
  let c := t.causeSync (p % 48)
  let st := c.portState (p % 48)
  .next (if (st = 1 ∨ st = 3 ∨ st = 4) ∧ c.causes (p % 48) = 0 then c.portUp (p % 48) else c)

/-- The hold of a port has lasted its HOLD_TIME. -/
def State.holdDue (s : State) (p : Nat) : Bool :=
  s.portState p == 3 && (match (s.portOf p).hold with
    | some (t, lim, _) => decide (t + lim * 10 ^ 7 ≤ s.clk)
    | none => true)

/-- HOLD_TIME_EXPIRY (R319). -/
def execHoldTimeExpiry (dt p : Nat) (s : State) : Host.Outcome State Fault Refusal :=
  let t := s.elapse dt
  .next (if t.holdDue (p % 48) then t.holdEnd (p % 48) else t)

/-- The counts of a window reach a threshold of the port's mode (R313). -/
def State.overThr (s : State) (p : Nat) (w : Nat × Nat × Nat) : Bool :=
  if modeFec (s.portMode p) then
    decide (s.get R.PT_DEGp_UNCORR_THR p ≤ w.1) || decide (s.get R.PT_DEG2p_SYM_THR p ≤ w.2.1)
  else decide (s.get R.PT_DEGp_BLK_THR p ≤ w.2.2)

/-- A 1 ms window of the 1.25 GHz clock has ended since the last one that was taken. -/
def State.windowDue (s : State) (last : Nat) : Bool := decide (last < s.clk / 10 ^ 9)

/-- The degradation windows of a port end: the one whose errors were counted, and `more` without an error after it. -/
def State.degWindow (s : State) (p more : Nat) : State :=
  let x := s.portOf p
  let clean := (if s.overThr p x.win then 0 else x.clean + 1) + more
  let clear := x.degraded && decide (s.get R.PT_DEG2p_CLEAR_WIN p ≤ clean)
  let put (x : Port) : Port := { x with win := (0, 0, 0), clean := clean, degraded := x.degraded && !clear }
  let t := s.portUpd p put
  if clear then t.judgePort p else t

/-- Every degradation window that has passed ends. -/
def State.degRoll (s : State) : State :=
  if s.windowDue s.degWin then
    let more := s.clk / 10 ^ 9 - s.degWin - 1
    (List.range 48).foldl (fun s p => if s.portState p = 0 then s else s.degWindow p more) { s with degWin := s.clk / 10 ^ 9 }
  else s

/-- DEGRADATION_WINDOW_END (R313). -/
def execDegradationWindowEnd (dt : Nat) (s : State) : Host.Outcome State Fault Refusal := .next (s.elapse dt).degRoll

/-- DEGRADATION (R313): errors of the window in progress are counted — corrected codewords and symbols,
uncorrectable codewords, errored blocks; a count that reaches its threshold degrades the port. -/
def execDegradation (dt p corr sym unc blk : Nat) (s : State) : Host.Outcome State Fault Refusal :=
  let p := p % 48
  let t := (s.elapse dt).degRoll
  if t.portState p = 0 then .next t
  else
    let w := (t.portOf p).win
    let w' := (w.1 + unc, w.2.1 + sym, w.2.2 + blk)
    let t := (((t.count p 13 corr).count p 14 sym).count p 15 unc).count p 16 blk
    let bad := t.overThr p w'
    let t := t.portUpd p fun x => { x with win := w', degraded := x.degraded || bad, clean := if bad then 0 else x.clean }
    .next (if bad then t.judgePort p else t)

/-- PRESENCE_CHANGE (R314): `mod_prs_n` of a grove has changed for 10 µs. -/
def execPresenceChange (dt g : Nat) (low : Bool) (s : State) : Host.Outcome State Fault Refusal :=
  let g := g % 12
  let t := s.elapse dt
  .next (if t.on R.PT_MODg_PRS g == low then t else
    ((List.range 4).map fun i => 4 * g + i).foldl (fun s p =>
      if s.on R.PT_CFGp_EN p then (s.portUpd p fun x => { x with prs := some s.clk }).judgePort p else s)
      (t.setB R.PT_MODg_PRS low g))

/-! ### Received pauses (R322) -/

/-- Show whether received pauses stop egress on a port. -/
def State.pauseSync (s : State) (p : Nat) : State :=
  s.setB R.PT_STATp_TX_PAUSED (List.any (s.portOf p).paused fun (e : Nat × Nat) => decide (s.clk < e.2)) p

/-- PT_STATp as it is now: what is left of the port's HOLD, in 10 µs, and a received pause (R329). -/
def State.holdSync (s : State) (p : Nat) : State :=
  (s.set R.PT_STATp_HOLD_REMAIN (match (s.portOf p).hold with
    | some (t, lim, _) => if s.portState p = 3 then (t + lim * 10 ^ 7 - s.clk) / 10 ^ 7 else 0
    | none => 0) p).pauseSync p

/-- The classes a received frame stops, with their quanta: PAUSE stops classes 0 to 4 with PAUSE_RX and
without PFC, PFC the enabled classes it names. -/
def State.pauseClasses (s : State) (p : Nat) (pfc : Bool) (quanta : List (Nat × Nat)) : List (Nat × Nat) :=
  let e := s.get R.PT_FCp_PFC_EN p
  if pfc then quanta.filter fun q => decide (q.1 < 5) && bitOf e q.1
  else if e = 0 && s.on R.PT_FCp_PAUSE_RX p then (List.range 5).map fun c => (c, (quanta.getD 0 (0, 0)).2)
  else []

/-- A port takes a PAUSE or PFC frame: it stops the classes it names for its quanta of 512 bit times. -/
def State.takePause (s : State) (p : Nat) (pfc : Bool) (quanta : List (Nat × Nat)) : State :=
  let t := s.count p 11
  let step (l : Tab Nat) (q : Nat × Nat) : Tab Nat :=
    if q.2 = 0 then Tab.del l q.1 else Tab.put l q.1 (t.clk + q.2 % 65536 * 512000 / max 1 (modeRate (t.portMode p)))
  let put (x : Port) : Port := { x with paused := (t.pauseClasses p pfc quanta).foldl step x.paused }
  (t.portUpd p put).pauseSync p

/-- A MAC control frame received whole: its opcode tells PAUSE (0x0001) or PFC (0x0101), and the quanta follow; another
opcode has no effect (R311). -/
def State.macControl (s : State) (p : Nat) (b : List Byte) (svlan : Bool) : State :=
  let h := parse b svlan
  let op := fieldAt b h.pay 2
  if h.etype ≠ 0x8808 then s
  else if op = 1 then s.takePause p false [(0, fieldAt b (h.pay + 2) 2)]
  else if op = 0x0101 then
    let named := (List.range 8).filter fun c => bitOf (fieldAt b (h.pay + 2) 2) c
    s.takePause p true (named.map fun c => (c, fieldAt b (h.pay + 4 + 2 * c) 2))
  else s

/-- PAUSE_FRAME (R322): the frame is consumed and takes its effect. -/
def execPauseFrame (dt p : Nat) (pfc : Bool) (quanta : List (Nat × Nat)) (s : State) : Host.Outcome State Fault Refusal :=
  .next ((s.elapse dt).takePause (p % 48) pfc quanta)

/-- PAUSE_QUANTA_EXPIRY (R322): classes whose quanta have run out resume. -/
def execPauseQuantaExpiry (dt p : Nat) (s : State) : Host.Outcome State Fault Refusal :=
  let p := p % 48
  let t := s.elapse dt
  let put (x : Port) : Port := { x with paused := List.filter (fun (e : Nat × Nat) => decide (t.clk < e.2)) x.paused }
  .next ((t.portUpd p put).pauseSync p)

/-! ### The policer (R323) -/

/-- A limit of the policer: its default in BRINGUP, else the configured one (R324). -/
def State.policeLim (s : State) (f : Fld) : Nat := if s.mode = 1 then f.reset 0 0 else s.get f

/-- The counts of the policer restart with each window. -/
def State.policeRoll (s : State) : State :=
  if s.windowDue s.polWin then
    { s with polWin := s.clk / 10 ^ 9, police := 0, policed := []
             port := s.port.map fun e => (e.1, { e.2 with admitted := 0 }) }
  else s

/-- The policer judges a trapped frame: PORT_LIM frames per port and TOTAL_LIM frames in total per window, the
port limit first; the first drop in a window raises CTRL_POLICE. -/
def State.policeFrame (s : State) (p : Nat) : Bool × State :=
  let s := s.policeRoll
  let x := s.portOf p
  if x.admitted < s.policeLim R.PT_POLICE_CFG_PORT_LIM && s.police < s.policeLim R.PT_POLICE_CFG_TOTAL_LIM then
    (true, { s.portUpd p fun x => { x with admitted := x.admitted + 1 } with police := s.police + 1 })
  else
    let t := s.count p 26
    (false, if s.policed.isEmpty then { t.raise 35 p with policed := [p] } else t)

/-- POLICER_WINDOW (R323). -/
def execPolicerWindow (dt : Nat) (s : State) : Host.Outcome State Fault Refusal := .next (s.elapse dt).policeRoll

/-! ### The PORT command group (R331) -/

/-- PORT.STATUS. -/
def cmdPortStatus : Cmd where
  op := 0x2101
  any := true
  acts := false
  need := 1
  entry _ := 12
  body c s :=
    let p := c.bits 1 5 0
    let t := s.holdSync p
    need (decide (p < 48)) .badArg s <| done t [t.word R.PT_STATp p, t.word R.PT_CFGp p, t.word R.PT_MODg (p / 4)]

/-- PORT_STATUS. -/
def execPortStatus (r : Req) (s : State) : Host.Outcome State Fault Refusal :=
  .next (s.exchange (some cmdPortStatus) cmdPortStatus.op r)

/-- PORT.CFG (R308, R309, R561); reserves that a larger MAX_FRAME raises must leave the shared pool (R356). -/
def cmdPortCfg : Cmd where
  op := 0x2102
  need := 2
  entry _ := 12
  body c s :=
    let p := c.bits 1 5 0
    let w := c.arg 2
    let en := bitOf w 0
    let m := bits w 7 4
    let moved := m != s.portMode p
    need (decide (p < 48) && R.PT_CFGp.ok w && !(en && m == 0)) .badArg s <|
    need (!(en && decide (2 ≤ s.portPower p))) .notInMode s <|
    need (!(moved && s.subState (p / 4) != 0)) .busy s <|
    need (modeFits p m && (!en || s.lanesFit p m)) .checkFail s <|
    need (decide (s.reserveMore p (leastCells (bits w 31 18)) ≤ s.get R.CL_POOL_STAT_SHARED_FREE)) .noResource s <|
      let ws := R.PT_CFGp.writes w p
      match ws.find? s.cmdLocked with
      | some _ => writeCfg s ws done
      | none => done (s.portCfgWrite p ws)

/-- PORT_CFG. -/
def execPortCfg (r : Req) (s : State) : Host.Outcome State Fault Refusal :=
  .next (s.exchange (some cmdPortCfg) cmdPortCfg.op r)

/-- PORT.DOWN_CFG. -/
def cmdPortDownCfg : Cmd where
  op := 0x2103
  need := 4
  entry _ := 12
  body c s :=
    let p := c.bits 1 5 0
    need (decide (p < 48) && R.PT_HOLDp.ok (c.arg 2) && R.PT_DEGp.ok (c.arg 3) && R.PT_DEG2p.ok (c.arg 4)) .badArg s <|
    writeCfg s (R.PT_HOLDp.writes (c.arg 2) p ++ R.PT_DEGp.writes (c.arg 3) p ++ R.PT_DEG2p.writes (c.arg 4) p) done

/-- PORT_DOWN_CFG. -/
def execPortDownCfg (r : Req) (s : State) : Host.Outcome State Fault Refusal :=
  .next (s.exchange (some cmdPortDownCfg) cmdPortDownCfg.op r)

/-- A change of PT_FCp: received pauses that it no longer obeys end, thresholds are judged again, and the PFC
check runs (R322, R452). -/
def State.fcChanged (s : State) (p : Nat) : State :=
  let e := s.get R.PT_FCp_PFC_EN p
  let keep (q : Nat × Nat) : Bool := if e = 0 then s.on R.PT_FCp_PAUSE_RX p else bitOf e q.1
  let put (x : Port) : Port := { x with paused := List.filter keep x.paused }
  (((s.portUpd p put).pauseSync p).pfcCheck).judgePause p

/-- PORT.FC (R322). -/
def cmdPortFc : Cmd where
  op := 0x2104
  need := 2
  entry _ := 12
  body c s :=
    let p := c.bits 1 5 0
    let w := c.arg 2
    need (decide (p < 48) && R.PT_FCp.ok w && decide (bits w 7 0 < bits w 15 8)) .badArg s <|
    writeCfg s (R.PT_FCp.writes w p) fun t => done (t.fcChanged p)

/-- PORT_FC. -/
def execPortFc (r : Req) (s : State) : Host.Outcome State Fault Refusal :=
  .next (s.exchange (some cmdPortFc) cmdPortFc.op r)

/-- PORT.MODULE (R314). -/
def cmdPortModule : Cmd where
  op := 0x2105
  need := 1
  entry _ := 12
  body c s :=
    let g := c.bits 1 3 0
    need (decide (g < 12)) .badArg s <|
    writeCfg s [{ f := R.PT_MODg_RST, i := g, v := c.bits 1 8 8 }, { f := R.PT_MODg_LPMODE, i := g, v := c.bits 1 9 9 }]
      fun t => done t [t.word R.PT_MODg g]

/-- PORT_MODULE. -/
def execPortModule (r : Req) (s : State) : Host.Outcome State Fault Refusal :=
  .next (s.exchange (some cmdPortModule) cmdPortModule.op r)

/-- PORT.POLICE (R324). -/
def cmdPortPolice : Cmd where
  op := 0x2106
  need := 1
  entry _ := 12
  body c s :=
    need (!(!c.image && s.mode == 1)) .notInMode s <|
    need (R.PT_POLICE_CFG.ok (c.arg 1)) .badArg s <| writeCfg s (R.PT_POLICE_CFG.writes (c.arg 1)) done

/-- PORT_POLICE. -/
def execPortPolice (r : Req) (s : State) : Host.Outcome State Fault Refusal :=
  .next (s.exchange (some cmdPortPolice) cmdPortPolice.op r)

end Sys2Proof.Machine
end

