-- ==== Sys2Proof/Machine/Pipeline.lean ====
section
/-! DEFINITION. Ingress: headers, cells and the ends of received frames, trap queues, and the bank arbiters
(R310, R332, R333, R340, R352 to R361, R421). -/

namespace Sys2Proof.Machine

/-! ### PTP messages in a frame (R106, R107) -/

/-- The position of an event-transport PTP message: Ethertype 0x88F7, or UDP to port 319. -/
def Hdr.eventAt (h : Hdr) : Option Nat := if h.etype = 0x88F7 ∨ h.dport = 319 then h.ptpAt else none

/-- The messageType of a PTP message. -/
def ptpType (b : List Byte) (m : Nat) : Nat := fieldAt b m 1 % 16

/-- The event message of a frame: its position, where it is one of messageType 0 to 3. -/
def eventMsg (b : List Byte) (svlan : Bool) : Option Nat :=
  (parse b svlan).eventAt.filter fun m => decide (ptpType b m < 4)

/-- The timebase of a frame's stamps beside the line timebase's: the one its domain maps to. -/
def State.msgTb (s : State) (b : List Byte) (svlan : Bool) : Nat :=
  match (parse b svlan).ptpAt with
  | some m => (s.domainTb (fieldAt b (m + 4) 1)).getD s.lineTb
  | none => s.lineTb

/-- The terms of R107 for a frame received on a port, in 2^-16 ns. -/
def State.ingressTerms (s : State) (p : Nat) (b : List Byte) (svlan : Bool) : Int :=
  match eventMsg b svlan with
  | none => 0
  | some m =>
    let k := ptpType b m
    let asym : Int := if s.on R.PT_TSCFGp_ASYM_APPLY p then s.getZ R.PT_ASYMp_ASYM p else 0
    let link : Int := if s.on R.PT_TSCFGp_LINKDLY_APPLY p && k == 0 then (s.get R.PT_LINKDLYp_LINKDLY p : Nat) else 0
    (if k = 0 ∨ k = 3 then asym else -asym) + link

/-! ### Reception (R332, R333, R355) -/

/-- Change the frame in reception on a port. -/
def State.setRx (s : State) (p : Nat) (r : Rx) : State := { s with cl := { s.cl with rx := Tab.put s.cl.rx p r } }

/-- What a drop record shows of a frame in reception. -/
def Rx.seen (r : Rx) (p reason : Nat) : Seen :=
  { bytes := r.bytes, inPort := p, reason := reason, stamp := r.line, cell := r.cells.head?, res := r.res }

/-- Count a drop at the ingress port and offer it to the Tally (R529, R536). -/
def State.dropRx (s : State) (p : Nat) (r : Rx) (reason : Nat) : State :=
  (s.count p reason).tallyFrame 2 p (r.seen p reason)

/-- Give the frame in reception the cells its bytes need, or drop it with reason NO_BUFFER and return its cells
(R355). -/
def State.fillCells (s : State) (p : Nat) : Nat → State
  | 0 => s
  | n + 1 => match Tab.find? s.cl.rx p with
    | none => s
    | some r =>
      if r.res.kind != 2 || r.drop.isSome || decide (r.bytes.length ≤ 256 * r.cells.length) then s
      else match s.takeCell p r.res with
        | some (c, t) =>
          let first := r.res.placed && c.src != 1 && (r.cells.all fun x => x.src == 1)
          let t := if first then t.count p 40 else t
          (t.setRx p { r with cells := r.cells ++ [c] }).fillCells p n
        | none =>
          let late := r.res.placed && r.cells.all fun x => x.src == 1
          let t := ((if late then s.count p 40 else s).freeCells p r.res.cls r.cells).dropRx p r 37
          t.setRx p { r with cells := [], drop := some 37 }

/-- Bytes arrive: reception stops counting at 16,384 bytes. -/
def State.rxBytes (s : State) (p : Nat) (b : List Byte) : State :=
  match Tab.find? s.cl.rx p with
  | none => s
  | some r => ((s.setRx p { r with bytes := (r.bytes ++ b).take 16384 }).fillCells p 65).judgePause p

/-- HEADER_RECEIVED (R332): the first bytes of a frame on port p, at most 128; its word edge was sampled `ago`
ps ago and the PCS residual is `rho` units. The lookup takes the active image's tag. -/
def execHeaderReceived (dt p ago rho : Nat) (bytes : List Byte) (s : State) : Host.Outcome State Fault Refusal :=
  let s := s.elapse dt
  let p := p % 48
  if s.portState p ≠ 2 ∨ (Tab.find? s.cl.rx p).isSome = true then .next s
  else
    let b := bytes.take 128
    let sv := s.svlan s.epoch p
    let rho := min rho (rhoMax (s.portMode p))
    let ago := min ago s.clk
    let r : Rx := { bytes := [], res := s.merge p b, line := s.rxStamp p s.lineTb ago rho
                    own := s.rxStamp p (s.msgTb b sv) ago rho, extra := s.ingressTerms p b sv }
    .next ((s.setRx p r).rxBytes p b)

/-- CELL_ARRIVAL (R355): up to 256 further bytes of the frame in reception. -/
def execCellArrival (dt p : Nat) (bytes : List Byte) (s : State) : Host.Outcome State Fault Refusal :=
  .next ((s.elapse dt).rxBytes (p % 48) (bytes.take 256))

/-! ### The end of a frame (R310, R333, R340, R421) -/

/-- The MAC's reason to drop a frame: runt, oversize, FCS. A pair frame on a PAIR port may have 2,112 bytes
(R310, R429). -/
def State.macDrop (s : State) (p : Nat) (r : Rx) : Option Nat :=
  let n := r.bytes.length
  let top := if r.res.kind = 3 then 2112 else s.get R.PT_CFGp_MAX_FRAME p
  if n < 64 then some 9 else if top < n then some 10 else if !fcsGood r.bytes then some 8 else none

/-- A port's bandwidth meters take a frame's length, for the window in which its timestamp lies, while they run (R533). -/
def State.bwAdd (s : State) (p : Nat) (tx : Bool) (at_ n : Nat) : State :=
  if s.on R.TL_BWp_CFG_EN p then
    { s with bw := Tab.upd {} s.bw p fun b => { b with frames := (s.bwBefore p b.origin at_, tx, n) :: b.frames } }
  else s

/-- A received frame carries a timestamp to the control cores: an event message on a port with EN_TS (R99, R133). -/
def State.stamped (s : State) (p : Nat) (r : Rx) : Bool :=
  (eventMsg r.bytes (s.svlan r.res.epoch p)).isSome && s.on R.PT_TSCFGp_EN_TS p

/-- The counters of a good received frame (R528, R531). -/
def State.countRx (s : State) (p : Nat) (r : Rx) : State :=
  let n := r.bytes.length
  let dst := fieldAt r.bytes 0 6
  let t := (s.count p 0).count p 1 n
  let t := if dst = 2 ^ 48 - 1 then t.count p 5 else if bitOf dst 40 then t.count p 4 else t
  let t := if s.stamped p r then t.count p 22 else t
  ((t.countProg (0x50 + r.res.cls) p 0 1).countProg 0x60 p r.res.flow 1).countProg 0x61 p r.res.flow n

/-- A trapped frame passes the policer and enters its die's trap queue (R323, R340). -/
def State.trapFrame (s : State) (p : Nat) (r : Rx) : State :=
  let (ok, t) := s.policeFrame p
  if !ok then t.tallyFrame 2 p (r.seen p 26)
  else
    let q := if dieOf p = 0 then t.cl.trapA else t.cl.trapB
    if 512 ≤ q.length then t.dropRx p r 36
    else
      let e : Trap := { port := p, bytes := r.bytes, stamp := if t.stamped p r then some r.own else none, epoch := r.res.epoch }
      let cl := if dieOf p = 0 then { t.cl with trapA := q ++ [e] } else { t.cl with trapB := q ++ [e] }
      { t with cl := cl }.count p 27

/-- Drop a committed frame before its copies are enqueued: counted at its ingress port (R529). -/
def State.dropFrame (s : State) (id reason : Nat) : State :=
  match s.frame? id with
  | none => s
  | some f =>
    let t := (s.count f.port reason).tallyFrame 2 f.port { f.seen id with reason := reason }
    match t.frame? id with
    | none => t
    | some g => { t with cl := { t.cl with frames := Tab.put t.cl.frames id { g with left := [] } } }.release id

/-- A double-bit error on a context access (R420). -/
def State.ctxEccError (s : State) (id n : Nat) : State :=
  let t := s.sctxUpd n fun c => { c with rcvy := {}, home := none, indiv := [] }
  (t.raise 75 (0x8000 + n)).dropFrame id 39

/-- Commit a frame: it is stored, shown to the Tally, given its redundancy action, and one copy is enqueued on
each egress port (R333, R421, R536). -/
def State.commitFrame (s : State) (p : Nat) (r : Rx) (ctxEcc : Bool) : State :=
  let id := s.cl.next
  let tag := (parse r.bytes (s.svlan r.res.epoch p)).rtag
  let f : Frame := { bytes := r.bytes, port := p, res := r.res, cells := r.cells, line := r.line, own := r.own
                     extra := r.extra, seq := tag, left := r.res.ports }
  let cl := { s.cl with frames := Tab.put s.cl.frames id f, next := id + 1 }
  let t := { s with cl := cl }.tallyFrame 0 p (f.seen id)
  let c := t.sctxOf r.res.sctx
  if ctxEcc && c.valid && (r.res.redAct == 1 || r.res.redAct == 2) then t.ctxEccError id r.res.sctx
  else
    let (drop, num, strip, t) := t.redundancy p r.res tag
    match t.frame? id with
    | none => t
    | some g =>
      let t := { t with cl := { t.cl with frames := Tab.put t.cl.frames id { g with seq := num, strip := strip } } }
      match drop with
      | some why => t.dropFrame id why
      | none => (r.res.ports.foldl (fun s q => s.enqueue id q) t)

/-- The frame in reception on a port ends. -/
def State.endRx (s : State) (p : Nat) (r : Rx) (ctxEcc : Bool) : State :=
  let s := { s with cl := { s.cl with rx := Tab.del s.cl.rx p } }
  let s := s.bwAdd p false (s.absOf r.line) r.bytes.length
  match s.macDrop p r with
  | some why =>
    let t := s.freeCells p r.res.cls r.cells
    (if r.drop.isSome then t else t.dropRx p r why).judgePause p
  | none =>
    let t := s.countRx p r
    if r.drop.isSome then t
    else match r.res.kind with
      | 0 => t.dropRx p r r.res.reason
      | 1 => t.trapFrame p r
      | 2 => r.res.ports.foldl (fun s q => s.judgeWindows q) (t.commitFrame p r ctxEcc)
      | _ => t.macControl p r.bytes (s.svlan r.res.epoch p)

/-- FRAME_END (R333): the last bytes of the frame in reception, its FCS among them. -/
def execFrameEnd (dt p : Nat) (bytes : List Byte) (ctxEcc : Bool) (s : State) : Host.Outcome State Fault Refusal :=
  let p := p % 48
  let t := (s.elapse dt).rxBytes p bytes
  .next (match Tab.find? t.cl.rx p with
    | some r => t.endRx p r ctxEcc
    | none => t)

/-- TRAP_DELIVERY (R99, R340): the head of a die's trap queue reaches the control cores, with its timestamp where it has
one. -/
def execTrapDelivery (dt die : Nat) (s : State) : Host.Outcome State Fault Refusal :=
  let s := s.elapse dt
  let d := die % 2
  .next (match (if d = 0 then s.cl.trapA else s.cl.trapB) with
    | [] => s
    | e :: rest =>
      let cl := if d = 0 then { s.cl with trapA := rest } else { s.cl with trapB := rest }
      { s with cl := cl }.emit (match e.stamp with
        | some t => .trapped e.port t.tb t.stepSeq t.fine (s.stampWords t) e.bytes
        | none => .trapped e.port 0 0 false [] e.bytes))

/-! ### Bank arbiters (R358 to R361) -/

/-- A bank's arbiter. -/
def State.arbOf (s : State) (k : Nat) : Arb := Tab.get {} s.cl.arbs k

/-- The waiting positions after new requests are presented. -/
def present (l : Tab Nat) (reqs : List Nat) : Tab Nat :=
  reqs.foldl (fun l r => if (Tab.find? l r).isSome then l else Tab.put l r 0) l

/-- The position that wins a decision. -/
def Arb.winner (a : Arb) : Option Nat := a.rank.find? fun r => (Tab.find? a.reqs r).isSome

/-- The longest wait of a grove position among the requests. -/
def Arb.longest (a : Arb) : Nat := a.reqs.foldl (fun m e => if e.1 < 24 then max m e.2 else m) 0

/-- The pair agent gets the T port where it waits, and the Tally DMA does not or the agent has the turn (R358). -/
def Arb.toAgent (a : Arb) : Bool := a.tAgent && (a.agent || !a.tTally)

/-- The winner takes the lowest rank; every other request has waited one round more. At the T port one of the two requesters
behind it is served, the turn passes to the other, and a request that the other still has stays presented. -/
def Arb.grant (a : Arb) (w : Nat) : Arb :=
  let rest := List.map (fun (e : Nat × Nat) => (e.1, e.2 + 1)) (Tab.del a.reqs w)
  let b := { a with rank := (a.rank.filter fun r => r != w) ++ [w], reqs := rest }
  if w = 24 then
    { b with agent := !a.toAgent, tAgent := a.tAgent && !a.toAgent, tTally := a.tTally && a.toAgent
             reqs := if a.tAgent && a.tTally then Tab.put rest 24 0 else rest }
  else b

/-- What a read finds in the check bits: 1 a corrected error, 2 a double-bit error, which drops the head copy
of port p and class c, or ends it with an invalid FCS where its first byte has left (R352). -/
def State.bankRead (s : State) (k ecc p c : Nat) (copy : Bool) : State :=
  if ecc = 1 then s.incSat R.CL_ECC_STAT_CORR
  else if ecc = 2 then
    let t := ((s.set R.CL_ECC_STAT_DBE 1).set R.CL_ECC_STAT_DBE_BANK k).raise 75 k
    if !copy then t
    else match Tab.find? t.cl.tx p with
      | some x => if x.cls = c then { t with cl := { t.cl with tx := Tab.put t.cl.tx p { x with bad := true } } } else t
      | none => match t.queue p c with
        | [] => t
        | id :: rest => ((t.setQueue p c rest).dropCopy id p 39).judgeWindows p
  else s

/-- BANK_ACCESS (R359, R360): positions present requests to bank k, `agent` and `tally` those of the T port; the
arbiter decides where the bank is free. -/
def execBankAccess (dt k : Nat) (reqs : List Nat) (agent tally : Bool) (ecc p c : Nat) (s : State) :
    Host.Outcome State Fault Refusal :=
  let s := s.elapse dt
  let k := k % 64
  let p := p % 48
  let a := s.arbOf k
  let all := (reqs.filter fun r => decide (r < 24)) ++ (if agent || tally then [24] else [])
  let a := { a with reqs := present a.reqs all, tAgent := a.tAgent || agent, tTally := a.tTally || tally }
  let put (s : State) (a : Arb) : State := { s with cl := { s.cl with arbs := Tab.put s.cl.arbs k a } }
  .next (match a.winner with
    | none => put s a
    | some w =>
      if s.clk < a.free then put s a
      else
        let turn := s.get R.CL_BANKk_STAT_PARK k != w
        let b := a.grant w
        let t := put s { b with free := s.clk + (if turn then 800 else 400) }
        let t := (t.set R.CL_BANKk_STAT_PARK w k).set R.CL_BANKk_STAT_MAX_WAIT (max (s.get R.CL_BANKk_STAT_MAX_WAIT k) (satN 63 b.longest)) k
        let t := t.countProg (0x100 + k) 0 0 1
        let t := if turn then t.countProg (0x140 + k) 0 0 1 else t
        if w < 12 then t else t.bankRead k ecc p (c % 8) (w == 12 + p / 4))

end Sys2Proof.Machine
end

