-- ==== Sys2Proof/Machine/Spares.lean ====
section
/-! DEFINITION. Spare substitution, lane tests, error injection and the LANE command group (R294 to R307). -/

namespace Sys2Proof.Machine

/-! ### Substitution (R294 to R297) -/

/-- The word of LN_GRVg_STAT. -/
def State.grvStat (s : State) (g : Nat) : Nat := s.word R.LN_GRVg_STAT g

/-- Begin a substitution: the lane's transmit data is bridged onto the spare, which enters DETECT (R295
step 2). -/
def State.bridge (s : State) (g : Nat) : State :=
  match s.subst? g with
  | none => s
  | some b =>
    let l := laneOf b.port + b.pos
    let t := { s with subst := Tab.put s.subst g { b with acked := true } }
    ((t.set R.LN_Ll_CFG_EN 1 (spareOf g)).set R.LN_Ll_CFG_RATE (s.get R.LN_Ll_CFG_RATE l) (spareOf g)).laneDetect (spareOf g)

/-- Register a substitution of a grove. -/
def State.startSub (s : State) (g : Nat) (b : Subst) : State :=
  { s with subst := Tab.put s.subst g b }.writes [{ f := R.LN_GRVg_STAT_SUB_STATE, i := g, v := 1 },
    { f := R.LN_GRVg_STAT_SUB_IDX, i := g, v := (b.port + b.pos) % 4 }]

/-- End a substitution or an attempt: the spare returns to DISABLED and the timestamp point to the lane
(R295, R296). -/
def State.endSub (s : State) (g : Nat) : State :=
  match s.subst? g with
  | none => s
  | some b =>
    let t := ({ s with subst := Tab.del s.subst g }.set R.LN_GRVg_STAT_SUB_STATE 0 g).laneOff (spareOf g)
    if b.pos = 0 then t.loadK b.port else t

/-- Answer the command that waits for a substitution, and set it free. -/
def State.answerSub (s : State) (g : Nat) (st : Status) : State :=
  match s.subst? g with
  | none => s
  | some b =>
    let t := { s with subst := Tab.put s.subst g { b with mb := none, waits := false } }
    if b.waits then t.finish b.mb st (if st = .ok then [t.grvStat g] else []) else t

/-- Abandon an attempt: bridging stops and the command ends with a status. -/
def State.abandonSub (s : State) (g : Nat) (st : Status) : State := (s.answerSub g st).endSub g

/-- The receiver switches to the spare: a substituted lowest lane moves the timestamp point, and the spare's
meter supplies the fine phase, with the record's differences or from a reset (R297). -/
def State.switchToSpare (s : State) (g : Nat) : State :=
  match s.subst? g with
  | none => s
  | some b =>
    let l := laneOf b.port + b.pos
    let sp := spareOf g
    let t := (s.set R.LN_GRVg_STAT_SUB_STATE 2 g).laneGo sp 5
    let t := { t with subst := Tab.put t.subst g { b with sentDone := true } }
    let t := t.writes [{ f := R.LN_Ll_STAT_FOREIGN, i := sp, v := s.get R.LN_Ll_STAT_FOREIGN l },
      { f := R.LN_Ll_STAT_IDLE_CAP, i := sp, v := s.get R.LN_Ll_STAT_IDLE_CAP l },
      { f := R.LN_Ll_STAT_IDLE, i := sp, v := s.get R.LN_Ll_STAT_IDLE l }]
    let t := if b.pos = 0 then
        let t := t.loadK b.port
        match t.substRec l with
        | some (_, ph) =>
          let u := sext 64 (s.get64 R.LN_FPMl_UNW_LO_UNW R.LN_FPMl_UNW_HI_UNW l)
          (t.set64Z R.LN_FPMl_UNW_LO_UNW R.LN_FPMl_UNW_HI_UNW (u + ph) sp)
        | none =>
          let t := t.phaseReset sp
          t.set64 R.LN_FPMl_UNW_LO_UNW R.LN_FPMl_UNW_HI_UNW 0 sp
      else t
    t.sendCapex b.port 5 b.pos

/-- Step 6: SUB_DONE has been sent and received. Bridging stops, the lane is freed, LANE_SUB is raised and
the command answered. -/
def State.subActive (s : State) (g : Nat) : State :=
  match s.subst? g with
  | none => s
  | some b =>
    if b.sentDone && b.gotDone then
      let l := laneOf b.port + b.pos
      let t := (((s.set R.LN_GRVg_STAT_SUB_STATE 3 g).laneDark l).laneGo l 0).set R.LN_Ll_STAT_IDLE 1 l
      ((t.raise 38 (det2 g (l % 5))).answerSub g .ok).judgePort b.port
    else s

/-- SUB_REQ (R295): a partner asks for a substitution, answered with SUB_ACK and bridging, or SUB_NAK. -/
def execSubReq (dt p pos : Nat) (s : State) : Host.Outcome State Fault Refusal :=
  let p := p % 48
  let pos := pos % 4
  let g := p / 4
  let t := s.elapse dt
  if !(t.on R.PT_CFGp_EN p && decide (pos < modeLanes (t.portMode p)) && t.on R.LN_GLOBAL_CFG_CAPEX_EN) then .next t
  else if t.on R.LN_GRVg_CFG_SUB_ACCEPT g && t.on R.LN_GRVg_CFG_SPARE_WIRED g && t.subState g == 0
      && t.laneState (spareOf g) != 6 && !modeFwdClk (t.portMode p) then
    .next (((t.startSub g { port := p, pos := pos, since := t.clk, remote := true }).bridge g).sendCapex p 3 pos)
  else .next (t.sendCapex p 4 pos)

/-- SUB_ACK (R295): the partner accepts, and the local device bridges. -/
def execSubAck (dt g : Nat) (s : State) : Host.Outcome State Fault Refusal :=
  let g := g % 12
  let t := s.elapse dt
  match t.subst? g with
  | some b => .next (if t.subState g = 1 ∧ b.remote = false ∧ b.acked = false then t.bridge g else t)
  | none => .next t

/-- SUB_NAK (R295): the partner declines, and the command ends with CHECK_FAIL. -/
def execSubNak (dt g : Nat) (s : State) : Host.Outcome State Fault Refusal :=
  let g := g % 12
  let t := s.elapse dt
  match t.subst? g with
  | some b => .next (if t.subState g = 1 ∧ b.remote = false ∧ b.acked = false then t.abandonSub g .checkFail else t)
  | none => .next t

/-- SUB_ACK_TIMEOUT (R295): no SUB_ACK within 100 ms. -/
def execSubAckTimeout (dt g : Nat) (s : State) : Host.Outcome State Fault Refusal :=
  let g := g % 12
  let t := s.elapse dt
  match t.subst? g with
  | some b => .next (if t.subState g = 1 ∧ b.remote = false ∧ b.acked = false ∧ b.since + 10 ^ 11 ≤ t.clk then
      t.abandonSub g .timeout else t)
  | none => .next t

/-- The spare of a grove is locked and deskewed. -/
def State.spareReady (s : State) (g : Nat) : Bool :=
  s.laneState (spareOf g) == 3 && s.on R.LN_Ll_STAT_ALIGNED (spareOf g)

/-- SPARE_SWITCH (R295): the spare is locked and deskewed; the receiver switches to it and SUB_DONE is sent. -/
def execSpareSwitch (dt g : Nat) (s : State) : Host.Outcome State Fault Refusal :=
  let g := g % 12
  let t := s.elapse dt
  match t.subst? g with
  | some b => .next (if t.subState g = 1 ∧ b.calib = false ∧ t.laneState (spareOf g) = 3
        ∧ t.on R.LN_Ll_STAT_ALIGNED (spareOf g) = true then (t.switchToSpare g).subActive g else t)
  | none => .next t

/-- SUB_DONE (R295): the partner has switched its receiver. -/
def execSubDone (dt g : Nat) (s : State) : Host.Outcome State Fault Refusal :=
  let g := g % 12
  let t := s.elapse dt
  match t.subst? g with
  | some b => .next (if t.subState g = 1 ∨ t.subState g = 2 then
      { t with subst := Tab.put t.subst g { b with gotDone := true } }.subActive g else t)
  | none => .next t

/-- Begin a release: the freed lane leaves TEST and is bridged and trained (R296). -/
def State.startRelease (s : State) (g : Nat) : State :=
  match s.subst? g with
  | none => s
  | some b =>
    let l := laneOf b.port + b.pos
    let t := if s.laneState l = 6 then s.endTest l else s.laneDetect l
    let t := t.set R.LN_GRVg_STAT_SUB_STATE 4 g
    { t with subst := Tab.put t.subst g { b with since := s.clk, sentDone := false, gotDone := false } }

/-- The timestamp point returns to a port's lowest lane with the phase that the spare has, less the record's difference;
without a record the unwrapped phase is reset (R297). -/
def State.phaseBack (s : State) (g l : Nat) : State :=
  match s.substRec l with
  | some (_, ph) =>
    let u := sext 64 (s.get64 R.LN_FPMl_UNW_LO_UNW R.LN_FPMl_UNW_HI_UNW (spareOf g))
    s.set64Z R.LN_FPMl_UNW_LO_UNW R.LN_FPMl_UNW_HI_UNW (u - ph) l
  | none => (s.phaseReset l).set64 R.LN_FPMl_UNW_LO_UNW R.LN_FPMl_UNW_HI_UNW 0 l

/-- The release exchange ends: both receivers are back on the lane. -/
def State.endRelease (s : State) (g : Nat) : State :=
  match s.subst? g with
  | none => s
  | some b =>
    let l := laneOf b.port + b.pos
    let t := ((s.laneGo l 5).raise 38 (det2 g (l % 5))).set R.LN_GRVg_STAT_SUB_STATE 0 g
    let t := t.writes [{ f := R.LN_Ll_STAT_FOREIGN, i := l, v := s.get R.LN_Ll_STAT_FOREIGN (spareOf g) },
      { f := R.LN_Ll_STAT_IDLE_CAP, i := l, v := s.get R.LN_Ll_STAT_IDLE_CAP (spareOf g) },
      { f := R.LN_Ll_STAT_IDLE, i := l, v := s.get R.LN_Ll_STAT_IDLE (spareOf g) }]
    let t := if b.pos = 0 then t.phaseBack g l else t
    ((t.answerSub g .ok).endSub g).judgePort b.port

/-- SUB_REL (R296): the partner's SUB_REL begins a release of an active substitution; once the freed lane is
in LOCK the exchange ends and the spare returns to DISABLED. -/
def execSubRel (dt g : Nat) (s : State) : Host.Outcome State Fault Refusal :=
  let g := g % 12
  let t := s.elapse dt
  match t.subst? g with
  | some b =>
    let l := laneOf b.port + b.pos
    .next (if t.subState g = 3 then t.startRelease g
      else if t.subState g = 4 ∧ t.laneState l = 3 ∧ t.on R.LN_Ll_STAT_ALIGNED l = true then t.endRelease g else t)
  | none => .next t

/-- SUBSTITUTION_TIMEOUT (R295, R296): step 5 not reached within TRAIN_TO + 300 ms abandons an attempt; a
release that fails leaves the spare carrying the lane. -/
def execSubstitutionTimeout (dt g : Nat) (s : State) : Host.Outcome State Fault Refusal :=
  let g := g % 12
  let t := s.elapse dt
  match t.subst? g with
  | some b =>
    let due := b.since + t.get R.LN_GLOBAL_CFG_TRAIN_TO * 10 ^ 10 + 3 * 10 ^ 11 ≤ t.clk
    let l := laneOf b.port + b.pos
    let held := b.calib && t.spareReady g
    .next (if t.subState g = 1 ∧ due ∧ held = false then t.abandonSub g .timeout
      else if t.subState g = 4 ∧ due then
        (((((t.set R.LN_GRVg_STAT_SUB_STATE 3 g).laneDark l).laneGo l 0).set R.LN_Ll_STAT_IDLE 1 l).answerSub g .timeout)
      else t)
  | none => .next t

/-! ### Tests and error injection (R298 to R300) -/

/-- A lane may be placed in a test: in MAINTENANCE any, in CALIBRATE an unclaimed spare or a freed lane. -/
def State.mayTest (s : State) (l : Nat) : Bool :=
  s.mode == 5 || (s.mode == 4 && ((isSpare l && s.subState (l / 5) == 0)
    || (!isSpare l && s.subState (l / 5) == 3 && s.carried (l / 5) == some l)))

/-- A generator or checker code is valid for a lane. -/
def State.patOk (s : State) (l pat : Nat) : Bool :=
  decide (pat ≤ 11) && !(decide (7 ≤ pat) && decide (pat ≤ 9) && s.get R.LN_Ll_CFG_RATE l != 4)

/-- What a running checker reports is the partner's doing: free values, shown when they are read. -/
def State.checkSync (s : State) (l : Nat) : State :=
  if s.laneState l = 6 ∧ s.get R.LN_Ll_TEST_CHK_PAT l ≠ 0 then
    let (k, s) := s.draw 1
    let (e, s) := s.draw 48
    let (b, s) := s.draw 48
    ((s.set R.LN_Ll_CHK_STAT_CHK_LOCK k l).set64 R.LN_Ll_CHK_ERR_LO_CHK_ERR R.LN_Ll_CHK_ERR_HI_CHK_ERR e l).set64
      R.LN_Ll_CHK_BITS_LO_CHK_BITS R.LN_Ll_CHK_BITS_HI_CHK_BITS b l
  else s

/-- The checker's counts clear. -/
def State.checkClear (s : State) (l : Nat) : State :=
  ((s.set R.LN_Ll_CHK_STAT_CHK_LOCK 0 l).set64 R.LN_Ll_CHK_ERR_LO_CHK_ERR R.LN_Ll_CHK_ERR_HI_CHK_ERR 0 l).set64
    R.LN_Ll_CHK_BITS_LO_CHK_BITS R.LN_Ll_CHK_BITS_HI_CHK_BITS 0 l

/-- A lane enters TEST: the port whose lane it is goes down, unless the lane is freed. -/
def State.laneTest (s : State) (l : Nat) : State :=
  if s.laneState l = 6 then s else ((s.laneDark l).laneGo l 6).judgeLane l

/-- Error injection may act on a lane: in TEST, or in MAINTENANCE on an ACTIVE lane. -/
def State.mayInject (s : State) (l : Nat) : Bool := s.laneState l == 6 || (s.mode == 5 && s.laneState l == 5)

/-- INJECT_ONE (R300, R305): writing ONE injects a single error on the lane's transmitter; it is ignored
while no test is allowed on the lane. -/
def execInjectOne (init l : Nat) (s : State) : Host.Outcome State Fault Refusal :=
  let l := l % 60
  .next (s.directWrite init (0x601020 + 0x40 * l) [] fun s => if s.mayInject l then s.emit (.symbolError l) else s)

/-! ### The LANE command group (R307) -/

/-- LANE.STATUS. -/
def cmdLaneStatus : Cmd where
  op := 0x2001
  any := true
  acts := false
  need := 1
  entry _ := 12
  body c s :=
    let l := c.bits 1 5 0
    let t := s.cacheSync l
    need (decide (l < 60)) .badArg s <|
    done t [t.word R.LN_Ll_STAT l, t.word R.LN_Ll_RM l, t.word R.LN_Ll_RETRY l, t.grvStat (l / 5)]

/-- LANE_STATUS. -/
def execLaneStatus (r : Req) (s : State) : Host.Outcome State Fault Refusal :=
  .next (s.exchange (some cmdLaneStatus) cmdLaneStatus.op r)

/-- The taps of a TXEQ layout satisfy PRE + MAIN + POST ≤ 63 (R303). -/
def tapsOk (w : Nat) : Bool := decide (bits w 17 12 + bits w 11 6 + bits w 5 0 ≤ 63)

/-- LANE.CFG (R303). -/
def cmdLaneCfg : Cmd where
  op := 0x2002
  need := 3
  entry _ := 12
  body c s :=
    let l := c.bits 1 5 0
    need (decide (l < 60) && R.LN_Ll_CFG.ok (c.arg 2) && R.LN_Ll_TXEQ.ok (c.arg 3) && tapsOk (c.arg 3)) .badArg s <|
    writeCfg s (R.LN_Ll_CFG.writes (c.arg 2) l ++ R.LN_Ll_TXEQ.writes (c.arg 3) l) done

/-- LANE_CFG. -/
def execLaneCfg (r : Req) (s : State) : Host.Outcome State Fault Refusal :=
  .next (s.exchange (some cmdLaneCfg) cmdLaneCfg.op r)

/-- A substitution of a grove is in progress: neither absent nor active. -/
def State.subBusy (s : State) (g : Nat) : Bool := s.subState g == 1 || s.subState g == 2 || s.subState g == 4

/-- LANE.RESTART (R284, R300). -/
def cmdLaneRestart : Cmd where
  op := 0x2003
  need := 1
  entry _ := 12
  body c s :=
    let l := c.bits 1 5 0
    need (decide (l < 60)) .badArg s <| need (!s.laneAsleep l) .notInMode s <| need (!s.subBusy (l / 5)) .busy s <|
      unlessLocked s 12 <|
      let t := (s.group l).foldl (fun s k => s.endInject k) s
      let t := t.groupDetect l
      done (if c.bit 1 8 then (s.group l).foldl (fun s k => s.dropCache k) t else t)

/-- LANE_RESTART. -/
def execLaneRestart (r : Req) (s : State) : Host.Outcome State Fault Refusal :=
  .next (s.exchange (some cmdLaneRestart) cmdLaneRestart.op r)

/-- The partner of a port offers its spare: SPARE_WIRED and SUB_ACCEPT in its HELLO. -/
def State.partnerSpare (s : State) (p : Nat) : Bool :=
  match (s.laneRec (laneOf p)).hello with
  | some h => bitOf h.flags 1 && bitOf h.flags 2
  | none => false

/-- LANE.SPARE (R294 to R296). -/
def cmdLaneSpare : Cmd where
  op := 0x2004
  mode s := s.mode != 0 && s.mode != 1
  need := 1
  entry _ := 12
  body c s :=
    let p := c.bits 1 5 0
    let pos := c.bits 1 9 8
    let g := p / 4
    need (decide (p < 48)) .badArg s <|
    if c.bit 1 12 then
      match s.subst? g with
      | none => fail s .checkFail
      | some b => need (!s.subBusy g) .busy s <| need (b.port == p && b.pos == pos) .checkFail s <| unlessLocked s 12 <|
          let t := s.startRelease g
          let t := { t with subst := Tab.upd {} t.subst g fun b => { b with mb := c.mb, waits := true, remote := false } }
          { st := t.sendCapex p 6 pos, wait := true }
    else
      need (s.on R.LN_GRVg_CFG_SPARE_WIRED g && s.partnerSpare p && !modeFwdClk (s.portMode p) && s.on R.PT_CFGp_EN p
        && s.lanesActive p) .checkFail s <|
      need (decide (pos < modeLanes (s.portMode p))) .badArg s <|
      need (s.subState g == 0 && s.laneState (spareOf g) != 6) .busy s <| unlessLocked s 12 <|
        let b : Subst := { port := p, pos := pos, since := s.clk, mb := c.mb, waits := true }
        { st := (s.startSub g b).sendCapex p 2 pos, wait := true }

/-- LANE_SPARE. -/
def execLaneSpare (r : Req) (s : State) : Host.Outcome State Fault Refusal :=
  .next (s.exchange (some cmdLaneSpare) cmdLaneSpare.op r)

/-- LANE.TEST (R298, R299, R305, R306). -/
def cmdLaneTest : Cmd where
  op := 0x2005
  need := 4
  entry _ := 12
  body c s :=
    let l := c.bits 1 5 0
    let w := c.arg 2
    let words (s : State) : List Nat := [s.word R.LN_Ll_CHK_STAT l, s.word R.LN_Ll_CHK_ERR_LO l, s.word R.LN_Ll_CHK_ERR_HI l,
      s.word R.LN_Ll_CHK_BITS_LO l, s.word R.LN_Ll_CHK_BITS_HI l]
    need (decide (l < 60)) .badArg s <|
    need ((s.mayTest l || (isSpare l && s.subState (l / 5) != 0)) && !s.laneAsleep l) .notInMode s <|
    need (R.LN_Ll_TEST.ok w && s.patOk l (bits w 31 28) && s.patOk l (bits w 27 24) && bits w 27 24 != 10) .badArg s <|
    need (!(isSpare l && s.subState (l / 5) != 0)) .busy s <|
    let t := s.checkSync l
    if c.bit 1 8 then done (t.endTest l) (words t)
    else
      let ws := R.LN_Ll_TEST.writes w l ++ R.LN_Ll_USER_LO.writes (c.arg 3) l ++ R.LN_Ll_USER_HI.writes (c.arg 4) l
      writeCfg t ws fun u => done ((u.laneTest l).checkClear l) (words t)

/-- LANE_TEST. -/
def execLaneTest (r : Req) (s : State) : Host.Outcome State Fault Refusal :=
  .next (s.exchange (some cmdLaneTest) cmdLaneTest.op r)

/-- LANE.INJECT (R300, R305). -/
def cmdLaneInject : Cmd where
  op := 0x2006
  need := 2
  entry _ := 12
  body c s :=
    let l := c.bits 1 5 0
    let w := c.arg 2
    need (decide (l < 60)) .badArg s <| need (s.mayInject l) .notInMode s <| need (R.LN_Ll_INJ.ok w) .badArg s <|
    writeCfg s (R.LN_Ll_INJ.writes w l) fun t =>
      done (((if bitOf w 31 then t.emit (.symbolError l) else t)).forcedIdle l (s.get R.LN_Ll_INJ_INJ_MODE l))

/-- LANE_INJECT. -/
def execLaneInject (r : Req) (s : State) : Host.Outcome State Fault Refusal :=
  .next (s.exchange (some cmdLaneInject) cmdLaneInject.op r)

/-- LANE.GROVE_CFG (R301, R302). -/
def cmdLaneGroveCfg : Cmd where
  op := 0x2007
  need := 3
  entry _ := 12
  body c s :=
    let g := c.bits 1 3 0
    need (decide (g < 12) && R.LN_GRVg_CFG.ok (c.arg 2) && R.LN_GLOBAL_CFG.ok (c.arg 3)) .badArg s <|
    need (!(s.get R.LN_GRVg_CFG_SPARE_WIRED g != bits (c.arg 2) 0 0 && s.subState g != 0)) .busy s <|
    writeCfg s (R.LN_GRVg_CFG.writes (c.arg 2) g ++ R.LN_GLOBAL_CFG.writes (c.arg 3)) fun t =>
      done ((List.range 60).foldl (fun s l => s.cacheSync l) t).capexOff

/-- LANE_GROVE_CFG. -/
def execLaneGroveCfg (r : Req) (s : State) : Host.Outcome State Fault Refusal :=
  .next (s.exchange (some cmdLaneGroveCfg) cmdLaneGroveCfg.op r)

end Sys2Proof.Machine
end

