-- ==== Sys2Proof/Machine/Memory.lean ====
section
/-! DEFINITION. The two byte memories of the device, the flash and the control SRAM, as lists of cells in
one canonical form: ascending addresses, and no cell equal to what an unlisted address reads as. -/

namespace Sys2Proof.Machine

/-- A byte memory. -/
abbrev Memory := List Host.Cell

/-- Read a byte; an address not listed reads `d`. -/
def Memory.read (d : Byte) (m : Memory) (a : Nat) : Byte :=
  match m with
  | [] => d
  | (b, v) :: r => if b = a then v else Memory.read d r a

/-- Write a byte; the byte an unlisted address reads as is not listed. -/
def Memory.write (d : Byte) (m : Memory) (a : Nat) (v : Byte) : Memory :=
  match m with
  | [] => if v = d then [] else [(a, v)]
  | (b, w) :: r =>
    if b = a then (if v = d then r else (a, v) :: r)
    else if a < b then (if v = d then (b, w) :: r else (a, v) :: (b, w) :: r)
    else (b, w) :: Memory.write d r a v

/-- Every address of a memory lies above `a`, in ascending order, and every byte differs from `d`. -/
def Memory.above (d : Byte) (a : Nat) (m : Memory) : Bool :=
  match m with
  | [] => true
  | (b, v) :: r => decide (a < b) && decide (v ≠ d) && Memory.above d b r

/-- The canonical form. -/
def Memory.wf (d : Byte) (m : Memory) : Bool :=
  match m with
  | [] => true
  | (b, v) :: r => decide (v ≠ d) && Memory.above d b r

/-- Read some bytes. -/
def Memory.bytes (d : Byte) (m : Memory) (a n : Nat) : List Byte := (List.range n).map fun k => Memory.read d m (a + k)

/-- Write some bytes. -/
def Memory.writeBytes (d : Byte) (m : Memory) (a : Nat) : List Byte → Memory
  | [] => m
  | v :: r => Memory.writeBytes d (Memory.write d m a v) (a + 1) r

/-- Make a range read as `d` again. -/
def Memory.erase (m : Memory) (a n : Nat) : Memory := m.filter fun c => decide (c.1 < a) || decide (a + n ≤ c.1)

/-- Bytes as little-endian words. -/
def leWords : Nat → List Byte → List Nat
  | 0, _ => []
  | n + 1, l => if l.isEmpty then [] else leNat (l.take 4) :: leWords n (l.drop 4)

/-- What an erased byte of the flash reads as: a NOR flash's erased state (PRESUMED). -/
def flashBlank : Byte := 0xFF

/-- What a byte of the control SRAM that nothing has written reads as (DESIGN CHOICE). -/
def csramBlank : Byte := 0

/-- Bytes of the flash. -/
def State.flashBytes (s : State) (a n : Nat) : List Byte := Memory.bytes flashBlank s.flash a n

/-- Bytes of the control SRAM. -/
def State.csramBytes (s : State) (a n : Nat) : List Byte := Memory.bytes csramBlank s.csram a n

/-- The flash spans an address range: it has at least 16 MiB (R622). -/
def inFlash (a n : Nat) : Bool := decide (a + n ≤ 2 ^ 24) || decide (a + n ≤ 1024 * (16384 + Config.flashExtra))

end Sys2Proof.Machine
end

