-- ==== Sys2Proof/Machine/TrimStore.lean ====
section
/-! DEFINITION. The trim store: writing and erasing a record, loading the records at a start, and the slot
registers (R601 to R605, R608). -/

namespace Sys2Proof.Machine

/-- Show the free and used slots. -/
def State.nvSync (s : State) : State :=
  (s.set R.NV_STAT_USED s.nv.length).set R.NV_STAT_FREE (1024 - s.nv.length)

/-- A record's slots of a TYPE and KEY; a LINK record's also of its PARTNER. -/
def State.nvFind (s : State) (type key : Nat) (partner : Option Nat) : Option (Nat × List Nat) :=
  if type = 0x20 then
    ((s.nv.filter fun e => s.nvIs 0x20 key e && (match partner with
      | some n => bitOf (e.2.getD 3 0) 31 && bits (e.2.getD 3 0) 19 0 == n
      | none => !bitOf (e.2.getD 3 0) 31)).getLast?)
  else s.nvRec type key

/-- The next free slot after the one last written, in rotation. -/
def State.nvFree (s : State) : Option Nat :=
  ((List.range 1024).map fun k => (s.nvLast + 1 + k) % 1024).find? fun k => (Tab.find? s.nv k).isNone

/-- The words of a record (R601). -/
def nvWords (type key version node : Nat) (partner : Option Nat) (payload : List Nat) : List Nat :=
  let p := payload.take 11
  let l := [0x4E56 * 2 ^ 16 + type % 256 * 2 ^ 8 + p.length % 16, version * 2 ^ 16 + key % 65536, node % 2 ^ 20,
    (match partner with | some n => if type = 0x20 then 2 ^ 31 + n % 2 ^ 20 else 0 | none => 0)] ++ (List.range 11).map fun k => p.getD k 0 % 2 ^ 32
  l ++ [crcWords l]

/-- Write a record: the new copy in a free slot with the next VERSION, then the old slot erased, and
NV_WRITTEN; none where no slot is free (R603). -/
def State.nvPut (s : State) (type key : Nat) (partner : Option Nat) (payload : List Nat) : Option (Nat × State) :=
  match s.nvFree with
  | none => none
  | some k =>
    let old := s.nvFind type key partner
    let was := match old with | some e => bits (e.2.getD 1 0) 31 16 | none => 0
    let v := if was = 65535 then 1 else was + 1
    let kept := match old with | some e => Tab.del s.nv e.1 | none => s.nv
    let t := { s with nv := Tab.put kept k (nvWords type key v s.nodeId partner payload), nvLast := k
                      nvBad := s.nvBad.filter fun b => b != k }
    some (k, t.nvSync.raise 113 k)

/-- Erase a record. -/
def State.nvDrop (s : State) (type key : Nat) (partner : Option Nat) : State :=
  match s.nvFind type key partner with
  | some e => ({ s with nv := Tab.del s.nv e.1 }).nvSync
  | none => s

/-! ### Plausibility (R597) -/

/-- A signed word of a record. -/
def recZ (w : List Nat) (k : Nat) : Int := sext 32 (w.getD k 0)

/-- A value in 2^-16 ns in units of 0.01 ps, rounded to nearest. -/
def centi (z : Int) : Int := (z * 100000 + 32768) / 65536

/-- The nominal SUM of a port mode (R100), in 0.01 ps. -/
def nominalSum (mode : Nat) : Int := 100 * (kTxNominal mode + kRxNominal mode)

/-- The values of a record that its item checks, with the nominal of each, in the item's units; the last list
gives lower limits alone (R597): item, checked against ABS_WIN and DELTA_MAX, and against a minimum. -/
structure Checked where
  item : Nat
  vals : List (Int × Int) := []
  atLeast : List Int := []
  /-- Maximum differential non-linearity, at most 500 (item 1). -/
  dnl : Option Int := none

/-- What R597 checks of a record of a TYPE from its payload words; none where it checks nothing. -/
def checkedOf (type key : Nat) (p : List Nat) : Option Checked :=
  let z (k : Nat) : Int := sext 32 (p.getD k 0)
  match type with
  | 0x10 => some { item := 5, vals := (List.range (if key % 2 = 0 then 5 else 4)).map fun k =>
      (centi (z (2 * k)), nominalSum (k + 1 + 5 * (key % 2))) }
  | 0x11 => some { item := 1, vals := [(centi (z 1), 0)], dnl := some (bits (p.getD 2 0) 31 16) }
  | 0x12 => some { item := 2, atLeast := [bits (p.getD (p.length - 1) 0) 31 16] }
  | 0x13 => some { item := 3, vals := [(centi (z 1), 0)] }
  | 0x14 => some { item := 4, vals := [(centi (z 0), 0), (centi (z 1), 0), (centi (z 2), 0), (centi (z 3), 0)] }
  | 0x15 => some { item := 6, vals := [(z 0, Config.gnssNominal key)] }
  | 0x16 => some { item := 9, vals := [(z 0, 0)] }
  | 0x17 => some { item := 8, vals := [(centi (z 0), 0)] }
  | 0x20 => some { item := 7, vals := [(z 1, 0)] }
  | _ => none

/-- The absolute check. -/
def State.absOk (s : State) (c : Checked) : Bool :=
  let w := s.get R.CA_LIMk_ABS_ABS_WIN c.item
  c.vals.all (fun v => decide ((v.1 - v.2).natAbs ≤ w)) && c.atLeast.all (fun v => decide ((w : Int) ≤ v))
  && (match c.dnl with | some d => decide (d ≤ 500) | none => true)

/-- The change check against the previous valid values; DELTA_MAX 0 makes none. -/
def State.changeOk (s : State) (c : Checked) (old : Option Checked) : Bool :=
  let d := s.get R.CA_LIMk_DELTA_DELTA_MAX c.item
  match old with
  | none => true
  | some o => d == 0 || (List.range c.vals.length).all fun k =>
      decide (((c.vals.getD k (0, 0)).1 - (o.vals.getD k (0, 0)).1).natAbs ≤ d)

/-- Payload words of a record. -/
def payloadOf (w : List Nat) : List Nat := (w.drop 4).take (min 11 (w.getD 0 0 % 16))

/-- A check against the previous valid values: 0 passes, 1 absolute, 2 change; FORCE skips the change check
alone (R597). -/
def State.checkWith (s : State) (c : Checked) (old : Option Checked) (force : Bool) : Nat :=
  if !s.absOk c then 1 else if !force && !s.changeOk c old then 2 else 0

/-- A record's check (R597). -/
def State.plausible (s : State) (type key : Nat) (partner : Option Nat) (payload : List Nat) (force : Bool) : Nat :=
  match checkedOf type key payload with
  | none => 0
  | some c => s.checkWith c ((s.nvFind type key partner).bind fun e => checkedOf type key (payloadOf e.2)) force

/-! ### Loading at S2 (R604, R134, R310, R501) -/

/-- A slot that fails its check is erased, with NV_FAIL. -/
def State.nvFail (s : State) (k : Nat) : State :=
  let t := { s with nv := Tab.del s.nv k }
  let t := (t.set R.NV_FAIL_STAT_VALID 1).set R.NV_FAIL_STAT_SLOT k
  (t.incSat R.NV_FAIL_STAT_COUNT).raise 112 k

/-- Read every slot: failing slots are erased, and implausible records are marked; a PORT_K
record is checked where a port loads it, in its own mode. -/
def State.nvScan (s : State) : State :=
  let bad := (s.nv.filter fun e => !nvGood e.2).map Prod.fst
  let t := bad.foldl (fun s k => s.nvFail k) { s with nvBad := [] }
  let dead := (t.nv.filter fun e => bits (e.2.getD 0 0) 15 8 != 0x10 && match checkedOf (bits (e.2.getD 0 0) 15 8) (bits (e.2.getD 1 0) 15 0) (payloadOf e.2) with
    | some c => !t.absOk c
    | none => false)
  let t := dead.foldl (fun (s : State) e => match checkedOf (bits (e.2.getD 0 0) 15 8) (bits (e.2.getD 1 0) 15 0) (payloadOf e.2) with
    | some c => s.raise 110 (det2 c.item (bits (e.2.getD 1 0) 15 0))
    | none => s) { t with nvBad := dead.map Prod.fst }
  t.nvSync

/-- Load the constants of the device from its records: the Node ID, the MAC base, the K constants of every
port, DIE_OFS. -/
def State.loadTrim (s : State) : State :=
  let t := match s.nvRec 0x02 0 with
    | some e => s.writes [{ f := R.NODE_ID_NODE_ID, v := e.2.getD 4 0 % 2 ^ 20 }, { f := R.NODE_ID_UNSET, v := 0 }]
    | none => s
  let t := match t.nvRec 0x01 0 with
    | some e => t.writes [{ f := R.PT_MAC_BASE_LO_MAC_BASE, v := e.2.getD 6 0 - e.2.getD 6 0 % 64 },
        { f := R.PT_MAC_BASE_HI_MAC_BASE, v := e.2.getD 7 0 % 65536 }]
    | none => t
  let t := match t.nvRec 0x14 0 with
    | some e => t.set R.PT_DIE_OFS_DIE_OFS (e.2.getD 7 0)
    | none => t
  (List.range 48).foldl (fun s p => s.loadK p) t

/-- The device's serial number, 8 bytes (R602). -/
def State.serialBytes (s : State) : List Byte := match s.nvRec 0x01 0 with
  | some e => leBytes 4 (e.2.getD 4 0) ++ leBytes 4 (e.2.getD 5 0)
  | none => leBytes 8 0

end Sys2Proof.Machine
end

