-- ==== Sys2Proof/Machine/Calibration.lean ====
section
/-! DEFINITION. The calibration unit: runs, the plausibility of their results and their application, the records
of the trim store, and the CAL command group (R590 to R609). -/

namespace Sys2Proof.Machine

/-! ### Items and targets (R590, R593, R595) -/

/-- A run is in progress. -/
def State.calRuns (s : State) : Bool := s.on R.CA_RUN_STAT_RUNNING

/-- Targets of an item. -/
def calTargets (item : Nat) : Nat := [0, 16, 60, 12, 1, 48, 2, 48, 48].getD item 0

/-- Run time per target, in ps; an item-8 run measures for 1 s. -/
def calTime (item : Nat) : Nat := [0, 20000, 200, 1000, 100, 1000, 60000, 300000, 1000].getD item 0 * 10 ^ 9

/-- The item needs `cal_pps`, and `cal_10m`. -/
def calNeedsPps (item : Nat) : Bool := [1, 6, 7].contains item
def calNeedsTen (item : Nat) : Bool := [1, 3].contains item

/-- The references of an item are there. -/
def State.calRefs (s : State) (item : Nat) : Bool :=
  (!calNeedsPps item || s.on R.CA_REF_STAT_PPS_OK) && (!calNeedsTen item || s.on R.CA_REF_STAT_TEN_OK)

/-- The session that a LINK run measures. -/
def State.calSession (s : State) (p : Nat) : Nat := 256 * p + bits (s.cal.args.getD 2 0) 23 16

/-- What a target belongs to is in P2 or P3 (R561). -/
def State.calAsleep (s : State) (item k : Nat) : Bool :=
  match item with
  | 1 => s.asleep 32
  | 2 => s.laneAsleep k
  | 3 => s.asleep k
  | _ => false

/-- The condition of a target (R595). -/
def State.calCond (s : State) (item k dom : Nat) : Bool :=
  !s.calAsleep item k && match item with
  | 1 => !s.on R.ET_INi_CFG_EN k
  | 2 => (isSpare k && s.subState (k / 5) == 0) || (!isSpare k && s.subState (k / 5) == 3 && s.carried (k / 5) == some k)
      || (!isSpare k && (s.holder k).isNone && s.laneState k != 6)
  | 5 => s.portState k == 2
  | 6 => !s.asleep 31
  | 7 => (match s.sess? (256 * k + dom) with | some e => e.npx == 5 | none => false)
  | 8 => s.on R.LN_GRVg_CFG_SPARE_WIRED (k / 4) && s.partnerSpare k && s.subState (k / 4) == 0 && s.portState k == 2
      && !modeFwdClk (s.portMode k) && s.laneState (spareOf (k / 4)) != 6
  | _ => true

/-- TYPE, KEY and PARTNER of the record that a target writes. -/
def State.calRecord (s : State) (item k : Nat) : Nat × Nat × Option Nat :=
  match item with
  | 1 => (0x11, k, none)
  | 2 => (0x12, k, none)
  | 3 => (0x13, k, none)
  | 4 => (0x14, 0, none)
  | 5 => (0x10, 2 * k + (if s.portMode k ≤ 5 then 0 else 1), none)
  | 6 => (0x15, k, none)
  | 7 => (0x20, k, s.partner (s.calSession k))
  | _ => (0x17, laneOf k, none)

/-! ### The course of a run -/

/-- The next target that meets its condition begins: an item-2 lane enters TEST in near-end serial loopback, an
item-8 run asks for the substitution of the port's lowest lane (R595, R599). -/
def State.calNext (s : State) : State :=
  let item := s.get R.CA_RUN_STAT_ITEM
  let left := s.cal.left.dropWhile fun k => !s.calCond item k (bits (s.cal.args.getD 2 0) 23 16)
  let t := { s with cal := { s.cal with left := left, since := s.clk } }
  match left with
  | [] => t
  | k :: _ =>
    let t := t.set R.CA_RUN_STAT_TARGET k
    if item = 2 then
      let t := { t with cal := { t.cal with prior := (t.laneState k, t.word R.LN_Ll_TEST k) } }
      (t.cfgWrites [{ f := R.LN_Ll_TEST_LOOP, i := k, v := 1 }, { f := R.LN_Ll_TEST_SQUELCH, i := k, v := 1 }]).laneTest k
    else if item = 8 then
      (t.startSub (k / 4) { port := k, pos := 0, since := t.clk, calib := true }).sendCapex k 2 0
    else t

/-- What a target holds is set free: a lane returns to the state it had, with its TEST settings (R595). -/
def State.calFree (s : State) (item k : Nat) : State :=
  if item = 2 ∧ s.laneState k = 6 then
    let t := s.cfgWrites (R.LN_Ll_TEST.writes s.cal.prior.2 k)
    if s.cal.prior.1 = 6 then t else (t.laneDark k).laneGo k s.cal.prior.1
  else s

/-- A target ends with a result entry, and the next begins. -/
def State.calEnd (s : State) (k result : Nat) (value prev : Int) (quality : Nat) : State :=
  let item := s.get R.CA_RUN_STAT_ITEM
  let e : CalRes := { item := item, target := k, result := result, value := value, prev := prev, quality := quality }
  let t := s.calFree item k
  let t := { t with cal := { t.cal with left := t.cal.left.tail, apply := none, results := (t.cal.results ++ [e]).take 64 } }
  t.calNext.settleCfg

/-- A run aborts and applies nothing of the target in progress (R596). -/
def State.calAbort (s : State) (cause : Nat) : State :=
  let item := s.get R.CA_RUN_STAT_ITEM
  let t := match s.cal.left with
    | [] => s
    | k :: _ =>
      let u := s.calFree item k
      if item = 8 ∧ u.subState (k / 4) = 1 then u.abandonSub (k / 4) .ok else u
  (t.calOver 2 cause).settleCfg

/-! ### Results (R591, R592, R597, R598) -/

/-- A number of 0.01 ps in 2^-16 ns. -/
def linCenti (z : Int) : Int := (z * 65536 + 50000) / 100000

/-- The measured SUM of a port and its SPLIT, in 2^-16 ns: the mean excess over D_REF is added to the present
SUM (R591). -/
def State.portKMeasured (s : State) (p : Nat) (mean : Int) : Int × Nat :=
  let m := s.portMode p
  let d := if s.lowSubst p then match s.substRec (laneOf p) with | some (d, _) => d | none => 0 else 0
  let sum : Int := sext 32 (s.get R.PT_KTXp_K_TX p) + sext 32 (s.get R.PT_KRXp_K_RX p) - 2 * d
  let split := match s.portK p with
    | some (_, x) => x
    | none => kTxNominal m * 65536 / (kTxNominal m + kRxNominal m)
  (sum + linCenti (mean - sext 32 (s.cal.args.getD 0 0)), split)

/-- The payload of a PORT_K record with the words of one mode replaced. -/
def State.portKPayload (s : State) (p : Nat) (sum : Int) (split q : Nat) : List Nat :=
  let m := s.portMode p
  let half := if m ≤ 5 then 0 else 1
  let i := if m ≤ 5 then m - 1 else m - 6
  let n := if m ≤ 5 then 10 else 8
  let old := match s.nvRec 0x10 (2 * p + half) with | some e => payloadOf e.2 | none => []
  (List.range n).map fun k => if k = 2 * i then wrap 32 sum else if k = 2 * i + 1 then split * 65536 + q % 65536
    else old.getD k 0

/-- The measured ASYM_FIX of a port's link, in 0.01 ps, from this end's raw offset and the mean estimate, both in
0.01 ps (R592). -/
def State.asymMeasured (s : State) (p : Nat) (os est : Int) : Int :=
  match s.sess? (s.calSession p) with
  | none => 0
  | some e =>
    let truth := os - 100 * s.getZ R.CA_PPS_DLY_PPS_DLY - sext 32 (s.cal.args.getD 0 0)
    let a := centi (asymAt e.link e.mpd) + est - truth
    let node := (s.partner (s.calSession p)).getD 0
    let sgn : Int := if (if e.role = 1 then s.nodeId < node else node < s.nodeId) then 1 else -1
    sgn * a - sext 32 (s.cal.args.getD 1 0) * centi e.mpd / 10 ^ 9

/-- The payload that a target's measurement gives its record (R602). -/
def State.calPayload (s : State) (item k : Nat) (vs : List Int) (q : Nat) : List Nat :=
  let w (z : Int) : Nat := wrap 32 z
  match item with
  | 2 => (vs.take 10).map w ++ [q]
  | 5 => let x := s.portKMeasured k (vs.getD 0 0)
    s.portKPayload k x.1 x.2 q
  | 6 => [w (vs.getD 0 0 - sext 32 (s.cal.args.getD 0 0)), q % 65536]
  | 7 => [s.cal.args.getD 2 0 % 65536, w (s.asymMeasured k (vs.getD 0 0) (vs.getD 1 0)), s.cal.args.getD 1 0, q % 65536]
  | 1 => [w (vs.getD 0 0) % 4, w (vs.getD 1 0), q]
  | 3 => [w (vs.getD 0 0) % 8, w (vs.getD 1 0), q % 65536]
  | 4 => ((List.range 7).map fun i => w (vs.getD i 0)) ++ [q % 65536]
  | _ => [w (vs.getD 0 0), w (vs.getD 1 0), q % 65536]

/-- What R597 checks of a target's result; a PORT_K run measures one mode. -/
def State.calChecked (s : State) (item k : Nat) (payload : List Nat) : Option Checked :=
  if item = 5 then
    let m := s.portMode k
    some { item := 5, vals := [(centi (sext 32 (payload.getD (2 * (if m ≤ 5 then m - 1 else m - 6)) 0)), nominalSum m)] }
  else checkedOf (s.calRecord item k).1 (s.calRecord item k).2.1 payload

/-- The previous valid values of a target. -/
def State.calOld (s : State) (item k : Nat) : Option Checked :=
  if item = 5 then (s.portK k).map fun x => { item := 5, vals := [(centi x.1, nominalSum (s.portMode k))] }
  else
    let (ty, key, pn) := s.calRecord item k
    (s.nvFind ty key pn).bind fun e => checkedOf ty key (payloadOf e.2)

/-- The value that a result entry shows: the first one checked, in the unit of its check. -/
def shownValue (c : Option Checked) : Int := match c with
  | some c => ((c.vals.map Prod.fst) ++ c.atLeast).headD 0
  | none => 0

/-- A result takes effect as its item says (R598). -/
def State.calEffect (s : State) (item k : Nat) (payload : List Nat) (old : Option (List Nat)) : State :=
  let z (i : Nat) : Int := sext 32 (payload.getD i 0)
  match item with
  | 2 => s.dropCache k
  | 3 =>
    let d := z 1 - (match old with | some p => sext 32 (p.getD 1 0) | none => 0)
    (List.range 5).foldl (fun s i =>
      let l := 5 * k + i
      if !s.on R.LN_FPMl_STAT_VALID l then s else s.set64Z R.LN_FPMl_UNW_LO_UNW R.LN_FPMl_UNW_HI_UNW (sext 64 (s.get64 R.LN_FPMl_UNW_LO_UNW R.LN_FPMl_UNW_HI_UNW l) + d) l) s
  | 4 => s.cfgWrites [{ f := R.PT_DIE_OFS_DIE_OFS, v := payload.getD 3 0 }]
  | 5 => s.loadK k
  | 7 => (s.portSessions k).foldl (fun s e => s.findLink e true) s
  | _ => s

/-- An item-8 run completes the substitution (R599 step 4). -/
def State.calSwitch (s : State) (g : Nat) : State :=
  match s.subst? g with
  | some b => ((({ s with subst := Tab.put s.subst g { b with calib := false } }).switchToSpare g)).subActive g
  | none => s

/-- A checked result is written to its record and takes effect; without a free slot nothing of it does. -/
def State.calGive (s : State) (k : Nat) (payload : List Nat) (v p : Int) : State :=
  let item := s.get R.CA_RUN_STAT_ITEM
  let (ty, key, pn) := s.calRecord item k
  let q := payload.getLastD 0
  let old := (s.nvFind ty key pn).map fun e => payloadOf e.2
  match s.nvPut ty key pn payload with
  | some (_, t) =>
    let t := t.calEffect item k payload old
    (if item = 8 then t.calSwitch (k / 4) else t).calEnd k 0 v p q
  | none => (if item = 8 then s.calSwitch (k / 4) else s).calEnd k 4 v p q

/-- A measurement is judged: refused by R597, applied at once, or at the next whole millisecond. -/
def State.calJudge (s : State) (k : Nat) (vs : List Int) (q : Nat) : State :=
  let item := s.get R.CA_RUN_STAT_ITEM
  let payload := s.calPayload item k vs q
  let c := s.calChecked item k payload
  let old := s.calOld item k
  let r := match c with | some c => s.checkWith c old s.cal.force | none => 0
  if r ≠ 0 then
    let t := s.raise 110 (det2 item k)
    (if item = 8 then t.calSwitch (k / 4) else t).calEnd k r (shownValue c) (shownValue old) q
  else if item = 3 ∨ item = 4 then
    let ms := (s.lineTime / (10 ^ 9 * 2 ^ 48) + 1) * (10 ^ 9 * 2 ^ 48)
    let a : CalApply := { item := item, target := k, values := payload.map Int.ofNat, quality := q, at_ := ms }
    { s with cal := { s.cal with apply := some a } }
  else s.calGive k payload (shownValue c) (shownValue old)

/-- The measurement of a target may end now: its run time has passed, or for item 8 one second since the spare
was deskewed. -/
def State.calDue (s : State) (item k : Nat) : Bool :=
  s.cal.apply.isNone && (if item = 8 then
    s.spareReady (k / 4) && decide ((s.laneRec (spareOf (k / 4))).since + calTime 8 ≤ s.clk)
  else decide (s.cal.since + calTime item ≤ s.clk))

/-- A partner's item-8 bridging of a lowest lane that this device measures too (R599). -/
def State.peerGrove (s : State) : Option Nat :=
  if s.mode = 4 ∧ s.on R.CA_CFG_PEER_SUB = true then
    (List.range 12).find? fun g => match s.subst? g with
      | some b => b.remote && b.pos == 0 && !b.measured && s.subState g == 1 && s.spareReady g
      | none => false
  else none

/-- The partner's run: this device writes the SUBST record of its own lane, if the result is plausible. -/
def State.peerMeasured (s : State) (g : Nat) (vs : List Int) (q : Nat) : State :=
  match s.subst? g with
  | none => s
  | some b =>
    let l := laneOf b.port
    let payload := [wrap 32 (vs.getD 0 0), wrap 32 (vs.getD 1 0), q % 65536]
    let s := { s with subst := Tab.put s.subst g { b with measured := true } }
    if s.plausible 0x17 l none payload false ≠ 0 then s.raise 110 (det2 8 b.port)
    else match s.nvPut 0x17 l none payload with
      | some (_, t) => t
      | none => s

/-- CAL_TARGET_DONE (R597 to R599): the measurement of the target in progress ends, with its values and its
quality word; with no run in progress, the measurement during a partner's bridging. -/
def execCalTargetDone (dt : Nat) (vs : List Int) (q : Nat) (s : State) : Host.Outcome State Fault Refusal :=
  let t := s.elapse dt
  let item := t.get R.CA_RUN_STAT_ITEM
  .next (if t.calRuns then
    match t.cal.left with
    | [] => t
    | k :: _ =>
      if item = 8 ∧ t.subState (k / 4) ≠ 1 then t.calEnd k 3 0 0 0
      else if t.calDue item k then t.calJudge k vs q else t
  else match t.peerGrove with
    | some g => t.peerMeasured g vs q
    | none => t)

/-- CAL_APPLY (R598): a tap or internal-delay result is applied at its whole millisecond. -/
def execCalApply (dt : Nat) (s : State) : Host.Outcome State Fault Refusal :=
  let t := s.elapse dt
  .next (match t.cal.apply with
    | some a =>
      if t.calRuns ∧ a.at_ ≤ t.lineTime then
        let payload := a.values.map fun z => wrap 32 z
        t.calGive a.target payload (shownValue (t.calChecked a.item a.target payload)) (shownValue (t.calOld a.item a.target))
      else t
    | none => t)

/-- CAL_RUN_END (R594): a run with no target left is complete. -/
def execCalRunEnd (dt : Nat) (s : State) : Host.Outcome State Fault Refusal :=
  let t := s.elapse dt
  .next (if t.calRuns ∧ t.cal.left = [] then t.calOver 1 0 else t)

/-- CAL_REF_LOSS (R593): the monitors of `cal_pps` and `cal_10m`; the loss of a reference that the run needs
aborts it. -/
def execCalRefLoss (dt : Nat) (pps ten : Bool) (s : State) : Host.Outcome State Fault Refusal :=
  let t := s.elapse dt
  let item := t.get R.CA_RUN_STAT_ITEM
  let u := (t.setB R.CA_REF_STAT_PPS_OK pps).setB R.CA_REF_STAT_TEN_OK ten
  .next (if t.calRuns && calNeedsPps item && !pps then (u.raise 111 0).calAbort 1
    else if t.calRuns && calNeedsTen item && !ten then (u.raise 111 1).calAbort 1
    else u)

/-- The OCXO record is written with a measured offset in 0.001 ppb, ageing and temperature coefficient, if it is
plausible. -/
def State.ocxoWrite (s : State) (payload : List Nat) : State :=
  if s.plausible 0x16 0 none payload false ≠ 0 then s.raise 110 (det2 9 0)
  else match s.nvPut 0x16 0 none payload with
    | some (_, t) => t
    | none => s

/-- TRAINED lock of a DPLL at its last OCXO record; the first 24 h make the model valid. -/
def State.ocxoMark (s : State) (n : Nat) : Nat := Tab.get dayPs s.us.trainedDone n

/-- OCXO_RECORD_WRITE (R174): after each further 24 h of TRAINED lock. -/
def execOcxoRecordWrite (dt n : Nat) (ofs age coef : Int) (s : State) : Host.Outcome State Fault Refusal :=
  let n := n % 8
  let t := (s.elapse dt).trainUp n
  .next (if t.tbOn n && decide (t.ocxoMark n + dayPs ≤ Tab.get 0 t.us.trained n) then
    ({ t with us := { t.us with trainedDone := Tab.put t.us.trainedDone n (t.ocxoMark n + dayPs) } }).ocxoWrite
      [wrap 32 ofs, wrap 32 age, wrap 32 coef]
  else t)

/-! ### The CAL command group (R609) -/

/-- CAL.STATUS. -/
def cmdCalStatus : Cmd where
  op := 0x3201
  any := true
  acts := false
  entry _ := 36
  body _ s := let t := s.nvSync; done t [t.word R.CA_RUN_STAT, t.word R.CA_REF_STAT, t.word R.NV_STAT, t.word R.NV_FAIL_STAT]

/-- CAL_STATUS. -/
def execCalStatus (r : Req) (s : State) : Host.Outcome State Fault Refusal :=
  .next (s.exchange (some cmdCalStatus) cmdCalStatus.op r)

/-- A run of an item that writes configuration registers, a port's constants or DIE_OFS, is refused while they are
locked. -/
def State.calUnlocked (s : State) (item k : Nat) (r : Res) : Res :=
  if item = 5 then unlessLocked s (blockEntry (R.PT_KTXp_K_TX.addr + R.PT_KTXp_K_TX.s1 * k)) r
  else if item = 4 then unlessLocked s (blockEntry R.PT_DIE_OFS_DIE_OFS.addr) r
  else r

/-- The targets that CAL.RUN names: those of the item that meet their condition, or the one given. -/
def State.calTargetsOf (s : State) (item k dom : Nat) : List Nat :=
  if k = 255 then (List.range (calTargets item)).filter fun k => s.calCond item k dom else [k]

/-- A run of an item begins with its first target. -/
def State.calBegin (s : State) (item : Nat) (force : Bool) (args ks : List Nat) : State :=
  let t := s.writes [{ f := R.CA_RUN_STAT_RUNNING, v := 1 }, { f := R.CA_RUN_STAT_OUTCOME, v := 0 },
    { f := R.CA_RUN_STAT_ABORT_CAUSE, v := 0 }, { f := R.CA_RUN_STAT_ITEM, v := item },
    { f := R.CA_RUN_STAT_RUN_SEQ, v := s.get R.CA_RUN_STAT_RUN_SEQ + 1 }]
  let cal : Cal := { force := force, args := args, left := ks, since := s.clk }
  { t with cal := cal }.calNext

/-- CAL.RUN (R594 to R596). -/
def cmdCalRun : Cmd where
  op := 0x3202
  acts := false
  entry _ := 36
  body c s :=
    let item := c.bits 1 3 0
    let k := c.bits 1 15 8
    let dom := c.bits 4 23 16
    let seq (t : State) : Res := done t [t.get R.CA_RUN_STAT_RUN_SEQ]
    need (s.mode == 4 && s.blkState 36 == 0) .notInMode s <|
    need (decide (1 ≤ c.args.length)) .badArg s <|
    if c.bit 1 17 then seq (if s.calRuns then s.calAbort 4 else s)
    else
      need (decide (1 ≤ item) && decide (item ≤ 8) && (k == 255 || decide (k < calTargets item))
        && decide ((if item = 7 then 4 else if item = 5 ∨ item = 6 then 2 else 1) ≤ c.args.length)
        && (item != 7 || c.bits 4 15 0 != 0)) .badArg s <|
      need (k == 255 || !s.calAsleep item k) .notInMode s <|
      need (!s.calRuns) .busy s <|
      let ks := s.calTargetsOf item k dom
      need (s.calRefs item && ks.any fun k => s.calCond item k dom) .checkFail s <|
      s.calUnlocked item (ks.headD 0) <|
      seq (s.calBegin item (c.bit 1 16) (c.args.drop 1) ks)

/-- CAL_RUN. -/
def execCalRun (r : Req) (s : State) : Host.Outcome State Fault Refusal :=
  .next (s.exchange (some cmdCalRun) cmdCalRun.op r)

/-- The words of a result entry. -/
def CalRes.words (e : CalRes) : List Nat :=
  [e.item % 256 * 2 ^ 24 + e.target % 256 * 2 ^ 16 + e.result, wrap 32 e.value, wrap 32 e.prev, e.quality % 2 ^ 32]

/-- CAL.RESULT. -/
def cmdCalResult : Cmd where
  op := 0x3203
  any := true
  acts := false
  need := 1
  entry _ := 36
  body c s :=
    let l := (s.cal.results.drop (c.bits 1 5 0)).take 15
    done s (l.length :: l.flatMap CalRes.words)

/-- CAL_RESULT. -/
def execCalResult (r : Req) (s : State) : Host.Outcome State Fault Refusal :=
  .next (s.exchange (some cmdCalResult) cmdCalResult.op r)

/-- Keys of a record type; 0 for a code that is none (R602). -/
def recKeys (type : Nat) : Nat :=
  match type with
  | 0x01 => 1 | 0x02 => 1 | 0x03 => 4 | 0x04 => 1 | 0x10 => 96 | 0x11 => 16 | 0x12 => 60 | 0x13 => 12
  | 0x14 => 1 | 0x15 => 2 | 0x16 => 1 | 0x17 => 60 | 0x20 => 48 | _ => 0

/-- Payload words of a record type. -/
def recLen (type key : Nat) : Nat :=
  match type with
  | 0x01 => 4 | 0x02 => 1 | 0x03 => 9 | 0x04 => 1 | 0x10 => if key % 2 = 0 then 10 else 8 | 0x11 => 3 | 0x12 => 2
  | 0x13 => 3 | 0x14 => 8 | 0x15 => 2 | 0x16 => 3 | 0x17 => 3 | _ => 4

/-- A record that the running run will write (R605). -/
def State.calWrites (s : State) (type key : Nat) : Bool :=
  s.calRuns && s.cal.left.any fun k =>
    let r := s.calRecord (s.get R.CA_RUN_STAT_ITEM) k
    r.1 == type && r.2.1 == key

/-- A ROOT record may be written: no hash stored for its index, or to set REVOKED of the stored one; an unrevoked
key stays (R605). -/
def State.rootOk (s : State) (key : Nat) (payload : List Nat) : Bool :=
  let revoked := bitOf (payload.getD 8 0) 0
  let others := (List.range 4).any fun k => k != key && (match s.nvRec 0x03 k with
    | some e => !bitOf (e.2.getD 12 0) 0
    | none => false)
  (match s.nvRec 0x03 key with
    | some e => revoked && (payload.take 8).map (fun w => w % 2 ^ 32) == (payloadOf e.2).take 8
    | none => true) && (!revoked || others)

/-- Sessions of a port look their link record up again after a change of it (R127). -/
def State.relook (s : State) (type p : Nat) : State :=
  if type = 0x20 then (s.portSessions p).foldl (fun s e => s.lookLink e) s else s

/-- FORCE is taken in CALIBRATE and MAINTENANCE alone. -/
def State.forceOk (s : State) (force : Bool) : Bool := !force || s.mode == 4 || s.mode == 5

/-- CAL.RECORD_WRITE. -/
def cmdCalRecordWrite : Cmd where
  op := 0x3204
  entry _ := 36
  body c s :=
    let type := c.bits 1 7 0
    let key := c.bits 1 31 16
    let erase := c.bit 1 9
    let n := if type = 0x12 then max 2 (min 11 (c.args.length - 1)) else recLen type key
    let payload := (c.args.drop 1).take n
    need (s.forceOk (c.bit 1 8)) .notInMode s <|
    need (decide (1 ≤ c.args.length) && decide (key < recKeys type) && (erase || payload.length == n)) .badArg s <|
    need (!s.calWrites type key) .busy s <|
    need (!([0x01, 0x02, 0x04].contains type) && !(type == 0x03 && (erase || !s.rootOk key payload))) .checkFail s <|
    if erase then
      done ((s.nvDrop type key none).relook type key) [((s.nvFind type key none).map Prod.fst).getD 0]
    else
      if s.plausible type key none payload (c.bit 1 8) ≠ 0 then
        { st := s.raise 110 (det2 ((checkedOf type key payload).map Checked.item |>.getD 0) key), status := .checkFail }
      else match s.nvPut type key none payload with
        | some (k, t) => done (t.relook type key) [k]
        | none => fail s .noResource

/-- CAL_RECORD_WRITE. -/
def execCalRecordWrite (r : Req) (s : State) : Host.Outcome State Fault Refusal :=
  .next (s.exchange (some cmdCalRecordWrite) cmdCalRecordWrite.op r)

/-- CAL.RECORD_READ; a LINK record is looked up by its PARTNER, or with no second word as one of none. -/
def cmdCalRecordRead : Cmd where
  op := 0x3205
  need := 1
  entry _ := 36
  body c s :=
    let type := c.bits 1 7 0
    let key := c.bits 1 31 16
    need (decide (key < recKeys type)) .badArg s <|
    match s.nvFind type key (if 2 ≤ c.args.length then some (c.bits 2 19 0) else none) with
    | some (k, w) => done s ((2 ^ 31 + k) :: (List.range 16).map fun i => w.getD i 0)
    | none => done s (List.replicate 17 0)

/-- CAL_RECORD_READ. -/
def execCalRecordRead (r : Req) (s : State) : Host.Outcome State Fault Refusal :=
  .next (s.exchange (some cmdCalRecordRead) cmdCalRecordRead.op r)

/-- CAL.LINK_RECORD. -/
def cmdCalLinkRecord : Cmd where
  op := 0x3206
  entry _ := 36
  body c s :=
    let p := c.bits 1 5 0
    let del := c.bit 1 8
    let node := c.bits 2 19 0
    let payload := [c.bits 3 15 0, c.arg 4, c.arg 5, 0]
    need (s.forceOk (c.bit 1 9)) .notInMode s <|
    need (decide ((if del then 2 else 5) ≤ c.args.length) && decide (p < 48) && (del || c.bits 3 15 0 != 0)) .badArg s <|
    need (!s.calWrites 0x20 p) .busy s <|
    if del then done ((s.nvDrop 0x20 p (some node)).relook 0x20 p) [0]
    else
      if s.plausible 0x20 p (some node) payload (c.bit 1 9) ≠ 0 then
        { st := s.raise 110 (det2 7 p), status := .checkFail }
      else match s.nvPut 0x20 p (some node) payload with
        | some (k, t) => done (t.relook 0x20 p) [asymCheck s.nodeId node (Tab.get [] t.nv k)]
        | none => fail s .noResource

/-- CAL_LINK_RECORD. -/
def execCalLinkRecord (r : Req) (s : State) : Host.Outcome State Fault Refusal :=
  .next (s.exchange (some cmdCalLinkRecord) cmdCalLinkRecord.op r)

end Sys2Proof.Machine
end

