-- ==== Sys2Proof/Machine/Egress.lean ====
section
/-! DEFINITION. Egress: the choice of a copy, its guard, shaper and residence correction, and the end of its
transmission (R106 to R110, R353, R371, R372, R376, R433, R435). -/

namespace Sys2Proof.Machine

/-! ### Eligibility (R371, R372, R376) -/

/-- The length of the head copy of a class as it will leave. -/
def State.headLen (s : State) (p c : Nat) : Option Nat :=
  match s.queue p c with
  | [] => none
  | id :: _ => (s.frame? id).map fun f => (s.egressBytes f p).length

/-- A received pause stops a class (R322). -/
def State.isPaused (s : State) (p c : Nat) : Bool :=
  match Tab.find? (s.portOf p).paused c with
  | some t => decide (s.clk < t)
  | none => false

/-- A class's shaper allows a start; class 7 is never shaped. -/
def State.shaperOk (s : State) (p c : Nat) : Bool :=
  c == 7 || s.get R.SC_Pp_SHAPEc_RATE p c == 0 || decide (0 ≤ s.bucketOf p c)

/-- A queue with a head copy is eligible but for the guard. -/
def State.nearlyEligible (s : State) (p c : Nat) : Bool :=
  (s.headLen p c).isSome && s.classOpen p c && s.shaperOk p c && !s.isPaused p c

/-- A queue is eligible. -/
def State.eligible (s : State) (p c : Nat) : Bool :=
  s.nearlyEligible p c && (match s.headLen p c with
    | some n => s.guardOk p c n
    | none => false)

/-- The minimum inter-packet gap after the last frame is over. -/
def State.gapOver (s : State) (p : Nat) : Bool :=
  let last := (s.laneRec (laneOf p)).lastTx
  last == 0 || decide (last * modeRate (s.portMode p) + 96000 ≤ s.clk * modeRate (s.portMode p))

/-- The port is free to start a frame. -/
def State.portFree (s : State) (p : Nat) : Bool :=
  s.portState p == 2 && (Tab.find? s.cl.tx p).isNone && s.awake p && s.gapOver p

/-! ### The choice (R371) -/

/-- The deficit of a class. -/
def Sched.deficitOf (c : Sched) (k : Nat) : Int := Tab.get 0 c.deficit k

/-- WEIGHT of a class 0 to 4. -/
def State.weight (s : State) (p c : Nat) : Nat :=
  s.get ([R.SC_Pp_DWRR0_W0, R.SC_Pp_DWRR0_W1, R.SC_Pp_DWRR0_W2, R.SC_Pp_DWRR0_W3].getD c R.SC_Pp_DWRR1_W4) p

/-- Deficit round robin over classes 0 to 4, from the class whose turn it is: an empty class loses its deficit, a
class that is not eligible or whose deficit is too small keeps it. -/
def State.roundRobin (s : State) (p : Nat) : Nat → Option (Nat × State)
  | 0 => none
  | n + 1 =>
    let x := s.schedOf p
    let c := x.turn % 5
    let next (d : Int) : State := s.schedUpd p fun x => { x with
      turn := (c + 1) % 5, granted := false, deficit := Tab.put x.deficit c d }
    match s.headLen p c with
    | none => (next 0).roundRobin p n
    | some len =>
      if !s.eligible p c then (next (x.deficitOf c)).roundRobin p n
      else
        let d := if x.granted then x.deficitOf c else x.deficitOf c + s.weight p c * 256
        if (len : Int) ≤ d then
          some (c, s.schedUpd p fun x => { x with turn := c, granted := true, deficit := Tab.put x.deficit c (d - len) })
        else (next d).roundRobin p n

/-- The class that a port starts now: 7, 6, 5 by strict priority, and then 4 to 0 or by deficit round robin. -/
def State.chooseClass (s : State) (p : Nat) : Option (Nat × State) :=
  match [7, 6, 5].find? (s.eligible p) with
  | some c => some (c, s)
  | none =>
    if s.on R.SC_Pp_CFG_BSEL p then
      if (List.range 5).any (s.eligible p) then s.roundRobin p 250 else none
    else ([4, 3, 2, 1, 0].find? (s.eligible p)).map fun c => (c, s)

/-- Head copies that the guard passes over are counted once each (R528). -/
def State.countGuard (s : State) (p : Nat) (chosen : Option Nat) : State :=
  let above := match chosen with
    | some c => [7, 6, 5, 4, 3, 2, 1, 0].takeWhile fun k => k != c
    | none => [7, 6, 5, 4, 3, 2, 1, 0]
  above.foldl (fun s c =>
    match s.queue p c with
    | [] => s
    | id :: _ =>
      if s.nearlyEligible p c && !s.eligible p c && !(s.schedOf p).deferred.contains id then
        (s.count p 61).schedUpd p fun x => { x with deferred := x.deferred ++ [id] }
      else s) s

/-! ### The correction engine (R106 to R110) -/

/-- The stamps of a copy's residence in the message's timebase: residence less D, in 2^-16 ns. -/
def State.residence (s : State) (f : Frame) (q rho : Nat) : Int :=
  let tx := s.txStamp q f.own.tb rho
  let ofs := s.getZ R.PT_DIE_OFS_DIE_OFS
  let d := if dieOf f.port = dieOf q then 0 else if dieOf f.port = 0 then ofs else -ofs
  linDist tx.t f.own.t - d

/-- The correction engine acts between two ports, in a mode that lets it (R36). -/
def State.corrects (s : State) (f : Frame) (q : Nat) : Bool :=
  s.serves && f.orig.isNone && f.res.cls == 7 && s.on R.PT_TSCFGp_EN_CORR f.port && s.on R.PT_TSCFGp_EN_CORR q

/-- sourcePortIdentity and sequenceId of a message. -/
def ptpIdent (b : List Byte) (m : Nat) : Nat := fieldAt b (m + 20) 10 * 65536 + fieldAt b (m + 30) 2

/-- A two-step Sync: messageType 0 with the twoStepFlag. -/
def twoStep (b : List Byte) (m : Nat) : Bool := ptpType b m == 0 && bitOf (fieldAt b (m + 6) 1) 1

/-- What the engine does with a copy: the reason for which it is dropped, or the bytes that leave. -/
def State.correctCopy (s : State) (f : Frame) (q rho : Nat) (b : List Byte) (svlan : Bool) : Option Nat × List Byte × State :=
  if !s.corrects f q then (none, b, s)
  else match eventMsg b svlan with
    | some m =>
      let r := s.residence f q rho
      if f.own.stepSeq ≠ (s.txStamp q f.own.tb rho).stepSeq then (some 48, b, s)
      else if r > s.get R.PT_RES_CFG_RES_LIMIT * 1000 * 65536 then (some 47, b, s)
      else if twoStep b m then
        let key := ptpIdent b m
        let old := (Tab.get [] s.cl.follow q).filter fun e => e.1 != key
        let l := old ++ [(key, r + f.extra, s.clk)]
        (none, b, { s with cl := { s.cl with follow := Tab.put s.cl.follow q (l.drop (l.length - 16)) } })
      else (none, addCorrection b svlan (r + f.extra), s.count q 24)
    | none =>
      match (parse b svlan).ptpAt with
      | none => (none, b, s)
      | some m =>
        if ptpType b m = 8 ∧ s.on R.PT_TSCFGp_FU_CORR q = true then
          let hit (e : Nat × Int × Nat) : Bool := e.1 == ptpIdent b m && decide (s.clk ≤ e.2.2 + 10 ^ 11)
          match (Tab.get [] s.cl.follow q).find? hit with
          | some e => (none, addCorrection b svlan e.2.1, s.count q 24)
          | none => (none, b, s.count q 25)
        else (none, b, s)

/-! ### Starting a copy (R371, R435, R536) -/

/-- Latency in ps between two stamps of one timebase. -/
def latencyPs (tx rx : Stamp) : Nat := (linDist tx.t rx.t * 1000 / 65536).toNat

/-- A PTP message of the device itself takes its transmit time as it leaves, with a completion entry; any other copy keeps
its bytes (R111). -/
def State.oneStep (s : State) (f : Frame) (p rho : Nat) (b : List Byte) : List Byte × State :=
  match f.orig with
  | none => (b, s)
  | some o =>
    let tx := s.txStamp p (s.sessTb o.key) rho
    (if o.kind < 16 ∧ s.on R.PT_TSCFGp_EN_ORIG p = true then s.origBytes p o (some tx) else b, s.complete p o tx)

/-- Start the head copy of a class: its shaper pays, its stamp is taken, the correction engine edits it or drops
it, and the self-check of a compared context sees its span. -/
def State.startCopy (s : State) (p c rho : Nat) (corrupt : Bool) : State :=
  match s.queue p c with
  | [] => s
  | id :: rest => match s.frame? id with
    | none => s
    | some f =>
      let sv := s.svlan f.res.epoch f.port
      let b0 := s.egressBytes f p
      match s.correctCopy f p rho b0 sv with
      | (some why, _, t) => (((t.setQueue p c rest).dropCopy id p why).raise 40 (det2 p why)).judgeWindows p
      | (none, b, t) =>
        let (b, t) := t.oneStep f p rho b
        let n := b.length
        let shaped := c != 7 && t.get R.SC_Pp_SHAPEc_RATE p c != 0
        let pay (x : Sched) : Sched := { x with
          bucket := if shaped then Tab.put x.bucket c (t.bucketOf p c - n * 8000000) else x.bucket
          deferred := x.deferred.filter fun k => k != id }
        let (span, t) := if corrupt then t.draw 32 else (spanCrc b sv, t)
        let x : Tx := { frame := id, cls := c, bytes := b, start := t.clk
                        stop := t.clk + (n + 8) * 8000 / modeRate (t.portMode p), span := span }
        let t := { t with cl := { t.cl with tx := Tab.put t.cl.tx p x } }.schedUpd p pay
        let t := if (eventMsg b sv).isSome && t.on R.PT_TSCFGp_EN_TS p then t.count p 23 else t
        let t := t.bwAdd p true t.lineTime n
        let tx := t.txStamp p f.line.tb rho
        let t := t.tallyFrame 1 p { f.seen id with outPort := p, stamp := tx, latency := some (latencyPs tx f.line) }
        if corrupt && f.res.redAct != 0 && t.ctxCmp f.res.sctx then
          match t.frame? id with
          | some g =>
            let cl := { t.cl with frames := Tab.put t.cl.frames id { g with self := true } }
            { t with cl := cl }.selfFault
          | none => t
        else t

/-- SCHEDULER_DECISION (R371): port p, where it is free to start a frame, with the PCS residual `rho` of the frame;
`corrupt` tells that its span differs from the span taken at ingress. -/
def execSchedulerDecision (dt p rho : Nat) (corrupt : Bool) (s : State) : Host.Outcome State Fault Refusal :=
  let s := s.elapse dt
  let p := p % 48
  .next (if !s.portFree p then s
  else
    let t := (s.fillBuckets p).judgeWindows p
    match t.chooseClass p with
    | none => t.countGuard p none
    | some (c, u) => (u.countGuard p (some c)).startCopy p c (min rho (rhoMax (s.portMode p))) corrupt)

/-! ### The end of a transmission (R353, R528) -/

/-- The counters of a transmitted copy. -/
def State.countTx (s : State) (p c flow : Nat) (b : List Byte) : State :=
  let n := b.length
  let dst := fieldAt b 0 6
  let t := (s.count p 2).count p 3 n
  let t := if dst = 2 ^ 48 - 1 then t.count p 7 else if bitOf dst 40 then t.count p 6 else t
  let t := if c = 7 then t.count p 59 else if 5 ≤ c then t.count p 60 else t
  (((t.countProg (0x40 + c) p 0 1).countProg (0x48 + c) p 0 n).countProg 0x62 p flow 1).countProg 0x63 p flow n

/-- A frame with an FCS that is not its own: the spec leaves the value open. -/
def State.spoilFcs (s : State) (b : List Byte) : List Byte × State :=
  let (d, t) := s.draw 32
  let good := leNat (b.drop (b.length - 4))
  (b.take (b.length - 4) ++ leBytes 4 (Nat.xor good (d % (2 ^ 32 - 1) + 1)), t)

/-- A copy's last byte leaves: its cells return when it was the last (R353). -/
def State.endTx (s : State) (p : Nat) (x : Tx) : State :=
  let s := { s with cl := { s.cl with tx := Tab.del s.cl.tx p } }.laneUpd (laneOf p) fun l => { l with lastTx := x.stop }
  let flow := match s.frame? x.frame with | some f => f.res.flow | none => 0
  let (b, t) := if x.bad then s.spoilFcs x.bytes else (x.bytes, s.countTx p x.cls flow x.bytes)
  let t := t.emit (.frame p b)
  let t := t.setQueue p x.cls ((t.queue p x.cls).filter fun id => id != x.frame)
  let t := match t.frame? x.frame with
    | some f =>
      let g := { f with spans := f.spans ++ [(p, x.span)] }
      { t with cl := { t.cl with frames := Tab.put t.cl.frames x.frame g } }
    | none => t
  (t.copyGone x.frame p).judgeWindows p

/-- TRANSMIT_END (R353). -/
def execTransmitEnd (dt p : Nat) (s : State) : Host.Outcome State Fault Refusal :=
  let s := s.elapse dt
  let p := p % 48
  .next (match Tab.find? s.cl.tx p with
    | some x => if x.stop ≤ s.clk then s.endTx p x else s
    | none => s)

end Sys2Proof.Machine
end

