-- ==== Sys2Proof/Machine/Epochs.lean ====
section
/-! DEFINITION. Shadow, commit and epochs, the table window and the FWD command group (R341 to R351, R355, R356,
R363 to R369). -/

namespace Sys2Proof.Machine

/-! ### Epochs (R347, R349) -/

/-- The accepted commit's instant has come: on the line timebase's time, or, where that has moved, 4 µs after its
acceptance. -/
def State.fwdDue (s : State) : Bool :=
  match s.fwd.commit with
  | some t => decide (linDist (linear t) (linear s.lineTime) ≤ 0) || decide (s.fwd.actAt + 4 * 10 ^ 6 ≤ s.clk)
  | none => false

/-- The images swap (R347, R351): FWD_COMMIT, the PFC check, and the answer. -/
def State.activate (s : State) : State :=
  let new := 1 - s.epoch
  let words := if s.tbOn s.lineTb then timeWords (s.fwd.commit.getD 0) else [0, 0, 0]
  let t := s.writes [{ f := R.FD_EPOCH_STAT_EPOCH, v := new }, { f := R.FD_EPOCH_STAT_STATE, v := 1 },
    { f := R.FD_EPOCH_STAT_CONFIGURED, v := 1 }, { f := R.FD_EPOCH_STAT_CHANGES, v := 0 }]
  let t := { t with fwd := { t.fwd with
    commit := none, commitMb := none, commitWaits := false, resync := s.fwd.changed, changed := [], actAt := s.clk, dropped := 0 } }
  let t := (t.raise 73 new).pfcCheck
  if s.fwd.commitWaits then t.finish s.fwd.commitMb .ok (new :: words) else t

/-- The old epoch has drained: RESYNC begins. -/
def State.startResync (s : State) : State :=
  s.set R.FD_EPOCH_STAT_STATE 2

/-- EPOCH_DRAINED (R349). -/
def execEpochDrained (dt : Nat) (s : State) : Host.Outcome State Fault Refusal :=
  let s := s.elapse dt
  .next (if s.epochState = 1 ∧ s.oldCount = 0 then s.startResync else s)

/-- Count copies dropped with reason EPOCH_DRAIN. -/
def State.drained (s : State) (n : Nat) : State := { s with fwd := { s.fwd with dropped := s.fwd.dropped + n } }

/-- Drop the old-tag copies of a class queue; a copy in transmission completes. -/
def State.drainQueue (s : State) (p c : Nat) : State :=
  let busy := match Tab.find? s.cl.tx p with | some x => if x.cls = c then some x.frame else none | none => none
  let old (id : Nat) : Bool := busy != some id && (match s.frame? id with | some f => s.isOld f.res.epoch | none => false)
  let l := s.queue p c
  let out := l.filter old
  (out.foldl (fun s id => s.dropCopy id p 38) (s.setQueue p c (l.filter fun id => !old id))).drained out.length

/-- Drop the old-tag frames of the trap queues. -/
def State.drainTraps (s : State) : State :=
  let out := (s.cl.trapA ++ s.cl.trapB).filter fun t => s.isOld t.epoch
  let cl := { s.cl with trapA := s.cl.trapA.filter fun t => !s.isOld t.epoch
                        trapB := s.cl.trapB.filter fun t => !s.isOld t.epoch }
  (out.foldl (fun (s : State) t => s.count t.port 38) { s with cl := cl }).drained out.length

/-- Drop the old-tag frame in reception on a port. -/
def State.drainRx (s : State) (p : Nat) : State :=
  match Tab.find? s.cl.rx p with
  | some r =>
    if s.isOld r.res.epoch && r.drop.isNone && r.res.kind != 0 then
      (((s.freeCells p r.res.cls r.cells).dropRx p r 38).setRx p { r with cells := [], drop := some 38 }).drained 1
    else s
  | none => s

/-- Every remaining old-tag copy is dropped with reason EPOCH_DRAIN (R349). -/
def State.drainAll (s : State) : State :=
  let t := (List.range 48).foldl (fun s p =>
    ((List.range 8).foldl (fun s c => s.drainQueue p c) (s.drainRx p)).judgeWindows p) s
  t.drainTraps

/-- MAX_RES_EXPIRY (R349). -/
def execMaxResExpiry (dt : Nat) (s : State) : Host.Outcome State Fault Refusal :=
  let s := s.elapse dt
  .next (if s.epochState = 1 ∧ s.fwd.actAt + s.fwd.maxRes * 10 ^ 7 ≤ s.clk then s.drainAll.startResync else s)

/-- Copy an entry of the active image, given by its key, into the other image. -/
def State.copyEntry (s : State) (k : Nat) : State :=
  let r := k % 2 ^ 24
  let t := r / 2 ^ 20
  let i := r % 2 ^ 20
  { s with fwd := { s.fwd with img := Tab.put s.fwd.img (tblKey (1 - s.epoch) t i) (s.tblGet s.epoch t i) } }

/-- The changed entries reach the old image, and FWD_DRAIN is raised. -/
def State.endResync (s : State) : State :=
  let t := s.fwd.resync.foldl (fun s k => s.copyEntry k) (s.set R.FD_EPOCH_STAT_STATE 0)
  { t with fwd := { t.fwd with resync := [], dropped := 0 } }.raise 74 (satN 65535 s.fwd.dropped)

/-! ### Entries (R341 to R346) -/

/-- The bits of a table's words that hold a field; the others read 0 and ignore writes (R6). -/
def tblMask (t : Nat) : List Nat :=
  let full := 0xFFFFFFFF
  [[full, 0x8FFFFFFF, 0xFFF],
   List.replicate 10 full ++ [full, 0x03FFEFFF, 0xFF],
   List.replicate 7 full ++ [0x007FFFFF] ++ List.replicate 7 full ++ [0x007FFFFF, 0x03FF07FF, 0xFFFF],
   [full, 0x8000FFFF, full, 0xFFFF],
   [full, 0xFFFF], [full, full],
   [0x01FF7FFF, 0xFFFFFF, 0xFFFFFF]].getD t []

/-- The bytes of a flow key that its key type leaves unused are 0 (R343). -/
def flowUnused (ktype i : Nat) : Bool := decide (keyLen ktype ≤ i) || (ktype == 2 && i == 9) || (ktype == 3 && i == 33)

/-- The words of an entry as they are stored. -/
def tblClean (t : Nat) (ws : List Nat) : List Nat :=
  let l := (tblFit t ws).zipWith Nat.land (tblMask t)
  if t = 1 then
    let k := bits (l.getD 10 0) 30 29
    let word (n : Nat) : Nat := leNat ((List.range 4).map fun j =>
      if flowUnused k (4 * n + j) then 0 else (leBytes 4 (l.getD n 0)).getD j 0)
    (List.range 10).map word ++ l.drop 10
  else l

/-- A destination is in range. -/
def destOk (dtype dest : Nat) : Bool := dtype != 0 || decide (dest < 48)

/-- The number of ports in a port set. -/
def setSize (ws : List Nat) : Nat := (maskPorts (ws.getD 0 0) (ws.getD 1 0)).length

/-- A valid flow of the shadow with GENERATE names port set i. -/
def State.genUses (s : State) (i : Nat) : Bool :=
  List.any s.fwd.img fun e => e.1 / 2 ^ 20 == (1 - s.epoch) * 16 + 1 && entryValid 1 e.2
    && bits (e.2.getD 11 0) 11 10 == 1 && bits (e.2.getD 10 0) 27 26 == 1 && bits (e.2.getD 11 0) 9 0 == i

/-- The words may be written to a table (R336, R341 to R345): the index matters for VLANs and port sets. -/
def State.entryOk (s : State) (t i : Nat) (ws : List Nat) : Bool :=
  let w (k : Nat) : Nat := ws.getD k 0
  match t with
  | 0 => !entryValid 0 ws || (decide (1 ≤ bits (w 1) 27 16) && decide (bits (w 1) 27 16 ≤ 4094) && destOk (bits (w 2) 11 10) (bits (w 2) 9 0))
  | 1 => !entryValid 1 ws || ((decide (bits (w 10) 25 20 < 48) || bits (w 10) 25 20 == 63) && destOk (bits (w 10) 27 26) (bits (w 11) 9 0)
      && (bits (w 11) 11 10 != 1
        || (bits (w 10) 27 26 == 1 && setSize (s.tblGet (1 - s.epoch) 4 (bits (w 11) 9 0)) == 2)))
  | 2 => !entryValid 2 ws || !bitOf (w 16) 7 || destOk (b2n (bitOf (w 16) 8)) (bits (w 16) 25 16)
  | 3 => decide (0 < i) && decide (i < 4095)
  | 4 => !s.genUses i || setSize ws == 2
  | 6 => bits (w 0) 17 16 != 3 && (List.range 8).all fun c => bits (w 1) (3 * c + 2) (3 * c) != 7
  | _ => true

/-- A change of the shadow: the table, the index and the words; or the status that refuses it. -/
structure Plan where
  i : Nat := 0
  ws : List Nat := []
  /-- Nothing is to be written: the key of a deletion is absent. -/
  none_ : Bool := false
  status : Status := .ok

/-- Plan a write in the order of R474: arguments, pending commit, room. `op`: 0 write by index, 1 write by key,
2 delete by key, 3 clear index. -/
def State.plan (s : State) (t op i : Nat) (words : List Nat) : Plan :=
  let ws := if op = 3 then List.replicate (tblWords t) 0 else tblClean t words
  let key := entryKey t ws
  let shadow := 1 - s.epoch
  if (op == 0 && tblHashed t) || ((op == 1 || op == 2) && !tblHashed t) then { status := .badArg }
  else if (op == 0 || op == 3) && decide (tblSize t ≤ i) then { status := .badArg }
  else if op != 2 && !s.entryOk t i ws then { status := .badArg }
  else if s.fwdBusy then { status := .commitPending }
  else
    let at? := if op = 1 then (s.tblFind shadow t (entryKtype t ws) key).orElse fun _ => s.tblFree shadow t key
      else if op = 2 then s.tblFind shadow t (entryKtype t ws) key else some i
    match at? with
    | none => if op = 2 then { none_ := true } else { status := .noResource }
    | some j =>
      if s.shadowFull t j then { status := .noResource }
      else { i := j, ws := if op = 2 then List.replicate (tblWords t) 0 else ws }

/-- Make a planned write. -/
def State.doPlan (s : State) (t : Nat) (p : Plan) : State := if p.none_ then s else s.shadowPut t p.i p.ws

/-! ### The table window (R364) -/

/-- The words in FD_TBL_DATA. -/
def State.tblData (s : State) : List Nat := (List.range 18).map fun i => s.get R.FD_TBL_DATAi_DATA i

/-- Put words into FD_TBL_DATA; those beyond the entry read 0. -/
def State.putData (s : State) (ws : List Nat) : State :=
  (List.range 18).foldl (fun s i => s.set R.FD_TBL_DATAi_DATA (ws.getD i 0) i) s

/-- The fields of FD_TBL_CTRL after a write with GO. -/
def State.tblFields (s : State) (w op tbl : Nat) : State :=
  s.writes [{ f := R.FD_TBL_CTRL_IMAGE, v := bits w 28 28 }, { f := R.FD_TBL_CTRL_OP, v := op },
    { f := R.FD_TBL_CTRL_TBL, v := tbl }, { f := R.FD_TBL_CTRL_INDEX, v := bits w 17 0 }, { f := R.FD_TBL_CTRL_ERR, v := 0 }]

/-- The table that a write of FD_TBL_CTRL names; a code that names none changes nothing. -/
def State.tblNamed (s : State) (w : Nat) : Nat := if bits w 25 22 < 7 then bits w 25 22 else s.get R.FD_TBL_CTRL_TBL

/-- A write of FD_TBL_CTRL with GO: its fields, then the operation, which answers the index used and the state,
or none where it is refused. -/
def State.tblCtrl (s : State) (init w op : Nat) (k : State → Nat → Nat → Nat → Option (Nat × State)) : State :=
  s.directWrite init R.FD_TBL_CTRL_GO.addr [] fun s =>
    if s.on R.FD_TBL_CTRL_BUSY then s
    else
      let t := s.tblFields w op (s.tblNamed w)
      match k t (if bitOf w 28 then s.epoch else 1 - s.epoch) (s.tblNamed w) (bits w 17 0) with
      | some (i, u) => u.set R.FD_TBL_CTRL_INDEX i
      | none => t.set R.FD_TBL_CTRL_ERR 1

/-- A change through the window: the active image is read-only. -/
def State.windowPlan (s : State) (img tbl op i : Nat) : Option (Nat × State) :=
  if img = s.epoch then none
  else
    let p := s.plan tbl op i s.tblData
    if p.status = .ok then some (if op = 2 then i else p.i, s.doPlan tbl p) else none

/-- TBL_READ (R364). -/
def execTblRead (init w : Nat) (s : State) : Host.Outcome State Fault Refusal :=
  .next (s.tblCtrl init w 0 fun s img tbl i => if i < tblSize tbl then some (i, s.putData (s.tblGet img tbl i)) else none)

/-- TBL_WRITE (R346, R350, R364): by key in a hashed table, and by index in the others. -/
def execTblWrite (init w : Nat) (s : State) : Host.Outcome State Fault Refusal :=
  .next (s.tblCtrl init w 1 fun s img tbl i => s.windowPlan img tbl (if tblHashed tbl then 1 else 0) i)

/-- TBL_DELETE (R364). -/
def execTblDelete (init w : Nat) (s : State) : Host.Outcome State Fault Refusal :=
  .next (s.tblCtrl init w 2 fun s img tbl i => s.windowPlan img tbl 2 i)

/-- TBL_FIND (R364): a key that is not there sets ERR. -/
def execTblFind (init w : Nat) (s : State) : Host.Outcome State Fault Refusal :=
  .next (s.tblCtrl init w 3 fun s img tbl _ =>
    if !tblHashed tbl then none
    else
      let ws := tblClean tbl s.tblData
      (s.tblFind img tbl (entryKtype tbl ws) (entryKey tbl ws)).map fun j => (j, s.putData (s.tblGet img tbl j)))

/-! ### The FWD command group (R369) -/

/-- FWD.STATUS. -/
def cmdFwdStatus : Cmd where
  op := 0x2201
  any := true
  acts := false
  entry _ := 13
  body _ s := done s [s.word R.FD_EPOCH_STAT, s.oldCount, s.word R.CL_POOL_STAT, s.word R.CL_ECC_STAT]

/-- FWD_STATUS. -/
def execFwdStatus (r : Req) (s : State) : Host.Outcome State Fault Refusal :=
  .next (s.exchange (some cmdFwdStatus) cmdFwdStatus.op r)

/-- FWD.WRITE: the entry words are those the operation needs. -/
def cmdFwdWrite : Cmd where
  op := 0x2202
  need := 2
  entry _ := 13
  body c s :=
    let t := c.bits 1 3 0
    let op := c.bits 1 5 4
    let n := if op = 3 then 0 else if op = 2 then (if t = 0 then 2 else 11) else tblWords t
    need (decide (t < 7) && decide (n + 2 ≤ c.args.length)) .badArg s <|
    let p := s.plan t op (c.bits 2 17 0) (c.args.drop 2)
    need (p.status == .ok) p.status s <| unlessLocked s 13 <| done (s.doPlan t p) [p.i]

/-- FWD_WRITE. -/
def execFwdWrite (r : Req) (s : State) : Host.Outcome State Fault Refusal :=
  .next (s.exchange (some cmdFwdWrite) cmdFwdWrite.op r)

/-- The entry that FWD.READ finds by the ten key words, which carry no key type: the first key type with a hit. -/
def State.readByKey (s : State) (img t : Nat) (key : List Nat) : Option Nat :=
  if t = 0 then s.tblFind img 0 0 (entryKey 0 (tblClean 0 (key.take 2)))
  else (List.range 4).findSome? fun k =>
    let ws := tblClean 1 ((key.take 10) ++ List.replicate (10 - key.length) 0 ++ [k * 2 ^ 29])
    s.tblFind img 1 k (entryKey 1 ws)

/-- FWD.READ. -/
def cmdFwdRead : Cmd where
  op := 0x2203
  any := true
  acts := false
  need := 1
  entry _ := 13
  body c s :=
    let t := c.bits 1 3 0
    let img := if c.bit 1 4 then s.epoch else 1 - s.epoch
    let i := c.bits 2 17 0
    let out (j : Nat) : List Nat := (2 ^ 31 + j) :: (List.range 18).map fun k => (s.tblGet img t j).getD k 0
    if c.bit 1 5 then
      need (tblHashed t && decide (3 ≤ c.args.length)) .badArg s <|
      match s.readByKey img t (c.args.drop 2) with
      | some j => done s (out j)
      | none => done s (List.replicate 19 0)
    else need (decide (t < 7) && decide (2 ≤ c.args.length) && decide (i < tblSize t)) .badArg s <| done s (out i)

/-- FWD_READ. -/
def execFwdRead (r : Req) (s : State) : Host.Outcome State Fault Refusal :=
  .next (s.exchange (some cmdFwdRead) cmdFwdRead.op r)

/-- FWD.COMMIT: accepted at once; the answer comes at activation. MAX_RES applies as it stands now. -/
def cmdFwdCommit : Cmd where
  op := 0x2204
  entry _ := 13
  body c s :=
    need (!s.fwdBusy) .commitPending s <| unlessLocked s 13 <|
    { st := s.fwdAccept c.mb true, wait := true }

/-- FWD_COMMIT. -/
def execFwdCommit (r : Req) (s : State) : Host.Outcome State Fault Refusal :=
  .next (s.exchange (some cmdFwdCommit) cmdFwdCommit.op r)

/-- The shadow becomes equal to the active image. -/
def State.discard (s : State) : State :=
  let t := s.fwd.changed.foldl (fun s k => s.copyEntry k) (s.set R.FD_EPOCH_STAT_CHANGES 0)
  { t with fwd := { t.fwd with changed := [] } }

/-- FWD.DISCARD. -/
def cmdFwdDiscard : Cmd where
  op := 0x2205
  entry _ := 13
  body _ s := need (!s.fwdBusy) .commitPending s <| done s.discard

/-- FWD_DISCARD. -/
def execFwdDiscard (r : Req) (s : State) : Host.Outcome State Fault Refusal :=
  .next (s.exchange (some cmdFwdDiscard) cmdFwdDiscard.op r)

/-- The four reserves that a word holds, and their sum. -/
def rsvList (w : Nat) : List Nat := (List.range 4).map fun c => bits w (8 * c + 7) (8 * c)

def rsvSum (w : Nat) : Nat := (rsvList w).foldl (· + ·) 0

/-- The least reserve of a port (R356). -/
def State.leastRsv (s : State) (p : Nat) : Nat := (s.get R.PT_CFGp_MAX_FRAME p + 255) / 256

/-- The shared pool after a port's reserves become two words; none where it would be negative. -/
def State.poolAfter (s : State) (p lo hi : Nat) : Option Nat :=
  let free := s.get R.CL_POOL_STAT_SHARED_FREE + rsvSum (s.get R.CL_RSVp_LO_RSV p) + rsvSum (s.get R.CL_RSVp_HI_RSV p)
  if rsvSum lo + rsvSum hi ≤ free then some (free - (rsvSum lo + rsvSum hi)) else none

/-- FWD.BUF_CFG. -/
def cmdFwdBufCfg : Cmd where
  op := 0x2206
  need := 4
  entry _ := 14
  body c s :=
    let p := c.bits 1 5 0
    let ws := R.CL_PORTp_SHARE.writes (c.arg 2) p ++ R.CL_RSVp_LO.writes (c.arg 3) p ++ R.CL_RSVp_HI.writes (c.arg 4) p
    need (decide (p < 48) && R.CL_PORTp_SHARE.ok (c.arg 2)
      && (rsvList (c.arg 3) ++ rsvList (c.arg 4)).all fun v => decide (s.leastRsv p ≤ v)) .badArg s <|
    match s.poolAfter p (c.arg 3) (c.arg 4) with
    | none => fail s .noResource
    | some free => writeCfg s ws fun t => done (t.set R.CL_POOL_STAT_SHARED_FREE free)

/-- FWD_BUF_CFG. -/
def execFwdBufCfg (r : Req) (s : State) : Host.Outcome State Fault Refusal :=
  .next (s.exchange (some cmdFwdBufCfg) cmdFwdBufCfg.op r)

/-- FWD.EPOCH_CFG. -/
def cmdFwdEpochCfg : Cmd where
  op := 0x2207
  need := 1
  entry _ := 13
  body c s :=
    need (R.FD_EPOCH_CFG.ok (c.arg 1)) .badArg s <| writeCfg s (R.FD_EPOCH_CFG.writes (c.arg 1)) done

/-- FWD_EPOCH_CFG. -/
def execFwdEpochCfg (r : Req) (s : State) : Host.Outcome State Fault Refusal :=
  .next (s.exchange (some cmdFwdEpochCfg) cmdFwdEpochCfg.op r)

end Sys2Proof.Machine
end

