-- ==== Sys2Proof/Machine/Placement.lean ====
section
/-! DEFINITION. How Forester computes a placement: bounds, admissible sub-windows, the search, and the choice of
ports (R397 to R402, R404). Times are in units of 5 ps unless their names say otherwise. -/

namespace Sys2Proof.Machine

/-! ### Terms of a flow on a port -/

/-- One nanosecond. -/
def uNs : Int := 200

/-- The receive and transmit nominal maxima of a mode, each rounded up to a whole ns (R312). -/
def dRx (m : Nat) : Nat := [0, 104, 45, 45, 250, 160, 112, 116, 104, 47].getD m 0

def dTx (m : Nat) : Nat := [0, 80, 29, 32, 229, 117, 68, 69, 80, 31].getD m 0

/-- The time of some bytes at a port's MAC rate. -/
def State.wire (s : State) (p bytes : Nat) : Nat := bytes * 8 * 200 / modeRate (s.portMode p)

/-- The guard G of a flow on an egress port. -/
def State.foGuard (s : State) (f : Flow) (q : Nat) : Nat := s.wire q (f.size + 20)

/-- The sub-window length Λ, in 8 ns. -/
def State.subLen (s : State) (f : Flow) (q : Nat) : Nat := (s.foGuard f q + 2000 + 1599) / 1600

/-- The earliest arrival a_min, in ns. -/
def State.arrival (s : State) (f : Flow) (q : Nat) : Int :=
  let cyc := s.foCycle q * 8
  (if cyc < f.period * 1000 then f.release % cyc else f.release : Nat) - (f.rjit : Int)

/-- From an arrival to the ready time r. -/
def State.readyAfter (s : State) (f : Flow) (q : Nat) : Int :=
  s.wire f.inport f.size + (dRx (s.portMode f.inport) + 152) * uNs + (if dieOf f.inport = dieOf q then 0 else 5120)

/-- One copy of a flow in the cycle of a port: its sub-window, W of this copy and its times (R400). -/
structure CopyW where
  flow : Flow
  k : Nat
  /-- W + k × PERIOD, in 8 ns. -/
  w : Nat
  pos : Nat
  len : Nat
  aMin : Int
  rMin : Int
  g : Int

/-- The copies of a flow on a port whose sub-window starts at W. -/
def State.copiesAt (s : State) (f : Flow) (q w : Nat) : List CopyW :=
  let cyc := s.foCycle q
  let a := s.arrival f q * uNs
  (List.range (f.copies cyc)).map fun k =>
    let sh : Int := (k * f.period * 1000 : Nat) * uNs
    { flow := f, k := k, w := w + k * f.period * 125, pos := (w + k * f.period * 125) % cyc, len := s.subLen f q
      aMin := a + sh, rMin := a + sh + s.readyAfter f q, g := s.foGuard f q }

/-- The copies of a model on a port. -/
def State.modelCopies (s : State) (model : List Flow) (q : Nat) : List CopyW :=
  model.flatMap fun f => match f.subs.find? fun x => x.1 == q with
    | some (_, w, _) => s.copiesAt f q w
    | none => []

/-! ### Runs and bounds (R399) -/

/-- The start of the run that reaches a position. -/
def runStart (l : List CopyW) : Nat → Nat → Nat
  | 0, b => b
  | n + 1, b => match l.find? fun x => x.pos + x.len == b with
    | some x => runStart l n x.pos
    | none => b

/-- The end of the run that starts or goes on at a position. -/
def runEnd (l : List CopyW) : Nat → Nat → Nat
  | 0, e => e
  | n + 1, e => match l.find? fun x => x.pos == e with
    | some x => runEnd l n (x.pos + x.len)
    | none => e

/-- B and E of a copy, in 8 ns and not reduced modulo the cycle. -/
def CopyW.b (c : CopyW) (l : List CopyW) : Nat := c.w - (c.pos - runStart l l.length c.pos)

def CopyW.e (c : CopyW) (l : List CopyW) : Nat := c.w + (runEnd l l.length (c.pos + c.len) - c.pos)

/-- The latest start E - G, and the earliest max(r_min, B). -/
def CopyW.last (c : CopyW) (l : List CopyW) : Int := c.e l * 1600 - c.g

def CopyW.first (c : CopyW) (l : List CopyW) : Int := max c.rMin (c.b l * 1600)

/-- λ and J of a copy on a port. -/
def State.lambda (s : State) (q : Nat) (c : CopyW) (l : List CopyW) : Int :=
  c.last l + (64 + dTx (s.portMode q)) * uNs - c.aMin

def CopyW.jitter (c : CopyW) (l : List CopyW) : Int := c.last l - c.first l

/-- The largest of some amounts, and 0. -/
def maxZ (l : List Int) : Int := l.foldl max 0

/-- λ and J of a flow on a port: the largest over its copies. -/
def State.bounds (s : State) (model : List Flow) (f : Flow) (q : Nat) : Int × Int :=
  let l := s.modelCopies model q
  let own := l.filter fun c => c.flow.id == f.id
  (maxZ (own.map fun c => s.lambda q c l), maxZ (own.map fun c => c.jitter l))

/-- An amount in ns, rounded up. -/
def ceilNs (z : Int) : Nat := ((z + uNs - 1) / uNs).toNat

/-! ### Rules of R400 -/

/-- Two positions of a cycle overlap. -/
def overlaps (a b : CopyW) : Bool := decide (a.pos < b.pos + b.len) && decide (b.pos < a.pos + a.len)

/-- A sub-window, which returns in every cycle, lies in part in [x, y). -/
def liesIn (cyc : Nat) (c : CopyW) (x y : Int) : Bool :=
  let cu : Int := cyc * 1600
  let a : Int := c.pos * 1600
  let m := (x - a - c.len * 1600) / cu + 1
  decide (x < y) && decide (a + m * cu < y)

/-- Rules 1 and 2: the copies come after r_max, lie in one cycle outside the timing window, and overlap
nothing. -/
def State.rules12 (s : State) (f : Flow) (q w : Nat) (new others : List CopyW) : Bool :=
  let cyc := s.foCycle q
  let tw := s.get R.FO_PORTp_CFG_TIMING_WIN q
  decide (s.arrival f q * uNs + 2 * f.rjit * uNs + s.readyAfter f q ≤ w * 1600)
  && new.all fun c => decide (c.pos + c.len ≤ cyc) && decide (tw ≤ c.pos) && !others.any (overlaps c)
    && !new.any fun d => d.k != c.k && overlaps c d

/-- Rules 3 and 4. -/
def isolated (cyc : Nat) (new others : List CopyW) : Bool :=
  let l := new ++ others
  (new.all fun c => !l.any fun x => !(x.flow.id == c.flow.id && x.k == c.k) && liesIn cyc x c.rMin (c.b l * 1600))
  && others.all fun g => !new.any fun c => liesIn cyc c g.rMin (g.b l * 1600)

/-- Rule 5: the reason of the first bound that a flow of the new runs breaks, LATENCY before JITTER. -/
def State.boundsBroken (s : State) (q : Nat) (new others : List CopyW) : Option Nat :=
  let l := new ++ others
  let runs := new.map fun c => runStart l l.length c.pos
  let near := l.filter fun x => runs.contains (runStart l l.length x.pos)
  if near.any fun x => decide (x.flow.lat * uNs < s.lambda q x l) then some 0x05
  else if near.any fun x => decide (x.flow.jit * uNs < x.jitter l) then some 0x06 else none

/-- The flow with a sub-window on a port at W. -/
def Flow.withSub (f : Flow) (q w len : Nat) : Flow := { f with subs := f.subs ++ [(q, w, len)] }

/-- The bank of a port would fit in 1,024 entries (R395). -/
def State.entriesFit (s : State) (model : List Flow) (q : Nat) : Bool := decide ((s.layout model q).length ≤ 1024)

/-- What W gives: none where rules 1 and 2 fail, and otherwise the reason it fails later, or 0. -/
def State.tryW (s : State) (model : List Flow) (f : Flow) (q w : Nat) : Option Nat :=
  let new := s.copiesAt f q w
  let others := s.modelCopies model q
  if !s.rules12 f q w new others then none
  else if !isolated (s.foCycle q) new others then some 0x07
  else match s.boundsBroken q new others with
    | some r => some r
    | none => if s.entriesFit (model ++ [f.withSub q w (s.subLen f q)]) q then some 0 else some 0x08

/-- The search of R401 over some further positions: W, or the reason. -/
def State.searchW (s : State) (model : List Flow) (f : Flow) (q : Nat) : Nat → Nat → Option Nat → Except Nat Nat
  | 0, _, why => .error (why.getD 0x04)
  | n + 1, w, why => match s.tryW model f q w with
    | some 0 => .ok w
    | some r => s.searchW model f q n (w + 1) (why.orElse fun _ => some r)
    | none => s.searchW model f q n (w + 1) why

/-- ⌈r_max⌉ on the 8 ns grid. -/
def State.firstW (s : State) (f : Flow) (q : Nat) : Nat :=
  ((s.arrival f q * uNs + 2 * f.rjit * uNs + s.readyAfter f q + 1599) / 1600).toNat

/-- The sub-window of a flow on a port: the first admissible W of one full cycle. -/
def State.placeOn (s : State) (model : List Flow) (f : Flow) (q : Nat) : Except Nat Nat :=
  s.searchW model f q (s.foCycle q) (s.firstW f q) none

/-! ### The choice of ports (R402) -/

/-- A refused request: REASON and PORT. -/
structure Reject where
  reason : Nat
  port : Nat := 63

/-- Place a flow on some ports, in ascending order. -/
def State.placePorts (s : State) (model : List Flow) (f : Flow) : List Nat → Except Reject Flow
  | [] => .ok f
  | q :: r => match s.placeOn model f q with
    | .error why => .error { reason := why, port := q }
    | .ok w => s.placePorts model (f.withSub q w (s.subLen f q)) r

/-- The candidate pairs of a flow: UP, in different groves, ascending. -/
def State.candidates (s : State) (f : Flow) : List (Nat × Nat) :=
  let up := f.egress.filter fun p => s.portState p == 2
  up.flatMap fun p => (up.filter fun q => decide (p < q) && p / 4 != q / 4).map fun q => (p, q)

/-- Try candidate pairs in order; the first pair's reason is reported when none succeeds. -/
def State.placePairs (s : State) (model : List Flow) (f : Flow) : List (Nat × Nat) → Option Reject → Except Reject Flow
  | [], why => .error (why.getD { reason := 0x03 })
  | (p, q) :: r, why => match s.placePorts model f [p, q] with
    | .ok g => .ok g
    | .error e => s.placePairs model f r (why.orElse fun _ => some e)

/-- Place a flow into a model by R400 to R402. -/
def State.placeFlow (s : State) (model : List Flow) (f : Flow) : Except Reject Flow :=
  let f := { f with subs := [] }
  if f.red = 0 then s.placePorts model f f.egress else s.placePairs model f (s.candidates f) none

/-- A flow keeps a model's other flows: it is admissible where it stands (R410). -/
def State.stillFits (s : State) (model : List Flow) (f : Flow) : Bool :=
  let rest := model.filter fun g => g.id != f.id
  f.subs.all fun x =>
    let new := s.copiesAt f x.1 x.2.1
    let others := s.modelCopies rest x.1
    !(new.any fun c => others.any (overlaps c)) && isolated (s.foCycle x.1) new others
    && (s.boundsBroken x.1 new others).isNone

/-- LAT_WC and JIT_WC of a placed flow, in whole ns. -/
def State.worst (s : State) (model : List Flow) (f : Flow) : Nat × Nat :=
  let l := f.subs.map fun x => s.bounds model f x.1
  (ceilNs (maxZ (l.map Prod.fst)), ceilNs (maxZ (l.map Prod.snd)))

end Sys2Proof.Machine
end

