-- ==== Sys2Proof/Machine/Forester.lean ====
section
/-! DEFINITION. Forester at work: what a placement writes, staging and commit, pins, re-placement, and the FLOW
command group (R394 to R418). -/

namespace Sys2Proof.Machine

/-! ### The model -/

/-- Insert a flow in ascending FLOW_ID. -/
def insertFlow (f : Flow) : List Flow → List Flow
  | [] => [f]
  | g :: l => if f.id ≤ g.id then f :: g :: l else g :: insertFlow f l

/-- A model without a flow. -/
def dropFlow (id : Nat) (l : List Flow) : List Flow := l.filter fun g => g.id != id

/-- 0 IDLE, 1 STAGED, 2 COMMITTING, 3 REPLACING. -/
def State.foState (s : State) : Nat := s.get R.FO_STAT_STATE

/-- Change Forester. -/
def State.foUpd (s : State) (f : Forester → Forester) : State := { s with fo := f s.fo }

/-- What the digest covers of a flow. -/
def Flow.words (f : Flow) : List Nat :=
  [f.id, f.inport, f.cls, f.red, b2n f.tally, f.ktype, f.period, f.size, f.lat, f.jit, f.release, f.rjit, b2n f.pinned,
    f.bset, f.cells] ++ f.egress ++ f.key ++ f.subs.flatMap fun x => [x.1, x.2.1, x.2.2]

/-- Show the committed model: PLACED, DEGRADED and FO_DIGEST (R413). -/
def State.foSync (s : State) : State :=
  let l := s.fo.committed
  s.writes [{ f := R.FO_STAT_PLACED, v := l.length }, { f := R.FO_STAT_DEGRADED, v := b2n (l.any Flow.degraded) },
    { f := R.FO_DIGEST_DIGEST, v := if l.isEmpty then 0 else Config.modelDigest (l.flatMap Flow.words) }]

/-! ### Reservations (R403, R405) -/

/-- The banks of bank set k. -/
def setBankList (k : Nat) : List Nat := (List.range 4).map fun i => 4 * k + i

/-- Add to the reservation of each bank of a set. -/
def State.reserve (s : State) (k n : Nat) : State := (setBankList k).foldl (fun s b => s.setRsv b (s.bankRsv b + n)) s

/-- Take it off again. -/
def State.unreserve (s : State) (k n : Nat) : State := (setBankList k).foldl (fun s b => s.setRsv b (s.bankRsv b - n)) s

/-- R356 lets a reservation of n cells be added to each bank of a set. -/
def State.canReserve (s : State) (k n : Nat) : Bool :=
  decide ((setBankList k).foldl (fun a b => a + s.rsvMore b (s.bankRsv b + n)) 0 ≤ s.get R.CL_POOL_STAT_SHARED_FREE)
  && (setBankList k).all fun b => decide (s.bankRsv b + n ≤ 4096)

/-- A model holds a flow's reservation. -/
def holdsRsv (l : List Flow) (f : Flow) : Bool := l.any fun g => g.id == f.id && g.bset == f.bset && g.cells == f.cells

/-- A flow leaves the work in hand: a reservation that the committed model does not hold is lowered at once. -/
def State.letGo (s : State) (f : Flow) : State :=
  if holdsRsv s.fo.committed f then s else s.unreserve f.bset f.cells

/-- The bank set of R403: the lowest total reservation on the target die. -/
def State.chooseSet (s : State) (f : Flow) : Nat :=
  let dies := (f.subs.map fun x => dieOf x.1).eraseDups
  let die := if dies.length = 1 then dies.getD 0 0 else dieOf f.inport
  let total (k : Nat) : Nat := (setBankList k).foldl (fun a b => a + s.bankRsv b) 0
  ((List.range 8).map fun i => 8 * die + i).foldl (fun b k => if total k < total b then k else b) (8 * die)

/-! ### What an accepted flow writes (R403) -/

/-- The words of a flow entry. -/
def Flow.entry (f : Flow) : List Nat :=
  let one := f.subs.length = 1
  let dest := if one then (f.subs.headD (0, 0, 0)).1 else f.pset.getD 0
  f.key ++ [f.id + f.cls * 2 ^ 16 + 2 ^ 19 + f.inport * 2 ^ 20 + (if one then 0 else 2 ^ 26) + b2n f.tally * 2 ^ 28
      + f.ktype * 2 ^ 29 + 2 ^ 31,
    dest + (if f.red = 0 then 0 else 2 ^ 10) + f.sctx.getD 0 * 2 ^ 13, f.bset]

/-- The words of a set of ports or banks. -/
def maskWords (l : List Nat) : List Nat :=
  let m := l.foldl (fun a p => a ||| 2 ^ p) 0
  [m % 2 ^ 32, m / 2 ^ 32]

/-- DATA0 of a flow's context: VALID and GEN, and for dual-pair SEQ_SRC and CMP (R422). -/
def Flow.ctx0 (f : Flow) : Nat := 0x02200000 + 3 + (if f.red = 2 then 2 ^ 6 + 2 ^ 8 else 0)

/-- A write of the shadow by index or key; none where the tables refuse it. -/
def State.foWrite (s : State) (t op i : Nat) (ws : List Nat) : Option State :=
  let p := s.plan t op i ws
  if p.status = .ok then some (s.doPlan t p) else none

/-- The port set for some ports: one that holds exactly them, or the lowest that no flow uses. -/
def State.choosePset (s : State) (ports : List Nat) : Option Nat :=
  let ws := maskWords ports
  let ids := (List.range 512).map fun i => 512 + i
  (ids.find? fun i => s.tblGet (1 - s.epoch) 4 i == ws).orElse fun _ =>
    ids.find? fun i => !(s.fo.committed ++ s.fo.work).any fun f => f.pset == some i

/-- The lowest free context of Forester. -/
def State.chooseCtx (s : State) : Option Nat :=
  ((List.range 4096).map fun i => 4096 + i).find? fun n => !(s.fo.committed ++ s.fo.work).any fun f => f.sctx == some n

/-- Write a booked flow: its bank set, port set, context and entry; none where the tables have no room. -/
def State.writeFlow (s : State) (f : Flow) (fresh : Bool) : Option State :=
  let s := match f.sctx with
    | some n => if fresh then (s.ctxReset n true).ctxSet n f.ctx0 (50 * 65536 + 1000) (30 * 65536 + 2000) else s
    | none => s
  let bank := maskWords (setBankList f.bset)
  let a := if s.tblGet (1 - s.epoch) 5 f.bset = bank then some s else s.foWrite 5 0 f.bset bank
  let b := match f.pset with
    | some i =>
      let ws := maskWords (f.subs.map Prod.fst)
      a.bind fun s => if s.tblGet (1 - s.epoch) 4 i = ws then some s else s.foWrite 4 0 i ws
    | none => a
  b.bind fun s => s.foWrite 1 1 0 f.entry

/-- Book a placed flow against a model: bounds, bank set, reservation, context, port set and entry; or the reason
that refuses it. A flow that is placed again keeps its context, and a reservation that the committed model holds for it. -/
def State.book (s : State) (model : List Flow) (f : Flow) : Except Reject (Flow × State) :=
  let (lat, jit) := s.worst (model ++ [f]) f
  let k := s.chooseSet f
  let n := ((f.size + 255) / 256 * (lat / (f.period * 1000) + 1) + 3) / 4
  let f := { f with latWc := lat, jitWc := jit, bset := k, cells := n }
  if !s.canReserve k n then
    .error { reason := 0x09 }
  else
    let ctx := if f.red = 0 then some none else if f.sctx.isSome then some f.sctx else (s.chooseCtx).map some
    match ctx with
    | none => .error { reason := 0x0A }
    | some c =>
      let set := if f.subs.length = 1 then some none else (s.choosePset (f.subs.map Prod.fst)).map some
      match set with
      | none => .error { reason := 0x0B }
      | some ps =>
        let g := { f with sctx := c, pset := ps }
        match s.writeFlow g f.sctx.isNone with
        | none => .error { reason := 0x0B }
        | some t => .ok (g, if holdsRsv s.fo.committed g then t else t.reserve k n)

/-- Delete a flow's entry in the shadow. -/
def State.unwriteFlow (s : State) (f : Flow) : State := (s.foWrite 1 2 0 f.entry).getD s

/-! ### Staging (R405, R408) -/

/-- The ports of a flow. -/
def Flow.ports (f : Flow) : List Nat := f.subs.map Prod.fst

/-- Ports join those that change, and their inactive banks are rewritten from the work in hand; a bank whose
commit is pending follows at its activation. -/
def State.foChange (s : State) (ports : List Nat) : State :=
  let s := s.foUpd fun o => { o with changed := (o.changed ++ ports).eraseDups }
  ports.foldl (fun s p => if s.schedPending p then s else s.writeLayout s.fo.work p) s

/-- Stage a model: STATE reads STAGED. -/
def State.stage (s : State) (work : List Flow) (ports : List Nat) : State :=
  ((s.foUpd fun o => { o with work := work }).foChange ports.eraseDups).set R.FO_STAT_STATE 1

/-- Return to the committed model. -/
def State.foDiscard (s : State) : State :=
  let t := s.fo.work.foldl (fun s f => s.letGo f) s
  let t := t.fo.work.foldl (fun s f => match f.sctx with
    | some n => if s.fo.committed.any fun g => g.sctx == some n then s
        else (s.ctxReset n true).ctxSet n 0x02200000 (50 * 65536 + 1000) (30 * 65536 + 2000)
    | none => s) t
  let ports := t.fo.changed
  let t := t.discard.foUpd fun o => { o with work := o.committed, changed := [] }
  (ports.foldl (fun s p => if s.schedPending p then s else s.writeLayout s.fo.work p) t).set R.FO_STAT_STATE 0

/-! ### Commit (R406) -/

/-- Commit the banks of the changed ports with MODE 0; a port whose schedule does not run starts at an aligned
instant. -/
def State.commitBanks (s : State) : State :=
  (s.fo.changed.foldl (fun s p =>
    if s.schedRuns p then s.schedAccept p (s.nextBoundary p) (s.on R.SC_Pp_STAT_ALIGN_LOST p)
    else if s.tbOn (s.schedTb p) then s.schedAccept p (s.alignedAt p (s.foCycle p)) false else s) s).foPoll

/-- The work in hand becomes the committed model; reservations of removed flows are lowered. -/
def State.foComplete (s : State) : State :=
  let gone := s.fo.committed.filter fun f => !holdsRsv s.fo.work f
  let t := gone.foldl (fun s f => s.unreserve f.bset f.cells) s
  ((t.foUpd fun o => { o with committed := o.work, changed := [], phase := 0, mb := none, waits := false }).set
    R.FO_STAT_STATE 0).foSync

/-- The tables have activated for Forester: FLOW.COMMIT is answered, or a re-placement is complete. -/
def State.foActivated (s : State) (words : List Nat) : State :=
  if s.fo.phase ≠ 3 then s
  else if s.foState = 3 then s.foUpd fun o => { o with phase := 4 }
  else
    let t := s.foComplete
    if s.fo.waits then t.finish s.fo.mb .ok words else t.settleCfg

/-- EPOCH_ACTIVATION (R347, R406). -/
def execEpochActivation (dt : Nat) (s : State) : Host.Outcome State Fault Refusal :=
  let s := s.elapse dt
  let words := if s.tbOn s.lineTb then timeWords (s.fwd.commit.getD 0) else [0, 0, 0]
  .next (if s.fwdDue then s.activate.foActivated words else s)

/-- RESYNC_END (R349). -/
def execResyncEnd (dt : Nat) (s : State) : Host.Outcome State Fault Refusal :=
  let s := s.elapse dt
  .next (if s.epochState = 2 then s.endResync.foPoll else s)

/-- A bank of a port has become active: a staged layout that waited is written, and the work in hand goes on. -/
def State.foBank (s : State) (p : Nat) : State :=
  let t := if s.foState = 1 ∧ s.fo.changed.contains p = true then s.writeLayout s.fo.work p else s
  t.foPoll

/-- BANK_ACTIVATION (R383). -/
def execBankActivation (dt p : Nat) (s : State) : Host.Outcome State Fault Refusal :=
  let s := s.elapse dt
  let p := p % 48
  .next (if s.commitDue p then (s.activateBank p).foBank p else s)

/-! ### Re-placement (R411, R412) -/

/-- A port's delay has expired, or its mode change counts as its failure. -/
def State.replaceDue (s : State) (p : Nat) : Bool :=
  s.fo.failed.contains p || (match (s.portOf p).downAt with
    | some t => s.on R.FO_CFG_AUTO_REPL && !(s.portOf p).replaced && decide (t + s.get R.FO_CFG_REPLACE_DELAY * 10 ^ 9 ≤ s.clk)
    | none => false)

/-- The new place of a flow that loses a port: the lowest UP port of its EGRESS outside the pair and the
survivor's grove that admits a sub-window. -/
def State.newPlace (s : State) (model : List Flow) (f : Flow) (p : Nat) : Option Flow :=
  match f.subs.find? fun x => x.1 != p with
  | none => none
  | some keep =>
    let base := { f with subs := [keep] }
    let fits (q : Nat) : Bool := s.portState q == 2 && !f.ports.contains q && q / 4 != keep.1 / 4
    (f.egress.filter fits).findSome? fun q => match s.placeOn (model ++ [base]) { f with subs := [] } q with
      | .ok w => some { f with subs := if q < keep.1 then [(q, w, s.subLen f q), keep] else [keep, (q, w, s.subLen f q)] }
      | .error _ => none

/-- Re-place one flow, or degrade it. -/
def State.replaceFlow (s : State) (f : Flow) (p : Nat) : State :=
  let rest := dropFlow f.id s.fo.work
  let booked := match s.newPlace rest f p with
    | some g => (match s.book rest g with | .ok x => some x | .error _ => none)
    | none => none
  match booked with
  | some (g, t) =>
    let t := t.foUpd fun o => { o with work := insertFlow { g with degraded := false } rest, count := o.count + 1 }
    t.foChange (g.ports.filter fun q => !f.ports.contains q)
  | none => (s.foUpd fun o => { o with work := insertFlow { f with degraded := true } rest }).raise 80 f.id

/-- Remove a flow from the work in hand, with FLOW_EVICT. -/
def State.evict (s : State) (f : Flow) : State :=
  let t := (s.letGo f).unwriteFlow f
  ((t.foUpd fun o => { o with work := dropFlow f.id o.work }).set R.FO_STAT_EVICTED 1).raise 81 f.id

/-- Forester handles the failure of a port: where flows are to be removed or placed again, staged work is discarded and they
are. -/
def State.replacePort (s : State) (p : Nat) : State :=
  let moved := s.fo.failed.contains p
  let s := (s.foUpd fun o => { o with failed := o.failed.filter fun q => q != p }).portUpd p fun x => { x with replaced := true }
  let on := s.fo.committed.filter fun f => f.ports.contains p
  let out := if moved then on.filter fun f => f.red == 0 else []
  let flows := if s.on R.FO_CFG_AUTO_REPL then on.filter fun f => f.red != 0 && !f.pinned else []
  if out.isEmpty && flows.isEmpty then s
  else
    let s := if s.foState = 1 then s.foDiscard.set R.FO_STAT_DISCARDED 1 else s
    let t := s.foUpd fun o => { o with work := o.committed, count := 0, since := s.clk }
    let t := out.foldl (fun s f => s.evict f) t
    let t := flows.foldl (fun s f => s.replaceFlow f p) t
    let t := t.set R.FO_STAT_STATE 3
    let dirty := !t.fwd.changed.isEmpty || !t.fo.changed.isEmpty
    ((t.foUpd fun o => { o with phase := if dirty then 1 else 4 }).commitBanks).settleCfg

/-- REPLACE_DELAY_EXPIRY (R36, R411): it waits for work in hand and for an epoch in progress. -/
def execReplaceDelayExpiry (dt p : Nat) (s : State) : Host.Outcome State Fault Refusal :=
  let s := s.elapse dt
  let p := p % 48
  .next (if s.serves && s.replaceDue p && decide (s.foState < 2) && !s.fwdBusy then s.replacePort p else s)

/-- FLOW_REPLACE (R412): the re-placement is complete. -/
def execFlowReplace (dt : Nat) (s : State) : Host.Outcome State Fault Refusal :=
  let s := s.elapse dt
  .next (if s.foState = 3 ∧ s.fo.phase = 4 then
    let t := (s.foComplete.incSat R.FO_REPL_STAT_REPL_CNT).set R.FO_REPL_STAT_LAST_US (satN 65535 ((s.clk - s.fo.since) / 10 ^ 6))
    (t.raise 79 s.fo.count).settleCfg
  else s)

/-- At start step S11 a kept model is reinstated: its tables, contexts, reservations and banks are written again
and committed (R409). -/
def State.foReinstate (s : State) : State :=
  let l := s.fo.committed
  let t := s.foUpd fun o => { o with committed := [], work := l }
  let t := l.foldl (fun s f => match s.writeFlow f true with
    | some u => u.reserve f.bset f.cells
    | none => s) t
  let ports := (List.range 48).filter t.managed
  let t := (t.foUpd fun o => { o with changed := ports, phase := 1 }).set R.FO_STAT_STATE 2
  (ports.foldl (fun s p => s.foRecommit p) t).foPoll

/-! ### The FLOW command group (R394, R397, R398, R404, R410, R418) -/

/-- FLOW commands of mailboxes run in SERVICE, ISLAND and CALIBRATE. -/
def flowMode (s : State) : Bool := s.mode == 2 || s.mode == 3 || s.mode == 4

/-- A lock covers a block whose fields a placement changes. -/
def State.foLocked (s : State) (k : Res) : Res :=
  [13, 14, 15, 16, 18].foldl (fun r e => unlessLocked s e r) k

/-- The flow of a request's words. -/
def flowOf (c : Ctx) : Flow :=
  { id := c.bits 1 15 0, inport := c.bits 1 21 16, cls := c.bits 1 24 22, red := c.bits 1 26 25, tally := c.bit 1 27
    ktype := c.bits 1 29 28, egress := maskPorts (c.arg 2) (c.bits 3 15 0), period := c.bits 4 19 0
    size := c.bits 5 13 0, lat := c.bits 6 29 0, jit := c.bits 7 19 0, release := c.bits 8 29 0, rjit := c.bits 9 19 0
    key := ((tblClean 1 (((List.range 10).map fun i => c.arg (10 + i)) ++ [c.bits 1 29 28 * 2 ^ 29])).take 10) }

/-- A request's fields are in range (R397, R398). -/
def State.flowOk (s : State) (f : Flow) : Bool :=
  decide (0 < f.id) && decide (f.inport < 48) && (f.cls == 5 || f.cls == 6) && decide (f.red < 3)
  && decide (10 ≤ f.period) && decide (f.period ≤ 10 ^ 6) && 10 ^ 6 % f.period == 0
  && decide (64 ≤ f.size) && decide (f.size ≤ 9216) && decide (1000 ≤ f.lat) && decide (f.lat ≤ 10 ^ 9)
  && decide (10 ≤ f.jit) && decide (f.jit ≤ 10 ^ 6) && decide (f.release < f.period * 1000) && decide (f.rjit ≤ 10 ^ 6)
  && decide (2 * f.rjit < f.period * 1000) && (f.egress.all fun q => decide (2 * f.rjit < s.foCycle q * 8))
  && !f.egress.isEmpty && !f.egress.contains f.inport && (f.red == 0 || decide (2 ≤ f.egress.length))

/-- The first port of a list that fails a test. -/
def portFails (l : List Nat) (reason : Nat) (bad : Nat → Bool) : Option Reject := (l.find? bad).map fun q => { reason := reason, port := q }

/-- Checks of R404 on the egress ports: PERIOD, where it is made, PORT_STATE and FRAME. -/
def State.portChecks (s : State) (f : Flow) (period : Bool) : Option Reject :=
  let per := if period then portFails f.egress 0x01 fun q =>
      (f.period * 125) % s.foCycle q != 0 && s.foCycle q % (f.period * 125) != 0
    else none
  per.orElse fun _ =>
    (portFails f.egress 0x02 fun q => !s.managed q || s.schedTb q != s.schedTb (f.egress.headD 0) || modeRate (s.portMode q) == 0
      || modeRate (s.portMode f.inport) == 0).orElse fun _ =>
    portFails (f.inport :: f.egress) 0x0E fun q => decide (s.get R.PT_CFGp_MAX_FRAME q < f.size)

/-- FLOW_ID or KEY is placed or staged. -/
def State.duplicate (s : State) (f : Flow) : Option Reject :=
  if s.fo.work.any fun g => g.id == f.id || (g.ktype == f.ktype && g.key == f.key) then some { reason := 0x0D } else none

/-- A refused request: PLACEMENT_REJECT with REASON and PORT. -/
def State.refuse (s : State) (r : Reject) : Res :=
  { st := s.set R.FO_STAT_LAST_REASON r.reason, status := .placementReject, words := [r.reason + r.port * 2 ^ 8] }

/-- The response words of a placed flow. -/
def Flow.answer (f : Flow) : List Nat :=
  let pair := match f.red, f.subs with
    | 0, _ => 63 + 63 * 2 ^ 8
    | _, (p, _) :: (q, _) :: _ => p + q * 2 ^ 8
    | _, _ => 63 + 63 * 2 ^ 8
  [63 * 2 ^ 8, f.latWc, f.jitWc, pair + f.bset * 2 ^ 16, f.sctx.getD 0 + b2n f.sctx.isSome * 2 ^ 13, 4 * f.cells]

/-- FLOW.STATUS. -/
def cmdFlowStatus : Cmd where
  op := 0x2401
  any := true
  acts := false
  entry _ := 18
  body _ s := done s [s.word R.FO_STAT, s.word R.FO_TQ_LOAD0, s.word R.FO_TQ_LOAD1, s.word R.FO_DIGEST, s.word R.FO_REPL_STAT]

/-- FLOW_STATUS. -/
def execFlowStatus (r : Req) (s : State) : Host.Outcome State Fault Refusal :=
  .next (s.exchange (some cmdFlowStatus) cmdFlowStatus.op r)

/-- The word of FO_PORTp_CFG is in range: CYCLE divides 1 s and holds the timing window. -/
def foCfgOk (w : Nat) : Bool :=
  let cyc := bits w 11 0
  R.FO_PORTp_CFG.ok w && decide (0 < cyc) && 10 ^ 6 % cyc == 0 && decide (bits w 30 12 < cyc * 125) && decide (bits w 30 12 ≤ 499999)

/-- Flows are placed on a port, or STATE is not IDLE. -/
def State.foPortBusy (s : State) (p : Nat) : Bool :=
  s.foState != 0 || (s.fo.committed ++ s.fo.work).any fun f => f.ports.contains p

/-- FO_PORTp_CFG takes new values: a port that becomes managed, or changes its layout, gets its bank at an aligned
instant that is a boundary of the schedule it runs (R396). -/
def State.foPortCfg (s : State) (p w : Nat) : State :=
  let old := s.foCycle p
  let was := s.managed p
  let t := s.cfgWrites (R.FO_PORTp_CFG.writes w p)
  if t.managed p && !t.schedPending p && t.tbOn (t.schedTb p) then
    let run := was && t.schedRuns p && !t.on R.SC_Pp_STAT_ALIGN_LOST p
    (t.writeLayout t.fo.committed p).schedAccept p (t.alignedAt p (if run then Nat.lcm old (t.foCycle p) else t.foCycle p)) false
  else t

/-- FLOW.PORT_CFG. -/
def cmdFlowPortCfg : Cmd where
  op := 0x2402
  mode := flowMode
  need := 2
  entry _ := 18
  body c s :=
    let p := c.bits 1 5 0
    need (decide (p < 48) && foCfgOk (c.arg 2) && (!bitOf (c.arg 2) 31 || s.tbOn (s.schedTb p))) .badArg s <|
    need (!s.foPortBusy p && !s.schedPending p) .busy s <|
    match (R.FO_PORTp_CFG.writes (c.arg 2) p).find? s.cmdLocked with
    | some _ => { st := s, status := .locked, lockNonSecure := s.entryNonSecure 18 }
    | none => done (s.foPortCfg p (c.arg 2))

/-- FLOW_PORT_CFG. -/
def execFlowPortCfg (r : Req) (s : State) : Host.Outcome State Fault Refusal :=
  .next (s.exchange (some cmdFlowPortCfg) cmdFlowPortCfg.op r)

/-- FLOW.PLACE. -/
def cmdFlowPlace : Cmd where
  op := 0x2403
  mode := flowMode
  need := 19
  entry _ := 18
  body c s :=
    let f := flowOf c
    need (s.flowOk f) .badArg s <| need (decide (s.foState < 2)) .busy s <| need (!s.fwdBusy) .commitPending s <|
    let early := (s.portChecks f true).orElse fun _ =>
      (if f.red = 2 ∧ s.on R.RD_PAIR_STAT_LINK_UP = false then some { reason := 0x0C } else none).orElse fun _ => s.duplicate f
    match early with
    | some r => s.refuse r
    | none => match s.placeFlow s.fo.work f with
      | .error r => s.refuse r
      | .ok g => match s.book s.fo.work g with
        | .error r => s.refuse r
        | .ok (g, t) => s.foLocked <| done (t.stage (insertFlow g t.fo.work) g.ports) g.answer

/-- FLOW_PLACE. -/
def execFlowPlace (r : Req) (s : State) : Host.Outcome State Fault Refusal :=
  .next (s.exchange (some cmdFlowPlace) cmdFlowPlace.op r)

/-- A pin's sub-window overlaps the timing window, the cycle end or another pin. -/
def State.pinConflict (s : State) (f : Flow) (q w : Nat) : Bool :=
  let new := s.copiesAt f q w
  let pins := s.modelCopies (s.fo.work.filter Flow.pinned) q
  new.any fun c => decide (s.foCycle q < c.pos + c.len) || decide (c.pos < s.get R.FO_PORTp_CFG_TIMING_WIN q)
    || pins.any (overlaps c) || new.any fun d => d.k != c.k && overlaps c d

/-- Place again, in ascending FLOW_ID, the flows that a pin moves; one that no longer fits is removed. -/
def State.moveFlows (s : State) (l : List Flow) : State :=
  l.foldl (fun s f =>
    let again := match s.placeFlow s.fo.work f with
      | .ok g => (match s.book s.fo.work g with | .ok x => some x | .error _ => none)
      | .error _ => none
    match again with
    | some (g, t) => ((t.letGo f).foUpd fun o => { o with work := insertFlow g o.work }).foChange (f.ports ++ g.ports).eraseDups
    | none => (s.evict f).foChange f.ports) s

/-- A pinned flow is staged as `t` books it, and the unpinned flows on its ports that no longer fit are placed again
or removed (R410). -/
def State.pinned (s : State) (g : Flow) (t : State) : State :=
  let out := s.fo.work.filter fun x => !x.pinned && x.ports.any g.ports.contains && !t.stillFits (s.fo.work ++ [g]) x
  let keep := s.fo.work.filter fun x => !out.any fun y => y.id == x.id
  (t.stage (insertFlow g keep) g.ports).moveFlows out

/-- FLOW.PIN. -/
def cmdFlowPin : Cmd where
  op := 0x2404
  mode := flowMode
  need := 20
  entry _ := 18
  body c s :=
    let f := { flowOf c with pinned := true }
    let ws := [c.bits 20 26 0, c.bits 21 26 0]
    let n := if f.red = 0 then 1 else 2
    need (s.flowOk f && f.egress.length == n && decide (19 + n ≤ c.args.length)) .badArg s <|
    need (decide (s.foState < 2)) .busy s <| need (!s.fwdBusy) .commitPending s <|
    let at_ := f.egress.zip ws
    let conflict := (at_.find? fun e => s.pinConflict f e.1 e.2).map fun e => ({ reason := 0x0F, port := e.1 } : Reject)
    let early := (s.portChecks f false).orElse fun _ => (s.duplicate f).orElse fun _ => conflict
    match early with
    | some r => s.refuse r
    | none =>
      let g := { f with subs := at_.map fun e => (e.1, e.2, s.subLen f e.1) }
      match portFails g.ports 0x08 fun q => !s.entriesFit (s.fo.work ++ [g]) q with
      | some r => s.refuse r
      | none => match s.book s.fo.work g with
        | .error r => s.refuse r
        | .ok (g, t) =>
          let u := s.pinned g t
          let (lat, jit) := u.worst u.fo.work g
          s.foLocked <| done u { g with latWc := lat, jitWc := jit }.answer

/-- FLOW_PIN. -/
def execFlowPin (r : Req) (s : State) : Host.Outcome State Fault Refusal :=
  .next (s.exchange (some cmdFlowPin) cmdFlowPin.op r)

/-- FLOW.REMOVE. -/
def cmdFlowRemove : Cmd where
  op := 0x2405
  mode := flowMode
  need := 1
  entry _ := 18
  body c s :=
    match s.fo.work.find? fun f => f.id == c.bits 1 15 0 with
    | none => fail s .badArg
    | some f =>
      need (decide (s.foState < 2)) .busy s <| need (!s.fwdBusy) .commitPending s <|
      s.foLocked <| done (((s.letGo f).unwriteFlow f).stage (dropFlow f.id s.fo.work) f.ports)

/-- FLOW_REMOVE. -/
def execFlowRemove (r : Req) (s : State) : Host.Outcome State Fault Refusal :=
  .next (s.exchange (some cmdFlowRemove) cmdFlowRemove.op r)

/-- FLOW.COMMIT: answered at the activation of the tables. -/
def cmdFlowCommit : Cmd where
  op := 0x2406
  mode := flowMode
  entry _ := 18
  body c s :=
    need (decide (s.foState < 2)) .busy s <|
    need (!s.fwdBusy && s.fo.changed.all fun p => !s.schedPending p) .commitPending s <|
    s.foLocked <|
    { st := ((s.foUpd fun o => { o with phase := 1, mb := c.mb, waits := true }).set R.FO_STAT_STATE 2).commitBanks, wait := true }

/-- FLOW_COMMIT. -/
def execFlowCommit (r : Req) (s : State) : Host.Outcome State Fault Refusal :=
  .next (s.exchange (some cmdFlowCommit) cmdFlowCommit.op r)

/-- FLOW.DISCARD. -/
def cmdFlowDiscard : Cmd where
  op := 0x2407
  mode := flowMode
  entry _ := 18
  body _ s := need (decide (s.foState < 2) && !s.fwdBusy) .busy s <| done s.foDiscard

/-- FLOW_DISCARD. -/
def execFlowDiscard (r : Req) (s : State) : Host.Outcome State Fault Refusal :=
  .next (s.exchange (some cmdFlowDiscard) cmdFlowDiscard.op r)

/-- The words of FLOW.QUERY: a flow's sub-window, run, bounds, departure interval and flags on port q, from its first copy
`x` of the copies `l` there (R418). -/
def State.queryWords (s : State) (f : Flow) (x : CopyW) (l : List CopyW) (q : Nat) : List Nat :=
  let (lam, j) := s.bounds s.fo.work f q
  let off : Int := (64 + dTx (s.portMode q)) * uNs
  let own := l.filter fun y => y.flow.id == f.id
  let early := own.foldl (fun a y => min a (y.first l)) (x.first l)
  let late := own.foldl (fun a y => max a (y.last l)) (x.last l)
  [x.w * 8, x.len * 8, x.b l * 8, x.e l * 8, ceilNs lam, ceilNs j, ((early + off) / uNs).toNat, ceilNs (late + off),
    b2n f.pinned + 2 * b2n f.degraded + 4 * b2n (!s.fo.committed.contains f)]

/-- FLOW.QUERY. -/
def cmdFlowQuery : Cmd where
  op := 0x2408
  any := true
  acts := false
  need := 1
  entry _ := 18
  body c s :=
    let q := c.bits 1 21 16
    match s.fo.work.find? fun f => f.id == c.bits 1 15 0 with
    | none => fail s .badArg
    | some f =>
      let l := s.modelCopies s.fo.work q
      match l.find? fun x => x.flow.id == f.id with
      | none => fail s .badArg
      | some x =>
        done s (s.queryWords f x l q)

/-- FLOW_QUERY. -/
def execFlowQuery (r : Req) (s : State) : Host.Outcome State Fault Refusal :=
  .next (s.exchange (some cmdFlowQuery) cmdFlowQuery.op r)

/-- FLOW.CFG. -/
def cmdFlowCfg : Cmd where
  op := 0x2409
  mode := flowMode
  need := 1
  entry _ := 18
  body c s :=
    need (R.FO_CFG.ok (c.arg 1)) .badArg s <| need (s.foState != 3) .busy s <| writeCfg s (R.FO_CFG.writes (c.arg 1)) done

/-- FLOW_CFG. -/
def execFlowCfg (r : Req) (s : State) : Host.Outcome State Fault Refusal :=
  .next (s.exchange (some cmdFlowCfg) cmdFlowCfg.op r)

end Sys2Proof.Machine
end

