-- ==== Sys2Proof/Machine/Images.lean ====
section
/-! DEFINITION. Firmware and configuration images, their checks, and the NVM and SYS command groups but for
SYS.CFG_LOAD (R476 to R486, R623). -/

namespace Sys2Proof.Machine

/-! ### Headers and their checks (R480, R481, R486) -/

/-- The header of an image. -/
structure ImgHdr where
  magic : Nat
  hdrVer : Nat
  kind : Nat
  secVer : Nat
  version : Nat
  length : Nat
  check : Nat
  hash : Nat
  sr : Nat
  ss : Nat
  key : Nat
  deriving DecidableEq, Repr

/-- The address of a slot: firmware (KIND 1) or configuration (R623). -/
def slotAddr (kind slot : Nat) : Nat := if kind = 1 then 0x400000 * slot else 0x800000 + 0x100000 * slot

/-- The size of a slot. -/
def slotSize (kind : Nat) : Nat := if kind = 1 then 0x400000 else 0x100000

/-- A little-endian field of a slot's header. -/
def State.hdrField (s : State) (a k n : Nat) : Nat := leNat (s.flashBytes (a + k) n)

/-- The header of a slot. -/
def State.header (s : State) (kind slot : Nat) : ImgHdr :=
  let a := slotAddr kind slot
  { magic := s.hdrField a 0 4, hdrVer := s.hdrField a 4 1, kind := s.hdrField a 5 1, secVer := s.hdrField a 6 2
    version := s.hdrField a 8 4, length := s.hdrField a 0x0C 4, check := s.hdrField a 0x10 4
    hash := beNat (s.flashBytes (a + 0x24) 32), sr := beNat (s.flashBytes (a + 0x44) 32)
    ss := beNat (s.flashBytes (a + 0x64) 32), key := s.hdrField a 0x84 1 }

/-- The payload of a slot's image. -/
def State.payload (s : State) (kind slot : Nat) : List Byte :=
  s.flashBytes (slotAddr kind slot + 256) (s.header kind slot).length

/-- The largest LENGTH of a kind (R480, R623). -/
def lengthMax (kind : Nat) : Nat := if kind = 1 then 3 * 2 ^ 20 else 1048320

/-- A verifying key is accepted: the root-key record holds its hash and does not revoke it (R481). -/
def State.keyAccepted (s : State) (k : Nat) : Bool :=
  decide (k < 4) && (match s.nvRec 0x03 k with
    | some e => beNat ((List.range 8).flatMap fun i => leBytes 4 (e.2.getD (4 + i) 0)) == Config.romKey k % 2 ^ 256
        && !bitOf (e.2.getD 12 0) 0
    | none => false)

/-- MIN_SEC_VER (R485). -/
def State.minSec (s : State) : Nat := match s.nvRec 0x04 0 with
  | some e => e.2.getD 4 0 % 65536
  | none => 0

/-- HASH of a slot's image matches. -/
def State.hashOk (s : State) (kind slot : Nat) : Bool :=
  (s.header kind slot).hash == Config.sha256 (s.flashBytes (slotAddr kind slot) 0x24 ++ s.payload kind slot) % 2 ^ 256

/-- SIG verifies under an accepted key. -/
def State.sigOk (s : State) (kind slot : Nat) : Bool :=
  let h := s.header kind slot
  s.keyAccepted h.key && Config.ecdsaVerify h.key h.hash (h.sr * 2 ^ 256 + h.ss)

/-- CHECK matches the payload. -/
def State.checkOk (s : State) (kind slot : Nat) : Bool := (s.header kind slot).check == crc32c (s.payload kind slot)

/-- An image is checked by its signature: firmware always, a configuration while CFG_SIGNED (R486). -/
def State.signedKind (s : State) (kind : Nat) : Bool := kind == 1 || s.bootCfg.signed

/-- A slot holds no image: no MAGIC, another KIND, or a LENGTH beyond the kind's limit. -/
def State.noImage (s : State) (kind slot : Nat) : Bool :=
  let h := s.header kind slot
  h.magic != 0x4B5A494D || h.kind != kind || (s.signedKind kind && h.hdrVer != 1) || decide (lengthMax kind < h.length)

/-- The result of NVM.VERIFY: 0 valid, 1 no image, 2 hash, 3 signature, 4 SEC_VER, 5 check word. -/
def State.verifyImage (s : State) (kind slot : Nat) : Nat :=
  if s.noImage kind slot then 1
  else if s.signedKind kind && !s.hashOk kind slot then 2
  else if s.signedKind kind && !s.sigOk kind slot then 3
  else if decide ((s.header kind slot).secVer < s.minSec) then 4
  else if !s.checkOk kind slot then 5
  else 0

/-- The sections of a slot's firmware, within their limits (R481, R482). -/
def State.sectionsOf (s : State) (slot : Nat) : Option ((Nat × Nat) × (Nat × Nat)) :=
  match Config.sections (s.payload 1 slot) with
  | some x => if x.1.2 ≤ 2 ^ 21 ∧ x.2.2 ≤ 2 ^ 21 then some x else none
  | none => none

/-- A firmware slot is accepted. -/
def State.fwAccepted (s : State) (slot : Nat) : Bool := s.verifyImage 1 slot == 0 && (s.sectionsOf slot).isSome

/-- A configuration slot is accepted: a signed one needs no check word (R486). -/
def State.cfgAccepted (s : State) (slot : Nat) : Bool :=
  s.verifyImage 2 slot == 0 || (s.verifyImage 2 slot == 5 && s.bootCfg.signed)

/-- The CSRAM check over the sections as loaded (R482, R483). -/
def State.csramCrc (s : State) (l : Nat × Nat) : Nat := crc32c (s.csramBytes 0 l.1 ++ s.csramBytes 0x400000 l.2)

/-- The facts of a loaded image: SEC_VER, KEY_IDX, slot and VERSION. -/
def State.runsSlot (s : State) (slot : Nat) : State :=
  let h := s.header 1 slot
  let t := s.writes [{ f := R.BOOT_STAT_SEC_VER, v := h.secVer }, { f := R.BOOT_STAT_KEY_IDX, v := h.key },
    { f := R.BOOT_STAT_SLOT, v := slot }]
  { t with ctl := { t.ctl with fwVersion := some h.version } }

/-- Copy a slot's sections into CSRAM and record HASH and the check in Understory (R482). -/
def State.loadFw (s : State) (slot : Nat) : State :=
  match s.sectionsOf slot with
  | none => s
  | some ((o1, n1), (o2, n2)) =>
    let p := s.payload 1 slot
    let m := s.csram.filter fun c => !(decide (c.1 < 0x200000) || (decide (0x400000 ≤ c.1) && decide (c.1 < 0x600000)))
    let m := Memory.writeBytes csramBlank m 0 ((p.drop o1).take n1)
    let m := Memory.writeBytes csramBlank m 0x400000 ((p.drop o2).take n2)
    let t := { s with csram := m }
    ({ t with us := { t.us with boot := some ((s.header 1 slot).hash, t.csramCrc (n1, n2)), bootLen := (n1, n2) } }).runsSlot slot

/-! ### Configuration images (R477, R571) -/

/-- The entries of a configuration image: each a length in words and so many request words; none where the
list is cut short or an entry is empty. -/
def entriesOf : Nat → List Nat → Option (List (List Nat))
  | _, [] => some []
  | 0, _ => none
  | f + 1, n :: l =>
    if n = 0 ∨ l.length < n then none
    else (entriesOf f (l.drop n)).map fun r => l.take n :: r

/-- The entries of a slot's image. -/
def State.entries (s : State) (slot : Nat) : Option (List (List Nat)) :=
  let w := leWords (((s.header 2 slot).length + 3) / 4) (s.payload 2 slot)
  entriesOf w.length w

/-- The start step that runs an entry (R571); 0 for an entry that no step runs. -/
def entryStep (op : Nat) : Nat :=
  match op / 256 with
  | 0x01 => if op = 0x0106 then 0 else 4
  | 0x03 => if op = 0x0302 then 11 else 0
  | 0x10 => 8
  | 0x11 => 8
  | 0x12 => 5
  | 0x13 => 10
  | 0x14 => 10
  | 0x20 => 6
  | 0x21 => 6
  | 0x22 => 11
  | 0x23 => 11
  | 0x24 => 11
  | 0x25 => 11
  | 0x30 => if op = 0x3005 ∨ op = 0x3006 then 12 else 4
  | 0x31 => 11
  | 0x32 => 9
  | _ => 0

/-- The opcode of a request. -/
def opOf (e : List Nat) : Nat := e.headD 0 % 65536

/-! ### The SYS group (R476) -/

/-- SYS.INFO. -/
def cmdSysInfo : Cmd where
  op := 0x0101
  any := true
  acts := false
  entry _ := 39
  body _ s := done s [s.word R.DEV_ID, s.word R.DEV_REV, s.word R.NODE_ID, s.ctl.fwVersion.getD 0, s.word R.BOOT_STAT,
    s.word R.MB_STATUS, (s.ctl.cfgImage.map Prod.fst).getD 0, (s.ctl.cfgImage.map Prod.snd).getD 0]

/-- SYS_INFO. -/
def execSysInfo (r : Req) (s : State) : Host.Outcome State Fault Refusal :=
  .next (s.exchange (some cmdSysInfo) cmdSysInfo.op r)

/-- SYS.NODE_ID writes NODE_ID and its record together. -/
def cmdSysNodeId : Cmd where
  op := 0x0102
  mode := fun s => s.beforeStep 7 || s.mode == 5
  need := 1
  entry _ := 37
  body c s :=
    let n := c.bits 1 19 0
    unlessLocked s 37 <|
    let t := s.writes [{ f := R.NODE_ID_NODE_ID, v := n }, { f := R.NODE_ID_UNSET, v := 0 }]
    match t.nvPut 0x02 0 none [n] with
    | some (_, u) => done u
    | none => fail s .hwFault

/-- SYS_NODE_ID. -/
def execSysNodeId (r : Req) (s : State) : Host.Outcome State Fault Refusal :=
  .next (s.exchange (some cmdSysNodeId) cmdSysNodeId.op r)

/-- Restart count and last cause of a core. -/
def State.rstWord (s : State) (core : Nat) : Nat :=
  Tab.get 0 s.ctl.rstCnt core % 65536 + Tab.get 0 s.ctl.rstCause core * 65536

/-- SYS.CORE_STATUS. -/
def cmdSysCoreStatus : Cmd where
  op := 0x0103
  any := true
  acts := false
  entry _ := 39
  body _ s := done s [s.word R.MB_STATUS, s.rstWord 0, s.rstWord 2, s.rstWord 3, s.word R.CSRAM_CORR,
    match s.ctl.dbeRegion with | some r => r % 32 + 2 ^ 31 | none => 0]

/-- SYS_CORE_STATUS. -/
def execSysCoreStatus (r : Req) (s : State) : Host.Outcome State Fault Refusal :=
  .next (s.exchange (some cmdSysCoreStatus) cmdSysCoreStatus.op r)

/-- SYS.WDT_CFG (R461). -/
def cmdSysWdtCfg : Cmd where
  op := 0x0104
  need := 2
  entry _ := 39
  body c s :=
    let k := c.bits 1 1 0
    let v := c.bits 2 13 0
    need (k != 1 && R.MB_WDTc_CFG_TIMEOUT.inRange v) .badArg s <|
    writeCfg s [{ f := R.MB_WDTc_CFG_TIMEOUT, i := k, v := v }] done

/-- SYS_WDT_CFG. -/
def execSysWdtCfg (r : Req) (s : State) : Host.Outcome State Fault Refusal :=
  .next (s.exchange (some cmdSysWdtCfg) cmdSysWdtCfg.op r)

/-- Show PREF and CFG_SIGNED. -/
def State.bootSync (s : State) : State :=
  (s.set R.BOOT_STAT_PREF s.bootCfg.pref).setB R.BOOT_STAT_CFG_SIGNED s.bootCfg.signed

/-- SYS.BOOT_CFG (R484 to R486). -/
def cmdSysBootCfg : Cmd where
  op := 0x0105
  need := 2
  entry _ := 39
  body c s :=
    let v := c.bits 2 15 0
    need (decide (s.minSec ≤ v) && (v == s.minSec || decide (v ≤ s.get R.BOOT_STAT_SEC_VER))) .checkFail s <|
    need (!(s.bootCfg.signed && !c.bit 1 4 && s.mode != 5)) .checkFail s <|
    unlessLocked s 39 <|
    let trial := c.bit 1 1 && !c.bit 1 2
    let b : BootCfg := { pref := c.bits 1 0 0, trial := trial, tried := s.bootCfg.tried && !c.bit 1 1 && !c.bit 1 2
                         cfgPref := c.bits 1 3 3, signed := c.bit 1 4 }
    let t := ({ s with bootCfg := b }).bootSync
    if v = s.minSec then done t
    else match t.nvPut 0x04 0 none [v] with
      | some (_, u) => done u
      | none => fail s .hwFault

/-- SYS_BOOT_CFG. -/
def execSysBootCfg (r : Req) (s : State) : Host.Outcome State Fault Refusal :=
  .next (s.exchange (some cmdSysBootCfg) cmdSysBootCfg.op r)

/-- SYS.ECHO. -/
def cmdSysEcho : Cmd where
  op := 0x0107
  any := true
  need := 1
  acts := false
  entry _ := 39
  body c s := done s c.args

/-- SYS_ECHO. -/
def execSysEcho (r : Req) (s : State) : Host.Outcome State Fault Refusal :=
  .next (s.exchange (some cmdSysEcho) cmdSysEcho.op r)

/-! ### The NVM group (R478, R479) -/

/-- The slot of the running firmware, where it was loaded from one. -/
def State.runSlot (s : State) : Option Nat := if s.ctl.fwVersion.isSome then some (s.get R.BOOT_STAT_SLOT) else none

/-- A range touches a slot that R479 protects. -/
def State.nvmProtected (s : State) (a n : Nat) : Bool :=
  let hits (b m : Nat) : Bool := decide (a < b + m) && decide (b < a + n)
  (match s.runSlot with | some k => hits (slotAddr 1 k) (slotSize 1) | none => false)
  || (s.mode == 1 && hits (slotAddr 2 s.bootCfg.cfgPref) (slotSize 2))

/-- NVM.STATUS. Operations end with their command, so none is in progress at another. -/
def cmdNvmStatus : Cmd where
  op := 0x0201
  any := true
  acts := false
  entry _ := 43
  body _ s := done s [2 * b2n s.ctl.nvmFailed + 4 * s.get R.BOOT_STAT_SLOT + 16 * s.ctl.cfgSlot,
    16384 + Config.flashExtra, Config.jedec % 2 ^ 24]

/-- NVM_STATUS. -/
def execNvmStatus (r : Req) (s : State) : Host.Outcome State Fault Refusal :=
  .next (s.exchange (some cmdNvmStatus) cmdNvmStatus.op r)

/-- NVM.READ. -/
def cmdNvmRead : Cmd where
  op := 0x0202
  need := 2
  entry _ := 43
  body c s :=
    let n := c.bits 2 7 0
    need (decide (1 ≤ n) && decide (n ≤ 240) && inFlash (c.arg 1) n) .badArg s <|
    done s (leWords 60 (s.flashBytes (c.arg 1) n))

/-- NVM_READ. -/
def execNvmRead (r : Req) (s : State) : Host.Outcome State Fault Refusal :=
  .next (s.exchange (some cmdNvmRead) cmdNvmRead.op r)

/-- NVM.ERASE. -/
def cmdNvmErase : Cmd where
  op := 0x0203
  need := 2
  entry _ := 43
  body c s :=
    let n := if c.bit 2 0 then 65536 else 4096
    need (c.arg 1 % n == 0 && inFlash (c.arg 1) n) .badArg s <|
    need (!s.nvmProtected (c.arg 1) n) .checkFail s <|
    done { s with flash := Memory.erase s.flash (c.arg 1) n, ctl := { s.ctl with nvmFailed := false } }

/-- NVM_ERASE. -/
def execNvmErase (r : Req) (s : State) : Host.Outcome State Fault Refusal :=
  .next (s.exchange (some cmdNvmErase) cmdNvmErase.op r)

/-- NVM.WRITE: programming a NOR flash clears bits alone, so a byte that was not erased may read back
otherwise than written. -/
def cmdNvmWrite : Cmd where
  op := 0x0204
  need := 3
  entry _ := 43
  body c s :=
    let n := c.bits 2 7 0
    let a := c.arg 1
    need (decide (1 ≤ n) && decide (n ≤ 240) && decide (a % 256 + n ≤ 256) && inFlash a n
      && decide (2 + (n + 3) / 4 ≤ c.args.length)) .badArg s <|
    need (!s.nvmProtected a n) .checkFail s <|
    let data := ((c.args.drop 2).flatMap fun w => leBytes 4 w).take n
    let new := List.zipWith (fun (x y : Byte) => x &&& y) (s.flashBytes a n) data
    let t := { s with flash := Memory.writeBytes flashBlank s.flash a new }
    if new = data then done { t with ctl := { t.ctl with nvmFailed := false } }
    else { st := { t with ctl := { t.ctl with nvmFailed := true } }, status := .hwFault }

/-- NVM_WRITE. -/
def execNvmWrite (r : Req) (s : State) : Host.Outcome State Fault Refusal :=
  .next (s.exchange (some cmdNvmWrite) cmdNvmWrite.op r)

/-- NVM.VERIFY. -/
def cmdNvmVerify : Cmd where
  op := 0x0205
  need := 1
  entry _ := 43
  body c s :=
    let kind := c.bits 1 0 0 + 1
    let slot := c.bits 1 4 4
    done s (s.verifyImage kind slot :: leWords 8 (s.flashBytes (slotAddr kind slot + 4) 32))

/-- NVM_VERIFY. -/
def execNvmVerify (r : Req) (s : State) : Host.Outcome State Fault Refusal :=
  .next (s.exchange (some cmdNvmVerify) cmdNvmVerify.op r)

end Sys2Proof.Machine
end

