-- ==== Sys2Proof/Machine/Control.lean ====
section
/-! DEFINITION. The control complex: mailboxes at their registers, core restarts, watchdogs, the control
SRAM's errors and the semaphores (R459 to R472, R487 to R491, R608). -/

namespace Sys2Proof.Machine

/-! ### Mailboxes at their registers (R469) -/

/-- A doorbell on a mailbox whose access is allowed. -/
def State.doorbell (s : State) (init mb : Nat) : State :=
  if s.mbBusy mb then s.set R.MB_n_STATE_DOOR_LOST 1 mb else s.ring init mb

/-- DOORBELL_RING (R469). -/
def execDoorbellRing (init mb : Nat) (s : State) : Host.Outcome State Fault Refusal :=
  .next (if 16 ≤ mb then s.quiet.refuseAccess 4 .bar 63 init false 1 (0x1000 * mb + 0x200)
    else s.directWrite init (0x1000 * mb + 0x200) [] fun s => s.doorbell init mb)

/-- A write of a request word: stored, or ignored with REQ_WR_LOST. -/
def State.reqWrite (s : State) (mb k v : Nat) : State :=
  if s.mbBusy mb then s.set R.MB_n_STATE_REQ_WR_LOST 1 mb else s.set R.MB_n_REQ_W v mb k

/-- REQUEST_WRITE (R469). -/
def execRequestWrite (init mb k v : Nat) (s : State) : Host.Outcome State Fault Refusal :=
  let k := k % 64
  .next (if 16 ≤ mb then s.quiet.refuseAccess 4 .bar 63 init false 1 (0x1000 * mb + 4 * k)
    else s.directWrite init (0x1000 * mb + 4 * k) [] fun s => s.reqWrite mb k v)

/-- A response word as a read returns it: 0 while EMPTY. -/
def State.rspWord (s : State) (mb k : Nat) : Nat := if s.get R.MB_n_STATE_STATE mb = 0 then 0 else s.get R.MB_n_RSP_W mb k

/-- The read of word LEN consumes a response. -/
def State.rspRead (s : State) (mb k : Nat) : State :=
  if s.get R.MB_n_STATE_STATE mb = 2 ∧ s.get R.MB_n_STATE_LEN mb = k then s.set R.MB_n_STATE_STATE 3 mb else s

/-- RESPONSE_READ (R469). -/
def execResponseRead (init mb k : Nat) (s : State) : Host.Outcome State Fault Refusal :=
  let k := k % 64
  let s := s.quiet
  let addr := 0x1000 * mb + 0x100 + 4 * k
  .next (if 16 ≤ mb then s.refuseAccess 4 .bar 63 init false 0 addr
    else match s.checkAccess init addr false with
      | some v => s.violate v init addr 0
      | none => (s.rspRead mb k).emit (.readData init [s.rspWord mb k]))

/-! ### Core restarts (R462) -/

/-- A mailbox whose command has been answered leaves no one to answer later: every event that would have
completed it forgets it. -/
def State.forgetMb (s : State) (mb : Nat) : State :=
  let drop (m : Option Nat) : Option Nat := if m = some mb then none else m
  let t := { s with ci := { s.ci with commitMb := drop s.ci.commitMb } }
  let t := { t with fwd := { t.fwd with commitMb := drop t.fwd.commitMb, commitWaits := t.fwd.commitWaits && t.fwd.commitMb != some mb } }
  let t := { t with fo := { t.fo with mb := drop t.fo.mb, waits := t.fo.waits && t.fo.mb != some mb } }
  let t := { t with agent := { t.agent with askedMb := drop t.agent.askedMb } }
  let sub (b : Subst) : Subst := { b with mb := drop b.mb, waits := b.waits && b.mb != some mb }
  let pr (b : Pair) : Pair := { b with awaitMb := drop b.awaitMb }
  { t with subst := t.subst.map fun e => (e.1, sub e.2), pair := t.pair.map fun e => (e.1, pr e.2)
           ctl := { t.ctl with load := if (t.ctl.load.map Prod.fst) = some mb then none else t.ctl.load } }

/-- FW_READY_N follows both ready bits (R496). -/
def State.readySync (s : State) : State :=
  s.setB R.MB_STATUS_FW_READY_N (s.on R.MB_STATUS_C2_READY && s.on R.MB_STATUS_C3_READY)

/-- Set the ready bit of a core. -/
def State.setReady (s : State) (core : Nat) (b : Bool) : State :=
  (if core = 0 then s.setB R.MB_STATUS_FW_READY b else if core = 2 then s.setB R.MB_STATUS_C2_READY b
   else s.setB R.MB_STATUS_C3_READY b).readySync

/-- Restart a core: its semaphores break, its ready bit falls, the command it holds is answered HW_FAULT, and
CORE_RESTART names the cause (R462): 1 WATCHDOG, 2 LOCKSTEP, 3 CSRAM. -/
def State.restartCore (s : State) (core cause : Nat) : State :=
  let t := (s.ownerFault core).setReady core false
  let t := match t.takenBy core with
    | some x => (t.forgetMb x.mb).respond x.mb .hwFault []
    | none => t
  let t := if core = 0 then t.incSat R.MB_STATUS_RST_CNT_S else t.incSat R.MB_STATUS_RST_CNT_N
  let c := t.ctl
  let t := { t with ctl := { c with
    rstCnt := Tab.put c.rstCnt core (min 65535 (Tab.get 0 c.rstCnt core + 1)), rstCause := Tab.put c.rstCause core cause
    restart := Tab.put c.restart core t.clk, kicked := Tab.del c.kicked core
    reload := if cause = 3 then core :: c.reload else c.reload } }
  (t.raise 90 (det2 core cause)).tell ("restart of C" ++ if core = 0 then "0" else if core = 2 then "2" else "3")

/-- A core is out of reset and not restarting: its watchdog runs. -/
def State.coreRuns (s : State) (core : Nat) : Bool := (Tab.find? s.ctl.kicked core).isSome

/-- LOCKSTEP_MISMATCH (R459). -/
def execLockstepMismatch (dt : Nat) (s : State) : Host.Outcome State Fault Refusal :=
  let s := s.elapse dt
  .next (if s.coreRuns 0 then ((s.incSat R.MB_STATUS_LOCKSTEP_CNT).raise 89).restartCore 0 2 else s)

/-- CSRAM_DBE (R460): a data access gets a bus error, a fetch restarts the core. -/
def execCsramDbe (dt core region : Nat) (fetch : Bool) (s : State) : Host.Outcome State Fault Refusal :=
  let s := s.elapse dt
  let region := region % 32
  .next (if s.coreRuns core then
      let t := ({ s with ctl := { s.ctl with dbeRegion := some region } }).raise 91 region
      if fetch then t.restartCore core 3 else t.emit (.errResp core (0x40000 * region))
    else s)

/-- WATCHDOG_EXPIRY (R461): no sooner than three quarters of the timeout after the last kick. -/
def execWatchdogExpiry (dt core : Nat) (s : State) : Host.Outcome State Fault Refusal :=
  let s := s.elapse dt
  .next (match Tab.find? s.ctl.kicked core with
    | some t => if 4 * t + 3 * s.get R.MB_WDTc_CFG_TIMEOUT core * 10 ^ 9 ≤ 4 * s.clk then s.restartCore core 1 else s
    | none => s)

/-- A kick restarts a watchdog's count while its core runs. -/
def State.kick (s : State) (core : Nat) : State :=
  if s.coreRuns core then { s with ctl := { s.ctl with kicked := Tab.put s.ctl.kicked core s.clk } } else s

/-- WDT_KICK (R461, R497). -/
def execWdtKick (init core : Nat) (s : State) : Host.Outcome State Fault Refusal :=
  let k := core % 4
  .next (s.directWrite init (0x660000 + 4 * k) [] fun s => s.kick k)

/-- A core leaves reset: its watchdog runs, its ready bit rises, and it serves the requests it finds held in ascending
order first (R461, R471, R472). -/
def State.coreUp (s : State) (core : Nat) : State :=
  let c := s.ctl
  let c := { c with kicked := Tab.put c.kicked core s.clk, restart := Tab.del c.restart core
                    reload := c.reload.filter fun k => k != core }
  let c := { c with held := (c.held.filter fun m => coreOf m != core)
    ++ (List.range 16).filter fun m => coreOf m == core && s.mbWaiting m }
  let c := if core = 0 then { c with lastS := 7 } else if core = 2 then { c with last2 := 11 } else { c with last3 := 15 }
  let t := ({ s with ctl := c }).setReady core true
  (List.range 16).foldl (fun s m => if coreOf m = core then s.set R.MB_n_STATE_PEND_NR 0 m else s) t

/-- The image of a restarting core is loaded again: its restart asks for it, or the image in CSRAM fails its check (R462). -/
def State.imageSpoilt (s : State) (core : Nat) : Bool :=
  s.ctl.reload.contains core || (match s.us.boot with
    | some b => s.csramCrc s.us.bootLen != b.2
    | none => true)

/-- CORE_RESTART_END (R462): an image that fails its check is loaded again, which needs an accepted slot. -/
def execCoreRestartEnd (dt core : Nat) (s : State) : Host.Outcome State Fault Refusal :=
  let s := s.elapse dt
  .next (if (Tab.find? s.ctl.restart core).isNone then s
    else match s.runSlot with
      | none => s.coreUp core
      | some slot =>
        if s.imageSpoilt core then
          if s.fwAccepted slot then (s.loadFw slot).coreUp core else s
        else s.coreUp core)

/-- The address of a semaphore. -/
def semAddr (n : Nat) : Nat := 0x500000 + 4 * n

/-- A semaphore access that R487 or R488 refuses. -/
def State.semRefuse (s : State) (init n : Nat) : State := s.refuseAccess 2 .bar 63 init true 1 (semAddr n)

/-- SEM00 to SEM31 are open to the secure agents alone; the debug port has no path. -/
def semOpen (init n : Nat) : Bool := decide (32 ≤ n) || init == 0 || init == 4 || init == 6

/-- A semaphore at an access: what stands from the cycle of the access before it where both are of one cycle (R491). -/
def State.semNow (s : State) (same : Bool) (n : Nat) : Sem :=
  let m := s.semOf n
  if same && m.seen / 800 == s.clk / 800 then m else { m with seen := s.clk, tried := [], fresh := false }

/-- A semaphore taken by an agent with a lease in ms. -/
def State.semTake (s : State) (m : Sem) (init n lease : Nat) : State :=
  { s with sem := Tab.put s.sem n { m with
      held := true, owner := init, fresh := true, lease := if lease = 0 then none else some (s.clk + lease * 10 ^ 9) } }

/-- An acquire by an agent that may use the semaphore. Of those of one cycle the lowest owner ID wins, so it takes over
a hold that began on its cycle (R491). -/
def State.semAcquire (s : State) (m : Sem) (init n lease : Nat) : State :=
  if !m.held || (m.fresh && decide (init < m.owner)) then s.semTake m init n lease
  else { s with sem := Tab.put s.sem n { m with tried := (init, lease) :: m.tried } }

/-- The acquire of the lowest owner ID among those that have found a semaphore held. -/
def firstTried (l : List (Nat × Nat)) : Option (Nat × Nat) :=
  l.foldl (fun b x => match b with | some y => if y.1 < x.1 then b else some x | none => some x) none

/-- A release by its owner; it comes before the acquires of its cycle (R491). -/
def State.semRelease (s : State) (m : Sem) (init n : Nat) : State :=
  if m.held && m.owner == init then
    let free : Sem := { m with held := false, broken := false, lease := none, tried := [], fresh := false }
    match firstTried m.tried with
    | some (a, lease) => s.semTake free a n lease
    | none => { s with sem := Tab.put s.sem n free }
  else s.semRefuse init n

/-- The write of a semaphore's CMD by an agent, 1 acquires and 2 releases; `same` tells that it reaches the semaphore on
the cycle of the access before it (R491). -/
def State.semWrite (s : State) (same : Bool) (init n cmd lease : Nat) : State :=
  if init == 8 then s.refuseAccess 4 .bar 63 init false 1 (semAddr n)
  else if cmd != 1 && cmd != 2 then s
  else if !semOpen init n then s.semRefuse init n
  else if cmd = 2 then s.semRelease (s.semNow same n) init n
  else if 1000 < lease then s
  else s.semAcquire (s.semNow same n) init n lease

/-- SEM_ACQUIRE (R488, R491): bits 5 to 0 of `n` name the semaphore, bit 6 tells that the access reaches it on the
cycle of the access before it. -/
def execSemAcquire (init n lease : Nat) (s : State) : Host.Outcome State Fault Refusal :=
  .next (s.quiet.semWrite (bitOf n 6) init (n % 64) 1 (lease % 1024))

/-- SEM_RELEASE (R488, R491), with `n` as in SEM_ACQUIRE. -/
def execSemRelease (init n : Nat) (s : State) : Host.Outcome State Fault Refusal :=
  .next (s.quiet.semWrite (bitOf n 6) init (n % 64) 2 0)

/-- SEM_LEASE_EXPIRY (R490). -/
def execSemLeaseExpiry (dt n : Nat) (s : State) : Host.Outcome State Fault Refusal :=
  let s := s.elapse dt
  let n := n % 64
  .next (match (s.semOf n).lease with
    | some t => if (s.semOf n).held && decide (t ≤ s.clk) then s.breakSem n else s
    | none => s)

/-- A semaphore's register as an agent reads it (R499). -/
def State.semWord (s : State) (init n : Nat) : Nat :=
  let m := s.semOf n
  let left := match m.lease with | some t => if m.held then (t - s.clk + 10 ^ 9 - 1) / 10 ^ 9 else 0 | none => 0
  b2n m.held * 2 ^ 31 + b2n (m.held && m.owner == init) * 2 ^ 30 + b2n m.broken * 2 ^ 29
  + b2n (m.held && m.lease.isSome) * 2 ^ 28 + (if m.held then m.owner % 8 * 2 ^ 24 else 0) + satN 1023 left * 2 ^ 10

/-! ### The trim store's slot registers (R608) -/

/-- The words of a slot as a read gives them: a free slot has VERSION 0, and its other words are open. -/
def State.nvSlotWords (s : State) (k : Nat) : List Nat × State :=
  match Tab.find? s.nv k with
  | some w => ((List.range 16).map fun i => w.getD i 0, s)
  | none => (List.range 16).foldl (fun (a : List Nat × State) i =>
      let (v, t) := a.2.draw (if i = 1 then 16 else 32)
      (a.1 ++ [v], t)) ([], s)

/-- Start an operation of the slot registers; an operation in progress lets none start. Through the window only a
read is taken (R608). -/
def State.nvCtrl (s : State) (init op slot : Nat) : State :=
  let addr := 0x690008
  if init == 4 && op != 0 then s.refuseAccess 3 .internal 37 init false 1 addr
  else if s.nvOp.isSome then s
  else
    let t := (s.set R.NV_CTRL_OP op).set R.NV_CTRL_SLOT slot
    if op = 0 then
      let (ws, t) := t.nvSlotWords slot
      ((List.range 16).foldl (fun (s : State) i => s.set R.NV_DATAi_DATA (ws.getD i 0) i) t).set R.NV_CTRL_ERR 0
    else if op = 3 then t
    else { t.set R.NV_STAT_BUSY 1 with nvOp := some { op := op, slot := slot, at_ := s.clk } }

/-- NV_SLOT_READ (R608). -/
def execNvSlotRead (init slot : Nat) (s : State) : Host.Outcome State Fault Refusal :=
  .next (s.directWrite init 0x690008 [] fun s => s.nvCtrl init 0 (slot % 1024))

/-- NV_SLOT_WRITE (R608). -/
def execNvSlotWrite (init slot : Nat) (s : State) : Host.Outcome State Fault Refusal :=
  .next (s.directWrite init 0x690008 [] fun s => s.nvCtrl init 1 (slot % 1024))

/-- NV_SLOT_ERASE (R608). -/
def execNvSlotErase (init slot : Nat) (s : State) : Host.Outcome State Fault Refusal :=
  .next (s.directWrite init 0x690008 [] fun s => s.nvCtrl init 2 (slot % 1024))

/-- An operation of the trim store ends (R608): BUSY falls and ERR tells whether it failed; where it did not, an erased
slot is empty, and a written one holds the data words and raises NV_UPDATED. -/
def State.nvFinish (s : State) (o : NvOp) (ok : Bool) : State :=
  let t := ({ s with nvOp := none }.set R.NV_STAT_BUSY 0).setB R.NV_CTRL_ERR (!ok)
  if !ok then t
  else if o.op = 2 then ({ t with nv := Tab.del t.nv o.slot }).nvSync
  else
    let ws := (List.range 16).map fun i => t.get R.NV_DATAi_DATA i
    let nv := if bits (ws.getD 1 0) 31 16 = 0 then Tab.del t.nv o.slot else Tab.put t.nv o.slot ws
    (({ t with nv := nv }).nvSync).raise 113 o.slot

/-- NV_OPERATION_END (R603, R608): a write takes the data words; it or an erase may fail. -/
def execNvOperationEnd (dt : Nat) (ok : Bool) (s : State) : Host.Outcome State Fault Refusal :=
  let s := s.elapse dt
  .next (match s.nvOp with
    | none => s
    | some o => s.nvFinish o ok)

end Sys2Proof.Machine
end

