-- ==== Sys2Proof/Machine/Firebreak.lean ====
section
/-! DEFINITION. Firebreak and configuration integrity: the world tables, the sweep and its commits, the lock
bits, and the SEC command group (R504 to R524). -/

namespace Sys2Proof.Machine

/-! ### The end of a pass (R510 to R512) -/

/-- Take the result of a pass as the reference, keep a copy of the values, and answer the commit (R512, R514). -/
def State.takeReference (s : State) (op value live : Nat) : State :=
  let t := (List.range 48).foldl (fun s b => s.set R.CI_BLKREFb_REF_b (s.get R.CI_BLKCRCb_CRC_b b) b) s
  let t := t.writes [{ f := R.CI_CRC_REF_CRC_REF, v := if op = 0 then live else value },
    { f := R.CI_STAT_REF_VALID, v := 1 }, { f := R.CI_STAT_PENDING, v := 0 }]
  let t := if op = 0 then { t.set R.CI_STAT_DRIFT 0 with ci := { t.ci with matched := true } } else t
  let mb := t.ci.commitMb
  let t := { t with ci := { t.ci with commit := none, commitMb := none, copy := some t.regs } }
  match mb with
  | some m => t.finish (some m) .ok [t.get R.CI_CRC_REF_CRC_REF, live]
  | none => t

/-- Compare a pass with the reference (R511). -/
def State.comparePass (s : State) (live : Nat) : State :=
  if live = s.get R.CI_CRC_REF_CRC_REF then
    { s.set R.CI_STAT_DRIFT 0 with ci := { s.ci with matched := true }, pw := { s.pw with checkNext := false } }
  else
    let b := ((List.range 48).find? fun b => s.get R.CI_BLKCRCb_CRC_b b != s.get R.CI_BLKREFb_REF_b b).getD 63
    let t := (s.set R.CI_STAT_DRIFT 1).set R.CI_STAT_BLOCK b
    let loud := s.ci.matched || s.ci.lastBlock != b
    let t := { t with ci := { t.ci with matched := false, lastBlock := b }, pw := { t.pw with checkNext := false } }
    if loud then t.raise 95 b else t

/-- A pass ends: its results are shown, and a commit takes them or they are compared. -/
def State.endPass (s : State) : State :=
  let t := (List.range 48).foldl (fun s b => s.set R.CI_BLKCRCb_CRC_b (s.ci.taken.getD b 0) b) s
  let live := crcWords ((List.range 48).map fun b => t.get R.CI_BLKCRCb_CRC_b b)
  let n := s.ci.passes + 1
  let t := { (t.set R.CI_CRC_LIVE_CRC_LIVE live).set R.CI_STAT_PASS_SEQ n with ci := { t.ci with passes := n, taken := [] } }
  match t.ci.commit with
  | some (op, v) => if t.ci.commitFrom ≤ n then t.takeReference op v live else t
  | none => if t.on R.CI_STAT_REF_VALID then t.comparePass live else t

/-- SWEEP_PASS_END (R510, R511): a pass takes 1.0 ms, and the next follows without a gap. -/
def execSweepPassEnd (dt : Nat) (s : State) : Host.Outcome State Fault Refusal :=
  let s := s.elapse dt
  .next (match s.ci.passStart with
    | some t => if t + 10 ^ 9 ≤ s.clk then ({ s with ci := { s.ci with passStart := some (t + 10 ^ 9) } }).endPass else s
    | none => s)

/-! ### Locks and the violation log at their registers (R509, R513, R518, R521) -/

/-- Set a lock bit. -/
def State.lockWorld (s : State) (nonSecure : Bool) : State :=
  if nonSecure then s.set R.CFG_LOCK_N_LOCK 1 else s.set R.CFG_LOCK_S_LOCK 1

/-- CFG_LOCK_WRITE (R513): 0 names CFG_LOCK_S, 1 CFG_LOCK_N. -/
def execCfgLockWrite (init which : Nat) (s : State) : Host.Outcome State Fault Refusal :=
  let n := which % 2
  .next (s.directWrite init (0x400300 + 4 * n) [] fun s => s.lockWorld (n == 1))

/-- VIOL_LOG_CLEAR (R509): only a secure initiator clears the log. -/
def execViolLogClear (init : Nat) (s : State) : Host.Outcome State Fault Refusal :=
  .next (s.directWrite init 0x400000 [] fun s =>
    if s.initSecure init then s.clearViolations else s.violate { kind := 0 } init 0x400000 1)

/-! ### The SEC command group (R524) -/

/-- SEC.STATUS. -/
def cmdSecStatus : Cmd where
  op := 0x3001
  any := true
  acts := false
  entry _ := 46
  body _ s := done s [s.word R.FB_BLK_WORLD_LO, s.word R.FB_BLK_WORLD_HI, s.word R.FB_REGION_WORLD, s.word R.FB_PART_WORLD,
    s.word R.FB_CFG, s.word R.FB_STAT, s.word R.CI_STAT, s.word R.CI_CRC_LIVE, s.word R.CI_CRC_REF,
    s.get R.CFG_LOCK_S_LOCK + 2 * s.get R.CFG_LOCK_N_LOCK, s.word R.FB_VIOL_STAT]

/-- SEC_STATUS. -/
def execSecStatus (r : Req) (s : State) : Host.Outcome State Fault Refusal :=
  .next (s.exchange (some cmdSecStatus) cmdSecStatus.op r)

/-- A word with one bit set to a value. -/
def withBit (w k : Nat) (b : Bool) : Nat := w - b2n (bitOf w k) * 2 ^ k + b2n b * 2 ^ k

/-- Signal the vectors that a change has made pending, or every pending vector (R545). -/
def State.signal (s before : State) (all : Bool) : State :=
  [0, 1].foldl (fun s fn => (List.range 32).foldl (fun s v =>
    if s.vecPending fn v && (all || !before.vecPending fn v) then s.sendVec fn v else s) s) s

/-- Give a unit its world in a table: vectors that an event's new world makes pending are signalled (R506, R545). -/
def State.putWorld (s : State) (w : FieldWrite) : State := (s.cfgWrites [w]).signal s false

/-- A change of a world table is refused by CFG_LOCK_S and by the lock of the entry's present and new world
(R506). -/
def worldChange (s : State) (was new : Bool) (f : Fld) (k : Nat) : Res :=
  if s.worldLocked false || s.worldLocked was || s.worldLocked new then { st := s, status := .locked }
  else done (s.putWorld { f := f, v := withBit (s.get f) k new })

/-- SEC.BLOCK_WORLD. -/
def cmdSecBlockWorld : Cmd where
  op := 0x3002
  need := 1
  entry _ := 46
  body c s :=
    let e := c.bits 1 5 0
    let w := c.bit 1 8
    need (decide (e < 48)) .badArg s <|
    need (!(fixedEntry e && w)) .checkFail s <|
    worldChange s (s.entryNonSecure e) w (if e < 32 then R.FB_BLK_WORLD_LO_ENTRY else R.FB_BLK_WORLD_HI_ENTRY) (e % 32)

/-- SEC_BLOCK_WORLD. -/
def execSecBlockWorld (r : Req) (s : State) : Host.Outcome State Fault Refusal :=
  .next (s.exchange (some cmdSecBlockWorld) cmdSecBlockWorld.op r)

/-- SEC.REGION_WORLD: the regions of the running images keep their worlds (R505). -/
def cmdSecRegionWorld : Cmd where
  op := 0x3003
  need := 1
  entry _ := 46
  body c s :=
    let k := c.bits 1 4 0
    let w := c.bit 1 8
    let was := bitOf (s.get R.FB_REGION_WORLD_REGION) k
    let image := decide (k < 8) || (decide (16 ≤ k) && decide (k < 24))
    need (!(image && s.ctl.fwVersion.isSome && was != w)) .checkFail s <|
    worldChange s was w R.FB_REGION_WORLD_REGION k

/-- SEC_REGION_WORLD. -/
def execSecRegionWorld (r : Req) (s : State) : Host.Outcome State Fault Refusal :=
  .next (s.exchange (some cmdSecRegionWorld) cmdSecRegionWorld.op r)

/-- SEC.PART_WORLD. -/
def cmdSecPartWorld : Cmd where
  op := 0x3004
  need := 1
  entry _ := 46
  body c s :=
    let k := c.bits 1 2 0
    worldChange s (bitOf (s.get R.FB_PART_WORLD_PART) k) (c.bit 1 8) R.FB_PART_WORLD_PART k

/-- SEC_PART_WORLD. -/
def execSecPartWorld (r : Req) (s : State) : Host.Outcome State Fault Refusal :=
  .next (s.exchange (some cmdSecPartWorld) cmdSecPartWorld.op r)

/-- SEC.LOCK: S comes only from a mailbox of the secure world. -/
def cmdSecLock : Cmd where
  op := 0x3005
  any := true
  entry _ := 47
  body c s :=
    need (c.secure || !c.bit 1 0) .worldViolation s <|
    need (decide (1 ≤ c.args.length)) .badArg s <|
    let t := if c.bit 1 0 then s.lockWorld false else s
    let t := if c.bit 1 1 then t.lockWorld true else t
    done t [t.get R.CFG_LOCK_S_LOCK + 2 * t.get R.CFG_LOCK_N_LOCK]

/-- SEC_LOCK. -/
def execSecLock (r : Req) (s : State) : Host.Outcome State Fault Refusal :=
  .next (s.exchange (some cmdSecLock) cmdSecLock.op r)

/-- SEC.CRC_COMMIT responds when the reference is set. -/
def cmdSecCrcCommit : Cmd where
  op := 0x3006
  need := 1
  entry _ := 47
  body c s :=
    need (!c.bit 1 0 || decide (2 ≤ c.args.length)) .badArg s <|
    need (!s.on R.CI_STAT_PENDING) .commitPending s <|
    { st := s.acceptCommit (c.bits 1 0 0) (c.arg 2) c.mb, wait := true }

/-- SEC_CRC_COMMIT. -/
def execSecCrcCommit (r : Req) (s : State) : Host.Outcome State Fault Refusal :=
  .next (s.exchange (some cmdSecCrcCommit) cmdSecCrcCommit.op r)

/-- The five words of a log entry. -/
def State.violWords (s : State) (n : Nat) : List Nat :=
  [s.word R.FB_VIOLn_INFO n, s.word R.FB_VIOLn_ADDR n, s.word R.FB_VIOLn_T0 n, s.word R.FB_VIOLn_T1 n, s.word R.FB_VIOLn_T2 n]

/-- SEC.VIOL_READ. -/
def cmdSecViolRead : Cmd where
  op := 0x3007
  any := true
  acts := false
  entry _ := 46
  body c s :=
    need (c.secure || !c.bit 1 16) .worldViolation s <|
    let first := c.bits 1 3 0
    let count := c.bits 1 11 8
    need (decide (1 ≤ c.args.length) && decide (1 ≤ count) && decide (count ≤ 12)) .badArg s <|
    let n := min count (s.get R.FB_VIOL_STAT_COUNT - first)
    done (if c.bit 1 16 then s.clearViolations else s)
      (n :: ((List.range n).flatMap fun k => s.violWords (first + k)))

/-- SEC_VIOL_READ. -/
def execSecViolRead (r : Req) (s : State) : Host.Outcome State Fault Refusal :=
  .next (s.exchange (some cmdSecViolRead) cmdSecViolRead.op r)

/-- SEC.WINDOW. -/
def cmdSecWindow : Cmd where
  op := 0x3008
  need := 1
  entry _ := 46
  body c s := writeCfg s [{ f := R.FB_CFG_WIN_EN, v := c.bits 1 0 0 }] done

/-- SEC_WINDOW. -/
def execSecWindow (r : Req) (s : State) : Host.Outcome State Fault Refusal :=
  .next (s.exchange (some cmdSecWindow) cmdSecWindow.op r)

/-- Set DBG_UNLOCKED, with DEBUG_SESSION on a change (R629). -/
def State.setUnlocked (s : State) (b : Bool) : State :=
  if s.on R.FB_STAT_DBG_UNLOCKED == b then s else (s.setB R.FB_STAT_DBG_UNLOCKED b).raise 118 (b2n b)

/-- SEC.DEBUG_UNLOCK: clearing DEBUG_PERMIT ends an unlocked session at once. -/
def cmdSecDebugUnlock : Cmd where
  op := 0x3009
  need := 1
  entry _ := 46
  body c s := writeCfg s [{ f := R.FB_CFG_DEBUG_PERMIT, v := c.bits 1 0 0 }] fun t =>
    let t := if c.bit 1 0 then t else t.setUnlocked false
    done t [t.word R.FB_STAT]

/-- SEC_DEBUG_UNLOCK. -/
def execSecDebugUnlock (r : Req) (s : State) : Host.Outcome State Fault Refusal :=
  .next (s.exchange (some cmdSecDebugUnlock) cmdSecDebugUnlock.op r)

end Sys2Proof.Machine
end

