-- ==== Sys2Proof/Machine/RefCmds.lean ====
section
/-! DEFINITION. The REF command group (R187 to R198). -/

namespace Sys2Proof.Machine

/-- REF.STATUS (R188). -/
def cmdRefStatus : Cmd where
  op := 0x1101
  any := true
  acts := false
  need := 1
  entry a := 19 + a.getD 0 0 % 8
  body c s :=
    let n := c.bits 1 2 0
    let t := s.dpllSync n
    done s ([t.word R.TR_DPLLn_STAT n, t.word R.TR_DPLLn_LOCKT n, t.word R.TR_DPLLn_QOUT n,
      satN (2 ^ 32 - 1) (s.tapTerm n)] ++ words64 (s.dpllOf n).bo)

/-- REF_STATUS. -/
def execRefStatus (r : Req) (s : State) : Host.Outcome State Fault Refusal :=
  .next (s.exchange (some cmdRefStatus) cmdRefStatus.op r)

/-- REF.SLOT_STATUS (R189). -/
def cmdRefSlotStatus : Cmd where
  op := 0x1102
  any := true
  acts := false
  need := 1
  entry _ := 29
  body c s :=
    let i := c.bits 1 3 0
    done s [s.word R.TR_SLOTs_STAT i, s.word R.TR_SLOTs_FOFS i, s.word R.TR_SLOTs_QUAL i]

/-- REF_SLOT_STATUS. -/
def execRefSlotStatus (r : Req) (s : State) : Host.Outcome State Fault Refusal :=
  .next (s.exchange (some cmdRefSlotStatus) cmdRefSlotStatus.op r)

/-- The field writes of a slot's configuration words, with the fields that a slot does not take left out
(R180, R190). -/
def slotWrites (i cfg lim nom qual : Nat) : List FieldWrite :=
  (R.TR_SLOTs_CFG.writes cfg i).filter (fun w => !((w.f.lo == 16 || w.f.lo == 8) && !portSlot i) && !(w.f.lo == 1 && 8 ≤ i))
  ++ R.TR_SLOTs_LIM.writes lim i ++ (if i < 8 then R.TR_SLOTs_NOM.writes nom i else [])
  ++ (if portSlot i then [] else R.TR_SLOTs_QUAL.writes qual i)

/-- A slot's configuration has changed: a new nominal frequency or session restarts its qualification,
enabling it starts afresh, and disabling it ends its activity (R149, R190). -/
def State.slotChanged (s old : State) (i : Nat) : State :=
  let ch (f : Fld) : Bool := s.get f i != old.get f i
  if !s.on R.TR_SLOTs_CFG_EN i then (if old.on R.TR_SLOTs_CFG_EN i then s.loseActivity i else s).slotQual i
  else if ch R.TR_SLOTs_CFG_EN then (s.restartSlot i).slotQual i
  else if portSlot i && (ch R.TR_SLOTs_CFG_PORT || ch R.TR_SLOTs_CFG_DOMAIN) then
    let t := if old.on R.TR_SLOTs_STAT_ACTIVE i then s.loseActivity i else s
    (t.restartSlot i).slotQual i
  else if ch R.TR_SLOTs_NOM_NOM_HZ then s.restartSlot i
  else s.slotSync

/-- REF.SLOT_CFG (R148, R190). -/
def cmdRefSlotCfg : Cmd where
  op := 0x1103
  need := 5
  entry _ := 29
  body c s :=
    let i := c.bits 1 3 0
    need (R.TR_SLOTs_CFG.ok (if portSlot i then c.arg 2 else c.bits 2 7 0) && R.TR_SLOTs_LIM.ok (c.arg 3)
      && decide (c.bits 3 15 0 ≤ c.bits 3 31 16)
      && (decide (8 ≤ i) || R.TR_SLOTs_NOM.ok (c.arg 4))) .badArg s <|
    writeCfg s (slotWrites i (c.arg 2) (c.arg 3) (c.arg 4) (c.arg 5)) fun t => done (t.slotChanged s i)

/-- REF_SLOT_CFG. -/
def execRefSlotCfg (r : Req) (s : State) : Host.Outcome State Fault Refusal :=
  .next (s.exchange (some cmdRefSlotCfg) cmdRefSlotCfg.op r)

/-- REF.DPLL_CFG (R191). -/
def cmdRefDpllCfg : Cmd where
  op := 0x1104
  need := 4
  entry a := 19 + a.getD 0 0 % 8
  body c s :=
    let n := c.bits 1 2 0
    need (decide (c.bits 1 12 8 ≤ 20) && R.TR_DPLLn_SWT.ok (c.arg 2) && R.TR_DPLLn_HO.ok (c.arg 3)) .badArg s <|
    writeCfg s ([({ f := R.TR_DPLLn_CFG_BW, i := n, v := c.bits 1 12 8 } : FieldWrite),
      { f := R.TR_DPLLn_CFG_REVERT, i := n, v := c.bits 1 16 16 }]
      ++ R.TR_DPLLn_SWT.writes (c.arg 2) n ++ R.TR_DPLLn_HO.writes (c.arg 3) n ++ R.TR_DPLLn_HOQ.writes (c.arg 4) n) done

/-- REF_DPLL_CFG. -/
def execRefDpllCfg (r : Req) (s : State) : Host.Outcome State Fault Refusal :=
  .next (s.exchange (some cmdRefDpllCfg) cmdRefDpllCfg.op r)

/-- REF.PRIO (R192). -/
def cmdRefPrio : Cmd where
  op := 0x1105
  need := 3
  entry a := 19 + a.getD 0 0 % 8
  body c s :=
    let n := c.bits 1 2 0
    writeCfg s (R.TR_DPLLn_PRIO_LO.writes (c.arg 2) n ++ R.TR_DPLLn_PRIO_HI.writes (c.arg 3) n) done

/-- REF_PRIO. -/
def execRefPrio (r : Req) (s : State) : Host.Outcome State Fault Refusal :=
  .next (s.exchange (some cmdRefPrio) cmdRefPrio.op r)

/-- LINE_TB may change in BRINGUP before S6 and in MAINTENANCE (R166). -/
def State.lineTbFree (s : State) : Bool := s.beforeStep 6 || s.mode == 5

/-- SRC_DPLL of APLL0 and APLL1 reads LINE_TB, and they follow the line DPLL (R203, R219, R222). -/
def State.lineChosen (s : State) : State :=
  (s.cfgWrites ([0, 1].map fun a => { f := R.SY_APLLa_CFG_SRC_DPLL, i := a, v := s.lineTb })).followSync

/-- REF.GLOBAL (R166, R193). -/
def cmdRefGlobal : Cmd where
  op := 0x1106
  need := 1
  entry _ := 29
  body c s :=
    need (c.bits 1 30 28 == s.lineTb || s.lineTbFree) .notInMode s <|
    need (R.TR_GLOBAL_CFG.ok (c.arg 1)) .badArg s <|
    writeCfg s (R.TR_GLOBAL_CFG.writes (c.arg 1)) fun t => done t.lineChosen

/-- REF_GLOBAL. -/
def execRefGlobal (r : Req) (s : State) : Host.Outcome State Fault Refusal :=
  .next (s.exchange (some cmdRefGlobal) cmdRefGlobal.op r)

/-- REF.OCXO (R194). -/
def cmdRefOcxo : Cmd where
  op := 0x1107
  need := 4
  entry _ := 29
  body c s :=
    need (R.TR_OCXO_CFG.ok (c.arg 1) && R.TR_HO_MODEL0.ok (c.arg 2) && R.TR_HO_MODEL1.ok (c.arg 3)
      && R.TR_HO_MODEL2.ok (c.arg 4)) .badArg s <|
    writeCfg s.accrueAll (R.TR_OCXO_CFG.writes (c.arg 1) ++ R.TR_HO_MODEL0.writes (c.arg 2)
      ++ R.TR_HO_MODEL1.writes (c.arg 3) ++ R.TR_HO_MODEL2.writes (c.arg 4)) fun t => done t.warmJudge

/-- REF_OCXO. -/
def execRefOcxo (r : Req) (s : State) : Host.Outcome State Fault Refusal :=
  .next (s.exchange (some cmdRefOcxo) cmdRefOcxo.op r)

/-- REF.FORCE (R159, R163, R195). -/
def cmdRefForce : Cmd where
  op := 0x1108
  need := 1
  entry a := 19 + a.getD 0 0 % 8
  body c s :=
    let n := c.bits 1 2 0
    let i := c.bits 1 11 8
    let force (v slot : Nat) : Res := writeCfg s [{ f := R.TR_DPLLn_CFG_FORCE, i := n, v := v },
      { f := R.TR_DPLLn_CFG_FORCE_SLOT, i := n, v := slot }] fun t =>
      done (t.setB R.TR_DPLLn_STAT_FORCED (v != 0) n)
    match c.bits 1 6 4 with
    | 0 => force 0 (s.get R.TR_DPLLn_CFG_FORCE_SLOT n)
    | 1 => need (s.candidate n i) .checkFail s <| force 1 i
    | 2 => force 2 (s.get R.TR_DPLLn_CFG_FORCE_SLOT n)
    | 4 => done ((s.tr.disputes.filter fun d => d.resolved && d.n == n && (d.a == i || d.b == i)).foldl
        (fun s d => s.clearDispute d) s)
    | _ => fail s .badArg

/-- REF_FORCE. -/
def execRefForce (r : Req) (s : State) : Host.Outcome State Fault Refusal :=
  .next (s.exchange (some cmdRefForce) cmdRefForce.op r)

/-- REF.SW_LOOP (R167, R196): the first software word is the frequency at the moment of opening. -/
def cmdRefSwLoop : Cmd where
  op := 0x1109
  need := 1
  entry a := 19 + a.getD 0 0 % 8
  body c s :=
    let n := c.bits 1 2 0
    writeCfg s [{ f := R.TR_DPLLn_CFG_OPEN, i := n, v := c.bits 1 8 8 }] fun t =>
      let w := wrap 64 (s.dpllOf n).word
      done (if c.bit 1 8 && !s.on R.TR_DPLLn_CFG_OPEN n then
        (t.dpllUpd n fun d => { d with swf := d.word, lastSw := s.clk, swWritten := false }).cfgWrites
          [{ f := R.TR_DPLLn_SWF_LO_SWF, i := n, v := w % 2 ^ 32 }, { f := R.TR_DPLLn_SWF_HI_SWF, i := n, v := w / 2 ^ 32 }]
      else if !c.bit 1 8 && s.on R.TR_DPLLn_CFG_OPEN n then t.resumeLoop n else t)

/-- REF_SW_LOOP. -/
def execRefSwLoop (r : Req) (s : State) : Host.Outcome State Fault Refusal :=
  .next (s.exchange (some cmdRefSwLoop) cmdRefSwLoop.op r)

/-- REF.SW_READ (R197). -/
def cmdRefSwRead : Cmd where
  op := 0x110A
  need := 1
  acts := false
  entry a := 19 + a.getD 0 0 % 8
  body c s :=
    let n := c.bits 1 2 0
    done s ([s.get R.TR_DPLLn_STAT_PD_SEQ n, s.get R.TR_DPLLn_PD_LO_PD n, s.get R.TR_DPLLn_PD_HI_PD n]
      ++ words64 (s.dpllOf n).word)

/-- REF_SW_READ. -/
def execRefSwRead (r : Req) (s : State) : Host.Outcome State Fault Refusal :=
  .next (s.exchange (some cmdRefSwRead) cmdRefSwRead.op r)

/-- REF.SW_WRITE (R167, R198). -/
def cmdRefSwWrite : Cmd where
  op := 0x110B
  need := 3
  entry a := 19 + a.getD 0 0 % 8
  body c s :=
    let n := c.bits 1 2 0
    let z := c.int64 2
    need (decide (z.natAbs ≤ (s.clampOf n).natAbs)) .badArg s <|
    need (s.on R.TR_DPLLn_CFG_OPEN n) .notInMode s <|
    need (!s.swBusy n) .busy s <|
    writeCfg s [{ f := R.TR_DPLLn_SWF_LO_SWF, i := n, v := wrap 64 z % 2 ^ 32 },
      { f := R.TR_DPLLn_SWF_HI_SWF, i := n, v := wrap 64 z / 2 ^ 32 }] fun t => done (t.swWord n z)

/-- REF_SW_WRITE. -/
def execRefSwWrite (r : Req) (s : State) : Host.Outcome State Fault Refusal :=
  .next (s.exchange (some cmdRefSwWrite) cmdRefSwWrite.op r)

end Sys2Proof.Machine
end

