-- ==== Sys2Proof/Machine/Gnss.lean ====
section
/-! DEFINITION. The GNSS timing receiver and the GNSS command group (R231 to R259). -/

namespace Sys2Proof.Machine

/-- An input, an antenna. -/
def State.gnIn (s : State) (x : Nat) : GnIn := Tab.get {} s.gn.ins x
def State.gnInUpd (s : State) (x : Nat) (f : GnIn → GnIn) : State :=
  { s with gn := { s.gn with ins := Tab.upd {} s.gn.ins x f } }
def State.gnAnt (s : State) (x : Nat) : GnAnt := Tab.get {} s.gn.ants x
def State.gnAntUpd (s : State) (x : Nat) (f : GnAnt → GnAnt) : State :=
  { s with gn := { s.gn with ants := Tab.upd {} s.gn.ants x f } }

/-- The receiver sleeps: block entry 31 in P3 (R246). -/
def State.gnAsleep (s : State) : Bool := s.asleep 31

/-- An input runs: enabled, and the receiver awake. -/
def State.gnRuns (s : State) (x : Nat) : Bool := s.on R.GN_INx_CFG_EN x && !s.gnAsleep

/-- Bring SLEEP, TRACKED, NOTCH_ACT of a fixed notch, and the FIFO levels up to date. -/
def State.gnSync (s : State) : State :=
  let t := (s.set R.GN_FIFO_STAT_M_LEVEL s.gn.mfifo.length).set R.GN_FIFO_STAT_N_LEVEL s.gn.nfifo.length
  [0, 1].foldl (fun s x =>
    (s.setB R.GN_INx_STAT_SLEEP (!s.gnRuns x) x).set R.GN_INx_STAT_TRACKED (s.gn.chans.filter fun c => c.input == x).length x) t

/-! ### Sample clocks (R232, R233) -/

/-- An input's channels lose lock. -/
def State.dropInput (s : State) (x : Nat) : State :=
  { s with gn := { s.gn with chans := s.gn.chans.filter fun c => c.input != x } }.gnSync

/-- SAMPLE_CLOCK_LOSS (R232). -/
def execSampleClockLoss (dt x : Nat) (s : State) : Host.Outcome State Fault Refusal :=
  let s := s.elapse dt
  let x := x % 2
  .next (if s.on R.GN_INx_STAT_CLK_OK x then
      (((s.set R.GN_INx_STAT_CLK_OK 0 x).set R.GN_INx_STAT_CLK_SYNC 0 x).gnInUpd x fun i => { i with phases := [], phaseFrom := none }).dropInput x
    else s)

/-- SAMPLE_CLOCK_RETURN (R232). -/
def execSampleClockReturn (dt x : Nat) (s : State) : Host.Outcome State Fault Refusal :=
  let s := s.elapse dt
  .next (if s.gnRuns (x % 2) then s.set R.GN_INx_STAT_CLK_OK 1 (x % 2) else s)

/-- The difference of two phases in ps, modulo the nominal sample period and nearest to zero, times SRATE. -/
def State.clkPhaseDiff (s : State) (x : Nat) (a b : Int) : Int :=
  let r := (a - b) * s.get R.GN_INx_CFG_SRATE x % 10 ^ 6
  if 2 * r ≥ 10 ^ 6 then r - 10 ^ 6 else r

/-- CLOCK_PHASE_MEASURE (R233): every 1 ms, a phase of the sample clock against the solution timebase in ps. CLK_SYNC reads
1 while the phases of the last second, modulo the nominal sample period of 10^6 / SRATE ps, lie within 10 ps of one
another. The receiver dates its samples by these phases: the dates and pseudoranges of MEASUREMENT_EPOCH and
NAV_DATA_DECODED are so dated by it (DESIGN CHOICE, log entry 207). -/
def execClockPhaseMeasure (dt x : Nat) (phase : Int) (s : State) : Host.Outcome State Fault Refusal :=
  let s := s.elapse dt
  let x := x % 2
  let ps := (s.clk, phase) :: (s.gnIn x).phases.filter fun e => decide (s.clk ≤ e.1 + 10 ^ 12)
  let ds := ps.map fun e => s.clkPhaseDiff x e.2 phase
  let t := s.gnInUpd x fun i => { i with phases := ps, phaseFrom := some (i.phaseFrom.getD s.clk) }
  let full := match (s.gnIn x).phaseFrom with | some c => decide (c + 10 ^ 12 ≤ s.clk) | none => false
  let due := match (s.gnIn x).phases with | e :: _ => decide (e.1 + 10 ^ 9 ≤ s.clk) | [] => true
  .next (if s.gnRuns x && s.on R.GN_INx_STAT_CLK_OK x && due then
      t.setB R.GN_INx_STAT_CLK_SYNC (full && decide (ds.foldl max 0 - ds.foldl min 0 ≤ 10 * s.get R.GN_INx_CFG_SRATE x) && !s.gn.stepped) x
    else s)

/-! ### Channels (R235, R236) -/

/-- The band an input carries: 0 upper, 1 lower. -/
def State.bandOf (s : State) (x : Nat) : Nat := if s.on R.GN_CFG_DUALBAND then x else s.get R.GN_INx_CFG_BAND x

/-- An input tracks a signal: its band carries it, SIGEN enables it and SRATE suffices (R235). -/
def State.sigOn (s : State) (x sig : Nat) : Bool :=
  decide (sig < 6) && sig / 3 == s.bandOf x && bitOf (s.get R.GN_INx_CFG_SIGEN x) (sig % 3)
  && decide ([4, 8, 8, 24, 24, 24].getD sig 99 ≤ s.get R.GN_INx_CFG_SRATE x)

/-- A satellite across its signals: its constellation, GPS, Galileo or BeiDou, and its SVID. -/
def satKey (sig svid : Nat) : Nat := sig % 3 * 256 + svid % 256

/-- A Doppler lies within the search (R236): ±500 Hz about the prediction where ephemeris or almanac is kept, else ±5 kHz. -/
def State.inSearch (s : State) (key : Nat) (d : Int) : Bool :=
  if (Tab.find? s.gn.eph key).isSome || (Tab.find? s.gn.alm key).isSome then
    decide ((d - Config.predictedDoppler key s.keeper).natAbs ≤ 500)
  else decide (d.natAbs ≤ 5000)

/-- A channel ranks above another: input A first, then the higher elevation (R236). -/
def Chan.above (a b : Chan) : Bool := decide (a.input < b.input) || (a.input == b.input && decide (b.elev < a.elev))

/-- The lowest channel number that is free. -/
def freeChan (l : List Chan) : Option Nat := (List.range 96).find? fun k => !(l.any fun c => c.ch == k)

/-- The channel of the lowest rank. -/
def lowChan (l : List Chan) : Option Chan :=
  l.foldl (fun b c => match b with
    | none => some c
    | some w => if w.above c then some c else some w) none

/-- SIGNAL_ACQUISITION (R236): a signal at 32 dB-Hz or more, within the Doppler search, of a satellite above ELEV_MASK gets
a channel; with every channel taken it takes the lowest one's place when it ranks above it. A signal that is tracked
already has its elevation brought up to date. -/
def execSignalAcquisition (dt x sig svid elev : Nat) (v : Signal) (s : State) : Host.Outcome State Fault Refusal :=
  let s := s.elapse dt
  let x := x % 2
  let mine (c : Chan) : Bool := c.input == x && c.sig == sig && c.svid == svid % 256
  let chans (l : List Chan) : State := { s with gn := { s.gn with chans := l } }.gnSync
  let new (k : Nat) : Chan := { ch := k, input := x, sig := sig, svid := svid % 256, elev := elev, since := s.clk }
  .next (if s.gnRuns x && s.on R.GN_INx_STAT_CLK_OK x && s.sigOn x sig && decide (s.get R.GN_TIM_CFG_ELEV_MASK < elev) then
      if s.gn.chans.any mine then chans (s.gn.chans.map fun c => if mine c then { c with elev := elev } else c)
      else if decide (128 ≤ v.cn0) && s.inSearch (satKey sig svid) v.doppler then
        match freeChan s.gn.chans, lowChan s.gn.chans with
        | some k, _ => chans (s.gn.chans ++ [new k])
        | none, some w =>
          if (new w.ch).above w then chans ((s.gn.chans.filter fun c => c.ch != w.ch) ++ [new w.ch]) else s
        | none, none => s
      else s
    else s)

/-- LOSS_OF_TRACKING (R236): a channel whose C/N0 has fallen below 26 dB-Hz, or whose satellite is no longer above
ELEV_MASK, stops tracking and is free; otherwise its elevation is brought up to date. -/
def execLossOfTracking (dt x sig : Nat) (v : Fading) (s : State) : Host.Outcome State Fault Refusal :=
  let s := s.elapse dt
  let mine (c : Chan) : Bool := c.input == x % 2 && c.sig == sig && c.svid == v.svid
  let lost := decide (v.cn0 < 104) || decide (v.elev ≤ s.get R.GN_TIM_CFG_ELEV_MASK)
  let left := if lost then s.gn.chans.filter fun c => !mine c
    else s.gn.chans.map fun c => if mine c then { c with elev := v.elev } else c
  .next { s with gn := { s.gn with chans := left } }.gnSync

/-! ### The result FIFOs (R237, R238, R249 to R251) -/

/-- Write an entry to the measurement FIFO or to the navigation FIFO, or drop it when that is full. -/
def State.gnPush (s : State) (nav : Bool) (e : List Nat) : State :=
  if nav then
    if s.gn.nfifo.length < 512 then { s with gn := { s.gn with nfifo := s.gn.nfifo ++ [e] } }
    else ({ s with gn := { s.gn with nDrop := s.gn.nDrop + 1 } }.set R.GN_FIFO_STAT_N_OVF 1).raise 67 1
  else if s.gn.mfifo.length < 1024 then { s with gn := { s.gn with mfifo := s.gn.mfifo ++ [e] } }
  else ({ s with gn := { s.gn with mDrop := s.gn.mDrop + 1 } }.set R.GN_FIFO_STAT_M_OVF 1).raise 67 0

/-- The measurement epochs' period, in units of 2^-48 ps (R252). -/
def State.measPeriod (s : State) : Nat := [10 ^ 12, 5 * 10 ^ 11, 2 * 10 ^ 11, 10 ^ 11].getD (s.get R.GN_CFG_MEAS_RATE) (10 ^ 12) * 2 ^ 48

/-- The words of a measurement entry (R250). -/
def State.measWords (s : State) (c : Chan) (m : Meas) (sec ms : Nat) : List Nat :=
  let lock := satN 65535 ((s.clk - c.since) / 10 ^ 11)
  let ph := wrap 48 m.carrier
  [b2n m.half * 2 ^ 30 + b2n m.slip * 2 ^ 29 + c.input * 2 ^ 28 + c.sig * 2 ^ 25 + c.svid * 2 ^ 17 + c.ch * 2 ^ 10 + ms,
   sec % 2 ^ 32, m.pr % 2 ^ 32, m.pr / 2 ^ 32 % 2 ^ 16 + lock * 2 ^ 16, ph % 2 ^ 32, ph / 2 ^ 32 + m.cn0 % 256 * 2 ^ 16,
   wrap 32 m.doppler, m.sigma % 2 ^ 16]

/-- MEASUREMENT_EPOCH (R237): at a whole multiple of the period on the solution timebase, with the
measurement of each channel in the order of the channel list. -/
def execMeasurementEpoch (dt : Nat) (ms : List Meas) (s : State) : Host.Outcome State Fault Refusal :=
  let s := s.elapse dt
  let t := s.time (s.get R.GN_CFG_TB)
  let k := t / s.measPeriod
  let ep := k * s.measPeriod
  .next (if s.on R.GN_CFG_MEAS_EN && !s.gnAsleep && k != s.gn.lastEpoch then
      ((s.gn.chans.zip ms).foldl (fun (s : State) e => s.gnPush false (s.measWords e.1 e.2 (secsOf ep) (ep % secUnit / (10 ^ 9 * 2 ^ 48))))
        { s with gn := { s.gn with lastEpoch := k } }).gnSync
    else s)

/-- What the receiver takes itself from passing navigation data of a satellite (R238). -/
def State.navTaken (s : State) (key : Nat) (v : NavInfo) : State :=
  { s with gn := { s.gn with
      eph := if v.eph then Tab.put s.gn.eph key s.keeper else s.gn.eph
      alm := v.alm.foldl (fun t k => Tab.put t (key / 256 * 256 + k % 256) s.keeper) s.gn.alm
      utc := if v.utc.isEmpty then s.gn.utc else v.utc
      inter := if v.inter.isEmpty then s.gn.inter else v.inter } }

/-- The first n bits of some words of 32 bits, the first bit at bit 31 of the first. -/
def firstBits (n : Nat) (l : List Nat) (k : Nat) : Nat :=
  let w := l.getD k 0 % 2 ^ 32
  let m := min 32 (n - 32 * k)
  w / 2 ^ (32 - m) * 2 ^ (32 - m)

/-- The words of a navigation entry (R251): its check, its bits and their number, and the time of its first bit. -/
def navWords (c : Chan) (check nbits sec ns : Nat) (data : List Nat) : List Nat :=
  [check * 2 ^ 29 + c.input * 2 ^ 28 + c.sig * 2 ^ 25 + c.svid * 2 ^ 17 + c.ch * 2 ^ 10 + nbits, sec % 2 ^ 32, ns % 2 ^ 30]
  ++ (List.range 4).map (firstBits nbits data) ++ [0]

/-- The entries of a unit (R238): an LNAV word of 30 bits is one entry; any other unit is split into entries of at most 128
bits, of which the last carries the check. -/
def navEntries (c : Chan) (pass : Bool) (nbits sec ns : Nat) (data : List Nat) : List (List Nat) :=
  let check := if pass then 1 else 2
  if c.sig = 0 then [navWords c check 30 sec ns data]
  else
    let n := max 1 ((nbits + 127) / 128)
    (List.range n).map fun k =>
      let at_ := ns + 128 * k * Config.navBit c.sig
      navWords c (if k + 1 = n then check else 0) (max 1 (min 128 (nbits - 128 * k))) (sec + at_ / 10 ^ 9) (at_ % 10 ^ 9) (data.drop (4 * k))

/-- NAV_DATA_DECODED (R238): a unit of navigation data with its check (1 PASS), its bits, the time of its first bit on
the solution timebase, and what it carries. -/
def execNavDataDecoded (dt ch check nbits sec ns : Nat) (data : List Nat) (v : NavInfo) (s : State) :
    Host.Outcome State Fault Refusal :=
  let s := s.elapse dt
  .next (match s.gn.chans.find? fun c => c.ch == ch with
    | none => s
    | some c =>
      let t := if check = 1 then s.navTaken (satKey c.sig c.svid) v else s
      if s.on R.GN_CFG_NAV_EN && !s.gnAsleep then
        ((navEntries c (check == 1) nbits sec ns data).foldl (fun (s : State) e => s.gnPush true e) t).gnSync
      else t)

/-- Pop the oldest entry of a FIFO. -/
def State.gnPop (s : State) (nav : Bool) : Option (List Nat) × State :=
  match if nav then s.gn.nfifo else s.gn.mfifo with
  | [] => (none, s)
  | e :: r => (some e, { s with gn := if nav then { s.gn with nfifo := r } else { s.gn with mfifo := r } }.gnSync)

/-- A read of W0 of a FIFO's window. -/
def State.gnReadW0 (s : State) (nav : Bool) : Nat × State :=
  let (e, t) := s.gnPop nav
  let l := e.getD [2 ^ 31]
  (l.getD 0 0, { t with gn := if nav then { t.gn with nlatch := l } else { t.gn with mlatch := l } })

/-- GNSS_FIFO_POP (R249): a read of W0 of the measurement or of the navigation FIFO. -/
def execGnssFifoPop (init : Nat) (nav : Bool) (s : State) : Host.Outcome State Fault Refusal :=
  let s := s.quiet
  let a := if nav then 0x628240 else 0x628200
  .next (match s.checkAccess init a false with
    | some v => s.violate v init a 0
    | none => let (w, t) := s.gnReadW0 nav; t.emit (.readData init [w]))

/-- Pop up to k entries as response words. -/
def State.gnPopN (s : State) (nav : Bool) : Nat → List Nat × State
  | 0 => ([], s)
  | k + 1 => match s.gnPop nav with
    | (none, t) => ([], t)
    | (some w, t) => let (ws, u) := t.gnPopN nav k; (w ++ ws, u)

/-! ### Spectrum and notches (R242, R243) -/

/-- The sum of a list of integers. -/
def sumZ (l : List Int) : Int := l.foldl (· + ·) 0

/-- A notch follows a peak within ±SRATE/64 of its frequency, in 10 Hz. -/
def State.notchSees (s : State) (x k : Nat) (f : Int) : Bool :=
  decide ((f - s.getZ R.GN_NOTCHx_k_FREQ x k).natAbs * 64 ≤ s.get R.GN_INx_CFG_SRATE x * 100000)

/-- A notch is active. -/
def State.notchOn (s : State) (x k : Nat) : Bool := bitOf (s.get R.GN_INx_STAT_NOTCH_ACT x) k

/-- Set or clear a notch's NOTCH_ACT bit. -/
def State.setNotch (s : State) (x k : Nat) (b : Bool) : State :=
  let a := s.get R.GN_INx_STAT_NOTCH_ACT x
  s.set R.GN_INx_STAT_NOTCH_ACT (a - b2n (bitOf a k) * 2 ^ k + b2n b * 2 ^ k) x

/-- One notch at a spectrum: a fixed one is active, an automatic one follows its peak or takes the
strongest peak that no other notch follows. Peaks are (frequency in 10 Hz, 0.5 dB above the median),
the strongest first. -/
def State.notchStep (s : State) (x : Nat) (peaks : List (Int × Nat)) (k : Nat) : State :=
  let thr := 2 * s.get R.GN_NOTCHx_k_NOTCH_THR x k
  match s.get R.GN_NOTCHx_k_MODE x k with
  | 1 =>
    if s.notchOn x k then
      match peaks.find? fun p => s.notchSees x k p.1 with
      | some p =>
        let t := s.setZ R.GN_NOTCHx_k_FREQ p.1 x k
        if p.2 + 6 < thr then t.gnInUpd x fun i => { i with low := if (Tab.find? i.low k).isSome then i.low else Tab.put i.low k s.clk }
        else t.gnInUpd x fun i => { i with low := Tab.del i.low k }
      | none => s.gnInUpd x fun i => { i with low := if (Tab.find? i.low k).isSome then i.low else Tab.put i.low k s.clk }
    else
      match peaks.find? fun p => decide (thr < p.2) && !((List.range 4).any fun j => j != k && s.notchOn x j && s.notchSees x j p.1) with
      | some p => ((s.setZ R.GN_NOTCHx_k_FREQ p.1 x k).setNotch x k true).gnInUpd x fun i => { i with low := Tab.del i.low k }
      | none => s
  | m => s.setNotch x k (m == 2)

/-- SPECTRUM_MONITOR (R242): every 100 ms, the median level in 0.01 dB, the AGC gain in 0.25 dB and the
narrow-band peaks, strongest first. -/
def execSpectrumMonitor (dt x : Nat) (median : Int) (agc : Nat) (peaks : List (Int × Nat)) (s : State) :
    Host.Outcome State Fault Refusal :=
  let s := s.elapse dt
  let x := x % 2
  let i := s.gnIn x
  let n := i.medians.length
  let rise := median * n - sumZ i.medians
  let jam := s.on R.GN_INx_STAT_JAM x
  let now := if i.medians.isEmpty then jam else if jam then decide (rise ≥ 400 * n) else decide (rise > 600 * n)
  let t := (s.set R.GN_INx_STAT_AGC agc x).set R.GN_INx_STAT_PEAK (satN 255 ((peaks.head?.map Prod.snd).getD 0)) x
  let t := t.gnInUpd x fun i => { i with
    medians := (median :: i.medians).take 600, agcs := (agc :: i.agcs).take 600, specAt := some s.clk }
  let t := if now != jam then (t.setB R.GN_INx_STAT_JAM now x).raise 66 (det2 x (b2n now)) else t
  let due := match i.specAt with | some c => decide (c + 10 ^ 11 ≤ s.clk) | none => true
  .next (if s.gnRuns x && due then (List.range 4).foldl (fun s k => s.notchStep x peaks k) t else s)

/-- NOTCH_RELEASE (R243): an automatic notch's peak has stayed below its release level for 1 s. -/
def execNotchRelease (dt x k : Nat) (s : State) : Host.Outcome State Fault Refusal :=
  let s := s.elapse dt
  let x := x % 2
  let k := k % 4
  .next (match Tab.find? (s.gnIn x).low k with
    | some c => if s.notchOn x k && s.get R.GN_NOTCHx_k_MODE x k == 1 && decide (c + 10 ^ 12 ≤ s.clk) then
        (s.setNotch x k false).gnInUpd x fun i => { i with low := Tab.del i.low k } else s
    | none => s)

/-! ### Solutions and trust (R239 to R245) -/

/-- The position state of an antenna (R240). -/
def State.posState (s : State) (x : Nat) : Nat := s.get R.GN_SOLx_STAT_POS_STATE x

/-- The position state that POS_MODE gives: NAV, FIXED, and in AUTO the survey until it has ended. -/
def State.posWanted (s : State) (x : Nat) : Nat :=
  match s.get R.GN_TIM_CFG_POS_MODE with
  | 1 => 3
  | 2 => 0
  | _ => if s.posState x = 2 then 2 else 1

/-- Satellites a solution needs (R240). -/
def needSats (pos : Nat) : Nat := if pos = 0 ∨ pos = 1 then 4 else 1

/-- The linear prediction of OFS at a clock from the last ten trusted solutions, by least squares: a numerator and a
denominator above 0. -/
def predict (h : List (Nat × Int)) (now : Nat) : Int × Int :=
  let n : Int := h.length
  let pts := h.map fun e => ((e.1 : Int) - now, e.2)
  let sx := sumZ (pts.map fun p => p.1)
  let sy := sumZ (pts.map fun p => p.2)
  let sxx := sumZ (pts.map fun p => p.1 * p.1)
  let sxy := sumZ (pts.map fun p => p.1 * p.2)
  let d := n * sxx - sx * sx
  if d ≤ 0 then (sy, max n 1) else (sy * sxx - sx * sxy, d)

/-- A check is enabled: 4 POWER, 3 JUMP, 2 HOLD, 1 DIFF, 0 RESID. -/
def State.chkOn (s : State) (b : Nat) : Bool := bitOf (s.get R.GN_TRUST_CFG0_EN_CHK) b

/-- The satellites a solution uses: those at CN0_MASK or above, but for the one that RESID excluded (R236, R244). -/
def State.solUsed (s : State) (v : Sol) : List (Nat × Int) :=
  ((List.range v.sats.length).zip v.sats).filterMap fun e =>
    if v.excl = some e.1 ∨ e.2.1 < 4 * s.get R.GN_TIM_CFG_CN0_MASK then none else some e.2

/-- The DIFF check runs (R244). -/
def State.diffRuns (s : State) (v : Sol) : Bool :=
  let p (x : Nat) (f : Fld) : Int := sext 32 (s.get f x)
  let sq (f : Fld) : Int := (p 0 f - p 1 f) * (p 0 f - p 1 f)
  !s.on R.GN_CFG_DUALBAND && s.bandOf 0 == s.bandOf 1 && decide (2 ≤ s.posState 0) && decide (2 ≤ s.posState 1)
  && decide (sq R.GN_POSx_X_X + sq R.GN_POSx_Y_Y + sq R.GN_POSx_Z_Z ≥ 200 * 200) && decide (4 ≤ v.diffs.length)

/-- √(Σ(r_i − r̄)² / (n − 1)) of some values exceeds a limit (R244). -/
def spreadExceeds (l : List Int) (lim : Int) : Bool :=
  let n : Int := l.length
  decide (n * (n - 1) * (lim * lim) < n * sumZ (l.map fun r => r * r) - sumZ l * sumZ l)

/-- The rms of some values exceeds a limit. -/
def rmsExceeds (l : List Int) (lim : Int) : Bool := decide ((l.length : Int) * (lim * lim) < sumZ (l.map fun r => r * r))

/-- The POWER check fails (R244): the AGC gain has fallen by more than AGC_DROP below its 60 s mean while the mean C/N0 of
the used satellites has not fallen since the last solution (DEDUCED, log entry 208), or that mean exceeds CN0_MAX. -/
def State.powerFails (s : State) (x : Nat) (used : List (Nat × Int)) : Bool :=
  let agcs := (s.gnIn x).agcs
  let sum := (used.map Prod.fst).foldl (· + ·) 0
  let was := (s.gnAnt x).cn0
  (decide ((agcs.headD 0 + 4 * s.get R.GN_TRUST_CFG1_AGC_DROP) * agcs.length < agcs.foldl (· + ·) 0)
    && decide (was.1 * used.length ≤ sum * was.2))
  || decide (4 * s.get R.GN_TRUST_CFG1_CN0_MAX * used.length < sum)

/-- The FAIL bits of a solution whose OFS is known: the enabled checks that it fails (R244). -/
def State.solFails (s : State) (x : Nat) (v : Sol) (ofs : Int) : Nat :=
  let a := s.gnAnt x
  let n := s.get R.GN_CFG_TB
  let used := s.solUsed v
  let p := predict a.hist s.clk
  let jump := decide (10 ≤ a.hist.length)
    && decide (s.get R.GN_TRUST_CFG0_JUMP_LIM * 65536 * p.2 < ((ofs * p.2 - p.1).natAbs : Int))
  let st := s.dpllState n
  let mine := 14 + x
  let holdRuns := (st == 0 && s.get R.TR_DPLLn_STAT_ACTIVE n != mine) || (st == 1 && s.get R.TR_DPLLn_STAT_TARGET n != mine) || st == 2
  let hold := holdRuns
    && decide (ofs.natAbs * 1000 > (s.get R.GN_TRUST_CFG0_HOLD_CHK * 1000 + s.estErr n) * 65536)
  let diff := s.diffRuns v && spreadExceeds v.diffs (50 * s.get R.GN_TRUST_CFG1_DIFF_LIM)
  let resid := decide (5 ≤ used.length) && rmsExceeds (used.map Prod.snd) (100 * s.get R.GN_TRUST_CFG1_RESID_LIM)
  b2n (s.powerFails x used && s.chkOn 4) * 16 + b2n (jump && s.chkOn 3) * 8 + b2n (hold && s.chkOn 2) * 4
  + b2n (diff && s.chkOn 1) * 2 + b2n (resid && s.chkOn 0)

/-- TRUSTED of an antenna takes a value; a change raises GNSS_TRUST, and an untrusted slot loses activity
at once (R144, R245). -/
def State.setTrust (s : State) (x : Nat) (b : Bool) : State :=
  let t := (s.setB R.GN_SOLx_STAT_TRUSTED b x).setB R.TR_SLOTs_STAT_UNTRUSTED (!b) (14 + x)
  let t := if s.on R.GN_SOLx_STAT_TRUSTED x != b then t.raise 65 (det2 x (b2n b)) else t
  if !b && t.on R.TR_SLOTs_STAT_ACTIVE (14 + x) then t.loseActivity (14 + x) else t

/-- A solution arrived within the last 2 s (R257). -/
def State.solValid (s : State) (x : Nat) : Bool :=
  match (s.gnAnt x).last with | some c => decide (s.clk ≤ c + 2 * 10 ^ 12) | none => false

/-- Show VALID as it stands now. -/
def State.solSync (s : State) (x : Nat) : State := s.setB R.GN_SOLx_STAT_VALID (s.solValid x) x

/-- A failing solution of an antenna. -/
def State.solFailed (s : State) (x : Nat) : State :=
  (s.gnAntUpd x fun a => { a with passFrom := none, failed := true }).setTrust x false

/-- A passing solution: before any failure it is trusted, and after one only once TRUST_HOLD has run, in which 2 s without
a solution are a break; trusted solutions enter the JUMP history and feed the slot. -/
def State.solPassed (s : State) (x : Nat) (ofs : Int) (unbroken : Bool) : State :=
  let t := s.gnAntUpd x fun a => { a with passFrom := some ((if unbroken then a.passFrom else none).getD s.clk) }
  let t := if !(s.gnAnt x).failed then t.setTrust x true else t
  if t.on R.GN_SOLx_STAT_TRUSTED x then
    let t := t.gnAntUpd x fun a => { a with hist := ((s.clk, ofs) :: a.hist).take 10 }
    if t.mayFeed (14 + x) then t.sample (14 + x) (-ofs) else t
  else t

/-- The receiver's internal delay in a band, in 0.01 ps: its GNSS record's, else its manufacture value (R239, R602). -/
def State.gnssDly (s : State) (band : Nat) : Int := match s.nvRec 0x15 band with
  | some e => sext 32 (e.2.getD 4 0)
  | none => Config.gnssNominal band

/-- What R239 subtracts for an antenna, in 2^-16 ns to the nearest: ANT_DLY and the internal delay of its band, or in
DUALBAND that of the ionosphere-free combination of the carriers 154 and 115 × 10.23 MHz (PRESUMED, log entry 209). -/
def State.antDelay (s : State) (x : Nat) : Int :=
  let d := if s.on R.GN_CFG_DUALBAND then (23716 * s.gnssDly 0 - 13225 * s.gnssDly 1) / 10491 else s.gnssDly (s.bandOf x)
  ((100 * s.get R.GN_ANT_DLYx_ANT_DLY x + d) * 65536 + 50000) / 100000

/-- The TAI second that an OFS of the solution timebase makes it, and the time since it began, in 2^-16 ns (R239). -/
def State.taiSecond (s : State) (ofs : Int) : Int := ((units16 (s.time (s.get R.GN_CFG_TB)) : Int) - ofs) / (10 ^ 9 * 65536)

def State.sinceTai (s : State) (ofs : Int) : Int := ((units16 (s.time (s.get R.GN_CFG_TB)) : Int) - ofs) % (10 ^ 9 * 65536)

/-- A solution of an antenna is formed, checked and delivered. -/
def State.solution (s : State) (x : Nat) (v : Sol) : State :=
  let ofs := v.ofs - s.antDelay x
  let pos := s.posWanted x
  let a := s.gnAnt x
  let used := s.solUsed v
  let fails := s.solFails x v ofs
  let t := s.writes [{ f := R.GN_SOLx_STAT_VALID, i := x, v := 1 }, { f := R.GN_SOLx_STAT_POS_STATE, i := x, v := pos },
    { f := R.GN_SOLx_STAT_FAIL, i := x, v := fails }, { f := R.GN_SOLx_STAT_SV_EXCL, i := x, v := b2n v.excl.isSome },
    { f := R.GN_SOLx_STAT_USED, i := x, v := satN 63 used.length }]
  let t := (t.set64Z R.GN_SOLx_OFS_LO_OFS R.GN_SOLx_OFS_HI_OFS ofs x).incWrap R.GN_SOLx_STAT_SEQ x
  let t := { t with gn := { t.gn with offsets := v.inter } }
  let t := t.gnAntUpd x fun a => { a with
    last := some s.clk, second := some (s.taiSecond ofs), cn0 := ((used.map Prod.fst).foldl (· + ·) 0, used.length), started := true
    survey := if pos = 1 then some (a.survey.getD s.clk) else none }
  let t := if !a.started then t.raise 68 (det2 x (s.get R.GN_SOLx_STAT_START x)) else t
  if fails != 0 then
    let t := t.solFailed x
    if bitOf fails 1 then
      let w := t.get R.GN_SOLx_STAT_FAIL (1 - x)
      (t.set R.GN_SOLx_STAT_FAIL (if bitOf w 1 then w else w + 2) (1 - x)).solFailed (1 - x)
    else t
  else t.solPassed x ofs (s.solValid x)

/-- An antenna's inputs: in DUALBAND both are antenna A's (R235). -/
def State.antInputs (s : State) (x : Nat) : List Nat :=
  (if s.on R.GN_CFG_DUALBAND then (if x = 0 then [0, 1] else []) else [x]).filter s.gnRuns

/-- GNSS_SOLUTION (R239): once per TAI second and within 200 ms after it, for antenna 0 (A) or 1 (B). A solution needs the
sample clock of every enabled input of its antenna and enough satellites (R232, R240). -/
def execGnssSolution (dt ant : Nat) (v : Sol) (s : State) : Host.Outcome State Fault Refusal :=
  let s := s.elapse dt
  let x := ant % 2
  let ins := s.antInputs x
  let ofs := v.ofs - s.antDelay x
  let ok := !ins.isEmpty && ins.all (fun i => s.on R.GN_INx_STAT_CLK_OK i)
    && decide (needSats (s.posWanted x) ≤ (s.solUsed v).length) && s.tbOn (s.get R.GN_CFG_TB)
    && (s.gnAnt x).second != some (s.taiSecond ofs) && decide (s.sinceTai ofs ≤ 200000000 * 65536)
  .next (if ok then s.solution x v else s)

/-- TRUST_HOLD_EXPIRY (R245). -/
def execTrustHoldExpiry (dt ant : Nat) (s : State) : Host.Outcome State Fault Refusal :=
  let s := s.elapse dt
  let x := ant % 2
  .next (match (s.gnAnt x).passFrom with
    | some c => if (s.gnAnt x).failed && s.solValid x && decide (c + s.get R.GN_TRUST_CFG1_TRUST_HOLD * 10 ^ 12 ≤ s.clk) then
        (s.gnAntUpd x fun a => { a with failed := false }).setTrust x true else s
    | none => s)

/-- GNSS_SURVEY (R240): the survey has run SURVEY_MIN, and its mean position is held. -/
def execGnssSurvey (dt ant px py pz : Nat) (s : State) : Host.Outcome State Fault Refusal :=
  let s := s.elapse dt
  let x := ant % 2
  .next (match (s.gnAnt x).survey with
    | some c => if s.posState x = 1 ∧ c + s.get R.GN_TIM_CFG_SURVEY_MIN * 60 * 10 ^ 12 ≤ s.clk then
        (((s.writes [{ f := R.GN_POSx_X_X, i := x, v := px }, { f := R.GN_POSx_Y_Y, i := x, v := py }, { f := R.GN_POSx_Z_Z, i := x, v := pz },
          { f := R.GN_SOLx_STAT_POS_STATE, i := x, v := 2 }]).gnAntUpd x fun a => { a with survey := none }).raise 69 x)
      else s
    | none => s)

/-! ### Sleep, kept data and starts (R246 to R248) -/

/-- A record of the kept data with its check; the order of its bytes under the CRC is the model's (DESIGN CHOICE, log
entry 210). -/
def keptRec (kind key : Nat) (data : List Nat) : KeptRec :=
  { kind := kind, key := key, data := data, crc := crc32c ((kind :: key :: data).flatMap fun w => leBytes 8 w) }

/-- A record passes its check. -/
def KeptRec.good (r : KeptRec) : Bool := r == keptRec r.kind r.key r.data

/-- The sample-clock offset of an input: by how much its phase moved over the last second, in ps times SRATE. -/
def State.clockOffset (s : State) (x : Nat) : Int := match (s.gnIn x).phases, (s.gnIn x).phases.getLast? with
  | a :: _, some b => s.clkPhaseDiff x a.2 b.2
  | _, _ => 0

/-- Keep the receiver's data in Understory: a held or fixed position, ephemerides, almanacs, the UTC and inter-system
parameters, the sample-clock offsets and the time. -/
def State.keepGnss (s : State) : State :=
  let pos := [0, 1].filter fun x => decide (2 ≤ s.posState x)
  let place (x : Nat) : List Nat := [s.posState x, s.get R.GN_POSx_X_X x, s.get R.GN_POSx_Y_Y x, s.get R.GN_POSx_Z_Z x]
  let recs := [keptRec 0 0 [s.keeper]] ++ pos.map (fun x => keptRec 1 x (place x))
    ++ s.gn.eph.map (fun e => keptRec 2 e.1 [e.2]) ++ s.gn.alm.map (fun e => keptRec 3 e.1 [e.2])
    ++ [keptRec 4 0 s.gn.utc, keptRec 5 0 s.gn.inter, keptRec 5 1 (s.gn.offsets.map (wrap 64)),
        keptRec 6 0 [wrap 64 (s.clockOffset 0)], keptRec 6 1 [wrap 64 (s.clockOffset 1)]]
  { s with us := { s.us with kept := recs } }

/-- KEPT_DATA_REWRITE (R247). -/
def execKeptDataRewrite (dt : Nat) (s : State) : Host.Outcome State Fault Refusal :=
  let s := s.elapse dt
  .next (if !s.gn.chans.isEmpty && decide (s.gn.lastKept + 60 * 10 ^ 12 ≤ s.clk) then
      { s.keepGnss with gn := { s.gn with lastKept := s.clk } } else s)

/-- The records of a kind that pass their check, each as what it is of and its words; the others are discarded. -/
def State.keptOf (s : State) (kind : Nat) : List (Nat × List Nat) :=
  (s.us.kept.filter fun r => r.good && r.kind == kind).map fun r => (r.key, r.data)

/-- The words of a kept record, where it is held. -/
def State.keptData (s : State) (kind key : Nat) : Option (List Nat) := ((s.keptOf kind).find? fun e => e.1 == key).map Prod.snd

/-- The kind of start of an antenna: 2 HOT, 1 WARM, 0 COLD (R248). The time uncertainty is 50 ppm of the
keeper time since the data were kept, plus 30.5 µs. -/
def State.startKind (s : State) (x : Nat) : Nat :=
  match s.keptData 0 0, s.keptData 1 x with
  | some [at_], some [_, px, py, pz] =>
    let within (sec : Nat) : Bool := decide ((s.keeper - at_) * 50 * 10 ^ 6 + 305 * 32768 * 10 ^ 5 ≤ sec * 32768 * 10 ^ 12)
    let young (age : Nat) (e : Nat × List Nat) : Bool := decide (s.keeper - e.2.headD 0 ≤ keeperSecs age)
    let seen := (s.keptOf 2).filter fun e => young 14400 e
      && decide ((s.get R.GN_TIM_CFG_ELEV_MASK : Int) < Config.expectedElev e.1 s.keeper (px, py, pz))
    if decide (4 ≤ seen.length) && within 1 then 2
    else if (s.keptOf 3).any (young (90 * 86400)) && within 10 then 1 else 0
  | _, _ => 0

/-- Start the receiver from its kept data: the held position is known again (R248). -/
def State.startGnss (s : State) : State :=
  let t := [0, 1].foldl (fun s x =>
    let t := (s.set R.GN_SOLx_STAT_START (s.startKind x) x).gnAntUpd x fun a => { a with started := false, passFrom := none, hist := [] }
    match s.keptData 1 x with
    | some [2, px, py, pz] => if s.get R.GN_TIM_CFG_POS_MODE = 0 then
          t.writes [{ f := R.GN_POSx_X_X, i := x, v := px }, { f := R.GN_POSx_Y_Y, i := x, v := py },
            { f := R.GN_POSx_Z_Z, i := x, v := pz }, { f := R.GN_SOLx_STAT_POS_STATE, i := x, v := 2 }] else t
    | _ => t) s
  let times (kind : Nat) : Tab Nat := (s.keptOf kind).map fun e => (e.1, e.2.headD 0)
  { t with gn := { t.gn with
      eph := times 2, alm := times 3, utc := (s.keptData 4 0).getD [], inter := (s.keptData 5 0).getD []
      offsets := ((s.keptData 5 1).getD []).map (sext 64) } }.gnSync

/-- What P3 takes from the receiver (R246, R558): its registers but for the configuration class, its channels, FIFOs and
histories. A failed check is not forgotten: TRUSTED returns only after TRUST_HOLD (DEDUCED, log entry 208). -/
def State.loseGnss (s : State) : State :=
  let ants : Tab GnAnt := s.gn.ants.map fun e => (e.1, { second := e.2.second, failed := e.2.failed })
  ({ s with gn := { ants := ants, stepped := s.gn.stepped } }).loseRegs (blockRegs 31)

/-- Put the receiver to sleep: the kept data are saved and the baseband enters P3 (R246). A survey in
progress starts again after the sleep (R240). -/
def State.sleepGnss (s : State) : State :=
  if s.gnAsleep then s else ((s.keepGnss.loseGnss.setBlk 31 3).gnSync).raise 101 (31 + 3 * 2 ^ 8)

/-- Wake the receiver: its configuration is restored and it starts from its kept data. -/
def State.wakeGnss (s : State) : State := (((s.setBlk 31 0).restoreRegs (blockRegs 31)).startGnss).raise 101 31

/-! ### The GNSS command group (R259) -/

/-- GNSS.STATUS. -/
def cmdGnssStatus : Cmd where
  op := 0x1301
  any := true
  acts := false
  need := 1
  entry _ := 31
  body c s :=
    let x := c.bits 1 0 0
    let u (k : Nat) : Nat := s.gn.utc.getD k 0
    let s := s.solSync x
    done s [s.word R.GN_SOLx_STAT x, s.get R.GN_SOLx_OFS_LO_OFS x, s.get R.GN_SOLx_OFS_HI_OFS x, s.word R.GN_INx_STAT x,
      u 0 % 2 ^ 16, u 1 % 2 ^ 16 + u 2 % 2 ^ 8 * 2 ^ 16 + u 3 % 2 ^ 8 * 2 ^ 24]

/-- GNSS_STATUS. -/
def execGnssStatus (r : Req) (s : State) : Host.Outcome State Fault Refusal :=
  .next (s.exchange (some cmdGnssStatus) cmdGnssStatus.op r)

/-- The SIGEN bits of an input's configuration word that its rate allows (R235). -/
def sigenOk (x w gn : Nat) : Nat :=
  let band := if bitOf gn 0 then x else bits w 28 28
  let rate := bits w 23 17
  let sig := bits w 26 24
  let keep (i : Nat) : Nat := b2n (bitOf sig i && decide ([4, 8, 8, 24, 24, 24].getD (3 * band + i) 99 ≤ rate)) * 2 ^ i
  keep 0 + keep 1 + keep 2

/-- A notch's writes: FREQ only in FIXED (R254). -/
def notchWrites (x k w : Nat) : List FieldWrite :=
  (R.GN_NOTCHx_k.writes w x k).filter fun f => f.f.lo != 0 || bits w 31 30 == 2

/-- The solution timebase has changed: the JUMP history starts again (R252). -/
def State.gnRetime (s old : State) : State :=
  if s.get R.GN_CFG_TB = old.get R.GN_CFG_TB then s
  else [0, 1].foldl (fun s x => s.gnAntUpd x fun a => { a with hist := [] }) s

/-- After a change of the configuration: a disabled input loses its clock and its channels, a channel whose signal is no
longer tracked, or whose satellite is not above ELEV_MASK, stops, and a fixed notch is active. -/
def State.gnInputChanged (s : State) (x : Nat) : State :=
  let t := { s with gn := { s.gn with chans := s.gn.chans.filter fun c => c.input != x
    || (s.gnRuns x && s.sigOn x c.sig && decide (s.get R.GN_TIM_CFG_ELEV_MASK < c.elev)) } }
  let t := if s.gnRuns x then t else (t.set R.GN_INx_STAT_CLK_OK 0 x).set R.GN_INx_STAT_CLK_SYNC 0 x
  ((List.range 4).foldl (fun s k => if s.get R.GN_NOTCHx_k_MODE x k == 1 then s else s.setNotch x k (s.get R.GN_NOTCHx_k_MODE x k == 2)) t).gnSync

/-- The writes of GNSS.INPUT_CFG for input x: SIGEN of both inputs keeps the signals that SRATE and the band allow (R235). -/
def State.gnssInput (s : State) (c : Ctx) : List FieldWrite :=
  let x := c.bits 1 0 0
  let sig (x w : Nat) : List FieldWrite := [{ f := R.GN_INx_CFG_SIGEN, i := x, v := sigenOk x w (c.arg 7) }]
  R.GN_INx_CFG.writes (c.arg 2) x ++ sig x (c.arg 2) ++ sig (1 - x) (s.word R.GN_INx_CFG (1 - x))
  ++ (List.range 4).flatMap (fun k => notchWrites x k (c.arg (3 + k))) ++ R.GN_CFG.writes (c.arg 7)

/-- GNSS.INPUT_CFG. -/
def cmdGnssInputCfg : Cmd where
  op := 0x1302
  need := 7
  entry _ := 31
  body c s :=
    need (R.GN_INx_CFG.ok (c.arg 2) && (List.range 4).all (fun k => R.GN_NOTCHx_k.ok (c.arg (3 + k))) && R.GN_CFG.ok (c.arg 7)
      && (s.tbOn (c.bits 7 15 13) || (c.mb.isNone && c.bits 7 15 13 == s.get R.GN_CFG_TB))) .badArg s <|
    writeCfg s (s.gnssInput c) fun t => done (((t.gnRetime s).gnInputChanged 0).gnInputChanged 1)

/-- GNSS_INPUT_CFG. -/
def execGnssInputCfg (r : Req) (s : State) : Host.Outcome State Fault Refusal :=
  .next (s.exchange (some cmdGnssInputCfg) cmdGnssInputCfg.op r)

/-- A change of the antenna delay shifts the JUMP prediction by the same amount: a longer delay brings
OFS down (R239, R244). -/
def State.antShift (s old : State) (x : Nat) : State :=
  s.gnAntUpd x fun a => { a with hist := a.hist.map fun e => (e.1, e.2 - (s.antDelay x - old.antDelay x)) }

/-- A change of POS_MODE restarts the survey at the next solution (R240). -/
def State.posChanged (s old : State) : State :=
  if s.get R.GN_TIM_CFG_POS_MODE = old.get R.GN_TIM_CFG_POS_MODE then s
  else [0, 1].foldl (fun s x => (s.set R.GN_SOLx_STAT_POS_STATE 0 x).gnAntUpd x fun a => { a with survey := none }) s

/-- GNSS.TIMING_CFG; a position applies in FIXED only (R255). -/
def cmdGnssTimingCfg : Cmd where
  op := 0x1303
  need := 9
  entry _ := 31
  body c s :=
    let pos (x k : Nat) : List FieldWrite := [{ f := R.GN_POSx_X_X, i := x, v := c.arg k },
      { f := R.GN_POSx_Y_Y, i := x, v := c.arg (k + 1) }, { f := R.GN_POSx_Z_Z, i := x, v := c.arg (k + 2) }]
    need (R.GN_TIM_CFG.ok (c.arg 1) && R.GN_ANT_DLYx.ok (c.arg 2) && R.GN_ANT_DLYx.ok (c.arg 3)) .badArg s <|
    writeCfg s (R.GN_TIM_CFG.writes (c.arg 1) ++ R.GN_ANT_DLYx.writes (c.arg 2) 0 ++ R.GN_ANT_DLYx.writes (c.arg 3) 1
      ++ (if c.bits 1 31 30 = 1 then pos 0 4 ++ pos 1 7 else []))
      fun t => done (((((t.antShift s 0).antShift s 1).posChanged s).gnInputChanged 0).gnInputChanged 1)

/-- GNSS_TIMING_CFG. -/
def execGnssTimingCfg (r : Req) (s : State) : Host.Outcome State Fault Refusal :=
  .next (s.exchange (some cmdGnssTimingCfg) cmdGnssTimingCfg.op r)

/-- GNSS.TRUST_CFG. -/
def cmdGnssTrustCfg : Cmd where
  op := 0x1304
  need := 2
  entry _ := 31
  body c s :=
    need (R.GN_TRUST_CFG0.ok (c.arg 1) && R.GN_TRUST_CFG1.ok (c.arg 2)) .badArg s <|
    writeCfg s (R.GN_TRUST_CFG0.writes (c.arg 1) ++ R.GN_TRUST_CFG1.writes (c.arg 2)) done

/-- GNSS_TRUST_CFG. -/
def execGnssTrustCfg (r : Req) (s : State) : Host.Outcome State Fault Refusal :=
  .next (s.exchange (some cmdGnssTrustCfg) cmdGnssTrustCfg.op r)

/-- GNSS.READ, under the FIFO's semaphore (R249, R492). -/
def cmdGnssRead : Cmd where
  op := 0x1306
  any := true
  need := 1
  entry _ := 31
  body c s :=
    let nav := c.bit 1 0
    let k := c.bits 1 10 8
    need (decide (1 ≤ k)) .badArg s <| underSem c s 31 (if nav then 35 else 34) <|
    let (ws, t) := s.gnPopN nav k
    done t (ws.length / 8 :: ws)

/-- GNSS_READ. -/
def execGnssRead (r : Req) (s : State) : Host.Outcome State Fault Refusal :=
  .next (s.exchange (some cmdGnssRead) cmdGnssRead.op r)

/-- GNSS.SLEEP (R246). -/
def cmdGnssSleep : Cmd where
  op := 0x1307
  acts := false
  need := 1
  entry _ := 31
  body c s :=
    let wake := c.bit 1 0
    need (s.gnAsleep == wake) .busy s <| unlessLocked s 31 <| done (if wake then s.wakeGnss else s.sleepGnss)

/-- GNSS_SLEEP. -/
def execGnssSleep (r : Req) (s : State) : Host.Outcome State Fault Refusal :=
  .next (s.exchange (some cmdGnssSleep) cmdGnssSleep.op r)

/-- GNSS.FE_SPI (R234): the bytes read are what the front end drives on MISO, free values of this
model. -/
def cmdGnssFeSpi : Cmd where
  op := 0x1308
  need := 3
  entry _ := 31
  body c s :=
    let x := c.bits 1 0 0
    let n := c.bits 1 11 8
    need (decide (1 ≤ n) && decide (n ≤ 8)) .badArg s <| need (s.gnRuns x) .notInMode s <|
    let (v, t) := s.draw (8 * n)
    done (t.emit (.spi x (leBytes n (c.arg 2 + 2 ^ 32 * c.arg 3)))) [v % 2 ^ 32, v / 2 ^ 32]

/-- GNSS_FE_SPI. -/
def execGnssFeSpi (r : Req) (s : State) : Host.Outcome State Fault Refusal :=
  .next (s.exchange (some cmdGnssFeSpi) cmdGnssFeSpi.op r)

end Sys2Proof.Machine
end

