-- ==== Sys2Proof/Machine/Telemetry.lean ====
section
/-! DEFINITION. Telemetry: counters and their configuration, bandwidth meters, the Tally's ring, the event block
at its registers, and the TEL command group (R525 to R557). -/

namespace Sys2Proof.Machine

/-! ### Programmable counters (R530 to R532) -/

/-- A counter's number: grove × 8 + j, or 96 + k. -/
def cntNo (global : Bool) (g k : Nat) : Nat := if global then 96 + k else 8 * g + k

/-- An event number that a counter may count: a grove counter only those of its own ports (R531). -/
def evnumOk (global : Bool) (g ev port : Nat) : Bool :=
  decide (port < 48) && (ev == 0x3FF || (decide (ev ≤ 0x64) && (global || port / 4 == g))
    || (global && decide (0x100 ≤ ev) && decide (ev ≤ 0x1FF)))

/-- The fields of a counter's registers. -/
def cntEn (global : Bool) : Fld := if global then R.TL_CNTk_CFG_EN else R.TL_GCNTg_j_CFG_EN
def cntEv (global : Bool) : Fld := if global then R.TL_CNTk_CFG_EVNUM else R.TL_GCNTg_j_CFG_EVNUM
def cntPort (global : Bool) : Fld := if global then R.TL_CNTk_CFG_PORT else R.TL_GCNTg_j_CFG_PORT
def cntMatch (global : Bool) : Fld := if global then R.TL_CNTk_AUX_MATCH else R.TL_GCNTg_j_AUX_MATCH
def cntLimit (global : Bool) : Fld := if global then R.TL_CNTk_ALM_LIMIT else R.TL_GCNTg_j_ALM_LIMIT

/-- The writes of a counter's CFG, AUX and ALM words. -/
def cntWrites (global : Bool) (g k w0 w1 w2 : Nat) : List FieldWrite :=
  let (i, j) := if global then (k, 0) else (g, k)
  [{ f := cntEn global, i := i, j := j, v := bits w0 31 31 }, { f := cntEv global, i := i, j := j, v := bits w0 25 16 },
   { f := cntPort global, i := i, j := j, v := bits w0 5 0 }, { f := cntMatch global, i := i, j := j, v := bits w1 15 0 },
   { f := cntLimit global, i := i, j := j, v := w2 }]

/-- A configured counter restarts from 0. -/
def State.restartCnt (s : State) (global : Bool) (g k : Nat) : State :=
  let (i, j) := if global then (k, 0) else (g, k)
  let n := cntNo global g k
  if s.on (cntEn global) i j then
    { s with progCnt := Tab.put s.progCnt n { ev := s.get (cntEv global) i j, port := s.get (cntPort global) i j
                                              mtch := s.get (cntMatch global) i j } }
  else { s with progCnt := Tab.del s.progCnt n }

/-- A direct write of one of a counter's three registers: refused as a whole where the counter would count an event
it may not (R530, R553). -/
def State.cntRegWrite (s : State) (global : Bool) (g k w v : Nat) : State :=
  let (i, j) := if global then (k, 0) else (g, k)
  let ws := (cntWrites global g k v v v).filter fun x => (x.f.addr % 16) / 4 == w
  if w = 0 && !evnumOk global g (bits v 25 16) (bits v 5 0) then s
  else if decide (3 ≤ w) || decide (i ≥ (if global then 32 else 12)) || decide (8 ≤ j) then s
  else (s.writes ws).restartCnt global g k

/-- Where an address stands among the counters' registers: scope, grove, counter and word. -/
def cntAt (addr : Nat) : Option (Bool × Nat × Nat × Nat) :=
  let o := addr - 0x678000
  if addr < 0x678000 ∨ addr % 16 = 12 then none
  else if 0x400 ≤ o ∧ o < 0xA00 then some (false, (o - 0x400) / 0x80, (o - 0x400) % 0x80 / 16, o % 16 / 4)
  else if 0x1000 ≤ o ∧ o < 0x1200 then some (true, 0, (o - 0x1000) / 16, o % 16 / 4)
  else none

/-- COUNTER_CFG_WRITE (R553). -/
def execCounterCfgWrite (init addr v : Nat) (s : State) : Host.Outcome State Fault Refusal :=
  .next (match cntAt addr with
    | some (gl, g, k, w) =>
      s.directWrite init addr ((cntWrites gl g k v v v).filter fun x => (x.f.addr % 16) / 4 == w)
        fun s => s.cntRegWrite gl g k w v
    | none => s.directWrite init addr [] id)

/-- The LIMIT of a programmable counter, those of the groups first (R532). -/
def State.cntLimit (s : State) (n : Nat) : Nat :=
  if n < 96 then s.get R.TL_GCNTg_j_ALM_LIMIT (n / 8) (n % 8) else s.get R.TL_CNTk_ALM_LIMIT (n - 96)

/-- The end of a 1 ms window of the thresholds (R532): every counter with a LIMIT that advanced so far in it raises
CNT_THRESH, and the next window starts. -/
def State.endCntWindow (s : State) : State :=
  let hot := s.progCnt.filter fun e =>
    s.cntLimit e.1 != 0 && decide (s.cntLimit e.1 ≤ (e.2.value + 2 ^ 48 - e.2.mark) % 2 ^ 48)
  let t := { s with cntWin := s.clk / 10 ^ 9, progCnt := s.progCnt.map fun e => (e.1, { e.2 with mark := e.2.value }) }
  hot.foldl (fun (s : State) e => s.raise 96 e.1) t

/-- CNT_THRESH (R532): at the end of a 1 ms window, each counter with a LIMIT that advanced so far. -/
def execCntThresh (dt : Nat) (s : State) : Host.Outcome State Fault Refusal :=
  let s := s.elapse dt
  .next (if s.clk / 10 ^ 9 ≤ s.cntWin then s else s.endCntWindow)

/-- A port's meters. -/
def State.bwOf (s : State) (p : Nat) : Bw := Tab.get {} s.bw p

/-- A write of a port's meter registers restarts its meters; the published result stays. -/
def State.restartBw (s : State) (p : Nat) : State :=
  let o := s.lineTime - s.lineTime % secUnit
  { s with bw := Tab.put s.bw p { result := (s.bwOf p).result, origin := o, index := s.bwIndex p o } }

/-- Field writes whose values lie in their ranges; the others leave their fields unchanged (R660). -/
def inRangeWrites (ws : List FieldWrite) : List FieldWrite := ws.filter fun w => w.f.inRange w.v

/-- The writes of word w of a port's meter registers. -/
def bwWrites (p w v : Nat) : List FieldWrite :=
  match w with
  | 0 => R.TL_BWp_CFG.writes v p
  | 1 => R.TL_BWp_PER.writes v p
  | 2 => R.TL_BWp_ALM.writes v p
  | _ => []

/-- BW_CFG_WRITE (R554). -/
def execBwCfgWrite (init addr v : Nat) (s : State) : Host.Outcome State Fault Refusal :=
  let o := addr - 0x67A000
  let p := o / 16
  let ws := inRangeWrites (bwWrites p (o % 16 / 4) v)
  .next (if addr < 0x67A000 ∨ 48 ≤ p then s.directWrite init addr [] id
    else s.directWrite init addr ws fun s => (s.writes ws).restartBw p)

/-- A window of one direction, with the bytes it summed, enters the period. -/
def Meter.close (m : Meter) (first : Bool) (n : Nat) : Meter :=
  { pmin := if first then n else min m.pmin n, pmax := max m.pmax n, ptotal := m.ptotal + n }

/-- The bytes of one direction in the window in progress. -/
def Bw.sum (b : Bw) (tx : Bool) : Nat :=
  ((b.frames.filter fun f => decide (f.1 ≤ b.index) && f.2.1 == tx).map fun f => f.2.2).sum

/-- A window ends at a boundary: the first boundary only starts the period, and a window that a step ended is left
out. -/
def State.endWindow (s : State) (p : Nat) : State :=
  let b := s.bwOf p
  let put (s : State) (b : Bw) : State := { s with bw := Tab.put s.bw p b }
  let next : Bw := { b with index := b.index + 1, frames := b.frames.filter fun f => decide (b.index < f.1) }
  if !b.started then put s { next with started := true, skip := false }
  else if b.skip then put s { next with skip := false, windows := b.windows + 1 }
  else
    let lim := s.get R.TL_BWp_ALM_ALARM p * 256
    let hot (n : Nat) : Bool := lim != 0 && decide (lim < n)
    let alarm := !b.alarmed && (hot (b.sum false) || hot (b.sum true))
    let t := put s { next with windows := b.windows + 1, used := b.used + 1, alarmed := b.alarmed || alarm
                               rx := b.rx.close (b.used == 0) (b.sum false), tx := b.tx.close (b.used == 0) (b.sum true) }
    if alarm then t.raise 97 (det2 p (b2n (!hot (b.sum false)))) else t

/-- A frame in reception on a port belongs to the window in progress of its meters. -/
def State.bwOwed (s : State) (p : Nat) : Bool := match Tab.find? s.cl.rx p with
  | some r => decide (s.bwBefore p (s.bwOf p).origin (s.absOf r.line) ≤ (s.bwOf p).index)
  | none => false

/-- A window boundary of a port's meters has passed, every frame of the window has been counted, and its period has
room for a window. -/
def State.windowOver (s : State) (p : Nat) : Bool :=
  s.on R.TL_BWp_CFG_EN p && decide ((s.bwOf p).index < s.bwIndex p (s.bwOf p).origin) && !s.bwOwed p
  && decide ((s.bwOf p).windows < s.get R.TL_BWp_PER_PERIOD_N p)

/-- BW_WINDOW_END (R533). -/
def execBwWindowEnd (dt p : Nat) (s : State) : Host.Outcome State Fault Refusal :=
  let s := s.elapse dt
  let p := p % 48
  .next (if s.windowOver p then s.endWindow p else s)

/-- Publish a period: the minimum and maximum of a period without a used window are open. -/
def State.publish (s : State) (p : Nat) : State :=
  let b := s.bwOf p
  let (a0, s) := if b.used = 0 then s.draw 48 else (b.rx.pmin, s)
  let (a1, s) := if b.used = 0 then s.draw 48 else (b.rx.pmax, s)
  let (c0, s) := if b.used = 0 then s.draw 48 else (b.tx.pmin, s)
  let (c1, s) := if b.used = 0 then s.draw 48 else (b.tx.pmax, s)
  let two (v : Nat) : List Nat := [v % 2 ^ 32, v / 2 ^ 32 % 2 ^ 32]
  let r := [(b.result.getD 0 0 + 1) % 2 ^ 32, b2n b.stepped * 2 ^ 31 + b.used % 65536]
    ++ two (a0 % 2 ^ 48) ++ two (a1 % 2 ^ 48) ++ two (b.rx.ptotal % 2 ^ 64)
    ++ two (c0 % 2 ^ 48) ++ two (c1 % 2 ^ 48) ++ two (b.tx.ptotal % 2 ^ 64)
  { s with bw := Tab.put s.bw p { started := true, origin := b.origin, index := b.index, result := r, frames := b.frames
                                  skip := b.skip } }

/-- BW_PERIOD_END (R535). -/
def execBwPeriodEnd (dt p : Nat) (s : State) : Host.Outcome State Fault Refusal :=
  let s := s.elapse dt
  let p := p % 48
  .next (if s.on R.TL_BWp_CFG_EN p && decide (s.get R.TL_BWp_PER_PERIOD_N p ≤ (s.bwOf p).windows) then s.publish p else s)

/-! ### The counter window (R526, R527) -/

/-- The 48-bit value whose LO word stands at an offset of the window. -/
def State.cntValue (s : State) (o : Nat) : Option Nat :=
  if o < 0x6000 ∧ o % 8 = 0 then some (Tab.get 0 s.fixedCnt (64 * (o / 0x200) + o % 0x200 / 8))
  else if 0x8000 ≤ o ∧ o < 0x8300 ∧ o % 8 = 0 then some ((Tab.find? s.progCnt ((o - 0x8000) / 8)).elim 0 ProgCnt.value)
  else if 0x9000 ≤ o ∧ o < 0x9100 ∧ o % 8 = 0 then some ((Tab.find? s.progCnt (96 + (o - 0x9000) / 8)).elim 0 ProgCnt.value)
  else if 0xA000 ≤ o ∧ o < 0xAC00 ∧ [0x08, 0x10, 0x20, 0x28].contains ((o - 0xA000) % 0x40) then
    let r := (s.bwOf ((o - 0xA000) / 0x40)).result
    let k := (o - 0xA000) % 0x40 / 4
    some (r.getD k 0 + 2 ^ 32 * r.getD (k + 1) 0)
  else none

/-- A word of the bandwidth results that is no half of a 48-bit value. -/
def State.bwWord (s : State) (o : Nat) : Nat :=
  if 0xA000 ≤ o ∧ o < 0xAC00 then (s.bwOf ((o - 0xA000) / 0x40)).result.getD ((o - 0xA000) % 0x40 / 4) 0 else 0

/-- A read of a word of the window by an initiator: a LO word latches its HI bits. -/
def State.cntRead (s : State) (init o : Nat) : Nat × State :=
  match s.cntValue o with
  | some v => (v % 2 ^ 32, { s with hi := { s.hi with latch := Tab.put s.hi.latch init (o, v / 2 ^ 32) } })
  | none =>
    if 4 ≤ o then
      match s.cntValue (o - 4) with
      | some v => (match Tab.find? s.hi.latch init with
          | some l => if l.1 = o - 4 then l.2 else v / 2 ^ 32
          | none => v / 2 ^ 32, s)
      | none => (s.bwWord o, s)
    else (0, s)

/-- COUNTER_LO_READ (R526): the debug port does not reach the window (R627). -/
def execCounterLoRead (init off : Nat) (s : State) : Host.Outcome State Fault Refusal :=
  let s := s.quiet
  let o := off % 0xB000 - off % 4
  .next (match s.checkAccess init (0x300000 + o) false with
    | some v => s.violate v init (0x300000 + o) 0
    | none =>
      let (v, t) := s.cntRead init o
      t.emit (.readData init [v]))

/-! ### The Tally's ring (R538 to R541) -/

/-- The ring's size in bytes. -/
def State.ringSize (s : State) : Nat := 2 ^ s.get R.TL_RING_CFG_SIZE_LOG

/-- Bytes between RP and WP. -/
def State.ringFill (s : State) : Nat :=
  (s.get R.TL_RING_WP_WP + s.ringSize - s.get R.TL_RING_RP_RP % s.ringSize) % s.ringSize

/-- The ring's base. -/
def State.ringBase (s : State) : Nat := s.get64 R.TL_RING_BASE_LO_BASE R.TL_RING_BASE_HI_BASE

/-- The function whose world writes the records. -/
def State.tallyFn (s : State) : Nat := b2n (s.entryNonSecure 34)

/-- A record is lost; one that does not fit also sets OVF and raises TALLY_OVF. -/
def State.ringLost (s : State) (full : Bool) : State :=
  let t := s.incSat R.TL_RING_STAT_LOST
  if full then (t.set R.TL_RING_STAT_OVF 1).raise 99 else t

/-- Write a record's bytes at WP, wrapping at the end of the ring. -/
def State.ringPut (s : State) (bytes : List Byte) : State :=
  let wp := s.get R.TL_RING_WP_WP % s.ringSize
  let a := bytes.take (s.ringSize - wp)
  let b := bytes.drop (s.ringSize - wp)
  let base := s.ringBase
  let t := s.set R.TL_RING_WP_WP ((wp + bytes.length) % s.ringSize)
  if s.on R.TL_RING_CFG_HOST then
    let t := t.emit (.dma s.tallyFn (base + wp) a)
    let t := if b.isEmpty then t else t.emit (.dma s.tallyFn base b)
    t.emit (.dma s.tallyFn (s.get64 R.TL_RING_WPA_LO_WPA R.TL_RING_WPA_HI_WPA) (leBytes 4 (t.get R.TL_RING_WP_WP)))
  else { t with csram := Memory.writeBytes csramBlank (Memory.writeBytes csramBlank t.csram (base + wp) a) base b }

/-- Write a capture's record to the ring, or lose it. -/
def State.ringRecord (s : State) (c : Capture) : State :=
  let bytes := (c.words.flatMap fun w => leBytes 4 w) ++ c.bytes
  let fill := s.ringFill
  let thr := s.ringSize * (s.get R.TL_RING_CFG_WM + 1) / 8
  if !s.on R.TL_RING_CFG_EN then s.ringLost false
  else if s.on R.TL_RING_CFG_HOST && !(Tab.get ({} : Pf) s.pf s.tallyFn).bme then s.ringLost false
  else if s.ringSize ≤ fill + bytes.length then s.ringLost true
  else
    let t := s.ringPut bytes
    if decide (fill < thr) && decide (thr ≤ fill + bytes.length) then t.raise 98 else t

/-- The record of a capture is written, and the copy that it kept of its frame let go (R538). -/
def State.tallyRecord (s : State) (c : Capture) : State :=
  let t := s.ringRecord c
  match c.frame with
  | none => t
  | some id =>
    let down (f : Frame) : Frame := { f with waiting := f.waiting - 1 }
    match Tab.find? t.cl.frames id with
    | some f => ({ t with cl := { t.cl with frames := Tab.put t.cl.frames id (down f) } }).release id
    | none => t

/-- TALLY_DMA (R538): the oldest waiting capture is read, its record written, and its frame let go. -/
def execTallyDma (dt : Nat) (s : State) : Host.Outcome State Fault Refusal :=
  let s := s.elapse dt
  .next (match s.tally.waiting with
    | [] => s
    | c :: rest => ({ s with tally := { s.tally with waiting := rest } } : State).tallyRecord c)

/-- The bits of a group of 32 events that an initiator reaches. -/
def State.evMask (s : State) (init i : Nat) : Nat :=
  if s.initSecure init then 2 ^ 32 - 1
  else (List.range 32).foldl (fun a j => if s.eventNonSecure (32 * i + j) then a + 2 ^ j else a) 0

/-- Bits of a word outside another. -/
def andNot (a b : Nat) : Nat := Nat.xor a (Nat.land a b)

/-- Writing 1 to a set bit clears it; every vector left pending is signalled again. -/
def State.evClear (s : State) (init i v : Nat) : State :=
  let w := s.get R.EV_STATUSi_STATUS i
  (s.set R.EV_STATUSi_STATUS (andNot w (Nat.land (v % 2 ^ 32) (s.evMask init i))) i).signal s true

/-- EV_STATUS_CLEAR (R542). -/
def execEvStatusClear (init i v : Nat) (s : State) : Host.Outcome State Fault Refusal :=
  let i := i % 4
  .next (s.directWrite init (0x100000 + 4 * i) [] fun s => s.evClear init i v)

/-- Software raises: a non-secure write reaches the upper four alone (R548). -/
def State.swRaise (s : State) (init v : Nat) : State :=
  (List.range 8).foldl (fun s n =>
    if bitOf v n && (s.initSecure init || decide (4 ≤ n)) then s.raise (120 + n) init else s) s

/-- SWEVT (R548). -/
def execSwevt (init v : Nat) (s : State) : Host.Outcome State Fault Refusal :=
  .next (s.directWrite init 0x100030 [] fun s => s.swRaise init v)

/-- A read of W0 of a record window pops its oldest entry and latches the other words (R547). -/
def State.evPop (s : State) (nonSecure : Bool) : Nat × State :=
  let l := if nonSecure then s.ev.nonFifo else s.ev.secFifo
  match l with
  | [] => (2 ^ 31, { s with ev := if nonSecure then { s.ev with nonLatch := {} } else { s.ev with secLatch := {} } })
  | r :: rest => (r.w0, { s with ev := if nonSecure then { s.ev with nonLatch := r, nonFifo := rest }
      else { s.ev with secLatch := r, secFifo := rest } })

/-- EVREC_POP (R547, R551). -/
def execEvrecPop (init : Nat) (nonSecure : Bool) (s : State) : Host.Outcome State Fault Refusal :=
  let s := s.quiet
  let addr := if nonSecure then 0x100050 else 0x100040
  .next (match s.checkAccess init addr false with
    | some v => s.violate v init addr 0
    | none =>
      let (w, t) := s.evPop nonSecure
      t.emit (.readData init [w]))

/-- EV_REC_STAT as an initiator of a world reads it (R550). -/
def State.recStat (s : State) (secure : Bool) : Nat :=
  (if secure then s.get R.EV_REC_STAT_S_OVF * 2 ^ 31 + s.ev.secFifo.length * 2 ^ 16 else 0)
  + s.get R.EV_REC_STAT_N_OVF * 2 ^ 30 + s.ev.nonFifo.length

/-! ### The TEL command group (R557) -/

/-- TEL.STATUS. -/
def cmdTelStatus : Cmd where
  op := 0x3101
  any := true
  acts := false
  entry _ := 35
  body c s := done s [s.recStat c.secure, s.word R.TL_RING_CFG, s.word R.TL_RING_WP, s.word R.TL_RING_RP, s.word R.TL_RING_STAT]

/-- TEL_STATUS. -/
def execTelStatus (r : Req) (s : State) : Host.Outcome State Fault Refusal :=
  .next (s.exchange (some cmdTelStatus) cmdTelStatus.op r)

/-- TEL.COUNTER_CFG. -/
def cmdTelCounterCfg : Cmd where
  op := 0x3102
  need := 4
  entry _ := 33
  body c s :=
    let gl := c.bit 1 0
    let g := if gl then 0 else c.bits 1 11 8
    let k := c.bits 1 20 16
    need (decide (g < 12) && (gl || decide (k < 8)) && evnumOk gl g (c.bits 2 25 16) (c.bits 2 5 0)) .badArg s <|
    writeCfg s (cntWrites gl g k (c.arg 2) (c.arg 3) (c.arg 4)) fun t => done (t.restartCnt gl g k)

/-- TEL_COUNTER_CFG. -/
def execTelCounterCfg (r : Req) (s : State) : Host.Outcome State Fault Refusal :=
  .next (s.exchange (some cmdTelCounterCfg) cmdTelCounterCfg.op r)

/-- The offset of a counter of a kind in the window. -/
def cntOff (kind g k : Nat) : Nat :=
  if kind = 0 then 0x200 * g + 8 * k else if kind = 1 then 0x8000 + 0x40 * g + 8 * k else 0x9000 + 8 * k

/-- TEL.READ: what word 1 counts for the bandwidth results is open. -/
def cmdTelRead : Cmd where
  op := 0x3103
  any := true
  need := 1
  acts := false
  entry _ := 33
  body c s :=
    let kind := c.bits 1 1 0
    let g := c.bits 1 13 8
    let first := c.bits 1 21 16
    let count := c.bits 1 28 24
    let last := if kind = 0 then 63 else if kind = 1 then 7 else 31
    need (decide (g < if kind = 1 then 12 else if kind = 2 then 64 else 48)
      && (kind == 3 || (decide (first ≤ last) && decide (1 ≤ count) && decide (count ≤ 30)))) .badArg s <|
    if kind = 3 then
      let (n, t) := s.draw 32
      done t (n :: (List.range 14).map fun k => (s.bwOf g).result.getD k 0)
    else
      let n := min count (last + 1 - first)
      done s (n :: (List.range n).flatMap fun k =>
        let v := (s.cntValue (cntOff kind g (first + k))).getD 0
        [v % 2 ^ 32, v / 2 ^ 32])

/-- TEL_READ. -/
def execTelRead (r : Req) (s : State) : Host.Outcome State Fault Refusal :=
  .next (s.exchange (some cmdTelRead) cmdTelRead.op r)

/-- TEL.WINDOW_CFG. -/
def cmdTelWindowCfg : Cmd where
  op := 0x3104
  need := 4
  entry _ := 33
  body c s :=
    let p := c.bits 1 5 0
    need (decide (p < 48) && R.TL_BWp_CFG.ok (c.arg 2) && R.TL_BWp_PER.ok (c.arg 3)) .badArg s <|
    writeCfg s (bwWrites p 0 (c.arg 2) ++ bwWrites p 1 (c.arg 3) ++ bwWrites p 2 (c.arg 4)) fun t => done (t.restartBw p)

/-- TEL_WINDOW_CFG. -/
def execTelWindowCfg (r : Req) (s : State) : Host.Outcome State Fault Refusal :=
  .next (s.exchange (some cmdTelWindowCfg) cmdTelWindowCfg.op r)

/-- The writes of word w of a sampler's registers. -/
def samplerWrites (k w v : Nat) : List FieldWrite :=
  match w with
  | 0 => R.TL_TSs_CFG.writes v k
  | 1 => R.TL_TSs_PORT_LO.writes v k
  | 2 => R.TL_TSs_PORT_HI.writes v k
  | 3 => R.TL_TSs_N.writes v k
  | 4 => R.TL_TSs_FLOW.writes v k
  | _ => []

/-- The writes of word w of the ring's registers, in the order RING_CFG, BASE and WPA. -/
def ringWrites (w v : Nat) : List FieldWrite :=
  match w with
  | 0 => R.TL_RING_CFG.writes v
  | 1 => R.TL_RING_BASE_LO.writes v
  | 2 => R.TL_RING_BASE_HI.writes v
  | 3 => R.TL_RING_WPA_LO.writes v
  | 4 => R.TL_RING_WPA_HI.writes v
  | _ => []

/-- Writes change a field other than EN. -/
def State.changesMore (s : State) (en : Fld) (ws : List FieldWrite) : Bool :=
  ws.any fun w => w.f.key 0 0 != en.key 0 0 && s.get w.f w.i w.j != w.v % 2 ^ w.f.width

/-- A sampler that is enabled starts its first interval. -/
def State.samplerEn (s : State) (k : Nat) (was : Bool) : State :=
  if s.on R.TL_TSs_CFG_EN k && !was then
    let (n, t) := s.nextInterval k
    { t with tally := { t.tally with samplers := Tab.put t.tally.samplers k { t.sampler k with left := n } } }
  else s

/-- The ring as it is enabled is empty. -/
def State.ringEn (s : State) (was : Bool) : State :=
  if s.on R.TL_RING_CFG_EN && !was then (s.set R.TL_RING_WP_WP 0).set R.TL_RING_RP_RP 0 else s

/-- A ring's size and placement are allowed (R540). -/
def ringOk (cfg lo hi : Nat) : Bool :=
  let n := bits cfg 20 16
  let host := bitOf cfg 30
  let base := lo % 2 ^ 32 + 2 ^ 32 * (hi % 2 ^ 32)
  decide (12 ≤ n) && decide (n ≤ if host then 28 else 22) && base % 2 ^ n == 0 && (host || decide (base + 2 ^ n ≤ 2 ^ 23))

/-- A CSRAM ring lies wholly in non-secure regions where the Tally is non-secure (R541). -/
def State.ringWorld (s : State) (cfg lo : Nat) : Bool :=
  !s.entryNonSecure 34 || bitOf cfg 30 || (List.range 32).all fun k =>
    !(decide (lo % 2 ^ 32 < 0x40000 * (k + 1)) && decide (0x40000 * k < lo % 2 ^ 32 + 2 ^ bits cfg 20 16))
    || bitOf (s.get R.FB_REGION_WORLD_REGION) k

/-- TEL.TALLY_CFG: from MB08 to MB15 only while the Tally is non-secure. -/
def cmdTelTallyCfg : Cmd where
  op := 0x3105
  any := true
  acts := false
  entry _ := 34
  body c s :=
    need (c.secure || s.entryNonSecure 34) .worldViolation s <|
    need (!s.asleep 34) .notInMode s <|
    let k := c.bits 1 11 8
    if c.bit 1 0 then
      need (decide (6 ≤ c.args.length) && ringOk (c.arg 2) (c.arg 3) (c.arg 4)) .badArg s <|
      let ws := (List.range 5).flatMap fun w => ringWrites w (c.arg (2 + w))
      need (!(s.on R.TL_RING_CFG_EN && s.changesMore R.TL_RING_CFG_EN ws)) .busy s <|
      need (s.ringWorld (c.arg 2) (c.arg 3)) .checkFail s <|
      writeCfg s ws fun t => done (t.ringEn (s.on R.TL_RING_CFG_EN))
    else
      need (decide (6 ≤ c.args.length) && R.TL_TSs_CFG.ok (c.arg 2)) .badArg s <|
      let ws := (List.range 5).flatMap fun w => samplerWrites k w (c.arg (2 + w))
      need (!(s.on R.TL_TSs_CFG_EN k && s.changesMore R.TL_TSs_CFG_EN ws)) .busy s <|
      writeCfg s ws fun t => done (t.samplerEn k (s.on R.TL_TSs_CFG_EN k))

/-- TEL_TALLY_CFG. -/
def execTelTallyCfg (r : Req) (s : State) : Host.Outcome State Fault Refusal :=
  .next (s.exchange (some cmdTelTallyCfg) cmdTelTallyCfg.op r)

/-- Bytes of the CSRAM ring from RP on. -/
def State.ringBytes (s : State) (n : Nat) : List Byte :=
  (List.range n).map fun k => Memory.read csramBlank s.csram (s.ringBase + (s.get R.TL_RING_RP_RP + k) % s.ringSize)

/-- TEL.TALLY_READ. -/
def cmdTelTallyRead : Cmd where
  op := 0x3106
  any := true
  acts := false
  entry _ := 34
  body c s :=
    need (c.secure || s.entryNonSecure 34) .worldViolation s <|
    need (!s.asleep 34) .notInMode s <|
    let n := c.bits 1 15 8
    if c.bit 1 0 then
      need (decide (2 ≤ c.args.length) && decide (c.arg 2 < s.ringSize)) .badArg s <|
      underSem c s 34 36 <|
      done (s.set R.TL_RING_RP_RP (c.arg 2)) [0, c.arg 2]
    else
      need (decide (1 ≤ c.args.length) && decide (1 ≤ n) && decide (n ≤ 240)) .badArg s <|
      need (!s.on R.TL_RING_CFG_HOST) .notInMode s <|
      underSem c s 34 36 <|
      let k := min n s.ringFill
      let rp := (s.get R.TL_RING_RP_RP + k) % s.ringSize
      done (s.set R.TL_RING_RP_RP rp) (k :: rp :: leWords 60 (s.ringBytes k))

/-- TEL_TALLY_READ. -/
def execTelTallyRead (r : Req) (s : State) : Host.Outcome State Fault Refusal :=
  .next (s.exchange (some cmdTelTallyRead) cmdTelTallyRead.op r)

/-- The fields of event 4i + m in EV_ROUTE. -/
def routeFields (m : Nat) : List Fld := (R.EV_ROUTEi.fields.drop (4 * (3 - m))).take 4

/-- TEL.EVENT_CFG writes an event's route byte and record enable. -/
def cmdTelEventCfg : Cmd where
  op := 0x3107
  need := 2
  entry _ := 35
  body c s :=
    let e := c.bits 1 6 0
    let v := c.bits 2 7 0 * 2 ^ (8 * (e % 4))
    let t := s.writes ((routeFields (e % 4)).map fun f => { f := f, i := e / 4, v := f.of v })
    let t := t.set R.EV_REC_ENi_REC_EN (withBit (t.get R.EV_REC_ENi_REC_EN (e / 32)) (e % 32) (c.bit 2 8)) (e / 32)
    done (t.signal s false)

/-- TEL_EVENT_CFG. -/
def execTelEventCfg (r : Req) (s : State) : Host.Outcome State Fault Refusal :=
  .next (s.exchange (some cmdTelEventCfg) cmdTelEventCfg.op r)

end Sys2Proof.Machine
end

