-- ==== Sys2Proof/Machine/Power.lean ====
section
/-! DEFINITION. Power states, operating modes, the supply and temperature monitors, the saved time record, and the
PWR command group (R558 to R589). -/

namespace Sys2Proof.Machine

/-! ### Power states (R558 to R564) -/

/-- The states that a block entry allows (R560). -/
def blkAllowed (e : Nat) : List Nat :=
  if e < 12 then [0, 2, 3]
  else if 19 ≤ e ∧ e ≤ 26 then [0, 3]
  else if e = 31 ∨ e = 45 then [0, 3]
  else if e = 32 then [0, 2, 3]
  else if e = 34 ∨ e = 36 ∨ e = 41 ∨ e = 44 then [0, 1, 2, 3]
  else if e = 43 then [0, 1, 2]
  else [0]

/-- The condition of a block entry for P2 or P3 (R560). -/
def State.blkMaySleep (s : State) (e : Nat) : Bool :=
  if e < 12 then (List.range 4).all fun k => decide (2 ≤ s.portPower (4 * e + k))
  else if 19 ≤ e ∧ e ≤ 26 then
    !s.tbOn (e - 19) && (List.range 4).all fun a => !(s.on R.SY_APLLa_CFG_EN a && s.apllFollow a == e - 19)
  else if e = 32 then (List.range 16).all fun i => !s.on R.ET_INi_CFG_EN i
  else if e = 34 then !s.on R.TL_RING_CFG_EN && (List.range 16).all fun k => !s.on R.TL_TSs_CFG_EN k
  else if e = 36 then !s.calRuns
  else if e = 45 then !s.on R.FB_STAT_DBG_UNLOCKED
  else true

/-- Set a port's power state. -/
def State.setPortPower (s : State) (p st : Nat) : State :=
  let f := R.PM_PORT_STATEi_ST
  let w := s.get f (p / 16)
  s.set f (w - bits w (2 * (p % 16) + 1) (2 * (p % 16)) * 2 ^ (2 * (p % 16)) + st * 2 ^ (2 * (p % 16))) (p / 16)

/-- What a block entry loses in P3 beside its registers. -/
def State.blkLose (s : State) (e : Nat) : State :=
  if 19 ≤ e ∧ e ≤ 26 then { s with tb := Tab.del s.tb (e - 19), dpll := Tab.del s.dpll (e - 19) }
  else if e = 32 then { s with et := { run := s.et.run } }
  else if e = 34 then { s with tally := {} }
  else if e = 36 then { s with cal := {} }
  else if e = 41 then { s with hi := { s.hi with m0 := [] } }
  else if e = 44 then { s with hi := { s.hi with uart := [] } }
  else if e < 12 then (List.range 8).foldl (fun s k => { s with progCnt := Tab.del s.progCnt (cntNo false e k) }) s
  else if e = 45 then { s with hi := { s.hi with ir := 1, bypass := 0, scan := 0, dbgDone := false, dbgAbort := false } }
  else s

/-- A timebase that leaves P3 has the word of its source in force again: what Shouf has written into FREQ, or the DPLL's (R38,
R563). -/
def State.reloadFreq (s : State) (n : Nat) : State :=
  let lo := s.get R.HW_TBn_FREQ_LO_FREQ n
  s.tbUpd n fun b => { b with
    freqLo := lo
    freq := if s.on R.HW_TBn_CTRL_SRC n then sext 40 (lo + s.get R.HW_TBn_FREQ_HI_FREQ n * 2 ^ 32) else (s.dpllOf n).word }

/-- The counters of a grove start again at 0 after its P3. -/
def State.groveCounters (s : State) (e : Nat) : State :=
  if e < 12 then (List.range 8).foldl (fun s k => s.restartCnt false e k) s else s

/-- A block entry changes its power state, with PWR_DONE; M0 without its clocks has no link (R614). -/
def State.blkTo (s : State) (e st : Nat) : State :=
  let was := s.blkState e
  if was = st then s
  else if e = 31 then (if st = 3 then s.sleepGnss else s.wakeGnss)
  else
    let t := s.setBlk e st
    let t := if e = 41 ∧ 2 ≤ st ∧ t.on R.HI_M0_STAT_LINK = true then
        ((t.set R.HI_M0_STAT_LINK 0).set R.HI_M0_STAT_SPEED 0).raise 116 0 else t
    let t := if st = 3 then (t.loseRegs (blockRegs e)).blkLose e else t
    let t := if was = 3 then (t.restoreRegs (blockRegs e)).groveCounters e else t
    let t := if was = 3 ∧ e = 32 then t.etRef else if was = 3 ∧ 19 ≤ e ∧ e ≤ 26 then t.reloadFreq (e - 19) else t
    t.raise 101 (e + st * 256)

/-- A port changes its power state: leaving P3 it loads its constants and its configuration again. -/
def State.portTo (s : State) (p st : Nat) : State :=
  let was := s.portPower p
  if was = st then s
  else
    let t := s.setPortPower p st
    let t := if st = 3 then { t.loseRegs (portRegs p) with sched := Tab.del t.sched p } else t
    let t := if was = 3 then (t.loadK p).restoreRegs (portRegs p) else t
    let t := if st ≠ 1 then t.wakePort p else t
    t.raise 101 (p + 64 + st * 256)

/-! ### Modes (R577, R160, R447) -/

/-- The name of a mode on the console. -/
def modeName (m : Nat) : String := ["DORMANT", "BRINGUP", "SERVICE", "ISLAND", "CALIBRATE", "MAINTENANCE"].getD m "?"

/-- MODE changes: MODE_CHANGE, the settle window ends where no slot has qualified yet, the pair agent begins or
gives the role up, and what depends on the mode is judged again. -/
def State.setMode (s : State) (m : Nat) : State :=
  let t := ((s.set R.MODE_STATE_MODE m).raise 102 m).tell ("mode " ++ modeName m)
  let serves := 2 ≤ m ∧ m ≤ 4
  let t := if serves ∧ t.tr.settleFrom.isNone = true ∧ t.tr.settleDone = false then t.endSettle else t
  let t := if (m = 2 ∨ m = 3) ∧ t.pw.entered = false then
      let u := { t with pw := { t.pw with entered := true } }
      if u.on R.RD_PAIR_CFG_EN then u.enterRecovery else u
    else t
  let t := if m = 5 then t.dropRole 0 else t
  ((List.range 8).foldl (fun s n => s.judgeTime n) t).etRef.slotSync

/-- The time-and-frequency record is saved (R566). -/
def State.saveTime (s : State) : State :=
  let one (n : Nat) : UsTb :=
    { en := s.tbOn n, time := s.time n, freq := (s.tbOf n).freq, utc := s.get R.HW_TBn_UTC_UTC_OFS n
      leap := (List.range 4).map fun k => (s.leapSec n k, s.get R.HW_TBn_LEAPk_B_NEW_OFS n k) }
  let t := (List.range 8).foldl (fun s n => s.trainUp n) s
  { t with us := { t.us with saved := some (s.keeper, (List.range 8).map one), ocxoAt := if s.on R.TR_OCXO_STAT_ACTIVE then some s.tr.ocxoSince else none }
           pw := { t.pw with saveAt := s.clk } }

/-- TIME_RECORD_SAVE (R566): every second, while Shouf runs. -/
def execTimeRecordSave (dt : Nat) (s : State) : Host.Outcome State Fault Refusal :=
  let t := s.elapse dt
  .next (if t.pw.saveAt + 10 ^ 12 ≤ t.clk ∧ t.coreRuns 0 = true then t.saveTime else t)

/-! ### Supply and temperature monitors (R580, R581) -/

/-- SUPPLY_WARN (R580): a rail has been outside its window for 10 µs. -/
def execSupplyWarn (dt rail : Nat) (s : State) : Host.Outcome State Fault Refusal :=
  let r := rail % 8
  let t := s.elapse dt
  let w := t.get R.PM_SUPPLY_STAT_OUT
  .next (if bitOf w r then t
    else ((t.set R.PM_SUPPLY_STAT_OUT (w + 2 ^ r)).set R.PWR_STATE_SUPPLY_WARN 1).raise 106 r)

/-- SUPPLY_RETURN (R580): a rail is back in its window. -/
def execSupplyReturn (dt rail : Nat) (s : State) : Host.Outcome State Fault Refusal :=
  let r := rail % 8
  let t := s.elapse dt
  let w := t.get R.PM_SUPPLY_STAT_OUT
  let v := w - b2n (bitOf w r) * 2 ^ r
  .next ((t.set R.PM_SUPPLY_STAT_OUT v).setB R.PWR_STATE_SUPPLY_WARN (v != 0))

/-- The temperatures of dies T, A and B, in °C. -/
def State.temps (s : State) : List Int :=
  [sext 8 (s.get R.PM_TEMP_STAT_TEMP_T), sext 8 (s.get R.PM_TEMP_STAT_TEMP_A), sext 8 (s.get R.PM_TEMP_STAT_TEMP_B)]

/-- Show the highest temperature, and whether a die is at its limits. -/
def State.tempSync (s : State) : State :=
  let l := s.temps
  let top := l.foldl max (l.headD 0)
  s.writes [{ f := R.PWR_STATE_TEMP_MAX, v := wrap 8 top },
    { f := R.PWR_STATE_TEMP_CRIT, v := b2n (decide ((s.get R.PM_TEMP_CFG_CRIT_LIM : Int) ≤ top)) },
    { f := R.PWR_STATE_TEMP_WARN, v := b2n (decide ((s.get R.PM_TEMP_CFG_WARN_LIM : Int) ≤ top)) }]

/-- One die against one limit: its event on reaching it, armed again 5 °C below; `key` marks die and limit. -/
def State.tempJudge (s : State) (die key ev : Nat) (lim : Nat) : State :=
  let t := s.temps.getD die 0
  if s.pw.hot.contains key then
    if t ≤ (lim : Int) - 5 then { s with pw := { s.pw with hot := s.pw.hot.filter fun k => k != key } } else s
  else if (lim : Int) ≤ t then ({ s with pw := { s.pw with hot := key :: s.pw.hot } }).raise ev die
  else s

/-- TEMP_SAMPLE (R581): every 1 ms each die's sensor is read. -/
def execTempSample (dt : Nat) (t a b : Int) (s : State) : Host.Outcome State Fault Refusal :=
  let u := s.elapse dt
  .next (if u.pw.tempAt + 10 ^ 9 ≤ u.clk then
    let v := ({ u with pw := { u.pw with tempAt := u.clk } }).accrueAll
    let v := v.writes [{ f := R.PM_TEMP_STAT_TEMP_T, v := wrap 8 t }, { f := R.PM_TEMP_STAT_TEMP_A, v := wrap 8 a },
      { f := R.PM_TEMP_STAT_TEMP_B, v := wrap 8 b }]
    [0, 1, 2].foldl (fun s d => (s.tempJudge d d 107 (s.get R.PM_TEMP_CFG_WARN_LIM)).tempJudge d (3 + d) 108
      (s.get R.PM_TEMP_CFG_CRIT_LIM)) v.tempSync
  else u)

/-! ### The PWR command group (R589) -/

/-- Show the keeper. -/
def State.keeperSync (s : State) : State :=
  (s.set R.PM_KEEPER_LO_KEEPER s.keeper).set R.PM_KEEPER_HI_KEEPER (s.keeper / 2 ^ 32)

/-- PWR.STATUS. -/
def cmdPwrStatus : Cmd where
  op := 0x0301
  any := true
  acts := false
  entry _ := 38
  body _ s :=
    let t := s.keeperSync
    done t [t.word R.MODE_STATE, t.word R.PWR_STATE, t.word R.PM_BLK_STATEi 0, t.word R.PM_BLK_STATEi 1,
      t.word R.PM_BLK_STATEi 2, t.word R.PM_PORT_STATEi 0, t.word R.PM_PORT_STATEi 1, t.word R.PM_PORT_STATEi 2,
      t.word R.PM_START_STAT, t.word R.PM_TEMP_STAT, t.word R.PM_SUPPLY_STAT, t.word R.PM_KEEPER_LO, t.word R.PM_KEEPER_HI]

/-- PWR_STATUS. -/
def execPwrStatus (r : Req) (s : State) : Host.Outcome State Fault Refusal :=
  .next (s.exchange (some cmdPwrStatus) cmdPwrStatus.op r)

/-- A block entry is Off in the mode: the event timer in BRINGUP, Forester in MAINTENANCE (R36). -/
def State.blkOff (s : State) (e : Nat) : Bool := (e == 32 && s.mode == 1) || (e == 18 && s.mode == 5)

/-- PWR.STATE (R36, R560). -/
def cmdPwrState : Cmd where
  op := 0x0302
  acts := false
  need := 1
  entry _ := 38
  body c s :=
    let k := c.bits 1 5 0
    let st := c.bits 1 13 12
    if c.bit 1 8 then
      need (decide (k < 48)) .badArg s <|
      need (decide (st < 2) || s.portState k == 0) .notInMode s <| done (s.portTo k st)
    else
      need (decide (k < 48) && (blkAllowed k).contains st) .badArg s <|
      need (if st < 2 then !s.blkOff k else s.blkMaySleep k) .notInMode s <| done (s.blkTo k st)

/-- PWR_STATE. -/
def execPwrState (r : Req) (s : State) : Host.Outcome State Fault Refusal :=
  .next (s.exchange (some cmdPwrState) cmdPwrState.op r)

/-- An enabled wake source, and one that holds already: the keeper at or past ALARM (R578, R579). -/
def State.wakeArmed (s : State) : Bool := s.on R.PM_WAKE_CFG_ALARM_EN || s.on R.PM_WAKE_CFG_WAKE_PIN_EN

def State.wakeHolds (s : State) : Bool :=
  s.on R.PM_WAKE_CFG_ALARM_EN && decide (s.get64 R.PM_WAKE_ALARM_LO_ALARM R.PM_WAKE_ALARM_HI_ALARM ≤ s.keeper)

/-- The row of R577 that allows a change, and BUSY where its condition for that holds. -/
def State.modeAnswer (s : State) (m : Nat) : Status :=
  let serves (k : Nat) : Bool := k == 2 || k == 3 || k == 4
  let up := s.on R.MODE_STATE_START_DONE
  if s.mode = 1 then
    if m = 5 ∨ (up = true ∧ (serves m = true ∨ m = 0)) then .ok else .notInMode
  else if serves s.mode then
    if (m ≠ s.mode ∧ (serves m = true ∨ m = 5)) ∨ (m = 0 ∧ s.mode ≠ 4) then
      (if s.mode = 4 ∧ s.calRuns = true then .busy else .ok)
    else .notInMode
  else if s.mode = 5 then
    if m = 0 then .ok
    else if serves m && up && !s.on R.MODE_STATE_FAIL_ENTRY then
      (if (List.range 60).any fun l => s.laneState l == 6 then .busy else .ok)
    else .notInMode
  else .notInMode

/-- PWR.MODE (R577, R578). -/
def cmdPwrMode : Cmd where
  op := 0x0303
  acts := false
  need := 1
  entry _ := 38
  body c s :=
    let m := c.bits 1 2 0
    need (decide (m ≤ 5)) .badArg s <|
    match s.modeAnswer m with
    | .ok =>
      if m = 0 then
        need (s.wakeArmed && !s.wakeHolds) .checkFail s <| done { s with pw := { s.pw with dormant := true } }
      else done ({ s with pw := { s.pw with stop := s.on R.MODE_STATE_START_RUN } }.setMode m)
    | st => fail s st

/-- PWR_MODE. -/
def execPwrMode (r : Req) (s : State) : Host.Outcome State Fault Refusal :=
  .next (s.exchange (some cmdPwrMode) cmdPwrMode.op r)

/-- Both retry counters return to 0 (R575). -/
def State.clearFails (s : State) : State :=
  let t := (s.set R.MODE_STATE_WARM_FAILS 0).set R.MODE_STATE_COLD_FAILS 0
  { t with us := { t.us with cold := false } }

/-- PWR.RESET: accepted, it saves the time record and the reset follows (R566, R567). -/
def cmdPwrReset : Cmd where
  op := 0x0304
  acts := false
  need := 1
  entry _ := 38
  body c s :=
    let scope := c.bits 1 1 0
    need (decide (scope ≤ 2)) .badArg s <|
    need (scope == 0 || !s.on R.MODE_STATE_START_RUN) .notInMode s <|
    let r : ResetReq := { scope := scope, warm := c.bit 1 4, clr := c.bit 1 5, at_ := s.clk }
    let t := if c.bit 1 5 then s.clearFails else s
    done { t.saveTime with pw := { t.saveTime.pw with reset := some r } }

/-- PWR_RESET. -/
def execPwrReset (r : Req) (s : State) : Host.Outcome State Fault Refusal :=
  .next (s.exchange (some cmdPwrReset) cmdPwrReset.op r)

/-- PWR.START_CFG (R586, R588). -/
def cmdPwrStartCfg : Cmd where
  op := 0x0305
  need := 5
  entry _ := 38
  body c s :=
    need (R.PM_TEMP_CFG.ok (c.arg 5)) .badArg s <|
    writeCfg s (R.PM_START_CFG.writes (c.arg 1) ++ R.PM_WAKE_CFG.writes (c.arg 2) ++ R.PM_WAKE_ALARM_LO.writes (c.arg 3)
      ++ R.PM_WAKE_ALARM_HI.writes (c.arg 4) ++ R.PM_TEMP_CFG.writes (c.arg 5)) fun t => done t.tempSync

/-- PWR_START_CFG. -/
def execPwrStartCfg (r : Req) (s : State) : Host.Outcome State Fault Refusal :=
  .next (s.exchange (some cmdPwrStartCfg) cmdPwrStartCfg.op r)

end Sys2Proof.Machine
end

