-- ==== Sys2Proof/Machine/TimeTransfer.lean ====
section
/-! DEFINITION. Time over the links: the fine phase meter's readings, PTP messages, NPX, the offset estimate,
and the session commands of the TIME group (R103 to R105, R111 to R127, R139 to R141). -/

namespace Sys2Proof.Machine

/-! ### Commands (R139 to R141) -/

/-- A signed byte of an argument word lies between two bounds. -/
def signedIn (v : Nat) (lo hi : Int) : Bool := decide (lo ≤ sext 8 v) && decide (sext 8 v ≤ hi)

/-- A role of a configuration allows a session's role: 1 master, 2 slave. -/
def roleAllows (cfg role : Nat) : Bool := cfg == 3 || (cfg == role && decide (cfg ≠ 0))

/-- Set how a port takes part in a domain; a session whose role the new one does not allow is closed. -/
def State.ptpSet (s : State) (k : Nat) (c : Option PtpCfg) : State :=
  let t := { s with ptp := match c with | some c => Tab.put s.ptp k c | none => Tab.del s.ptp k }
  match t.sess? k with
  | some e => if (match c with | some c => roleAllows c.role e.role | none => false) then t.queueSync else t.closeSession k
  | none => t

/-- TIME.PTP_PORT (R139). -/
def cmdTimePtpPort : Cmd where
  op := 0x100C
  need := 3
  entry a := blockEntry (R.PT_TSCFGp_EN_CORR.addr + 0x40 * (a.getD 0 0 % 64))
  body c s :=
    let p := c.bits 1 5 0
    let k := sessKey p (c.bits 1 15 8)
    let role := c.bits 1 18 16
    let ok := decide (p < 48) && (s.domainTb (k % 256)).isSome && decide (role ≤ 4) && decide (c.bits 1 23 22 ≤ 2)
      && signedIn (c.bits 2 7 0) (-7) 4 && signedIn (c.bits 2 15 8) (-7) 4 && signedIn (c.bits 2 23 16) (-3) 4
      && decide (c.bits 3 5 0 ≤ 60)
    let cfg : PtpCfg := { role := role, delay := c.bits 1 20 20, transport := c.bits 1 23 22
                          syncLog := sext 8 (c.bits 2 7 0), dreqLog := sext 8 (c.bits 2 15 8)
                          annLog := sext 8 (c.bits 2 23 16), hold := c.bits 3 5 0 }
    need ok .badArg s <|
    need (role == 0 || (s.ptpOf k).isSome || decide (s.ptp.length < 256)) .noResource s <|
    unlessLocked s (blockEntry (R.PT_TSCFGp_EN_CORR.addr + 0x40 * p)) <|
    writeCfg s (if role = 4 then [{ f := R.PT_TSCFGp_EN_CORR, i := p, v := 1 }] else []) fun s =>
      done (s.ptpSet k (if role = 0 then none else some cfg))

/-- TIME_PTP_PORT. -/
def execTimePtpPort (r : Req) (s : State) : Host.Outcome State Fault Refusal :=
  .next (s.exchange (some cmdTimePtpPort) cmdTimePtpPort.op r)

/-- TIME.SESS_STATUS (R140). -/
def cmdTimeSessStatus : Cmd where
  op := 0x100D
  any := true
  acts := false
  need := 1
  entry _ := 63
  body c s :=
    let k := sessKey (c.bits 1 5 0) (c.bits 1 15 8)
    match s.sess? k with
    | none => fail s .badArg
    | some e => done s ([e.role % 8 + 8 * b2n e.suspended.isSome + 16 * e.npx + 128 * b2n (!e.found),
        (s.partner k).getD 0 % 2 ^ 20 + 2 ^ 24 * (s.depthOf (s.sessTb k) % 256)]
        ++ words64 e.theta ++ words64 e.mpd ++ [wrap 32 e.asym])

/-- TIME_SESS_STATUS. -/
def execTimeSessStatus (r : Req) (s : State) : Host.Outcome State Fault Refusal :=
  .next (s.exchange (some cmdTimeSessStatus) cmdTimeSessStatus.op r)

/-- TIME.NPX (R141). -/
def cmdTimeNpx : Cmd where
  op := 0x100E
  need := 2
  entry _ := 12
  body c s :=
    let org := s.get R.PT_NPX_CFG_NPX_ORG_ID
    writeCfg s [{ f := R.PT_NPX_CFG_NPX_ORG_ID, v := c.bits 1 23 0 }, { f := R.PT_NPX_CFG_NPX_EN, v := c.bits 1 24 24 },
      { f := R.PT_NPX_CFG_NPX_RATE_LOG, v := c.bits 2 2 0 }] fun s =>
      done (s.npxCfg (decide (org ≠ c.bits 1 23 0)))

/-- TIME_NPX. -/
def execTimeNpx (r : Req) (s : State) : Host.Outcome State Fault Refusal :=
  .next (s.exchange (some cmdTimeNpx) cmdTimeNpx.op r)

/-! ### Opening sessions (R32, R113, R114) -/

/-- What a peer's Announce does to session `k` (R113): it opens the session where there is none, and gives a
slave session with that peer its quality and stepsRemoved. -/
def State.heardAnnounce (s : State) (k peer cls acc var steps : Nat) : State :=
  let t := match s.sess? k with
    | none => s.openSession k 2 peer
    | some _ => s
  match t.sess? k with
  | some e => if e.peer = peer && e.role == 2 && e.suspended.isNone then
      ((t.sessUpd k fun e => { e with steps := steps, qual := some (cls, acc, var) }).sessQual k).judgeDepths
    else t
  | none => t

/-- ANNOUNCE (R113): a trapped Announce of a peer with its quality and stepsRemoved. -/
def execAnnounce (dt p dom peer cls acc var steps : Nat) (s : State) : Host.Outcome State Fault Refusal :=
  let s := s.elapse dt
  let p := p % 48
  let k := sessKey p (dom % 256)
  match s.ptpOf k with
  | none => .next s
  | some c =>
    if !roleAllows c.role 2 || (s.domainTb (dom % 256)).isNone then .next s
    else if s.nodeLoop p then .next (s.raise 44 p)
    else .next (s.heardAnnounce k peer cls acc var steps)

/-- The answer to a Delay_Req, which carries its receive time, or to a Pdelay_Req, whose correctionField gains the
turnaround as it leaves (R111). The rest of the receive time below 1 ns is taken from correctionField, as IEEE 1588
does (PRESUMED, log entry 203). -/
def State.delayAnswer (s : State) (k peer port seq : Nat) (c : PtpCfg) (pdelay : Bool) (ago rho : Nat) (corr : Int) : State :=
  let rx := s.rxStamp (k / 256) (s.sessTb k) ago rho
  let w := s.stampWords rx
  let o : Orig := { key := k, kind := 9, transport := c.transport, seq := seq % 65536,
                    body := beBytes 8 peer ++ beBytes 2 port }
  s.sendOrig (if pdelay then { o with kind := 3, corr := corr, body := beBytes 10 0 ++ o.body, rx := some rx }
    else { o with corr := corr - subNs w, log := wrap 8 c.dreqLog, body := timeBytes w ++ o.body })

/-- What a delay request of a peer does to session `k` (R113): it opens the session where there is none (a
slave's own where the port is a slave), and one not held, on a port that stamps, is answered. -/
def State.heardDelayReq (s : State) (k peer port seq : Nat) (c : PtpCfg) (pdelay : Bool) (ago rho : Nat) (corr : Int) : State :=
  let t := match s.sess? k with
    | none => s.openSession k (if c.role = 2 then 2 else 1) peer
    | some _ => s
  match t.sess? k with
  | some e => if e.suspended.isNone && t.on R.PT_TSCFGp_EN_TS (k / 256) then
      t.delayAnswer k peer port seq c pdelay (min ago t.clk) (min rho (rhoMax (t.portMode (k / 256)))) corr
    else t
  | none => t

/-- A port of role and delay mechanism `c` serves a Delay_Req or a Pdelay_Req (R111, R113). -/
def PtpCfg.serves (c : PtpCfg) (pdelay : Bool) : Bool :=
  if pdelay then c.delay == 1 && decide (c.role ≤ 3) else c.delay == 0 && roleAllows c.role 1

/-- DELAY_REQ (R113): a trapped Delay_Req or Pdelay_Req of the peer's port of a number, sampled `ago` ps ago with residual
`rho`. -/
def execDelayReq (dt p dom peer seq : Nat) (pdelay : Bool) (ago rho port : Nat) (corr : Int) (s : State) :
    Host.Outcome State Fault Refusal :=
  let s := s.elapse dt
  let p := p % 48
  let k := sessKey p (dom % 256)
  match s.ptpOf k with
  | none => .next s
  | some c =>
    if !c.serves pdelay || (s.domainTb (dom % 256)).isNone then .next s
    else if s.nodeLoop p then .next (s.raise 44 p)
    else .next (s.heardDelayReq k peer port seq c pdelay ago rho corr)

/-- SESSION_HOLD_EXPIRY (R115). -/
def execSessionHoldExpiry (dt p dom : Nat) (s : State) : Host.Outcome State Fault Refusal :=
  let s := s.elapse dt
  let k := sessKey (p % 48) (dom % 256)
  let hold := match s.ptpOf k with | some c => c.hold | none => 10
  .next (match s.sess? k with
    | some e => match e.suspended with
      | some at_ => if at_ + hold * 10 ^ 12 ≤ s.clk then s.closeSession k else s
      | none => s
    | none => s)

/-! ### Messages the device originates (R111) -/

/-- A configuration originates a kind of message: Sync and Announce as a master, unless its session is a
slave's; Delay_Req as a slave with a session; Pdelay_Req with peer delay. -/
def State.mayOriginate (s : State) (k kind : Nat) (c : PtpCfg) : Bool :=
  let e := s.sess? k
  let up := !s.on R.PT_STATp_DOWN (k / 256)
    && (match e with | some e => e.suspended.isNone | none => true) && (s.domainTb (k % 256)).isSome
  let slave := match e with | some e => e.role == 2 | none => false
  up && match kind with
    | 0 | 11 => roleAllows c.role 1 && !slave
    | 1 => c.delay == 0 && slave
    | 2 => c.delay == 1 && decide (c.role ≤ 3)
    | _ => false

/-- The interval of a kind of message, in ps. -/
def PtpCfg.interval (c : PtpCfg) (kind : Nat) : Nat :=
  logPs (if kind = 0 then c.syncLog else if kind = 11 then c.annLog else c.dreqLog)

/-- The body of an Announce of a domain: the UTC offset, the quality of its timebase and stepsRemoved (R116, R176). What
else it carries the spec leaves open. -/
def State.announceBody (s : State) (k : Nat) : List Byte × State :=
  let n := s.sessTb k
  let (x, t) := s.draw 88
  (beBytes 10 0 ++ beBytes 2 (wrap 16 (s.utcOfs n (secsOf (s.time n)))) ++ [0] ++ beBytes 1 x
    ++ beBytes 1 (s.get R.TR_DPLLn_QOUT_CLASS n) ++ beBytes 1 (s.get R.TR_DPLLn_QOUT_ACCURACY n)
    ++ beBytes 2 (s.get R.TR_DPLLn_QOUT_VARIANCE n) ++ beBytes 1 (x / 2 ^ 8) ++ beBytes 8 (x / 2 ^ 16)
    ++ beBytes 2 (s.depthOf n) ++ beBytes 1 (x / 2 ^ 80), t)

/-- The message of `kind` of session key `k`, with a sequence number (R111); the spec leaves the flags of an Announce
open. -/
def State.ptpMessage (s : State) (k kind seq flags : Nat) (c : PtpCfg) : Orig × State :=
  let o : Orig := { key := k, kind := kind, transport := c.transport, seq := seq, body := beBytes (if kind = 2 then 20 else 10) 0 }
  if kind = 11 then
    let (b, t) := s.announceBody k
    ({ o with flags := flags % 256, log := wrap 8 c.annLog, body := b }, t)
  else (if kind = 0 then { o with log := wrap 8 c.syncLog } else o, s)

/-- The message of `kind` of session key `k` goes to class 7 of its port, with the next sequence number (R111). -/
def State.ptpSend (s : State) (k kind flags : Nat) (c : PtpCfg) : State :=
  let seq := Tab.get 0 c.seq kind
  let (o, t) := s.ptpMessage k kind seq flags c
  let u := t.sendOrig o
  { u with ptp := Tab.put u.ptp k
            { c with seq := Tab.put c.seq kind ((seq + 1) % 65536), sent := Tab.put c.sent kind s.clk } }

/-- PTP_MESSAGE_SEND (R111): kind 0 Sync, 1 Delay_Req, 2 Pdelay_Req, 11 Announce, whose second flag octet is `flags`. -/
def execPtpMessageSend (dt p dom kind flags : Nat) (s : State) : Host.Outcome State Fault Refusal :=
  let s := s.elapse dt
  let k := sessKey (p % 48) (dom % 256)
  match s.ptpOf k with
  | none => .next s
  | some c =>
    let due := match Tab.find? c.sent kind with
      | some at_ => decide (at_ + c.interval kind ≤ s.clk)
      | none => true
    if s.mayOriginate k kind c && due then .next (s.ptpSend k kind flags c)
    else .next s

/-! ### Phase tracking (R122, R123) -/

/-- The unwrapped phase of a port's own meter. -/
def State.ownPhase (s : State) (p : Nat) : Int :=
  sext 64 (s.get64 R.LN_FPMl_UNW_LO_UNW R.LN_FPMl_UNW_HI_UNW (s.fpmLane p))

/-- The partner's unwrapped phase from its latest PHASE TLVs, extrapolated linearly to a linear time. -/
def Session.theirPhase (e : Session) (now : Nat) : Option Int :=
  match e.phases with
  | a :: b :: _ => if linDist a.at_ b.at_ = 0 then some a.last
      else some (a.last + (a.last - b.last) * linDist now a.at_ / linDist a.at_ b.at_)
  | [a] => some a.last
  | [] => none

/-- The anchors that the present phases give with a session's estimate. -/
def State.anchorNow (s : State) (k : Nat) (e : Session) : Option Anchor :=
  match e.theirPhase (linear (s.time (s.sessTb k))) with
  | some m => some { theta := e.theta, d := e.mpd, phiS := s.ownPhase (k / 256), phiM := m, asym := e.asym }
  | none => none

/-- The STEP_SEQ that a session's stamps carry. -/
def State.sessStep (s : State) (k : Nat) : Nat := (s.repOf (dieOf (k / 256)) (s.sessTb k)).stepSeq

/-- From ALIGN or HOLD to TRACK: the local meter LOCKED, the partner's PHASE VALID and LOCKED, and a two-way
exchange with FINE at both ends. -/
def State.tryTrack (s : State) (k : Nat) : State :=
  match s.sess? k with
  | none => s
  | some e =>
    if (e.npx = 4 ∨ e.npx = 6) ∧ e.suspended.isNone ∧ e.fine ∧ e.phaseOk ∧ s.on R.LN_FPMl_STAT_LOCKED (s.fpmLane (k / 256)) then
      let a := match e.anchor with | some a => some a | none => s.anchorNow k e
      (s.sessUpd k fun e => { e with anchor := a, stepSeq := s.sessStep k, phaseAt := e.phaseAt }).setNpx k 5
    else s

/-- The estimate of a tracking session at a reading (R123): a slave's offset and mean path delay, and a master's mean
path delay. -/
def State.track (s : State) (k : Nat) : State :=
  match s.sess? k with
  | none => s
  | some e =>
    if e.npx ≠ 5 then s
    else if s.sessStep k ≠ e.stepSeq then s.setNpx k 6
    else match e.anchor, e.theirPhase (linear (s.time (s.sessTb k))) with
      | some a, some m =>
        let ds := s.ownPhase (k / 256) - a.phiS
        let dm := m - a.phiM
        let d := a.d + (ds + dm) / 2
        let asym := asymAt e.link d
        let theta := a.theta + (ds - dm) / 2 - (asym - a.asym)
        if e.role = 2 then
          ((s.sessUpd k fun e => { e with theta := theta, mpd := d, asym := asym }).keepTerms k).sessFeed k theta
        else (s.sessUpd k fun e => { e with mpd := d, asym := asym }).keepTerms k
      | _, _ => s

/-- A session takes the mean path delay and asymmetry of an exchange, whether both ends stamped it with FINE, and, where
it is a slave's, theta; its anchor is taken anew (R99, R123, R126). -/
def State.takeTheta (s : State) (k : Nat) (theta mpd asym : Int) (fine : Bool) : State :=
  let t := s.sessUpd k fun e => { e with
    theta := if e.role = 2 then theta else e.theta, mpd := mpd, asym := asym, fine := e.fine || fine }
  let t := match t.sess? k with
    | some e => t.sessUpd k fun x => { x with anchor := t.anchorNow k e }
    | none => t
  t.keepTerms k

/-- TWO_WAY_EXCHANGE (R99, R122, R123, R126, R142): the four times, linear and with their corrections; STEP_SEQ of
the device's own stamps t2, below the Sync's logMessageInterval in bits 11 to 4, and t3; FINE at both ends. -/
def execTwoWayExchange (dt p dom t1 t2 t3 t4 sq2 sq3 : Nat) (fine2 fine4 : Bool) (s : State) :
    Host.Outcome State Fault Refusal :=
  let s := s.elapse dt
  let k := sessKey (p % 48) (dom % 256)
  match s.sess? k with
  | none => .next s
  | some e =>
    if e.suspended.isSome || sq2 % 16 != sq3 % 16 then .next s
    else
      let d := (linDist t2 t1 + linDist t4 t3) / 2
      let asym := asymAt e.link d
      let theta := linDist t2 t1 - d - asym
      if e.npx = 5 ∧ sq2 % 16 ≠ e.stepSeq then .next (s.setNpx k 6)
      else if e.role ≠ 2 then .next ((s.takeTheta k theta d asym (fine2 && fine4)).tryTrack k)
      else if e.npx = 5 ∧ 26214 < (theta - e.theta).natAbs then .next ((s.count (k / 256) 63).setNpx k 6)
      else
        let t := s.sessUpd k fun e => { e with syncLog := some (sext 8 (bits sq2 11 4)) }
        .next (((t.takeTheta k theta d asym (fine2 && fine4)).sessFeed k theta).tryTrack k)

/-! ### NPX TLVs (R117 to R122) -/

/-- Session `k` takes a CAP (R119): version, node, flags, depth, offered rate and check word, those of version 0
being 1 per second and none; the depths are judged again. -/
def State.takeCap (s : State) (k version flags node depth rate check : Nat) : State :=
  (s.sessUpd k fun e => { e with
    cap := some version, node := node % 2 ^ 20, capFlags := flags, capDepth := depth % 256
    offer := if version = 0 then 0x80 else rate % 256, check := if version = 0 then 0 else check % 2 ^ 32 }).judgeDepths

/-- CAP_TLV (R119, R122, R124): a received CAP with its organizationId. -/
def execCapTlv (dt p dom org version flags node depth mode rate asymVer check : Nat) (s : State) :
    Host.Outcome State Fault Refusal :=
  let s := s.elapse dt
  let k := sessKey (p % 48) (dom % 256)
  -- portMode and asymVersion of the partner's CAP change nothing here.
  let _ := (mode, asymVer)
  match s.sess? k with
  | none => .next s
  | some e =>
    if e.npx = 0 || e.suspended.isSome || org != s.get R.PT_NPX_CFG_NPX_ORG_ID || 2 ≤ version then .next s
    else if node % 2 ^ 20 = s.nodeId then
      .next (((s.portUpd (k / 256) fun x => { x with loop := true }).raise 44 (k / 256)).closeSession k)
    else
      let moved := e.cap.isSome && e.node != node % 2 ^ 20
      let t := s.takeCap k version flags node depth rate check
      .next (if e.npx = 1 ∨ e.npx = 2 then t.setNpx k (if version = 1 then 4 else 3)
        else if 4 ≤ e.npx ∧ moved then t.setNpx k 4 else t)

/-- The linear time that seconds and nanoseconds name. -/
def linearOf (sec ns : Nat) : Nat := ((sec * 10 ^ 9 + ns) * 65536) % 2 ^ 64

/-- Session `k` takes a PHASE with the reading `rx` (R120): VALID bit 0, LOCKED bit 1, RESET bit 2. -/
def State.takePhase (s : State) (k flags : Nat) (rx : PhaseRx) : State :=
  s.sessUpd k fun e => { e with
    phases := if !bitOf flags 0 then [] else if bitOf flags 2 then [rx] else rx :: e.phases.take 1
    phaseOk := bitOf flags 0 && bitOf flags 1, phaseAt := s.clk }

/-- PHASE_TLV (R120, R122): a received PHASE with its organizationId. -/
def execPhaseTlv (dt p dom org seq flags count : Nat) (last mean : Int) (sec ns : Nat) (s : State) :
    Host.Outcome State Fault Refusal :=
  let s := s.elapse dt
  let k := sessKey (p % 48) (dom % 256)
  -- The tracking of R123 uses the last reading and its time; seq, count and phaseMean change nothing here.
  let _ := (seq, count, mean)
  match s.sess? k with
  | none => .next s
  | some e =>
    if e.npx < 4 || e.suspended.isSome || org != s.get R.PT_NPX_CFG_NPX_ORG_ID then .next s
    else
      let t := s.takePhase k flags { last := last, at_ := linearOf sec ns }
      .next (if e.npx = 5 ∧ bitOf flags 2 = true then t.setNpx k 6 else t.tryTrack k)

/-- The signed log2 of the PHASE rate: NPX_RATE_LOG, but never faster than the partner offers; none where
it offers 0x80 (R121). -/
def State.phaseRate (s : State) (e : Session) : Option Int :=
  if e.offer = 0x80 then none else some (min (s.get R.PT_NPX_CFG_NPX_RATE_LOG : Int) (sext 8 e.offer))

/-- PROBE_TIMEOUT (R122). -/
def execProbeTimeout (dt p dom : Nat) (s : State) : Host.Outcome State Fault Refusal :=
  let s := s.elapse dt
  let k := sessKey (p % 48) (dom % 256)
  .next (match s.sess? k with
    | some e => if e.npx = 1 ∧ e.suspended.isNone ∧ e.since + 8 * 10 ^ 12 ≤ s.clk then s.setNpx k 2 else s
    | none => s)

/-- PHASE_TIMEOUT (R122). -/
def execPhaseTimeout (dt p dom : Nat) (s : State) : Host.Outcome State Fault Refusal :=
  let s := s.elapse dt
  let k := sessKey (p % 48) (dom % 256)
  .next (match s.sess? k with
    | some e =>
      let due := match s.phaseRate e with
        | some r => decide (e.phaseAt + 4 * logPs (-r) ≤ s.clk)
        | none => true
      if e.npx = 5 ∧ due = true then s.setNpx k 6 else s
    | none => s)

/-- CAP_SEND (R121). -/
def execCapSend (dt p dom : Nat) (s : State) : Host.Outcome State Fault Refusal :=
  let s := s.elapse dt
  let k := sessKey (p % 48) (dom % 256)
  .next (match s.sess? k with
    | some e =>
      let gap := if e.npx = 1 then 10 ^ 12 else 8 * 10 ^ 12
      if e.npx ≠ 0 ∧ e.suspended.isNone ∧ e.capSent + gap ≤ s.clk then s.sendCap k else s
    | none => s)

/-- The PHASE TLV of a session (R120). -/
def State.phaseBytes (s : State) (k : Nat) (e : Session) : List Byte :=
  let l := s.fpmLane (k / 256)
  let n := e.readings.length
  let sum := e.readings.foldl (fun a z => a + z) 0
  let flags := s.get R.LN_FPMl_STAT_VALID l + 2 * s.get R.LN_FPMl_STAT_LOCKED l + 4 * b2n e.phaseReset
  s.tlvHead 36 2 ++ beBytes 2 e.phaseSeq ++ beBytes 1 flags ++ beBytes 1 n
    ++ beBytes 8 (wrap 64 (e.readings.headD 0)) ++ beBytes 8 (wrap 64 (Int.tdiv sum n))
    ++ timeBytes (timeWords e.readAt)

/-- PHASE_SEND (R121). -/
def execPhaseSend (dt p dom : Nat) (s : State) : Host.Outcome State Fault Refusal :=
  let s := s.elapse dt
  let k := sessKey (p % 48) (dom % 256)
  .next (match s.sess? k with
    | some e => match s.phaseRate e with
      | some r =>
        if e.npx ≠ 0 ∧ e.suspended.isNone ∧ e.readings ≠ [] ∧ e.phaseSent + logPs (-r) ≤ s.clk then
          (s.sendTlv k (s.phaseBytes k e)).sessUpd k fun e => { e with
            phaseSeq := (e.phaseSeq + 1) % 65536, readings := [], phaseReset := false, phaseSent := s.clk }
        else s
      | none => s
    | none => s)

/-! ### The fine phase meter (R97, R103, R104) -/

/-- What a reading does to a session that uses its lane. -/
def State.readSession (s : State) (k : Nat) : State :=
  let u := s.ownPhase (k / 256)
  let now := s.time (s.sessTb k)
  ((s.sessUpd k fun e => { e with readings := (u :: e.readings).take 128, readAt := now }).track k).tryTrack k

/-- A lane's frequency-phase meter takes a reading (R103): the phase and its sequence; where VALID, the wrapped
difference is added to the unwrapped phase, and LOCKED is 16 calm readings in a row. -/
def State.fpmTake (s : State) (l code : Nat) : State :=
  let f := s.fpmOf l
  let valid := s.on R.LN_FPMl_STAT_VALID l
  let diff := match f.last with | (_, c) :: _ => phaseDiff code c | [] => 0
  let calm := if valid && decide (diff.natAbs ≤ 8) then f.calm + 1 else 0
  let acc := if valid then f.acc + diff else 0
  let put : Fpm := { f with acc := acc, last := (s.clk, code) :: f.last.take 2, calm := min calm 16, ms := s.msIndex }
  let t := { s with fpm := Tab.put s.fpm l put }
  let t := (t.set R.LN_FPMl_STAT_PHASE code l).incWrap R.LN_FPMl_STAT_SEQ l
  if valid then
    let u := sext 64 (t.get64 R.LN_FPMl_UNW_LO_UNW R.LN_FPMl_UNW_HI_UNW l) + Int.tdiv ((f.acc + diff) * 65536) 4000
      - Int.tdiv (f.acc * 65536) 4000
    (t.set64Z R.LN_FPMl_UNW_LO_UNW R.LN_FPMl_UNW_HI_UNW u l).setB R.LN_FPMl_STAT_LOCKED (decide (16 ≤ calm)) l
  else t

/-- The sessions of the ports whose receive lane is `l` take its meter's reading (R137, R138), and their
registers follow. -/
def State.fpmServe (s : State) (l : Nat) : State :=
  let ks := (s.sessions.map Prod.fst).filter fun k => s.fpmLane (k / 256) == l
  let t := ks.foldl (fun s k => s.readSession k) s
  (List.range 48).foldl (fun s p => if s.fpmLane p = l then s.sessSync p else s) t

/-- FPM_READING (R103, R137, R138): a reading of a lane whose clock is recovered, at a new whole
millisecond. -/
def execFpmReading (dt l code : Nat) (s : State) : Host.Outcome State Fault Refusal :=
  let s := s.elapse dt
  let l := l % 60
  let f := s.fpmOf l
  let code := code % 3200
  if f.lockAt.isNone || f.ms == s.msIndex then .next s
  else .next ((s.fpmTake l code).fpmServe l)

/-- FPM_VALID (R104): 16 ms after CDR lock. -/
def execFpmValid (dt l : Nat) (s : State) : Host.Outcome State Fault Refusal :=
  let s := s.elapse dt
  let l := l % 60
  .next (match (s.fpmOf l).lockAt with
    | some at_ => if at_ + 16 * 10 ^ 9 ≤ s.clk then s.set R.LN_FPMl_STAT_VALID 1 l else s
    | none => s)

end Sys2Proof.Machine
end

