-- ==== Sys2Proof/Machine/Bus.lean ====
section
/-! DEFINITION. Reads and direct writes of any register: live values, latched halves, and the judgement of a
write field by field against its register's rules (R6, R7, R78, R526, R660). -/

namespace Sys2Proof.Machine

/-! ### Reads -/

/-- Pairs of registers where a read of LO latches HI, as LO and HI families (R78, R138, R186, R257, R306, R390,
R587). -/
def latchPairs : List (Reg × Reg) :=
  [(R.HW_PAIRk_OFS_LO, R.HW_PAIRk_OFS_HI), (R.LN_FPMl_UNW_LO, R.LN_FPMl_UNW_HI), (R.TR_DPLLn_PD_LO, R.TR_DPLLn_PD_HI),
   (R.TR_DPLLn_BO_LO, R.TR_DPLLn_BO_HI), (R.TR_DPLLn_SWF_LO, R.TR_DPLLn_SWF_HI), (R.GN_SOLx_OFS_LO, R.GN_SOLx_OFS_HI),
   (R.LN_Ll_CHK_ERR_LO, R.LN_Ll_CHK_ERR_HI), (R.LN_Ll_CHK_BITS_LO, R.LN_Ll_CHK_BITS_HI),
   (R.SC_Pp_ORIGIN_LO, R.SC_Pp_ORIGIN_HI), (R.PM_KEEPER_LO, R.PM_KEEPER_HI)]

/-- HW_STATUS as it is now (R72). -/
def State.hwStatus (s : State) : State :=
  let m (b : Nat → Bool) : Nat := (List.range 8).foldl (fun a n => a + b2n (b n) * 2 ^ n) 0
  s.writes [{ f := R.HW_STATUS_SLEWING, v := m fun n => (s.tbOf n).slewing },
    { f := R.HW_STATUS_HOLDOVER, v := m fun n => s.dpllState n == 2 }, { f := R.HW_STATUS_EN, v := m s.tbOn },
    { f := R.HW_STATUS_TIME_VALID, v := m fun n => (s.tbOf n).timeValid }]

/-- The semaphores' summary registers (R500). -/
def State.semSync (s : State) : State :=
  let m (k : Nat) (b : Sem → Bool) : Nat := (List.range 32).foldl (fun a n => a + b2n (b (s.semOf (32 * k + n))) * 2 ^ n) 0
  s.writes [{ f := R.SEM_HELD_LO_HELD, v := m 0 Sem.held }, { f := R.SEM_HELD_HI_HELD, v := m 1 Sem.held },
    { f := R.SEM_BROKEN_LO_BROKEN, v := m 0 Sem.broken }, { f := R.SEM_BROKEN_HI_BROKEN, v := m 1 Sem.broken }]

/-- A context's DATA0 window shows FORESTER for Forester's contexts (R453). -/
def State.ctxSync (s : State) : State := s.setB R.RD_CTX_DATA0_FORESTER (foresterCtx (s.get R.RD_CTX_CTRL_CTX))

/-- What the test port's instruction does to the pins: EXTEST, CLAMP and HIGHZ take them only in MAINTENANCE
(R626). -/
def State.jtagSync (s : State) : State :=
  let takes := decide (3 ≤ s.hi.ir) && decide (s.hi.ir ≤ 5)
  (s.setB R.HI_JTAG_STAT_PIN_BLOCKED (takes && s.mode != 5)).setB R.HI_JTAG_STAT_BSCAN_ACTIVE (takes && s.mode == 5)

/-- Bring the live fields of a register up to date before it is read. -/
def State.refresh (s : State) (r : Reg) (i : Nat) : State :=
  let a := r.addr
  if a = R.HW_STATUS.addr then s.hwStatus
  else if 0x500100 ≤ a ∧ a ≤ 0x50010C then s.semSync
  else if a = R.TR_DPLLn_QOUT.addr ∨ a = R.TR_DPLLn_STAT.addr ∨ a = R.TR_DPLLn_LOCKT.addr then s.dpllSync i
  else if a = R.TR_SLOTs_STAT.addr then s.slotSync
  else if a = R.TR_OCXO_STAT.addr then s.ocxoSync
  else if a = R.PT_STATp.addr then s.holdSync i
  else if a = R.PT_TSSTATp.addr then s.sessSync i
  else if a = R.FO_TQ_LOAD0.addr ∨ a = R.FO_TQ_LOAD1.addr then s.queueSync
  else if a = R.LN_Ll_STAT.addr then s.cacheSync i
  else if a = R.LN_Ll_CHK_STAT.addr ∨ a = R.LN_Ll_CHK_ERR_LO.addr ∨ a = R.LN_Ll_CHK_BITS_LO.addr then s.checkSync i
  else if a = R.FD_OLD_CNT.addr then s.set R.FD_OLD_CNT_OLD_CNT s.oldCount
  else if a = R.SC_Pp_STAT.addr then (if s.schedRuns i then s.set R.SC_Pp_STAT_ENTRY (s.entryNow i) i else s)
  else if a = R.RD_CTX_DATA0.addr then s.ctxSync
  else if a = R.PM_KEEPER_LO.addr ∨ a = R.PM_KEEPER_HI.addr then s.keeperSync
  else if a = R.HI_JTAG_STAT.addr then s.jtagSync
  else if a = R.SY_APLLa_STAT.addr then s.phaseSync i
  else if a = R.GN_SOLx_STAT.addr then s.solSync i
  else if a = R.RD_HEALTH.addr then s.healthSync
  else s

/-- A register whose read depends on the reader or takes something: its value and the state after. -/
def State.specialRead (s : State) (init a : Nat) : Option (Nat × State) :=
  if a < 0x10000 ∧ a % 0x1000 / 0x100 = 1 then some (s.rspWord (a / 0x1000) (a % 0x100 / 4), s.rspRead (a / 0x1000) (a % 0x100 / 4))
  else if 0x100000 ≤ a ∧ a < 0x100010 then
    some (Nat.land (s.get R.EV_STATUSi_STATUS (a % 16 / 4)) (s.evMask init (a % 16 / 4)), s)
  else if 0x100010 ≤ a ∧ a < 0x100020 then
    some (Nat.land (s.get R.EV_ENABLEi_ENABLE (a % 16 / 4)) (s.evMask init (a % 16 / 4)), s)
  else if a = 0x100034 then some (s.recStat (s.initSecure init), s)
  else if a = 0x100040 then some (s.evPop false)
  else if a = 0x100050 then some (s.evPop true)
  else if 0x100040 < a ∧ a < 0x100060 then
    let l := if a < 0x100050 then s.ev.secLatch else s.ev.nonLatch
    some ([l.w0, l.w1, l.w2, l.w3].getD (a % 16 / 4) 0, s)
  else if 0x500000 ≤ a ∧ a < 0x500100 then some (s.semWord init (a % 0x100 / 4), s)
  else if 0x610100 ≤ a ∧ a < 0x610300 ∧ (a % 0x40 = 4 ∨ a % 0x40 = 8) ∧ s.on R.HW_TBn_CTRL_SRC ((a - 0x610100) / 0x40) = false then
    let z := wrap 40 (s.dpllOf ((a - 0x610100) / 0x40)).word
    some (if a % 0x40 = 4 then z % 2 ^ 32 else z / 2 ^ 32, s)
  else if a = 0x630010 then some s.etReadW0
  else if 0x630010 < a ∧ a < 0x630020 then
    some ([s.et.latch.w0, s.et.latch.w1, s.et.latch.w2, s.et.latch.w3].getD (a % 16 / 4) 0, s)
  else if a = 0x628200 then some (s.gnReadW0 false)
  else if a = 0x628240 then some (s.gnReadW0 true)
  else if 0x628200 < a ∧ a < 0x628220 then some (s.gn.mlatch.getD (a % 0x20 / 4) 0, s)
  else if 0x628240 < a ∧ a < 0x628260 then some (s.gn.nlatch.getD (a % 0x20 / 4) 0, s)
  else none

/-- A read of an address that its initiator may read: the word and the state after. A LO half latches its HI
half; a HI half that no read has latched is live. -/
def State.readWord (s : State) (init addr : Nat) : Nat × State :=
  let a := canonAddr addr
  if inCounterWindow a then s.cntRead init (a - 0x300000)
  else match s.specialRead init a with
  | some x => x
  | none => match findReg a with
    | none => (0, s)
    | some (r, i, j) =>
      let s := s.refresh r i
      let w := s.word r i j
      match latchPairs.find? (fun (p : Reg × Reg) => p.1.addr == r.addr) with
      | some p => (w, { s with hi := { s.hi with hiLatch := Tab.put s.hi.hiLatch a (s.word p.2 i j) } })
      | none =>
        match latchPairs.find? (fun (p : Reg × Reg) => p.2.addr == r.addr) with
        | some p => (Tab.get w s.hi.hiLatch (a - (p.2.addr - p.1.addr)), s)
        | none => (w, s)

/-- A read by an initiator: the word, none where it is a violation, and the state after (R503, R507). -/
def State.busRead (s : State) (init addr : Nat) : Option Nat × State :=
  match s.checkAccess init addr false with
  | some v => (none, s.violate v init addr 0)
  | none => let (w, t) := s.readWord init addr; (some w, t)

/-- LATCHED_LO_READ (R78): the read of a register, as a LO half that latches its HI half, or of any other; a
violating read returns 0. -/
def execLatchedLoRead (init addr : Nat) (s : State) : Host.Outcome State Fault Refusal :=
  let (w, t) := s.quiet.busRead init addr
  .next (t.emit (.readData init [w.getD 0]))

/-! ### The judgement of a write (R660) -/

/-- Fields that are read-only for APLL0 and APLL1 (R203, R219). -/
def synFixed (f : Fld) : Bool :=
  [R.SY_APLLa_CFG_PRE, R.SY_APLLa_CFG_SRC_DPLL, R.SY_APLLa_CFG_EN, R.SY_APLLa_M_MINT, R.SY_APLLa_M_MFRAC].any fun g =>
    g.addr == f.addr && g.lo == f.lo

/-- A field of member i takes the value that the word v has for it: one in its range, of a field that is not read-only
there; the range of SIZE_LOG goes by HOST (R556). -/
def fieldTakes (v i : Nat) (w : FieldWrite) : Bool :=
  w.f.inRange w.v && !(decide (i < 2) && synFixed w.f)
  && !(w.f.addr == R.TL_RING_CFG.addr && w.f.lo == 16 && (decide (w.v < 12) || decide ((if bitOf v 30 then 28 else 22) < w.v)))

/-- The writes that a word makes to a register's configuration fields: a value out of range leaves its field. -/
def State.saneWrites (s : State) (r : Reg) (v i j : Nat) : List FieldWrite :=
  (r.writes v i j).map fun w => if fieldTakes v i w then w else { w with v := s.get w.f i j }

/-- The word that a register's configuration fields hold after those writes, with the write-only bits. -/
def State.saneWord (s : State) (r : Reg) (v i j : Nat) : Nat :=
  (s.saneWrites r v i j).foldl (fun a w => a + w.v * 2 ^ w.f.lo) 0
  + (r.fields.filter fun f => f.acc == .wo).foldl (fun a f => a + f.of v * 2 ^ f.lo) 0

/-- Write 1 to clear (R6). -/
def State.clearOnes (s : State) (r : Reg) (v i j : Nat) : State :=
  (r.fields.filter fun f => f.acc == .w1c).foldl (fun s f => s.set f (andNot (s.get f i j) (f.of v)) i j) s

/-- Set both lock bits. -/
def State.locks (s : State) (a b : Nat) : State := (s.set R.CFG_LOCK_S_LOCK a).set R.CFG_LOCK_N_LOCK b

/-- The direct write that a command with these words would make, as the initiator's own; none where the command
would refuse it. The locks have been judged on the register itself, so the command's own judgement is put aside. -/
def State.tryCmd (s : State) (cmd : Cmd) (init : Nat) (args : List Nat) : Option State :=
  if cmd.mode s then
    let r := cmd.body { mb := none, init := init, secure := true, args := args } (s.locks 0 0)
    if r.status = .ok ∧ r.wait = false then some (r.st.locks (s.get R.CFG_LOCK_S_LOCK) (s.get R.CFG_LOCK_N_LOCK)) else none
  else none

/-- The same, ignored as a whole where it is refused. -/
def State.asCmd (s : State) (cmd : Cmd) (init : Nat) (args : List Nat) : State := (s.tryCmd cmd init args).getD s

/-- The state a command of the table leaves. -/
def ran (o : Host.Outcome State Fault Refusal) (s : State) : State := match o with
  | .next t => t
  | _ => s

/-- A write that its block refuses with the error response (R215, R380, R394). -/
def State.blockRefuse (s : State) (init addr : Nat) : State :=
  let e := blockEntry addr
  s.violate { kind := 3, space := .internal, target := e, nonSecure := s.entryNonSecure e } init addr 1

/-- A direct write to a register: what initiator, address and indices, the judged word and the raw one. -/
structure Write where
  init : Nat
  addr : Nat
  i : Nat
  j : Nat
  w : Nat
  v : Nat
  ws : List FieldWrite

/-- What a register's write does. -/
abbrev Handler := Write → State → State

/-- Every field takes its value. -/
def plain : Handler := fun x s => s.writes x.ws

/-- The fields take their values while a condition holds. -/
def plainIf (b : Write → State → Bool) : Handler := fun x s => if b x s then s.writes x.ws else s

/-- LN_ and PT_ registers (R133 to R136, R301 to R304, R325 to R330). -/
def laneHandlers : List (Nat × Handler) := [
  (R.LN_GLOBAL_CFG.addr, fun x s => s.asCmd cmdLaneGroveCfg x.init [0, s.word R.LN_GRVg_CFG 0, x.w]),
  (R.LN_GRVg_CFG.addr, fun x s => s.asCmd cmdLaneGroveCfg x.init [x.i, x.w, s.word R.LN_GLOBAL_CFG]),
  (R.LN_Ll_CFG.addr, fun x s => s.asCmd cmdLaneCfg x.init [x.i, x.w, s.word R.LN_Ll_TXEQ x.i]),
  (R.LN_Ll_TXEQ.addr, fun x s => s.asCmd cmdLaneCfg x.init [x.i, s.word R.LN_Ll_CFG x.i, x.w]),
  (R.LN_Ll_TEST.addr, fun x s => if s.mayTest x.i && s.patOk x.i (bits x.w 31 28) && s.patOk x.i (bits x.w 27 24)
    && bits x.w 27 24 != 10 then (s.writes x.ws).checkClear x.i else s),
  (R.LN_Ll_USER_LO.addr, plainIf fun x s => s.mayTest x.i), (R.LN_Ll_USER_HI.addr, plainIf fun x s => s.mayTest x.i),
  (R.LN_Ll_INJ.addr, fun x s => s.asCmd cmdLaneInject x.init [x.i, x.w]),
  (R.PT_NPX_CFG.addr, fun x s => s.asCmd cmdTimeNpx x.init [x.w % 2 ^ 25, bits x.w 27 25]),
  (R.PT_POLICE_CFG.addr, fun x s => s.asCmd cmdPortPolice x.init [x.w]),
  (R.PT_MAC_BASE_LO.addr, plainIf fun x _ => x.w % 64 == 0),
  (R.PT_CFGp.addr, fun x s => s.asCmd cmdPortCfg x.init [x.i, x.w]),
  (R.PT_HOLDp.addr, fun x s => s.asCmd cmdPortDownCfg x.init [x.i, x.w, s.word R.PT_DEGp x.i, s.word R.PT_DEG2p x.i]),
  (R.PT_DEGp.addr, fun x s => s.asCmd cmdPortDownCfg x.init [x.i, s.word R.PT_HOLDp x.i, x.w, s.word R.PT_DEG2p x.i]),
  (R.PT_DEG2p.addr, fun x s => s.asCmd cmdPortDownCfg x.init [x.i, s.word R.PT_HOLDp x.i, s.word R.PT_DEGp x.i, x.w]),
  (R.PT_FCp.addr, fun x s => s.asCmd cmdPortFc x.init [x.i, x.w]),
  (R.PT_MODg.addr, fun x s => s.asCmd cmdPortModule x.init [x.i + bits x.w 1 1 * 2 ^ 8 + bits x.w 2 2 * 2 ^ 9])]

/-- The words of TIME.TB_CFG for a timebase with one register replaced: 0 CTRL, 1 SLEW, 2 STEP_THR, 3 HO_LIMIT. -/
def State.tbWords (s : State) (n k w : Nat) : List Nat :=
  let c := if k = 0 then w else s.word R.HW_TBn_CTRL n
  [n + c % 8 * 8, if k = 1 then w else s.word R.HW_TBn_SLEW n, if k = 2 then w else s.word R.HW_TBn_STEP_THR n,
   if k = 3 then w else s.word R.HW_TBn_HO_LIMIT n]

/-- A write of HW_PAIRk_CFG: the pair is set up or removed as TIME.PAIR would, and SWITCH requests a switch; a refusal of
either leaves the whole write ignored (R49, R77, R660). -/
def pairHandler : Handler := fun x s =>
  let t := if bitOf x.w 8 then
      s.tryCmd cmdTimePair x.init [x.i + x.w % 8 * 2 ^ 4 + bits x.w 6 4 * 2 ^ 8 + bits x.w 9 9 * 2 ^ 12 + bits x.w 10 10 * 2 ^ 13]
    else if s.on R.HW_PAIRk_CFG_EN x.i then (s.tryCmd cmdTimePair x.init [x.i + 4]).map fun t => t.writes x.ws
    else some (s.writes x.ws)
  match t with
  | some t =>
    if bitOf x.v 16 then
      if t.on R.HW_PAIRk_CFG_EN x.i && (t.switchRefusal x.i).isNone then t.requestSwitch x.i 0 none else s
    else t
  | none => s

/-- A write of half a leap entry: it is judged on the entry that it leaves, unless that is empty (R47, R660). -/
def leapHandler (hi : Bool) : Handler := fun x s =>
  let sec := if hi then s.get R.HW_TBn_LEAPk_A_SEC x.i x.j + x.w % 2 ^ 16 * 2 ^ 32
    else x.w + s.get R.HW_TBn_LEAPk_B_SEC x.i x.j * 2 ^ 32
  let ofs := if hi then bits x.w 31 16 else s.get R.HW_TBn_LEAPk_B_NEW_OFS x.i x.j
  if s.tbOn x.i && (sec == 0 || s.leapOk x.i x.j sec ofs) then s.writes x.ws else s

/-- A PPS output's registers take a write unless TIME.PPS would refuse it: its CFG names an enabled timebase, and in CMP mode
WIDTH stays below a periodic comparator's period (R39, R56, R660). -/
def ppsHandler (ok : State → Nat → Nat → Bool) : Handler := fun x s =>
  if ok s x.i x.w then (s.writes x.ws).restartOutputs s else s

/-- A write of HW_PPSn_CFG names an enabled timebase, in CMP mode a comparator whose period is longer than WIDTH. -/
def State.ppsCfgOk (s : State) (n w : Nat) : Bool :=
  if w % 4 = 2 then s.widthOk (bits w 9 5) (s.get R.HW_PPSn_WIDTH_WIDTH n) else s.tbOn (bits w 4 2)

/-- The domain map may change in a word: each changed entry maps an enabled timebase, and its domain has no open
session (R48, R91). -/
def State.mapOk (s : State) (j w : Nat) : Bool :=
  (List.range 8).all fun m =>
    let e := bits w (4 * m + 3) (4 * m)
    e == bits (s.get R.HW_DOMMAPj_MAP j) (4 * m + 3) (4 * m)
      || ((e < 8 || s.tbOn (e - 8)) && !s.domainOpen (8 * j + m))

/-- HW_ registers (R73 to R82). -/
def timeHandlers : List (Nat × Handler) := [
  (R.HW_TBn_CTRL.addr, fun x s => s.asCmd cmdTimeTbCfg x.init (s.tbWords x.i 0 x.w)),
  (R.HW_TBn_SLEW.addr, fun x s => s.asCmd cmdTimeTbCfg x.init (s.tbWords x.i 1 x.w)),
  (R.HW_TBn_STEP_THR.addr, fun x s => s.asCmd cmdTimeTbCfg x.init (s.tbWords x.i 2 x.w)),
  (R.HW_TBn_HO_LIMIT.addr, fun x s => s.asCmd cmdTimeTbCfg x.init (s.tbWords x.i 3 x.w)),
  (R.HW_TBn_FREQ_LO.addr, fun x s => if s.on R.HW_TBn_CTRL_SRC x.i then s.tbUpd x.i fun t => { t with freqLo := x.w } else s),
  (R.HW_TBn_FREQ_HI.addr, fun x s => s.freqHi x.i x.w),
  (R.HW_TBn_UTC.addr, fun x s => s.asCmd cmdTimeUtc x.init [x.i, x.w]),
  (R.HW_PAIRk_CFG.addr, pairHandler),
  (R.HW_CMPm_CTRL.addr, fun x s => s.cmpCtrl x.i x.v),
  (R.HW_CMPm_TGT_LO.addr, plainIf fun x s => !s.on R.HW_CMPm_CTRL_ARM x.i),
  (R.HW_CMPm_TGT_HI.addr, plainIf fun x s => !s.on R.HW_CMPm_CTRL_ARM x.i),
  (R.HW_CMPm_PER.addr, plainIf fun x s => !s.on R.HW_CMPm_CTRL_ARM x.i
    && (!s.on R.HW_CMPm_CTRL_PERIODIC x.i || s.widthFits x.i x.w)),
  (R.HW_TBn_LEAPk_A.addr, leapHandler false), (R.HW_TBn_LEAPk_B.addr, leapHandler true),
  (R.HW_PPSn_CFG.addr, ppsHandler fun s n w => s.ppsCfgOk n w),
  (R.HW_PPSn_WIDTH.addr, ppsHandler fun s n w => !s.ppsCmpMode n || s.widthOk (s.get R.HW_PPSn_CFG_CMP_NUM n) w),
  (R.HW_PPSn_DLY.addr, ppsHandler fun _ _ _ => true),
  (R.HW_TOD_CFG.addr, ppsHandler fun _ _ _ => true), (R.HW_IRIG_CFG.addr, ppsHandler fun s _ w => s.tbOn (bits w 6 4)),
  (R.HW_DOMMAPj.addr, plainIf fun x s => s.mapOk x.i x.w)]

/-- The words of REF.SLOT_CFG for a slot with one register replaced: 0 CFG, 1 LIM, 2 NOM, 3 QUAL. -/
def State.slotWords (s : State) (i k w : Nat) : List Nat :=
  [i, if k = 0 then w else s.word R.TR_SLOTs_CFG i, if k = 1 then w else s.word R.TR_SLOTs_LIM i,
   if k = 2 then w else s.word R.TR_SLOTs_NOM i, if k = 3 then w else s.word R.TR_SLOTs_QUAL i]

/-- The words of REF.DPLL_CFG for a DPLL with one register replaced: 0 CFG, 1 SWT, 2 HO, 3 HOQ. -/
def State.dpllWords (s : State) (n k w : Nat) : List Nat :=
  let c := if k = 0 then w else s.word R.TR_DPLLn_CFG n
  [n + c % 32 * 2 ^ 8 + bits c 8 8 * 2 ^ 16, if k = 1 then w else s.word R.TR_DPLLn_SWT n,
   if k = 2 then w else s.word R.TR_DPLLn_HO n, if k = 3 then w else s.word R.TR_DPLLn_HOQ n]

/-- A write of TR_DPLLn_CFG changes what REF.DPLL_CFG, REF.FORCE and REF.SW_LOOP change, all or nothing (R183). -/
def dpllHandler : Handler := fun x s =>
  let n := x.i
  let force := bits x.w 13 12
  let fs := bits x.w 19 16
  let t := s.tryCmd cmdRefDpllCfg x.init (s.dpllWords n 0 x.w)
  let t := if force = s.get R.TR_DPLLn_CFG_FORCE n ∧ (force ≠ 1 ∨ fs = s.get R.TR_DPLLn_CFG_FORCE_SLOT n) then t
    else t.bind fun t => t.tryCmd cmdRefForce x.init [n + force * 2 ^ 4 + fs * 2 ^ 8]
  let t := if bits x.w 9 9 = s.get R.TR_DPLLn_CFG_OPEN n then t
    else t.bind fun t => t.tryCmd cmdRefSwLoop x.init [n + bits x.w 9 9 * 2 ^ 8]
  match t with
  | some t => t.set R.TR_DPLLn_CFG_FORCE_SLOT fs n
  | none => s

/-- TR_ registers (R177 to R186). -/
def refHandlers : List (Nat × Handler) := [
  (R.TR_GLOBAL_CFG.addr, fun x s => s.asCmd cmdRefGlobal x.init [x.w]),
  (R.TR_OCXO_CFG.addr, fun x s => s.asCmd cmdRefOcxo x.init [x.w, s.word R.TR_HO_MODEL0, s.word R.TR_HO_MODEL1, s.word R.TR_HO_MODEL2]),
  (R.TR_HO_MODEL0.addr, fun x s => s.asCmd cmdRefOcxo x.init [s.word R.TR_OCXO_CFG, x.w, s.word R.TR_HO_MODEL1, s.word R.TR_HO_MODEL2]),
  (R.TR_HO_MODEL1.addr, fun x s => s.asCmd cmdRefOcxo x.init [s.word R.TR_OCXO_CFG, s.word R.TR_HO_MODEL0, x.w, s.word R.TR_HO_MODEL2]),
  (R.TR_HO_MODEL2.addr, fun x s => s.asCmd cmdRefOcxo x.init [s.word R.TR_OCXO_CFG, s.word R.TR_HO_MODEL0, s.word R.TR_HO_MODEL1, x.w]),
  (R.TR_SLOTs_CFG.addr, fun x s => s.asCmd cmdRefSlotCfg x.init (s.slotWords x.i 0 x.w)),
  (R.TR_SLOTs_LIM.addr, fun x s => s.asCmd cmdRefSlotCfg x.init (s.slotWords x.i 1 x.w)),
  (R.TR_SLOTs_NOM.addr, fun x s => s.asCmd cmdRefSlotCfg x.init (s.slotWords x.i 2 x.w)),
  (R.TR_SLOTs_QUAL.addr, fun x s => s.asCmd cmdRefSlotCfg x.init (s.slotWords x.i 3 x.w)),
  (R.TR_SLOTs_FEED_LO.addr, fun x s => s.slotUpd x.i fun k => { k with feedLo := x.v % 2 ^ 32 }),
  (R.TR_SLOTs_FEED_HI.addr, fun x s => ran (execFeedEstimate x.init x.i x.v s) s),
  (R.TR_DPLLn_CFG.addr, dpllHandler),
  (R.TR_DPLLn_SWT.addr, fun x s => s.asCmd cmdRefDpllCfg x.init (s.dpllWords x.i 1 x.w)),
  (R.TR_DPLLn_HO.addr, fun x s => s.asCmd cmdRefDpllCfg x.init (s.dpllWords x.i 2 x.w)),
  (R.TR_DPLLn_HOQ.addr, fun x s => s.asCmd cmdRefDpllCfg x.init (s.dpllWords x.i 3 x.w)),
  (R.TR_DPLLn_PRIO_LO.addr, fun x s => s.asCmd cmdRefPrio x.init [x.i, x.w, s.word R.TR_DPLLn_PRIO_HI x.i]),
  (R.TR_DPLLn_PRIO_HI.addr, fun x s => s.asCmd cmdRefPrio x.init [x.i, s.word R.TR_DPLLn_PRIO_LO x.i, x.w]),
  (R.TR_DPLLn_SWF_LO.addr, fun x s => if s.on R.TR_DPLLn_CFG_OPEN x.i then s.dpllUpd x.i fun d => { d with swfLo := x.w } else s),
  (R.TR_DPLLn_SWF_HI.addr, fun x s => ran (execSwFreqWrite x.init x.i x.v s) s)]

/-- A write of shadow fields is refused with the error response while a commit of their APLL is pending (R215). -/
def unlessPending (pending : Write → State → Bool) (k : Handler) : Handler := fun x s =>
  if pending x s then s.blockRefuse x.init x.addr else k x s

/-- A commit that an output's group takes part in is pending. -/
def State.outPending (s : State) (x : Write) : Bool := s.synPending (s.get R.SY_OUTm_CFG_APLL x.i)

/-- SY_ registers (R219 to R224). -/
def synHandlers : List (Nat × Handler) := [
  (R.SY_APLLa_CFG.addr, unlessPending (fun x s => s.synPending x.i) fun x s =>
    s.asCmd cmdSynApllCfg x.init [x.i, x.w, s.word R.SY_APLLa_M x.i, s.word R.SY_APLLa_LOCK x.i]),
  (R.SY_APLLa_M.addr, unlessPending (fun x s => s.synPending x.i) fun x s =>
    s.asCmd cmdSynApllCfg x.init [x.i, s.word R.SY_APLLa_CFG x.i, x.w, s.word R.SY_APLLa_LOCK x.i]),
  (R.SY_APLLa_PHOFS.addr, fun x s => s.asCmd cmdSynPhase x.init [x.i, wrap 32 (sext 16 x.w)]),
  (R.SY_APLLa_COMMIT.addr, fun x s => if bitOf x.v 31 then s.synGo x.i (bits x.w 1 0) else s.writes x.ws),
  (R.SY_OUTm_CFG.addr, unlessPending (fun x s => s.outPending x || s.synPending (bits x.w 2 1)) fun x s =>
    s.asCmd cmdSynOutCfg x.init [x.i, x.w, s.word R.SY_OUTm_DIV x.i, s.word R.SY_OUTm_DLY x.i]),
  (R.SY_OUTm_DIV.addr, unlessPending (fun x s => s.outPending x) fun x s =>
    s.asCmd cmdSynOutCfg x.init [x.i, s.word R.SY_OUTm_CFG x.i, x.w, s.word R.SY_OUTm_DLY x.i]),
  (R.SY_OUTm_DLY.addr, unlessPending (fun x s => s.outPending x) fun x s =>
    s.asCmd cmdSynOutCfg x.init [x.i, s.word R.SY_OUTm_CFG x.i, s.word R.SY_OUTm_DIV x.i, x.w])]

/-- GNSS.INPUT_CFG for input x with its own word k replaced: 0 CFG, 1 to 4 the notches, 5 GN_CFG. -/
def State.gnWords (s : State) (x k w : Nat) : List Nat :=
  let at_ (n : Nat) (v : Nat) : Nat := if k = n then w else v
  [x, at_ 0 (s.word R.GN_INx_CFG x), at_ 1 (s.word R.GN_NOTCHx_k x 0), at_ 2 (s.word R.GN_NOTCHx_k x 1),
   at_ 3 (s.word R.GN_NOTCHx_k x 2), at_ 4 (s.word R.GN_NOTCHx_k x 3), at_ 5 (s.word R.GN_CFG)]

/-- GNSS.TIMING_CFG with one word replaced, by its place. -/
def State.gnTiming (s : State) (k w : Nat) : List Nat :=
  let at_ (n : Nat) (v : Nat) : Nat := if k = n then w else v
  [at_ 0 (s.word R.GN_TIM_CFG), at_ 1 (s.word R.GN_ANT_DLYx 0), at_ 2 (s.word R.GN_ANT_DLYx 1),
   at_ 3 (s.get R.GN_POSx_X_X 0), at_ 4 (s.get R.GN_POSx_Y_Y 0), at_ 5 (s.get R.GN_POSx_Z_Z 0),
   at_ 6 (s.get R.GN_POSx_X_X 1), at_ 7 (s.get R.GN_POSx_Y_Y 1), at_ 8 (s.get R.GN_POSx_Z_Z 1)]

/-- The overflow flags of the GNSS FIFOs clear with their counts of dropped entries (R258). -/
def gnFifoHandler : Handler := fun x s =>
  let t := s.clearOnes R.GN_FIFO_STAT x.v 0 0
  { t with gn := { t.gn with mDrop := if bitOf x.v 31 then 0 else t.gn.mDrop, nDrop := if bitOf x.v 30 then 0 else t.gn.nDrop } }

/-- OVF of the event timer clears with DROP_CNT (R274). -/
def etStatHandler : Handler := fun x s =>
  let t := s.clearOnes R.ET_STAT x.v 0 0
  if bitOf x.v 30 then t.set R.ET_STAT_DROP_CNT 0 else t

/-- GN_ and ET_ registers (R252 to R258, R274 to R278). -/
def gnssHandlers : List (Nat × Handler) := [
  (R.GN_CFG.addr, fun x s => s.asCmd cmdGnssInputCfg x.init (s.gnWords 0 5 x.w)),
  (R.GN_INx_CFG.addr, fun x s => s.asCmd cmdGnssInputCfg x.init (s.gnWords x.i 0 x.w)),
  (R.GN_NOTCHx_k.addr, fun x s => s.asCmd cmdGnssInputCfg x.init (s.gnWords x.i (1 + x.j) x.w)),
  (R.GN_TIM_CFG.addr, fun x s => s.asCmd cmdGnssTimingCfg x.init (s.gnTiming 0 x.w)),
  (R.GN_ANT_DLYx.addr, fun x s => s.asCmd cmdGnssTimingCfg x.init (s.gnTiming (1 + x.i) x.w)),
  (R.GN_POSx_X.addr, fun x s => s.asCmd cmdGnssTimingCfg x.init (s.gnTiming (3 + 3 * x.i) x.w)),
  (R.GN_POSx_Y.addr, fun x s => s.asCmd cmdGnssTimingCfg x.init (s.gnTiming (4 + 3 * x.i) x.w)),
  (R.GN_POSx_Z.addr, fun x s => s.asCmd cmdGnssTimingCfg x.init (s.gnTiming (5 + 3 * x.i) x.w)),
  (R.GN_TRUST_CFG0.addr, fun x s => s.asCmd cmdGnssTrustCfg x.init [x.w, s.word R.GN_TRUST_CFG1]),
  (R.GN_TRUST_CFG1.addr, fun x s => s.asCmd cmdGnssTrustCfg x.init [s.word R.GN_TRUST_CFG0, x.w]),
  (R.GN_FIFO_STAT.addr, gnFifoHandler),
  (R.ET_CFG.addr, fun x s => s.asCmd cmdEvtCfg x.init [x.w]),
  (R.ET_STAT.addr, etStatHandler)]

/-- EVT.INPUT_CFG with one word replaced: 0 CFG, 1 TMO_LO, 2 TMO_HI, 3 PWIN, 4 GATE, 5 DLY. -/
def State.etWords (s : State) (i k w : Nat) : List Nat :=
  let at_ (n : Nat) (v : Nat) : Nat := if k = n then w else v
  [i, at_ 0 (s.word R.ET_INi_CFG i), at_ 1 (s.word R.ET_INi_TMO_LO i), at_ 2 (s.word R.ET_INi_TMO_HI i),
   at_ 3 (s.word R.ET_INi_PWIN i), at_ 4 (s.word R.ET_INi_GATE i), at_ 5 (s.word R.ET_INi_DLY i)]

/-- The event timer's inputs (R276 to R278). -/
def etHandlers : List (Nat × Handler) :=
  [R.ET_INi_CFG.addr, R.ET_INi_TMO_LO.addr, R.ET_INi_TMO_HI.addr, R.ET_INi_PWIN.addr, R.ET_INi_GATE.addr, R.ET_INi_DLY.addr].zip
    ((List.range 6).map fun k => fun x s => s.asCmd cmdEvtInputCfg x.init (s.etWords x.i k x.w))

/-- FD_TBL_CTRL: GO starts OP (R364). -/
def tblHandler : Handler := fun x s =>
  if bitOf x.v 31 then match bits x.v 27 26 with
    | 0 => ran (execTblRead x.init x.v s) s
    | 1 => ran (execTblWrite x.init x.v s) s
    | 2 => ran (execTblDelete x.init x.v s) s
    | _ => ran (execTblFind x.init x.v s) s
  else if s.on R.FD_TBL_CTRL_BUSY then s else s.writes x.ws

/-- SC_TBL_CTRL and RD_CTX_CTRL: GO starts OP (R386, R453). -/
def slotHandler : Handler := fun x s =>
  if bitOf x.v 31 then
    (if bitOf x.v 28 then ran (execSlotEntryWrite x.init x.v s) s else ran (execSlotEntryRead x.init x.v s) s)
  else if s.on R.SC_TBL_CTRL_BUSY then s else s.writes x.ws

def ctxHandler : Handler := fun x s =>
  if bitOf x.v 31 then (if bitOf x.v 28 then ran (execCtxWrite x.init x.v s) s else ran (execCtxRead x.init x.v s) s)
  else if s.on R.RD_CTX_CTRL_BUSY then s else s.writes x.ws

/-- The reservation of a bank: the shared pool must not become negative (R355, R356). -/
def bankHandler : Handler := fun x s =>
  if s.rsvMore x.i x.w ≤ s.get R.CL_POOL_STAT_SHARED_FREE then s.setRsv x.i x.w else s

/-- CYCLE and NUM of a bank: refused for a managed port and for an active bank (R380, R394). -/
def bankCfgHandler (num : Bool) : Handler := fun x s =>
  if s.managed x.i then s.blockRefuse x.init x.addr
  else if s.bankActive x.i x.j then (s.activeWrite x.i x.j 0 1 1).blockRefuse x.init x.addr
  else s.asCmd cmdSchedBankCfg x.init [x.i + x.j * 2 ^ 8, if num then s.word R.SC_Pp_CYCx x.i x.j else x.w,
    if num then x.w else s.word R.SC_Pp_NUMx x.i x.j]

/-- FD_, CL_, SC_, FO_ and RD_ registers. -/
def pathHandlers : List (Nat × Handler) := [
  (R.FD_EPOCH_CFG.addr, fun x s => s.asCmd cmdFwdEpochCfg x.init [x.w]),
  (R.FD_TBL_CTRL.addr, tblHandler),
  (R.CL_ECC_STAT.addr, fun x s => if bitOf x.v 31 then (s.set R.CL_ECC_STAT_DBE 0).set R.CL_ECC_STAT_CORR 0 else s),
  (R.CL_PORTp_SHARE.addr, fun x s => s.asCmd cmdFwdBufCfg x.init [x.i, x.w, s.word R.CL_RSVp_LO x.i, s.word R.CL_RSVp_HI x.i]),
  (R.CL_RSVp_LO.addr, fun x s => s.asCmd cmdFwdBufCfg x.init [x.i, s.word R.CL_PORTp_SHARE x.i, x.w, s.word R.CL_RSVp_HI x.i]),
  (R.CL_RSVp_HI.addr, fun x s => s.asCmd cmdFwdBufCfg x.init [x.i, s.word R.CL_PORTp_SHARE x.i, s.word R.CL_RSVp_LO x.i, x.w]),
  (R.CL_BANKk_RSV.addr, bankHandler),
  (R.SC_TBL_CTRL.addr, slotHandler),
  (R.SC_Pp_CFG.addr, fun x s => s.portSchedWrite x.i x.v),
  (R.SC_Pp_CYCx.addr, bankCfgHandler false), (R.SC_Pp_NUMx.addr, bankCfgHandler true),
  (R.SC_Pp_QLIMc.addr, fun x s => s.asCmd cmdSchedQueueCfg x.init [x.i + x.j * 2 ^ 8, x.w, s.word R.SC_Pp_SHAPEc x.i x.j]),
  (R.SC_Pp_SHAPEc.addr, fun x s => s.asCmd cmdSchedQueueCfg x.init [x.i + x.j * 2 ^ 8, s.word R.SC_Pp_QLIMc x.i x.j, x.w]),
  (R.SC_AW_LOG.addr, fun x s => if bitOf x.v 31 then (s.set R.SC_AW_LOG_VALID 0).set R.SC_AW_LOG_COUNT 0 else s),
  (R.FO_CFG.addr, fun x s => s.asCmd cmdFlowCfg x.init [x.w]),
  (R.FO_PORTp_CFG.addr, fun x s => s.asCmd cmdFlowPortCfg x.init [x.i, x.w]),
  (R.RD_CTX_CTRL.addr, ctxHandler),
  (R.RD_PAIR_CFG.addr, fun x s => s.asCmd cmdRedPairCfg x.init [x.w, s.word R.RD_PAIR_CFG2, s.word R.RD_ROLE_CFG]),
  (R.RD_PAIR_CFG2.addr, fun x s => s.asCmd cmdRedPairCfg x.init [s.word R.RD_PAIR_CFG, x.w, s.word R.RD_ROLE_CFG]),
  (R.RD_ROLE_CFG.addr, fun x s => s.asCmd cmdRedPairCfg x.init [s.word R.RD_PAIR_CFG, s.word R.RD_PAIR_CFG2, x.w]),
  (R.RD_LOOPBRK_LO.addr, fun x s => s.asCmd cmdRedLoopBreak x.init [x.w, s.word R.RD_LOOPBRK_HI]),
  (R.RD_LOOPBRK_HI.addr, fun x s => s.asCmd cmdRedLoopBreak x.init [s.word R.RD_LOOPBRK_LO, x.w])]

/-- A world table: the fixed entries stay secure, and a change is refused while a world it touches is locked
(R504 to R506). -/
def worldHandler (fixed : Nat → Bool) (f : Fld) (mine : State → Nat → Bool) : Handler := fun x s =>
  let was := s.get f
  let now := (List.range f.width).foldl (fun a k => a + b2n (bitOf (if fixed k || mine s k then was else x.w) k) * 2 ^ k) 0
  if now = was then s
  else if s.worldLocked false || s.worldLocked true then
    s.violate { kind := 1, space := .internal, target := 46 } x.init x.addr 1
  else (s.set f now).signal s false

/-- A region holds a running firmware image, and keeps its world (R505). -/
def State.imageRegion (s : State) (k : Nat) : Bool :=
  s.ctl.fwVersion.isSome && (decide (k < 8) || (decide (16 ≤ k) && decide (k < 24)))

/-- The words of TEL.TALLY_CFG for the ring with one register replaced. -/
def State.ringWords (s : State) (k w : Nat) : List Nat :=
  let at_ (n : Nat) (v : Nat) : Nat := if k = n then w else v
  [1, at_ 0 (s.word R.TL_RING_CFG), at_ 1 (s.word R.TL_RING_BASE_LO), at_ 2 (s.word R.TL_RING_BASE_HI),
   at_ 3 (s.word R.TL_RING_WPA_LO), at_ 4 (s.word R.TL_RING_WPA_HI)]

/-- The words of TEL.TALLY_CFG for a sampler with one register replaced. -/
def State.samplerWords (s : State) (i k w : Nat) : List Nat :=
  let at_ (n : Nat) (v : Nat) : Nat := if k = n then w else v
  [i * 2 ^ 8, at_ 0 (s.word R.TL_TSs_CFG i), at_ 1 (s.word R.TL_TSs_PORT_LO i), at_ 2 (s.word R.TL_TSs_PORT_HI i),
   at_ 3 (s.word R.TL_TSs_N i), at_ 4 (s.word R.TL_TSs_FLOW i)]

/-- The Tally's registers (R555, R556). -/
def tallyHandlers : List (Nat × Handler) :=
  [R.TL_TSs_CFG.addr, R.TL_TSs_PORT_LO.addr, R.TL_TSs_PORT_HI.addr, R.TL_TSs_N.addr, R.TL_TSs_FLOW.addr].zip
    ((List.range 5).map fun k => fun x s => s.asCmd cmdTelTallyCfg x.init (s.samplerWords x.i k x.w))
  ++ [R.TL_RING_CFG.addr, R.TL_RING_BASE_LO.addr, R.TL_RING_BASE_HI.addr, R.TL_RING_WPA_LO.addr, R.TL_RING_WPA_HI.addr].zip
    ((List.range 5).map fun k => fun x s => s.asCmd cmdTelTallyCfg x.init (s.ringWords k x.w))
  ++ [(R.TL_RING_STAT.addr, fun x s => if bitOf x.v 31 then (s.set R.TL_RING_STAT_OVF 0).set R.TL_RING_STAT_LOST 0 else s)]

/-- EV_ENABLE takes the bits its writer reaches, and signals what becomes pending (R544, R545). -/
def enableHandler : Handler := fun x s =>
  let f := R.EV_ENABLEi_ENABLE
  let m := s.evMask x.init x.i
  (s.set f (Nat.lor (andNot (s.get f x.i) m) (Nat.land (x.v % 2 ^ 32) m)) x.i).signal s false

/-- EV_REC_STAT: S_OVF is for secure writers alone (R550). -/
def recHandler : Handler := fun x s =>
  let t := if bitOf x.v 30 then s.set R.EV_REC_STAT_N_OVF 0 else s
  if bitOf x.v 31 && s.initSecure x.init then t.set R.EV_REC_STAT_S_OVF 0 else t

/-- HI_M0_CFG holds FUNC, which is RWS: a non-secure write gets the error response (R6, R631). -/
def m0Handler : Handler := fun x s =>
  if !s.initSecure x.init then
    s.violate { kind := 0, space := .internal, target := 41, nonSecure := s.entryNonSecure 41 } x.init x.addr 1
  else s.writes x.ws

/-- The words of PWR.START_CFG with one register replaced. -/
def State.startWords (s : State) (k w : Nat) : List Nat :=
  let at_ (n : Nat) (v : Nat) : Nat := if k = n then w else v
  [at_ 0 (s.word R.PM_START_CFG), at_ 1 (s.word R.PM_WAKE_CFG), at_ 2 (s.word R.PM_WAKE_ALARM_LO),
   at_ 3 (s.word R.PM_WAKE_ALARM_HI), at_ 4 (s.word R.PM_TEMP_CFG)]

/-- The event block, the control complex, Firebreak, telemetry, power and the host interfaces. -/
def sysHandlers : List (Nat × Handler) := [
  (R.TS_SNAP_CTRL.addr, fun x s => s.snapCtrl x.v),
  (R.MB_n_REQ.addr, fun x s => s.reqWrite x.i x.j (x.v % 2 ^ 32)),
  (R.MB_n_DOOR.addr, fun x s => if bitOf x.v 0 then s.doorbell x.init x.i else s),
  (R.SEMnn.addr, fun x s => s.semWrite false x.init x.i (bits x.v 1 0) (bits x.v 19 10)),
  (R.FB_VIOL_STAT.addr, fun x s => if bitOf x.v 31 then ran (execViolLogClear x.init s) s else s),
  (R.CFG_LOCK_S.addr, fun x s => if bitOf x.v 0 then s.lockWorld false else s),
  (R.CFG_LOCK_N.addr, fun x s => if bitOf x.v 0 then s.lockWorld true else s),
  (R.EV_STATUSi.addr, fun x s => s.evClear x.init x.i x.v),
  (R.EV_ENABLEi.addr, enableHandler),
  (R.EV_SWRAISE.addr, fun x s => s.swRaise x.init x.v),
  (R.EV_REC_STAT.addr, recHandler),
  (R.EV_ROUTEi.addr, fun x s => (s.writes x.ws).signal s false),
  (R.MB_WDTc_CFG.addr, fun x s => let t := s.writes x.ws; if bitOf x.v 31 then t.kick x.i else t),
  (R.FB_BLK_WORLD_LO.addr, worldHandler fixedEntry R.FB_BLK_WORLD_LO_ENTRY fun _ _ => false),
  (R.FB_BLK_WORLD_HI.addr, worldHandler (fun k => fixedEntry (32 + k)) R.FB_BLK_WORLD_HI_ENTRY fun _ _ => false),
  (R.FB_REGION_WORLD.addr, worldHandler (fun _ => false) R.FB_REGION_WORLD_REGION State.imageRegion),
  (R.FB_PART_WORLD.addr, worldHandler (fun _ => false) R.FB_PART_WORLD_PART fun _ _ => false),
  (R.FB_CFG.addr, fun x s => let t := s.writes x.ws; if t.on R.FB_CFG_DEBUG_PERMIT then t else t.setUnlocked false),
  (R.TL_GCNTg_j_CFG.addr, fun x s => s.cntRegWrite false x.i x.j 0 x.v),
  (R.TL_GCNTg_j_AUX.addr, fun x s => s.cntRegWrite false x.i x.j 1 x.v),
  (R.TL_GCNTg_j_ALM.addr, fun x s => s.cntRegWrite false x.i x.j 2 x.v),
  (R.TL_CNTk_CFG.addr, fun x s => s.cntRegWrite true 0 x.i 0 x.v), (R.TL_CNTk_AUX.addr, fun x s => s.cntRegWrite true 0 x.i 1 x.v),
  (R.TL_CNTk_ALM.addr, fun x s => s.cntRegWrite true 0 x.i 2 x.v),
  (R.TL_BWp_CFG.addr, fun x s => (s.writes x.ws).restartBw x.i), (R.TL_BWp_PER.addr, fun x s => (s.writes x.ws).restartBw x.i),
  (R.TL_BWp_ALM.addr, fun x s => (s.writes x.ws).restartBw x.i),
  (R.PM_START_CFG.addr, fun x s => s.asCmd cmdPwrStartCfg x.init (s.startWords 0 x.w)),
  (R.PM_WAKE_CFG.addr, fun x s => s.asCmd cmdPwrStartCfg x.init (s.startWords 1 x.w)),
  (R.PM_WAKE_ALARM_LO.addr, fun x s => s.asCmd cmdPwrStartCfg x.init (s.startWords 2 x.w)),
  (R.PM_WAKE_ALARM_HI.addr, fun x s => s.asCmd cmdPwrStartCfg x.init (s.startWords 3 x.w)),
  (R.PM_TEMP_CFG.addr, fun x s => s.asCmd cmdPwrStartCfg x.init (s.startWords 4 x.w)),
  (R.NV_FAIL_STAT.addr, fun x s => if bitOf x.v 31 then (s.set R.NV_FAIL_STAT_VALID 0).set R.NV_FAIL_STAT_COUNT 0 else s),
  (R.NV_CTRL.addr, fun x s => if bitOf x.v 31 then s.nvCtrl x.init (bits x.v 29 28) (bits x.v 9 0)
    else if s.nvOp.isSome then s else s.writes x.ws),
  (R.HI_M0_CFG.addr, m0Handler)]

/-- Every register whose write is more than its fields. -/
def handlers : List (Nat × Handler) :=
  laneHandlers ++ timeHandlers ++ refHandlers ++ synHandlers ++ gnssHandlers ++ etHandlers ++ pathHandlers ++ tallyHandlers ++ sysHandlers

/-- The fields that a write may change, for the lock: FREQ and SWF are read-only while their loop runs (R74, R186),
and the fixed entries of the world tables stay (R504). -/
def State.lockable (s : State) (r : Reg) (v i j : Nat) : List FieldWrite :=
  let a := r.addr
  if (a = R.HW_TBn_FREQ_LO.addr ∨ a = R.HW_TBn_FREQ_HI.addr) ∧ s.on R.HW_TBn_CTRL_SRC i = false then []
  else if (a = R.TR_DPLLn_SWF_LO.addr ∨ a = R.TR_DPLLn_SWF_HI.addr) ∧ s.on R.TR_DPLLn_CFG_OPEN i = false then []
  else s.saneWrites r v i j

/-- A direct write by an initiator: a violation, or the effect of its register's rules. -/
def State.busWrite (s : State) (init addr v : Nat) : State :=
  let v := v % 2 ^ 32
  match findReg addr with
  | none => s.directWrite init addr [] id
  | some (r, i, j) =>
    s.directWrite init addr (s.lockable r v i j) fun s =>
      let x : Write := { init := init, addr := addr, i := i, j := j, w := s.saneWord r v i j, v := v, ws := s.saneWrites r v i j }
      match handlers.find? (fun (h : Nat × Handler) => h.1 == r.addr) with
      | some h => h.2 x s
      | none => (s.writes x.ws).clearOnes r v i j

/-- REGISTER_WRITE (R660). -/
def execRegisterWrite (init addr v : Nat) (s : State) : Host.Outcome State Fault Refusal := .next (s.busWrite init addr v)

end Sys2Proof.Machine
end

