-- ==== Sys2Proof/Machine/HostIf.lean ====
section
/-! DEFINITION. The host interfaces: the PCIe endpoint, the management port M0, the I²C target, the console and
the test port (R610 to R634). -/

namespace Sys2Proof.Machine

/-! ### PCIe (R611 to R613) -/

/-- A function's configuration space and MSI-X table reset, and its semaphores are released. -/
def State.resetPf (s : State) (f : Nat) : State :=
  let t := { s with pf := Tab.put s.pf f {} }.set (if f = 0 then R.HI_PCIE_STAT_PF0_BME else R.HI_PCIE_STAT_PF1_BME) 0
  t.ownerFault (4 + f)

/-- The link leaves L0: both functions reset, and a link that was up raises PCIE_LINK. -/
def State.pcieDown (s : State) : State :=
  let was := s.on R.HI_PCIE_STAT_LINK_UP
  let t := (s.resetPf 0).resetPf 1
  let t := t.writes [{ f := R.HI_PCIE_STAT_LINK_UP, v := 0 }, { f := R.HI_PCIE_STAT_SPEED, v := 0 }, { f := R.HI_PCIE_STAT_WIDTH, v := 0 }]
  if was then t.raise 114 0 else t

/-- PCIE_LINK (R610, R613, R629): generation 0 is a link that is down, `pcie_perst_n` low included; a hot reset takes
the link out of L0 and resets both functions. The endpoint trains after S1. -/
def execPcieLink (dt gen width : Nat) (hot : Bool) (s : State) : Host.Outcome State Fault Refusal :=
  let t := s.elapse dt
  let up := decide (1 ≤ gen) && decide (gen ≤ 4) && [1, 2, 4].contains width && !t.beforeStep 2
  .next (if !t.powered then t
    else if gen = 0 then t.pcieDown
    else
      let t := if hot then t.pcieDown else t
      let same := t.on R.HI_PCIE_STAT_LINK_UP && t.get R.HI_PCIE_STAT_SPEED == gen && t.get R.HI_PCIE_STAT_WIDTH == width
      if up && !same then
        (t.writes [{ f := R.HI_PCIE_STAT_LINK_UP, v := 1 }, { f := R.HI_PCIE_STAT_SPEED, v := gen },
          { f := R.HI_PCIE_STAT_WIDTH, v := width }]).raise 114 (16 * gen + width)
      else t)

/-- PCIE_FLR (R613). -/
def execPcieFlr (dt f : Nat) (s : State) : Host.Outcome State Fault Refusal :=
  let t := s.elapse dt
  let f := f % 2
  .next (if t.on R.HI_PCIE_STAT_LINK_UP then
      ((t.resetPf f).incSat (if f = 0 then R.HI_PCIE_STAT_FLR_CNT0 else R.HI_PCIE_STAT_FLR_CNT1)).raise 115 f
    else t)

/-- Send the messages of a function's vectors that are pending and no longer masked. -/
def State.sendPending (s : State) (f : Nat) : State :=
  (List.range 32).foldl (fun s v =>
    let p := Tab.get {} s.pf f
    if bitOf p.pba v && p.bme && p.msixEn && !p.fmask && !bitOf p.vmask v then
      { s with pf := Tab.put s.pf f { p with pba := p.pba - 2 ^ v } }.emit (.msix f v)
    else s) s

/-- PCIE_CONFIG_WRITE (R545, R611): bus mastering, MSI-X enable, and the function's and the vectors' masks. -/
def execPcieConfigWrite (f vmask : Nat) (bme msixEn fmask : Bool) (s : State) : Host.Outcome State Fault Refusal :=
  let s := s.quiet
  let f := f % 2
  let p : Pf := { Tab.get {} s.pf f with bme := bme, msixEn := msixEn, fmask := fmask, vmask := vmask % 2 ^ 32 }
  .next (if s.on R.HI_PCIE_STAT_LINK_UP then
      ({ s with pf := Tab.put s.pf f p }.setB (if f = 0 then R.HI_PCIE_STAT_PF0_BME else R.HI_PCIE_STAT_PF1_BME) bme).sendPending f
    else s)

/-! ### Accesses on behalf of another interface -/

/-- An output is the error response of a memory access. -/
def Out.isErr : Out → Bool
  | .errResp _ _ => true
  | _ => false

/-- A write made for another interface, whose error form replaces the error response: whether it was carried out, and the
state. -/
def State.portWrite (s : State) (init addr v : Nat) : Bool × State :=
  let t := s.busWrite init addr v
  (!t.out.any Out.isErr, { t with out := s.out ++ t.out.filter fun o => !o.isErr })

/-- A read made for another interface: the word, none where it is refused, and the state. -/
def State.portRead (s : State) (init addr : Nat) : Option Nat × State :=
  let (w, t) := s.busRead init addr
  (w, { t with out := t.out.filter fun o => !o.isErr })

/-! ### The management port (R614 to R617) -/

/-- M0_LINK (R614, R629): speed 0 to 2 for 10, 100 and 1,000 Mb/s; 1000BASE-X has the last alone. -/
def execM0Link (dt speed : Nat) (up : Bool) (s : State) : Host.Outcome State Fault Refusal :=
  let t := s.elapse dt
  let v := if !up then 0 else if t.on R.HI_M0_CFG_MODE then min 2 speed else 2
  .next (if t.powered && !t.asleep 41 && (t.on R.HI_M0_STAT_LINK != up || t.get R.HI_M0_STAT_SPEED != v) then
      ((t.setB R.HI_M0_STAT_LINK up).set R.HI_M0_STAT_SPEED v).raise 116 (b2n up + 2 * v)
    else t)

/-- M0's MAC address: MAC_BASE + 48. -/
def State.m0Mac (s : State) : Nat :=
  (s.get R.PT_MAC_BASE_LO_MAC_BASE + 2 ^ 32 * s.get R.PT_MAC_BASE_HI_MAC_BASE + 48) % 2 ^ 48

/-- A frame is an access frame that M0 accepts. -/
def State.m0Takes (s : State) (b : List Byte) : Bool :=
  s.on R.HI_M0_CFG_EN && decide (14 ≤ b.length) && fieldAt b 0 6 == s.m0Mac && fieldAt b 12 2 == 0x88B5
  && (!s.on R.HI_M0_CFG_PEER_EN || fieldAt b 6 6 == s.get R.HI_M0_PEER_LO_PEER + 2 ^ 32 * s.get R.HI_M0_PEER_HI_PEER)

/-- M0_FRAME_ARRIVAL (R615, R616): a frame without its FCS. -/
def execM0FrameArrival (dt : Nat) (bytes : List Byte) (s : State) : Host.Outcome State Fault Refusal :=
  let t := s.elapse dt
  .next (if !t.asleep 41 && t.on R.HI_M0_STAT_LINK && t.m0Takes bytes then
      if t.hi.m0.length < 8 then
        { t with hi := { t.hi with m0 := t.hi.m0 ++ [{ src := fieldAt bytes 6 6, payload := bytes.drop 14 }] } }
      else t.incSat R.HI_M0_STAT_DROP
    else t)

/-- A request names words that lie within one block of R464, at a DW-aligned offset (R612). -/
def oneBlock (off n : Nat) : Bool :=
  off % 4 == 0 && decide (off < 0x800000) && off / 0x100000 == (off + 4 * n - 4) / 0x100000

/-- Read words until one is refused. -/
def State.readWords (s : State) (init addr : Nat) : Nat → List Nat × Bool × State
  | 0 => ([], true, s)
  | k + 1 => match s.portRead init addr with
    | (none, t) => ([], false, t)
    | (some w, t) => let (ws, ok, u) := t.readWords init (addr + 4) k; (w :: ws, ok, u)

/-- Write words until one is refused: how many were carried out. -/
def State.writeWords (s : State) (init addr : Nat) : List Nat → Nat × State
  | [] => (0, s)
  | w :: ws => match s.portWrite init addr w with
    | (false, t) => (0, t)
    | (true, t) => let (n, u) := t.writeWords init (addr + 4) ws; (n + 1, u)

/-- The response frame to a request. -/
def State.m0Answer (s : State) (f : M0Frame) (count status : Nat) (data : List Nat) : State :=
  s.emit (.m0 (beBytes 6 f.src ++ beBytes 6 s.m0Mac ++ beBytes 2 0x88B5 ++ beBytes 2 0x4B4D ++ beBytes 1 3 ++ beBytes 1 count
    ++ beBytes 2 (fieldAt f.payload 4 2) ++ beBytes 1 status ++ beBytes 1 0 ++ beBytes 4 (fieldAt f.payload 8 4)
    ++ data.flatMap fun w => beBytes 4 w))

/-- A request's frame is good: its magic and count, and the rules of R612. -/
def m0Good (f : M0Frame) (write : Bool) : Bool :=
  let n := fieldAt f.payload 3 1
  decide (12 ≤ f.payload.length) && fieldAt f.payload 0 2 == 0x4B4D && decide (1 ≤ n) && decide (n ≤ 64)
  && oneBlock (fieldAt f.payload 8 4) n && (!write || decide (12 + 4 * n ≤ f.payload.length))

/-- Handle the oldest waiting frame, where it is a WRITE or is not one. -/
def State.m0Handle (s : State) (write : Bool) (k : State → M0Frame → State) : State :=
  match s.hi.m0 with
  | [] => s
  | f :: rest => if s.asleep 41 then s else if (fieldAt f.payload 2 1 == 2) == write then k { s with hi := { s.hi with m0 := rest } } f else s

/-- The initiator of M0's accesses. -/
def State.m0Init (s : State) : Nat := 4 + s.get R.HI_M0_CFG_FUNC

/-- M0_READ (R615, R616): a READ is carried out word by word; any frame that is neither READ nor WRITE is a bad
request. -/
def execM0Read (dt : Nat) (s : State) : Host.Outcome State Fault Refusal :=
  .next ((s.elapse dt).m0Handle false fun s f =>
    if fieldAt f.payload 2 1 = 1 ∧ m0Good f false then
      let (ws, ok, t) := s.readWords s.m0Init (fieldAt f.payload 8 4) (fieldAt f.payload 3 1)
      t.m0Answer f ws.length (b2n (!ok)) ws
    else s.m0Answer f 0 2 [])

/-- M0_WRITE (R615, R616). -/
def execM0Write (dt : Nat) (s : State) : Host.Outcome State Fault Refusal :=
  .next ((s.elapse dt).m0Handle true fun s f =>
    if m0Good f true then
      let n := fieldAt f.payload 3 1
      let (k, t) := s.writeWords s.m0Init (fieldAt f.payload 8 4) ((List.range n).map fun i => fieldAt f.payload (12 + 4 * i) 4)
      t.m0Answer f k (b2n (k != n)) []
    else s.m0Answer f 0 2 [])

/-! ### The I²C target (R618 to R621) -/

/-- SMBus PEC, one byte: CRC-8 with polynomial 0x07. -/
def pecByte (c : Nat) (b : Byte) : Nat :=
  (List.range 8).foldl (fun c _ => if 128 ≤ c then Nat.xor (2 * c % 256) 0x07 else 2 * c) (Nat.xor c b.toNat)

/-- Answer a read of a command: the bytes, and the PEC over the whole transaction where it is on. -/
def State.i2cAnswer (s : State) (cmd : Nat) (pre bytes : List Byte) : State :=
  let a := s.get R.HI_I2C_STAT_ADDR
  let all := [BitVec.ofNat 8 (2 * a), BitVec.ofNat 8 cmd] ++ pre ++ [BitVec.ofNat 8 (2 * a + 1)] ++ bytes
  s.emit (.i2c (bytes ++ if s.on R.HI_I2C_CFG_PEC_EN then [BitVec.ofNat 8 (all.foldl pecByte 0)] else []))

/-- The target answers while region T1 is powered. -/
def State.i2cDo (s : State) (k : State → State) : Host.Outcome State Fault Refusal :=
  .next (if s.quiet.powered then k s.quiet else s.quiet)

/-- I2C_STATUS: the read clears ERR and PEC_ERR. -/
def execI2cStatus (s : State) : Host.Outcome State Fault Refusal :=
  s.i2cDo fun s =>
    let v := s.get R.HI_I2C_STAT_ERR + 2 * s.get R.HI_I2C_STAT_PEC_ERR + 4 * s.get R.MB_STATUS_FW_READY_N + 8 * b2n s.irqLow
    ((s.set R.HI_I2C_STAT_ERR 0).set R.HI_I2C_STAT_PEC_ERR 0).i2cAnswer 0x00 [] (leBytes 1 v)

/-- I2C_DEV_ID. -/
def execI2cDevId (s : State) : Host.Outcome State Fault Refusal :=
  s.i2cDo fun s => s.i2cAnswer 0x01 [] (leBytes 4 (s.word R.DEV_ID))

/-- I2C_NODE_ID. -/
def execI2cNodeId (s : State) : Host.Outcome State Fault Refusal :=
  s.i2cDo fun s => s.i2cAnswer 0x02 [] (leBytes 4 (s.word R.NODE_ID))

/-- I2C_MODE_STATE. -/
def execI2cModeState (s : State) : Host.Outcome State Fault Refusal :=
  s.i2cDo fun s => s.i2cAnswer 0x03 [] (leBytes 4 (s.word R.MODE_STATE))

/-- I2C_PWR_STATE. -/
def execI2cPwrState (s : State) : Host.Outcome State Fault Refusal :=
  s.i2cDo fun s => s.i2cAnswer 0x04 [] (leBytes 4 (s.word R.PWR_STATE))

/-- I2C_TEMP: the dies T, A and B. -/
def execI2cTemp (s : State) : Host.Outcome State Fault Refusal :=
  s.i2cDo fun s => s.i2cAnswer 0x05 [] (leBytes 3 (s.word R.PM_TEMP_STAT))

/-- I2C_TIME: seconds, nanoseconds and flags of the line timebase. -/
def execI2cTime (s : State) : Host.Outcome State Fault Refusal :=
  s.i2cDo fun s =>
    let n := s.lineTb
    let u := units16 (s.time n)
    s.i2cAnswer 0x06 [] (leBytes 6 (u / 65536 / 10 ^ 9 % 2 ^ 48) ++ leBytes 4 (u / 65536 % 10 ^ 9)
      ++ leBytes 1 (b2n (s.tbOf n).timeValid + 2 * b2n (s.dpllState n == 2)))

/-- I2C_EVENTS: as a non-secure initiator sees them. -/
def execI2cEvents (s : State) : Host.Outcome State Fault Refusal :=
  s.i2cDo fun s => s.i2cAnswer 0x07 [] ((List.range 4).flatMap fun i =>
    leBytes 4 (Nat.land (s.get R.EV_STATUSi_STATUS i) (s.evMask 7 i)))

/-- A NACK. -/
def State.i2cNack (s : State) : State := s.emit .i2cNack

/-- An access of the target was refused under R507. -/
def State.i2cErr (s : State) : State := s.set R.HI_I2C_STAT_ERR 1

/-- A write passes its PEC check, or is discarded with PEC_ERR and a NACK. -/
def State.i2cPec (s : State) (pec : Bool) (k : State) : State :=
  if s.on R.HI_I2C_CFG_PEC_EN && !pec then (s.set R.HI_I2C_STAT_PEC_ERR 1).i2cNack else k

/-- The offset stands in a mailbox. -/
def mbOffset (off : Nat) : Bool := off % 4 == 0 && decide (off < 0x20C)

/-- The address of an offset in the target's mailbox. -/
def State.i2cMb (s : State) (off : Nat) : Nat := 0x1000 * (8 + s.get R.HI_I2C_CFG_MB_SEL) + off

/-- Write consecutive words of the mailbox, up to a NACK. -/
def State.i2cWrite (s : State) (off : Nat) : List Nat → State
  | [] => s
  | w :: ws =>
    if mbOffset off then
      match s.portWrite 7 (s.i2cMb off) w with
      | (true, t) => t.i2cWrite (off + 4) ws
      | (false, t) => t.i2cErr.i2cNack
    else s.i2cNack

/-- I2C_MB_WRITE. -/
def execI2cMbWrite (off : Nat) (words : List Nat) (pec : Bool) (s : State) : Host.Outcome State Fault Refusal :=
  s.i2cDo fun s => s.i2cPec pec (s.i2cWrite off words)

/-- Read consecutive words of the mailbox: a refused read gives zeros. -/
def State.i2cReads (s : State) (off : Nat) : Nat → List Nat × State
  | 0 => ([], s)
  | k + 1 =>
    let (w, t) := if mbOffset off then s.portRead 7 (s.i2cMb off) else (none, s)
    let (ws, u) := (if w.isNone then t.i2cErr else t).i2cReads (off + 4) k
    (w.getD 0 :: ws, u)

/-- I2C_MB_READ. -/
def execI2cMbRead (off n : Nat) (s : State) : Host.Outcome State Fault Refusal :=
  s.i2cDo fun s =>
    if mbOffset off then
      let (ws, t) := s.i2cReads off (n % 256)
      t.i2cAnswer 0x10 (leBytes 2 off) (ws.flatMap fun w => leBytes 4 w)
    else s.i2cNack

/-- I2C_SEM_WRITE: a refused write sets ERR. -/
def execI2cSemWrite (n cmd lease : Nat) (pec : Bool) (s : State) : Host.Outcome State Fault Refusal :=
  s.i2cDo fun s =>
    let (ok, t) := s.portWrite 7 (semAddr (n % 256)) (cmd % 4 + lease % 1024 * 2 ^ 10)
    s.i2cPec pec (if 64 ≤ n % 256 then s.i2cNack else if ok then t else t.i2cErr.i2cNack)

/-- I2C_SEM_READ. -/
def execI2cSemRead (n : Nat) (s : State) : Host.Outcome State Fault Refusal :=
  s.i2cDo fun s =>
    if 64 ≤ n % 256 then s.i2cNack
    else
      let (w, t) := s.portRead 7 (semAddr (n % 256))
      (if w.isNone then t.i2cErr else t).i2cAnswer 0x11 (leBytes 1 n) (leBytes 4 (w.getD 0))

/-- I2C_UNKNOWN_COMMAND. -/
def execI2cUnknownCommand (c : Nat) (s : State) : Host.Outcome State Fault Refusal :=
  s.i2cDo fun s => if c % 256 < 8 ∨ c % 256 = 0x10 ∨ c % 256 = 0x11 then s else s.i2cNack

/-- I2C_RESET (R621). -/
def execI2cReset (dt : Nat) (s : State) : Host.Outcome State Fault Refusal :=
  let t := s.elapse dt
  .next (if t.powered then (t.ownerFault 7).raise 117 0 else t)

/-! ### The console (R624) -/

/-- UART_BYTE. -/
def execUartByte (dt b : Nat) (s : State) : Host.Outcome State Fault Refusal :=
  let t := s.elapse dt
  .next (if t.powered && !t.asleep 44 && t.on R.HI_UART_CFG_EN then
      if t.hi.uart.length < 256 then { t with hi := { t.hi with uart := t.hi.uart ++ [BitVec.ofNat 8 b] } }
      else (t.incSat R.HI_UART_STAT_OVF_CNT).raise 119 1
    else t)

/-- A byte ends a line. -/
def isEol (b : Byte) : Bool := b == 13 || b == 10

/-- The first line of the buffer and what follows it: a line ends at CR or LF, and a full buffer without one is a
line. -/
def firstLine (l : List Byte) : Option (List Byte × List Byte) :=
  let l := l.dropWhile isEol
  let a := l.takeWhile fun b => !isEol b
  if a.length < l.length then some (a, (l.drop a.length).dropWhile isEol)
  else if 256 ≤ l.length then some (a, []) else none

/-- The ASCII bytes of a string. -/
def ascii (t : String) : List Byte := t.toList.map fun c => BitVec.ofNat 8 c.toNat

/-- The lines that the console accepts. -/
def consoleLines : List String := ["status", "temp", "ver", "help"]

/-- Shouf reads the first line where a condition holds of it, and answers. -/
def State.console (s : State) (b : List Byte → Bool) (answer : String) : State :=
  match firstLine s.hi.uart with
  | some (a, rest) => if s.on R.MB_STATUS_FW_READY && !s.asleep 44 && s.on R.HI_UART_CFG_EN && b a then
      { s with hi := { s.hi with uart := rest } }.emit (.uart answer) else s
  | none => s

/-- UART_STATUS. -/
def execUartStatus (dt : Nat) (s : State) : Host.Outcome State Fault Refusal :=
  .next ((s.elapse dt).console (· == ascii "status") "status")

/-- UART_TEMP. -/
def execUartTemp (dt : Nat) (s : State) : Host.Outcome State Fault Refusal :=
  .next ((s.elapse dt).console (· == ascii "temp") "temp")

/-- UART_VER. -/
def execUartVer (dt : Nat) (s : State) : Host.Outcome State Fault Refusal :=
  .next ((s.elapse dt).console (· == ascii "ver") "ver")

/-- UART_HELP. -/
def execUartHelp (dt : Nat) (s : State) : Host.Outcome State Fault Refusal :=
  .next ((s.elapse dt).console (· == ascii "help") "help")

/-- UART_UNKNOWN_LINE. -/
def execUartUnknownLine (dt : Nat) (s : State) : Host.Outcome State Fault Refusal :=
  .next ((s.elapse dt).console (fun a => !(consoleLines.any fun l => a == ascii l)) "?")

/-! ### The test port (R625 to R628) -/

/-- Select an instruction. -/
def State.selectIr (s : State) (ir : Nat) : State := { s.quiet with hi := { s.hi with ir := ir } }.jtagSync

/-- Shift one bit through the bypass register, which captures 0. -/
def State.shiftBypass (s : State) (bit : Nat) : State :=
  { s with hi := { s.hi with bypass := bit % 2 } }.emit (.tdo 1 0)

/-- What the test port does while region T1 is powered and its block is not off (R560). -/
def State.jtag (s : State) (k : State → State) : Host.Outcome State Fault Refusal :=
  .next (if s.powered && !s.asleep 45 then k s else s.quiet)

/-- TAP_RESET (R625). -/
def execTapReset (s : State) : Host.Outcome State Fault Refusal := s.jtag fun s => s.selectIr 1

/-- JTAG_BYPASS (R625): every code without an instruction of its own selects it. -/
def execJtagBypass (code bit : Nat) (s : State) : Host.Outcome State Fault Refusal :=
  let c := code % 256
  s.jtag fun s => if [0x01, 0x02, 0x03, 0x04, 0x05, 0x20, 0x21].contains c then s.quiet else (s.selectIr c).shiftBypass bit

/-- JTAG_IDCODE (R625). -/
def execJtagIdcode (s : State) : Host.Outcome State Fault Refusal :=
  s.jtag fun s => (s.selectIr 1).emit (.tdo 32 (bits (s.get R.DEV_REV_REV_T) 7 4 * 2 ^ 28 + 0x4816 * 2 ^ 12 + 0x1D5 * 2 + 1))

/-- Sample the pins into the boundary-scan chain, whose length the board's description gives, and shift in what the
chain is to drive. -/
def State.scanPins (s : State) (v : Nat) : State :=
  let (p, t) := s.draw 1024
  { t with hi := { t.hi with scan := v } }.emit (.tdo 0 p)

/-- JTAG_SAMPLE_PRELOAD (R625). -/
def execJtagSamplePreload (v : Nat) (s : State) : Host.Outcome State Fault Refusal :=
  s.jtag fun s => (s.selectIr 2).scanPins v

/-- JTAG_EXTEST (R626): it acts as BYPASS outside MAINTENANCE. -/
def execJtagExtest (v : Nat) (s : State) : Host.Outcome State Fault Refusal :=
  s.jtag fun s => let t := s.selectIr 3; if t.mode = 5 then t.scanPins v else t.shiftBypass v

/-- JTAG_CLAMP (R626): the pins hold the preloaded values, and the bypass register is selected. -/
def execJtagClamp (v : Nat) (s : State) : Host.Outcome State Fault Refusal :=
  s.jtag fun s => (s.selectIr 4).shiftBypass v

/-- JTAG_HIGHZ (R626): the pins float, and the bypass register is selected. -/
def execJtagHighz (v : Nat) (s : State) : Host.Outcome State Fault Refusal :=
  s.jtag fun s => (s.selectIr 5).shiftBypass v

/-- The address that the debug port names: page × 0x8000 + offset, from the first page on. -/
def dbgAddr (addr : Nat) : Nat := if addr % 2 ^ 32 < 0x100000 then 0x600000 + addr % 2 ^ 32 else 0x700000 + addr % 2 ^ 32

/-- The 66-bit register of DBG_ACCESS as Capture-DR loads it: the data, DONE and ABORT of the access before, which shift
out as the next access shifts in. -/
def State.dbgWord (s : State) : Nat :=
  s.hi.dbgData % 2 ^ 32 + 2 ^ 64 * b2n s.hi.dbgDone + 2 ^ 65 * b2n s.hi.dbgAbort

/-- DBG_READ (R627). -/
def execDbgRead (addr : Nat) (s : State) : Host.Outcome State Fault Refusal :=
  s.jtag fun s =>
    let (w, t) := (s.selectIr 0x20).portRead 8 (dbgAddr addr)
    { t with hi := { t.hi with dbgData := w.getD 0, dbgDone := true, dbgAbort := w.isNone } }.emit (.tdo 66 s.dbgWord)

/-- DBG_WRITE (R627). -/
def execDbgWrite (addr v : Nat) (s : State) : Host.Outcome State Fault Refusal :=
  s.jtag fun s =>
    let (ok, t) := (s.selectIr 0x20).portWrite 8 (dbgAddr addr) v
    { t with hi := { t.hi with dbgDone := true, dbgAbort := !ok } }.emit (.tdo 66 s.dbgWord)

/-- A failed attempt counts, and the third blocks every later one. -/
def State.unlockFails (s : State) : State :=
  let t := s.incSat R.HI_JTAG_STAT_FAIL_CNT
  if 3 ≤ t.get R.HI_JTAG_STAT_FAIL_CNT then t.set R.HI_JTAG_STAT_UNLOCK_BLOCKED 1 else t

/-- DBG_UNLOCK (R628): a fresh challenge is presented, all zeros without DEBUG_PERMIT; the key index and the signature
that answer it are verified. -/
def execDbgUnlock (key sr ss : Nat) (s : State) : Host.Outcome State Fault Refusal :=
  s.jtag fun s =>
    let t := s.selectIr 0x21
    let permit := t.on R.FB_CFG_DEBUG_PERMIT
    let ch := if permit then Config.challenge t.drawn % 2 ^ 256 else 0
    let t := { t with drawn := t.drawn + 1 }.emit (.tdo 256 ch)
    let key := key % 256
    if !permit || t.on R.HI_JTAG_STAT_UNLOCK_BLOCKED then t
    else if t.keyAccepted key && Config.ecdsaVerify key (Config.sha256 (beBytes 32 ch ++ t.serialBytes) % 2 ^ 256)
        (sr % 2 ^ 256 * 2 ^ 256 + ss % 2 ^ 256) then t.setUnlocked true
    else t.unlockFails

end Sys2Proof.Machine
end

