-- ==== Sys2Proof/Machine/Commands.lean ====
section
/-! DEFINITION. The command set of Shouf by opcode, how a core takes requests, and the runs through configuration
images (R458, R471, R472, R475 to R477). -/

namespace Sys2Proof.Machine

/-- The SYS group. -/
def sysCmds : List Cmd :=
  [cmdSysInfo, cmdSysNodeId, cmdSysCoreStatus, cmdSysWdtCfg, cmdSysBootCfg, cmdSysEcho]

/-- The NVM group. -/
def nvmCmds : List Cmd :=
  [cmdNvmStatus, cmdNvmRead, cmdNvmErase, cmdNvmWrite, cmdNvmVerify]

/-- The PWR group. -/
def pwrCmds : List Cmd :=
  [cmdPwrStatus, cmdPwrState, cmdPwrMode, cmdPwrReset, cmdPwrStartCfg]

/-- The TIME group. -/
def timeCmds : List Cmd :=
  [cmdTimeStatus, cmdTimeTbCfg, cmdTimeSet, cmdTimeAdjPhase, cmdTimeAdjFreq, cmdTimeUtc, cmdTimeDomainMap,
    cmdTimePair, cmdTimeCmp, cmdTimePps, cmdTimeSerial, cmdTimePtpPort, cmdTimeSessStatus, cmdTimeNpx]

/-- The REF group. -/
def refCmds : List Cmd :=
  [cmdRefStatus, cmdRefSlotStatus, cmdRefSlotCfg, cmdRefDpllCfg, cmdRefPrio, cmdRefGlobal, cmdRefOcxo,
    cmdRefForce, cmdRefSwLoop, cmdRefSwRead, cmdRefSwWrite]

/-- The SYN group. -/
def synCmds : List Cmd :=
  [cmdSynStatus, cmdSynApllCfg, cmdSynOutCfg, cmdSynCommit, cmdSynPhase]

/-- The GNSS group. -/
def gnssCmds : List Cmd :=
  [cmdGnssStatus, cmdGnssInputCfg, cmdGnssTimingCfg, cmdGnssTrustCfg, cmdGnssRead, cmdGnssSleep, cmdGnssFeSpi]

/-- The EVT group. -/
def evtCmds : List Cmd :=
  [cmdEvtStatus, cmdEvtCfg, cmdEvtInputCfg, cmdEvtRead]

/-- The LANE group. -/
def laneCmds : List Cmd :=
  [cmdLaneStatus, cmdLaneCfg, cmdLaneRestart, cmdLaneSpare, cmdLaneTest, cmdLaneInject, cmdLaneGroveCfg]

/-- The PORT group. -/
def portCmds : List Cmd :=
  [cmdPortStatus, cmdPortCfg, cmdPortDownCfg, cmdPortFc, cmdPortModule, cmdPortPolice]

/-- The FWD group. -/
def fwdCmds : List Cmd :=
  [cmdFwdStatus, cmdFwdWrite, cmdFwdRead, cmdFwdCommit, cmdFwdDiscard, cmdFwdBufCfg, cmdFwdEpochCfg]

/-- The SCHED group. -/
def schedCmds : List Cmd :=
  [cmdSchedStatus, cmdSchedPortCfg, cmdSchedQueueCfg, cmdSchedWrite, cmdSchedRead, cmdSchedBankCfg,
    cmdSchedCommit, cmdSchedCopy]

/-- The FLOW group. -/
def flowCmds : List Cmd :=
  [cmdFlowStatus, cmdFlowPortCfg, cmdFlowPlace, cmdFlowPin, cmdFlowRemove, cmdFlowCommit, cmdFlowDiscard,
    cmdFlowQuery, cmdFlowCfg]

/-- The RED group. -/
def redCmds : List Cmd :=
  [cmdRedStatus, cmdRedCtxCfg, cmdRedCtxStatus, cmdRedCtxReset, cmdRedPairCfg, cmdRedRole, cmdRedHealth,
    cmdRedLoopBreak]

/-- The SEC group. -/
def secCmds : List Cmd :=
  [cmdSecStatus, cmdSecBlockWorld, cmdSecRegionWorld, cmdSecPartWorld, cmdSecLock, cmdSecCrcCommit,
    cmdSecViolRead, cmdSecWindow, cmdSecDebugUnlock]

/-- The TEL group. -/
def telCmds : List Cmd :=
  [cmdTelStatus, cmdTelCounterCfg, cmdTelRead, cmdTelWindowCfg, cmdTelTallyCfg, cmdTelTallyRead, cmdTelEventCfg]

/-- The CAL group. -/
def calCmds : List Cmd :=
  [cmdCalStatus, cmdCalRun, cmdCalResult, cmdCalRecordWrite, cmdCalRecordRead, cmdCalLinkRecord]

/-- The command set without SYS.CFG_LOAD, which runs the others. -/
def imageCmds : List Cmd :=
  sysCmds ++ nvmCmds ++ pwrCmds ++ timeCmds ++ refCmds ++ synCmds ++ gnssCmds ++ evtCmds ++ laneCmds ++ portCmds ++ fwdCmds
  ++ schedCmds ++ flowCmds ++ redCmds ++ secCmds ++ telCmds ++ calCmds

/-- The command of an opcode in a configuration image; none for one that no image may hold. -/
def imageCmd (op : Nat) : Option Cmd := imageCmds.find? fun c => c.op == op

/-! ### Runs through a configuration image (R477, R572) -/

/-- The status of a code. -/
def Status.ofCode (c : Nat) : Status :=
  [.ok, .busy, .badOpcode, .badArg, .worldViolation, .locked, .noResource, .notInMode, .staleEpoch, .timeout, .hwFault,
   .placementReject, .checkFail, .staleTime, .commitPending].getD c .hwFault

/-- Run one request of an image as if it came from MB00; none while its answer waits for a later event. A
SYS.CFG_LOAD inside an image fails. -/
def State.imgRequest (s : State) (mb : Nat) (e : List Nat) : State × Option Status :=
  let s := { s with ctl := { s.ctl with imgAnswer := Tab.del s.ctl.imgAnswer mb } }
  match imageCmd (opOf e) with
  | none => (s, some (if opOf e = 0x0106 then .checkFail else .badOpcode))
  | some cmd =>
    let r := s.runCmd cmd { mb := some mb, init := 0, secure := true, args := (e.drop 1).take (bits (e.headD 0) 21 16) }
    if r.wait then (r.st, (Tab.find? r.st.ctl.imgAnswer mb).map Status.ofCode) else (r.st, some r.status)

/-- Run requests until one waits or fails, or none is left: the state, the run, and its result where it has one. -/
def State.imgSteps (s : State) (mb : Nat) (r : ImgRun) : Nat → State × ImgRun × Option Status
  | 0 => (s, r, some .ok)
  | k + 1 =>
    match r.left with
    | [] => (s, r, some .ok)
    | e :: rest =>
      let r := { r with left := rest, header := e.headD 0, waiting := false }
      match s.imgRequest mb e with
      | (t, none) => (t, { r with waiting := true }, none)
      | (t, some .ok) => t.imgSteps mb { r with index := r.index + 1 } k
      | (t, some x) => (t, r, some x)

/-- Go on with a run: a request that waited may have been answered. -/
def State.imgGo (s : State) (mb : Nat) (r : ImgRun) : State × ImgRun × Option Status :=
  if r.waiting then
    match Tab.find? s.ctl.imgAnswer mb with
    | none => (s, r, none)
    | some 0 => s.imgSteps mb { r with index := r.index + 1, waiting := false } (r.left.length + 1)
    | some c => (s, r, some (Status.ofCode c))
  else s.imgSteps mb r (r.left.length + 1)

/-- The header of a response to a request. -/
def rspHeader (h : Nat) (st : Status) : Nat := bits h 15 0 + st.code * 2 ^ 16 + bits h 31 24 * 2 ^ 24

/-- Go on with SYS.CFG_LOAD: its response comes at the end of the last request, or with the first one that fails. -/
def State.loadGo (s : State) (mb : Nat) (r : ImgRun) : State :=
  match s.imgGo 17 r with
  | (t, r, none) => { t with ctl := { t.ctl with load := some (mb, r) } }
  | (t, r, some st) =>
    let t := { t with ctl := { t.ctl with load := none } }
    if st = .ok then t.respond mb .ok [r.index, 2 ^ 32 - 1, rspHeader r.header .ok]
    else t.respond mb st [r.index, r.index, rspHeader r.header st]

/-- SYS.CFG_LOAD (R476, R477): an image that is not accepted, or whose entries cannot be told apart, is CHECK_FAIL. -/
def cmdSysCfgLoad : Cmd where
  op := 0x0106
  need := 1
  entry _ := 39
  body c s :=
    let slot := c.bits 1 0 0
    need (s.cfgAccepted slot) .checkFail s <|
    match s.entries slot with
    | none => fail s .checkFail
    | some l =>
      let h := s.header 2 slot
      let t := { s with ctl := { s.ctl with cfgImage := some (h.version, h.check), cfgSlot := slot } }
      { st := t.loadGo (c.mb.getD 0) { left := l }, wait := true }

/-- SYS_CFG_LOAD. -/
def execSysCfgLoad (r : Req) (s : State) : Host.Outcome State Fault Refusal :=
  .next (s.exchange (some cmdSysCfgLoad) cmdSysCfgLoad.op r)

/-- The command of an opcode (R475). -/
def cmdOf (op : Nat) : Option Cmd := if op = 0x0106 then some cmdSysCfgLoad else imageCmd op

/-- BAD_OPCODE (R473, R475): an opcode that names no command. -/
def execBadOpcode (op : Nat) (r : Req) (s : State) : Host.Outcome State Fault Refusal :=
  .next (s.exchange (cmdOf (op % 65536)) (op % 65536) r)

/-! ### Taking requests (R458, R471, R472) -/

/-- The mailboxes of a core in rotating order, starting after the one it served last. -/
def State.rotation (s : State) (core : Nat) : List Nat :=
  let (base, n, last) := if core = 0 then (0, 8, s.ctl.lastS) else if core = 2 then (8, 4, s.ctl.last2) else (12, 4, s.ctl.last3)
  (List.range n).map fun i => base + (last - base + 1 + i) % n

/-- The mailboxes of a core in the order of its service: those held when it became ready, then in rotation (R472). -/
def State.turns (s : State) (core : Nat) : List Nat :=
  (s.ctl.held.filter fun m => coreOf m == core) ++ s.rotation core

/-- The command of a mailbox's request. -/
def State.mbCmd (s : State) (mb : Nat) : Option Cmd := cmdOf (s.reqHeader mb % 65536)

/-- A command that C2 or C3 holds because the internal queue was full. -/
def State.heldBack (s : State) (core mb : Nat) : Bool :=
  core != 0 && s.needsPair mb (s.mbCmd mb) && !s.ctl.queue.contains mb && (match s.ctl.takenS with
    | some t => t.mb != mb
    | none => true)

/-- A core takes its next request, or goes on with what it holds. -/
def State.takeNext (s : State) (core : Nat) : State :=
  if !s.coreReady core then s
  else match s.takenBy core with
    | some x =>
      if s.heldBack core x.mb then s.takeMb x.mb (s.mbCmd x.mb)
      else if (Tab.find? s.ctl.semWait x.mb).isSome then s.carryOut x.mb (s.mbCmd x.mb)
      else if core = 0 then (match s.ctl.load with
        | some (mb, r) => s.loadGo mb r
        | none => s)
      else s
    | none => match (s.turns core).find? s.mbWaiting with
      | some mb => s.takeMb mb (s.mbCmd mb)
      | none => s

/-- REQUEST_TAKE (R471): the pair, C2 or C3 takes the next request of its set. -/
def execRequestTake (dt core : Nat) (s : State) : Host.Outcome State Fault Refusal :=
  .next ((s.elapse dt).takeNext (if core = 2 ∨ core = 3 then core else 0))

/-- SECURE_QUEUE_PASS (R458): C0 carries out the oldest command of the internal queue. -/
def execSecureQueuePass (dt : Nat) (s : State) : Host.Outcome State Fault Refusal :=
  let t := s.elapse dt
  .next (match t.ctl.queue with
    | mb :: rest => if t.coreReady 0 && t.ctl.takenS.isNone then
        ({ t with ctl := { t.ctl with queue := rest } }.setTaken 0 (some { mb := mb })).carryOut mb (t.mbCmd mb)
      else t
    | [] => t)

end Sys2Proof.Machine
end

