-- ==== Sys2Proof/Machine/Start.lean ====
section
/-! DEFINITION. Resets, the start sequence S1 to S12 with its retries, DORMANT and the wake (R25, R567 to R579,
R640). -/

namespace Sys2Proof.Machine

/-! ### What a reset keeps (R566, R568, R586) -/

/-- Register fields that live in Understory, with how many registers of each there are. -/
def underFields : List Fld :=
  [R.PM_START_CFG_PIN_KIND, R.PM_WAKE_CFG_ALARM_EN, R.PM_WAKE_CFG_WAKE_PIN_EN, R.PM_WAKE_ALARM_LO_ALARM,
   R.PM_WAKE_ALARM_HI_ALARM, R.MODE_STATE_LAST_FAIL_STEP, R.MODE_STATE_COLD_FAILS, R.MODE_STATE_WARM_FAILS,
   R.PM_START_STAT_START_CNT]

/-- The live trim registers, each with the number of its instances. -/
def trimFields : List (Fld × Nat) :=
  [(R.NODE_ID_NODE_ID, 1), (R.NODE_ID_UNSET, 1), (R.PT_MAC_BASE_LO_MAC_BASE, 1), (R.PT_MAC_BASE_HI_MAC_BASE, 1),
   (R.PT_KTXp_K_TX, 48), (R.PT_KRXp_K_RX, 48), (R.PT_TSSTATp_DELAY_UNCAL, 48)]

/-- The words that Forester's committed model keeps beside its flows. -/
def State.modelWords (s : State) : List Nat :=
  s.word R.FO_CFG :: (List.range 48).map fun p => s.word R.FO_PORTp_CFG p

/-- Copy register fields from another state. -/
def State.copyFields (s : State) (o : State) (l : List (Fld × Nat)) : State :=
  l.foldl (fun s x => (List.range x.2).foldl (fun s i => s.set x.1 (o.get x.1 i) i) s) s

/-- The state in which a reset of die T leaves the device; `live` says that the dies kept their supplies. The
trim store, the flash, BOOT_CFG's values and Understory are kept; CSRAM, live trim and Forester's model are
kept with the supplies. -/
def State.fresh (s : State) (live : Bool) : State :=
  let model := if live then (if s.pw.placed then some s.modelWords else s.pw.model) else none
  let us := { s.us with clk0 := s.us.clk0 + s.clk }
  let pw : Pw := { trim := live && s.pw.trim, model := model }
  let fo : Forester := { committed := if model.isSome then s.fo.committed else [] }
  let t : State := { pending := s.pending, out := s.out, drawn := s.drawn, us := us, pw := pw, fo := fo, nv := s.nv
                     nvBad := s.nvBad, nvLast := s.nvLast, bootCfg := s.bootCfg, flash := s.flash
                     csram := if live then s.csram else [] }
  let t := t.copyFields s (underFields.map fun f => (f, 1))
  let t := if live then t.copyFields s trimFields else t
  (t.bootSync.nvSync).set R.HI_I2C_STAT_ADDR (0x58 + Config.i2cStrap % 8)

/-! ### Failed starts (R573, R575, R576) -/

/-- The counters of a failed start: three failed warm starts make the next one cold. -/
def State.countFail (s : State) (step : Nat) : State :=
  let warm := s.on R.MODE_STATE_START_KIND
  let t := s.set R.MODE_STATE_LAST_FAIL_STEP step
  let w := s.get R.MODE_STATE_WARM_FAILS + 1
  let t := if !warm then t.set R.MODE_STATE_COLD_FAILS (min 3 (s.get R.MODE_STATE_COLD_FAILS + 1))
    else t.set R.MODE_STATE_WARM_FAILS (if 3 ≤ w then 0 else w)
  { t with us := { t.us with failed := some (if warm then 0 else 1), cold := t.us.cold || (warm && decide (3 ≤ w)) } }

/-- The sequencer stands still. -/
def State.haltStart (s : State) : State := (s.set R.MODE_STATE_START_RUN 0).set R.MODE_STATE_STEP 0

/-- MAINTENANCE after the third failed cold start, served by the boot ROM where no firmware runs (R575, R576). -/
def State.failEntry (s : State) : State :=
  let t := (s.set R.MODE_STATE_FAIL_ENTRY 1).setMode 5
  if t.ctl.fwVersion.isNone then (t.set R.MODE_STATE_ROM_ONLY 1).coreUp 0 else t

/-- A start has failed at a step: the third failed cold start enters MAINTENANCE; any other is followed by the next
start. -/
def State.failStart (s : State) (step : Nat) : State :=
  let t := (s.countFail step).haltStart
  if !s.on R.MODE_STATE_START_KIND && t.get R.MODE_STATE_COLD_FAILS == 3 then t.failEntry
  else { t with pw := { t.pw with failedAt := some s.clk } }

/-! ### The beginning of a start (R567, R573, R574, R579) -/

/-- S1 begins: the start-state record is valid, the starts are counted, and the failure of the start before and a
wake are reported. -/
def State.enterS1 (s : State) : State :=
  if !s.on R.MODE_STATE_START_RUN || s.get R.MODE_STATE_STEP != 0 then s
  else
    let t := (s.set R.MODE_STATE_STEP 1).incWrap R.PM_START_STAT_START_CNT
    let t := match s.us.failed with | some k => t.raise 104 k | none => t
    let t := match s.us.wake with | some k => t.raise 105 k | none => t
    { t with us := { t.us with failed := none, wake := none, startOk := true, cold := false }
             pw := { t.pw with stepAt := t.clk } }

/-- Dies T, A and B are reset and a start begins. A reset during a start, other than one with CLR_CNT, makes that
start a failed one (R573); where it is the third failed cold one no further start is made (R575). -/
def State.beginStart (s : State) (live cold clr : Bool) : State :=
  let cut := s.on R.MODE_STATE_START_RUN && !clr && !s.on R.MODE_STATE_START_KIND
  let s := if s.on R.MODE_STATE_START_RUN && !clr then s.countFail (max 1 (s.get R.MODE_STATE_STEP)) else s
  let kind := cold || s.us.cold || !s.us.startOk
  let t := s.fresh live
  let warm (c : LaneCache) : LaneCache := { c with warm := !kind }
  let t := { t with us := { t.us with lanes := t.us.lanes.map fun (e : Nat × LaneCache) => (e.1, warm e.2) } }
  let t := t.setB R.MODE_STATE_START_KIND (!kind)
  if cut && s.get R.MODE_STATE_COLD_FAILS == 3 then t.haltStart.failEntry
  else (if s.mode = 1 then t else (t.raise 102 1).tell ("mode " ++ modeName 1)).enterS1

/-- POWER_ON (R567): `vdd_us` has risen; Understory is new and the start is cold. -/
def execPowerOn (dt : Nat) (s : State) : Host.Outcome State Fault Refusal :=
  let t := s.elapse dt
  let at_ := t.us.clk0 + t.clk
  let u : State := { pending := t.pending, out := t.out, drawn := t.drawn, nv := t.nv, nvLast := t.nvLast
                     bootCfg := t.bootCfg, flash := t.flash, us := { clk0 := at_, keeper0 := Config.keeperAt at_ } }
  .next ((u.bootSync.nvSync).set R.HI_I2C_STAT_ADDR (0x58 + Config.i2cStrap % 8)).enterS1

/-- PIN_RESET (R567): `rst_n` has been low for 1 µs; its start is cold with PIN_KIND 0. -/
def execPinReset (dt : Nat) (s : State) : Host.Outcome State Fault Refusal :=
  let t := s.elapse dt
  .next (if t.pw.off then t else t.beginStart (t.mode != 0) (!t.on R.PM_START_CFG_PIN_KIND) false)

/-- DEVICE_RESET (R567): 1 ms after an accepted PWR.RESET of the device. -/
def execDeviceReset (dt : Nat) (s : State) : Host.Outcome State Fault Refusal :=
  let t := s.elapse dt
  .next (match t.pw.reset with
    | some r => if r.scope = 0 ∧ r.at_ + 10 ^ 9 ≤ t.clk then t.beginStart true (!r.warm) r.clr else t
    | none => t)

/-- START_RETRY_RESET (R573): 100 ms after a failed start; the retry of a cold start is cold. -/
def execStartRetryReset (dt : Nat) (s : State) : Host.Outcome State Fault Refusal :=
  let t := s.elapse dt
  .next (match t.pw.failedAt with
    | some f => if f + 10 ^ 11 ≤ t.clk then t.beginStart true (!t.on R.MODE_STATE_START_KIND) false else t
    | none => t)

/-- The dies are off: DORMANT. -/
def State.diesOff (s : State) : State := (s.fresh false).haltStart.set R.MODE_STATE_MODE 0

/-- DORMANT_ENTRY (R578): the time record and the receiver's data are saved, and the dies switched off. -/
def execDormantEntry (dt : Nat) (s : State) : Host.Outcome State Fault Refusal :=
  let t := s.elapse dt
  .next (if t.pw.dormant then t.saveTime.sleepGnss.diesOff else t)

/-- A wake: both sources are disarmed, and a warm start begins (R579). -/
def State.wakeUp (s : State) (source : Nat) : State :=
  let t := (s.set R.PM_WAKE_CFG_ALARM_EN 0).set R.PM_WAKE_CFG_WAKE_PIN_EN 0
  { t with us := { t.us with wake := some source } }.beginStart false false false

/-- The device is DORMANT, with `vdd_us` up. -/
def State.dormantNow (s : State) : Bool := s.mode == 0 && !s.pw.off

/-- WAKE_PIN (R579): `wake_n` has been low for 1 ms. -/
def execWakePin (dt : Nat) (s : State) : Host.Outcome State Fault Refusal :=
  let t := s.elapse dt
  .next (if t.dormantNow && t.on R.PM_WAKE_CFG_WAKE_PIN_EN then t.wakeUp 0 else t)

/-- KEEPER_ALARM (R579): the keeper has reached ALARM. -/
def execKeeperAlarm (dt : Nat) (s : State) : Host.Outcome State Fault Refusal :=
  let t := s.elapse dt
  .next (if t.dormantNow && t.on R.PM_WAKE_CFG_ALARM_EN && t.wakeHolds then t.wakeUp 1 else t)

/-- VDD_US_LOSS (R640): Understory and the keeper are lost, and the device is off. -/
def execVddUsLoss (dt : Nat) (s : State) : Host.Outcome State Fault Refusal :=
  let t := s.elapse dt
  let u : State := { pending := t.pending, out := t.out, drawn := t.drawn, nv := t.nv, nvLast := t.nvLast
                     bootCfg := t.bootCfg, flash := t.flash, us := { clk0 := t.us.clk0 + t.clk }, pw := { off := true } }
  .next (u.haltStart.set R.MODE_STATE_MODE 0)

/-- The output `pwr_en`: high while any of dies T, A and B is switched on (R639). -/
def State.pwrEn (s : State) : Bool := s.mode != 0 || s.on R.MODE_STATE_START_RUN

/-! ### The course of the steps (R570 to R573) -/

/-- The start runs step k. -/
def State.stepNow (s : State) (k : Nat) : Bool := s.on R.MODE_STATE_START_RUN && s.get R.MODE_STATE_STEP == k

/-- The start is warm. -/
def State.warmStart (s : State) : Bool := s.on R.MODE_STATE_START_KIND

/-- A step has ended: START_STEP, and its line on the console. -/
def State.stepOut (s : State) (k result : Nat) : State :=
  let name := ["S1", "S2", "S3", "S4", "S5", "S6", "S7", "S8", "S9", "S10", "S11", "S12"].getD (k - 1) "?"
  (s.raise 103 (det2 k result)).tell (name ++ if result = 0 then " pass" else " fail")

/-- PWR.MODE MAINTENANCE has stopped the start at the end of its step (R577). -/
def State.stopped (s : State) : State := { s.haltStart with pw := { s.haltStart.pw with stop := false } }

/-- A step passes; S12 ends the start and clears the counters (R575). -/
def State.passStep (s : State) (k : Nat) : State :=
  let t := (s.stepOut k 0).set R.PM_START_STAT_STEP_PASS (s.get R.PM_START_STAT_STEP_PASS ||| 2 ^ (k - 1))
  let t := { t with pw := { t.pw with begun := false, run := none, stepAt := t.clk } }
  if t.pw.stop then t.stopped
  else if k = 12 then (t.haltStart.set R.MODE_STATE_START_DONE 1).clearFails
  else t.set R.MODE_STATE_STEP (k + 1)

/-- A step fails, and with it the start, unless the start was to stop there. -/
def State.failStep (s : State) (k : Nat) : State :=
  let t := s.stepOut k 1
  let t := { t with pw := { t.pw with begun := false, run := none } }
  if t.pw.stop then t.stopped else t.failStart k

/-- The entries of the configuration image that a step runs, in image order (R571); a warm start that
reinstates the placement runs no FLOW entry (R409). -/
def State.stepEntries (s : State) (k : Nat) : List (List Nat) :=
  if s.ctl.cfgImage.isNone then [] else
  ((s.entries s.ctl.cfgSlot).getD []).filter fun e =>
    entryStep (opOf e) == k && !(opOf e / 256 == 0x24 && s.warmStart && s.pw.model.isSome)

/-- Go on with the entries of a step: whether they are done, and all answered OK. -/
def State.runEntries (s : State) (k : Nat) : State × Option Bool :=
  match s.imgGo 16 (s.pw.run.getD { left := s.stepEntries k }) with
  | (t, r, x) => ({ t with pw := { t.pw with run := some r } }, x.map fun st => st == .ok)

/-- The limit of a step, in ms, at a cold and at a warm start; none for a step that has none (R570). -/
def stepLimit (k : Nat) (warm : Bool) : Option Nat :=
  match k with
  | 1 => some 20
  | 2 => some (if warm then 1 else 10)
  | 3 => if warm then none else some 300
  | 4 => some (if warm then 40 else 250)
  | 5 => some (if warm then 1 else 5)
  | 6 => some 200
  | 8 => some 20
  | 9 => if warm then none else some 100
  | 10 => some 20
  | 11 => some (if warm then 50 else 500)
  | 12 => some 10
  | _ => none

/-- The step that runs has exceeded its limit (R573). -/
def State.overLimit (s : State) (k : Nat) : Bool := match stepLimit k s.warmStart with
  | some l => decide (s.pw.stepAt + l * 10 ^ 9 < s.clk)
  | none => false

/-- One attempt at a step: its own work once, then its entries, then what it waits for. Nothing happens where
the start does not run the step, or waits. -/
def State.runStep (s : State) (k : Nat) (begin_ : State → State × Bool) (finish : State → State × Option Bool) : State :=
  if !s.stepNow k then s
  else if s.overLimit k then s.failStep k
  else
    let b : State × Bool := if s.pw.begun then (s, true) else begin_ { s with pw := { s.pw with begun := true } }
    if !b.2 then b.1.failStep k
    else match b.1.runEntries k with
      | (t, none) => t
      | (t, some false) => t.failStep k
      | (t, some true) => match finish t with
        | (u, none) => u
        | (u, some true) => u.passStep k
        | (u, some false) => u.failStep k

/-- A step's work that cannot fail, and a step that waits for nothing more. -/
def always (f : State → State) (s : State) : State × Bool := (f s, true)

def atOnce (s : State) : State × Option Bool := (s, some true)

/-! ### S1 to S4 -/

/-- POWER_SEQUENCING (R570): S1; `ok` says that the supplies are in their windows and the core PLL has locked, so
that every APLL has its reference and the die-to-die links train (R26, log entry 206). -/
def execPowerSequencing (dt : Nat) (ok : Bool) (s : State) : Host.Outcome State Fault Refusal :=
  .next ((s.elapse dt).enterS1.runStep 1
    (fun s => (if ok then ((List.range 4).foldl (fun s a => s.set R.SY_APLLa_STAT_REF_OK 1 a) s).trainLinks [0, 1, 2] else s, ok)) atOnce)

/-- The records are read and the constants loaded; the device-identity record must be there (R604). -/
def State.loadRecords (s : State) : State × Bool :=
  let t := s.nvScan
  if (t.nvRec 0x01 0).isSome then
    let u := t.loadTrim
    ({ u with pw := { u.pw with trim := true } }, true)
  else (t, false)

/-- TRIM_LOAD (R570, R604): S2; `ok` says that the trim store can be read. A warm start skips it while live trim
passes its check. The sweep begins at its end (R510). -/
def execTrimLoad (dt : Nat) (ok : Bool) (s : State) : Host.Outcome State Fault Refusal :=
  .next ((s.elapse dt).runStep 2
    (fun s => if s.warmStart && s.pw.trim then (s, true) else if ok then s.loadRecords else (s, false))
    fun s => ({ s with ci := { s.ci with passStart := some s.clk } }, some true))

/-- BIST (R570): S3, skipped at a warm start; `ok` says that every fault could be repaired. -/
def execBist (dt : Nat) (ok : Bool) (s : State) : Host.Outcome State Fault Refusal :=
  .next ((s.elapse dt).runStep 3 (fun s => (s, s.warmStart || ok)) atOnce)

/-- A warm start needs no load: the header's HASH is the recorded one, SIG and SEC_VER hold, and the CSRAM copy
passes its check (R483). -/
def State.warmAuth (s : State) (slot : Nat) : Bool :=
  match s.us.boot with
  | none => false
  | some b => s.warmStart && !s.noImage 1 slot && (s.header 1 slot).hash == b.1 && s.sigOk 1 slot
      && decide (s.minSec ≤ (s.header 1 slot).secVer) && s.csramCrc s.us.bootLen == b.2

/-- The slot of a start, the trial slot once (R484): whether this start tries it or gives it up. -/
def State.chooseSlot (s : State) : State × Nat × Bool × Bool :=
  let b := s.bootCfg
  if b.trial && b.tried then
    let t := { s with bootCfg := { b with pref := 1 - b.pref, trial := false, tried := false } }.bootSync
    (t, 1 - b.pref, false, true)
  else if b.trial then ({ s with bootCfg := { b with tried := true } }, b.pref, true, false)
  else (s, b.pref, false, false)

/-- BOOT_FALLBACK: another slot than PREF named has been loaded. -/
def State.fellBack (s : State) (slot : Nat) : State := (s.set R.BOOT_STAT_FALLBACK 1).raise 93 slot

/-- Authenticate and load firmware: the chosen slot, or the other one (R482 to R484). -/
def State.bootFw (s : State) : State × Bool :=
  let (t, slot, trial, gaveUp) := s.chooseSlot
  let note (u : State) : State := if gaveUp then u.fellBack slot else u.setB R.BOOT_STAT_TRIAL_RUN trial
  if t.warmAuth slot then (note ((t.runsSlot slot).set R.BOOT_STAT_WARM_AUTH 1), true)
  else if t.fwAccepted slot then (note (t.loadFw slot), true)
  else if t.fwAccepted (1 - slot) then ((t.loadFw (1 - slot)).fellBack (1 - slot), true)
  else (t, false)

/-- The configuration image of CFG_PREF is taken into use; a refused one, or one with an entry that no step runs,
fails the step (R486, R571). -/
def State.takeImage (s : State) : State × Bool :=
  let slot := s.bootCfg.cfgPref
  if s.noImage 2 slot then (s, true)
  else if !s.cfgAccepted slot then (s, false)
  else match s.entries slot with
    | none => (s, false)
    | some l =>
      let h := s.header 2 slot
      if l.any fun e => entryStep (opOf e) == 0 then (s, false)
      else ({ s with ctl := { s.ctl with cfgImage := some (h.version, h.check), cfgSlot := slot } }, true)

/-- FIRMWARE (R482, R483): S4; its end releases the cores. -/
def execFirmware (dt : Nat) (s : State) : Host.Outcome State Fault Refusal :=
  .next ((s.elapse dt).runStep 4 (fun s => match s.bootFw with
      | (t, true) => t.takeImage
      | (t, false) => (t, false))
    fun s => (((s.coreUp 0).coreUp 2).coreUp 3, some true))

/-! ### S5 to S7 -/

/-- APLL_BAND_SEARCH (R570): S5 locks every enabled APLL and ends when APLL0 and APLL1 have locked. -/
def execApllBandSearch (dt : Nat) (s : State) : Host.Outcome State Fault Refusal :=
  .next ((s.elapse dt).runStep 5
    (always fun s => (List.range 4).foldl (fun s a => if s.on R.SY_APLLa_CFG_EN a then s.relock a else s) s)
    fun s => (s, if s.on R.SY_APLLa_STAT_LOCKED 0 && s.on R.SY_APLLa_STAT_LOCKED 1 then some true else none))

/-- The modules leave reset, and W0 opens (R285, R314). -/
def State.openTraining (s : State) : State :=
  let t := s.cfgWrites ((List.range 12).map fun g => { f := R.PT_MODg_RST, i := g, v := 0 })
  ({ t with waveFrom := some t.clk }.openWave).settleCfg

/-- LANE_TRAINING (R570): S6. -/
def execLaneTraining (dt : Nat) (s : State) : Host.Outcome State Fault Refusal :=
  .next ((s.elapse dt).runStep 6 (always State.openTraining) atOnce)

/-- Every lane of every enabled port is ACTIVE. -/
def State.allActive (s : State) : Bool :=
  (List.range 48).all fun p => !s.on R.PT_CFGp_EN p || (s.liveLanes p).all fun l => s.laneState l == 5

/-- CAPABILITY_EXCHANGE (R570): S7 ends when every enabled port is ACTIVE, or after 1 s. -/
def execCapabilityExchange (dt : Nat) (s : State) : Host.Outcome State Fault Refusal :=
  .next ((s.elapse dt).runStep 7 (always id)
    fun s => (s, if s.allActive || decide (s.pw.stepAt + 10 ^ 12 ≤ s.clk) then some true else none))

/-! ### S8 to S10 -/

/-- A warm start resumes a timebase that was enabled at the save, `el` keeper ticks ago: time, FREQ, UTC offset and
leap table, and its DPLL in FREERUN with the uncertainty of the resume (R171, R175, R570). -/
def State.resumeTb (s : State) (n el : Nat) (u : UsTb) : State :=
  let t := (s.set R.HW_TBn_CTRL_EN 1 n).set R.HW_TBn_UTC_UTC_OFS u.utc n
  let t := (List.range 4).foldl (fun s k =>
    let l := u.leap.getD k (0, 0)
    ((s.set R.HW_TBn_LEAPk_A_SEC (l.1 % 2 ^ 32) n k).set R.HW_TBn_LEAPk_B_SEC (l.1 / 2 ^ 32) n k).set R.HW_TBn_LEAPk_B_NEW_OFS l.2 n k) t
  let t := (t.takeFreq n u.freq).tbUpd n fun b => { b with
    acc := addTime u.time (el * 10 ^ 12 * 2 ^ 33), freq := u.freq, freqQ := [] }
  let t := if t.modelDue n then t.set R.TR_DPLLn_STAT_MODEL_VALID 1 n else t
  let e0 := el * 50 * 10 ^ 18 / 32768 + 30500000 * 10 ^ 12
  t.dpllUpd n fun d => { d with
    word := u.freq, base := u.freq, ocxoRef := s.tr.ocxoOfs, resumed := true, unknownErr := false, history := [(s.clk, u.freq)]
    hold := some { e0 := e0, entry := s.clk, last := s.clk, temp := s.tempT
                   ferr := 3, freq := u.freq } }

/-- The OCXO's warm-up goes on where the saved state has it active (R170, R566). -/
def State.resumeOcxo (s : State) : State :=
  match s.us.ocxoAt with
  | some k => ({ s with tr := { s.tr with ocxoSince := k } }.set R.TR_OCXO_STAT_ACTIVE 1).warmJudge
  | none => s

/-- The timebases resume from Understory. -/
def State.resumeTime (s : State) : State :=
  match s.us.saved with
  | none => s
  | some (k, l) =>
    let s := s.resumeOcxo
    let el := (s.keeper + 2 ^ 48 - k) % 2 ^ 48
    (List.range 8).foldl (fun s n => match l[n]? with
      | some u => if u.en then (s.resumeTb n el u).judgeTime n else s
      | none => s) s

/-- TIMEBASES (R570): S8; a cold start keeps the reset values. -/
def execTimebases (dt : Nat) (s : State) : Host.Outcome State Fault Refusal :=
  .next ((s.elapse dt).runStep 8 (always fun s => if s.warmStart then s.resumeTime else s) atOnce)

/-- The run of item 4 that S9 makes itself: its results are judged, recorded and put in use as those of a commanded
run, and kept in Understory (R594, R597). -/
def State.measureDelays (s : State) (vs : List Int) : State :=
  let t := s.writes [{ f := R.CA_RUN_STAT_RUNNING, v := 1 }, { f := R.CA_RUN_STAT_OUTCOME, v := 0 },
    { f := R.CA_RUN_STAT_ABORT_CAUSE, v := 0 }, { f := R.CA_RUN_STAT_ITEM, v := 4 }, { f := R.CA_RUN_STAT_TARGET, v := 0 },
    { f := R.CA_RUN_STAT_RUN_SEQ, v := s.get R.CA_RUN_STAT_RUN_SEQ + 1 }]
  let cal : Cal := { left := [0], since := s.clk }
  let t := { t with cal := cal }
  let q := (vs.getD 7 0).toNat % 65536
  let payload := t.calPayload 4 0 vs q
  let c := t.calChecked 4 0 payload
  let old := t.calOld 4 0
  let r := match c with | some c => t.checkWith c old false | none => 0
  let u := if r ≠ 0 then (t.raise 110 (det2 4 0)).calEnd 0 r (shownValue c) (shownValue old) q
    else t.calGive 0 payload (shownValue c) (shownValue old)
  ({ u with us := { u.us with delays := if r = 0 then some payload else u.us.delays } }.calOver 1 0).settleCfg

/-- The last cold results are put in use again. -/
def State.resumeDelays (s : State) : State :=
  match s.us.delays with
  | some l => (s.calEffect 4 0 l none).settleCfg
  | none => s

/-- INTERNAL_DELAY_CALIBRATION (R570): S9; `ok` says that the die-to-die links train, `vs` gives the residuals of A–B,
T–A and T–B, DIE_OFS, the bridge taps, the replica offsets and the quality. -/
def execInternalDelayCalibration (dt : Nat) (ok : Bool) (vs : List Int) (s : State) : Host.Outcome State Fault Refusal :=
  .next ((s.elapse dt).runStep 9
    (fun s => if s.warmStart then (s.resumeDelays, true) else if ok then (s.measureDelays vs, true) else (s, false)) atOnce)

/-- GNSS (R570): S10 starts the receiver; its entries may put it to sleep. -/
def execGnss (dt : Nat) (s : State) : Host.Outcome State Fault Refusal :=
  .next ((s.elapse dt).runStep 10 (always State.startGnss) atOnce)

/-! ### S11 and S12 -/

/-- A kept model is reinstated with the settings it was made under (R409). -/
def State.reinstate (s : State) : State :=
  match s.pw.model with
  | none => s
  | some w =>
    let t := s.cfgWrites (R.FO_CFG.writes (w.headD 0) ++ (List.range 48).flatMap fun p =>
      R.FO_PORTp_CFG.writes ((w.drop 1).getD p 0) p)
    t.foReinstate.settleCfg

/-- The placement of S11, after its entries: a warm start that kept CSRAM reinstates its own once. -/
def State.placeAgain (s : State) : State :=
  if s.warmStart && s.pw.model.isSome then { s.reinstate with pw := { s.reinstate.pw with model := none } } else s

/-- FLOW_PLACEMENT (R409, R570): S11 runs its entries, which replay the requests unless the placement of a warm start
that kept CSRAM is reinstated. It ends when no placement is in progress. -/
def execFlowPlacement (dt : Nat) (s : State) : Host.Outcome State Fault Refusal :=
  .next ((s.elapse dt).runStep 11 (always id)
    fun s => let s := s.placeAgain
      if s.foState < 2 then ({ s with pw := { s.pw with placed := true, model := none } }, some true) else (s, none))

/-- The image's last entry is a commit with OP 1. -/
def State.imageCommits (s : State) : Bool :=
  s.ctl.cfgImage.isSome && (match ((s.entries s.ctl.cfgSlot).getD []).getLast? with
    | some e => opOf e == 0x3006 && bitOf (e.getD 1 0) 0
    | none => false)

/-- What S12 waits for after its entries: the commit of OP 0 that Shouf makes, or the comparison of the first pass
after the image's commit (R512). -/
def State.checkCfg (s : State) : State × Option Bool :=
  if s.imageCommits then
    if !s.pw.committed then ({ s with pw := { s.pw with committed := true, checkNext := true } }, none)
    else if s.pw.checkNext then (s, none) else (s, some (!s.on R.CI_STAT_DRIFT))
  else if !s.pw.committed then
    let t := if s.ci.commit.isSome then s else s.acceptCommit 0 0 none
    ({ t with pw := { t.pw with committed := true } }, none)
  else (s, if s.ci.commit.isSome then none else some true)

/-- CONFIGURATION_CRC_CHECK (R512, R570): S12; Shouf's own commits of earlier steps settle before its entries run. -/
def execConfigurationCrcCheck (dt : Nat) (s : State) : Host.Outcome State Fault Refusal :=
  let t := s.elapse dt
  .next (if t.stepNow 12 && !t.pw.begun && t.ci.commit.isSome then t else t.runStep 12 (always id) State.checkCfg)

/-- START_STEP_TIMEOUT (R573): the running step exceeds its limit; S7 never fails. -/
def execStartStepTimeout (dt : Nat) (s : State) : Host.Outcome State Fault Refusal :=
  let t := s.enterS1.elapse dt
  let k := t.get R.MODE_STATE_STEP
  .next (if t.on R.MODE_STATE_START_RUN && t.overLimit k then t.failStep k else t)

/-! ### The reset of a port die (R25, R514, R529, R569) -/

/-- A stored frame has a cell in a bank of a die. -/
def Frame.inDie (f : Frame) (die : Nat) : Bool := f.cells.any fun c => c.bank / 32 == die

/-- A frame in reception is lost with the cells of a die: it is counted at each egress port of the other die (R25). -/
def State.lostRx (s : State) (die : Nat) (r : Rx) : State :=
  (r.res.ports.filter fun q => q / 24 != die).foldl (fun s q => s.count q 43) s

/-- The cells of a die's banks, and what waits in its ports, are lost: each copy is counted at its egress port, and so is
a frame in reception. -/
def State.loseCells (s : State) (die : Nat) : State :=
  let mine (p : Nat) : Bool := p / 24 == die
  (List.range 48).foldl (fun (s : State) p =>
    let sending := match Tab.find? s.cl.tx p with
      | some x => mine p || (match s.frame? x.frame with | some f => f.inDie die | none => false)
      | none => false
    let t := if sending then s.abandon p else s
    let t := match Tab.find? t.cl.rx p with
      | some r =>
        let hit := r.cells.any fun c => c.bank / 32 == die
        let t := if hit && r.drop.isNone then t.lostRx die r else t
        if mine p then { t with cl := { t.cl with rx := Tab.del t.cl.rx p } }.freeCells p r.res.cls r.cells
        else if hit then { t with cl := { t.cl with rx := Tab.put t.cl.rx p { r with cells := [], drop := some 43 } } }.freeCells p r.res.cls r.cells
        else t
      | none => t
    (List.range 8).foldl (fun s c => s.dropWhere p c 43 fun f => mine p || f.inDie die) t) s

/-- The address of a register that lies on a port die: its ports' and its groves'. -/
def onDie (die a : Nat) : Bool :=
  decide (0x600000 ≤ a) && (match regPort a with
    | some p => p / 24 == die
    | none => decide (blockEntry a < 12) && blockEntry a / 6 == die)

/-- Registers of a die return to their reset values, but for the states of its lanes and ports, which follow the
down handling; the configuration class is then restored (R514). -/
def State.resetDieRegs (s : State) (die : Nat) : State :=
  let t := s.eachField (onDie die) fun s f i j =>
    if f.cfgClass || f.addr == R.PT_STATp.addr || f.addr == R.LN_Ll_STAT.addr || f.addr == R.LN_GRVg_STAT.addr then s
    else s.set f (f.reset i j) i j
  (t.dropLatches (onDie die)).restoreRegs (onDie die)

/-- A port of the reset die goes on from the restored EN. -/
def State.restorePort (s : State) (p : Nat) : State :=
  if s.on R.PT_CFGp_EN p && s.portState p == 0 then s.portEnable p
  else if !s.on R.PT_CFGp_EN p && s.portState p != 0 then s.portDisable p else s

/-- What a die holds beside its registers: its trap queue, the histories of its regions, its ports' counters and
meters. -/
def State.resetDieState (s : State) (die : Nat) : State :=
  let far (p : Nat) : Bool := p / 24 != die
  let ctx (c : SCtx) : SCtx :=
    let c := { c with indiv := c.indiv.filter fun e => far e.1 }
    if (c.home.map fun h => h / 2) == some die then { c with rcvy := {}, home := none } else c
  let fixed := s.fixedCnt.filter fun e => far (e.1 / 64)
  let bw := s.bw.filter fun e => far e.1
  let t := { s with sctx := s.sctx.map fun (e : Nat × SCtx) => (e.1, ctx e.2), fixedCnt := fixed, bw := bw }
  let cl := { t.cl with trapA := if die = 0 then [] else t.cl.trapA, trapB := if die = 1 then [] else t.cl.trapB
                        arbs := t.cl.arbs.filter fun e => e.1 / 32 != die }
  let t := { t with cl := cl }
  let t := (List.range 32).foldl (fun s k => (s.set R.CL_BANKk_STAT_PARK 0 (32 * die + k)).set R.CL_BANKk_STAT_MAX_WAIT 0 (32 * die + k)) t
  (List.range 6).foldl (fun s g => (List.range 8).foldl (fun s k => s.restartCnt false (6 * die + g) k) s) t

/-- The lanes of a die fall to DETECT, or from TEST to DISABLED, and its substitutions end. -/
def State.resetDieLanes (s : State) (die : Nat) : State :=
  let t := (List.range 6).foldl (fun s g => if (s.subst? (6 * die + g)).isSome then s.abandonSub (6 * die + g) .hwFault else s) s
  (List.range 30).foldl (fun s i =>
    let l := 30 * die + i
    let st := s.laneState l
    if st = 6 then (s.laneOff l).judgeLane l
    else if 2 ≤ st ∧ st ≤ 5 then ((s.laneUpd l fun x => { x with lost := some s.clk }).laneDetect l).judgeLane l else s) t

/-- The target of the running calibration lies on a die (R596). -/
def State.calOnDie (s : State) (die : Nat) : Bool :=
  s.calRuns && (match s.get R.CA_RUN_STAT_ITEM, s.cal.left with
    | 2, k :: _ => k / 30 == die
    | 3, k :: _ => k / 6 == die
    | 4, _ => true
    | 5, k :: _ => k / 24 == die
    | 7, k :: _ => k / 24 == die
    | 8, k :: _ => k / 24 == die
    | _, _ => false)

/-- A reset of die A or B (R25): its ports go down, its cells are lost, its registers are restored and committed, and
its lanes train in waves from the end of the restore. -/
def State.resetDie (s : State) (die : Nat) : State :=
  let t := if s.calOnDie die then s.calAbort 2 else s
  let t := ((t.resetDieLanes die).loseCells die).resetDieState die
  let t := (t.resetDieRegs die).trainLinks [0, 1 + die]
  let t := (List.range 24).foldl (fun s i => s.restorePort (24 * die + i)) t
  let t := { t with waveDie := Tab.put t.waveDie die t.clk, ci := { t.ci with dirty := true } }
  (t.waveSync.reloadReplicas die).settleCfg

/-- DIE_RESET (R25, R567, R569): 1 ms after an accepted PWR.RESET of die A or die B. -/
def execDieReset (dt : Nat) (s : State) : Host.Outcome State Fault Refusal :=
  let t := s.elapse dt
  .next (match t.pw.reset with
    | some r => if r.scope ≠ 0 ∧ r.at_ + 10 ^ 9 ≤ t.clk then
        { t with pw := { t.pw with reset := none } }.resetDie (r.scope - 1) else t
    | none => t)

end Sys2Proof.Machine
end

