-- ==== Sys2Proof/Machine/Dispatch.lean ====
section
/-! DEFINITION. The meaning of every command, one arm per constructor. -/

namespace Sys2Proof.Machine


def exec (i : Instr) (s : State) : Host.Outcome State Fault Refusal :=
  match i with
  | .registerWrite init addr v => Sys2Proof.Machine.execRegisterWrite init addr v s
  | .badOpcode op r => Sys2Proof.Machine.execBadOpcode op r s
  | .doorbellRing init mb => Sys2Proof.Machine.execDoorbellRing init mb s
  | .requestWrite init mb k v => Sys2Proof.Machine.execRequestWrite init mb k v s
  | .responseRead init mb k => Sys2Proof.Machine.execResponseRead init mb k s
  | .requestTake dt core => Sys2Proof.Machine.execRequestTake dt core s
  | .secureQueuePass dt => Sys2Proof.Machine.execSecureQueuePass dt s
  | .sysInfo r => Sys2Proof.Machine.execSysInfo r s
  | .sysNodeId r => Sys2Proof.Machine.execSysNodeId r s
  | .sysCoreStatus r => Sys2Proof.Machine.execSysCoreStatus r s
  | .sysWdtCfg r => Sys2Proof.Machine.execSysWdtCfg r s
  | .sysBootCfg r => Sys2Proof.Machine.execSysBootCfg r s
  | .sysCfgLoad r => Sys2Proof.Machine.execSysCfgLoad r s
  | .sysEcho r => Sys2Proof.Machine.execSysEcho r s
  | .nvmStatus r => Sys2Proof.Machine.execNvmStatus r s
  | .nvmRead r => Sys2Proof.Machine.execNvmRead r s
  | .nvmErase r => Sys2Proof.Machine.execNvmErase r s
  | .nvmWrite r => Sys2Proof.Machine.execNvmWrite r s
  | .nvmVerify r => Sys2Proof.Machine.execNvmVerify r s
  | .pwrStatus r => Sys2Proof.Machine.execPwrStatus r s
  | .pwrState r => Sys2Proof.Machine.execPwrState r s
  | .pwrMode r => Sys2Proof.Machine.execPwrMode r s
  | .pwrReset r => Sys2Proof.Machine.execPwrReset r s
  | .pwrStartCfg r => Sys2Proof.Machine.execPwrStartCfg r s
  | .timeStatus r => Sys2Proof.Machine.execTimeStatus r s
  | .timeTbCfg r => Sys2Proof.Machine.execTimeTbCfg r s
  | .timeSet r => Sys2Proof.Machine.execTimeSet r s
  | .timeAdjPhase r => Sys2Proof.Machine.execTimeAdjPhase r s
  | .timeAdjFreq r => Sys2Proof.Machine.execTimeAdjFreq r s
  | .timeUtc r => Sys2Proof.Machine.execTimeUtc r s
  | .timeDomainMap r => Sys2Proof.Machine.execTimeDomainMap r s
  | .timePair r => Sys2Proof.Machine.execTimePair r s
  | .timeCmp r => Sys2Proof.Machine.execTimeCmp r s
  | .timePps r => Sys2Proof.Machine.execTimePps r s
  | .timeSerial r => Sys2Proof.Machine.execTimeSerial r s
  | .timePtpPort r => Sys2Proof.Machine.execTimePtpPort r s
  | .timeSessStatus r => Sys2Proof.Machine.execTimeSessStatus r s
  | .timeNpx r => Sys2Proof.Machine.execTimeNpx r s
  | .refStatus r => Sys2Proof.Machine.execRefStatus r s
  | .refSlotStatus r => Sys2Proof.Machine.execRefSlotStatus r s
  | .refSlotCfg r => Sys2Proof.Machine.execRefSlotCfg r s
  | .refDpllCfg r => Sys2Proof.Machine.execRefDpllCfg r s
  | .refPrio r => Sys2Proof.Machine.execRefPrio r s
  | .refGlobal r => Sys2Proof.Machine.execRefGlobal r s
  | .refOcxo r => Sys2Proof.Machine.execRefOcxo r s
  | .refForce r => Sys2Proof.Machine.execRefForce r s
  | .refSwLoop r => Sys2Proof.Machine.execRefSwLoop r s
  | .refSwRead r => Sys2Proof.Machine.execRefSwRead r s
  | .refSwWrite r => Sys2Proof.Machine.execRefSwWrite r s
  | .synStatus r => Sys2Proof.Machine.execSynStatus r s
  | .synApllCfg r => Sys2Proof.Machine.execSynApllCfg r s
  | .synOutCfg r => Sys2Proof.Machine.execSynOutCfg r s
  | .synCommit r => Sys2Proof.Machine.execSynCommit r s
  | .synPhase r => Sys2Proof.Machine.execSynPhase r s
  | .gnssStatus r => Sys2Proof.Machine.execGnssStatus r s
  | .gnssInputCfg r => Sys2Proof.Machine.execGnssInputCfg r s
  | .gnssTimingCfg r => Sys2Proof.Machine.execGnssTimingCfg r s
  | .gnssTrustCfg r => Sys2Proof.Machine.execGnssTrustCfg r s
  | .gnssRead r => Sys2Proof.Machine.execGnssRead r s
  | .gnssSleep r => Sys2Proof.Machine.execGnssSleep r s
  | .gnssFeSpi r => Sys2Proof.Machine.execGnssFeSpi r s
  | .evtStatus r => Sys2Proof.Machine.execEvtStatus r s
  | .evtCfg r => Sys2Proof.Machine.execEvtCfg r s
  | .evtInputCfg r => Sys2Proof.Machine.execEvtInputCfg r s
  | .evtRead r => Sys2Proof.Machine.execEvtRead r s
  | .laneStatus r => Sys2Proof.Machine.execLaneStatus r s
  | .laneCfg r => Sys2Proof.Machine.execLaneCfg r s
  | .laneRestart r => Sys2Proof.Machine.execLaneRestart r s
  | .laneSpare r => Sys2Proof.Machine.execLaneSpare r s
  | .laneTest r => Sys2Proof.Machine.execLaneTest r s
  | .laneInject r => Sys2Proof.Machine.execLaneInject r s
  | .laneGroveCfg r => Sys2Proof.Machine.execLaneGroveCfg r s
  | .portStatus r => Sys2Proof.Machine.execPortStatus r s
  | .portCfg r => Sys2Proof.Machine.execPortCfg r s
  | .portDownCfg r => Sys2Proof.Machine.execPortDownCfg r s
  | .portFc r => Sys2Proof.Machine.execPortFc r s
  | .portModule r => Sys2Proof.Machine.execPortModule r s
  | .portPolice r => Sys2Proof.Machine.execPortPolice r s
  | .fwdStatus r => Sys2Proof.Machine.execFwdStatus r s
  | .fwdWrite r => Sys2Proof.Machine.execFwdWrite r s
  | .fwdRead r => Sys2Proof.Machine.execFwdRead r s
  | .fwdCommit r => Sys2Proof.Machine.execFwdCommit r s
  | .fwdDiscard r => Sys2Proof.Machine.execFwdDiscard r s
  | .fwdBufCfg r => Sys2Proof.Machine.execFwdBufCfg r s
  | .fwdEpochCfg r => Sys2Proof.Machine.execFwdEpochCfg r s
  | .schedStatus r => Sys2Proof.Machine.execSchedStatus r s
  | .schedPortCfg r => Sys2Proof.Machine.execSchedPortCfg r s
  | .schedQueueCfg r => Sys2Proof.Machine.execSchedQueueCfg r s
  | .schedWrite r => Sys2Proof.Machine.execSchedWrite r s
  | .schedRead r => Sys2Proof.Machine.execSchedRead r s
  | .schedBankCfg r => Sys2Proof.Machine.execSchedBankCfg r s
  | .schedCommit r => Sys2Proof.Machine.execSchedCommit r s
  | .schedCopy r => Sys2Proof.Machine.execSchedCopy r s
  | .flowStatus r => Sys2Proof.Machine.execFlowStatus r s
  | .flowPortCfg r => Sys2Proof.Machine.execFlowPortCfg r s
  | .flowPlace r => Sys2Proof.Machine.execFlowPlace r s
  | .flowPin r => Sys2Proof.Machine.execFlowPin r s
  | .flowRemove r => Sys2Proof.Machine.execFlowRemove r s
  | .flowCommit r => Sys2Proof.Machine.execFlowCommit r s
  | .flowDiscard r => Sys2Proof.Machine.execFlowDiscard r s
  | .flowQuery r => Sys2Proof.Machine.execFlowQuery r s
  | .flowCfg r => Sys2Proof.Machine.execFlowCfg r s
  | .redStatus r => Sys2Proof.Machine.execRedStatus r s
  | .redCtxCfg r => Sys2Proof.Machine.execRedCtxCfg r s
  | .redCtxStatus r => Sys2Proof.Machine.execRedCtxStatus r s
  | .redCtxReset r => Sys2Proof.Machine.execRedCtxReset r s
  | .redPairCfg r => Sys2Proof.Machine.execRedPairCfg r s
  | .redRole r => Sys2Proof.Machine.execRedRole r s
  | .redHealth r => Sys2Proof.Machine.execRedHealth r s
  | .redLoopBreak r => Sys2Proof.Machine.execRedLoopBreak r s
  | .secStatus r => Sys2Proof.Machine.execSecStatus r s
  | .secBlockWorld r => Sys2Proof.Machine.execSecBlockWorld r s
  | .secRegionWorld r => Sys2Proof.Machine.execSecRegionWorld r s
  | .secPartWorld r => Sys2Proof.Machine.execSecPartWorld r s
  | .secLock r => Sys2Proof.Machine.execSecLock r s
  | .secCrcCommit r => Sys2Proof.Machine.execSecCrcCommit r s
  | .secViolRead r => Sys2Proof.Machine.execSecViolRead r s
  | .secWindow r => Sys2Proof.Machine.execSecWindow r s
  | .secDebugUnlock r => Sys2Proof.Machine.execSecDebugUnlock r s
  | .telStatus r => Sys2Proof.Machine.execTelStatus r s
  | .telCounterCfg r => Sys2Proof.Machine.execTelCounterCfg r s
  | .telRead r => Sys2Proof.Machine.execTelRead r s
  | .telWindowCfg r => Sys2Proof.Machine.execTelWindowCfg r s
  | .telTallyCfg r => Sys2Proof.Machine.execTelTallyCfg r s
  | .telTallyRead r => Sys2Proof.Machine.execTelTallyRead r s
  | .telEventCfg r => Sys2Proof.Machine.execTelEventCfg r s
  | .calStatus r => Sys2Proof.Machine.execCalStatus r s
  | .calRun r => Sys2Proof.Machine.execCalRun r s
  | .calResult r => Sys2Proof.Machine.execCalResult r s
  | .calRecordWrite r => Sys2Proof.Machine.execCalRecordWrite r s
  | .calRecordRead r => Sys2Proof.Machine.execCalRecordRead r s
  | .calLinkRecord r => Sys2Proof.Machine.execCalLinkRecord r s
  | .lockstepMismatch dt => Sys2Proof.Machine.execLockstepMismatch dt s
  | .csramDbe dt core region fetch => Sys2Proof.Machine.execCsramDbe dt core region fetch s
  | .watchdogExpiry dt core => Sys2Proof.Machine.execWatchdogExpiry dt core s
  | .wdtKick init core => Sys2Proof.Machine.execWdtKick init core s
  | .coreRestartEnd dt core => Sys2Proof.Machine.execCoreRestartEnd dt core s
  | .semAcquire init n lease => Sys2Proof.Machine.execSemAcquire init n lease s
  | .semRelease init n => Sys2Proof.Machine.execSemRelease init n s
  | .semLeaseExpiry dt n => Sys2Proof.Machine.execSemLeaseExpiry dt n s
  | .powerOn dt => Sys2Proof.Machine.execPowerOn dt s
  | .pinReset dt => Sys2Proof.Machine.execPinReset dt s
  | .deviceReset dt => Sys2Proof.Machine.execDeviceReset dt s
  | .dieReset dt => Sys2Proof.Machine.execDieReset dt s
  | .powerSequencing dt ok => Sys2Proof.Machine.execPowerSequencing dt ok s
  | .trimLoad dt ok => Sys2Proof.Machine.execTrimLoad dt ok s
  | .bist dt ok => Sys2Proof.Machine.execBist dt ok s
  | .firmware dt => Sys2Proof.Machine.execFirmware dt s
  | .apllBandSearch dt => Sys2Proof.Machine.execApllBandSearch dt s
  | .laneTraining dt => Sys2Proof.Machine.execLaneTraining dt s
  | .capabilityExchange dt => Sys2Proof.Machine.execCapabilityExchange dt s
  | .timebases dt => Sys2Proof.Machine.execTimebases dt s
  | .internalDelayCalibration dt ok vs => Sys2Proof.Machine.execInternalDelayCalibration dt ok vs s
  | .gnss dt => Sys2Proof.Machine.execGnss dt s
  | .flowPlacement dt => Sys2Proof.Machine.execFlowPlacement dt s
  | .configurationCrcCheck dt => Sys2Proof.Machine.execConfigurationCrcCheck dt s
  | .startStepTimeout dt => Sys2Proof.Machine.execStartStepTimeout dt s
  | .startRetryReset dt => Sys2Proof.Machine.execStartRetryReset dt s
  | .dormantEntry dt => Sys2Proof.Machine.execDormantEntry dt s
  | .wakePin dt => Sys2Proof.Machine.execWakePin dt s
  | .keeperAlarm dt => Sys2Proof.Machine.execKeeperAlarm dt s
  | .supplyWarn dt rail => Sys2Proof.Machine.execSupplyWarn dt rail s
  | .tempSample dt t a b => Sys2Proof.Machine.execTempSample dt t a b s
  | .tick dt ph => Sys2Proof.Machine.execTick dt ph s
  | .heartwoodPulse dt die tb err => Sys2Proof.Machine.execHeartwoodPulse dt die tb err s
  | .pairOffsetSample dt k => Sys2Proof.Machine.execPairOffsetSample dt k s
  | .domainSwitch dt k => Sys2Proof.Machine.execDomainSwitch dt k s
  | .pairSwitchWrite init k => Sys2Proof.Machine.execPairSwitchWrite init k s
  | .leapApplied dt tb => Sys2Proof.Machine.execLeapApplied dt tb s
  | .freqHiWrite init tb v => Sys2Proof.Machine.execFreqHiWrite init tb v s
  | .cmpArm init m w => Sys2Proof.Machine.execCmpArm init m w s
  | .cmpFire dt m => Sys2Proof.Machine.execCmpFire dt m s
  | .snapCapture init w => Sys2Proof.Machine.execSnapCapture init w s
  | .snapComplete dt => Sys2Proof.Machine.execSnapComplete dt s
  | .ppsPulse dt n => Sys2Proof.Machine.execPpsPulse dt n s
  | .ppsPulseEnd dt n => Sys2Proof.Machine.execPpsPulseEnd dt n s
  | .todFrame dt => Sys2Proof.Machine.execTodFrame dt s
  | .irigFrame dt => Sys2Proof.Machine.execIrigFrame dt s
  | .activityLoss dt slot => Sys2Proof.Machine.execActivityLoss dt slot s
  | .activityReturn dt slot theta => Sys2Proof.Machine.execActivityReturn dt slot theta s
  | .frequencyMonitorUpdate dt fofs ocxo => Sys2Proof.Machine.execFrequencyMonitorUpdate dt fofs ocxo s
  | .wtrExpiry dt slot => Sys2Proof.Machine.execWtrExpiry dt slot s
  | .disputeResolution dt n a b => Sys2Proof.Machine.execDisputeResolution dt n a b s
  | .disputeClear dt n a b => Sys2Proof.Machine.execDisputeClear dt n a b s
  | .switchTimeElapsed dt n => Sys2Proof.Machine.execSwitchTimeElapsed dt n s
  | .settleWindowEnd dt => Sys2Proof.Machine.execSettleWindowEnd dt s
  | .swloopTimeout dt n => Sys2Proof.Machine.execSwloopTimeout dt n s
  | .ocxoFail dt => Sys2Proof.Machine.execOcxoFail dt s
  | .ocxoWarm dt => Sys2Proof.Machine.execOcxoWarm dt s
  | .hoqChange dt n => Sys2Proof.Machine.execHoqChange dt n s
  | .modelValid dt n => Sys2Proof.Machine.execModelValid dt n s
  | .ocxoRecordWrite dt n ofs age coef => Sys2Proof.Machine.execOcxoRecordWrite dt n ofs age coef s
  | .feedEstimate init slot v => Sys2Proof.Machine.execFeedEstimate init slot v s
  | .swFreqWrite init n v => Sys2Proof.Machine.execSwFreqWrite init n v s
  | .xoLoss dt => Sys2Proof.Machine.execXoLoss dt s
  | .xoReturn dt => Sys2Proof.Machine.execXoReturn dt s
  | .bandSearchEnd dt a band => Sys2Proof.Machine.execBandSearchEnd dt a band s
  | .apllLock dt a => Sys2Proof.Machine.execApllLock dt a s
  | .apllLol dt a => Sys2Proof.Machine.execApllLol dt a s
  | .outputRestart dt a => Sys2Proof.Machine.execOutputRestart dt a s
  | .apllCommitNext init a => Sys2Proof.Machine.execApllCommitNext init a s
  | .apllCommitTarget init a => Sys2Proof.Machine.execApllCommitTarget init a s
  | .apllCommitCancel init a => Sys2Proof.Machine.execApllCommitCancel init a s
  | .apllCommitActivation dt a => Sys2Proof.Machine.execApllCommitActivation dt a s
  | .phofsMoveDone dt a => Sys2Proof.Machine.execPhofsMoveDone dt a s
  | .sampleClockLoss dt x => Sys2Proof.Machine.execSampleClockLoss dt x s
  | .clockPhaseMeasure dt x phase => Sys2Proof.Machine.execClockPhaseMeasure dt x phase s
  | .measurementEpoch dt ms => Sys2Proof.Machine.execMeasurementEpoch dt ms s
  | .navDataDecoded dt ch check nbits sec ns data v => Sys2Proof.Machine.execNavDataDecoded dt ch check nbits sec ns data v s
  | .gnssSolution dt ant v => Sys2Proof.Machine.execGnssSolution dt ant v s
  | .trustHoldExpiry dt ant => Sys2Proof.Machine.execTrustHoldExpiry dt ant s
  | .gnssSurvey dt ant px py pz => Sys2Proof.Machine.execGnssSurvey dt ant px py pz s
  | .spectrumMonitor dt x median agc peaks => Sys2Proof.Machine.execSpectrumMonitor dt x median agc peaks s
  | .notchRelease dt x k => Sys2Proof.Machine.execNotchRelease dt x k s
  | .keptDataRewrite dt => Sys2Proof.Machine.execKeptDataRewrite dt s
  | .gnssFifoPop init nav => Sys2Proof.Machine.execGnssFifoPop init nav s
  | .eventEdge dt inp falling err => Sys2Proof.Machine.execEventEdge dt inp falling err s
  | .etResultWrite dt => Sys2Proof.Machine.execEtResultWrite dt s
  | .intervalTimeout dt inp => Sys2Proof.Machine.execIntervalTimeout dt inp s
  | .pairWindowExpiry dt inp => Sys2Proof.Machine.execPairWindowExpiry dt inp s
  | .gateEnd dt inp => Sys2Proof.Machine.execGateEnd dt inp s
  | .etFifoPop init => Sys2Proof.Machine.execEtFifoPop init s
  | .trainingWaveOpen dt => Sys2Proof.Machine.execTrainingWaveOpen dt s
  | .partnerSignal dt l => Sys2Proof.Machine.execPartnerSignal dt l s
  | .trainingComplete dt l taps pre eq => Sys2Proof.Machine.execTrainingComplete dt l taps pre eq s
  | .cacheLockTimeout dt l => Sys2Proof.Machine.execCacheLockTimeout dt l s
  | .trainToExpiry dt l => Sys2Proof.Machine.execTrainToExpiry dt l s
  | .failIdleEnd dt l => Sys2Proof.Machine.execFailIdleEnd dt l s
  | .lockReached dt l => Sys2Proof.Machine.execLockReached dt l s
  | .lockTimeout dt l => Sys2Proof.Machine.execLockTimeout dt l s
  | .helloReceived dt l magic version flags node port => Sys2Proof.Machine.execHelloReceived dt l magic version flags node port s
  | .capexTimeout dt p => Sys2Proof.Machine.execCapexTimeout dt p s
  | .helloSend dt p => Sys2Proof.Machine.execHelloSend dt p s
  | .laneLoss dt l => Sys2Proof.Machine.execLaneLoss dt l s
  | .cacheHoldExpiry dt l => Sys2Proof.Machine.execCacheHoldExpiry dt l s
  | .idleEntry dt p => Sys2Proof.Machine.execIdleEntry dt p s
  | .phaseBeacon dt l => Sys2Proof.Machine.execPhaseBeacon dt l s
  | .idleExit dt p => Sys2Proof.Machine.execIdleExit dt p s
  | .rateMatchMeasure dt l ofs => Sys2Proof.Machine.execRateMatchMeasure dt l ofs s
  | .elasticOverflow dt l => Sys2Proof.Machine.execElasticOverflow dt l s
  | .subReq dt p pos => Sys2Proof.Machine.execSubReq dt p pos s
  | .subAck dt g => Sys2Proof.Machine.execSubAck dt g s
  | .subNak dt g => Sys2Proof.Machine.execSubNak dt g s
  | .subAckTimeout dt g => Sys2Proof.Machine.execSubAckTimeout dt g s
  | .spareSwitch dt g => Sys2Proof.Machine.execSpareSwitch dt g s
  | .subDone dt g => Sys2Proof.Machine.execSubDone dt g s
  | .subRel dt g => Sys2Proof.Machine.execSubRel dt g s
  | .substitutionTimeout dt g => Sys2Proof.Machine.execSubstitutionTimeout dt g s
  | .injectOne init l => Sys2Proof.Machine.execInjectOne init l s
  | .causeAppears dt p => Sys2Proof.Machine.execCauseAppears dt p s
  | .causeClears dt p => Sys2Proof.Machine.execCauseClears dt p s
  | .holdTimeExpiry dt p => Sys2Proof.Machine.execHoldTimeExpiry dt p s
  | .degradation dt p corr sym unc blk => Sys2Proof.Machine.execDegradation dt p corr sym unc blk s
  | .degradationWindowEnd dt => Sys2Proof.Machine.execDegradationWindowEnd dt s
  | .presenceChange dt g low => Sys2Proof.Machine.execPresenceChange dt g low s
  | .replaceDelayExpiry dt p => Sys2Proof.Machine.execReplaceDelayExpiry dt p s
  | .flowReplace dt => Sys2Proof.Machine.execFlowReplace dt s
  | .pauseFrame dt p pfc quanta => Sys2Proof.Machine.execPauseFrame dt p pfc quanta s
  | .pauseQuantaExpiry dt p => Sys2Proof.Machine.execPauseQuantaExpiry dt p s
  | .policerWindow dt => Sys2Proof.Machine.execPolicerWindow dt s
  | .headerReceived dt p ago rho bytes => Sys2Proof.Machine.execHeaderReceived dt p ago rho bytes s
  | .cellArrival dt p bytes => Sys2Proof.Machine.execCellArrival dt p bytes s
  | .frameEnd dt p bytes ctxEcc => Sys2Proof.Machine.execFrameEnd dt p bytes ctxEcc s
  | .trapDelivery dt die => Sys2Proof.Machine.execTrapDelivery dt die s
  | .bankAccess dt k reqs agent tally ecc p c => Sys2Proof.Machine.execBankAccess dt k reqs agent tally ecc p c s
  | .schedulerDecision dt p rho corrupt => Sys2Proof.Machine.execSchedulerDecision dt p rho corrupt s
  | .transmitEnd dt p => Sys2Proof.Machine.execTransmitEnd dt p s
  | .epochActivation dt => Sys2Proof.Machine.execEpochActivation dt s
  | .epochDrained dt => Sys2Proof.Machine.execEpochDrained dt s
  | .maxResExpiry dt => Sys2Proof.Machine.execMaxResExpiry dt s
  | .resyncEnd dt => Sys2Proof.Machine.execResyncEnd dt s
  | .tblRead init w => Sys2Proof.Machine.execTblRead init w s
  | .tblWrite init w => Sys2Proof.Machine.execTblWrite init w s
  | .tblDelete init w => Sys2Proof.Machine.execTblDelete init w s
  | .tblFind init w => Sys2Proof.Machine.execTblFind init w s
  | .slotEdge dt p => Sys2Proof.Machine.execSlotEdge dt p s
  | .wakeLead dt p => Sys2Proof.Machine.execWakeLead dt p s
  | .bankActivation dt p => Sys2Proof.Machine.execBankActivation dt p s
  | .slotEntryRead init w => Sys2Proof.Machine.execSlotEntryRead init w s
  | .slotEntryWrite init w => Sys2Proof.Machine.execSlotEntryWrite init w s
  | .scheduleStop init p w => Sys2Proof.Machine.execScheduleStop init p w s
  | .ctxRead init w => Sys2Proof.Machine.execCtxRead init w s
  | .ctxWrite init w => Sys2Proof.Machine.execCtxWrite init w s
  | .announce dt p dom peer cls acc var steps => Sys2Proof.Machine.execAnnounce dt p dom peer cls acc var steps s
  | .delayReq dt p dom peer seq pdelay ago rho port corr => Sys2Proof.Machine.execDelayReq dt p dom peer seq pdelay ago rho port corr s
  | .sessionHoldExpiry dt p dom => Sys2Proof.Machine.execSessionHoldExpiry dt p dom s
  | .twoWayExchange dt p dom t1 t2 t3 t4 sq2 sq3 fine2 fine4 => Sys2Proof.Machine.execTwoWayExchange dt p dom t1 t2 t3 t4 sq2 sq3 fine2 fine4 s
  | .ptpMessageSend dt p dom kind flags => Sys2Proof.Machine.execPtpMessageSend dt p dom kind flags s
  | .capTlv dt p dom org version flags node depth mode rate asymVer check => Sys2Proof.Machine.execCapTlv dt p dom org version flags node depth mode rate asymVer check s
  | .phaseTlv dt p dom org seq flags count last mean sec ns => Sys2Proof.Machine.execPhaseTlv dt p dom org seq flags count last mean sec ns s
  | .probeTimeout dt p dom => Sys2Proof.Machine.execProbeTimeout dt p dom s
  | .phaseTimeout dt p dom => Sys2Proof.Machine.execPhaseTimeout dt p dom s
  | .capSend dt p dom => Sys2Proof.Machine.execCapSend dt p dom s
  | .phaseSend dt p dom => Sys2Proof.Machine.execPhaseSend dt p dom s
  | .fpmReading dt l code => Sys2Proof.Machine.execFpmReading dt l code s
  | .fpmValid dt l => Sys2Proof.Machine.execFpmValid dt l s
  | .resetTimeout dt n => Sys2Proof.Machine.execResetTimeout dt n s
  | .latentTest dt n => Sys2Proof.Machine.execLatentTest dt n s
  | .latReset dt n => Sys2Proof.Machine.execLatReset dt n s
  | .compareSend dt => Sys2Proof.Machine.execCompareSend dt s
  | .compareReceived dt ms items sec utc leap flags dly digest => Sys2Proof.Machine.execCompareReceived dt ms items sec utc leap flags dly digest s
  | .itemExpiry dt => Sys2Proof.Machine.execItemExpiry dt s
  | .timeCompare dt => Sys2Proof.Machine.execTimeCompare dt s
  | .judgeReceived dt cause qualified ew onset => Sys2Proof.Machine.execJudgeReceived dt cause qualified ew onset s
  | .judgeTimeout dt => Sys2Proof.Machine.execJudgeTimeout dt s
  | .roleSend dt => Sys2Proof.Machine.execRoleSend dt s
  | .roleReceived dt state request instant health alignErr node => Sys2Proof.Machine.execRoleReceived dt state request instant health alignErr node s
  | .roleInFall dt => Sys2Proof.Machine.execRoleInFall dt s
  | .roleInLowTimeout dt => Sys2Proof.Machine.execRoleInLowTimeout dt s
  | .roleContention dt node => Sys2Proof.Machine.execRoleContention dt node s
  | .plannedHandover dt => Sys2Proof.Machine.execPlannedHandover dt s
  | .handoverAnswerTimeout dt => Sys2Proof.Machine.execHandoverAnswerTimeout dt s
  | .alignOk dt => Sys2Proof.Machine.execAlignOk dt s
  | .recoveryEnd dt => Sys2Proof.Machine.execRecoveryEnd dt s
  | .selfTest dt band clkout pps serial compare => Sys2Proof.Machine.execSelfTest dt band clkout pps serial compare s
  | .sweepPassEnd dt => Sys2Proof.Machine.execSweepPassEnd dt s
  | .cfgLockWrite init which => Sys2Proof.Machine.execCfgLockWrite init which s
  | .violLogClear init => Sys2Proof.Machine.execViolLogClear init s
  | .counterLoRead init off => Sys2Proof.Machine.execCounterLoRead init off s
  | .latchedLoRead init addr => Sys2Proof.Machine.execLatchedLoRead init addr s
  | .counterCfgWrite init addr v => Sys2Proof.Machine.execCounterCfgWrite init addr v s
  | .bwCfgWrite init addr v => Sys2Proof.Machine.execBwCfgWrite init addr v s
  | .cntThresh dt => Sys2Proof.Machine.execCntThresh dt s
  | .bwWindowEnd dt p => Sys2Proof.Machine.execBwWindowEnd dt p s
  | .bwPeriodEnd dt p => Sys2Proof.Machine.execBwPeriodEnd dt p s
  | .tallyDma dt => Sys2Proof.Machine.execTallyDma dt s
  | .evStatusClear init k v => Sys2Proof.Machine.execEvStatusClear init k v s
  | .swevt init v => Sys2Proof.Machine.execSwevt init v s
  | .evrecPop init nonSecure => Sys2Proof.Machine.execEvrecPop init nonSecure s
  | .calTargetDone dt vs q => Sys2Proof.Machine.execCalTargetDone dt vs q s
  | .calRunEnd dt => Sys2Proof.Machine.execCalRunEnd dt s
  | .calApply dt => Sys2Proof.Machine.execCalApply dt s
  | .calRefLoss dt pps ten => Sys2Proof.Machine.execCalRefLoss dt pps ten s
  | .nvSlotRead init slot => Sys2Proof.Machine.execNvSlotRead init slot s
  | .nvSlotWrite init slot => Sys2Proof.Machine.execNvSlotWrite init slot s
  | .nvSlotErase init slot => Sys2Proof.Machine.execNvSlotErase init slot s
  | .pcieLink dt gen width hot => Sys2Proof.Machine.execPcieLink dt gen width hot s
  | .pcieFlr dt f => Sys2Proof.Machine.execPcieFlr dt f s
  | .m0Link dt speed up => Sys2Proof.Machine.execM0Link dt speed up s
  | .m0FrameArrival dt bytes => Sys2Proof.Machine.execM0FrameArrival dt bytes s
  | .m0Read dt => Sys2Proof.Machine.execM0Read dt s
  | .m0Write dt => Sys2Proof.Machine.execM0Write dt s
  | .i2cStatus => Sys2Proof.Machine.execI2cStatus s
  | .i2cDevId => Sys2Proof.Machine.execI2cDevId s
  | .i2cNodeId => Sys2Proof.Machine.execI2cNodeId s
  | .i2cModeState => Sys2Proof.Machine.execI2cModeState s
  | .i2cPwrState => Sys2Proof.Machine.execI2cPwrState s
  | .i2cTemp => Sys2Proof.Machine.execI2cTemp s
  | .i2cTime => Sys2Proof.Machine.execI2cTime s
  | .i2cEvents => Sys2Proof.Machine.execI2cEvents s
  | .i2cMbWrite off words pec => Sys2Proof.Machine.execI2cMbWrite off words pec s
  | .i2cMbRead off n => Sys2Proof.Machine.execI2cMbRead off n s
  | .i2cSemWrite n cmd lease pec => Sys2Proof.Machine.execI2cSemWrite n cmd lease pec s
  | .i2cSemRead n => Sys2Proof.Machine.execI2cSemRead n s
  | .i2cUnknownCommand c => Sys2Proof.Machine.execI2cUnknownCommand c s
  | .i2cReset dt => Sys2Proof.Machine.execI2cReset dt s
  | .uartByte dt b => Sys2Proof.Machine.execUartByte dt b s
  | .uartStatus dt => Sys2Proof.Machine.execUartStatus dt s
  | .uartTemp dt => Sys2Proof.Machine.execUartTemp dt s
  | .uartVer dt => Sys2Proof.Machine.execUartVer dt s
  | .uartHelp dt => Sys2Proof.Machine.execUartHelp dt s
  | .uartUnknownLine dt => Sys2Proof.Machine.execUartUnknownLine dt s
  | .tapReset => Sys2Proof.Machine.execTapReset s
  | .jtagBypass code bit => Sys2Proof.Machine.execJtagBypass code bit s
  | .jtagIdcode => Sys2Proof.Machine.execJtagIdcode s
  | .jtagSamplePreload v => Sys2Proof.Machine.execJtagSamplePreload v s
  | .jtagExtest v => Sys2Proof.Machine.execJtagExtest v s
  | .jtagClamp v => Sys2Proof.Machine.execJtagClamp v s
  | .jtagHighz v => Sys2Proof.Machine.execJtagHighz v s
  | .dbgRead addr => Sys2Proof.Machine.execDbgRead addr s
  | .dbgWrite addr v => Sys2Proof.Machine.execDbgWrite addr v s
  | .dbgUnlock key sr ss => Sys2Proof.Machine.execDbgUnlock key sr ss s
  | .ocxoActivityReturn dt pin => Sys2Proof.Machine.execOcxoActivityReturn dt pin s
  | .ocxoWarmPinFall dt => Sys2Proof.Machine.execOcxoWarmPinFall dt s
  | .sampleClockReturn dt x => Sys2Proof.Machine.execSampleClockReturn dt x s
  | .signalAcquisition dt x sig svid elev v => Sys2Proof.Machine.execSignalAcquisition dt x sig svid elev v s
  | .lossOfTracking dt x sig v => Sys2Proof.Machine.execLossOfTracking dt x sig v s
  | .supplyReturn dt rail => Sys2Proof.Machine.execSupplyReturn dt rail s
  | .vddUsLoss dt => Sys2Proof.Machine.execVddUsLoss dt s
  | .timeRecordSave dt => Sys2Proof.Machine.execTimeRecordSave dt s
  | .partnerIdleChange dt l idle => Sys2Proof.Machine.execPartnerIdleChange dt l idle s
  | .nvOperationEnd dt ok => Sys2Proof.Machine.execNvOperationEnd dt ok s
  | .pcieConfigWrite f vmask bme msixEn fmask => Sys2Proof.Machine.execPcieConfigWrite f vmask bme msixEn fmask s

end Sys2Proof.Machine
end

