-- ==== Sys2Proof/Safety.lean ====
section
/-! DEFINITION. The terms in which statements about the block are made: the canonical form of its memories, what one state
keeps of another, the conditions under which a mailbox request is carried out at once, and what its answer looks like. -/

namespace Sys2Proof.Machine

/-- The byte memories are in their canonical form. -/
def State.memOk (s : State) : Bool := Memory.wf flashBlank s.flash && Memory.wf csramBlank s.csram

/-- Every register field outside some keys reads as before. -/
def State.RegsKept (s t : State) (changed : Nat → Prop) : Prop :=
  ∀ (f : Fld) (i j : Nat), ¬ changed (f.key i j) → t.get f i j = s.get f i j

/-- The keys of the fields of a range of registers: from byte address `a` on, `n` bytes. -/
def inRegs (a n k : Nat) : Prop := 32 * a ≤ k ∧ k < 32 * (a + n)

/-- The key of a field that raising an event may change: EV_STATUS and EV_REC_STAT (R542, R547). -/
def eventReg (k : Nat) : Prop := inRegs 0x100000 0x10 k ∨ inRegs 0x100034 4 k

/-- The key of a register of a mailbox page (R465). -/
def mailboxReg (k : Nat) : Prop := inRegs 0 0x10000 k

/-- The key of a field of the violation log: FB_VIOL_STAT and the entries (R518, R519). -/
def violReg (k : Nat) : Prop := inRegs 0x400000 4 k ∨ inRegs 0x480100 0x200 k

/-- The rows that may store to the flash or the control SRAM: NVM.ERASE and NVM.WRITE, whatever runs a request of a mailbox
or of a configuration image later, the Tally's ring in the control SRAM, and power coming, going or a reset of die T. -/
def mayStore (c : Instr) : Bool :=
  match c with
  | .nvmErase _ | .nvmWrite _ | .sysCfgLoad _ | .badOpcode .. | .requestTake .. | .secureQueuePass _ | .firmware _
  | .coreRestartEnd .. | .tallyDma _ => true
  | .powerSequencing .. | .trimLoad .. | .bist .. | .timebases _ | .apllBandSearch _ | .internalDelayCalibration ..
  | .laneTraining _ | .capabilityExchange _ | .gnss _ | .flowPlacement _ | .configurationCrcCheck _ => true
  | .powerOn _ | .vddUsLoss _ | .dormantEntry _ | .deviceReset _ | .wakePin _ | .pinReset _ | .keeperAlarm _
  | .startRetryReset _ => true
  | _ => false

/-- The flash and the control SRAM read as before, byte for byte. -/
def State.MemKept (s t : State) : Prop :=
  (∀ a, Memory.read flashBlank t.flash a = Memory.read flashBlank s.flash a)
  ∧ ∀ a, Memory.read csramBlank t.csram a = Memory.read csramBlank s.csram a

/-- The state in which a core carries out a request that it can serve at once (R458, R468, R471): the request is written, its
doorbell rung, the core has taken it, and C0 has taken it where a request of MB08 to MB15 needs a secure block. -/
def State.asked (s : State) (cmd : Cmd) (r : Req) : State :=
  let t := (s.rung cmd.op r).holdMb r.mb
  if t.needsPair r.mb (some cmd) then t.setTaken 0 (some { mb := r.mb }) else t

/-- What the body of a mailbox request is given. -/
def ctxOf (r : Req) : Ctx := { mb := some r.mb, init := r.init, secure := decide (r.mb < 8), args := r.args }

/-- A request is served and passes the checks that every command shares (R458, R469, R471, R474): its initiator may use the
mailbox, which is not BUSY and has no other request before it; the core that carries it out is ready and free; the argument
words are there and each fits its word; the world, the mode and the power state of the block allow the command. -/
structure Served (s : State) (cmd : Cmd) (r : Req) : Prop where
  mailbox : r.mb < 16
  world : r.mb < 8 → s.initSecure r.init = true
  free : s.mbBusy r.mb = false
  core : (s.rung cmd.op r).servesNow r.mb = true
  pair : ((s.rung cmd.op r).holdMb r.mb).needsPair r.mb (some cmd) = true → ((s.rung cmd.op r).holdMb r.mb).pairFree = true
  words : ∀ w ∈ r.args, w < 2 ^ 32
  len : r.args.length ≤ 63
  needs : cmd.need ≤ r.args.length
  any : cmd.any = true ∨ r.mb < 8
  rom : (s.asked cmd r).on R.MODE_STATE_ROM_ONLY = false ∨ romOps.contains cmd.op = true
  mode : cmd.mode (s.asked cmd r) = true
  awake : cmd.acts = true → (s.asked cmd r).asleep (cmd.entry r.args) = false

/-- The answer to a request stands in a mailbox (R468, R469): STATE is READY, RSP_SEQ equals REQ_SEQ, LEN counts the words
after the header, the header repeats the request's OPCODE and TAG beside the status, and the words follow. -/
structure Answered (t : State) (mb : Nat) (st : Status) (words : List Nat) : Prop where
  state : t.get R.MB_n_STATE_STATE mb = 2
  seq : t.get R.MB_n_SEQ_RSP_SEQ mb = t.get R.MB_n_SEQ_REQ_SEQ mb % 2 ^ 16
  len : t.get R.MB_n_STATE_LEN mb = words.length
  header : t.get R.MB_n_RSP_W mb 0
    = bits (t.reqHeader mb) 15 0 + st.code * 2 ^ 16 + bits (t.reqHeader mb) 31 24 * 2 ^ 24
  words : ∀ k, k < words.length → t.get R.MB_n_RSP_W mb (k + 1) = words.getD k 0 % 2 ^ 32

/-- A command completes: `exec` answers a next state, of which something holds. -/
def Runs (i : Instr) (s : State) (holds : State → Prop) : Prop := ∃ t, exec i s = .next t ∧ holds t

/-- A mailbox command completes: `exec` answers a next state, the answer OK with some words stands in the mailbox, and what the
command brings about holds. -/
def Completes (i : Instr) (s : State) (mb : Nat) (words : List Nat) (holds : State → Prop) : Prop :=
  ∃ t, exec i s = .next t ∧ Answered t mb .ok words ∧ holds t

/-- The state that a mailbox command leaves: its body's state with the automatic commit of R512, answered OK. -/
def State.answeredOk (s : State) (r : Req) (words : List Nat) : State := s.settleCfg.respond r.mb .ok words

/-- Field writes of a command that no lock refuses (R473, R513). -/
abbrev State.unlocked (s : State) (ws : List FieldWrite) : Prop := ∀ w ∈ ws, s.cmdLocked w = false

/-- Field writes of a direct access that no lock refuses (R6, R513). -/
abbrev State.writable (s : State) (ws : List FieldWrite) : Prop := ∀ w ∈ ws, s.writeLocked w = false

/-- What a mailbox command does wherever it is served and its own conditions hold: `exec` answers a next state in which
the answer OK with some words stands in the mailbox, and that state is what the conditions' state becomes by the command
itself, by the automatic commit of R512 and by the answer. The conditions, the words and the command's own effect are
given of the request's context and of the state in which the core carries it out. -/
def Fulfils (mk : Req → Instr) (cmd : Cmd) (pre : Ctx → State → Prop) (words : Ctx → State → List Nat)
    (effect : Ctx → State → State) : Prop :=
  ∀ (s : State) (r : Req), Served s cmd r → pre (ctxOf r) (s.asked cmd r) →
    Completes (mk r) s r.mb (words (ctxOf r) (s.asked cmd r)) fun t =>
      t = (effect (ctxOf r) (s.asked cmd r)).answeredOk r (words (ctxOf r) (s.asked cmd r))

/-- What a mailbox command that answers at a later event does wherever it is served and its own conditions hold: `exec`
answers a next state, that of its own effect with the automatic commit of R512; the mailbox is not answered by it. -/
def Awaits (mk : Req → Instr) (cmd : Cmd) (pre : Ctx → State → Prop) (effect : Ctx → State → State) : Prop :=
  ∀ (s : State) (r : Req), Served s cmd r → pre (ctxOf r) (s.asked cmd r) →
    exec (mk r) s = .next (effect (ctxOf r) (s.asked cmd r)).settleCfg

/-- What a mailbox command does wherever it is served and some conditions refuse it: `exec` answers a next state in which the
answer with a status and no words stands in the mailbox, and nothing else is done. -/
def Refuses (mk : Req → Instr) (cmd : Cmd) (st : Status) (pre : Ctx → State → Prop) : Prop :=
  ∀ (s : State) (r : Req), Served s cmd r → pre (ctxOf r) (s.asked cmd r) →
    ∃ t, exec (mk r) s = .next t ∧ Answered t r.mb st [] ∧ t = (s.asked cmd r).respond r.mb st []

/-- The checks of R404 that FLOW.PLACE and FLOW.PIN make before they place a flow find nothing. -/
abbrev State.mayPlace (s : State) (f : Flow) (period : Bool) : Prop :=
  s.portChecks f period = none ∧ (period = true → f.red = 2 → s.on R.RD_PAIR_STAT_LINK_UP = true) ∧ s.duplicate f = none

/-- A flow as it is placed and booked against the work in hand, with the state its entry and reservation give. -/
def State.placed (s : State) (f : Flow) : Option (Flow × State) :=
  (s.placeFlow s.fo.work f).toOption.bind fun g => (s.book s.fo.work g).toOption

/-- The state in which a step of the start does its own work for the first time. -/
abbrev State.beganStep (s : State) : State := { s with pw := { s.pw with begun := true } }

/-- An access of an initiator is allowed (R503, R507). -/
def Allowed (s : State) (init addr : Nat) (wr : Bool) : Prop := s.checkAccess init addr wr = none

/-- A direct write takes effect by `k`; it calls for no automatic commit (R512). -/
def State.direct (s : State) (k : State → State) : State := { k s with ci := { (k s).ci with dirty := s.ci.dirty } }

/-- An event's status bit is set. -/
def State.eventSet (s : State) (e : Nat) : Prop := bitOf (s.get R.EV_STATUSi_STATUS (e / 32)) (e % 32) = true

end Sys2Proof.Machine
end

