-- ==== Sys2Proof/Certificates/Slice0/Obligations.lean ====
section
/-! DEFINITION. The statements about the block, for the provers. -/

open Sys2Proof Sys2Proof.Machine

/-- Tier 1. For every state whose queue of waiting commands is not empty, a step is the front command's exec on the state with
the queue's rest. -/
def Obligations.StepRunsFrontCommand : Prop :=
  ∀ (s : State) (c : Instr) (rest : List Instr), s.pending = c :: rest → step s = exec c { s with pending := rest }

/-- Tier 1. For every state whose queue is empty a step leaves the state as it is. This is the model's choice and no rule of the
spec (assumption 3). -/
def Obligations.StepIdlesOnEmptyQueue : Prop :=
  ∀ s : State, s.pending = [] → step s = .next s

/-- Tier 2. For every command and every state exec answers a next state, so that nothing stops the block, and that state's queue
of waiting commands is the one before. -/
def Obligations.EveryCommandAnswersAndKeepsQueue : Prop :=
  ∀ (c : Instr) (s : State), Runs c s fun t => t.pending = s.pending

/-- Tier 3. From every state whose flash and control SRAM are in their canonical form (strictly rising addresses, no byte equal
to what an unlisted address reads as), every step leads to a state whose memories are in that form. -/
def Obligations.StepKeepsMemoriesCanonical : Prop :=
  ∀ s t : State, s.memOk = true → step s = .next t → t.memOk = true

/-- Tier 3. Every command that is not NVM.ERASE, NVM.WRITE, one that carries out requests later (SYS.CFG_LOAD, an unnamed
opcode's row, the taking of a request or of the secure queue, firmware coming up, a core's restart, a step of the start with
its image entries), the Tally's transfer, or power coming, going or a reset of die T leaves the flash and the control SRAM
as they are. -/
def Obligations.OnlyTheseCommandsChangeMemory : Prop :=
  ∀ (c : Instr) (s t : State), mayStore c = false → exec c s = .next t →
    t.flash = s.flash ∧ t.csram = s.csram

/-- Tier 1. After reset the device is in BRINGUP with its start running (R567, R583); firmware is not ready, every mailbox is
EMPTY (R469, R496), no semaphore is held (R487), no event is pending (R549), every register field of the map reads the reset
value of its table, the queue of commands is empty, and the memories are in canonical form with no byte listed (what such a
byte reads as is the model's choice, assumptions 8 to 12). -/
def Obligations.ResetState : Prop :=
  State.reset.mode = 1 ∧ State.reset.on R.MODE_STATE_START_RUN = true ∧ State.reset.on R.MB_STATUS_FW_READY = false
  ∧ (∀ mb, State.reset.get R.MB_n_STATE_STATE mb = 0) ∧ (∀ n, (State.reset.semOf n).held = false)
  ∧ (∀ i, State.reset.get R.EV_STATUSi_STATUS i = 0) ∧ State.reset.pending = []
  ∧ (∀ r ∈ regTable, ∀ f ∈ r.fields, ∀ i j, State.reset.get f i j = f.reset i j)
  ∧ State.reset.memOk = true ∧ (∀ a, Memory.read flashBlank State.reset.flash a = flashBlank)
  ∧ ∀ a, Memory.read csramBlank State.reset.csram a = csramBlank

/-- Tier 2. In a memory of canonical form a byte reads as it was written and every other byte as before; the result is in
canonical form again, and so it is after the erasure of a range, inside which every byte reads as an unlisted one and
outside which each reads as before. -/
def Obligations.MemoryReadsWhatWasWritten : Prop :=
  ∀ (d : Byte) (m : Memory) (a n : Nat) (v : Byte), Memory.wf d m = true →
    Memory.read d (Memory.write d m a v) a = v
    ∧ (∀ b, b ≠ a → Memory.read d (Memory.write d m a v) b = Memory.read d m b)
    ∧ Memory.wf d (Memory.write d m a v) = true
    ∧ (∀ b, Memory.read d (Memory.erase m a n) b = if a ≤ b ∧ b < a + n then d else Memory.read d m b)
    ∧ Memory.wf d (Memory.erase m a n) = true

/-- Tier 2. NVM.ERASE and NVM.WRITE change no byte of the flash outside the range that the request's address and length give,
and none of the control SRAM, whatever they answer (R478). Where they are served and their conditions hold, every byte of
the erased block reads as an erased byte, and every byte of the written range reads as the request's data, low byte of each
word first. -/
def Obligations.FlashWritesAndErasesStoreTheirRange : Prop :=
  (∀ (s t : State) (r : Req) (b : Nat), r.args.length ≤ 63 → (∀ w ∈ r.args, w < 2 ^ 32) →
      exec (.nvmErase r) s = .next t →
      (b < (ctxOf r).arg 1 ∨ (ctxOf r).arg 1 + (if (ctxOf r).bit 2 0 then 65536 else 4096) ≤ b) →
      Memory.read flashBlank t.flash b = Memory.read flashBlank s.flash b ∧ t.csram = s.csram)
  ∧ (∀ (s t : State) (r : Req) (b : Nat), r.args.length ≤ 63 → (∀ w ∈ r.args, w < 2 ^ 32) →
      exec (.nvmWrite r) s = .next t → (b < (ctxOf r).arg 1 ∨ (ctxOf r).arg 1 + (ctxOf r).bits 2 7 0 ≤ b) →
      Memory.read flashBlank t.flash b = Memory.read flashBlank s.flash b ∧ t.csram = s.csram)
  ∧ (∀ (s : State) (r : Req), Served s cmdNvmErase r →
      (ctxOf r).arg 1 % (if (ctxOf r).bit 2 0 then 65536 else 4096) = 0 →
      inFlash ((ctxOf r).arg 1) (if (ctxOf r).bit 2 0 then 65536 else 4096) = true →
      (s.asked cmdNvmErase r).nvmProtected ((ctxOf r).arg 1) (if (ctxOf r).bit 2 0 then 65536 else 4096) = false →
      Completes (.nvmErase r) s r.mb [] fun t => ∀ k, k < (if (ctxOf r).bit 2 0 then 65536 else 4096) →
        Memory.read flashBlank t.flash ((ctxOf r).arg 1 + k) = flashBlank)
  ∧ ∀ (s : State) (r : Req), Served s cmdNvmWrite r → s.memOk = true →
      1 ≤ (ctxOf r).bits 2 7 0 → (ctxOf r).bits 2 7 0 ≤ 240 → (ctxOf r).arg 1 % 256 + (ctxOf r).bits 2 7 0 ≤ 256 →
      inFlash ((ctxOf r).arg 1) ((ctxOf r).bits 2 7 0) = true → 2 + ((ctxOf r).bits 2 7 0 + 3) / 4 ≤ r.args.length →
      (s.asked cmdNvmWrite r).nvmProtected ((ctxOf r).arg 1) ((ctxOf r).bits 2 7 0) = false →
      (∀ k, k < (ctxOf r).bits 2 7 0 → Memory.read flashBlank s.flash ((ctxOf r).arg 1 + k) = flashBlank) →
      Completes (.nvmWrite r) s r.mb [] fun t => ∀ k, k < (ctxOf r).bits 2 7 0 →
        (Memory.read flashBlank t.flash ((ctxOf r).arg 1 + k)).toNat = r.args.getD (2 + k / 4) 0 / 256 ^ (k % 4) % 256

/-- Tier 2. Writing a register field makes it read the written value, cut to the field's width, and leaves every field of
another place in the map and everything beside the register table as it was. -/
def Obligations.FieldWriteFrame : Prop :=
  ∀ (s : State) (f : Fld) (v i j : Nat),
    (s.set f v i j).get f i j = v % 2 ^ f.width
    ∧ s.RegsKept (s.set f v i j) (fun k => k = f.key i j)
    ∧ s.set f v i j = { s with regs := (s.set f v i j).regs }

/-- Tier 2. Raising an event sets its EV_STATUS bit (R542) and changes no other register field than those of EV_STATUS and
EV_REC_STAT, and nothing beyond the event FIFOs, the programmable counters, the pending MSI-X bits and what is sent outward. -/
def Obligations.RaiseSetsStatusAndKeepsTheRest : Prop :=
  ∀ (s : State) (e d : Nat), e < 128 →
    (s.raise e d).eventSet e
    ∧ s.RegsKept (s.raise e d) eventReg
    ∧ s.raise e d = { s with regs := (s.raise e d).regs, ev := (s.raise e d).ev, progCnt := (s.raise e d).progCnt
                             pf := (s.raise e d).pf, out := (s.raise e d).out }

/-- Tier 2. A response makes its mailbox READY with RSP_SEQ, LEN, header and words together (R468), raises MB_RSP of the
mailbox, and leaves every register field outside the mailbox pages and the event registers, and both memories, as they were. -/
def Obligations.ResponseStandsInMailbox : Prop :=
  ∀ (s : State) (mb : Nat) (st : Status) (words : List Nat), mb < 16 → words.length ≤ 63 →
    Answered (s.respond mb st words) mb st words
    ∧ (s.respond mb st words).eventSet (16 + mb)
    ∧ s.RegsKept (s.respond mb st words) (fun k => mailboxReg k ∨ eventReg k)
    ∧ s.MemKept (s.respond mb st words)

/-- Tier 1. The mailbox protocol of R469 at its registers. A doorbell on a mailbox that is not BUSY makes it BUSY, counts
REQ_SEQ and shows in PEND_NR whether its core is not ready (R472); one on a BUSY mailbox sets DOOR_LOST. A request word is
stored, or ignored with REQ_WR_LOST while the mailbox is BUSY. A response word reads 0 while the mailbox is EMPTY, and the
read of word LEN of a READY response makes it CONSUMED. No other register field changes. -/
def Obligations.MailboxProtocol : Prop :=
  (∀ (s : State) (init mb : Nat), mb < 16 → Allowed s init (0x1000 * mb + 0x200) true → s.mbBusy mb = false →
    Runs (.doorbellRing init mb) s fun t =>
      t.get R.MB_n_STATE_STATE mb = 1 ∧ t.get R.MB_n_SEQ_REQ_SEQ mb = (s.get R.MB_n_SEQ_REQ_SEQ mb + 1) % 2 ^ 16
      ∧ t.on R.MB_n_STATE_PEND_NR mb = !s.coreReady (coreOf mb)
      ∧ s.RegsKept t (fun k => k = R.MB_n_STATE_STATE.key mb 0 ∨ k = R.MB_n_SEQ_REQ_SEQ.key mb 0
          ∨ k = R.MB_n_STATE_PEND_NR.key mb 0))
  ∧ (∀ (s : State) (init mb : Nat), mb < 16 → Allowed s init (0x1000 * mb + 0x200) true → s.mbBusy mb = true →
    Runs (.doorbellRing init mb) s fun t =>
      t.get R.MB_n_STATE_DOOR_LOST mb = 1 ∧ s.RegsKept t (fun k => k = R.MB_n_STATE_DOOR_LOST.key mb 0))
  ∧ (∀ (s : State) (init mb k v : Nat), mb < 16 → k < 64 → Allowed s init (0x1000 * mb + 4 * k) true → s.mbBusy mb = false →
    Runs (.requestWrite init mb k v) s fun t =>
      t.get R.MB_n_REQ_W mb k = v % 2 ^ 32 ∧ s.RegsKept t (fun x => x = R.MB_n_REQ_W.key mb k))
  ∧ (∀ (s : State) (init mb k v : Nat), mb < 16 → k < 64 → Allowed s init (0x1000 * mb + 4 * k) true → s.mbBusy mb = true →
    Runs (.requestWrite init mb k v) s fun t =>
      t.get R.MB_n_STATE_REQ_WR_LOST mb = 1 ∧ s.RegsKept t (fun x => x = R.MB_n_STATE_REQ_WR_LOST.key mb 0))
  ∧ (∀ (s : State) (init mb k : Nat), mb < 16 → k < 64 → Allowed s init (0x1000 * mb + 0x100 + 4 * k) false →
    Runs (.responseRead init mb k) s fun t =>
      t.out = [.readData init [if s.get R.MB_n_STATE_STATE mb = 0 then 0 else s.get R.MB_n_RSP_W mb k]]
      ∧ t.get R.MB_n_STATE_STATE mb = (if s.get R.MB_n_STATE_STATE mb = 2 ∧ s.get R.MB_n_STATE_LEN mb = k then 3
          else s.get R.MB_n_STATE_STATE mb)
      ∧ s.RegsKept t (fun x => x = R.MB_n_STATE_STATE.key mb 0))

/-- Tier 1. REGISTER_WRITE and LATCHED_LO_READ over the whole map. A write that an initiator may make and no lock refuses gives
the fields of a plain register their values, each within its range, and clears the bits written 1 to clear (R6); at a
register with a rule of its own it does what that rule says; a write that a lock refuses is a LOCKED violation (R513), and
one that the initiator may not make is the violation that says why. A read of the LO half of a pair answers its word and
latches the HI half, and a read of the HI half then answers the latched word (R78); a read that the initiator may not make
is a violation. -/
def Obligations.DirectAccessesComplete : Prop :=
  (∀ (s q : State) (init addr v : Nat) (g : Reg) (i j : Nat), q = s.quiet → v < 2 ^ 32 → Allowed q init addr true →
      findReg addr = some (g, i, j) → handlers.find? (fun (h : Nat × Handler) => h.1 == g.addr) = none → q.writable
          (q.lockable g v i j) →
      exec (.registerWrite init addr v) s = .next (q.direct fun q => (q.writes (q.saneWrites g v i j)).clearOnes g v i j))
  ∧ (∀ (s q : State) (init addr v : Nat) (g : Reg) (i j : Nat), q = s.quiet → v < 2 ^ 32 → Allowed q init addr true →
      findReg addr = some (g, i, j) → q.writable (q.lockable g v i j) →
      ∀ h : Nat × Handler, handlers.find? (fun (h : Nat × Handler) => h.1 == g.addr) = some h → exec (.registerWrite init addr
          v) s = .next (q.direct fun q =>
        h.2 { init := init, addr := addr, i := i, j := j, w := q.saneWord g v i j, v := v, ws := q.saneWrites g v i j } q))
  ∧ (∀ (s q : State) (init addr v : Nat) (g : Reg) (i j : Nat), q = s.quiet → v < 2 ^ 32 → Allowed q init addr true →
      findReg addr = some (g, i, j) → ¬ q.writable (q.lockable g v i j) →
      exec (.registerWrite init addr v) s = .next (q.refuseAccess 1 (if blockEntry (canonAddr addr) = 63 then .bar else
          .internal)
        (blockEntry (canonAddr addr)) init (q.entryNonSecure (blockEntry (canonAddr addr))) 1 addr))
  ∧ (∀ (s q : State) (init addr v : Nat) (x : Viol), q = s.quiet → q.checkAccess init addr true = some x →
      exec (.registerWrite init addr v) s = .next (q.violate x init addr 1))
  ∧ (∀ (s q : State) (init addr : Nat) (x : Viol), q = s.quiet → q.checkAccess init addr false = some x →
      exec (.latchedLoRead init addr) s = .next ((q.violate x init addr 0).emit (.readData init [0])))
  ∧ (∀ (s q t : State) (init addr i j : Nat) (p : Reg × Reg), q = s.quiet → Allowed q init addr false → canonAddr addr = addr
      →
      q.specialRead init addr = none → findReg addr = some (p.1, i, j) →
      latchPairs.find? (fun (x : Reg × Reg) => x.1.addr == p.1.addr) = some p → inCounterWindow addr = false → t = q.refresh
          p.1 i →
      exec (.latchedLoRead init addr) s = .next
        ({ t with hi := { t.hi with hiLatch := Tab.put t.hi.hiLatch addr (t.word p.2 i j) } }.emit (.readData init [t.word p.1
            i j])))
  ∧ (∀ (s q t : State) (init addr i j : Nat) (p : Reg × Reg), q = s.quiet → Allowed q init addr false → canonAddr addr = addr
      →
      q.specialRead init addr = none → findReg addr = some (p.2, i, j) →
      latchPairs.find? (fun (x : Reg × Reg) => x.1.addr == p.2.addr) = none →
      latchPairs.find? (fun (x : Reg × Reg) => x.2.addr == p.2.addr) = some p → inCounterWindow addr = false → t = q.refresh
          p.2 i →
      exec (.latchedLoRead init addr) s = .next
        (t.emit (.readData init [Tab.get (t.word p.2 i j) t.hi.hiLatch (addr - (p.2.addr - p.1.addr))])))
  ∧ (∀ (s q t : State) (init addr i j : Nat) (g : Reg), q = s.quiet → Allowed q init addr false → canonAddr addr = addr →
      q.specialRead init addr = none → findReg addr = some (g, i, j) → inCounterWindow addr = false →
      latchPairs.find? (fun (x : Reg × Reg) => x.1.addr == g.addr) = none →
      latchPairs.find? (fun (x : Reg × Reg) => x.2.addr == g.addr) = none → t = q.refresh g i →
      exec (.latchedLoRead init addr) s = .next (t.emit (.readData init [t.word g i j])))

/-- Tier 2. The opcodes of R475 name the commands of its table, group by group and code by code from 01 on, each command
carrying its own opcode, and no other opcode names one, code 0x05 of GNSS among them. A request with such an opcode that its
core takes at once is answered BAD_OPCODE with no words, and nothing else is done. -/
def Obligations.OpcodesOfTheTable : Prop :=
  (∀ g ∈ ([(0x01, [some cmdSysInfo, some cmdSysNodeId, some cmdSysCoreStatus, some cmdSysWdtCfg, some cmdSysBootCfg, some
      cmdSysCfgLoad, some cmdSysEcho]),
       (0x02, [some cmdNvmStatus, some cmdNvmRead, some cmdNvmErase, some cmdNvmWrite, some cmdNvmVerify]),
       (0x03, [some cmdPwrStatus, some cmdPwrState, some cmdPwrMode, some cmdPwrReset, some cmdPwrStartCfg]),
       (0x10, [some cmdTimeStatus, some cmdTimeTbCfg, some cmdTimeSet, some cmdTimeAdjPhase, some cmdTimeAdjFreq, some
           cmdTimeUtc, some cmdTimeDomainMap, some cmdTimePair, some cmdTimeCmp, some cmdTimePps, some cmdTimeSerial, some
           cmdTimePtpPort, some cmdTimeSessStatus, some cmdTimeNpx]),
       (0x11, [some cmdRefStatus, some cmdRefSlotStatus, some cmdRefSlotCfg, some cmdRefDpllCfg, some cmdRefPrio, some
           cmdRefGlobal, some cmdRefOcxo, some cmdRefForce, some cmdRefSwLoop, some cmdRefSwRead, some cmdRefSwWrite]),
       (0x12, [some cmdSynStatus, some cmdSynApllCfg, some cmdSynOutCfg, some cmdSynCommit, some cmdSynPhase]),
       (0x13, [some cmdGnssStatus, some cmdGnssInputCfg, some cmdGnssTimingCfg, some cmdGnssTrustCfg, none, some cmdGnssRead,
           some cmdGnssSleep, some cmdGnssFeSpi]),
       (0x14, [some cmdEvtStatus, some cmdEvtCfg, some cmdEvtInputCfg, some cmdEvtRead]),
       (0x20, [some cmdLaneStatus, some cmdLaneCfg, some cmdLaneRestart, some cmdLaneSpare, some cmdLaneTest, some
           cmdLaneInject, some cmdLaneGroveCfg]),
       (0x21, [some cmdPortStatus, some cmdPortCfg, some cmdPortDownCfg, some cmdPortFc, some cmdPortModule, some
           cmdPortPolice]),
       (0x22, [some cmdFwdStatus, some cmdFwdWrite, some cmdFwdRead, some cmdFwdCommit, some cmdFwdDiscard, some cmdFwdBufCfg,
           some cmdFwdEpochCfg]),
       (0x23, [some cmdSchedStatus, some cmdSchedPortCfg, some cmdSchedQueueCfg, some cmdSchedWrite, some cmdSchedRead, some
           cmdSchedBankCfg, some cmdSchedCommit, some cmdSchedCopy]),
       (0x24, [some cmdFlowStatus, some cmdFlowPortCfg, some cmdFlowPlace, some cmdFlowPin, some cmdFlowRemove, some
           cmdFlowCommit, some cmdFlowDiscard, some cmdFlowQuery, some cmdFlowCfg]),
       (0x25, [some cmdRedStatus, some cmdRedCtxCfg, some cmdRedCtxStatus, some cmdRedCtxReset, some cmdRedPairCfg, some
           cmdRedRole, some cmdRedHealth, some cmdRedLoopBreak]),
       (0x30, [some cmdSecStatus, some cmdSecBlockWorld, some cmdSecRegionWorld, some cmdSecPartWorld, some cmdSecLock, some
           cmdSecCrcCommit, some cmdSecViolRead, some cmdSecWindow, some cmdSecDebugUnlock]),
       (0x31, [some cmdTelStatus, some cmdTelCounterCfg, some cmdTelRead, some cmdTelWindowCfg, some cmdTelTallyCfg, some
           cmdTelTallyRead, some cmdTelEventCfg]),
       (0x32, [some cmdCalStatus, some cmdCalRun, some cmdCalResult, some cmdCalRecordWrite, some cmdCalRecordRead, some
           cmdCalLinkRecord])] : List (Nat × List (Option Cmd))),
      (∀ k, k < g.2.length → cmdOf (256 * g.1 + k + 1) = g.2.getD k none
        ∧ ∀ c, g.2.getD k none = some c → c.op = 256 * g.1 + k + 1)
      ∧ ∀ op, op / 256 = g.1 → (op % 256 = 0 ∨ g.2.length < op % 256) → cmdOf op = none)
  ∧ (∀ op, op / 256 ∉ [0x01, 0x02, 0x03, 0x10, 0x11, 0x12, 0x13, 0x14, 0x20, 0x21, 0x22, 0x23, 0x24, 0x25, 0x30, 0x31, 0x32] →
      cmdOf op = none)
  ∧ ∀ (s : State) (op : Nat) (r : Req), op < 65536 → cmdOf op = none → r.mb < 16 → (r.mb < 8 → s.initSecure r.init = true) →
      s.mbBusy r.mb = false → (s.rung op r).servesNow r.mb = true →
      ∃ t, exec (.badOpcode op r) s = .next t ∧ Answered t r.mb .badOpcode []
        ∧ t = ((s.rung op r).holdMb r.mb).respond r.mb .badOpcode []

/-- Tier 2. A semaphore that an agent acquires with LEASE from 1 to 1,000 ms is held until that time has passed since the
acquire, counted by the device's clock: the lease's end then releases it with BROKEN = 1, and before it changes nothing; a
release by its owner ends the lease. With LEASE = 0 there is no lease and no end. A LEASE above 1,000 makes the acquire
ignored. -/
def Obligations.SemaphoreLease : Prop :=
  (∀ (s : State) (init n lease : Nat), n < 64 → init ≠ 8 → semOpen init n = true → (s.semOf n).held = false → 1 ≤ lease →
      lease ≤ 1000 → Runs (.semAcquire init n lease) s fun t => (t.semOf n).held = true ∧ (t.semOf n).owner = init
        ∧ (t.semOf n).lease = some (s.clk + lease * 10 ^ 9) ∧ t.clk = s.clk)
  ∧ (∀ (s : State) (init n : Nat), n < 64 → init ≠ 8 → semOpen init n = true → (s.semOf n).held = false →
      Runs (.semAcquire init n 0) s fun t => (t.semOf n).held = true ∧ (t.semOf n).lease = none)
  ∧ (∀ (s : State) (init n lease : Nat), 1000 < lease → lease < 1024 → Runs (.semAcquire init n lease) s fun t => t.sem =
      s.sem)
  ∧ (∀ (s : State) (init n : Nat), n < 64 → init ≠ 8 → semOpen init n = true → (s.semOf n).held = true → (s.semOf n).owner =
      init →
      Runs (.semRelease init n) s fun t => (t.semOf n).held = false ∧ (t.semOf n).broken = false ∧ (t.semOf n).lease = none)
  ∧ (∀ (s : State) (dt n t0 : Nat), n < 64 → (s.semOf n).held = true → (s.semOf n).lease = some t0 → t0 ≤ s.clk + dt →
      Runs (.semLeaseExpiry dt n) s fun t => (t.semOf n).held = false ∧ (t.semOf n).broken = true ∧ t.eventSet 92)
  ∧ (∀ (s : State) (dt n t0 : Nat), n < 64 → (s.semOf n).lease = some t0 → s.clk + dt < t0 →
      Runs (.semLeaseExpiry dt n) s fun t => t.sem = s.sem)
  ∧ ∀ (s : State) (dt n : Nat), n < 64 → (s.semOf n).lease = none → Runs (.semLeaseExpiry dt n) s fun t => t.sem = s.sem

/-- Tier 2. Writing 1 to bit n of EV_SWRAISE raises event 120 + n, whatever the other bits are, where the initiator is secure or
n is 4 or more. A non-secure write whose bits 7 to 4 are 0 changes no register field. -/
def Obligations.SoftwareEvents : Prop :=
  (∀ (s : State) (init v n : Nat), Allowed s init 0x100030 true → n < 8 → bitOf v n = true →
      (s.initSecure init = true ∨ 4 ≤ n) → Runs (.swevt init v) s fun t => t.eventSet (120 + n))
  ∧ ∀ (s : State) (init v : Nat), Allowed s init 0x100030 true → s.initSecure init = false →
      (∀ n, 4 ≤ n → n < 8 → bitOf v n = false) → Runs (.swevt init v) s fun t => s.RegsKept t (fun _ => False) ∧ t.ev = s.ev

/-- Tier 2. TIME.SET with a legal time for an enabled timebase is refused with NOT_IN_MODE unless SRC is HOST and either
STEP_ALLOW is 1 or TIME_VALID is 0, and TIME.ADJ_PHASE with STEP = 1 and a legal offset likewise. A TIME.ADJ_PHASE that
would bring the pending correction above 1 s is refused with BAD_ARG. A refused command does nothing else, so that the
pending correction stands. Where those conditions hold and no lock refuses it, TIME.SET is accepted and its time stands. -/
def Obligations.TimeSetRefusals : Prop :=
  Refuses .timeSet cmdTimeSet .notInMode (fun c q => (wordsTime (c.arg 2) (c.arg 3) (c.arg 4)).isSome ∧ q.tbOn (c.bits 1 2 0)
      = true
      ∧ (q.on R.HW_TBn_CTRL_SRC (c.bits 1 2 0) = false
        ∨ (q.on R.HW_TBn_CTRL_STEP_ALLOW (c.bits 1 2 0) = false ∧ (q.tbOf (c.bits 1 2 0)).timeValid = true)))
  ∧ Refuses .timeAdjPhase cmdTimeAdjPhase .notInMode (fun c q => q.tbOn (c.bits 1 2 0) = true
      ∧ (c.int64 2).natAbs ≤ 10 ^ 9 * 65536 ∧ c.bit 1 8 = true
      ∧ (q.on R.HW_TBn_CTRL_SRC (c.bits 1 2 0) = false
        ∨ (q.on R.HW_TBn_CTRL_STEP_ALLOW (c.bits 1 2 0) = false ∧ (q.tbOf (c.bits 1 2 0)).timeValid = true)))
  ∧ Refuses .timeAdjPhase cmdTimeAdjPhase .badArg (fun c q => q.tbOn (c.bits 1 2 0) = true
      ∧ q.on R.HW_TBn_CTRL_SRC (c.bits 1 2 0) = true
      ∧ (c.bit 1 8 = true → q.on R.HW_TBn_CTRL_STEP_ALLOW (c.bits 1 2 0) = true ∨ (q.tbOf (c.bits 1 2 0)).timeValid = false)
      ∧ secUnit < ((q.tbOf (c.bits 1 2 0)).pendingCorr + c.int64 2 * linUnit).natAbs)
  ∧ Fulfils .timeSet cmdTimeSet (fun c q => (wordsTime (c.arg 2) (c.arg 3) (c.arg 4)).isSome ∧ q.tbOn (c.bits 1 2 0) = true
      ∧ q.on R.HW_TBn_CTRL_SRC (c.bits 1 2 0) = true
      ∧ (q.on R.HW_TBn_CTRL_STEP_ALLOW (c.bits 1 2 0) = true ∨ (q.tbOf (c.bits 1 2 0)).timeValid = false)
      ∧ q.worldLocked (q.entryNonSecure (19 + c.bits 1 2 0)) = false) (fun _ _ => [])
      (fun c q => q.stepTb (c.bits 1 2 0) (((wordsTime (c.arg 2) (c.arg 3) (c.arg 4)).getD 0 : Int) - q.time (c.bits 1 2 0)))

/-- Tier 2. A domain number names at most one timebase, 0 to 7. TIME.DOMAIN_MAP makes its domain name the given timebase, or
none, and leaves every other domain as it was (R90). An Announce or a delay request of a domain that is not mapped, the
messages that open sessions (R113), opens none. -/
def Obligations.DomainMapping : Prop :=
  (∀ (s : State) (d n : Nat), s.domainTb d = some n → n < 8)
  ∧ (∀ (s : State) (r : Req), Served s cmdTimeDomainMap r →
      ((ctxOf r).bit 1 11 = true → (s.asked cmdTimeDomainMap r).tbOn ((ctxOf r).bits 1 10 8) = true) →
      (s.asked cmdTimeDomainMap r).domainOpen ((ctxOf r).bits 1 7 0) = false →
      (s.asked cmdTimeDomainMap r).worldLocked ((s.asked cmdTimeDomainMap r).entryNonSecure 27) = false →
      Completes (.timeDomainMap r) s r.mb [] fun t =>
        t.domainTb ((ctxOf r).bits 1 7 0) = (if (ctxOf r).bit 1 11 then some ((ctxOf r).bits 1 10 8) else none)
        ∧ ∀ d, d < 256 → d ≠ (ctxOf r).bits 1 7 0 → t.domainTb d = s.domainTb d)
  ∧ (∀ (s : State) (dt p dom peer cls acc var steps : Nat), dom < 256 → s.domainTb dom = none →
      Runs (.announce dt p dom peer cls acc var steps) s fun t => t.sessions = s.sessions)
  ∧ ∀ (s : State) (dt p dom peer seq : Nat) (pdelay : Bool) (ago rho port : Nat) (corr : Int), dom < 256 → s.domainTb dom =
      none →
      Runs (.delayReq dt p dom peer seq pdelay ago rho port corr) s fun t => t.sessions = s.sessions

/-- Tier 2. A refused access gives its initiator the error response and raises FB_VIOLATION. While COUNT is below 16 it is
logged in entry COUNT with its kind, space, target, initiator, worlds, access kind and address, and COUNT rises; when the
log is full LOST counts it, up to its largest value, and no entry changes. A clear by a secure initiator empties COUNT, LOST
and every entry; one by another leaves the entries logged (R509). -/
def Obligations.ViolationLog : Prop :=
  (∀ (s : State) (kind target init acc addr n : Nat) (sp : Space) (ns : Bool), kind < 8 → target < 64 → init < 16 → acc < 4 →
      addr < 2 ^ 32 → n = s.get R.FB_VIOL_STAT_COUNT → n < 16 → ∀ t, t = s.refuseAccess kind sp target init ns acc addr →
      t.get R.FB_VIOLn_INFO_VALID n = 1 ∧ t.get R.FB_VIOLn_INFO_KIND n = kind ∧ t.get R.FB_VIOLn_INFO_SPACE n = sp.code
      ∧ t.get R.FB_VIOLn_INFO_TARGET n = target ∧ t.get R.FB_VIOLn_INFO_INIT n = init
      ∧ t.get R.FB_VIOLn_INFO_I_WORLD n = b2n (!s.initSecure init) ∧ t.get R.FB_VIOLn_INFO_T_WORLD n = b2n ns
      ∧ t.get R.FB_VIOLn_INFO_ACC n = acc ∧ t.get R.FB_VIOLn_ADDR_ADDR n = addr ∧ t.get R.FB_VIOL_STAT_COUNT = n + 1
      ∧ t.eventSet 94 ∧ .errResp init addr ∈ t.out
      ∧ s.RegsKept t (fun k => inRegs (0x480100 + 0x20 * n) 0x20 k ∨ eventReg k ∨ k = R.FB_VIOL_STAT_COUNT.key 0 0))
  ∧ (∀ (s : State) (kind target init acc addr : Nat) (sp : Space) (ns : Bool), 16 ≤ s.get R.FB_VIOL_STAT_COUNT →
      ∀ t, t = s.refuseAccess kind sp target init ns acc addr →
      t.get R.FB_VIOL_STAT_LOST = min (s.get R.FB_VIOL_STAT_LOST + 1) 65535 ∧ t.eventSet 94 ∧ .errResp init addr ∈ t.out
      ∧ s.RegsKept t (fun k => eventReg k ∨ k = R.FB_VIOL_STAT_LOST.key 0 0))
  ∧ (∀ (s : State) (init : Nat), Allowed s init 0x400000 true → s.initSecure init = true → Runs (.violLogClear init) s fun t
      =>
      t.get R.FB_VIOL_STAT_COUNT = 0 ∧ t.get R.FB_VIOL_STAT_LOST = 0
      ∧ (∀ n, n < 16 → t.word R.FB_VIOLn_INFO n = 0 ∧ t.word R.FB_VIOLn_ADDR n = 0 ∧ t.word R.FB_VIOLn_T0 n = 0
        ∧ t.word R.FB_VIOLn_T1 n = 0 ∧ t.word R.FB_VIOLn_T2 n = 0)
      ∧ s.RegsKept t violReg)
  ∧ ∀ (s : State) (init : Nat), Allowed s init 0x400000 true → s.initSecure init = false → Runs (.violLogClear init) s fun t
      =>
      s.get R.FB_VIOL_STAT_COUNT ≤ t.get R.FB_VIOL_STAT_COUNT ∧ s.get R.FB_VIOL_STAT_LOST ≤ t.get R.FB_VIOL_STAT_LOST
      ∧ ∀ n, n < s.get R.FB_VIOL_STAT_COUNT → ∀ f ∈ R.FB_VIOLn_INFO.fields ++ R.FB_VIOLn_ADDR.fields, t.get f n = s.get f n

/-- Tier 2. The status and read commands of every group, whatever they answer and in every state, change no register field
outside the mailbox pages, the event registers, the violation log, CI_STAT.PENDING (a commit that was already due, R512) and
the three status bits that show a condition of the moment and are brought up to date when they are answered (RUNNING of
RD_HEALTH, R457; PH_BUSY, R222; VALID of GN_SOLx_STAT, R257), and nothing beyond the registers but the mailbox bookkeeping,
the event FIFOs, the programmable counters, the pending MSI-X bits, the commit in hand and what is sent outward. -/
def Obligations.QueriesChangeNothing : Prop :=
  ∀ mk ∈ ([.sysInfo, .sysCoreStatus, .sysEcho, .nvmStatus, .nvmRead, .nvmVerify, .timeStatus, .timeSessStatus, .refStatus,
      .refSlotStatus, .refSwRead, .synStatus, .gnssStatus, .evtStatus, .fwdStatus, .fwdRead, .schedStatus, .schedRead,
      .flowStatus, .flowQuery, .redStatus, .redCtxStatus, .secStatus, .telStatus, .calResult, .calRecordRead] : List (Req →
      Instr)),
    ∀ (r : Req) (s t : State), exec (mk r) s = .next t →
      s.RegsKept t (fun k => mailboxReg k ∨ eventReg k ∨ violReg k ∨ k = R.CI_STAT_PENDING.key 0 0
          ∨ k = R.RD_HEALTH_RUNNING.key 0 0 ∨ (∃ a, k = R.SY_APLLa_STAT_PH_BUSY.key a 0) ∨ ∃ x, k = R.GN_SOLx_STAT_VALID.key x
              0)
      ∧ t = { s with regs := t.regs, ctl := t.ctl, ev := t.ev, progCnt := t.progCnt, pf := t.pf, ci := t.ci, out := t.out }

/-- Tier 1. The SYS group (R461, R476, R477, R484). SYS.INFO and SYS.CORE_STATUS answer their words, SYS.ECHO its arguments, and
change nothing; SYS.NODE_ID writes NODE_ID, clears UNSET and writes the Node ID record; SYS.WDT_CFG writes one watchdog's
timeout; SYS.BOOT_CFG writes the boot configuration and, where the given MIN_SEC_VER is another, its record; SYS.CFG_LOAD
takes up the run through an accepted image. The NVM group (R478, R479). NVM.STATUS answers the state of the flash, NVM.READ
the bytes of a range inside the flash, NVM.VERIFY the result and header bytes of a slot; NVM.ERASE makes the bytes of an
unprotected block read as erased; NVM.WRITE programs up to 240 bytes of an unprotected page whose bits can take the data.
The PWR group (R560, R567, R577, R578, R586, R589). PWR.STATUS answers the power registers, PWR.STATE moves a port or a
block entry into an allowed state, PWR.MODE enters an allowed mode or prepares DORMANT while an armed wake source does not
hold yet, PWR.RESET saves the time record and leaves the reset to follow, PWR.START_CFG writes the start, wake and
temperature fields. -/
def Obligations.SystemCommandsComplete : Prop :=
  Fulfils .sysInfo cmdSysInfo (fun _ _ => True)
      (fun _ q => [q.word R.DEV_ID, q.word R.DEV_REV, q.word R.NODE_ID, q.ctl.fwVersion.getD 0, q.word R.BOOT_STAT, q.word
          R.MB_STATUS, (q.ctl.cfgImage.map Prod.fst).getD 0, (q.ctl.cfgImage.map Prod.snd).getD 0])
      (fun _ q => q)
  ∧ Fulfils .sysNodeId cmdSysNodeId (fun c q => q.worldLocked (q.entryNonSecure 37) = false ∧ ((q.writes
      [{ f := R.NODE_ID_NODE_ID, v := c.bits 1 19 0 }, { f := R.NODE_ID_UNSET, v := 0 }]).nvPut 0x02 0 none [c.bits 1 19
      0]).isSome)
      (fun _ _ => [])
      (fun c q => (((q.writes [{ f := R.NODE_ID_NODE_ID, v := c.bits 1 19 0 }, { f := R.NODE_ID_UNSET, v := 0 }]).nvPut 0x02 0
          none [c.bits 1 19 0]).map Prod.snd).getD q)
  ∧ Fulfils .sysCoreStatus cmdSysCoreStatus (fun _ _ => True)
      (fun _ q => [q.word R.MB_STATUS, q.rstWord 0, q.rstWord 2, q.rstWord 3, q.word R.CSRAM_CORR, (q.ctl.dbeRegion.map fun r
          => r % 32 + 2 ^ 31).getD 0])
      (fun _ q => q)
  ∧ Fulfils .sysWdtCfg cmdSysWdtCfg (fun c q => c.bits 1 1 0 ≠ 1 ∧ R.MB_WDTc_CFG_TIMEOUT.inRange (c.bits 2 13 0) = true ∧
      q.unlocked [{ f := R.MB_WDTc_CFG_TIMEOUT, i := c.bits 1 1 0, v := c.bits 2 13 0 }])
      (fun _ _ => [])
      (fun c q => q.cfgWrites [{ f := R.MB_WDTc_CFG_TIMEOUT, i := c.bits 1 1 0, v := c.bits 2 13 0 }])
  ∧ Fulfils .sysBootCfg cmdSysBootCfg (fun c q => q.minSec = c.bits 2 15 0 ∧ ((q.bootCfg.signed = false ∨ c.bit 1 4 = true ∨
      q.mode = 5)) ∧ q.worldLocked (q.entryNonSecure 39) = false)
      (fun _ _ => [])
      (fun c q =>
          ({ q with bootCfg := { pref := c.bits 1 0 0, trial := c.bit 1 1 && !c.bit 1 2, tried := q.bootCfg.tried && !c.bit 1 1 && !c.bit 1 2, cfgPref := c.bits 1 3 3, signed := c.bit 1 4 } }).bootSync)
  ∧ Fulfils .sysBootCfg cmdSysBootCfg (fun c q => q.minSec < c.bits 2 15 0 ∧ c.bits 2 15 0 ≤ q.get R.BOOT_STAT_SEC_VER ∧
      ((q.bootCfg.signed = false ∨ c.bit 1 4 = true ∨ q.mode = 5)) ∧ q.worldLocked (q.entryNonSecure 39) = false ∧
      ((({ q with bootCfg := { pref := c.bits 1 0 0, trial := c.bit 1 1 && !c.bit 1 2, tried := q.bootCfg.tried && !c.bit 1 1 && !c.bit 1 2, cfgPref := c.bits 1 3 3, signed := c.bit 1 4 } }).bootSync).nvPut
      0x04 0 none [c.bits 2 15 0]).isSome)
      (fun _ _ => [])
      (fun c q =>
          ((({ q with bootCfg := { pref := c.bits 1 0 0, trial := c.bit 1 1 && !c.bit 1 2, tried := q.bootCfg.tried && !c.bit 1 1 && !c.bit 1 2, cfgPref := c.bits 1 3 3, signed := c.bit 1 4 } }).bootSync.nvPut
          0x04 0 none [c.bits 2 15 0]).map Prod.snd).getD q)
  ∧ Fulfils .sysEcho cmdSysEcho (fun _ _ => True)
      (fun c _ => c.args)
      (fun _ q => q)
  ∧ Awaits .sysCfgLoad cmdSysCfgLoad (fun c q => q.cfgAccepted (c.bits 1 0 0) = true ∧ (q.entries (c.bits 1 0 0)).isSome)
      (fun c q =>
          ({ q with ctl := { q.ctl with cfgImage := some ((q.header 2 (c.bits 1 0 0)).version, (q.header 2 (c.bits 1 0 0)).check), cfgSlot := c.bits 1 0 0 } }).loadGo
          (c.mb.getD 0) { left := (q.entries (c.bits 1 0 0)).getD [] })
  ∧ Fulfils .nvmStatus cmdNvmStatus (fun _ _ => True)
      (fun _ q => [2 * b2n q.ctl.nvmFailed + 4 * q.get R.BOOT_STAT_SLOT + 16 * q.ctl.cfgSlot, 16384 + Config.flashExtra,
          Config.jedec % 2 ^ 24])
      (fun _ q => q)
  ∧ Fulfils .nvmRead cmdNvmRead (fun c _ => 1 ≤ c.bits 2 7 0 ∧ c.bits 2 7 0 ≤ 240 ∧ inFlash (c.arg 1) (c.bits 2 7 0) = true)
      (fun c q => leWords 60 (q.flashBytes (c.arg 1) (c.bits 2 7 0)))
      (fun _ q => q)
  ∧ Fulfils .nvmErase cmdNvmErase (fun c q => c.arg 1 % (if c.bit 2 0 then 65536 else 4096) = 0 ∧ inFlash (c.arg 1) (if c.bit
      2 0 then 65536 else 4096) = true ∧ q.nvmProtected (c.arg 1) (if c.bit 2 0 then 65536 else 4096) = false)
      (fun _ _ => [])
      (fun c q =>
          { q with flash := Memory.erase q.flash (c.arg 1) (if c.bit 2 0 then 65536 else 4096), ctl := { q.ctl with nvmFailed := false } })
  ∧ Fulfils .nvmWrite cmdNvmWrite (fun c q => 1 ≤ c.bits 2 7 0 ∧ c.bits 2 7 0 ≤ 240 ∧ c.arg 1 % 256 + c.bits 2 7 0 ≤ 256 ∧
      inFlash (c.arg 1) (c.bits 2 7 0) = true ∧ 2 + (c.bits 2 7 0 + 3) / 4 ≤ c.args.length ∧ q.nvmProtected (c.arg 1) (c.bits
      2 7 0) = false ∧ (List.zipWith (fun (x y : Byte) => x &&& y) (q.flashBytes (c.arg 1) (c.bits 2 7 0)) (((c.args.drop
      2).flatMap fun w => leBytes 4 w).take (c.bits 2 7 0)) = ((c.args.drop 2).flatMap fun w => leBytes 4 w).take (c.bits 2 7
      0)))
      (fun _ _ => [])
      (fun c q =>
          { q with flash := Memory.writeBytes flashBlank q.flash (c.arg 1) (((c.args.drop 2).flatMap fun w => leBytes 4 w).take (c.bits 2 7 0)), ctl := { q.ctl with nvmFailed := false } })
  ∧ Fulfils .nvmVerify cmdNvmVerify (fun _ _ => True)
      (fun c q => q.verifyImage (c.bits 1 0 0 + 1) (c.bits 1 4 4) :: leWords 8 (q.flashBytes (slotAddr (c.bits 1 0 0 + 1)
          (c.bits 1 4 4) + 4) 32))
      (fun _ q => q)
  ∧ Fulfils .pwrStatus cmdPwrStatus (fun _ _ => True)
      (fun _ q => [q.keeperSync.word R.MODE_STATE, q.keeperSync.word R.PWR_STATE, q.keeperSync.word R.PM_BLK_STATEi 0,
          q.keeperSync.word R.PM_BLK_STATEi 1, q.keeperSync.word R.PM_BLK_STATEi 2, q.keeperSync.word R.PM_PORT_STATEi 0,
          q.keeperSync.word R.PM_PORT_STATEi 1, q.keeperSync.word R.PM_PORT_STATEi 2, q.keeperSync.word R.PM_START_STAT,
          q.keeperSync.word R.PM_TEMP_STAT, q.keeperSync.word R.PM_SUPPLY_STAT, q.keeperSync.word R.PM_KEEPER_LO,
          q.keeperSync.word R.PM_KEEPER_HI])
      (fun _ q => q.keeperSync)
  ∧ Fulfils .pwrState cmdPwrState (fun c q => c.bit 1 8 = true ∧ c.bits 1 5 0 < 48 ∧ ((c.bits 1 13 12 < 2 ∨ q.portState
      (c.bits 1 5 0) = 0)))
      (fun _ _ => [])
      (fun c q => q.portTo (c.bits 1 5 0) (c.bits 1 13 12))
  ∧ Fulfils .pwrState cmdPwrState (fun c q => c.bit 1 8 = false ∧ c.bits 1 5 0 < 48 ∧ (blkAllowed (c.bits 1 5 0)).contains
      (c.bits 1 13 12) = true ∧ ((2 ≤ c.bits 1 13 12 → q.blkMaySleep (c.bits 1 5 0) = true)) ∧ ((c.bits 1 13 12 < 2 → q.blkOff
      (c.bits 1 5 0) = false)))
      (fun _ _ => [])
      (fun c q => q.blkTo (c.bits 1 5 0) (c.bits 1 13 12))
  ∧ Fulfils .pwrMode cmdPwrMode (fun c q => 1 ≤ c.bits 1 2 0 ∧ c.bits 1 2 0 ≤ 5 ∧ q.modeAnswer (c.bits 1 2 0) = .ok)
      (fun _ _ => [])
      (fun c q => ({ q with pw := { q.pw with stop := q.on R.MODE_STATE_START_RUN } }).setMode (c.bits 1 2 0))
  ∧ Fulfils .pwrMode cmdPwrMode (fun c q => c.bits 1 2 0 = 0 ∧ q.modeAnswer 0 = .ok ∧ q.wakeArmed = true ∧ q.wakeHolds =
      false)
      (fun _ _ => [])
      (fun _ q => { q with pw := { q.pw with dormant := true } })
  ∧ Fulfils .pwrReset cmdPwrReset (fun c q => c.bits 1 1 0 ≤ 2 ∧ ((c.bits 1 1 0 = 0 ∨ q.on R.MODE_STATE_START_RUN = false)))
      (fun _ _ => [])
      (fun c q =>
          { (if c.bit 1 5 then q.clearFails else q).saveTime with pw := { (if c.bit 1 5 then q.clearFails else q).saveTime.pw with reset := some { scope := c.bits 1 1 0, warm := c.bit 1 4, clr := c.bit 1 5, at_ := q.clk } } })
  ∧ Fulfils .pwrStartCfg cmdPwrStartCfg (fun c q => R.PM_TEMP_CFG.ok (c.arg 5) = true ∧ q.unlocked (R.PM_START_CFG.writes
      (c.arg 1) ++ R.PM_WAKE_CFG.writes (c.arg 2) ++ R.PM_WAKE_ALARM_LO.writes (c.arg 3) ++ R.PM_WAKE_ALARM_HI.writes (c.arg
      4) ++ R.PM_TEMP_CFG.writes (c.arg 5)))
      (fun _ _ => [])
      (fun c q => (q.cfgWrites (R.PM_START_CFG.writes (c.arg 1) ++ R.PM_WAKE_CFG.writes (c.arg 2) ++ R.PM_WAKE_ALARM_LO.writes
          (c.arg 3) ++ R.PM_WAKE_ALARM_HI.writes (c.arg 4) ++ R.PM_TEMP_CFG.writes (c.arg 5))).tempSync)

/-- Tier 1. The TIME commands that work on a timebase (R84 to R89): its status words; its control, slew, step and holdover
fields; a step to a given time and a correction where the host is the source and may step; its frequency; its UTC offset and
its leap entries. -/
def Obligations.TimebaseCommandsComplete : Prop :=
  Fulfils .timeStatus cmdTimeStatus (fun _ _ => True)
      (fun c q => [b2n (q.tbOn (c.bits 1 2 0)) + 2 * q.get R.HW_TBn_CTRL_SRC (c.bits 1 2 0) + 4 * q.dpllState (c.bits 1 2 0) +
          16 * b2n (q.tbOf (c.bits 1 2 0)).timeValid + 32 * b2n (q.dpllState (c.bits 1 2 0) == 2) + 64 * b2n (q.tbOf (c.bits 1
          2 0)).slewing + 128 * b2n (q.tbOf (c.bits 1 2 0)).depthExceeded + 256 * b2n (q.pairOf (c.bits 1 2 0)).isSome + 512 *
          b2n (match q.pairOf (c.bits 1 2 0) with | some k => q.pairActive k == c.bits 1 2 0 | none => false) + 1024 * q.get
          R.HW_TBn_CTRL_STEP_ALLOW (c.bits 1 2 0), satN (2 ^ 32 - 1) (q.estErr (c.bits 1 2 0))] ++ words64 (Int.tdiv (q.tbOf
          (c.bits 1 2 0)).pendingCorr linUnit) ++ words64 (q.tbOf (c.bits 1 2 0)).freq ++ words64
          (match q.pairOf (c.bits 1 2 0) with | some k => (q.pairRec k).ofs | none => 0) ++ [q.get R.HW_TBn_UTC_UTC_OFS
          (c.bits 1 2 0)])
      (fun _ q => q)
  ∧ Fulfils .timeTbCfg cmdTimeTbCfg (fun c q => R.HW_TBn_SLEW.ok (c.arg 2) = true ∧ R.HW_TBn_STEP_THR.ok (c.arg 3) = true ∧
      R.HW_TBn_HO_LIMIT.ok (c.arg 4) = true ∧ ((q.tbOn (c.bits 1 2 0) = true → c.bit 1 3 = true ∨ q.tbInUse (c.bits 1 2 0) =
      false)) ∧ q.unlocked ([({ f := R.HW_TBn_CTRL_EN, i := c.bits 1 2 0, v := c.bits 1 3 3 } : FieldWrite),
      { f := R.HW_TBn_CTRL_SRC, i := c.bits 1 2 0, v := c.bits 1 4 4 },
      { f := R.HW_TBn_CTRL_STEP_ALLOW, i := c.bits 1 2 0, v := c.bits 1 5 5 }] ++ R.HW_TBn_SLEW.writes (c.arg 2) (c.bits 1 2
      0) ++ R.HW_TBn_STEP_THR.writes (c.arg 3) (c.bits 1 2 0) ++ R.HW_TBn_HO_LIMIT.writes (c.arg 4) (c.bits 1 2 0)))
      (fun _ _ => [])
      (fun c q => q.tbCtrl (c.bits 1 2 0) ([({ f := R.HW_TBn_CTRL_EN, i := c.bits 1 2 0, v := c.bits 1 3 3 } : FieldWrite),
          { f := R.HW_TBn_CTRL_SRC, i := c.bits 1 2 0, v := c.bits 1 4 4 },
          { f := R.HW_TBn_CTRL_STEP_ALLOW, i := c.bits 1 2 0, v := c.bits 1 5 5 }] ++ R.HW_TBn_SLEW.writes (c.arg 2) (c.bits 1
          2 0) ++ R.HW_TBn_STEP_THR.writes (c.arg 3) (c.bits 1 2 0) ++ R.HW_TBn_HO_LIMIT.writes (c.arg 4) (c.bits 1 2 0)))
  ∧ Fulfils .timeSet cmdTimeSet (fun c q => (wordsTime (c.arg 2) (c.arg 3) (c.arg 4)).isSome ∧ q.tbOn (c.bits 1 2 0) = true ∧
      q.on R.HW_TBn_CTRL_SRC (c.bits 1 2 0) = true ∧ q.hostStepOk (c.bits 1 2 0) = true ∧ q.worldLocked (q.entryNonSecure (19
      + c.bits 1 2 0)) = false)
      (fun _ _ => [])
      (fun c q => q.stepTb (c.bits 1 2 0) (((wordsTime (c.arg 2) (c.arg 3) (c.arg 4)).getD 0 : Int) - q.time (c.bits 1 2 0)))
  ∧ Fulfils .timeAdjPhase cmdTimeAdjPhase (fun c q => q.tbOn (c.bits 1 2 0) = true ∧ (c.int64 2).natAbs ≤ 10 ^ 9 * 65536 ∧
      q.on R.HW_TBn_CTRL_SRC (c.bits 1 2 0) = true ∧ ((c.bit 1 8 = true → q.hostStepOk (c.bits 1 2 0) = true)) ∧ q.corrRefused
      (c.bits 1 2 0) (c.int64 2 * linUnit) = false ∧ ((∀ k, q.pairOf (c.bits 1 2 0) = some k → (q.pairRec k).awaiting = none))
      ∧ q.worldLocked (q.entryNonSecure (19 + c.bits 1 2 0)) = false)
      (fun _ _ => [])
      (fun c q => q.correct (c.bits 1 2 0) (c.int64 2 * linUnit) false (c.bit 1 8))
  ∧ Fulfils .timeAdjFreq cmdTimeAdjFreq (fun c q => q.tbOn (c.bits 1 2 0) = true ∧ (c.int64 2).natAbs ≤ 140737488355 ∧ q.on
      R.HW_TBn_CTRL_SRC (c.bits 1 2 0) = true ∧ q.unlocked
      ([{ f := R.HW_TBn_FREQ_LO_FREQ, i := c.bits 1 2 0, v := wrap 32 (c.int64 2) },
      { f := R.HW_TBn_FREQ_HI_FREQ, i := c.bits 1 2 0, v := wrap 40 (c.int64 2) / 2 ^ 32 }]))
      (fun _ _ => [])
      (fun c q => (q.cfgWrites [{ f := R.HW_TBn_FREQ_LO_FREQ, i := c.bits 1 2 0, v := wrap 32 (c.int64 2) },
          { f := R.HW_TBn_FREQ_HI_FREQ, i := c.bits 1 2 0, v := wrap 40 (c.int64 2) / 2 ^ 32 }]).takeFreq (c.bits 1 2 0)
          (c.int64 2))
  ∧ Fulfils .timeUtc cmdTimeUtc (fun c q => q.tbOn (c.bits 1 2 0) = true ∧ c.bits 1 5 4 = 0 ∧ 2 ≤ c.args.length ∧ q.unlocked
      ([{ f := R.HW_TBn_UTC_UTC_OFS, i := c.bits 1 2 0, v := c.bits 2 15 0 }]))
      (fun _ _ => [])
      (fun c q => q.cfgWrites [{ f := R.HW_TBn_UTC_UTC_OFS, i := c.bits 1 2 0, v := c.bits 2 15 0 }])
  ∧ Fulfils .timeUtc cmdTimeUtc (fun c q => q.tbOn (c.bits 1 2 0) = true ∧ c.bits 1 5 4 = 1 ∧ 4 ≤ c.args.length ∧ (c.arg 3 % 2
      ^ 32 + 2 ^ 32 * c.bits 4 15 0) ≠ 0 ∧ (sext 16 (c.bits 2 15 0) - q.ofsBefore (c.bits 1 2 0) (c.bits 1 9 8) (c.arg 3 % 2 ^
      32 + 2 ^ 32 * c.bits 4 15 0)).natAbs = 1 ∧ (((c.arg 3 % 2 ^ 32 + 2 ^ 32 * c.bits 4 15 0) : Nat) - sext 16 (c.bits 2 15
      0)) % 86400 = 0 ∧ q.unlocked
      ([{ f := R.HW_TBn_LEAPk_A_SEC, i := c.bits 1 2 0, j := c.bits 1 9 8, v := (c.arg 3 % 2 ^ 32 + 2 ^ 32 * c.bits 4 15 0) % 2 ^ 32 },
      { f := R.HW_TBn_LEAPk_B_SEC, i := c.bits 1 2 0, j := c.bits 1 9 8, v := (c.arg 3 % 2 ^ 32 + 2 ^ 32 * c.bits 4 15 0) / 2 ^ 32 },
      { f := R.HW_TBn_LEAPk_B_NEW_OFS, i := c.bits 1 2 0, j := c.bits 1 9 8, v := c.bits 2 15 0 }]))
      (fun _ _ => [])
      (fun c q => q.cfgWrites
          [{ f := R.HW_TBn_LEAPk_A_SEC, i := c.bits 1 2 0, j := c.bits 1 9 8, v := (c.arg 3 % 2 ^ 32 + 2 ^ 32 * c.bits 4 15 0) % 2 ^ 32 },
          { f := R.HW_TBn_LEAPk_B_SEC, i := c.bits 1 2 0, j := c.bits 1 9 8, v := (c.arg 3 % 2 ^ 32 + 2 ^ 32 * c.bits 4 15 0) / 2 ^ 32 },
          { f := R.HW_TBn_LEAPk_B_NEW_OFS, i := c.bits 1 2 0, j := c.bits 1 9 8, v := c.bits 2 15 0 }])
  ∧ Fulfils .timeUtc cmdTimeUtc (fun c q => q.tbOn (c.bits 1 2 0) = true ∧ c.bits 1 5 4 = 2 ∧ q.unlocked
      ([{ f := R.HW_TBn_LEAPk_A_SEC, i := c.bits 1 2 0, j := c.bits 1 9 8, v := 0 % 2 ^ 32 },
      { f := R.HW_TBn_LEAPk_B_SEC, i := c.bits 1 2 0, j := c.bits 1 9 8, v := 0 / 2 ^ 32 },
      { f := R.HW_TBn_LEAPk_B_NEW_OFS, i := c.bits 1 2 0, j := c.bits 1 9 8, v := 0 }]))
      (fun _ _ => [])
      (fun c q => q.cfgWrites [{ f := R.HW_TBn_LEAPk_A_SEC, i := c.bits 1 2 0, j := c.bits 1 9 8, v := 0 % 2 ^ 32 },
          { f := R.HW_TBn_LEAPk_B_SEC, i := c.bits 1 2 0, j := c.bits 1 9 8, v := 0 / 2 ^ 32 },
          { f := R.HW_TBn_LEAPk_B_NEW_OFS, i := c.bits 1 2 0, j := c.bits 1 9 8, v := 0 }])

/-- Tier 1. The TIME commands that configure what uses a timebase (R90 to R94): mapping or unmapping a domain; enabling,
disabling and switching a primary and shadow pair, a switch answering later; disarming a comparator and arming one at a
target that R56 accepts; a PPS output; the ToD and IRIG-B outputs. The TIME commands of IEEE 1588 sessions (R139 to R141):
the role of a port in a mapped domain, none ending its part in it and an address-aware role turning the correction on; the
words of an open session; the NPX identity, enable and rate. -/
def Obligations.TimeOutputAndSessionCommandsComplete : Prop :=
  Fulfils .timeDomainMap cmdTimeDomainMap (fun c q => ((c.bit 1 11 = true → q.tbOn (c.bits 1 10 8) = true)) ∧ q.domainOpen
      (c.bits 1 7 0) = false ∧ q.unlocked
      ([{ f := R.HW_DOMMAPj_MAP, i := c.bits 1 7 0 / 8, v := q.get R.HW_DOMMAPj_MAP (c.bits 1 7 0 / 8) - bits (q.get R.HW_DOMMAPj_MAP (c.bits 1 7 0 / 8)) (4 * (c.bits 1 7 0 % 8) + 3) (4 * (c.bits 1 7 0 % 8)) * 2 ^ (4 * (c.bits 1 7 0 % 8)) + (if c.bit 1 11 then 8 + c.bits 1 10 8 else 0) * 2 ^ (4 * (c.bits 1 7 0 % 8)) }]))
      (fun _ _ => [])
      (fun c q => q.cfgWrites
          [{ f := R.HW_DOMMAPj_MAP, i := c.bits 1 7 0 / 8, v := q.get R.HW_DOMMAPj_MAP (c.bits 1 7 0 / 8) - bits (q.get R.HW_DOMMAPj_MAP (c.bits 1 7 0 / 8)) (4 * (c.bits 1 7 0 % 8) + 3) (4 * (c.bits 1 7 0 % 8)) * 2 ^ (4 * (c.bits 1 7 0 % 8)) + (if c.bit 1 11 then 8 + c.bits 1 10 8 else 0) * 2 ^ (4 * (c.bits 1 7 0 % 8)) }])
  ∧ Fulfils .timePair cmdTimePair (fun c q => c.bits 1 3 2 = 0 ∧ c.bits 1 6 4 ≠ c.bits 1 10 8 ∧ q.tbOn (c.bits 1 6 4) = true ∧
      q.tbOn (c.bits 1 10 8) = true ∧ ((∀ j, q.pairOf (c.bits 1 6 4) = some j → j = c.bits 1 1 0)) ∧ ((∀ j, q.pairOf (c.bits 1
      10 8) = some j → j = c.bits 1 1 0)) ∧ q.unlocked
      ([{ f := R.HW_PAIRk_CFG_PRIMARY, i := c.bits 1 1 0, v := c.bits 1 6 4 },
      { f := R.HW_PAIRk_CFG_SHADOW, i := c.bits 1 1 0, v := c.bits 1 10 8 },
      { f := R.HW_PAIRk_CFG_AUTO, i := c.bits 1 1 0, v := c.bits 1 12 12 },
      { f := R.HW_PAIRk_CFG_CONVERGE, i := c.bits 1 1 0, v := c.bits 1 13 13 },
      { f := R.HW_PAIRk_CFG_EN, i := c.bits 1 1 0, v := 1 }]))
      (fun _ _ => [])
      (fun c q => if q.on R.HW_PAIRk_CFG_EN (c.bits 1 1 0) && q.get R.HW_PAIRk_CFG_PRIMARY (c.bits 1 1 0) == c.bits 1 6 4 &&
          q.get R.HW_PAIRk_CFG_SHADOW (c.bits 1 1 0) == c.bits 1 10 8 then q.cfgWrites
          [{ f := R.HW_PAIRk_CFG_PRIMARY, i := c.bits 1 1 0, v := c.bits 1 6 4 },
          { f := R.HW_PAIRk_CFG_SHADOW, i := c.bits 1 1 0, v := c.bits 1 10 8 },
          { f := R.HW_PAIRk_CFG_AUTO, i := c.bits 1 1 0, v := c.bits 1 12 12 },
          { f := R.HW_PAIRk_CFG_CONVERGE, i := c.bits 1 1 0, v := c.bits 1 13 13 },
          { f := R.HW_PAIRk_CFG_EN, i := c.bits 1 1 0, v := 1 }] else (((q.cfgWrites
          [{ f := R.HW_PAIRk_CFG_PRIMARY, i := c.bits 1 1 0, v := c.bits 1 6 4 },
          { f := R.HW_PAIRk_CFG_SHADOW, i := c.bits 1 1 0, v := c.bits 1 10 8 },
          { f := R.HW_PAIRk_CFG_AUTO, i := c.bits 1 1 0, v := c.bits 1 12 12 },
          { f := R.HW_PAIRk_CFG_CONVERGE, i := c.bits 1 1 0, v := c.bits 1 13 13 },
          { f := R.HW_PAIRk_CFG_EN, i := c.bits 1 1 0, v := 1 }]).freshPair (c.bits 1 1 0)).outputsMoved q).followSync)
  ∧ Fulfils .timePair cmdTimePair (fun c q => c.bits 1 3 2 = 1 ∧ q.pairConverging (c.bits 1 1 0) = false ∧ q.unlocked
      ([{ f := R.HW_PAIRk_CFG_EN, i := c.bits 1 1 0, v := 0 }]))
      (fun _ _ => [])
      (fun c q => if q.on R.HW_PAIRk_CFG_EN (c.bits 1 1 0) then q.disablePair (c.bits 1 1 0) else q)
  ∧ Awaits .timePair cmdTimePair (fun c q => c.bits 1 3 2 = 2 ∧ q.on R.HW_PAIRk_CFG_EN (c.bits 1 1 0) = true ∧ q.switchRefusal
      (c.bits 1 1 0) = none ∧ q.worldLocked (q.entryNonSecure 27) = false)
      (fun c q => q.requestSwitch (c.bits 1 1 0) 0 c.mb)
  ∧ Fulfils .timeCmp cmdTimeCmp (fun c q => c.bit 1 8 = false ∧ q.unlocked
      ([{ f := R.HW_CMPm_CTRL_ARM, i := c.bits 1 4 0, v := 0 }]))
      (fun _ _ => [])
      (fun c q => q.cfgWrites [{ f := R.HW_CMPm_CTRL_ARM, i := c.bits 1 4 0, v := 0 }])
  ∧ Fulfils .timeCmp cmdTimeCmp (fun c q => c.bit 1 8 = true ∧ 5 ≤ c.args.length ∧ q.tbOn (c.bits 1 7 5) = true ∧
      R.HW_CMPm_PER.ok (c.arg 5) = true ∧ ((c.bit 1 9 = true → q.widthFits (c.bits 1 4 0) (c.bits 5 29 0) = true)) ∧
      (q.judgeTarget (c.bits 1 7 5) (c.arg 2) (c.arg 3) (c.arg 4)).isLeft = true ∧ q.unlocked
      ([{ f := R.HW_CMPm_CTRL_TB, i := c.bits 1 4 0, v := c.bits 1 7 5 },
      { f := R.HW_CMPm_CTRL_PERIODIC, i := c.bits 1 4 0, v := c.bits 1 9 9 },
      { f := R.HW_CMPm_CTRL_ACT_EVENT, i := c.bits 1 4 0, v := c.bits 1 10 10 },
      { f := R.HW_CMPm_CTRL_ACT_SNAP, i := c.bits 1 4 0, v := c.bits 1 11 11 },
      { f := R.HW_CMPm_PER_PERIOD, i := c.bits 1 4 0, v := c.bits 5 29 0 },
      { f := R.HW_CMPm_TGT_LO_TGT, i := c.bits 1 4 0, v := (((q.judgeTarget (c.bits 1 7 5) (c.arg 2) (c.arg 3) (c.arg 4)).getLeft?).getD 0) % 2 ^ 32 },
      { f := R.HW_CMPm_TGT_HI_TGT, i := c.bits 1 4 0, v := (((q.judgeTarget (c.bits 1 7 5) (c.arg 2) (c.arg 3) (c.arg 4)).getLeft?).getD 0) / 2 ^ 32 },
      { f := R.HW_CMPm_CTRL_ARM, i := c.bits 1 4 0, v := 1 }]))
      (fun _ _ => [])
      (fun c q => (q.cfgWrites [{ f := R.HW_CMPm_CTRL_TB, i := c.bits 1 4 0, v := c.bits 1 7 5 },
          { f := R.HW_CMPm_CTRL_PERIODIC, i := c.bits 1 4 0, v := c.bits 1 9 9 },
          { f := R.HW_CMPm_CTRL_ACT_EVENT, i := c.bits 1 4 0, v := c.bits 1 10 10 },
          { f := R.HW_CMPm_CTRL_ACT_SNAP, i := c.bits 1 4 0, v := c.bits 1 11 11 },
          { f := R.HW_CMPm_PER_PERIOD, i := c.bits 1 4 0, v := c.bits 5 29 0 },
          { f := R.HW_CMPm_TGT_LO_TGT, i := c.bits 1 4 0, v := (((q.judgeTarget (c.bits 1 7 5) (c.arg 2) (c.arg 3) (c.arg 4)).getLeft?).getD 0) % 2 ^ 32 },
          { f := R.HW_CMPm_TGT_HI_TGT, i := c.bits 1 4 0, v := (((q.judgeTarget (c.bits 1 7 5) (c.arg 2) (c.arg 3) (c.arg 4)).getLeft?).getD 0) / 2 ^ 32 },
          { f := R.HW_CMPm_CTRL_ARM, i := c.bits 1 4 0, v := 1 }]).cmpAim (c.bits 1 4 0) (c.bits 1 7 5))
  ∧ Fulfils .timePps cmdTimePps (fun c q => c.bits 1 3 2 ≤ 2 ∧ R.HW_PPSn_WIDTH.ok (c.arg 2) = true ∧ (sext 32 (c.arg
      3)).natAbs ≤ 100000 ∧ ((c.bits 1 3 2 ≠ 2 → q.tbOn (c.bits 1 6 4) = true)) ∧ ((c.bits 1 3 2 = 2 → q.on
      R.HW_CMPm_CTRL_PERIODIC (c.bits 1 11 7) = true → c.bits 2 18 0 < q.get R.HW_CMPm_PER_PERIOD (c.bits 1 11 7))) ∧
      q.unlocked ([{ f := R.HW_PPSn_CFG_MODE, i := c.bits 1 1 0, v := c.bits 1 3 2 },
      { f := R.HW_PPSn_CFG_TB, i := c.bits 1 1 0, v := c.bits 1 6 4 },
      { f := R.HW_PPSn_CFG_CMP_NUM, i := c.bits 1 1 0, v := c.bits 1 11 7 },
      { f := R.HW_PPSn_CFG_POL, i := c.bits 1 1 0, v := c.bits 1 12 12 },
      { f := R.HW_PPSn_CFG_PPS_FREE, i := c.bits 1 1 0, v := c.bits 1 13 13 },
      { f := R.HW_PPSn_CFG_HO_ACT, i := c.bits 1 1 0, v := c.bits 1 14 14 },
      { f := R.HW_PPSn_WIDTH_WIDTH, i := c.bits 1 1 0, v := c.bits 2 18 0 },
      { f := R.HW_PPSn_DLY_DLY, i := c.bits 1 1 0, v := c.arg 3 }]))
      (fun _ _ => [])
      (fun c q => (q.cfgWrites [{ f := R.HW_PPSn_CFG_MODE, i := c.bits 1 1 0, v := c.bits 1 3 2 },
          { f := R.HW_PPSn_CFG_TB, i := c.bits 1 1 0, v := c.bits 1 6 4 },
          { f := R.HW_PPSn_CFG_CMP_NUM, i := c.bits 1 1 0, v := c.bits 1 11 7 },
          { f := R.HW_PPSn_CFG_POL, i := c.bits 1 1 0, v := c.bits 1 12 12 },
          { f := R.HW_PPSn_CFG_PPS_FREE, i := c.bits 1 1 0, v := c.bits 1 13 13 },
          { f := R.HW_PPSn_CFG_HO_ACT, i := c.bits 1 1 0, v := c.bits 1 14 14 },
          { f := R.HW_PPSn_WIDTH_WIDTH, i := c.bits 1 1 0, v := c.bits 2 18 0 },
          { f := R.HW_PPSn_DLY_DLY, i := c.bits 1 1 0, v := c.arg 3 }]).restartOutputs q)
  ∧ Fulfils .timeSerial cmdTimeSerial (fun c q => R.HW_TOD_CFG.ok (c.arg 1) = true ∧ R.HW_IRIG_CFG.ok (c.arg 2) = true ∧
      q.tbOn (c.bits 2 6 4) = true ∧ q.unlocked (R.HW_TOD_CFG.writes (c.arg 1) ++ R.HW_IRIG_CFG.writes (c.arg 2)))
      (fun _ _ => [])
      (fun c q => (q.cfgWrites (R.HW_TOD_CFG.writes (c.arg 1) ++ R.HW_IRIG_CFG.writes (c.arg 2))).restartOutputs q)
  ∧ Fulfils .timePtpPort cmdTimePtpPort (fun c q => c.bits 1 5 0 < 48 ∧ (q.domainTb (c.bits 1 15 8)).isSome ∧ c.bits 1 18 16 ≤
      4 ∧ c.bits 1 23 22 ≤ 2 ∧ signedIn (c.bits 2 7 0) (-7) 4 = true ∧ signedIn (c.bits 2 15 8) (-7) 4 = true ∧ signedIn
      (c.bits 2 23 16) (-3) 4 = true ∧ c.bits 3 5 0 ≤ 60 ∧ ((c.bits 1 18 16 = 0 ∨ (q.ptpOf (sessKey (c.bits 1 5 0) (c.bits 1
      15 8))).isSome ∨ q.ptp.length < 256)) ∧ q.worldLocked (q.entryNonSecure (blockEntry (R.PT_TSCFGp_EN_CORR.addr + 0x40 *
      c.bits 1 5 0))) = false ∧ q.unlocked (if c.bits 1 18 16 = 4 then
      [{ f := R.PT_TSCFGp_EN_CORR, i := c.bits 1 5 0, v := 1 }] else []))
      (fun _ _ => [])
      (fun c q => (q.cfgWrites (if c.bits 1 18 16 = 4 then [{ f := R.PT_TSCFGp_EN_CORR, i := c.bits 1 5 0, v := 1 }] else
          [])).ptpSet (sessKey (c.bits 1 5 0) (c.bits 1 15 8)) (if c.bits 1 18 16 = 0 then none else some
          { role := c.bits 1 18 16, delay := c.bits 1 20 20, transport := c.bits 1 23 22, syncLog := sext 8 (c.bits 2 7 0), dreqLog := sext 8 (c.bits 2 15 8), annLog := sext 8 (c.bits 2 23 16), hold := c.bits 3 5 0 }))
  ∧ Fulfils .timeSessStatus cmdTimeSessStatus (fun c q => (q.sess? (sessKey (c.bits 1 5 0) (c.bits 1 15 8))).isSome)
      (fun c q =>
          (match q.sess? (sessKey (c.bits 1 5 0) (c.bits 1 15 8)) with | none => [] | some e => [e.role % 8 + 8 * b2n e.suspended.isSome + 16 * e.npx + 128 * b2n (!e.found), (q.partner (sessKey (c.bits 1 5 0) (c.bits 1 15 8))).getD 0 % 2 ^ 20 + 2 ^ 24 * (q.depthOf (q.sessTb (sessKey (c.bits 1 5 0) (c.bits 1 15 8))) % 256)] ++ words64 e.theta ++ words64 e.mpd ++ [wrap 32 e.asym]))
      (fun _ q => q)
  ∧ Fulfils .timeNpx cmdTimeNpx (fun c q => q.unlocked ([{ f := R.PT_NPX_CFG_NPX_ORG_ID, v := c.bits 1 23 0 },
      { f := R.PT_NPX_CFG_NPX_EN, v := c.bits 1 24 24 }, { f := R.PT_NPX_CFG_NPX_RATE_LOG, v := c.bits 2 2 0 }]))
      (fun _ _ => [])
      (fun c q => (q.cfgWrites [{ f := R.PT_NPX_CFG_NPX_ORG_ID, v := c.bits 1 23 0 },
          { f := R.PT_NPX_CFG_NPX_EN, v := c.bits 1 24 24 }, { f := R.PT_NPX_CFG_NPX_RATE_LOG, v := c.bits 2 2 0 }]).npxCfg
          (decide (q.get R.PT_NPX_CFG_NPX_ORG_ID ≠ c.bits 1 23 0)))

/-- Tier 1. The REF group (R159, R188 to R194, R196 to R198): the words of a DPLL and of a slot; a slot's configuration, which
restarts its qualification where R190 says so; a DPLL's fields; its priorities; the global fields; the OCXO fields; forced
selection, forced holdover, their release and the clearing of disputes; opening a loop, whose first software word is the
frequency at that moment; the latest phase result; a software word. -/
def Obligations.RefCommandsComplete : Prop :=
  Fulfils .refStatus cmdRefStatus (fun _ _ => True)
      (fun c q => [(q.dpllSync (c.bits 1 2 0)).word R.TR_DPLLn_STAT (c.bits 1 2 0), (q.dpllSync (c.bits 1 2 0)).word
          R.TR_DPLLn_LOCKT (c.bits 1 2 0), (q.dpllSync (c.bits 1 2 0)).word R.TR_DPLLn_QOUT (c.bits 1 2 0), satN (2 ^ 32 - 1)
          (q.tapTerm (c.bits 1 2 0))] ++ words64 (q.dpllOf (c.bits 1 2 0)).bo)
      (fun _ q => q)
  ∧ Fulfils .refSlotStatus cmdRefSlotStatus (fun _ _ => True)
      (fun c q => [q.word R.TR_SLOTs_STAT (c.bits 1 3 0), q.word R.TR_SLOTs_FOFS (c.bits 1 3 0), q.word R.TR_SLOTs_QUAL
          (c.bits 1 3 0)])
      (fun _ q => q)
  ∧ Fulfils .refSlotCfg cmdRefSlotCfg (fun c q => R.TR_SLOTs_CFG.ok (if portSlot (c.bits 1 3 0) then c.arg 2 else c.bits 2 7
      0) = true ∧ R.TR_SLOTs_LIM.ok (c.arg 3) = true ∧ c.bits 3 15 0 ≤ c.bits 3 31 16 ∧ ((c.bits 1 3 0 < 8 → R.TR_SLOTs_NOM.ok
      (c.arg 4) = true)) ∧ q.unlocked (slotWrites (c.bits 1 3 0) (c.arg 2) (c.arg 3) (c.arg 4) (c.arg 5)))
      (fun _ _ => [])
      (fun c q => (q.cfgWrites (slotWrites (c.bits 1 3 0) (c.arg 2) (c.arg 3) (c.arg 4) (c.arg 5))).slotChanged q (c.bits 1 3
          0))
  ∧ Fulfils .refDpllCfg cmdRefDpllCfg (fun c q => c.bits 1 12 8 ≤ 20 ∧ R.TR_DPLLn_SWT.ok (c.arg 2) = true ∧ R.TR_DPLLn_HO.ok
      (c.arg 3) = true ∧ q.unlocked ([({ f := R.TR_DPLLn_CFG_BW, i := c.bits 1 2 0, v := c.bits 1 12 8 } : FieldWrite),
      { f := R.TR_DPLLn_CFG_REVERT, i := c.bits 1 2 0, v := c.bits 1 16 16 }] ++ R.TR_DPLLn_SWT.writes (c.arg 2) (c.bits 1 2
      0) ++ R.TR_DPLLn_HO.writes (c.arg 3) (c.bits 1 2 0) ++ R.TR_DPLLn_HOQ.writes (c.arg 4) (c.bits 1 2 0)))
      (fun _ _ => [])
      (fun c q => q.cfgWrites ([({ f := R.TR_DPLLn_CFG_BW, i := c.bits 1 2 0, v := c.bits 1 12 8 } : FieldWrite),
          { f := R.TR_DPLLn_CFG_REVERT, i := c.bits 1 2 0, v := c.bits 1 16 16 }] ++ R.TR_DPLLn_SWT.writes (c.arg 2) (c.bits 1
          2 0) ++ R.TR_DPLLn_HO.writes (c.arg 3) (c.bits 1 2 0) ++ R.TR_DPLLn_HOQ.writes (c.arg 4) (c.bits 1 2 0)))
  ∧ Fulfils .refPrio cmdRefPrio (fun c q => q.unlocked (R.TR_DPLLn_PRIO_LO.writes (c.arg 2) (c.bits 1 2 0) ++
      R.TR_DPLLn_PRIO_HI.writes (c.arg 3) (c.bits 1 2 0)))
      (fun _ _ => [])
      (fun c q => q.cfgWrites (R.TR_DPLLn_PRIO_LO.writes (c.arg 2) (c.bits 1 2 0) ++ R.TR_DPLLn_PRIO_HI.writes (c.arg 3)
          (c.bits 1 2 0)))
  ∧ Fulfils .refGlobal cmdRefGlobal (fun c q => ((c.bits 1 30 28 = q.lineTb ∨ q.lineTbFree = true)) ∧ R.TR_GLOBAL_CFG.ok
      (c.arg 1) = true ∧ q.unlocked (R.TR_GLOBAL_CFG.writes (c.arg 1)))
      (fun _ _ => [])
      (fun c q => (q.cfgWrites (R.TR_GLOBAL_CFG.writes (c.arg 1))).lineChosen)
  ∧ Fulfils .refOcxo cmdRefOcxo (fun c q => R.TR_OCXO_CFG.ok (c.arg 1) = true ∧ R.TR_HO_MODEL0.ok (c.arg 2) = true ∧
      R.TR_HO_MODEL1.ok (c.arg 3) = true ∧ R.TR_HO_MODEL2.ok (c.arg 4) = true ∧ q.accrueAll.unlocked (R.TR_OCXO_CFG.writes
      (c.arg 1) ++ R.TR_HO_MODEL0.writes (c.arg 2) ++ R.TR_HO_MODEL1.writes (c.arg 3) ++ R.TR_HO_MODEL2.writes (c.arg 4)))
      (fun _ _ => [])
      (fun c q => (q.accrueAll.cfgWrites (R.TR_OCXO_CFG.writes (c.arg 1) ++ R.TR_HO_MODEL0.writes (c.arg 2) ++
          R.TR_HO_MODEL1.writes (c.arg 3) ++ R.TR_HO_MODEL2.writes (c.arg 4))).warmJudge)
  ∧ Fulfils .refForce cmdRefForce (fun c q => c.bits 1 6 4 = 0 ∧ q.unlocked
      ([{ f := R.TR_DPLLn_CFG_FORCE, i := c.bits 1 2 0, v := 0 },
      { f := R.TR_DPLLn_CFG_FORCE_SLOT, i := c.bits 1 2 0, v := q.get R.TR_DPLLn_CFG_FORCE_SLOT (c.bits 1 2 0) }]))
      (fun _ _ => [])
      (fun c q => (q.cfgWrites [{ f := R.TR_DPLLn_CFG_FORCE, i := c.bits 1 2 0, v := 0 },
          { f := R.TR_DPLLn_CFG_FORCE_SLOT, i := c.bits 1 2 0, v := q.get R.TR_DPLLn_CFG_FORCE_SLOT (c.bits 1 2 0) }]).setB
          R.TR_DPLLn_STAT_FORCED false (c.bits 1 2 0))
  ∧ Fulfils .refForce cmdRefForce (fun c q => c.bits 1 6 4 = 1 ∧ q.candidate (c.bits 1 2 0) (c.bits 1 11 8) = true ∧
      q.unlocked ([{ f := R.TR_DPLLn_CFG_FORCE, i := c.bits 1 2 0, v := 1 },
      { f := R.TR_DPLLn_CFG_FORCE_SLOT, i := c.bits 1 2 0, v := c.bits 1 11 8 }]))
      (fun _ _ => [])
      (fun c q => (q.cfgWrites [{ f := R.TR_DPLLn_CFG_FORCE, i := c.bits 1 2 0, v := 1 },
          { f := R.TR_DPLLn_CFG_FORCE_SLOT, i := c.bits 1 2 0, v := c.bits 1 11 8 }]).setB R.TR_DPLLn_STAT_FORCED true (c.bits
          1 2 0))
  ∧ Fulfils .refForce cmdRefForce (fun c q => c.bits 1 6 4 = 2 ∧ q.unlocked
      ([{ f := R.TR_DPLLn_CFG_FORCE, i := c.bits 1 2 0, v := 2 },
      { f := R.TR_DPLLn_CFG_FORCE_SLOT, i := c.bits 1 2 0, v := q.get R.TR_DPLLn_CFG_FORCE_SLOT (c.bits 1 2 0) }]))
      (fun _ _ => [])
      (fun c q => (q.cfgWrites [{ f := R.TR_DPLLn_CFG_FORCE, i := c.bits 1 2 0, v := 2 },
          { f := R.TR_DPLLn_CFG_FORCE_SLOT, i := c.bits 1 2 0, v := q.get R.TR_DPLLn_CFG_FORCE_SLOT (c.bits 1 2 0) }]).setB
          R.TR_DPLLn_STAT_FORCED true (c.bits 1 2 0))
  ∧ Fulfils .refForce cmdRefForce (fun c _ => c.bits 1 6 4 = 4)
      (fun _ _ => [])
      (fun c q => (q.tr.disputes.filter fun d => d.resolved && d.n == c.bits 1 2 0 && (d.a == c.bits 1 11 8 || d.b == c.bits 1
          11 8)).foldl (fun s d => s.clearDispute d) q)
  ∧ Fulfils .refSwLoop cmdRefSwLoop (fun c q => q.unlocked
      ([{ f := R.TR_DPLLn_CFG_OPEN, i := c.bits 1 2 0, v := c.bits 1 8 8 }]))
      (fun _ _ => [])
      (fun c q => if c.bit 1 8 && !q.on R.TR_DPLLn_CFG_OPEN (c.bits 1 2 0) then ((q.cfgWrites
          [{ f := R.TR_DPLLn_CFG_OPEN, i := c.bits 1 2 0, v := c.bits 1 8 8 }]).dpllUpd (c.bits 1 2 0) fun d =>
          { d with swf := d.word, lastSw := q.clk, swWritten := false }).cfgWrites
          [{ f := R.TR_DPLLn_SWF_LO_SWF, i := c.bits 1 2 0, v := wrap 64 (q.dpllOf (c.bits 1 2 0)).word % 2 ^ 32 },
          { f := R.TR_DPLLn_SWF_HI_SWF, i := c.bits 1 2 0, v := wrap 64 (q.dpllOf (c.bits 1 2 0)).word / 2 ^ 32 }] else if
          !c.bit 1 8 && q.on R.TR_DPLLn_CFG_OPEN (c.bits 1 2 0) then (q.cfgWrites
          [{ f := R.TR_DPLLn_CFG_OPEN, i := c.bits 1 2 0, v := c.bits 1 8 8 }]).resumeLoop (c.bits 1 2 0) else q.cfgWrites
          [{ f := R.TR_DPLLn_CFG_OPEN, i := c.bits 1 2 0, v := c.bits 1 8 8 }])
  ∧ Fulfils .refSwRead cmdRefSwRead (fun _ _ => True)
      (fun c q => [q.get R.TR_DPLLn_STAT_PD_SEQ (c.bits 1 2 0), q.get R.TR_DPLLn_PD_LO_PD (c.bits 1 2 0), q.get
          R.TR_DPLLn_PD_HI_PD (c.bits 1 2 0)] ++ words64 (q.dpllOf (c.bits 1 2 0)).word)
      (fun _ q => q)
  ∧ Fulfils .refSwWrite cmdRefSwWrite (fun c q => (c.int64 2).natAbs ≤ (q.clampOf (c.bits 1 2 0)).natAbs ∧ q.on
      R.TR_DPLLn_CFG_OPEN (c.bits 1 2 0) = true ∧ q.swBusy (c.bits 1 2 0) = false ∧ q.unlocked
      ([{ f := R.TR_DPLLn_SWF_LO_SWF, i := c.bits 1 2 0, v := wrap 64 (c.int64 2) % 2 ^ 32 },
      { f := R.TR_DPLLn_SWF_HI_SWF, i := c.bits 1 2 0, v := wrap 64 (c.int64 2) / 2 ^ 32 }]))
      (fun _ _ => [])
      (fun c q => (q.cfgWrites [{ f := R.TR_DPLLn_SWF_LO_SWF, i := c.bits 1 2 0, v := wrap 64 (c.int64 2) % 2 ^ 32 },
          { f := R.TR_DPLLn_SWF_HI_SWF, i := c.bits 1 2 0, v := wrap 64 (c.int64 2) / 2 ^ 32 }]).swWord (c.bits 1 2 0)
          (c.int64 2))

/-- Tier 1. The SYN group (R203, R213, R215, R216, R227 to R230): the status of an APLL and its outputs; the shadow of an APLL
(the fixed fields of APLL0 and APLL1 kept) and of an output while no commit of theirs is pending; a commit at the next
boundary or at a target of a group that keeps the rules of R208 and R209, and its cancelling; a new destination of PHOFS. -/
def Obligations.SynCommandsComplete : Prop :=
  Fulfils .synStatus cmdSynStatus (fun _ _ => True)
      (fun c q => [(q.phaseSync (c.bits 1 1 0)).word R.SY_APLLa_STAT (c.bits 1 1 0), ((q.outsOf (c.bits 1 1 0)).filter fun m
          => q.on R.SY_OUTm_STAT_DRIVING m).foldl (fun v m => v + 2 ^ m) 0 + 2 ^ 16 * ((q.groupOf (c.bits 1 1 0)).filter fun m
          => q.on R.SY_OUTm_STAT_GATED m).foldl (fun v m => v + 2 ^ m) 0])
      (fun c q => q.phaseSync (c.bits 1 1 0))
  ∧ Fulfils .synApllCfg cmdSynApllCfg (fun c q => R.SY_APLLa_CFG.ok (c.arg 2) = true ∧ mOk (c.arg 3) = true ∧
      R.SY_APLLa_LOCK.ok (c.arg 4) = true ∧ ((c.bits 1 1 0 < 2 → c.bits 3 30 24 = 100 ∧ c.bits 3 23 0 = 0 ∧ c.bits 2 20 16 = 4
      ∧ c.bits 2 10 8 = q.lineTb)) ∧ q.synPending (c.bits 1 1 0) = false ∧ (q.unlocked ((R.SY_APLLa_CFG.writes (c.arg 2)
      (c.bits 1 1 0)).filter (fun w => decide (2 ≤ c.bits 1 1 0) || w.f.lo == 11) ++ (if 2 ≤ c.bits 1 1 0 then
      R.SY_APLLa_M.writes (c.arg 3) (c.bits 1 1 0) else []) ++ R.SY_APLLa_LOCK.writes (c.arg 4) (c.bits 1 1 0))))
      (fun _ _ => [])
      (fun c q => (q.cfgWrites ((R.SY_APLLa_CFG.writes (c.arg 2) (c.bits 1 1 0)).filter (fun w => decide (2 ≤ c.bits 1 1 0) ||
          w.f.lo == 11) ++ (if 2 ≤ c.bits 1 1 0 then R.SY_APLLa_M.writes (c.arg 3) (c.bits 1 1 0) else []) ++
          R.SY_APLLa_LOCK.writes (c.arg 4) (c.bits 1 1 0))).apllEnable (c.bits 1 1 0) (q.on R.SY_APLLa_CFG_EN (c.bits 1 1 0)))
  ∧ Fulfils .synOutCfg cmdSynOutCfg (fun c q => R.SY_OUTm_CFG.ok (c.arg 2) = true ∧ R.SY_OUTm_DIV.ok (c.arg 3) = true ∧
      R.SY_OUTm_DLY.ok (c.arg 4) = true ∧ q.synPending (q.get R.SY_OUTm_CFG_APLL (c.bits 1 3 0)) = false ∧ q.synPending
      (c.bits 2 2 1) = false ∧ q.unlocked (R.SY_OUTm_CFG.writes (c.arg 2) (c.bits 1 3 0) ++ R.SY_OUTm_DIV.writes (c.arg 3)
      (c.bits 1 3 0) ++ R.SY_OUTm_DLY.writes (c.arg 4) (c.bits 1 3 0)))
      (fun _ _ => [])
      (fun c q => q.cfgWrites (R.SY_OUTm_CFG.writes (c.arg 2) (c.bits 1 3 0) ++ R.SY_OUTm_DIV.writes (c.arg 3) (c.bits 1 3 0)
          ++ R.SY_OUTm_DLY.writes (c.arg 4) (c.bits 1 3 0)))
  ∧ Fulfils .synCommit cmdSynCommit (fun c q => c.bits 1 5 4 = 0 ∧ q.groupOk (c.bits 1 1 0) = true ∧ q.synPending (c.bits 1 1
      0) = false ∧ q.unlocked ([({ f := R.SY_APLLa_COMMIT_MODE, i := c.bits 1 1 0, v := 0 } : FieldWrite)]))
      (fun _ _ => [])
      (fun c q => (q.cfgWrites [({ f := R.SY_APLLa_COMMIT_MODE, i := c.bits 1 1 0, v := 0 } : FieldWrite)]).synPend (c.bits 1
          1 0) (q.nextGran (c.bits 1 1 0)))
  ∧ Fulfils .synCommit cmdSynCommit (fun c q => c.bits 1 5 4 = 1 ∧ 4 ≤ c.args.length ∧ (q.judgeTarget (q.apllFollow (c.bits 1
      1 0)) (c.arg 2) (c.arg 3) (c.arg 4)).isLeft = true ∧ q.groupOk (c.bits 1 1 0) = true ∧ q.synPending (c.bits 1 1 0) =
      false ∧ q.unlocked ([({ f := R.SY_APLLa_COMMIT_MODE, i := c.bits 1 1 0, v := 1 } : FieldWrite),
      { f := R.SY_APLLa_CTGT_LO_TGT, i := c.bits 1 1 0, v := (((q.judgeTarget (q.apllFollow (c.bits 1 1 0)) (c.arg 2) (c.arg 3) (c.arg 4)).getLeft?).getD 0) % 2 ^ 32 },
      { f := R.SY_APLLa_CTGT_HI_TGT, i := c.bits 1 1 0, v := (((q.judgeTarget (q.apllFollow (c.bits 1 1 0)) (c.arg 2) (c.arg 3) (c.arg 4)).getLeft?).getD 0) / 2 ^ 32 }]))
      (fun _ _ => [])
      (fun c q => (q.cfgWrites [({ f := R.SY_APLLa_COMMIT_MODE, i := c.bits 1 1 0, v := 1 } : FieldWrite),
          { f := R.SY_APLLa_CTGT_LO_TGT, i := c.bits 1 1 0, v := (((q.judgeTarget (q.apllFollow (c.bits 1 1 0)) (c.arg 2) (c.arg 3) (c.arg 4)).getLeft?).getD 0) % 2 ^ 32 },
          { f := R.SY_APLLa_CTGT_HI_TGT, i := c.bits 1 1 0, v := (((q.judgeTarget (q.apllFollow (c.bits 1 1 0)) (c.arg 2) (c.arg 3) (c.arg 4)).getLeft?).getD 0) / 2 ^ 32 }]).synPend
          (c.bits 1 1 0) (((q.judgeTarget (q.apllFollow (c.bits 1 1 0)) (c.arg 2) (c.arg 3) (c.arg 4)).getLeft?).getD 0))
  ∧ Fulfils .synCommit cmdSynCommit (fun c q => c.bits 1 5 4 = 2 ∧ q.synLate (c.bits 1 1 0) = false ∧ q.unlocked
      ([({ f := R.SY_APLLa_COMMIT_MODE, i := c.bits 1 1 0, v := 2 } : FieldWrite)]))
      (fun _ _ => [])
      (fun c q => (q.cfgWrites [({ f := R.SY_APLLa_COMMIT_MODE, i := c.bits 1 1 0, v := 2 } : FieldWrite)]).synCancel (c.bits
          1 1 0))
  ∧ Fulfils .synPhase cmdSynPhase (fun c q => R.SY_APLLa_PHOFS.ok (c.arg 2) = true ∧ q.unlocked (R.SY_APLLa_PHOFS.writes
      (c.arg 2) (c.bits 1 1 0)))
      (fun _ _ => [])
      (fun c q => q.phaseTo (c.bits 1 1 0) (R.SY_APLLa_PHOFS.writes (c.arg 2) (c.bits 1 1 0)))

/-- Tier 1. The GNSS group (R234, R246, R249, R255, R259): the status of an antenna; an input with its notches and the receiver;
the timing fields, a position applying in FIXED alone; the trust checks; up to 7 entries popped from a FIFO whose semaphore
no other agent holds; sleep and wake; one front-end transaction. What the front end drives on MISO is open (assumption log):
the two response words are free values. The EVT group (R266, R268, R272, R276, R277, R279): the status of the timer and of
an input; the timer's fields, the reference changing only while no input is enabled; an input's fields within their ranges,
an enabled input changing only EN; up to 15 results popped from the FIFO whose semaphore no other agent holds. -/
def Obligations.GnssAndEvtCommandsComplete : Prop :=
  Fulfils .gnssStatus cmdGnssStatus (fun _ _ => True)
      (fun c q => [(q.solSync (c.bits 1 0 0)).word R.GN_SOLx_STAT (c.bits 1 0 0), (q.solSync (c.bits 1 0 0)).get
          R.GN_SOLx_OFS_LO_OFS (c.bits 1 0 0), (q.solSync (c.bits 1 0 0)).get R.GN_SOLx_OFS_HI_OFS (c.bits 1 0 0), (q.solSync
          (c.bits 1 0 0)).word R.GN_INx_STAT (c.bits 1 0 0), q.gn.utc.getD 0 0 % 2 ^ 16, q.gn.utc.getD 1 0 % 2 ^ 16 +
          q.gn.utc.getD 2 0 % 2 ^ 8 * 2 ^ 16 + q.gn.utc.getD 3 0 % 2 ^ 8 * 2 ^ 24])
      (fun c q => q.solSync (c.bits 1 0 0))
  ∧ Fulfils .gnssInputCfg cmdGnssInputCfg (fun c q => R.GN_INx_CFG.ok (c.arg 2) = true ∧ (((List.range 4).all fun k =>
      R.GN_NOTCHx_k.ok (c.arg (3 + k))) = true) ∧ R.GN_CFG.ok (c.arg 7) = true ∧ q.tbOn (c.bits 7 15 13) = true ∧ (q.unlocked
      (R.GN_INx_CFG.writes (c.arg 2) (c.bits 1 0 0) ++
      [{ f := R.GN_INx_CFG_SIGEN, i := (c.bits 1 0 0), v := sigenOk (c.bits 1 0 0) (c.arg 2) (c.arg 7) }] ++
      [{ f := R.GN_INx_CFG_SIGEN, i := 1 - (c.bits 1 0 0), v := sigenOk (1 - (c.bits 1 0 0)) (q.word R.GN_INx_CFG (1 - (c.bits 1 0 0))) (c.arg 7) }]
      ++ (List.range 4).flatMap (fun k => notchWrites (c.bits 1 0 0) k (c.arg (3 + k))) ++ R.GN_CFG.writes (c.arg 7))))
      (fun _ _ => [])
      (fun c q => (((q.cfgWrites (R.GN_INx_CFG.writes (c.arg 2) (c.bits 1 0 0) ++
          [{ f := R.GN_INx_CFG_SIGEN, i := (c.bits 1 0 0), v := sigenOk (c.bits 1 0 0) (c.arg 2) (c.arg 7) }] ++
          [{ f := R.GN_INx_CFG_SIGEN, i := 1 - (c.bits 1 0 0), v := sigenOk (1 - (c.bits 1 0 0)) (q.word R.GN_INx_CFG (1 - (c.bits 1 0 0))) (c.arg 7) }]
          ++ (List.range 4).flatMap (fun k => notchWrites (c.bits 1 0 0) k (c.arg (3 + k))) ++ R.GN_CFG.writes (c.arg
          7))).gnRetime q).gnInputChanged 0).gnInputChanged 1)
  ∧ Fulfils .gnssTimingCfg cmdGnssTimingCfg (fun c q => R.GN_TIM_CFG.ok (c.arg 1) = true ∧ R.GN_ANT_DLYx.ok (c.arg 2) = true ∧
      R.GN_ANT_DLYx.ok (c.arg 3) = true ∧ q.unlocked (R.GN_TIM_CFG.writes (c.arg 1) ++ R.GN_ANT_DLYx.writes (c.arg 2) 0 ++
      R.GN_ANT_DLYx.writes (c.arg 3) 1 ++ (if c.bits 1 31 30 = 1 then [{ f := R.GN_POSx_X_X, i := 0, v := c.arg 4 },
      { f := R.GN_POSx_Y_Y, i := 0, v := c.arg 5 }, { f := R.GN_POSx_Z_Z, i := 0, v := c.arg 6 },
      { f := R.GN_POSx_X_X, i := 1, v := c.arg 7 }, { f := R.GN_POSx_Y_Y, i := 1, v := c.arg 8 },
      { f := R.GN_POSx_Z_Z, i := 1, v := c.arg 9 }] else [])))
      (fun _ _ => [])
      (fun c q => (((((q.cfgWrites (R.GN_TIM_CFG.writes (c.arg 1) ++ R.GN_ANT_DLYx.writes (c.arg 2) 0 ++ R.GN_ANT_DLYx.writes
          (c.arg 3) 1 ++ (if c.bits 1 31 30 = 1 then [{ f := R.GN_POSx_X_X, i := 0, v := c.arg 4 },
          { f := R.GN_POSx_Y_Y, i := 0, v := c.arg 5 }, { f := R.GN_POSx_Z_Z, i := 0, v := c.arg 6 },
          { f := R.GN_POSx_X_X, i := 1, v := c.arg 7 }, { f := R.GN_POSx_Y_Y, i := 1, v := c.arg 8 },
          { f := R.GN_POSx_Z_Z, i := 1, v := c.arg 9 }] else []))).antShift q 0).antShift q 1).posChanged q).gnInputChanged
          0).gnInputChanged 1)
  ∧ Fulfils .gnssTrustCfg cmdGnssTrustCfg (fun c q => R.GN_TRUST_CFG0.ok (c.arg 1) = true ∧ R.GN_TRUST_CFG1.ok (c.arg 2) =
      true ∧ q.unlocked (R.GN_TRUST_CFG0.writes (c.arg 1) ++ R.GN_TRUST_CFG1.writes (c.arg 2)))
      (fun _ _ => [])
      (fun c q => q.cfgWrites (R.GN_TRUST_CFG0.writes (c.arg 1) ++ R.GN_TRUST_CFG1.writes (c.arg 2)))
  ∧ Fulfils .gnssRead cmdGnssRead (fun c q => 1 ≤ c.bits 1 10 8 ∧ q.semTaken (if c.bit 1 0 then 35 else 34) (c.agent q 31) =
      false ∧ (q.gnPopN (c.bit 1 0) (c.bits 1 10 8)).1.length ≤ 62)
      (fun c q => (q.gnPopN (c.bit 1 0) (c.bits 1 10 8)).1.length / 8 :: (q.gnPopN (c.bit 1 0) (c.bits 1 10 8)).1)
      (fun c q => (q.gnPopN (c.bit 1 0) (c.bits 1 10 8)).2)
  ∧ Fulfils .gnssSleep cmdGnssSleep (fun c q => q.gnAsleep = c.bit 1 0 ∧ q.worldLocked (q.entryNonSecure 31) = false)
      (fun _ _ => [])
      (fun c q => if c.bit 1 0 then q.wakeGnss else q.sleepGnss)
  ∧ Fulfils .gnssFeSpi cmdGnssFeSpi (fun c q => 1 ≤ c.bits 1 11 8 ∧ c.bits 1 11 8 ≤ 8 ∧ q.gnRuns (c.bits 1 0 0) = true)
      (fun c q => [(q.draw (8 * c.bits 1 11 8)).1 % 2 ^ 32, (q.draw (8 * c.bits 1 11 8)).1 / 2 ^ 32])
      (fun c q => (q.draw (8 * c.bits 1 11 8)).2.emit (.spi (c.bits 1 0 0) (leBytes (c.bits 1 11 8) (c.arg 2 + 2 ^ 32 * c.arg
          3))))
  ∧ Fulfils .evtStatus cmdEvtStatus (fun _ _ => True)
      (fun c q => [q.word R.ET_STAT, q.word R.ET_INi_STAT (c.bits 1 3 0), q.word R.ET_INi_CFG (c.bits 1 3 0)])
      (fun _ q => q)
  ∧ Fulfils .evtCfg cmdEvtCfg (fun c q => R.ET_CFG.ok (c.arg 1) = true ∧ q.tbOn (c.bits 1 2 0) = true ∧ (((c.bits 1 3 3 ==
      q.get R.ET_CFG_REF && c.bits 1 2 0 == q.get R.ET_CFG_TB) = true ∨ q.etAnyEn = false)) ∧ q.unlocked (R.ET_CFG.writes
      (c.arg 1)))
      (fun _ _ => [])
      (fun c q => if (c.bits 1 3 3 == q.get R.ET_CFG_REF && c.bits 1 2 0 == q.get R.ET_CFG_TB) then q.cfgWrites
          (R.ET_CFG.writes (c.arg 1)) else
          ({ q.cfgWrites (R.ET_CFG.writes (c.arg 1)) with et := { (q.cfgWrites (R.ET_CFG.writes (c.arg 1))).et with run := false } }).etRef)
  ∧ Fulfils .evtInputCfg cmdEvtInputCfg (fun c q => R.ET_INi_CFG.ok (c.arg 2) = true ∧ 1000 ≤ c.arg 3 % 2 ^ 32 + 2 ^ 32 *
      c.arg 4 ∧ c.arg 3 % 2 ^ 32 + 2 ^ 32 * c.arg 4 ≤ 2 ^ 40 ∧ R.ET_INi_PWIN.ok (c.arg 5) = true ∧ R.ET_INi_GATE.ok (c.arg 6)
      = true ∧ R.ET_INi_DLY.ok (c.arg 7) = true ∧ q.intervalOk (c.bits 1 3 0) (c.arg 2) = true ∧ ((q.on R.ET_INi_CFG_EN
      (c.bits 1 3 0) = true → ∀ w ∈ etInputWrites (c.bits 1 3 0) (c.arg 2) (c.arg 3) (c.arg 4) (c.arg 5) (c.arg 6) (c.arg 7),
      (w.f.addr = R.ET_INi_CFG_EN.addr ∧ w.f.lo = 0) ∨ q.get w.f w.i w.j = w.v % 2 ^ w.f.width)) ∧ q.unlocked (etInputWrites
      (c.bits 1 3 0) (c.arg 2) (c.arg 3) (c.arg 4) (c.arg 5) (c.arg 6) (c.arg 7)))
      (fun _ _ => [])
      (fun c q => (q.cfgWrites (etInputWrites (c.bits 1 3 0) (c.arg 2) (c.arg 3) (c.arg 4) (c.arg 5) (c.arg 6) (c.arg
          7))).etEnable (c.bits 1 3 0) (q.on R.ET_INi_CFG_EN (c.bits 1 3 0)))
  ∧ Fulfils .evtRead cmdEvtRead (fun c q => 1 ≤ c.bits 1 4 0 ∧ c.bits 1 4 0 ≤ 15 ∧ q.semTaken 33 (c.agent q 32) = false)
      (fun c q => (q.etPopN (c.bits 1 4 0)).1.length / 4 :: (q.etPopN (c.bits 1 4 0)).1)
      (fun c q => (q.etPopN (c.bits 1 4 0)).2)

/-- Tier 1. The LANE group (R284, R294 to R296, R298 to R303, R307). LANE.STATUS answers a lane's words; LANE.CFG,
LANE.GROVE_CFG, LANE.TEST and LANE.INJECT write their fields where their rules allow it, a test starting with its checker
cleared and ending with its words; LANE.RESTART ends injection and returns the port's lanes to DETECT, and discards the
caches where asked (what a running checker reports is open and stands in the answer as free values); LANE.SPARE starts a
substitution or a release and is answered when the exchange ends. -/
def Obligations.LaneCommandsComplete : Prop :=
  Fulfils .laneStatus cmdLaneStatus (fun c _ => c.bits 1 5 0 < 60)
      (fun c q => [(q.cacheSync (c.bits 1 5 0)).word R.LN_Ll_STAT (c.bits 1 5 0), (q.cacheSync (c.bits 1 5 0)).word R.LN_Ll_RM
          (c.bits 1 5 0), (q.cacheSync (c.bits 1 5 0)).word R.LN_Ll_RETRY (c.bits 1 5 0), (q.cacheSync (c.bits 1 5 0)).grvStat
          (c.bits 1 5 0 / 5)])
      (fun c q => q.cacheSync (c.bits 1 5 0))
  ∧ Fulfils .laneCfg cmdLaneCfg (fun c q => c.bits 1 5 0 < 60 ∧ R.LN_Ll_CFG.ok (c.arg 2) = true ∧ R.LN_Ll_TXEQ.ok (c.arg 3) =
      true ∧ tapsOk (c.arg 3) = true ∧ q.unlocked (R.LN_Ll_CFG.writes (c.arg 2) (c.bits 1 5 0) ++ R.LN_Ll_TXEQ.writes (c.arg
      3) (c.bits 1 5 0)))
      (fun _ _ => [])
      (fun c q => q.cfgWrites (R.LN_Ll_CFG.writes (c.arg 2) (c.bits 1 5 0) ++ R.LN_Ll_TXEQ.writes (c.arg 3) (c.bits 1 5 0)))
  ∧ Fulfils .laneRestart cmdLaneRestart (fun c q => c.bits 1 5 0 < 60 ∧ q.laneAsleep (c.bits 1 5 0) = false ∧ q.subBusy
      (c.bits 1 5 0 / 5) = false ∧ q.worldLocked (q.entryNonSecure 12) = false)
      (fun _ _ => [])
      (fun c q => if c.bit 1 8 then (q.group (c.bits 1 5 0)).foldl (fun s k => s.dropCache k) (((q.group (c.bits 1 5 0)).foldl
          (fun s k => s.endInject k) q).groupDetect (c.bits 1 5 0)) else ((q.group (c.bits 1 5 0)).foldl (fun s k =>
          s.endInject k) q).groupDetect (c.bits 1 5 0))
  ∧ Awaits .laneSpare cmdLaneSpare (fun c q => c.bits 1 5 0 < 48 ∧ c.bit 1 12 = false ∧ q.on R.LN_GRVg_CFG_SPARE_WIRED (c.bits
      1 5 0 / 4) = true ∧ q.partnerSpare (c.bits 1 5 0) = true ∧ modeFwdClk (q.portMode (c.bits 1 5 0)) = false ∧ q.on
      R.PT_CFGp_EN (c.bits 1 5 0) = true ∧ q.lanesActive (c.bits 1 5 0) = true ∧ c.bits 1 9 8 < modeLanes (q.portMode (c.bits
      1 5 0)) ∧ q.subState (c.bits 1 5 0 / 4) = 0 ∧ q.laneState (spareOf (c.bits 1 5 0 / 4)) ≠ 6 ∧ q.worldLocked
      (q.entryNonSecure 12) = false)
      (fun c q => (q.startSub (c.bits 1 5 0 / 4)
          { port := c.bits 1 5 0, pos := c.bits 1 9 8, since := q.clk, mb := c.mb, waits := true }).sendCapex (c.bits 1 5 0) 2
          (c.bits 1 9 8))
  ∧ Awaits .laneSpare cmdLaneSpare (fun c q => c.bits 1 5 0 < 48 ∧ c.bit 1 12 = true ∧ (q.subst? (c.bits 1 5 0 / 4)).isSome ∧
      q.subBusy (c.bits 1 5 0 / 4) = false ∧ (((q.subst? (c.bits 1 5 0 / 4)).map fun b => (b.port, b.pos)) = some (c.bits 1 5
      0, c.bits 1 9 8)) ∧ q.worldLocked (q.entryNonSecure 12) = false)
      (fun c q =>
          { q.startRelease (c.bits 1 5 0 / 4) with subst := Tab.upd {} (q.startRelease (c.bits 1 5 0 / 4)).subst (c.bits 1 5 0 / 4) fun b => { b with mb := c.mb, waits := true, remote := false } }.sendCapex
          (c.bits 1 5 0) 6 (c.bits 1 9 8))
  ∧ Fulfils .laneTest cmdLaneTest (fun c q => c.bits 1 5 0 < 60 ∧ (q.mayTest (c.bits 1 5 0) = true) ∧ ((isSpare (c.bits 1 5 0)
      = true → q.subState (c.bits 1 5 0 / 5) = 0)) ∧ q.laneAsleep (c.bits 1 5 0) = false ∧ R.LN_Ll_TEST.ok (c.arg 2) = true ∧
      q.patOk (c.bits 1 5 0) (bits (c.arg 2) 31 28) = true ∧ q.patOk (c.bits 1 5 0) (bits (c.arg 2) 27 24) = true ∧ bits
      (c.arg 2) 27 24 ≠ 10 ∧ c.bit 1 8 = false ∧ (q.checkSync (c.bits 1 5 0)).unlocked (R.LN_Ll_TEST.writes (c.arg 2) (c.bits
      1 5 0) ++ R.LN_Ll_USER_LO.writes (c.arg 3) (c.bits 1 5 0) ++ R.LN_Ll_USER_HI.writes (c.arg 4) (c.bits 1 5 0)))
      (fun c q => [(q.checkSync (c.bits 1 5 0)).word R.LN_Ll_CHK_STAT (c.bits 1 5 0), (q.checkSync (c.bits 1 5 0)).word
          R.LN_Ll_CHK_ERR_LO (c.bits 1 5 0), (q.checkSync (c.bits 1 5 0)).word R.LN_Ll_CHK_ERR_HI (c.bits 1 5 0), (q.checkSync
          (c.bits 1 5 0)).word R.LN_Ll_CHK_BITS_LO (c.bits 1 5 0), (q.checkSync (c.bits 1 5 0)).word R.LN_Ll_CHK_BITS_HI
          (c.bits 1 5 0)])
      (fun c q => (((q.checkSync (c.bits 1 5 0)).cfgWrites (R.LN_Ll_TEST.writes (c.arg 2) (c.bits 1 5 0) ++
          R.LN_Ll_USER_LO.writes (c.arg 3) (c.bits 1 5 0) ++ R.LN_Ll_USER_HI.writes (c.arg 4) (c.bits 1 5 0))).laneTest
          (c.bits 1 5 0)).checkClear (c.bits 1 5 0))
  ∧ Fulfils .laneTest cmdLaneTest (fun c q => c.bits 1 5 0 < 60 ∧ (q.mayTest (c.bits 1 5 0) = true) ∧ ((isSpare (c.bits 1 5 0)
      = true → q.subState (c.bits 1 5 0 / 5) = 0)) ∧ q.laneAsleep (c.bits 1 5 0) = false ∧ R.LN_Ll_TEST.ok (c.arg 2) = true ∧
      q.patOk (c.bits 1 5 0) (bits (c.arg 2) 31 28) = true ∧ q.patOk (c.bits 1 5 0) (bits (c.arg 2) 27 24) = true ∧ bits
      (c.arg 2) 27 24 ≠ 10 ∧ c.bit 1 8 = true ∧ True)
      (fun c q => [(q.checkSync (c.bits 1 5 0)).word R.LN_Ll_CHK_STAT (c.bits 1 5 0), (q.checkSync (c.bits 1 5 0)).word
          R.LN_Ll_CHK_ERR_LO (c.bits 1 5 0), (q.checkSync (c.bits 1 5 0)).word R.LN_Ll_CHK_ERR_HI (c.bits 1 5 0), (q.checkSync
          (c.bits 1 5 0)).word R.LN_Ll_CHK_BITS_LO (c.bits 1 5 0), (q.checkSync (c.bits 1 5 0)).word R.LN_Ll_CHK_BITS_HI
          (c.bits 1 5 0)])
      (fun c q => (q.checkSync (c.bits 1 5 0)).endTest (c.bits 1 5 0))
  ∧ Fulfils .laneInject cmdLaneInject (fun c q => c.bits 1 5 0 < 60 ∧ q.mayInject (c.bits 1 5 0) = true ∧ R.LN_Ll_INJ.ok
      (c.arg 2) = true ∧ q.unlocked (R.LN_Ll_INJ.writes (c.arg 2) (c.bits 1 5 0)))
      (fun _ _ => [])
      (fun c q => if bitOf (c.arg 2) 31 then ((q.cfgWrites (R.LN_Ll_INJ.writes (c.arg 2) (c.bits 1 5 0))).emit (.symbolError
          (c.bits 1 5 0))).forcedIdle (c.bits 1 5 0) (q.get R.LN_Ll_INJ_INJ_MODE (c.bits 1 5 0)) else (q.cfgWrites
          (R.LN_Ll_INJ.writes (c.arg 2) (c.bits 1 5 0))).forcedIdle (c.bits 1 5 0) (q.get R.LN_Ll_INJ_INJ_MODE (c.bits 1 5
          0)))
  ∧ Fulfils .laneGroveCfg cmdLaneGroveCfg (fun c q => c.bits 1 3 0 < 12 ∧ R.LN_GRVg_CFG.ok (c.arg 2) = true ∧
      R.LN_GLOBAL_CFG.ok (c.arg 3) = true ∧ ((q.get R.LN_GRVg_CFG_SPARE_WIRED (c.bits 1 3 0) = bits (c.arg 2) 0 0 ∨ q.subState
      (c.bits 1 3 0) = 0)) ∧ q.unlocked (R.LN_GRVg_CFG.writes (c.arg 2) (c.bits 1 3 0) ++ R.LN_GLOBAL_CFG.writes (c.arg 3)))
      (fun _ _ => [])
      (fun c q => ((List.range 60).foldl (fun s l => s.cacheSync l) (q.cfgWrites (R.LN_GRVg_CFG.writes (c.arg 2) (c.bits 1 3
          0) ++ R.LN_GLOBAL_CFG.writes (c.arg 3)))).capexOff)

/-- Tier 1. The PORT group (R308, R309, R314, R322, R324, R331, R561). PORT.STATUS answers with the hold time that remains;
PORT.CFG writes a mode whose lanes fit, not while the port sleeps or its grove's substitution is under way; PORT.DOWN_CFG,
PORT.FC, PORT.MODULE and PORT.POLICE write their fields. -/
def Obligations.PortCommandsComplete : Prop :=
  Fulfils .portStatus cmdPortStatus (fun c _ => c.bits 1 5 0 < 48)
      (fun c q => [(q.holdSync (c.bits 1 5 0)).word R.PT_STATp (c.bits 1 5 0), (q.holdSync (c.bits 1 5 0)).word R.PT_CFGp
          (c.bits 1 5 0), (q.holdSync (c.bits 1 5 0)).word R.PT_MODg (c.bits 1 5 0 / 4)])
      (fun c q => q.holdSync (c.bits 1 5 0))
  ∧ Fulfils .portCfg cmdPortCfg (fun c q => c.bits 1 5 0 < 48 ∧ R.PT_CFGp.ok (c.arg 2) = true ∧ ((bitOf (c.arg 2) 0 = true →
      bits (c.arg 2) 7 4 ≠ 0)) ∧ ((bitOf (c.arg 2) 0 = true → q.portPower (c.bits 1 5 0) < 2)) ∧ ((bits (c.arg 2) 7 4 =
      q.portMode (c.bits 1 5 0) ∨ q.subState (c.bits 1 5 0 / 4) = 0)) ∧ modeFits (c.bits 1 5 0) (bits (c.arg 2) 7 4) = true ∧
      ((bitOf (c.arg 2) 0 = true → q.lanesFit (c.bits 1 5 0) (bits (c.arg 2) 7 4) = true)) ∧ q.reserveMore (c.bits 1 5 0)
      (leastCells (bits (c.arg 2) 31 18)) ≤ q.get R.CL_POOL_STAT_SHARED_FREE ∧ q.unlocked (R.PT_CFGp.writes (c.arg 2) (c.bits
      1 5 0)))
      (fun _ _ => [])
      (fun c q => q.portCfgWrite (c.bits 1 5 0) (R.PT_CFGp.writes (c.arg 2) (c.bits 1 5 0)))
  ∧ Fulfils .portDownCfg cmdPortDownCfg (fun c q => c.bits 1 5 0 < 48 ∧ R.PT_HOLDp.ok (c.arg 2) = true ∧ R.PT_DEGp.ok (c.arg
      3) = true ∧ R.PT_DEG2p.ok (c.arg 4) = true ∧ q.unlocked (R.PT_HOLDp.writes (c.arg 2) (c.bits 1 5 0) ++ R.PT_DEGp.writes
      (c.arg 3) (c.bits 1 5 0) ++ R.PT_DEG2p.writes (c.arg 4) (c.bits 1 5 0)))
      (fun _ _ => [])
      (fun c q => q.cfgWrites (R.PT_HOLDp.writes (c.arg 2) (c.bits 1 5 0) ++ R.PT_DEGp.writes (c.arg 3) (c.bits 1 5 0) ++
          R.PT_DEG2p.writes (c.arg 4) (c.bits 1 5 0)))
  ∧ Fulfils .portFc cmdPortFc (fun c q => c.bits 1 5 0 < 48 ∧ R.PT_FCp.ok (c.arg 2) = true ∧ bits (c.arg 2) 7 0 < bits (c.arg
      2) 15 8 ∧ q.unlocked (R.PT_FCp.writes (c.arg 2) (c.bits 1 5 0)))
      (fun _ _ => [])
      (fun c q => (q.cfgWrites (R.PT_FCp.writes (c.arg 2) (c.bits 1 5 0))).fcChanged (c.bits 1 5 0))
  ∧ Fulfils .portModule cmdPortModule (fun c q => c.bits 1 3 0 < 12 ∧ q.unlocked
      ([{ f := R.PT_MODg_RST, i := c.bits 1 3 0, v := c.bits 1 8 8 },
      { f := R.PT_MODg_LPMODE, i := c.bits 1 3 0, v := c.bits 1 9 9 }]))
      (fun c q => [(q.cfgWrites [{ f := R.PT_MODg_RST, i := c.bits 1 3 0, v := c.bits 1 8 8 },
          { f := R.PT_MODg_LPMODE, i := c.bits 1 3 0, v := c.bits 1 9 9 }]).word R.PT_MODg (c.bits 1 3 0)])
      (fun c q => q.cfgWrites [{ f := R.PT_MODg_RST, i := c.bits 1 3 0, v := c.bits 1 8 8 },
          { f := R.PT_MODg_LPMODE, i := c.bits 1 3 0, v := c.bits 1 9 9 }])
  ∧ Fulfils .portPolice cmdPortPolice (fun c q => ((q.mode = 1 → c.image = true)) ∧ R.PT_POLICE_CFG.ok (c.arg 1) = true ∧
      q.unlocked (R.PT_POLICE_CFG.writes (c.arg 1)))
      (fun _ _ => [])
      (fun c q => q.cfgWrites (R.PT_POLICE_CFG.writes (c.arg 1)))

/-- Tier 1. The FWD group (R346, R347, R356, R369). FWD.STATUS answers its words; FWD.WRITE does the planned operation on the
shadow of a table and answers its index; FWD.READ answers an entry of either image by index, or by key with zeros where no
entry has it; FWD.COMMIT is accepted while none is under way and answered at activation; FWD.DISCARD makes the shadow equal
to the active image; FWD.BUF_CFG and FWD.EPOCH_CFG write their fields. -/
def Obligations.FwdCommandsComplete : Prop :=
  Fulfils .fwdStatus cmdFwdStatus (fun _ _ => True)
      (fun _ q => [q.word R.FD_EPOCH_STAT, q.oldCount, q.word R.CL_POOL_STAT, q.word R.CL_ECC_STAT])
      (fun _ q => q)
  ∧ Fulfils .fwdWrite cmdFwdWrite (fun c q => c.bits 1 3 0 < 7 ∧ (if c.bits 1 5 4 = 3 then 0 else if c.bits 1 5 4 = 2 then (if
      c.bits 1 3 0 = 0 then 2 else 11) else tblWords (c.bits 1 3 0)) + 2 ≤ c.args.length ∧ (q.plan (c.bits 1 3 0) (c.bits 1 5
      4) (c.bits 2 17 0) (c.args.drop 2)).status = .ok ∧ q.worldLocked (q.entryNonSecure 13) = false)
      (fun c q => [(q.plan (c.bits 1 3 0) (c.bits 1 5 4) (c.bits 2 17 0) (c.args.drop 2)).i])
      (fun c q => q.doPlan (c.bits 1 3 0) (q.plan (c.bits 1 3 0) (c.bits 1 5 4) (c.bits 2 17 0) (c.args.drop 2)))
  ∧ Fulfils .fwdRead cmdFwdRead (fun c _ => c.bit 1 5 = false ∧ c.bits 1 3 0 < 7 ∧ 2 ≤ c.args.length ∧ c.bits 2 17 0 < tblSize
      (c.bits 1 3 0))
      (fun c q => ((2 ^ 31 + c.bits 2 17 0) :: (List.range 18).map fun k => (q.tblGet (if c.bit 1 4 then q.epoch else 1 -
          q.epoch) (c.bits 1 3 0) (c.bits 2 17 0)).getD k 0))
      (fun _ q => q)
  ∧ Fulfils .fwdRead cmdFwdRead (fun c q => c.bit 1 5 = true ∧ tblHashed (c.bits 1 3 0) = true ∧ 3 ≤ c.args.length ∧
      (q.readByKey (if c.bit 1 4 then q.epoch else 1 - q.epoch) (c.bits 1 3 0) (c.args.drop 2)).isSome)
      (fun c q => ((2 ^ 31 + ((q.readByKey (if c.bit 1 4 then q.epoch else 1 - q.epoch) (c.bits 1 3 0) (c.args.drop 2)).getD
          0)) :: (List.range 18).map fun k => (q.tblGet (if c.bit 1 4 then q.epoch else 1 - q.epoch) (c.bits 1 3 0)
          (((q.readByKey (if c.bit 1 4 then q.epoch else 1 - q.epoch) (c.bits 1 3 0) (c.args.drop 2)).getD 0))).getD k 0))
      (fun _ q => q)
  ∧ Fulfils .fwdRead cmdFwdRead (fun c q => c.bit 1 5 = true ∧ tblHashed (c.bits 1 3 0) = true ∧ 3 ≤ c.args.length ∧
      q.readByKey (if c.bit 1 4 then q.epoch else 1 - q.epoch) (c.bits 1 3 0) (c.args.drop 2) = none)
      (fun _ _ => List.replicate 19 0)
      (fun _ q => q)
  ∧ Awaits .fwdCommit cmdFwdCommit (fun _ q => q.fwdBusy = false ∧ q.worldLocked (q.entryNonSecure 13) = false)
      (fun c q => q.fwdAccept c.mb true)
  ∧ Fulfils .fwdDiscard cmdFwdDiscard (fun _ q => q.fwdBusy = false)
      (fun _ _ => [])
      (fun _ q => q.discard)
  ∧ Fulfils .fwdBufCfg cmdFwdBufCfg (fun c q => c.bits 1 5 0 < 48 ∧ R.CL_PORTp_SHARE.ok (c.arg 2) = true ∧ (((rsvList (c.arg
      3) ++ rsvList (c.arg 4)).all fun v => decide (q.leastRsv (c.bits 1 5 0) ≤ v)) = true) ∧ (q.poolAfter (c.bits 1 5 0)
      (c.arg 3) (c.arg 4)).isSome ∧ q.unlocked (R.CL_PORTp_SHARE.writes (c.arg 2) (c.bits 1 5 0) ++ R.CL_RSVp_LO.writes (c.arg
      3) (c.bits 1 5 0) ++ R.CL_RSVp_HI.writes (c.arg 4) (c.bits 1 5 0)))
      (fun _ _ => [])
      (fun c q => (q.cfgWrites (R.CL_PORTp_SHARE.writes (c.arg 2) (c.bits 1 5 0) ++ R.CL_RSVp_LO.writes (c.arg 3) (c.bits 1 5
          0) ++ R.CL_RSVp_HI.writes (c.arg 4) (c.bits 1 5 0))).set R.CL_POOL_STAT_SHARED_FREE ((q.poolAfter (c.bits 1 5 0)
          (c.arg 3) (c.arg 4)).getD 0))
  ∧ Fulfils .fwdEpochCfg cmdFwdEpochCfg (fun c q => R.FD_EPOCH_CFG.ok (c.arg 1) = true ∧ q.unlocked (R.FD_EPOCH_CFG.writes
      (c.arg 1)))
      (fun _ _ => [])
      (fun c q => q.cfgWrites (R.FD_EPOCH_CFG.writes (c.arg 1)))

/-- Tier 1. The SCHED group (R380 to R382, R388, R389, R391 to R393). SCHED.STATUS and SCHED.READ answer their words;
SCHED.PORT_CFG and SCHED.QUEUE_CFG write their fields, STOP stopping the schedule and SHAPE7 being ignored; SCHED.WRITE,
SCHED.BANK_CFG and SCHED.COPY work on the inactive bank of an unmanaged port with no commit pending; SCHED.COMMIT, once the
checks of R381 pass, accepts the banks for the next boundary or for a target on the grid, or cancels. -/
def Obligations.SchedCommandsComplete : Prop :=
  Fulfils .schedStatus cmdSchedStatus (fun c _ => c.bits 1 5 0 < 48)
      (fun c q => [q.schedStat (c.bits 1 5 0), q.get R.SC_Pp_ORIGIN_LO_ORIGIN (c.bits 1 5 0), q.get R.SC_Pp_ORIGIN_HI_ORIGIN
          (c.bits 1 5 0), q.cycleOf (c.bits 1 5 0) (q.bankOf (c.bits 1 5 0)), q.numOf (c.bits 1 5 0) (q.bankOf (c.bits 1 5
          0)), q.word R.SC_AW_LOG])
      (fun _ q => q)
  ∧ Fulfils .schedPortCfg cmdSchedPortCfg (fun c q => c.bits 1 5 0 < 48 ∧ q.tbOn (bits (c.arg 2) 6 4) = true ∧ R.SC_Pp_CFG.ok
      (c.arg 2) = true ∧ R.SC_Pp_DWRR0.ok (c.arg 3) = true ∧ R.SC_Pp_DWRR1.ok (c.arg 4) = true ∧ ((bitOf (c.arg 2) 1 = true →
      q.managed (c.bits 1 5 0) = false)) ∧ ((q.schedRuns (c.bits 1 5 0) = false ∨ bits (c.arg 2) 6 4 = q.schedTb (c.bits 1 5
      0))) ∧ q.unlocked (R.SC_Pp_CFG.writes (c.arg 2) (c.bits 1 5 0) ++ R.SC_Pp_DWRR0.writes (c.arg 3) (c.bits 1 5 0) ++
      R.SC_Pp_DWRR1.writes (c.arg 4) (c.bits 1 5 0)))
      (fun _ _ => [])
      (fun c q => if bitOf (c.arg 2) 1 then (q.cfgWrites (R.SC_Pp_CFG.writes (c.arg 2) (c.bits 1 5 0) ++ R.SC_Pp_DWRR0.writes
          (c.arg 3) (c.bits 1 5 0) ++ R.SC_Pp_DWRR1.writes (c.arg 4) (c.bits 1 5 0))).stopSchedule (c.bits 1 5 0) else
          q.cfgWrites (R.SC_Pp_CFG.writes (c.arg 2) (c.bits 1 5 0) ++ R.SC_Pp_DWRR0.writes (c.arg 3) (c.bits 1 5 0) ++
          R.SC_Pp_DWRR1.writes (c.arg 4) (c.bits 1 5 0)))
  ∧ Fulfils .schedQueueCfg cmdSchedQueueCfg (fun c q => c.bits 1 5 0 < 48 ∧ R.SC_Pp_QLIMc.ok (c.arg 2) = true ∧
      R.SC_Pp_SHAPEc.ok (c.arg 3) = true ∧ q.unlocked (R.SC_Pp_QLIMc.writes (c.arg 2) (c.bits 1 5 0) (c.bits 1 10 8) ++ (if
      c.bits 1 10 8 = 7 then [] else R.SC_Pp_SHAPEc.writes (c.arg 3) (c.bits 1 5 0) (c.bits 1 10 8))))
      (fun _ _ => [])
      (fun c q =>
          { q.cfgWrites (R.SC_Pp_QLIMc.writes (c.arg 2) (c.bits 1 5 0) (c.bits 1 10 8) ++ (if c.bits 1 10 8 = 7 then [] else R.SC_Pp_SHAPEc.writes (c.arg 3) (c.bits 1 5 0) (c.bits 1 10 8))) with sched := (q.fillBuckets (c.bits 1 5 0)).sched })
  ∧ Fulfils .schedWrite cmdSchedWrite (fun c q => c.bits 1 5 0 < 48 ∧ 1 ≤ c.bits 2 20 16 ∧ c.bits 2 20 16 ≤ 30 ∧ (pairsOf
      ((c.args.drop 2).take (2 * c.bits 2 20 16))).length = c.bits 2 20 16 ∧ c.bits 2 9 0 + c.bits 2 20 16 ≤ 1024 ∧ q.managed
      (c.bits 1 5 0) = false ∧ q.bankActive (c.bits 1 5 0) (c.bits 1 8 8) = false ∧ q.schedPending (c.bits 1 5 0) = false ∧
      q.worldLocked (q.entryNonSecure 15) = false)
      (fun _ _ => [])
      (fun c q => q.putEntries (c.bits 1 5 0) (c.bits 1 8 8) (c.bits 2 9 0) (pairsOf ((c.args.drop 2).take (2 * c.bits 2 20
          16))))
  ∧ Fulfils .schedRead cmdSchedRead (fun c _ => c.bits 1 5 0 < 48 ∧ 1 ≤ c.bits 2 20 16 ∧ c.bits 2 20 16 ≤ 30)
      (fun c q => (min (c.bits 2 20 16) (1024 - c.bits 2 9 0)) :: (List.range (min (c.bits 2 20 16) (1024 - c.bits 2 9
          0))).flatMap fun j => [(q.slotEntry (c.bits 1 5 0) (c.bits 1 8 8) (c.bits 2 9 0 + j)).1, (q.slotEntry (c.bits 1 5 0)
          (c.bits 1 8 8) (c.bits 2 9 0 + j)).2])
      (fun _ q => q)
  ∧ Fulfils .schedBankCfg cmdSchedBankCfg (fun c q => c.bits 1 5 0 < 48 ∧ R.SC_Pp_CYCx.ok (c.arg 2) = true ∧ R.SC_Pp_NUMx.ok
      (c.arg 3) = true ∧ q.managed (c.bits 1 5 0) = false ∧ q.bankActive (c.bits 1 5 0) (c.bits 1 8 8) = false ∧
      q.schedPending (c.bits 1 5 0) = false ∧ q.unlocked (R.SC_Pp_CYCx.writes (c.arg 2) (c.bits 1 5 0) (c.bits 1 8 8) ++
      R.SC_Pp_NUMx.writes (c.arg 3) (c.bits 1 5 0) (c.bits 1 8 8)))
      (fun _ _ => [])
      (fun c q => q.cfgWrites (R.SC_Pp_CYCx.writes (c.arg 2) (c.bits 1 5 0) (c.bits 1 8 8) ++ R.SC_Pp_NUMx.writes (c.arg 3)
          (c.bits 1 5 0) (c.bits 1 8 8)))
  ∧ Fulfils .schedCopy cmdSchedCopy (fun c q => c.bits 1 5 0 < 48 ∧ q.managed (c.bits 1 5 0) = false ∧ q.schedPending (c.bits
      1 5 0) = false ∧ q.worldLocked (q.entryNonSecure 15) = false ∧ q.unlocked
      ([{ f := R.SC_Pp_CYCx_CYCLE, i := c.bits 1 5 0, j := 1 - q.bankOf (c.bits 1 5 0), v := q.cycleOf (c.bits 1 5 0) (q.bankOf (c.bits 1 5 0)) },
      { f := R.SC_Pp_NUMx_NUM, i := c.bits 1 5 0, j := 1 - q.bankOf (c.bits 1 5 0), v := q.numOf (c.bits 1 5 0) (q.bankOf (c.bits 1 5 0)) }]))
      (fun _ _ => [])
      (fun c q => (q.cfgWrites
          [{ f := R.SC_Pp_CYCx_CYCLE, i := c.bits 1 5 0, j := 1 - q.bankOf (c.bits 1 5 0), v := q.cycleOf (c.bits 1 5 0) (q.bankOf (c.bits 1 5 0)) },
          { f := R.SC_Pp_NUMx_NUM, i := c.bits 1 5 0, j := 1 - q.bankOf (c.bits 1 5 0), v := q.numOf (c.bits 1 5 0) (q.bankOf (c.bits 1 5 0)) }]).schedUpd
          (c.bits 1 5 0) fun x =>
          { x with entries := if 1 - q.bankOf (c.bits 1 5 0) = 0 then (((q.cfgWrites [{ f := R.SC_Pp_CYCx_CYCLE, i := c.bits 1 5 0, j := 1 - q.bankOf (c.bits 1 5 0), v := q.cycleOf (c.bits 1 5 0) (q.bankOf (c.bits 1 5 0)) }, { f := R.SC_Pp_NUMx_NUM, i := c.bits 1 5 0, j := 1 - q.bankOf (c.bits 1 5 0), v := q.numOf (c.bits 1 5 0) (q.bankOf (c.bits 1 5 0)) }]).schedOf (c.bits 1 5 0)).entries.filter fun e => e.1 / 1024 == q.bankOf (c.bits 1 5 0)).map (fun e => (1024 * (1 - q.bankOf (c.bits 1 5 0)) + e.1 % 1024, e.2)) ++ (((q.cfgWrites [{ f := R.SC_Pp_CYCx_CYCLE, i := c.bits 1 5 0, j := 1 - q.bankOf (c.bits 1 5 0), v := q.cycleOf (c.bits 1 5 0) (q.bankOf (c.bits 1 5 0)) }, { f := R.SC_Pp_NUMx_NUM, i := c.bits 1 5 0, j := 1 - q.bankOf (c.bits 1 5 0), v := q.numOf (c.bits 1 5 0) (q.bankOf (c.bits 1 5 0)) }]).schedOf (c.bits 1 5 0)).entries.filter fun e => e.1 / 1024 == q.bankOf (c.bits 1 5 0)) else (((q.cfgWrites [{ f := R.SC_Pp_CYCx_CYCLE, i := c.bits 1 5 0, j := 1 - q.bankOf (c.bits 1 5 0), v := q.cycleOf (c.bits 1 5 0) (q.bankOf (c.bits 1 5 0)) }, { f := R.SC_Pp_NUMx_NUM, i := c.bits 1 5 0, j := 1 - q.bankOf (c.bits 1 5 0), v := q.numOf (c.bits 1 5 0) (q.bankOf (c.bits 1 5 0)) }]).schedOf (c.bits 1 5 0)).entries.filter fun e => e.1 / 1024 == q.bankOf (c.bits 1 5 0)) ++ (((q.cfgWrites [{ f := R.SC_Pp_CYCx_CYCLE, i := c.bits 1 5 0, j := 1 - q.bankOf (c.bits 1 5 0), v := q.cycleOf (c.bits 1 5 0) (q.bankOf (c.bits 1 5 0)) }, { f := R.SC_Pp_NUMx_NUM, i := c.bits 1 5 0, j := 1 - q.bankOf (c.bits 1 5 0), v := q.numOf (c.bits 1 5 0) (q.bankOf (c.bits 1 5 0)) }]).schedOf (c.bits 1 5 0)).entries.filter fun e => e.1 / 1024 == q.bankOf (c.bits 1 5 0)).map (fun e => (1024 * (1 - q.bankOf (c.bits 1 5 0)) + e.1 % 1024, e.2)) })
  ∧ Fulfils .schedCommit cmdSchedCommit (fun c q => c.bits 3 1 0 = 0 ∧ (maskPorts (c.arg 1) (c.bits 2 15 0)).all q.bankGood =
      true ∧ (maskPorts (c.arg 1) (c.bits 2 15 0)).any q.managed = false ∧ (((maskPorts (c.arg 1) (c.bits 2 15 0)).all fun p
      => q.tbOn (q.schedTb p)) = true) ∧ (((maskPorts (c.arg 1) (c.bits 2 15 0)).all fun p => !q.schedPending p) = true) ∧
      (maskPorts (c.arg 1) (c.bits 2 15 0)).all q.schedRuns = true ∧ q.worldLocked (q.entryNonSecure 15) = false)
      (fun c q => instantWords ((maskPorts (c.arg 1) (c.bits 2 15 0)).map fun p => (p, q.nextBoundary p)))
      (fun c q => ((maskPorts (c.arg 1) (c.bits 2 15 0)).map fun p => (p, q.nextBoundary p)).foldl (fun s e => s.schedAccept
          e.1 e.2 (s.on R.SC_Pp_STAT_ALIGN_LOST e.1)) q)
  ∧ Fulfils .schedCommit cmdSchedCommit (fun c q => c.bits 3 1 0 = 1 ∧ 6 ≤ c.args.length ∧ (wordsTime (c.arg 4) (c.arg 5)
      (c.arg 6)).isSome ∧ (maskPorts (c.arg 1) (c.bits 2 15 0)).all q.bankGood = true ∧ (maskPorts (c.arg 1) (c.bits 2 15
      0)).any q.managed = false ∧ (((maskPorts (c.arg 1) (c.bits 2 15 0)).all fun p => q.tbOn (q.schedTb p)) = true) ∧
      (((maskPorts (c.arg 1) (c.bits 2 15 0)).all fun p => !q.schedPending p) = true) ∧ (((maskPorts (c.arg 1) (c.bits 2 15
      0)).all fun p => nearTime ((wordsTime (c.arg 4) (c.arg 5) (c.arg 6)).getD 0) (q.time (q.schedTb p)) && if !q.schedRuns p
      || q.on R.SC_Pp_STAT_ALIGN_LOST p then onGrid ((wordsTime (c.arg 4) (c.arg 5) (c.arg 6)).getD 0) else q.isBoundary p
      ((wordsTime (c.arg 4) (c.arg 5) (c.arg 6)).getD 0)) = true) ∧ (((maskPorts (c.arg 1) (c.bits 2 15 0)).all fun p =>
      decide (tenUs ≤ (linDist (linear ((wordsTime (c.arg 4) (c.arg 5) (c.arg 6)).getD 0)) (linear (q.time (q.schedTb
      p)))).toNat * linUnit)) = true) ∧ q.worldLocked (q.entryNonSecure 15) = false)
      (fun c _ => if (maskPorts (c.arg 1) (c.bits 2 15 0)).isEmpty then [0, 0, 0] else timeWords ((wordsTime (c.arg 4) (c.arg
          5) (c.arg 6)).getD 0))
      (fun c q => (maskPorts (c.arg 1) (c.bits 2 15 0)).foldl (fun s p => s.schedAccept p ((wordsTime (c.arg 4) (c.arg 5)
          (c.arg 6)).getD 0) false) q)
  ∧ Fulfils .schedCommit cmdSchedCommit (fun c q => c.bits 3 1 0 = 2 ∧ (maskPorts (c.arg 1) (c.bits 2 15 0)).any q.managed =
      false ∧ (((maskPorts (c.arg 1) (c.bits 2 15 0)).any fun p =>
      (match q.toCommit p with | some d => decide (d < tenUs) | none => false)) = false) ∧ q.worldLocked (q.entryNonSecure 15)
      = false)
      (fun _ _ => [0, 0, 0])
      (fun c q => (maskPorts (c.arg 1) (c.bits 2 15 0)).foldl (fun s p => (s.set R.SC_Pp_STAT_PENDING 0 p).schedUpd p fun x =>
          { x with commit := none }) q)

/-- Tier 1. The FLOW group (R402, R404 to R406, R408, R410, R417, R418). FLOW.STATUS and FLOW.QUERY answer their words;
FLOW.PORT_CFG and FLOW.CFG write their fields; FLOW.PLACE stages a flow that its checks, a placement and a booking accept;
FLOW.PIN stages a flow at given positions that no pin opposes, moving or evicting those it disturbs; FLOW.REMOVE stages a
removal; FLOW.COMMIT begins with the banks and is answered at the tables' activation; FLOW.DISCARD returns to the committed
model. -/
def Obligations.FlowCommandsComplete : Prop :=
  Fulfils .flowStatus cmdFlowStatus (fun _ _ => True)
      (fun _ q => [q.word R.FO_STAT, q.word R.FO_TQ_LOAD0, q.word R.FO_TQ_LOAD1, q.word R.FO_DIGEST, q.word R.FO_REPL_STAT])
      (fun _ q => q)
  ∧ Fulfils .flowPortCfg cmdFlowPortCfg (fun c q => c.bits 1 5 0 < 48 ∧ foCfgOk (c.arg 2) = true ∧ ((bitOf (c.arg 2) 31 = true
      → q.tbOn (q.schedTb (c.bits 1 5 0)) = true)) ∧ q.foPortBusy (c.bits 1 5 0) = false ∧ q.schedPending (c.bits 1 5 0) =
      false ∧ q.unlocked (R.FO_PORTp_CFG.writes (c.arg 2) (c.bits 1 5 0)))
      (fun _ _ => [])
      (fun c q => q.foPortCfg (c.bits 1 5 0) (c.arg 2))
  ∧ Fulfils .flowPlace cmdFlowPlace (fun c q => q.flowOk (flowOf c) = true ∧ q.foState < 2 ∧ q.fwdBusy = false ∧ q.mayPlace
      (flowOf c) true ∧ (q.placed (flowOf c)).isSome ∧ ((∀ e ∈ [13, 14, 15, 16, 18], q.worldLocked (q.entryNonSecure e) =
      false)))
      (fun c q => ((q.placed (flowOf c)).map fun e => e.1.answer).getD [])
      (fun c q => ((q.placed (flowOf c)).map fun e => e.2.stage (insertFlow e.1 e.2.fo.work) e.1.ports).getD q)
  ∧ Fulfils .flowPin cmdFlowPin (fun c q => q.flowOk (flowOf c) = true ∧ (flowOf c).egress.length = (if (flowOf c).red = 0
      then 1 else 2) ∧ 19 + (if (flowOf c).red = 0 then 1 else 2) ≤ c.args.length ∧ q.foState < 2 ∧ q.fwdBusy = false ∧
      q.mayPlace { flowOf c with pinned := true } false ∧ ((((flowOf c).egress.zip [c.bits 20 26 0, c.bits 21 26 0]).all fun e
      => !q.pinConflict { flowOf c with pinned := true } e.1 e.2) = true) ∧ ((Flow.ports
      { flowOf c with pinned := true, subs := ((flowOf c).egress.zip [c.bits 20 26 0, c.bits 21 26 0]).map fun e => (e.1, e.2, q.subLen { flowOf c with pinned := true } e.1) }).all
      (fun p => q.entriesFit (q.fo.work ++
      [{ flowOf c with pinned := true, subs := ((flowOf c).egress.zip [c.bits 20 26 0, c.bits 21 26 0]).map fun e => (e.1, e.2, q.subLen { flowOf c with pinned := true } e.1) }])
      p) = true) ∧ (((q.book q.fo.work
      { flowOf c with pinned := true, subs := ((flowOf c).egress.zip [c.bits 20 26 0, c.bits 21 26 0]).map fun e => (e.1, e.2, q.subLen { flowOf c with pinned := true } e.1) }).toOption).isSome)
      ∧ ((∀ e ∈ [13, 14, 15, 16, 18], q.worldLocked (q.entryNonSecure e) = false)))
      (fun c q =>
          (match ((q.book q.fo.work { flowOf c with pinned := true, subs := ((flowOf c).egress.zip [c.bits 20 26 0, c.bits 21 26 0]).map fun e => (e.1, e.2, q.subLen { flowOf c with pinned := true } e.1) }).toOption) with | none => [] | some (g, t) => { g with latWc := ((q.pinned g t).worst (q.pinned g t).fo.work g).1, jitWc := ((q.pinned g t).worst (q.pinned g t).fo.work g).2 }.answer))
      (fun c q =>
          (match ((q.book q.fo.work { flowOf c with pinned := true, subs := ((flowOf c).egress.zip [c.bits 20 26 0, c.bits 21 26 0]).map fun e => (e.1, e.2, q.subLen { flowOf c with pinned := true } e.1) }).toOption) with | none => q | some (g, t) => q.pinned g t))
  ∧ Fulfils .flowRemove cmdFlowRemove (fun c q => ((q.fo.work.find? fun f => f.id == c.bits 1 15 0).isSome) ∧ q.foState < 2 ∧
      q.fwdBusy = false ∧ ((∀ e ∈ [13, 14, 15, 16, 18], q.worldLocked (q.entryNonSecure e) = false)))
      (fun _ _ => [])
      (fun c q =>
          (match (q.fo.work.find? fun f => f.id == c.bits 1 15 0) with | none => q | some f => ((q.letGo f).unwriteFlow f).stage (dropFlow f.id q.fo.work) f.ports))
  ∧ Awaits .flowCommit cmdFlowCommit (fun _ q => q.foState < 2 ∧ q.fwdBusy = false ∧ ((q.fo.changed.all fun p =>
      !q.schedPending p) = true) ∧ ((∀ e ∈ [13, 14, 15, 16, 18], q.worldLocked (q.entryNonSecure e) = false)))
      (fun c q => ((q.foUpd fun o => { o with phase := 1, mb := c.mb, waits := true }).set R.FO_STAT_STATE 2).commitBanks)
  ∧ Fulfils .flowDiscard cmdFlowDiscard (fun _ q => q.foState < 2 ∧ q.fwdBusy = false)
      (fun _ _ => [])
      (fun _ q => q.foDiscard)
  ∧ Fulfils .flowQuery cmdFlowQuery (fun c q => (((q.fo.work.find? fun f => f.id == c.bits 1 15 0).bind fun f =>
      (q.modelCopies q.fo.work (c.bits 1 21 16)).find? fun x => x.flow.id == f.id).isSome))
      (fun c q =>
          (match (q.fo.work.find? fun f => f.id == c.bits 1 15 0) with | none => [] | some f => (match (q.modelCopies q.fo.work (c.bits 1 21 16)).find? (fun x => x.flow.id == f.id) with | none => [] | some x => q.queryWords f x (q.modelCopies q.fo.work (c.bits 1 21 16)) (c.bits 1 21 16))))
      (fun _ q => q)
  ∧ Fulfils .flowCfg cmdFlowCfg (fun c q => R.FO_CFG.ok (c.arg 1) = true ∧ q.foState ≠ 3 ∧ q.unlocked (R.FO_CFG.writes (c.arg
      1)))
      (fun _ _ => [])
      (fun c q => q.cfgWrites (R.FO_CFG.writes (c.arg 1)))

/-- Tier 1. The RED group (R427, R428, R445, R448, R451, R457). RED.STATUS and RED.CTX_STATUS answer their words; RED.CTX_CFG
and RED.CTX_RESET work on a context that belongs to the host; RED.PAIR_CFG writes the pair and role fields for fitting PAIR
ports; RED.ROLE releases the role, or proposes a handover to an armed partner and answers its instant; RED.HEALTH answers
the health word, or starts a pass that answers with it; RED.LOOP_BREAK writes the port set. -/
def Obligations.RedCommandsComplete : Prop :=
  Fulfils .redStatus cmdRedStatus (fun _ _ => True)
      (fun _ q => [q.healthSync.word R.RD_PAIR_STAT, q.healthSync.word R.RD_ROLE_STAT, q.healthSync.word R.RD_HEALTH,
          q.healthSync.word R.RD_PFC_STAT] ++ count64 q.healthSync.agent.matched ++ count64 q.healthSync.agent.differ ++
          count64 q.healthSync.agent.missing ++ count64 q.healthSync.agent.skippedAll ++ [q.healthSync.get R.FO_DIGEST_DIGEST,
          q.healthSync.agent.partnerDigest])
      (fun _ q => q.healthSync)
  ∧ Fulfils .redCtxCfg cmdRedCtxCfg (fun c q => ctxOk (c.arg 2) (c.arg 3) (c.arg 4) = true ∧ foresterCtx (c.bits 1 12 0) =
      false ∧ (q.sctxOf (c.bits 1 12 0)).frozen (c.arg 2) = false ∧ q.worldLocked (q.entryNonSecure 16) = false)
      (fun _ _ => [])
      (fun c q => q.ctxSet (c.bits 1 12 0) (c.arg 2) (c.arg 3) (c.arg 4))
  ∧ Fulfils .redCtxStatus cmdRedCtxStatus (fun _ _ => True)
      (fun c q => q.ctxWords (c.bits 1 12 0) ++ [(q.sctxOf (c.bits 1 12 0)).gen] ++ (List.range 10).flatMap fun i => [Tab.get
          0 (q.sctxOf (c.bits 1 12 0)).cnt i % 2 ^ 32, Tab.get 0 (q.sctxOf (c.bits 1 12 0)).cnt i / 2 ^ 32])
      (fun _ q => q)
  ∧ Fulfils .redCtxReset cmdRedCtxReset (fun c q => foresterCtx (c.bits 1 12 0) = false ∧ q.worldLocked (q.entryNonSecure 16)
      = false)
      (fun _ _ => [])
      (fun c q => q.ctxReset (c.bits 1 12 0) (c.bit 1 16))
  ∧ Fulfils .redPairCfg cmdRedPairCfg (fun c q => ((q.mode ≠ 1 ∧ q.mode ≠ 5 ∨ c.image = true)) ∧ R.RD_PAIR_CFG.ok (c.arg 1) =
      true ∧ R.RD_PAIR_CFG2.ok (c.arg 2) = true ∧ R.RD_ROLE_CFG.ok (c.arg 3) = true ∧ q.tbOn (c.bits 1 30 28) = true ∧
      q.pairFits (c.bits 1 27 22) = true ∧ q.pairFits (c.bits 1 21 16) = true ∧ q.unlocked (R.RD_PAIR_CFG.writes (c.arg 1) ++
      R.RD_PAIR_CFG2.writes (c.arg 2) ++ R.RD_ROLE_CFG.writes (c.arg 3)))
      (fun _ _ => [])
      (fun c q => (((q.cfgWrites (R.RD_PAIR_CFG.writes (c.arg 1) ++ R.RD_PAIR_CFG2.writes (c.arg 2) ++ R.RD_ROLE_CFG.writes
          (c.arg 3))).agentUpd fun x => { x with dropping := false }).pairLink).outSync)
  ∧ Fulfils .redRole cmdRedRole (fun c q => c.bits 1 1 0 = 0 ∧ q.worldLocked (q.entryNonSecure 17) = false)
      (fun _ _ => [])
      (fun _ q => q.dropRole 0)
  ∧ Fulfils .redRole cmdRedRole (fun c q => c.bits 1 1 0 = 1 ∧ q.on R.RD_PAIR_STAT_LINK_UP = true ∧ ((q.agent.role.map fun r
      => bitOf r.state 1) = some true) ∧ q.roleHeld = true ∧ q.agent.handover = none ∧ q.worldLocked (q.entryNonSecure 17) =
      false)
      (fun _ q => timeWords q.handoverAt)
      (fun _ q => (q.agentUpd fun x => { x with handover := some (linear q.handoverAt, true, false) }).sendRole 1 (linear
          q.handoverAt))
  ∧ Fulfils .redHealth cmdRedHealth (fun c _ => c.bit 1 0 = false)
      (fun _ q => [q.healthSync.word R.RD_HEALTH])
      (fun _ q => q.healthSync)
  ∧ Awaits .redHealth cmdRedHealth (fun c _ => c.bit 1 0 = true ∧ c.image = false)
      (fun c q => (q.set R.RD_HEALTH_RUNNING 1).agentUpd fun x => { x with asked := true, askedMb := c.mb })
  ∧ Fulfils .redLoopBreak cmdRedLoopBreak (fun c q => c.arg 2 < 65536 ∧ q.unlocked (R.RD_LOOPBRK_LO.writes (c.arg 1) ++
      R.RD_LOOPBRK_HI.writes (c.arg 2)))
      (fun _ _ => [])
      (fun c q => q.cfgWrites (R.RD_LOOPBRK_LO.writes (c.arg 1) ++ R.RD_LOOPBRK_HI.writes (c.arg 2)))

/-- Tier 1. The SEC group (R505, R506, R509, R512, R513, R524). SEC.STATUS and SEC.VIOL_READ answer their words, the latter
clearing the log where asked; SEC.BLOCK_WORLD, SEC.REGION_WORLD and SEC.PART_WORLD move a block that is not fixed, a region
that holds no running image, or a partition to a world, and vectors that this makes pending are signalled; SEC.LOCK sets the
locks it names; SEC.CRC_COMMIT is accepted while none is pending and answered when the reference is set; SEC.WINDOW and
SEC.DEBUG_UNLOCK write FB_CFG, clearing DEBUG_PERMIT ending an unlocked session. -/
def Obligations.SecCommandsComplete : Prop :=
  Fulfils .secStatus cmdSecStatus (fun _ _ => True)
      (fun _ q => [q.word R.FB_BLK_WORLD_LO, q.word R.FB_BLK_WORLD_HI, q.word R.FB_REGION_WORLD, q.word R.FB_PART_WORLD,
          q.word R.FB_CFG, q.word R.FB_STAT, q.word R.CI_STAT, q.word R.CI_CRC_LIVE, q.word R.CI_CRC_REF, q.get
          R.CFG_LOCK_S_LOCK + 2 * q.get R.CFG_LOCK_N_LOCK, q.word R.FB_VIOL_STAT])
      (fun _ q => q)
  ∧ Fulfils .secBlockWorld cmdSecBlockWorld (fun c q => c.bits 1 5 0 < 48 ∧ ((fixedEntry (c.bits 1 5 0) = true → c.bit 1 8 =
      false)) ∧ q.worldLocked false = false ∧ q.worldLocked (q.entryNonSecure (c.bits 1 5 0)) = false ∧ q.worldLocked (c.bit 1
      8) = false)
      (fun _ _ => [])
      (fun c q => (q.cfgWrites
          [{ f := if c.bits 1 5 0 < 32 then R.FB_BLK_WORLD_LO_ENTRY else R.FB_BLK_WORLD_HI_ENTRY, v := withBit (q.get (if c.bits 1 5 0 < 32 then R.FB_BLK_WORLD_LO_ENTRY else R.FB_BLK_WORLD_HI_ENTRY)) (c.bits 1 5 0 % 32) (c.bit 1 8) }]).signal
          q false)
  ∧ Fulfils .secRegionWorld cmdSecRegionWorld (fun c q => (((c.bits 1 4 0 < 8 ∨ 16 ≤ c.bits 1 4 0 ∧ c.bits 1 4 0 < 24) →
      q.ctl.fwVersion.isSome = true → bitOf (q.get R.FB_REGION_WORLD_REGION) (c.bits 1 4 0) = c.bit 1 8)) ∧ q.worldLocked
      false = false ∧ q.worldLocked (bitOf (q.get R.FB_REGION_WORLD_REGION) (c.bits 1 4 0)) = false ∧ q.worldLocked (c.bit 1
      8) = false)
      (fun _ _ => [])
      (fun c q => (q.cfgWrites
          [{ f := R.FB_REGION_WORLD_REGION, v := withBit (q.get (R.FB_REGION_WORLD_REGION)) (c.bits 1 4 0) (c.bit 1 8) }]).signal
          q false)
  ∧ Fulfils .secPartWorld cmdSecPartWorld (fun c q => q.worldLocked false = false ∧ q.worldLocked (bitOf (q.get
      R.FB_PART_WORLD_PART) (c.bits 1 2 0)) = false ∧ q.worldLocked (c.bit 1 8) = false)
      (fun _ _ => [])
      (fun c q => (q.cfgWrites
          [{ f := R.FB_PART_WORLD_PART, v := withBit (q.get (R.FB_PART_WORLD_PART)) (c.bits 1 2 0) (c.bit 1 8) }]).signal q
          false)
  ∧ Fulfils .secLock cmdSecLock (fun c _ => ((c.secure = true ∨ c.bit 1 0 = false)) ∧ 1 ≤ c.args.length)
      (fun c q => [(if c.bit 1 1 then (if c.bit 1 0 then q.lockWorld false else q).lockWorld true else (if c.bit 1 0 then
          q.lockWorld false else q)).get R.CFG_LOCK_S_LOCK + 2 * (if c.bit 1 1 then (if c.bit 1 0 then q.lockWorld false else
          q).lockWorld true else (if c.bit 1 0 then q.lockWorld false else q)).get R.CFG_LOCK_N_LOCK])
      (fun c q => (if c.bit 1 1 then (if c.bit 1 0 then q.lockWorld false else q).lockWorld true else (if c.bit 1 0 then
          q.lockWorld false else q)))
  ∧ Awaits .secCrcCommit cmdSecCrcCommit (fun c q => ((c.bit 1 0 = true → 2 ≤ c.args.length)) ∧ q.on R.CI_STAT_PENDING =
      false)
      (fun c q => q.acceptCommit (c.bits 1 0 0) (c.arg 2) c.mb)
  ∧ Fulfils .secViolRead cmdSecViolRead (fun c _ => ((c.secure = true ∨ c.bit 1 16 = false)) ∧ 1 ≤ c.args.length ∧ 1 ≤ c.bits
      1 11 8 ∧ c.bits 1 11 8 ≤ 12)
      (fun c q => (min (c.bits 1 11 8) (q.get R.FB_VIOL_STAT_COUNT - c.bits 1 3 0)) :: ((List.range (min (c.bits 1 11 8)
          (q.get R.FB_VIOL_STAT_COUNT - c.bits 1 3 0))).flatMap fun k => q.violWords (c.bits 1 3 0 + k)))
      (fun c q => if c.bit 1 16 then q.clearViolations else q)
  ∧ Fulfils .secWindow cmdSecWindow (fun c q => q.unlocked ([{ f := R.FB_CFG_WIN_EN, v := c.bits 1 0 0 }]))
      (fun _ _ => [])
      (fun c q => q.cfgWrites [{ f := R.FB_CFG_WIN_EN, v := c.bits 1 0 0 }])
  ∧ Fulfils .secDebugUnlock cmdSecDebugUnlock (fun c q => q.unlocked ([{ f := R.FB_CFG_DEBUG_PERMIT, v := c.bits 1 0 0 }]))
      (fun c q => [(if c.bit 1 0 then q.cfgWrites [{ f := R.FB_CFG_DEBUG_PERMIT, v := c.bits 1 0 0 }] else (q.cfgWrites
          [{ f := R.FB_CFG_DEBUG_PERMIT, v := c.bits 1 0 0 }]).setUnlocked false).word R.FB_STAT])
      (fun c q => (if c.bit 1 0 then q.cfgWrites [{ f := R.FB_CFG_DEBUG_PERMIT, v := c.bits 1 0 0 }] else (q.cfgWrites
          [{ f := R.FB_CFG_DEBUG_PERMIT, v := c.bits 1 0 0 }]).setUnlocked false))

/-- Tier 1. The TEL group (R525 to R548): the recorder's words; a programmable counter's configuration, which restarts it; up to
30 counter values, and a port's bandwidth results (what their first word counts is open: a free value); a port's bandwidth
windows, which restart its meters; the ring and the samplers of the Tally, from MB08 to MB15 only while it is non-secure, an
enabled one changing only EN; ring bytes read or skipped under their semaphore; an event's route and record enable. -/
def Obligations.TelCommandsComplete : Prop :=
  Fulfils .telStatus cmdTelStatus (fun _ _ => True)
      (fun c q => [q.recStat c.secure, q.word R.TL_RING_CFG, q.word R.TL_RING_WP, q.word R.TL_RING_RP, q.word R.TL_RING_STAT])
      (fun _ q => q)
  ∧ Fulfils .telCounterCfg cmdTelCounterCfg (fun c q => (if c.bit 1 0 then 0 else c.bits 1 11 8) < 12 ∧ ((c.bit 1 0 = true ∨
      c.bits 1 20 16 < 8)) ∧ evnumOk (c.bit 1 0) (if c.bit 1 0 then 0 else c.bits 1 11 8) (c.bits 2 25 16) (c.bits 2 5 0) =
      true ∧ q.unlocked (cntWrites (c.bit 1 0) (if c.bit 1 0 then 0 else c.bits 1 11 8) (c.bits 1 20 16) (c.arg 2) (c.arg 3)
      (c.arg 4)))
      (fun _ _ => [])
      (fun c q => (q.cfgWrites (cntWrites (c.bit 1 0) (if c.bit 1 0 then 0 else c.bits 1 11 8) (c.bits 1 20 16) (c.arg 2)
          (c.arg 3) (c.arg 4))).restartCnt (c.bit 1 0) (if c.bit 1 0 then 0 else c.bits 1 11 8) (c.bits 1 20 16))
  ∧ Fulfils .telRead cmdTelRead (fun c _ => c.bits 1 1 0 ≠ 3 ∧ c.bits 1 13 8 < (if c.bits 1 1 0 = 1 then 12 else if c.bits 1 1
      0 = 2 then 64 else 48) ∧ c.bits 1 21 16 ≤ (if c.bits 1 1 0 = 0 then 63 else if c.bits 1 1 0 = 1 then 7 else 31) ∧ 1 ≤
      c.bits 1 28 24 ∧ c.bits 1 28 24 ≤ 30)
      (fun c q => (min (c.bits 1 28 24) ((if c.bits 1 1 0 = 0 then 63 else if c.bits 1 1 0 = 1 then 7 else 31) + 1 - c.bits 1
          21 16)) :: (List.range (min (c.bits 1 28 24) ((if c.bits 1 1 0 = 0 then 63 else if c.bits 1 1 0 = 1 then 7 else 31)
          + 1 - c.bits 1 21 16))).flatMap fun k => [(q.cntValue (cntOff (c.bits 1 1 0) (c.bits 1 13 8) (c.bits 1 21 16 +
          k))).getD 0 % 2 ^ 32, (q.cntValue (cntOff (c.bits 1 1 0) (c.bits 1 13 8) (c.bits 1 21 16 + k))).getD 0 / 2 ^ 32])
      (fun _ q => q)
  ∧ Fulfils .telRead cmdTelRead (fun c _ => c.bits 1 1 0 = 3 ∧ c.bits 1 13 8 < 48)
      (fun c q => (q.draw 32).1 :: (List.range 14).map fun k => (q.bwOf (c.bits 1 13 8)).result.getD k 0)
      (fun _ q => (q.draw 32).2)
  ∧ Fulfils .telWindowCfg cmdTelWindowCfg (fun c q => c.bits 1 5 0 < 48 ∧ R.TL_BWp_CFG.ok (c.arg 2) = true ∧ R.TL_BWp_PER.ok
      (c.arg 3) = true ∧ q.unlocked (bwWrites (c.bits 1 5 0) 0 (c.arg 2) ++ bwWrites (c.bits 1 5 0) 1 (c.arg 3) ++ bwWrites
      (c.bits 1 5 0) 2 (c.arg 4)))
      (fun _ _ => [])
      (fun c q => (q.cfgWrites (bwWrites (c.bits 1 5 0) 0 (c.arg 2) ++ bwWrites (c.bits 1 5 0) 1 (c.arg 3) ++ bwWrites (c.bits
          1 5 0) 2 (c.arg 4))).restartBw (c.bits 1 5 0))
  ∧ Fulfils .telTallyCfg cmdTelTallyCfg (fun c q => ((c.secure = true ∨ q.entryNonSecure 34 = true)) ∧ q.asleep 34 = false ∧
      c.bit 1 0 = true ∧ 6 ≤ c.args.length ∧ ringOk (c.arg 2) (c.arg 3) (c.arg 4) = true ∧ ((q.on R.TL_RING_CFG_EN = true →
      q.changesMore R.TL_RING_CFG_EN ((List.range 5).flatMap fun w => ringWrites w (c.arg (2 + w))) = false)) ∧ q.ringWorld
      (c.arg 2) (c.arg 3) = true ∧ (q.unlocked ((List.range 5).flatMap fun w => ringWrites w (c.arg (2 + w)))))
      (fun _ _ => [])
      (fun c q => (q.cfgWrites ((List.range 5).flatMap fun w => ringWrites w (c.arg (2 + w)))).ringEn (q.on R.TL_RING_CFG_EN))
  ∧ Fulfils .telTallyCfg cmdTelTallyCfg (fun c q => ((c.secure = true ∨ q.entryNonSecure 34 = true)) ∧ q.asleep 34 = false ∧
      c.bit 1 0 = false ∧ 6 ≤ c.args.length ∧ R.TL_TSs_CFG.ok (c.arg 2) = true ∧ ((q.on R.TL_TSs_CFG_EN (c.bits 1 11 8) = true
      → q.changesMore R.TL_TSs_CFG_EN ((List.range 5).flatMap fun w => samplerWrites (c.bits 1 11 8) w (c.arg (2 + w))) =
      false)) ∧ (q.unlocked ((List.range 5).flatMap fun w => samplerWrites (c.bits 1 11 8) w (c.arg (2 + w)))))
      (fun _ _ => [])
      (fun c q => (q.cfgWrites ((List.range 5).flatMap fun w => samplerWrites (c.bits 1 11 8) w (c.arg (2 + w)))).samplerEn
          (c.bits 1 11 8) (q.on R.TL_TSs_CFG_EN (c.bits 1 11 8)))
  ∧ Fulfils .telTallyRead cmdTelTallyRead (fun c q => ((c.secure = true ∨ q.entryNonSecure 34 = true)) ∧ q.asleep 34 = false ∧
      c.bit 1 0 = true ∧ 2 ≤ c.args.length ∧ c.arg 2 < q.ringSize ∧ q.semTaken 36 (c.agent q 34) = false)
      (fun c _ => [0, c.arg 2])
      (fun c q => q.set R.TL_RING_RP_RP (c.arg 2))
  ∧ Fulfils .telTallyRead cmdTelTallyRead (fun c q => ((c.secure = true ∨ q.entryNonSecure 34 = true)) ∧ q.asleep 34 = false ∧
      c.bit 1 0 = false ∧ 1 ≤ c.args.length ∧ 1 ≤ c.bits 1 15 8 ∧ c.bits 1 15 8 ≤ 240 ∧ q.on R.TL_RING_CFG_HOST = false ∧
      q.semTaken 36 (c.agent q 34) = false)
      (fun c q => min (c.bits 1 15 8) q.ringFill :: ((q.get R.TL_RING_RP_RP + min (c.bits 1 15 8) q.ringFill) % q.ringSize) ::
          leWords 60 (q.ringBytes (min (c.bits 1 15 8) q.ringFill)))
      (fun c q => q.set R.TL_RING_RP_RP ((q.get R.TL_RING_RP_RP + min (c.bits 1 15 8) q.ringFill) % q.ringSize))
  ∧ Fulfils .telEventCfg cmdTelEventCfg (fun _ _ => True)
      (fun _ _ => [])
      (fun c q => ((q.writes ((routeFields (c.bits 1 6 0 % 4)).map fun f =>
          { f := f, i := c.bits 1 6 0 / 4, v := f.of (c.bits 2 7 0 * 2 ^ (8 * (c.bits 1 6 0 % 4))) })).set R.EV_REC_ENi_REC_EN
          (withBit ((q.writes ((routeFields (c.bits 1 6 0 % 4)).map fun f =>
          { f := f, i := c.bits 1 6 0 / 4, v := f.of (c.bits 2 7 0 * 2 ^ (8 * (c.bits 1 6 0 % 4))) })).get R.EV_REC_ENi_REC_EN
          (c.bits 1 6 0 / 32)) (c.bits 1 6 0 % 32) (c.bit 2 8)) (c.bits 1 6 0 / 32)).signal q false)

/-- Tier 1. The CAL group (R594 to R596, R601 to R605): its status; a run in CALIBRATE of an item with its references whose
targets meet their condition, and its abort; the results; a plausible record written or a record erased; a record read; an
asymmetry record of a link written or erased. -/
def Obligations.CalCommandsComplete : Prop :=
  Fulfils .calStatus cmdCalStatus (fun _ _ => True)
      (fun _ q => [q.nvSync.word R.CA_RUN_STAT, q.nvSync.word R.CA_REF_STAT, q.nvSync.word R.NV_STAT, q.nvSync.word
          R.NV_FAIL_STAT])
      (fun _ q => q.nvSync)
  ∧ Fulfils .calRun cmdCalRun (fun c q => q.mode = 4 ∧ q.blkState 36 = 0 ∧ 1 ≤ c.args.length ∧ c.bit 1 17 = true)
      (fun _ q => [(if q.calRuns then q.calAbort 4 else q).get R.CA_RUN_STAT_RUN_SEQ])
      (fun _ q => if q.calRuns then q.calAbort 4 else q)
  ∧ Fulfils .calRun cmdCalRun (fun c q => q.mode = 4 ∧ q.blkState 36 = 0 ∧ 1 ≤ c.args.length ∧ c.bit 1 17 = false ∧ 1 ≤ c.bits
      1 3 0 ∧ c.bits 1 3 0 ≤ 8 ∧ ((c.bits 1 15 8 = 255 ∨ c.bits 1 15 8 < calTargets (c.bits 1 3 0))) ∧ ((if c.bits 1 3 0 = 7
      then 4 else if c.bits 1 3 0 = 5 ∨ c.bits 1 3 0 = 6 then 2 else 1) ≤ c.args.length) ∧ ((c.bits 1 3 0 = 7 → c.bits 4 15 0
      ≠ 0)) ∧ ((c.bits 1 15 8 = 255 ∨ q.calAsleep (c.bits 1 3 0) (c.bits 1 15 8) = false)) ∧ q.calRuns = false ∧ q.calRefs
      (c.bits 1 3 0) = true ∧ (((q.calTargetsOf (c.bits 1 3 0) (c.bits 1 15 8) (c.bits 4 23 16)).any fun k => q.calCond
      (c.bits 1 3 0) k (c.bits 4 23 16)) = true) ∧ ((c.bits 1 3 0 = 5 → q.worldLocked (q.entryNonSecure (blockEntry
      (R.PT_KTXp_K_TX.addr + R.PT_KTXp_K_TX.s1 * (q.calTargetsOf (c.bits 1 3 0) (c.bits 1 15 8) (c.bits 4 23 16)).headD 0))) =
      false)) ∧ ((c.bits 1 3 0 = 4 → q.worldLocked (q.entryNonSecure (blockEntry R.PT_DIE_OFS_DIE_OFS.addr)) = false)))
      (fun c q => [(q.calBegin (c.bits 1 3 0) (c.bit 1 16) (c.args.drop 1) (q.calTargetsOf (c.bits 1 3 0) (c.bits 1 15 8)
          (c.bits 4 23 16))).get R.CA_RUN_STAT_RUN_SEQ])
      (fun c q => (q.calBegin (c.bits 1 3 0) (c.bit 1 16) (c.args.drop 1) (q.calTargetsOf (c.bits 1 3 0) (c.bits 1 15 8)
          (c.bits 4 23 16))))
  ∧ Fulfils .calResult cmdCalResult (fun _ _ => True)
      (fun c q => ((q.cal.results.drop (c.bits 1 5 0)).take 15).length :: ((q.cal.results.drop (c.bits 1 5 0)).take
          15).flatMap CalRes.words)
      (fun _ q => q)
  ∧ Fulfils .calRecordWrite cmdCalRecordWrite (fun c q => q.forceOk (c.bit 1 8) = true ∧ 1 ≤ c.args.length ∧ c.bits 1 31 16 <
      recKeys (c.bits 1 7 0) ∧ q.calWrites (c.bits 1 7 0) (c.bits 1 31 16) = false ∧ [0x01, 0x02, 0x04].contains (c.bits 1 7
      0) = false ∧ c.bit 1 9 = true ∧ c.bits 1 7 0 ≠ 0x03)
      (fun c q => [((q.nvFind (c.bits 1 7 0) (c.bits 1 31 16) none).map Prod.fst).getD 0])
      (fun c q => (q.nvDrop (c.bits 1 7 0) (c.bits 1 31 16) none).relook (c.bits 1 7 0) (c.bits 1 31 16))
  ∧ Fulfils .calRecordWrite cmdCalRecordWrite (fun c q => q.forceOk (c.bit 1 8) = true ∧ 1 ≤ c.args.length ∧ c.bits 1 31 16 <
      recKeys (c.bits 1 7 0) ∧ q.calWrites (c.bits 1 7 0) (c.bits 1 31 16) = false ∧ [0x01, 0x02, 0x04].contains (c.bits 1 7
      0) = false ∧ c.bit 1 9 = false ∧ ((c.args.drop 1).take (if c.bits 1 7 0 = 0x12 then max 2 (min 11 (c.args.length - 1))
      else recLen (c.bits 1 7 0) (c.bits 1 31 16))).length = (if c.bits 1 7 0 = 0x12 then max 2 (min 11 (c.args.length - 1))
      else recLen (c.bits 1 7 0) (c.bits 1 31 16)) ∧ ((c.bits 1 7 0 = 0x03 → q.rootOk (c.bits 1 31 16) ((c.args.drop 1).take
      (if c.bits 1 7 0 = 0x12 then max 2 (min 11 (c.args.length - 1)) else recLen (c.bits 1 7 0) (c.bits 1 31 16))) = true)) ∧
      q.plausible (c.bits 1 7 0) (c.bits 1 31 16) none ((c.args.drop 1).take (if c.bits 1 7 0 = 0x12 then max 2 (min 11
      (c.args.length - 1)) else recLen (c.bits 1 7 0) (c.bits 1 31 16))) (c.bit 1 8) = 0 ∧ (q.nvPut (c.bits 1 7 0) (c.bits 1
      31 16) none ((c.args.drop 1).take (if c.bits 1 7 0 = 0x12 then max 2 (min 11 (c.args.length - 1)) else recLen (c.bits 1
      7 0) (c.bits 1 31 16)))).isSome)
      (fun c q => [((q.nvPut (c.bits 1 7 0) (c.bits 1 31 16) none ((c.args.drop 1).take (if c.bits 1 7 0 = 0x12 then max 2
          (min 11 (c.args.length - 1)) else recLen (c.bits 1 7 0) (c.bits 1 31 16)))).map Prod.fst).getD 0])
      (fun c q => ((q.nvPut (c.bits 1 7 0) (c.bits 1 31 16) none ((c.args.drop 1).take (if c.bits 1 7 0 = 0x12 then max 2 (min
          11 (c.args.length - 1)) else recLen (c.bits 1 7 0) (c.bits 1 31 16)))).map fun e => e.2.relook (c.bits 1 7 0)
          (c.bits 1 31 16)).getD q)
  ∧ Fulfils .calRecordRead cmdCalRecordRead (fun c q => c.bits 1 31 16 < recKeys (c.bits 1 7 0) ∧ (q.nvFind (c.bits 1 7 0)
      (c.bits 1 31 16) (if 2 ≤ c.args.length then some (c.bits 2 19 0) else none)).isSome)
      (fun c q => (2 ^ 31 + ((q.nvFind (c.bits 1 7 0) (c.bits 1 31 16) (if 2 ≤ c.args.length then some (c.bits 2 19 0) else
          none)).getD (0, [])).1) :: (List.range 16).map fun i => ((q.nvFind (c.bits 1 7 0) (c.bits 1 31 16) (if 2 ≤
          c.args.length then some (c.bits 2 19 0) else none)).getD (0, [])).2.getD i 0)
      (fun _ q => q)
  ∧ Fulfils .calRecordRead cmdCalRecordRead (fun c q => c.bits 1 31 16 < recKeys (c.bits 1 7 0) ∧ (q.nvFind (c.bits 1 7 0)
      (c.bits 1 31 16) (if 2 ≤ c.args.length then some (c.bits 2 19 0) else none)) = none)
      (fun _ _ => List.replicate 17 0)
      (fun _ q => q)
  ∧ Fulfils .calLinkRecord cmdCalLinkRecord (fun c q => q.forceOk (c.bit 1 9) = true ∧ c.bit 1 8 = true ∧ 2 ≤ c.args.length ∧
      c.bits 1 5 0 < 48 ∧ q.calWrites 0x20 (c.bits 1 5 0) = false)
      (fun _ _ => [0])
      (fun c q => (q.nvDrop 0x20 (c.bits 1 5 0) (some (c.bits 2 19 0))).relook 0x20 (c.bits 1 5 0))
  ∧ Fulfils .calLinkRecord cmdCalLinkRecord (fun c q => q.forceOk (c.bit 1 9) = true ∧ c.bit 1 8 = false ∧ 5 ≤ c.args.length ∧
      c.bits 1 5 0 < 48 ∧ c.bits 3 15 0 ≠ 0 ∧ q.calWrites 0x20 (c.bits 1 5 0) = false ∧ q.plausible 0x20 (c.bits 1 5 0) (some
      (c.bits 2 19 0)) [c.bits 3 15 0, c.arg 4, c.arg 5, 0] (c.bit 1 9) = 0 ∧ (q.nvPut 0x20 (c.bits 1 5 0) (some (c.bits 2 19
      0)) [c.bits 3 15 0, c.arg 4, c.arg 5, 0]).isSome)
      (fun c q => [((q.nvPut 0x20 (c.bits 1 5 0) (some (c.bits 2 19 0)) [c.bits 3 15 0, c.arg 4, c.arg 5, 0]).map fun e =>
          asymCheck q.nodeId (c.bits 2 19 0) (Tab.get [] e.2.nv e.1)).getD 0])
      (fun c q => ((q.nvPut 0x20 (c.bits 1 5 0) (some (c.bits 2 19 0)) [c.bits 3 15 0, c.arg 4, c.arg 5, 0]).map fun e =>
          e.2.relook 0x20 (c.bits 1 5 0)).getD q)

/-- Tier 1. The control complex (R458 to R462, R471). A ready core takes the next waiting request of its mailboxes in rotation,
one it held back, or goes on with the load in hand; C0 carries out the oldest command of the internal queue; a lockstep
mismatch, a double-bit error on a fetch and an expired watchdog (no sooner than three quarters of its timeout after the last
kick) restart the core with their cause, a double-bit error on a data access gets a bus error; a kick restarts a running
watchdog's count; at the end of its restart a core is up again, from its image in CSRAM, or from flash where that image is
spoilt. -/
def Obligations.ControlEventsComplete : Prop :=
  (∀ (s e : State) (dt core mb : Nat), e = s.elapse dt → (core = 0 ∨ core = 2 ∨ core = 3) → e.coreReady core = true →
      e.takenBy core = none → (e.turns core).find? e.mbWaiting = some mb →
      exec (.requestTake dt core) s = .next (e.takeMb mb (e.mbCmd mb)))
  ∧ (∀ (s e : State) (dt core : Nat) (x : Taken), e = s.elapse dt → (core = 2 ∨ core = 3) → e.coreReady core = true →
      e.takenBy core = some x → e.heldBack core x.mb = true →
      exec (.requestTake dt core) s = .next (e.takeMb x.mb (e.mbCmd x.mb)))
  ∧ (∀ (s e : State) (dt core : Nat) (x : Taken), e = s.elapse dt → (core = 0 ∨ core = 2 ∨ core = 3) → e.coreReady core = true
      → e.takenBy core = some x → e.heldBack core x.mb = false → (Tab.find? e.ctl.semWait x.mb).isSome = true →
      exec (.requestTake dt core) s = .next (e.carryOut x.mb (e.mbCmd x.mb)))
  ∧ (∀ (s e : State) (dt mb : Nat) (x : Taken) (r : ImgRun), e = s.elapse dt → e.coreReady 0 = true → e.takenBy 0 = some x →
      (Tab.find? e.ctl.semWait x.mb).isSome = false → e.ctl.load = some (mb, r) →
      exec (.requestTake dt 0) s = .next (e.loadGo mb r))
  ∧ (∀ (s e : State) (dt mb : Nat) (rest : List Nat), e = s.elapse dt → e.ctl.queue = mb :: rest → e.coreReady 0 = true →
      e.ctl.takenS = none →
      exec (.secureQueuePass dt) s = .next (({ e with ctl := { e.ctl with queue := rest } }.setTaken 0 (some
          { mb := mb })).carryOut mb (e.mbCmd mb)))
  ∧ (∀ (s e : State) (dt : Nat), e = s.elapse dt → e.coreRuns 0 = true → 
      exec (.lockstepMismatch dt) s = .next (((e.incSat R.MB_STATUS_LOCKSTEP_CNT).raise 89).restartCore 0 2))
  ∧ (∀ (s e : State) (dt core region : Nat), e = s.elapse dt → region < 32 → e.coreRuns core = true → 
      exec (.csramDbe dt core region true) s = .next ((({ e with ctl := { e.ctl with dbeRegion := some region } }).raise 91
          region).restartCore core 3))
  ∧ (∀ (s e : State) (dt core region : Nat), e = s.elapse dt → region < 32 → e.coreRuns core = true → 
      exec (.csramDbe dt core region false) s = .next ((({ e with ctl := { e.ctl with dbeRegion := some region } }).raise 91
          region).emit (.errResp core (0x40000 * region))))
  ∧ (∀ (s e : State) (dt core t : Nat), e = s.elapse dt → Tab.find? e.ctl.kicked core = some t → 4 * t + 3 * e.get
      R.MB_WDTc_CFG_TIMEOUT core * 10 ^ 9 ≤ 4 * e.clk →
      exec (.watchdogExpiry dt core) s = .next (e.restartCore core 1))
  ∧ (∀ (s q : State) (init core : Nat), q = s.quiet → Allowed q init (0x660000 + 4 * core) true → core < 4 → q.coreRuns core =
      true →
      exec (.wdtKick init core) s = .next (q.direct fun q =>
          { q with ctl := { q.ctl with kicked := Tab.put q.ctl.kicked core q.clk } }))
  ∧ (∀ (s e : State) (dt core : Nat), e = s.elapse dt → (Tab.find? e.ctl.restart core).isNone = false → (e.runSlot = none ∨
      e.imageSpoilt core = false) →
      exec (.coreRestartEnd dt core) s = .next (e.coreUp core))
  ∧ (∀ (s e : State) (dt core slot : Nat), e = s.elapse dt → (Tab.find? e.ctl.restart core).isNone = false → e.runSlot = some
      slot → e.imageSpoilt core = true →
      exec (.coreRestartEnd dt core) s = .next (if e.fwAccepted slot then (e.loadFw slot).coreUp core else e))

/-- Tier 1. SEM_ACQUIRE and SEM_RELEASE of an agent that may use the semaphore, and the end of a lease (R487, R488, R490, R491).
An acquire of a free one records the owner and keeps BROKEN; with LEASE 1 to 1000 it is released with BROKEN when the lease
has passed; LEASE 0 gives none; above 1000 the acquire is ignored; an acquire of a held one gives it to nobody else, but of
the acquires of one cycle the lowest owner ID wins, and one that a release follows on its cycle succeeds. A release by the
owner clears BROKEN; any other release, and any access to SEM00 to SEM31 by an agent that is not secure, is refused as a
violation of KIND 2. The model notes on a semaphore the cycle of its latest access and the acquires that found it held then. -/
def Obligations.SemaphoresComplete : Prop :=
  (∀ (s q : State) (init n lease : Nat), q = s.quiet → n < 64 → init ≠ 8 → semOpen init n = true → (q.semOf n).held = false →
      1 ≤ lease → lease ≤ 1000 →
      exec (.semAcquire init n lease) s = .next (q.semTake { (q.semOf n) with seen := q.clk, tried := [], fresh := false }
          init n lease))
  ∧ (∀ (s q : State) (init n : Nat), q = s.quiet → n < 64 → init ≠ 8 → semOpen init n = true → (q.semOf n).held = false → 
      exec (.semAcquire init n 0) s = .next (q.semTake { (q.semOf n) with seen := q.clk, tried := [], fresh := false } init n
          0))
  ∧ (∀ (s q : State) (init n lease : Nat), q = s.quiet → n < 64 → init ≠ 8 → semOpen init n = true → 1000 < lease → lease <
      1024 →
      exec (.semAcquire init n lease) s = .next (q))
  ∧ (∀ (s q : State) (init n lease : Nat), q = s.quiet → n < 64 → init ≠ 8 → semOpen init n = true → lease ≤ 1000 → (q.semOf
      n).held = true →
      exec (.semAcquire init n lease) s = .next
          ({ q with sem := Tab.put q.sem n { (q.semOf n) with seen := q.clk, tried := [(init, lease)], fresh := false } }))
  ∧ (∀ (s q : State) (init n lease : Nat), q = s.quiet → n < 64 → init ≠ 8 → semOpen init n = true → (q.semOf n).seen / 800 =
      q.clk / 800 → lease ≤ 1000 → (q.semOf n).held = true → (q.semOf n).fresh = true → init < (q.semOf n).owner →
      exec (.semAcquire init (64 + n) lease) s = .next (q.semTake (q.semOf n) init n lease))
  ∧ (∀ (s q : State) (init n : Nat), q = s.quiet → n < 64 → init ≠ 8 → semOpen init n = true → (q.semOf n).held = true →
      (q.semOf n).owner = init →
      exec (.semRelease init n) s = .next
          ({ q with sem := Tab.put q.sem n { (q.semOf n) with held := false, broken := false, lease := none, seen := q.clk, tried := [], fresh := false } }))
  ∧ (∀ (s q : State) (init n a lease : Nat), q = s.quiet → n < 64 → init ≠ 8 → semOpen init n = true → (q.semOf n).seen / 800
      = q.clk / 800 → (q.semOf n).held = true → (q.semOf n).owner = init → firstTried (q.semOf n).tried = some (a, lease) →
      exec (.semRelease init (64 + n)) s = .next (q.semTake
          { (q.semOf n) with held := false, broken := false, lease := none, tried := [], fresh := false } a n lease))
  ∧ (∀ (s q : State) (init n : Nat), q = s.quiet → n < 64 → init ≠ 8 → semOpen init n = true → ((q.semOf n).held = false ∨
      (q.semOf n).owner ≠ init) →
      exec (.semRelease init n) s = .next (q.refuseAccess 2 .bar 63 init true 1 (semAddr n)))
  ∧ (∀ (s q : State) (init n lease : Nat), q = s.quiet → n < 64 → init ≠ 8 → semOpen init n = false → 
      exec (.semAcquire init n lease) s = .next (q.refuseAccess 2 .bar 63 init true 1 (semAddr n)))
  ∧ (∀ (s e : State) (dt n t : Nat), e = s.elapse dt → n < 64 → (e.semOf n).held = true → (e.semOf n).lease = some t → t ≤
      e.clk →
      exec (.semLeaseExpiry dt n) s = .next
          ({ e with sem := Tab.put e.sem n { held := false, owner := (e.semOf n).owner, broken := true } }.raise 92 (det2 n
          (e.semOf n).owner)))

/-- Tier 1. Power and resets (R566 to R568, R573, R578 to R581, R640). Power-on leaves a new Understory and begins a cold start;
the pin, the device command 1 ms after its acceptance, and the retry 100 ms after a failure begin a start of their kind,
with the dies' supplies kept; a die's reset runs its restore; DORMANT saves and switches the dies off, and each armed wake
begins a warm start; the loss of vdd_us clears Understory. A rail leaving its window raises SUPPLY_WARN, one returning
clears it; every 1 ms each die's temperature is judged against both limits; every second the time record is saved. -/
def Obligations.ResetsAndMonitorsComplete : Prop :=
  (∀ (s e : State) (dt : Nat), e = s.elapse dt → 
      exec (.powerOn dt) s = .next
          ((((({ pending := e.pending, out := e.out, drawn := e.drawn, nv := e.nv, nvLast := e.nvLast, bootCfg := e.bootCfg, flash := e.flash, us := { clk0 := e.us.clk0 + e.clk, keeper0 := Config.keeperAt (e.us.clk0 + e.clk) } }
          : State).bootSync.nvSync).set R.HI_I2C_STAT_ADDR (0x58 + Config.i2cStrap % 8)).enterS1)))
  ∧ (∀ (s e : State) (dt : Nat), e = s.elapse dt → e.pw.off = false → 
      exec (.pinReset dt) s = .next (e.beginStart (e.mode != 0) (!e.on R.PM_START_CFG_PIN_KIND) false))
  ∧ (∀ (s e : State) (dt : Nat) (r : ResetReq), e = s.elapse dt → e.pw.reset = some r → r.scope = 0 → r.at_ + 10 ^ 9 ≤ e.clk →
      exec (.deviceReset dt) s = .next (e.beginStart true (!r.warm) r.clr))
  ∧ (∀ (s e : State) (dt : Nat) (r : ResetReq), e = s.elapse dt → e.pw.reset = some r → r.scope ≠ 0 → r.at_ + 10 ^ 9 ≤ e.clk →
      exec (.dieReset dt) s = .next ({ e with pw := { e.pw with reset := none } }.resetDie (r.scope - 1)))
  ∧ (∀ (s e : State) (dt f : Nat), e = s.elapse dt → e.pw.failedAt = some f → f + 10 ^ 11 ≤ e.clk → 
      exec (.startRetryReset dt) s = .next (e.beginStart true (!e.on R.MODE_STATE_START_KIND) false))
  ∧ (∀ (s e : State) (dt : Nat), e = s.elapse dt → e.pw.dormant = true → 
      exec (.dormantEntry dt) s = .next (e.saveTime.sleepGnss.diesOff))
  ∧ (∀ (s e : State) (dt : Nat), e = s.elapse dt → e.dormantNow = true → e.on R.PM_WAKE_CFG_WAKE_PIN_EN = true → 
      exec (.wakePin dt) s = .next (e.wakeUp 0))
  ∧ (∀ (s e : State) (dt : Nat), e = s.elapse dt → e.dormantNow = true → e.on R.PM_WAKE_CFG_ALARM_EN = true → e.get64
      R.PM_WAKE_ALARM_LO_ALARM R.PM_WAKE_ALARM_HI_ALARM ≤ e.keeper →
      exec (.keeperAlarm dt) s = .next (e.wakeUp 1))
  ∧ (∀ (s e : State) (dt : Nat), e = s.elapse dt → 
      exec (.vddUsLoss dt) s = .next
          ((({ pending := e.pending, out := e.out, drawn := e.drawn, nv := e.nv, nvLast := e.nvLast, bootCfg := e.bootCfg, flash := e.flash, us := { clk0 := e.us.clk0 + e.clk }, pw := { off := true } }
          : State).haltStart.set R.MODE_STATE_MODE 0)))
  ∧ (∀ (s e : State) (dt r : Nat), e = s.elapse dt → r < 8 → bitOf (e.get R.PM_SUPPLY_STAT_OUT) r = false → 
      exec (.supplyWarn dt r) s = .next (((e.set R.PM_SUPPLY_STAT_OUT (e.get R.PM_SUPPLY_STAT_OUT + 2 ^ r)).set
          R.PWR_STATE_SUPPLY_WARN 1).raise 106 r))
  ∧ (∀ (s e : State) (dt r : Nat), e = s.elapse dt → r < 8 → bitOf (e.get R.PM_SUPPLY_STAT_OUT) r = true → 
      exec (.supplyReturn dt r) s = .next ((e.set R.PM_SUPPLY_STAT_OUT (e.get R.PM_SUPPLY_STAT_OUT - 2 ^ r)).setB
          R.PWR_STATE_SUPPLY_WARN (e.get R.PM_SUPPLY_STAT_OUT - 2 ^ r != 0)))
  ∧ (∀ (s e : State) (dt : Nat) (t a b : Int), e = s.elapse dt → e.pw.tempAt + 10 ^ 9 ≤ e.clk → 
      exec (.tempSample dt t a b) s = .next ([0, 1, 2].foldl (fun s d => (s.tempJudge d d 107 (s.get
          R.PM_TEMP_CFG_WARN_LIM)).tempJudge d (3 + d) 108 (s.get R.PM_TEMP_CFG_CRIT_LIM))
          ((({ e with pw := { e.pw with tempAt := e.clk } }.accrueAll).writes [{ f := R.PM_TEMP_STAT_TEMP_T, v := wrap 8 t },
          { f := R.PM_TEMP_STAT_TEMP_A, v := wrap 8 a }, { f := R.PM_TEMP_STAT_TEMP_B, v := wrap 8 b }]).tempSync)))
  ∧ (∀ (s e : State) (dt : Nat), e = s.elapse dt → e.pw.saveAt + 10 ^ 12 ≤ e.clk → e.coreRuns 0 = true → 
      exec (.timeRecordSave dt) s = .next (e.saveTime))

/-- Tier 1. The start sequence (R482, R483, R510, R512, R570, R571, R573). A step that the start runs does its own work once,
runs its entries of the configuration image, and passes when what it waits for holds, with START_STEP and the step's bit of
STEP_PASS: S1 with the supplies good, S2 with the records read, or live trim kept, S3 with every fault repaired, S4 once
firmware is loaded, S5 when APLL0 and APLL1 have locked, S6 with training open, S7 when every enabled port is ACTIVE or
after 1 s, S8 with time resumed at a warm start, S9 with the delays measured or resumed, S10 with the receiver started, S11
when, after the placement of a warm start that kept CSRAM is reinstated, no placement is in progress, S12 when the commit it
makes is taken. A failed step, and one past its limit, fails the start. -/
def Obligations.StartStepsComplete : Prop :=
  (∀ (s e : State) (dt : Nat), e = s.elapse dt → e.enterS1.stepNow 1 = true → e.enterS1.pw.begun = false → (((((List.range
      4).foldl (fun s a => s.set R.SY_APLLa_STAT_REF_OK 1 a) e.enterS1.beganStep).trainLinks [0, 1, 2]).runEntries 1).2 = some
      true) → e.enterS1.overLimit 1 = false →
      exec (.powerSequencing dt true) s = .next (((((List.range 4).foldl (fun s a => s.set R.SY_APLLa_STAT_REF_OK 1 a)
          e.enterS1.beganStep).trainLinks [0, 1, 2]).runEntries 1).1.passStep 1))
  ∧ (∀ (s e : State) (dt : Nat), e = s.elapse dt → e.enterS1.stepNow 1 = true → e.enterS1.pw.begun = false →
      e.enterS1.overLimit 1 = false →
      exec (.powerSequencing dt false) s = .next (e.enterS1.beganStep.failStep 1))
  ∧ (∀ (s e : State) (dt : Nat), e = s.elapse dt → e.stepNow 2 = true → e.pw.begun = false → (e.beganStep.warmStart &&
      e.beganStep.pw.trim) = false → e.beganStep.loadRecords.2 = true → ((e.beganStep.loadRecords.1).runEntries 2).2 = some
      true → e.overLimit 2 = false →
      exec (.trimLoad dt true) s = .next
          ({ ((e.beganStep.loadRecords.1).runEntries 2).1 with ci := { ((e.beganStep.loadRecords.1).runEntries 2).1.ci with passStart := some ((e.beganStep.loadRecords.1).runEntries 2).1.clk } }.passStep
          2))
  ∧ (∀ (s e : State) (dt : Nat) (ok : Bool), e = s.elapse dt → e.stepNow 2 = true → e.pw.begun = false → e.beganStep.warmStart
      = true → e.beganStep.pw.trim = true → (e.beganStep.runEntries 2).2 = some true → e.overLimit 2 = false →
      exec (.trimLoad dt ok) s = .next
          ({ (e.beganStep.runEntries 2).1 with ci := { (e.beganStep.runEntries 2).1.ci with passStart := some (e.beganStep.runEntries 2).1.clk } }.passStep
          2))
  ∧ (∀ (s e : State) (dt : Nat) (ok : Bool), e = s.elapse dt → e.stepNow 3 = true → e.pw.begun = false → (e.warmStart || ok) =
      true → (e.beganStep.runEntries 3).2 = some true → e.overLimit 3 = false →
      exec (.bist dt ok) s = .next ((e.beganStep.runEntries 3).1.passStep 3))
  ∧ (∀ (s e : State) (dt : Nat), e = s.elapse dt → e.stepNow 3 = true → e.pw.begun = false → e.warmStart = false → e.overLimit
      3 = false →
      exec (.bist dt false) s = .next (e.beganStep.failStep 3))
  ∧ (∀ (s e : State) (dt : Nat), e = s.elapse dt → e.stepNow 4 = true → e.pw.begun = false → 
      exec (.firmware dt) s = .next (e.runStep 4 (fun s =>
          (match s.bootFw with | (t, true) => t.takeImage | (t, false) => (t, false))) (fun s => (((s.coreUp 0).coreUp
          2).coreUp 3, some true))))
  ∧ (∀ (s e : State) (dt : Nat), e = s.elapse dt → e.stepNow 4 = true → e.pw.begun = true → (e.runEntries 4).2 = some true →
      e.overLimit 4 = false →
      exec (.firmware dt) s = .next (((((e.runEntries 4).1.coreUp 0).coreUp 2).coreUp 3).passStep 4))
  ∧ (∀ (s e : State) (dt : Nat), e = s.elapse dt → e.stepNow 5 = true → e.pw.begun = true → (e.runEntries 5).2 = some true →
      (e.runEntries 5).1.on R.SY_APLLa_STAT_LOCKED 0 = true → (e.runEntries 5).1.on R.SY_APLLa_STAT_LOCKED 1 = true →
      e.overLimit 5 = false →
      exec (.apllBandSearch dt) s = .next ((e.runEntries 5).1.passStep 5))
  ∧ (∀ (s e : State) (dt : Nat), e = s.elapse dt → e.stepNow 5 = true → e.pw.begun = false → ((((List.range 4).foldl (fun s a
      => if s.on R.SY_APLLa_CFG_EN a then s.relock a else s) e.beganStep).runEntries 5).2 = some true) → (((((List.range
      4).foldl (fun s a => if s.on R.SY_APLLa_CFG_EN a then s.relock a else s) e.beganStep).runEntries 5).1.on
      R.SY_APLLa_STAT_LOCKED 0 && (((List.range 4).foldl (fun s a => if s.on R.SY_APLLa_CFG_EN a then s.relock a else s)
      e.beganStep).runEntries 5).1.on R.SY_APLLa_STAT_LOCKED 1) = false) → e.overLimit 5 = false →
      exec (.apllBandSearch dt) s = .next ((((List.range 4).foldl (fun s a => if s.on R.SY_APLLa_CFG_EN a then s.relock a else
          s) e.beganStep).runEntries 5).1))
  ∧ (∀ (s e : State) (dt : Nat), e = s.elapse dt → e.stepNow 6 = true → e.pw.begun = false →
      (e.beganStep.openTraining.runEntries 6).2 = some true → e.overLimit 6 = false →
      exec (.laneTraining dt) s = .next ((e.beganStep.openTraining.runEntries 6).1.passStep 6))
  ∧ (∀ (s e : State) (dt : Nat), e = s.elapse dt → e.stepNow 7 = true → e.pw.begun = false → (e.beganStep.runEntries 7).2 =
      some true → ((e.beganStep.runEntries 7).1.allActive = true ∨ (e.beganStep.runEntries 7).1.pw.stepAt + 10 ^ 12 ≤
      (e.beganStep.runEntries 7).1.clk) → e.overLimit 7 = false →
      exec (.capabilityExchange dt) s = .next ((e.beganStep.runEntries 7).1.passStep 7))
  ∧ (∀ (s e : State) (dt : Nat), e = s.elapse dt → e.stepNow 8 = true → e.pw.begun = false → ((if e.beganStep.warmStart then
      e.beganStep.resumeTime else e.beganStep).runEntries 8).2 = some true → e.overLimit 8 = false →
      exec (.timebases dt) s = .next (((if e.beganStep.warmStart then e.beganStep.resumeTime else e.beganStep).runEntries
          8).1.passStep 8))
  ∧ (∀ (s e : State) (dt : Nat) (vs : List Int), e = s.elapse dt → e.stepNow 9 = true → e.pw.begun = false →
      e.beganStep.warmStart = false → ((e.beganStep.measureDelays vs).runEntries 9).2 = some true → e.overLimit 9 = false →
      exec (.internalDelayCalibration dt true vs) s = .next (((e.beganStep.measureDelays vs).runEntries 9).1.passStep 9))
  ∧ (∀ (s e : State) (dt : Nat) (ok : Bool) (vs : List Int), e = s.elapse dt → e.stepNow 9 = true → e.pw.begun = false →
      e.beganStep.warmStart = true → (e.beganStep.resumeDelays.runEntries 9).2 = some true → e.overLimit 9 = false →
      exec (.internalDelayCalibration dt ok vs) s = .next ((e.beganStep.resumeDelays.runEntries 9).1.passStep 9))
  ∧ (∀ (s e : State) (dt : Nat), e = s.elapse dt → e.stepNow 10 = true → e.pw.begun = false →
      (e.beganStep.startGnss.runEntries 10).2 = some true → e.overLimit 10 = false →
      exec (.gnss dt) s = .next ((e.beganStep.startGnss.runEntries 10).1.passStep 10))
  ∧ (∀ (s e : State) (dt : Nat), e = s.elapse dt → e.stepNow 11 = true → e.pw.begun = false → (e.beganStep.runEntries 11).2 =
      some true → (e.beganStep.runEntries 11).1.placeAgain.foState < 2 → e.overLimit 11 = false →
      exec (.flowPlacement dt) s = .next
          ({ (e.beganStep.runEntries 11).1.placeAgain with pw := { (e.beganStep.runEntries 11).1.placeAgain.pw with placed := true, model := none } }.passStep
          11))
  ∧ (∀ (s e : State) (dt : Nat), e = s.elapse dt → e.stepNow 12 = true → e.pw.begun = false → e.ci.commit = none →
      (e.beganStep.runEntries 12).2 = some true → (e.beganStep.runEntries 12).1.imageCommits = false → (e.beganStep.runEntries
      12).1.pw.committed = false → e.overLimit 12 = false →
      exec (.configurationCrcCheck dt) s = .next ((let t := if (e.beganStep.runEntries 12).1.ci.commit.isSome then
          (e.beganStep.runEntries 12).1 else (e.beganStep.runEntries 12).1.acceptCommit 0 0 none;
          { t with pw := { t.pw with committed := true } })))
  ∧ (∀ (s e : State) (dt : Nat), e = s.elapse dt → e.stepNow 12 = true → e.pw.begun = true → (e.runEntries 12).2 = some true →
      (e.runEntries 12).1.imageCommits = false → (e.runEntries 12).1.pw.committed = true → (e.runEntries 12).1.ci.commit =
      none → e.overLimit 12 = false →
      exec (.configurationCrcCheck dt) s = .next ((e.runEntries 12).1.passStep 12))
  ∧ (∀ (s e : State) (dt : Nat), e = s.elapse dt → e.stepNow 12 = true → e.pw.begun = true → (e.runEntries 12).2 = some true →
      (e.runEntries 12).1.imageCommits = true → (e.runEntries 12).1.pw.committed = true → (e.runEntries 12).1.pw.checkNext =
      false → (e.runEntries 12).1.on R.CI_STAT_DRIFT = false → e.overLimit 12 = false →
      exec (.configurationCrcCheck dt) s = .next ((e.runEntries 12).1.passStep 12))
  ∧ (∀ (s e : State) (dt k l : Nat), e = s.enterS1.elapse dt → e.on R.MODE_STATE_START_RUN = true → e.get R.MODE_STATE_STEP =
      k → stepLimit k e.warmStart = some l → e.pw.stepAt + l * 10 ^ 9 < e.clk →
      exec (.startStepTimeout dt) s = .next (e.failStep k))

/-- Tier 1. Heartwood (R27, R46, R49, R51 to R53, R74, R77, R79). A pulse of a running timebase updates its replica on a port
die; an enabled pair is sampled, and a waiting domain switch is made at the sample; a write of SWITCH requests one where
none waits and the offset stays within 1 s; leap entries due are applied; FREQ_HI commits both halves while the host is the
source, and is ignored otherwise; a comparator's CTRL is judged and armed, and fires at its target; a write of TS_SNAP_CTRL
takes or clears, and a capture completes as a whole. -/
def Obligations.HeartwoodEventsComplete : Prop :=
  (∀ (s e : State) (dt die n : Nat) (err : Int), e = s.elapse dt → n < 8 → die < 2 → e.pulseDue die n = true → 
      exec (.heartwoodPulse dt die n err) s = .next (e.pulse die n err))
  ∧ (∀ (s e : State) (dt k : Nat), e = s.elapse dt → k < 4 → e.on R.HW_PAIRk_CFG_EN k = true → 0 < e.sampleMs k → 
      exec (.pairOffsetSample dt k) s = .next (e.pairTick k))
  ∧ (∀ (s e : State) (dt k cause : Nat), e = s.elapse dt → k < 4 → e.on R.HW_PAIRk_CFG_EN k = true → 0 < e.sampleMs k →
      (e.pairRec k).awaiting = some cause →
      exec (.domainSwitch dt k) s = .next ((e.samplePair k).switchDomain k cause))
  ∧ (∀ (s q : State) (init k : Nat), q = s.quiet → Allowed q init (0x610000 + 4 * k) true → k < 4 → q.on R.HW_PAIRk_CFG_EN k =
      true → (q.pairRec k).awaiting = none → q.pairConverging k = false → (q.pairRec k).ofs.natAbs ≤ switchMax →
      exec (.pairSwitchWrite init k) s = .next (q.direct fun q => q.pairUpd k fun r =>
          { r with awaiting := some 0, awaitMb := none }))
  ∧ (∀ (s e : State) (dt n : Nat), e = s.elapse dt → n < 8 → 
      exec (.leapApplied dt n) s = .next (e.applyLeaps n))
  ∧ (∀ (s q : State) (init n v : Nat), q = s.quiet → Allowed q init (0x610108 + 0x40 * n) true → n < 8 → q.on
      R.HW_TBn_CTRL_SRC n = true → q.tbOn n = true → (sext 40 ((q.tbOf n).freqLo + v % 256 * 2 ^ 32)).natAbs ≤ 140737488355 →
      q.writable [{ f := R.HW_TBn_FREQ_HI_FREQ, i := n, v := v % 256 }] →
      exec (.freqHiWrite init n v) s = .next (q.direct fun q => q.takeFreq n (sext 40 ((q.tbOf n).freqLo + v % 256 * 2 ^
          32))))
  ∧ (∀ (s q : State) (init n v : Nat), q = s.quiet → Allowed q init (0x610108 + 0x40 * n) true → n < 8 → q.on
      R.HW_TBn_CTRL_SRC n = false →
      exec (.freqHiWrite init n v) s = .next (q.direct fun q => q))
  ∧ (∀ (s q : State) (init n v : Nat), q = s.quiet → Allowed q init (0x610108 + 0x40 * n) true → n < 8 → q.on
      R.HW_TBn_CTRL_SRC n = true → ((q.tbOn n = false ∨ 140737488355 < (sext 40 ((q.tbOf n).freqLo + v % 256 * 2 ^
      32)).natAbs)) → q.writable [{ f := R.HW_TBn_FREQ_HI_FREQ, i := n, v := v % 256 }] →
      exec (.freqHiWrite init n v) s = .next (q.direct fun q => q))
  ∧ (∀ (s q : State) (init m w : Nat), q = s.quiet → Allowed q init (0x610400 + 0x10 * m) true → m < 32 → q.writable
      (R.HW_CMPm_CTRL.writes w m) →
      exec (.cmpArm init m w) s = .next (q.direct fun q => q.cmpCtrl m w))
  ∧ (∀ (s e : State) (dt m : Nat), e = s.elapse dt → m < 32 → e.on R.HW_CMPm_CTRL_ARM m = true → e.tbOn (e.get
      R.HW_CMPm_CTRL_TB m) = true → e.cmpGoal m ≤ units16 (e.time (e.get R.HW_CMPm_CTRL_TB m)) →
      exec (.cmpFire dt m) s = .next (e.fireCmp m 1 (e.cmpEdge m)))
  ∧ (∀ (s q : State) (init w : Nat), q = s.quiet → Allowed q init (0x200000) true → bitOf w 31 = true → 
      exec (.snapCapture init w) s = .next (q.direct fun q => (if bitOf w 9 then (q.set R.TS_SNAP_CTRL_TB_MASK (bits w 7
          0)).set R.TS_SNAP_CTRL_OVERRUN 0 else q.set R.TS_SNAP_CTRL_TB_MASK (bits w 7 0)).capture (bits w 7 0) none))
  ∧ (∀ (s q : State) (init w : Nat), q = s.quiet → Allowed q init (0x200000) true → bitOf w 31 = false → 
      exec (.snapCapture init w) s = .next (q.direct fun q => if bitOf w 9 then (q.set R.TS_SNAP_CTRL_TB_MASK (bits w 7
          0)).set R.TS_SNAP_CTRL_OVERRUN 0 else q.set R.TS_SNAP_CTRL_TB_MASK (bits w 7 0)))
  ∧ (∀ (s e : State) (dt : Nat), e = s.elapse dt → e.on R.TS_SNAP_CTRL_BUSY = true → 
      exec (.snapComplete dt) s = .next (e.snapDone))

/-- Tier 1. Outputs (R56 to R61, R353, R371). A PPS output handles its boundary once, a new second in SECOND mode, a firing in
CMP mode, and its pulse ends after WIDTH; the oldest captured ToD frame leaves OFFSET after its boundary where the output is
enabled and driven, and is dropped where it is not; an IRIG-B frame begins at each new second that lets it begin. A port
that is free decides: its buckets fill, its windows are judged, and the copy of the class chosen starts, or the guard is
counted; a transmission ends at its stop. -/
def Obligations.OutputEventsComplete : Prop :=
  (∀ (s e : State) (dt n : Nat), e = s.elapse dt → n < 4 → e.ppsCmpMode n = false → (e.ppsOf n).seen < secsOf (e.ppsTime n) → 
      exec (.ppsPulse dt n) s = .next (e.ppsBoundary n (secsOf (e.ppsTime n))))
  ∧ (∀ (s e : State) (dt n : Nat) (edge : Int) (rest : List Int), e = s.elapse dt → n < 4 → e.ppsCmpMode n = true → (e.ppsOf
      n).due = edge :: rest →
      exec (.ppsPulse dt n) s = .next ((e.ppsUpd n fun p => { p with due := rest }).ppsFire n edge))
  ∧ (∀ (s e : State) (dt n : Nat), e = s.elapse dt → n < 4 → e.ppsCmpMode n = true → (e.ppsOf n).due = [] → e.ppsAhead n =
      true →
      exec (.ppsPulse dt n) s = .next ((e.ppsUpd n fun p =>
          { p with early := some (e.cmpGoal (e.get R.HW_PPSn_CFG_CMP_NUM n)).toNat }).ppsFire n (e.cmpEdge (e.get
          R.HW_PPSn_CFG_CMP_NUM n) n)))
  ∧ (∀ (s e : State) (dt n : Nat) (t : Int), e = s.elapse dt → n < 4 → (e.ppsOf n).on = some t → t + (e.get
      R.HW_PPSn_WIDTH_WIDTH n * 10 ^ 6 : Nat) ≤ (e.clk : Int) →
      exec (.ppsPulseEnd dt n) s = .next (e.ppsUpd n fun p => { p with on := none }))
  ∧ (∀ (s e : State) (dt : Nat) (f : TodFrame) (rest : List TodFrame), e = s.elapse dt → e.serial.frames = f :: rest → f.at_ +
      (f.offset * 10 ^ 9 : Nat) ≤ (e.clk : Int) → e.on R.HW_TOD_CFG_EN = true → e.todDriven = true →
      exec (.todFrame dt) s = .next ((let t := { e with serial := { e.serial with frames := rest } }.emit (.tod f.baud
          (todBytes f.body e.serial.todSeq));
          { t with serial := { t.serial with todSeq := (e.serial.todSeq + 1) % 65536 } })))
  ∧ (∀ (s e : State) (dt : Nat) (f : TodFrame) (rest : List TodFrame), e = s.elapse dt → e.serial.frames = f :: rest → f.at_ +
      (f.offset * 10 ^ 9 : Nat) ≤ (e.clk : Int) → (e.on R.HW_TOD_CFG_EN && e.todDriven) = false →
      exec (.todFrame dt) s = .next ({ e with serial := { e.serial with frames := rest } }))
  ∧ (∀ (s e : State) (dt : Nat), e = s.elapse dt → e.serial.irigSeen < secsOf e.irigTime → e.irigBegins (secsOf e.irigTime) =
      true →
      exec (.irigFrame dt) s = .next
          ({ e with serial := { e.serial with irigSeen := secsOf e.irigTime, irigOn := none } }.irigSend (secsOf e.irigTime)))
  ∧ (∀ (s e : State) (dt : Nat), e = s.elapse dt → e.serial.irigSeen < secsOf e.irigTime → e.irigBegins (secsOf e.irigTime) =
      false →
      exec (.irigFrame dt) s = .next ({ e with serial := { e.serial with irigSeen := secsOf e.irigTime, irigOn := none } }))
  ∧ (∀ (s e : State) (dt p rho cls : Nat) (corrupt : Bool), e = s.elapse dt → p < 48 → e.portFree p = true → (((e.fillBuckets
      p).judgeWindows p).chooseClass p).map Prod.fst = some cls →
      exec (.schedulerDecision dt p rho corrupt) s = .next ((((((((e.fillBuckets p).judgeWindows p).chooseClass p).map
          Prod.snd).getD e).countGuard p (some cls)).startCopy p cls (min rho (rhoMax (e.portMode p))) corrupt)))
  ∧ (∀ (s e : State) (dt p rho : Nat) (corrupt : Bool), e = s.elapse dt → p < 48 → e.portFree p = true → ((e.fillBuckets
      p).judgeWindows p).chooseClass p = none →
      exec (.schedulerDecision dt p rho corrupt) s = .next (((e.fillBuckets p).judgeWindows p).countGuard p none))
  ∧ (∀ (s e : State) (dt p : Nat) (x : Tx), e = s.elapse dt → p < 48 → Tab.find? e.cl.tx p = some x → x.stop ≤ e.clk → 
      exec (.transmitEnd dt p) s = .next (e.endTx p x))

/-- Tier 1. Reference slots and disputes (R146 to R149, R160 to R163, R182). A slot loses activity where its interval has passed
without a sample, and samples when activity returns; a write of FEED_HI commits an estimate of a port-derived slot; the
monitors run at each new 100 ms; a wait-to-restore ends at its length; a disagreement of 4 s resolves its dispute and an
agreement of 30 s clears it; the settle window ends 2 s after the first qualification. -/
def Obligations.TaprootSlotsComplete : Prop :=
  (∀ (s e : State) (dt i : Nat), e = s.elapse dt → i < 16 → e.on R.TR_SLOTs_STAT_ACTIVE i = true → (e.slotOf i).lastPhase +
      e.silence i ≤ e.clk →
      exec (.activityLoss dt i) s = .next (e.loseActivity i))
  ∧ (∀ (s e : State) (dt i : Nat) (theta : Int), e = s.elapse dt → i < 16 → e.mayFeed i = true → e.on R.TR_SLOTs_STAT_ACTIVE i
      = false →
      exec (.activityReturn dt i theta) s = .next (e.sample i theta))
  ∧ (∀ (s q : State) (init i v : Nat), q = s.quiet → Allowed q init (0x61811C + 0x20 * i) true → i < 16 → portSlot i = true →
      q.mayFeed i = true →
      exec (.feedEstimate init i v) s = .next (q.direct fun q => q.sample i (sext 64 ((q.slotOf i).feedLo + v % 2 ^ 32 * 2 ^
          32))))
  ∧ (∀ (s e : State) (dt : Nat) (fofs : List Int) (ocxo : Int), e = s.elapse dt → e.monIndex ≠ e.tr.lastMon → 
      exec (.frequencyMonitorUpdate dt fofs ocxo) s = .next ((List.range 16).foldl (fun s i => s.monitor i (fofs.getD i 0))
          (if e.on R.TR_OCXO_STAT_ACTIVE && !e.tr.xoLost then
          { e with tr := { e.tr with lastMon := e.monIndex, ocxoOfs := ocxo } } else
          { e with tr := { e.tr with lastMon := e.monIndex } })))
  ∧ (∀ (s e : State) (dt i t : Nat), e = s.elapse dt → i < 16 → (e.slotOf i).wtrStart = some t → t + (e.slotOf i).wtrLen ≤
      e.clk →
      exec (.wtrExpiry dt i) s = .next (e.endWtr i))
  ∧ (∀ (s e : State) (dt n a b : Nat) (d : Dispute), e = s.elapse dt → e.dispOf n a b = some d → d.resolved = false → d.since
      + 4 * 10 ^ 12 ≤ e.clk → e.disagree n a b = true →
      exec (.disputeResolution dt n a b) s = .next (e.resolve d))
  ∧ (∀ (s e : State) (dt n a b : Nat) (d : Dispute), e = s.elapse dt → e.dispOf n a b = some d → d.resolved = true →
      d.agreeing = true → d.since + 30 * 10 ^ 12 ≤ e.clk → e.together d = true →
      exec (.disputeClear dt n a b) s = .next (e.clearDispute d))
  ∧ (∀ (s e : State) (dt t : Nat), e = s.elapse dt → e.tr.settleDone = false → e.tr.settleFrom = some t → t + 2 * 10 ^ 12 ≤
      e.clk →
      exec (.settleWindowEnd dt) s = .next (e.endSettle))

/-- Tier 1. DPLLs and the OCXO (R152, R154, R167 to R170, R172, R174, R186). A due tick runs the loops; after SWITCH_TIME a
switching DPLL locks on its candidate; the lock time and the model's validity are judged while a timebase runs; an open loop
without a word for SW_TIMEOUT closes with SW_TIMEOUT; a software word is taken while the loop is open, within the clamp and
1 ms after the last, and ignored otherwise; the OCXO's loss, return, warm-up and its pin move the warm state. -/
def Obligations.TaprootLoopsComplete : Prop :=
  (∀ (s e : State) (dt : Nat) (ph : List (Nat × Int)), e = s.elapse dt → e.tickDue = true → 
      exec (.tick dt ph) s = .next (e.tick ph))
  ∧ (∀ (s e : State) (dt n : Nat), e = s.elapse dt → n < 8 → e.tbOn n = true → e.dpllState n = 1 → (e.dpllOf n).lastTarget +
      e.get R.TR_DPLLn_SWT_SWITCH_TIME n * 10 ^ 9 ≤ e.clk → e.candidate n (e.get R.TR_DPLLn_STAT_TARGET n) = true →
      exec (.switchTimeElapsed dt n) s = .next (e.lockOn n))
  ∧ (∀ (s e : State) (dt n : Nat), e = s.elapse dt → n < 8 → e.tbOn n = true → 
      exec (.hoqChange dt n) s = .next (e.lockSync n))
  ∧ (∀ (s e : State) (dt n : Nat), e = s.elapse dt → n < 8 → e.tbOn n = true → 
      exec (.modelValid dt n) s = .next (e.hoqStep n))
  ∧ (∀ (s e : State) (dt n : Nat), e = s.elapse dt → n < 8 → e.on R.TR_DPLLn_CFG_OPEN n = true → (e.dpllOf n).lastSw + e.get
      R.TR_DPLLn_SWT_SW_TIMEOUT n * 10 ^ 9 ≤ e.clk →
      exec (.swloopTimeout dt n) s = .next (((e.set R.TR_DPLLn_CFG_OPEN 0 n).resumeLoop n).raise 59 n))
  ∧ (∀ (s q : State) (init n v : Nat), q = s.quiet → Allowed q init (0x618438 + 0x40 * n) true → n < 8 → q.on
      R.TR_DPLLn_CFG_OPEN n = true → q.swBusy n = false → (sext 40 ((q.dpllOf n).swfLo + v % 256 * 2 ^ 32)).natAbs ≤
      (q.clampOf n).natAbs → q.writable [{ f := R.TR_DPLLn_SWF_HI_SWF, i := n, v := v % 2 ^ 32 }] →
      exec (.swFreqWrite init n v) s = .next (q.direct fun q => q.swWord n (sext 40 ((q.dpllOf n).swfLo + v % 256 * 2 ^ 32))))
  ∧ (∀ (s q : State) (init n v : Nat), q = s.quiet → Allowed q init (0x618438 + 0x40 * n) true → n < 8 → q.on
      R.TR_DPLLn_CFG_OPEN n = false →
      exec (.swFreqWrite init n v) s = .next (q.direct fun q => q))
  ∧ (∀ (s e : State) (dt : Nat), e = s.elapse dt → e.on R.TR_OCXO_STAT_ACTIVE = true → 
      exec (.ocxoFail dt) s = .next (((e.warmFall.set R.TR_OCXO_STAT_ACTIVE 0).raise 58).ocxoSync))
  ∧ (∀ (s e : State) (dt : Nat) (pin : Bool), e = s.elapse dt → e.on R.TR_OCXO_STAT_ACTIVE = false → 
      exec (.ocxoActivityReturn dt pin) s = .next (({ e with tr := { e.tr with ocxoSince := e.keeper, warmPin := pin } }.set
          R.TR_OCXO_STAT_ACTIVE 1).warmJudge))
  ∧ (∀ (s e : State) (dt : Nat), e = s.elapse dt → e.warmDue = true → 
      exec (.ocxoWarm dt) s = .next (e.warmJudge))
  ∧ (∀ (s e : State) (dt : Nat), e = s.elapse dt → e.warmDue = false → 
      exec (.ocxoWarm dt) s = .next ({ e with tr := { e.tr with warmPin := true } }.warmJudge))
  ∧ (∀ (s e : State) (dt : Nat), e = s.elapse dt → 
      exec (.ocxoWarmPinFall dt) s = .next ({ e with tr := { e.tr with warmPin := false } }.warmJudge))

/-- Tier 1. Frequency synthesis (R200, R201, R205, R206, R211, R213 to R216). Loss of xo_in raises REF_LOST, unlocks the APLLs,
ends the qualification of every slot and puts the locked DPLLs in holdover; its return reverses the reference and begins the
locks. A search ends with its band; a lock holds for LOCK_N cycles and raises APLL_LOCK; its loss gates and begins again;
the outputs restart at the first GRAN boundary. A commit is pended for the next boundary or its target, cancelled before it
is due, and activates at its instant; a phase movement ends at its destination. -/
def Obligations.SynthesisEventsComplete : Prop :=
  (∀ (s e : State) (dt : Nat), e = s.elapse dt → e.tr.xoLost = false → 
      exec (.xoLoss dt) s = .next (e.loseXo))
  ∧ (∀ (s e : State) (dt : Nat), e = s.elapse dt → e.xoBack = true → 
      exec (.xoReturn dt) s = .next (e.regainXo))
  ∧ (∀ (s e : State) (dt a b : Nat), e = s.elapse dt → a < 4 → b < 32 → e.on R.SY_APLLa_STAT_SEARCH a = true → ((Tab.find?
      e.us.bands a ≠ some b ∨ (e.apllOf a).searchFrom + 100000000 ≤ e.clk)) →
      exec (.bandSearchEnd dt a b) s = .next
          (({ ((e.set R.SY_APLLa_STAT_BAND b a).set R.SY_APLLa_STAT_SEARCH 0 a) with us := { ((e.set R.SY_APLLa_STAT_BAND b a).set R.SY_APLLa_STAT_SEARCH 0 a).us with bands := Tab.put ((e.set R.SY_APLLa_STAT_BAND b a).set R.SY_APLLa_STAT_SEARCH 0 a).us.bands a b } }.apllUpd
          a fun p => { p with lockFrom := e.clk })))
  ∧ (∀ (s e : State) (dt a : Nat), e = s.elapse dt → a < 4 → e.on R.SY_APLLa_CFG_EN a = true → e.on R.SY_APLLa_STAT_REF_OK a =
      true → e.on R.SY_APLLa_STAT_SEARCH a = false → e.on R.SY_APLLa_STAT_LOCKED a = false → (e.apllOf a).searchFrom ≤
      (e.apllOf a).lockFrom → (e.apllOf a).lockFrom + (e.apllOf a).lockN * 10000 ≤ e.clk →
      exec (.apllLock dt a) s = .next ((((e.set R.SY_APLLa_STAT_LOCKED 1 a).apllUpd a fun p =>
          { p with restartAt := e.granIndex a + 1 }).armedSync).raise 61 a))
  ∧ (∀ (s e : State) (dt a : Nat), e = s.elapse dt → a < 4 → e.on R.SY_APLLa_STAT_LOCKED a = true → 
      exec (.apllLol dt a) s = .next ((e.raise 62 a).relock a))
  ∧ (∀ (s e : State) (dt a : Nat), e = s.elapse dt → a < 4 → e.on R.SY_APLLa_STAT_LOCKED a = true → e.on R.SY_APLLa_STAT_GATED
      a = true → (e.apllOf a).restartAt ≤ e.granIndex a →
      exec (.outputRestart dt a) s = .next (((((((e.outsOf a).foldl (fun s m =>
          { s.set R.SY_OUTm_STAT_GATED 0 m with clkout := Tab.put s.clkout m { s.clkOutOf m with first := some ((e.apllOf a).restartAt * e.granUnit a) } })
          (e.set R.SY_APLLa_STAT_GATED 0 a)).apllUpd a fun p =>
          { p with phase := e.getZ R.SY_APLLa_PHOFS_PHOFS a, phaseAt := e.clk }).set R.SY_APLLa_STAT_PH_BUSY 0
          a).outSync).firstRise (e.outsOf a) ((e.apllOf a).restartAt * e.granUnit a))))
  ∧ (∀ (s q : State) (init a : Nat), q = s.quiet → Allowed q init (0x620010 + 0x40 * a) true → a < 4 → q.writable
      [{ f := R.SY_APLLa_COMMIT_MODE, i := a, v := 0 }] → q.synPending a = false → q.groupOk a = true →
      exec (.apllCommitNext init a) s = .next (q.direct fun q => (q.writes
          [{ f := R.SY_APLLa_COMMIT_MODE, i := a, v := 0 }]).synPend a (q.nextGran a)))
  ∧ (∀ (s q : State) (init a : Nat), q = s.quiet → Allowed q init (0x620010 + 0x40 * a) true → a < 4 → q.writable
      [{ f := R.SY_APLLa_COMMIT_MODE, i := a, v := 0 }] → q.groupOk a = false →
      exec (.apllCommitNext init a) s = .next (q.direct fun q => q))
  ∧ (∀ (s q : State) (init a : Nat), q = s.quiet → Allowed q init (0x620010 + 0x40 * a) true → a < 4 → q.writable
      [{ f := R.SY_APLLa_COMMIT_MODE, i := a, v := 1 }] → q.synPending a = false → q.groupOk a = true → 0 < ((q.writes
      [{ f := R.SY_APLLa_COMMIT_MODE, i := a, v := 1 }]).synPend a (q.get64 R.SY_APLLa_CTGT_LO_TGT R.SY_APLLa_CTGT_HI_TGT
      a)).synLeft a →
      exec (.apllCommitTarget init a) s = .next (q.direct fun q => (q.writes
          [{ f := R.SY_APLLa_COMMIT_MODE, i := a, v := 1 }]).synPend a (q.get64 R.SY_APLLa_CTGT_LO_TGT R.SY_APLLa_CTGT_HI_TGT
          a)))
  ∧ (∀ (s q : State) (init a : Nat), q = s.quiet → Allowed q init (0x620010 + 0x40 * a) true → a < 4 → q.writable
      [{ f := R.SY_APLLa_COMMIT_MODE, i := a, v := 2 }] → q.synLate a = false →
      exec (.apllCommitCancel init a) s = .next (q.direct fun q => (q.writes
          [{ f := R.SY_APLLa_COMMIT_MODE, i := a, v := 2 }]).synCancel a))
  ∧ (∀ (s q : State) (init a : Nat), q = s.quiet → Allowed q init (0x620010 + 0x40 * a) true → a < 4 → q.writable
      [{ f := R.SY_APLLa_COMMIT_MODE, i := a, v := 2 }] → q.synLate a = true →
      exec (.apllCommitCancel init a) s = .next (q.direct fun q => q))
  ∧ (∀ (s e : State) (dt a : Nat), e = s.elapse dt → a < 4 → e.on R.SY_APLLa_STAT_PENDING a = true → e.synLeft a ≤ 0 → 
      exec (.apllCommitActivation dt a) s = .next (e.synActivate a))
  ∧ (∀ (s e : State) (dt a : Nat), e = s.elapse dt → a < 4 → e.on R.SY_APLLa_STAT_PH_BUSY a = true → e.phaseNow a = e.getZ
      R.SY_APLLa_PHOFS_PHOFS a →
      exec (.phofsMoveDone dt a) s = .next ((e.apllUpd a fun p =>
          { p with phase := e.getZ R.SY_APLLa_PHOFS_PHOFS a, phaseAt := e.clk }).set R.SY_APLLa_STAT_PH_BUSY 0 a))

/-- Tier 1. The receiver's inputs and channels (R232, R233, R235 to R238, R242, R243, R247, R249). The sample clock's loss and
return, its phase measured every 1 ms with CLK_SYNC over the last second; a signal gets a free channel, or the lowest one's
place when it ranks above it; tracking lost frees it; a measurement epoch pushes one entry for each channel; decoded data
renew the ephemeris and enter the FIFO while NAV_EN; a read of W0 pops; the spectrum monitor judges jamming and the notches,
which release after 1 s; the kept data are rewritten after 60 s. -/
def Obligations.GnssInputsComplete : Prop :=
  (∀ (s e : State) (dt x : Nat), e = s.elapse dt → x < 2 → e.on R.GN_INx_STAT_CLK_OK x = true → 
      exec (.sampleClockLoss dt x) s = .next (((((e.set R.GN_INx_STAT_CLK_OK 0 x).set R.GN_INx_STAT_CLK_SYNC 0 x).gnInUpd x
          fun i => { i with phases := [], phaseFrom := none }).dropInput x)))
  ∧ (∀ (s e : State) (dt x : Nat), e = s.elapse dt → x < 2 → e.gnRuns x = true → 
      exec (.sampleClockReturn dt x) s = .next (e.set R.GN_INx_STAT_CLK_OK 1 x))
  ∧ (∀ (s e : State) (dt x : Nat) (phase : Int), e = s.elapse dt → x < 2 → e.gnRuns x = true → e.on R.GN_INx_STAT_CLK_OK x =
      true → ((∀ c ∈ (e.gnIn x).phases.head?, c.1 + 10 ^ 9 ≤ e.clk)) →
      exec (.clockPhaseMeasure dt x phase) s = .next (((e.gnInUpd x fun i =>
          { i with phases := ((e.clk, phase) :: (e.gnIn x).phases.filter fun r => decide (e.clk ≤ r.1 + 10 ^ 12)), phaseFrom := some (i.phaseFrom.getD e.clk) }).setB
          R.GN_INx_STAT_CLK_SYNC ((match (e.gnIn x).phaseFrom with | some c => decide (c + 10 ^ 12 ≤ e.clk) | none => false)
          && decide ((((e.clk, phase) :: (e.gnIn x).phases.filter fun r => decide (e.clk ≤ r.1 + 10 ^ 12)).map fun r =>
          e.clkPhaseDiff x r.2 phase).foldl max 0 - (((e.clk, phase) :: (e.gnIn x).phases.filter fun r => decide (e.clk ≤ r.1
          + 10 ^ 12)).map fun r => e.clkPhaseDiff x r.2 phase).foldl min 0 ≤ 10 * (e.get R.GN_INx_CFG_SRATE x : Nat)) &&
          !e.gn.stepped) x)))
  ∧ (∀ (s e : State) (dt x sig svid elev : Nat) (v : Signal) (k : Nat), e = s.elapse dt → x < 2 → e.gnRuns x = true → e.on
      R.GN_INx_STAT_CLK_OK x = true → e.sigOn x sig = true → e.get R.GN_TIM_CFG_ELEV_MASK < elev → ((e.gn.chans.any fun (c :
      Chan) => c.input == x && c.sig == sig && c.svid == svid % 256) = false) → 128 ≤ v.cn0 → e.inSearch (satKey sig svid)
      v.doppler = true → freeChan e.gn.chans = some k →
      exec (.signalAcquisition dt x sig svid elev v) s = .next
          (({ e with gn := { e.gn with chans := e.gn.chans ++ [({ ch := k, input := x, sig := sig, svid := svid % 256, elev := elev, since := e.clk } : Chan)] } }.gnSync)))
  ∧ (∀ (s e : State) (dt x sig svid elev : Nat) (v : Signal) (w : Chan), e = s.elapse dt → x < 2 → e.gnRuns x = true → e.on
      R.GN_INx_STAT_CLK_OK x = true → e.sigOn x sig = true → e.get R.GN_TIM_CFG_ELEV_MASK < elev → ((e.gn.chans.any fun (c :
      Chan) => c.input == x && c.sig == sig && c.svid == svid % 256) = false) → 128 ≤ v.cn0 → e.inSearch (satKey sig svid)
      v.doppler = true → freeChan e.gn.chans = none → lowChan e.gn.chans = some w →
      exec (.signalAcquisition dt x sig svid elev v) s = .next (if Chan.above
          ({ ch := w.ch, input := x, sig := sig, svid := svid % 256, elev := elev, since := e.clk } : Chan) w then
          ({ e with gn := { e.gn with chans := (e.gn.chans.filter fun (c : Chan) => c.ch != w.ch) ++ [({ ch := w.ch, input := x, sig := sig, svid := svid % 256, elev := elev, since := e.clk } : Chan)] } }.gnSync)
          else e))
  ∧ (∀ (s e : State) (dt x sig svid elev : Nat) (v : Signal), e = s.elapse dt → x < 2 → e.gnRuns x = true → e.on
      R.GN_INx_STAT_CLK_OK x = true → e.sigOn x sig = true → e.get R.GN_TIM_CFG_ELEV_MASK < elev → ((e.gn.chans.any fun (c :
      Chan) => c.input == x && c.sig == sig && c.svid == svid % 256) = true) →
      exec (.signalAcquisition dt x sig svid elev v) s = .next
          (({ e with gn := { e.gn with chans := e.gn.chans.map fun (c : Chan) => if c.input == x && c.sig == sig && c.svid == svid % 256 then { c with elev := elev } else c } }.gnSync)))
  ∧ (∀ (s e : State) (dt x sig : Nat) (v : Fading), e = s.elapse dt → x < 2 → ((v.cn0 < 104 ∨ v.elev ≤ e.get
      R.GN_TIM_CFG_ELEV_MASK)) →
      exec (.lossOfTracking dt x sig v) s = .next
          (({ e with gn := { e.gn with chans := e.gn.chans.filter fun (c : Chan) => !(c.input == x && c.sig == sig && c.svid == v.svid) } }.gnSync)))
  ∧ (∀ (s e : State) (dt x sig : Nat) (v : Fading), e = s.elapse dt → x < 2 → 104 ≤ v.cn0 → e.get R.GN_TIM_CFG_ELEV_MASK <
      v.elev →
      exec (.lossOfTracking dt x sig v) s = .next
          (({ e with gn := { e.gn with chans := e.gn.chans.map fun (c : Chan) => if c.input == x && c.sig == sig && c.svid == v.svid then { c with elev := v.elev } else c } }.gnSync)))
  ∧ (∀ (s e : State) (dt : Nat) (ms : List Meas), e = s.elapse dt → e.on R.GN_CFG_MEAS_EN = true → e.gnAsleep = false →
      (e.time (e.get R.GN_CFG_TB) / e.measPeriod) ≠ e.gn.lastEpoch →
      exec (.measurementEpoch dt ms) s = .next ((((e.gn.chans.zip ms).foldl (fun (s : State) r => s.gnPush false (s.measWords
          r.1 r.2 (secsOf ((e.time (e.get R.GN_CFG_TB) / e.measPeriod) * e.measPeriod)) ((e.time (e.get R.GN_CFG_TB) /
          e.measPeriod) * e.measPeriod % secUnit / (10 ^ 9 * 2 ^ 48))))
          { e with gn := { e.gn with lastEpoch := (e.time (e.get R.GN_CFG_TB) / e.measPeriod) } }).gnSync)))
  ∧ (∀ (s e : State) (dt k check nbits sec ns : Nat) (data : List Nat) (v : NavInfo) (ch : Chan), e = s.elapse dt →
      (e.gn.chans.find? (fun c => c.ch == k) = some ch) → e.on R.GN_CFG_NAV_EN = true → e.gnAsleep = false →
      exec (.navDataDecoded dt k check nbits sec ns data v) s = .next (((navEntries ch (check == 1) nbits sec ns data).foldl
          (fun (s : State) r => s.gnPush true r) (if check = 1 then e.navTaken (satKey ch.sig ch.svid) v else e)).gnSync))
  ∧ (∀ (s e : State) (dt k check nbits sec ns : Nat) (data : List Nat) (v : NavInfo) (ch : Chan), e = s.elapse dt →
      (e.gn.chans.find? (fun c => c.ch == k) = some ch) → (e.on R.GN_CFG_NAV_EN && !e.gnAsleep) = false →
      exec (.navDataDecoded dt k check nbits sec ns data v) s = .next ((if check = 1 then e.navTaken (satKey ch.sig ch.svid) v
          else e)))
  ∧ (∀ (s q : State) (init : Nat), q = s.quiet → Allowed q init (0x628200) false → 
      exec (.gnssFifoPop init false) s = .next (((q.gnReadW0 false).2.emit (.readData init [(q.gnReadW0 false).1]))))
  ∧ (∀ (s q : State) (init : Nat), q = s.quiet → Allowed q init (0x628240) false → 
      exec (.gnssFifoPop init true) s = .next (((q.gnReadW0 true).2.emit (.readData init [(q.gnReadW0 true).1]))))
  ∧ (∀ (s e : State) (dt x : Nat) (median : Int) (agc : Nat) (peaks : List (Int × Nat)), e = s.elapse dt → x < 2 → e.gnRuns x
      = true → ((∀ c ∈ (e.gnIn x).specAt, c + 10 ^ 11 ≤ e.clk)) →
      exec (.spectrumMonitor dt x median agc peaks) s = .next ((List.range 4).foldl (fun s k => s.notchStep x peaks k) (if (if
          (e.gnIn x).medians.isEmpty then e.on R.GN_INx_STAT_JAM x else if e.on R.GN_INx_STAT_JAM x then decide (median *
          ((e.gnIn x).medians.length : Nat) - sumZ (e.gnIn x).medians ≥ 400 * ((e.gnIn x).medians.length : Nat)) else decide
          (median * ((e.gnIn x).medians.length : Nat) - sumZ (e.gnIn x).medians > 600 * ((e.gnIn x).medians.length : Nat))) !=
          e.on R.GN_INx_STAT_JAM x then ((((e.set R.GN_INx_STAT_AGC agc x).set R.GN_INx_STAT_PEAK (satN 255 ((peaks.head?.map
          Prod.snd).getD 0)) x).gnInUpd x fun i =>
          { i with medians := (median :: i.medians).take 600, agcs := (agc :: i.agcs).take 600, specAt := some e.clk }).setB
          R.GN_INx_STAT_JAM (if (e.gnIn x).medians.isEmpty then e.on R.GN_INx_STAT_JAM x else if e.on R.GN_INx_STAT_JAM x then
          decide (median * ((e.gnIn x).medians.length : Nat) - sumZ (e.gnIn x).medians ≥ 400 * ((e.gnIn x).medians.length :
          Nat)) else decide (median * ((e.gnIn x).medians.length : Nat) - sumZ (e.gnIn x).medians > 600 * ((e.gnIn
          x).medians.length : Nat))) x).raise 66 (det2 x (b2n (if (e.gnIn x).medians.isEmpty then e.on R.GN_INx_STAT_JAM x
          else if e.on R.GN_INx_STAT_JAM x then decide (median * ((e.gnIn x).medians.length : Nat) - sumZ (e.gnIn x).medians ≥
          400 * ((e.gnIn x).medians.length : Nat)) else decide (median * ((e.gnIn x).medians.length : Nat) - sumZ (e.gnIn
          x).medians > 600 * ((e.gnIn x).medians.length : Nat))))) else (((e.set R.GN_INx_STAT_AGC agc x).set
          R.GN_INx_STAT_PEAK (satN 255 ((peaks.head?.map Prod.snd).getD 0)) x).gnInUpd x fun i =>
          { i with medians := (median :: i.medians).take 600, agcs := (agc :: i.agcs).take 600, specAt := some e.clk }))))
  ∧ (∀ (s e : State) (dt x k t : Nat), e = s.elapse dt → x < 2 → k < 4 → Tab.find? (e.gnIn x).low k = some t → e.notchOn x k =
      true → e.get R.GN_NOTCHx_k_MODE x k = 1 → t + 10 ^ 12 ≤ e.clk →
      exec (.notchRelease dt x k) s = .next ((e.setNotch x k false).gnInUpd x fun i => { i with low := Tab.del i.low k }))
  ∧ (∀ (s e : State) (dt : Nat), e = s.elapse dt → e.gn.chans.isEmpty = false → e.gn.lastKept + 60 * 10 ^ 12 ≤ e.clk → 
      exec (.keptDataRewrite dt) s = .next ({ e.keepGnss with gn := { e.gn with lastKept := e.clk } }))

/-- Tier 1. Solutions and the event timer (R239, R240, R245, R262, R263, R269 to R272). A solution of an antenna with its clock
and enough satellites takes effect; TRUSTED returns after TRUST_HOLD without a failing check; the survey ends after
SURVEY_MIN and holds its position with GNSS_SURVEY; an edge is dated, discarded or lost; the oldest waiting result enters
the FIFO; a start or stop that no edge paired expires, a gate closes at its end, and a read of ET_FIFO_W0 pops. -/
def Obligations.GnssSolutionsAndEventTimerComplete : Prop :=
  (∀ (s e : State) (dt x : Nat) (v : Sol), e = s.elapse dt → x < 2 → (e.antInputs x).isEmpty = false → ((∀ i ∈ e.antInputs x,
      e.on R.GN_INx_STAT_CLK_OK i = true)) → needSats (e.posWanted x) ≤ (e.solUsed v).length → e.tbOn (e.get R.GN_CFG_TB) =
      true → (e.gnAnt x).second ≠ some (e.taiSecond (v.ofs - e.antDelay x)) → e.sinceTai (v.ofs - e.antDelay x) ≤ 200000000 *
      65536 →
      exec (.gnssSolution dt x v) s = .next (e.solution x v))
  ∧ (∀ (s e : State) (dt x t : Nat), e = s.elapse dt → x < 2 → (e.gnAnt x).passFrom = some t → (e.gnAnt x).failed = true →
      e.solValid x = true → t + e.get R.GN_TRUST_CFG1_TRUST_HOLD * 10 ^ 12 ≤ e.clk →
      exec (.trustHoldExpiry dt x) s = .next ((e.gnAntUpd x fun a => { a with failed := false }).setTrust x true))
  ∧ (∀ (s e : State) (dt x px py pz t : Nat), e = s.elapse dt → x < 2 → (e.gnAnt x).survey = some t → e.posState x = 1 → t +
      e.get R.GN_TIM_CFG_SURVEY_MIN * 60 * 10 ^ 12 ≤ e.clk →
      exec (.gnssSurvey dt x px py pz) s = .next (((e.writes [{ f := R.GN_POSx_X_X, i := x, v := px },
          { f := R.GN_POSx_Y_Y, i := x, v := py }, { f := R.GN_POSx_Z_Z, i := x, v := pz },
          { f := R.GN_SOLx_STAT_POS_STATE, i := x, v := 2 }]).gnAntUpd x fun a => { a with survey := none }).raise 69 x))
  ∧ (∀ (s e : State) (dt i : Nat) (falling : Bool) (err : Int), e = s.elapse dt → i < 16 → 
      exec (.eventEdge dt i falling err) s = .next (e.edge i falling err))
  ∧ (∀ (s e : State) (dt i : Nat), e = s.elapse dt → e.etNext = some i → e.et.written ≠ some (e.clk / 800) → 
      exec (.etResultWrite dt) s = .next ((((({ e with et := { e.et with written := some (e.clk / 800) } } : State).etUpd i
          fun r => { r with buf := r.buf.drop 1 }).etPush ((e.etIn i).buf.headD {})).etSync)))
  ∧ (∀ (s e : State) (dt i : Nat) (r : EtEdge) (rest : List EtEdge), e = s.elapse dt → i < 16 → (e.etIn i).starts = r :: rest
      → r.at_ + e.etTimeout i ≤ e.clk →
      exec (.intervalTimeout dt i) s = .next ((((e.etUpd i fun k => { k with starts := rest }).intervalResult i r none
          false).etSync)))
  ∧ (∀ (s e : State) (dt i : Nat) (r : EtEdge) (rest : List EtEdge), e = s.elapse dt → i < 16 → (e.etIn i).stops = r :: rest →
      r.at_ + e.get R.ET_INi_PWIN_PAIR_WIN i * 1000 ≤ e.clk →
      exec (.pairWindowExpiry dt i) s = .next ((e.expireStop i).etSync))
  ∧ (∀ (s e : State) (dt i : Nat) (g : EtGate), e = s.elapse dt → i < 16 → (e.etIn i).gate = some g → ((g.open_ + e.etGateLen
      i : Nat) : Int) ≤ e.etDateNow i →
      exec (.gateEnd dt i) s = .next (e.closeGate i))
  ∧ (∀ (s q : State) (init : Nat), q = s.quiet → Allowed q init (0x630010) false → 
      exec (.etFifoPop init) s = .next ((q.etReadW0.2.emit (.readData init [q.etReadW0.1]))))

/-- Tier 1. Bring-up of lanes (R282, R284 to R286). A due wave opens; a partner signal takes a lane in DETECT with its wave open
to TRAIN; training ends in LOCK with its equalisation kept; a cache that gives no lock in 2 ms is discarded; a training past
TRAIN_TO and a lock without alignment in 50 ms fail back to DETECT; a lane that reaches alignment carries its port to CAPEX
when all have. A HELLO ends the exchange in ACTIVE, or is kept and compared; without one the lanes go ACTIVE as FOREIGN
after 200 ms; HELLO is sent every 10 ms or 1 s. Lanes that run (R283, R284, R287, R288, R291, R300). A loss in CAPEX or
ACTIVE counts LOS_CNT and returns the port's lanes to DETECT; a cache lapses CACHE_HOLD after the loss; the partner's idle
is shown; a port that may idle enters it, sends a beacon each millisecond of the line timebase and leaves it on a wake; the
partner's offset is shown, more than 100 ppm for the tenth time raising LANE_RM; an overflow raises LANE_RM and drops the
frame in passage; ONE injects a symbol error where a test is allowed. -/
def Obligations.LaneEventsComplete : Prop :=
  (∀ (s e : State) (dt t : Nat), e = s.elapse dt → e.waveFrom = some t → e.get R.LN_GLOBAL_STAT_WAVE < 4 → t + 60 * 10 ^ 9 *
      e.get R.LN_GLOBAL_STAT_WAVE ≤ e.clk →
      exec (.trainingWaveOpen dt) s = .next ((e.set R.LN_GLOBAL_STAT_WAVE (e.get R.LN_GLOBAL_STAT_WAVE + 1)).waveSync))
  ∧ (∀ (s e : State) (dt : Nat), e = s.elapse dt → e.waveDue = false → e.waveDie.isEmpty = false → 
      exec (.trainingWaveOpen dt) s = .next (e.waveSync))
  ∧ (∀ (s e : State) (dt l : Nat), e = s.elapse dt → l < 60 → e.laneState l = 1 → e.dieClocked (l / 30) = true → e.waveOpen l
      = true → (e.laneRec l).quietTo ≤ e.clk →
      exec (.partnerSignal dt l) s = .next (e.laneTrain l))
  ∧ (∀ (s e : State) (dt l taps pre eq : Nat), e = s.elapse dt → l < 60 → e.laneState l = 2 → 
      exec (.trainingComplete dt l taps pre eq) s = .next (e.laneLock l taps pre eq))
  ∧ (∀ (s e : State) (dt l : Nat), e = s.elapse dt → l < 60 → e.laneState l = 2 → (e.laneRec l).cached = true → (e.laneRec
      l).since + 2 * 10 ^ 9 ≤ e.clk →
      exec (.cacheLockTimeout dt l) s = .next ((e.dropCache l).laneUpd l fun x => { x with cached := false }))
  ∧ (∀ (s e : State) (dt l : Nat), e = s.elapse dt → l < 60 → e.laneState l = 2 → e.trains l = true → (e.laneRec l).since +
      e.get R.LN_GLOBAL_CFG_TRAIN_TO * 10 ^ 10 ≤ e.clk →
      exec (.trainToExpiry dt l) s = .next (e.laneFail l (10 ^ 11)))
  ∧ (∀ (s e : State) (dt l : Nat), e = s.elapse dt → l < 60 → e.laneState l = 1 → (e.laneRec l).quietTo ≤ e.clk → 
      exec (.failIdleEnd dt l) s = .next (e.setB R.LN_Ll_STAT_IDLE (!e.waveOpen l) l))
  ∧ (∀ (s e : State) (dt l : Nat), e = s.elapse dt → l < 60 → e.laneState l = 3 → e.on R.LN_Ll_STAT_ALIGNED l = false →
      (e.laneRec l).since + 5 * 10 ^ 10 ≤ e.clk →
      exec (.lockTimeout dt l) s = .next (e.laneFail l 0))
  ∧ (∀ (s e : State) (dt l : Nat), e = s.elapse dt → l < 60 → e.laneState l = 3 → 
      exec (.lockReached dt l) s = .next (e.lockDone l))
  ∧ (∀ (s e : State) (dt l p flags node port : Nat) (h : Hello), e = s.elapse dt → l < 60 → e.lanePort l = some p → e.on
      R.LN_GLOBAL_CFG_CAPEX_EN = true → h = { flags := flags % 256, node := node % 2 ^ 20, port := port % 256 } → e.laneState
      (e.actual (laneOf p)) = 4 →
      exec (.helloReceived dt l 0x4B5A 1 flags node port) s = .next (((e.judgeLoop p h ((e.laneRec (laneOf p)).hello != some
          h)).keepHello p h false).portActive p false))
  ∧ (∀ (s e : State) (dt l p flags node port : Nat) (h : Hello), e = s.elapse dt → l < 60 → e.lanePort l = some p → e.on
      R.LN_GLOBAL_CFG_CAPEX_EN = true → h = { flags := flags % 256, node := node % 2 ^ 20, port := port % 256 } → e.laneState
      (e.actual (laneOf p)) = 5 →
      exec (.helloReceived dt l 0x4B5A 1 flags node port) s = .next (if (e.laneRec (laneOf p)).fromCache && (e.laneRec (laneOf
          p)).hello != some h then (((e.judgeLoop p h ((e.laneRec (laneOf p)).hello != some h)).keepHello p h true).helloSync
          p).raise 39 (laneOf p) else ((e.judgeLoop p h ((e.laneRec (laneOf p)).hello != some h)).keepHello p h
          false).helloSync p))
  ∧ (∀ (s e : State) (dt p : Nat), e = s.elapse dt → p < 48 → e.on R.PT_CFGp_EN p = true → e.laneState (e.actual (laneOf p)) =
      4 → (e.laneRec (e.actual (laneOf p))).since + 2 * 10 ^ 11 ≤ e.clk →
      exec (.capexTimeout dt p) s = .next (e.portActive p true))
  ∧ (∀ (s e : State) (dt p : Nat), e = s.elapse dt → p < 48 → e.on R.PT_CFGp_EN p = true → e.on R.LN_GLOBAL_CFG_CAPEX_EN =
      true → ((e.laneState (e.actual (laneOf p)) = 4 ∨ e.laneState (e.actual (laneOf p)) = 5)) → (e.laneRec (laneOf
      p)).helloAt + (if e.laneState (e.actual (laneOf p)) = 4 then 10 ^ 10 else 10 ^ 12) ≤ e.clk →
      exec (.helloSend dt p) s = .next (e.sendCapex p 1 0))
  ∧ (∀ (s e : State) (dt l : Nat), e = s.elapse dt → l < 60 → (e.laneState l = 4 ∨ e.laneState l = 5) → ((e.on
      R.LN_Ll_STAT_RX_IDLE l = false ∨ e.beaconsGone l = true)) →
      exec (.laneLoss dt l) s = .next ((e.incSat R.LN_Ll_RETRY_LOS_CNT l).groupDetect l))
  ∧ (∀ (s e : State) (dt l t : Nat), e = s.elapse dt → l < 60 → (e.laneRec l).lost = some t → t + e.get
      R.LN_GLOBAL_CFG_CACHE_HOLD * 10 ^ 9 < e.clk →
      exec (.cacheHoldExpiry dt l) s = .next ((e.laneUpd l fun x => { x with lost := none }).cacheSync l))
  ∧ (∀ (s e : State) (dt l : Nat) (idle : Bool), e = s.elapse dt → l < 60 → (e.laneState l = 4 ∨ e.laneState l = 5) → 
      exec (.partnerIdleChange dt l idle) s = .next ((e.setB R.LN_Ll_STAT_RX_IDLE idle l).laneUpd l fun x =>
          { x with idleFrom := if idle then some e.clk else none }))
  ∧ (∀ (s e : State) (dt p : Nat), e = s.elapse dt → p < 48 → e.mayIdle p = true → 
      exec (.idleEntry dt p) s = .next (e.idleLanes p))
  ∧ (∀ (s e : State) (dt l : Nat), e = s.elapse dt → l < 60 → e.laneState l = 5 → e.on R.LN_Ll_STAT_IDLE l = true → (e.laneRec
      l).beacon ≠ e.msIndex →
      exec (.phaseBeacon dt l) s = .next ((e.emit (.beacon l)).laneUpd l fun x => { x with beacon := e.msIndex }))
  ∧ (∀ (s e : State) (dt p k : Nat), e = s.elapse dt → p < 48 → k < 8 → (e.queue p k).isEmpty = false → 
      exec (.idleExit dt p) s = .next (e.wakePort p))
  ∧ (∀ (s e : State) (dt l : Nat) (ofs : Int), e = s.elapse dt → l < 60 → (e.laneState l = 4 ∨ e.laneState l = 5) → ((∀ c ∈
      (e.laneRec l).rmAt, c + 10 ^ 11 ≤ e.clk)) →
      exec (.rateMatchMeasure dt l ofs) s = .next ((if (if 100000000 < ofs.natAbs then (e.laneRec l).rmOver + 1 else 0) = 10
          then ((e.setZ R.LN_Ll_RM_RM_OFS (clampZ (-2147483648) 2147483647 ofs) l).laneUpd l fun x =>
          { x with rmOver := (if 100000000 < ofs.natAbs then (e.laneRec l).rmOver + 1 else 0), rmAt := some e.clk }).raise 37
          l else ((e.setZ R.LN_Ll_RM_RM_OFS (clampZ (-2147483648) 2147483647 ofs) l).laneUpd l fun x =>
          { x with rmOver := (if 100000000 < ofs.natAbs then (e.laneRec l).rmOver + 1 else 0), rmAt := some e.clk })).countMatch
          l ofs))
  ∧ (∀ (s e : State) (dt l p : Nat) (r : Rx), e = s.elapse dt → l < 60 → (e.raise 37 l).lanePort l = some p → Tab.find?
      (e.raise 37 l).cl.rx p = some r →
      exec (.elasticOverflow dt l) s = .next
          (((({ (e.raise 37 l) with cl := { (e.raise 37 l).cl with rx := Tab.del (e.raise 37 l).cl.rx p } }.freeCells p
          r.res.cls r.cells).count p 19).tallyFrame 2 p
          { bytes := r.bytes, inPort := p, reason := 19, stamp := r.line, res := r.res })))
  ∧ (∀ (s e : State) (dt l : Nat), e = s.elapse dt → l < 60 → ((∀ p, (e.raise 37 l).lanePort l = some p → Tab.find? (e.raise
      37 l).cl.rx p = none)) →
      exec (.elasticOverflow dt l) s = .next ((e.raise 37 l)))
  ∧ (∀ (s q : State) (init l : Nat), q = s.quiet → Allowed q init (0x601020 + 0x40 * l) true → l < 60 → q.mayInject l = true →
      exec (.injectOne init l) s = .next (q.direct fun q => q.emit (.symbolError l)))

/-- Tier 1. The exchange of a substitution (R295, R296). SUB_REQ is answered with SUB_ACK and bridging where the grove accepts,
its spare is wired and free and the lane is not a forwarded-clock one, and with SUB_NAK otherwise; SUB_ACK bridges a local
attempt, SUB_NAK ends it with CHECK_FAIL and 100 ms without either with TIMEOUT; a locked spare takes the lane and SUB_DONE
is sent, the partner's SUB_DONE makes it active; SUB_REL begins a release and ends it once the freed lane has locked; an
attempt or a release past TRAIN_TO + 300 ms is given up. -/
def Obligations.SubstitutionEventsComplete : Prop :=
  (∀ (s e : State) (dt p pos : Nat), e = s.elapse dt → p < 48 → pos < 4 → e.on R.PT_CFGp_EN p = true → pos < modeLanes
      (e.portMode p) → e.on R.LN_GLOBAL_CFG_CAPEX_EN = true → e.on R.LN_GRVg_CFG_SUB_ACCEPT (p / 4) = true → e.on
      R.LN_GRVg_CFG_SPARE_WIRED (p / 4) = true → e.subState (p / 4) = 0 → e.laneState (spareOf (p / 4)) ≠ 6 → modeFwdClk
      (e.portMode p) = false →
      exec (.subReq dt p pos) s = .next (((e.startSub (p / 4)
          { port := p, pos := pos, since := e.clk, remote := true }).bridge (p / 4)).sendCapex p 3 pos))
  ∧ (∀ (s e : State) (dt p pos : Nat), e = s.elapse dt → p < 48 → pos < 4 → e.on R.PT_CFGp_EN p = true → pos < modeLanes
      (e.portMode p) → e.on R.LN_GLOBAL_CFG_CAPEX_EN = true → ((e.on R.LN_GRVg_CFG_SUB_ACCEPT (p / 4) = false ∨ e.on
      R.LN_GRVg_CFG_SPARE_WIRED (p / 4) = false ∨ e.subState (p / 4) ≠ 0 ∨ e.laneState (spareOf (p / 4)) = 6 ∨ modeFwdClk
      (e.portMode p) = true)) →
      exec (.subReq dt p pos) s = .next (e.sendCapex p 4 pos))
  ∧ (∀ (s e : State) (dt g : Nat) (b : Subst), e = s.elapse dt → g < 12 → e.subst? g = some b → e.subState g = 1 → b.remote =
      false → b.acked = false →
      exec (.subAck dt g) s = .next (e.bridge g))
  ∧ (∀ (s e : State) (dt g : Nat) (b : Subst), e = s.elapse dt → g < 12 → e.subst? g = some b → e.subState g = 1 → b.remote =
      false → b.acked = false →
      exec (.subNak dt g) s = .next (e.abandonSub g .checkFail))
  ∧ (∀ (s e : State) (dt g : Nat) (b : Subst), e = s.elapse dt → g < 12 → e.subst? g = some b → e.subState g = 1 → b.remote =
      false → b.acked = false → b.since + 10 ^ 11 ≤ e.clk →
      exec (.subAckTimeout dt g) s = .next (e.abandonSub g .timeout))
  ∧ (∀ (s e : State) (dt g : Nat) (b : Subst), e = s.elapse dt → g < 12 → e.subst? g = some b → e.subState g = 1 → b.calib =
      false → e.laneState (spareOf g) = 3 → e.on R.LN_Ll_STAT_ALIGNED (spareOf g) = true →
      exec (.spareSwitch dt g) s = .next ((e.switchToSpare g).subActive g))
  ∧ (∀ (s e : State) (dt g : Nat) (b : Subst), e = s.elapse dt → g < 12 → e.subst? g = some b → (e.subState g = 1 ∨ e.subState
      g = 2) →
      exec (.subDone dt g) s = .next ({ e with subst := Tab.put e.subst g { b with gotDone := true } }.subActive g))
  ∧ (∀ (s e : State) (dt g : Nat) (b : Subst), e = s.elapse dt → g < 12 → e.subst? g = some b → e.subState g = 3 → 
      exec (.subRel dt g) s = .next (e.startRelease g))
  ∧ (∀ (s e : State) (dt g : Nat) (b : Subst), e = s.elapse dt → g < 12 → e.subst? g = some b → e.subState g = 4 → e.laneState
      (laneOf b.port + b.pos) = 3 → e.on R.LN_Ll_STAT_ALIGNED (laneOf b.port + b.pos) = true →
      exec (.subRel dt g) s = .next (e.endRelease g))
  ∧ (∀ (s e : State) (dt g : Nat) (b : Subst), e = s.elapse dt → g < 12 → e.subst? g = some b → e.subState g = 1 → b.since +
      e.get R.LN_GLOBAL_CFG_TRAIN_TO * 10 ^ 10 + 3 * 10 ^ 11 ≤ e.clk → (b.calib && e.spareReady g) = false →
      exec (.substitutionTimeout dt g) s = .next (e.abandonSub g .timeout))
  ∧ (∀ (s e : State) (dt g : Nat) (b : Subst), e = s.elapse dt → g < 12 → e.subst? g = some b → e.subState g = 4 → b.since +
      e.get R.LN_GLOBAL_CFG_TRAIN_TO * 10 ^ 10 + 3 * 10 ^ 11 ≤ e.clk →
      exec (.substitutionTimeout dt g) s = .next ((((((e.set R.LN_GRVg_STAT_SUB_STATE 3 g).laneDark (laneOf b.port +
          b.pos)).laneGo (laneOf b.port + b.pos) 0).set R.LN_Ll_STAT_IDLE 1 (laneOf b.port + b.pos)).answerSub g .timeout)))

/-- Tier 1. Ports (R313, R314, R316, R318, R319, R322, R323). A cause on an UP port takes it to HOLD, and a port whose causes
have all cleared returns to UP; a hold ends at its limit; errors are counted and a window over a threshold degrades the
port; windows of 1 ms end; a presence change is judged; a pause frame stops the classes it names for its quanta and they
resume when these have run out; the policer's counts restart. -/
def Obligations.PortEventsComplete : Prop :=
  (∀ (s e : State) (dt p : Nat), e = s.elapse dt → p < 48 → (e.causeSync p).portState p = 2 → (e.causeSync p).causes p ≠ 0 → 
      exec (.causeAppears dt p) s = .next ((e.causeSync p).enterHoldPort p))
  ∧ (∀ (s e : State) (dt p : Nat), e = s.elapse dt → p < 48 → ((e.causeSync p).portState p = 1 ∨ (e.causeSync p).portState p =
      3 ∨ (e.causeSync p).portState p = 4) → (e.causeSync p).causes p = 0 →
      exec (.causeClears dt p) s = .next ((e.causeSync p).portUp p))
  ∧ (∀ (s e : State) (dt p : Nat), e = s.elapse dt → p < 48 → e.holdDue p = true → 
      exec (.holdTimeExpiry dt p) s = .next (e.holdEnd p))
  ∧ (∀ (s e : State) (dt p corr sym unc blk : Nat), e = s.elapse dt → p < 48 → e.degRoll.portState p ≠ 0 → 
      exec (.degradation dt p corr sym unc blk) s = .next (if (((((e.degRoll.count p 13 corr).count p 14 sym).count p 15
          unc).count p 16 blk).overThr p ((e.degRoll.portOf p).win.1 + unc, (e.degRoll.portOf p).win.2.1 + sym,
          (e.degRoll.portOf p).win.2.2 + blk)) then (((((e.degRoll.count p 13 corr).count p 14 sym).count p 15 unc).count p 16
          blk).portUpd p fun x =>
          { x with win := ((e.degRoll.portOf p).win.1 + unc, (e.degRoll.portOf p).win.2.1 + sym, (e.degRoll.portOf p).win.2.2 + blk), degraded := x.degraded || (((((e.degRoll.count p 13 corr).count p 14 sym).count p 15 unc).count p 16 blk).overThr p ((e.degRoll.portOf p).win.1 + unc, (e.degRoll.portOf p).win.2.1 + sym, (e.degRoll.portOf p).win.2.2 + blk)), clean := if (((((e.degRoll.count p 13 corr).count p 14 sym).count p 15 unc).count p 16 blk).overThr p ((e.degRoll.portOf p).win.1 + unc, (e.degRoll.portOf p).win.2.1 + sym, (e.degRoll.portOf p).win.2.2 + blk)) then 0 else x.clean }).judgePort
          p else (((((e.degRoll.count p 13 corr).count p 14 sym).count p 15 unc).count p 16 blk).portUpd p fun x =>
          { x with win := ((e.degRoll.portOf p).win.1 + unc, (e.degRoll.portOf p).win.2.1 + sym, (e.degRoll.portOf p).win.2.2 + blk), degraded := x.degraded || (((((e.degRoll.count p 13 corr).count p 14 sym).count p 15 unc).count p 16 blk).overThr p ((e.degRoll.portOf p).win.1 + unc, (e.degRoll.portOf p).win.2.1 + sym, (e.degRoll.portOf p).win.2.2 + blk)), clean := if (((((e.degRoll.count p 13 corr).count p 14 sym).count p 15 unc).count p 16 blk).overThr p ((e.degRoll.portOf p).win.1 + unc, (e.degRoll.portOf p).win.2.1 + sym, (e.degRoll.portOf p).win.2.2 + blk)) then 0 else x.clean })))
  ∧ (∀ (s e : State) (dt : Nat), e = s.elapse dt → e.degWin < e.clk / 10 ^ 9 → 
      exec (.degradationWindowEnd dt) s = .next ((List.range 48).foldl (fun s p => if s.portState p = 0 then s else
          s.degWindow p (e.clk / 10 ^ 9 - e.degWin - 1)) { e with degWin := e.clk / 10 ^ 9 }))
  ∧ (∀ (s e : State) (dt g : Nat) (low : Bool), e = s.elapse dt → g < 12 → (e.on R.PT_MODg_PRS g == low) = false → 
      exec (.presenceChange dt g low) s = .next (((List.range 4).map fun i => 4 * g + i).foldl (fun s p => if s.on
          R.PT_CFGp_EN p then (s.portUpd p fun x => { x with prs := some s.clk }).judgePort p else s) (e.setB R.PT_MODg_PRS
          low g)))
  ∧ (∀ (s e : State) (dt p : Nat) (pfc : Bool) (quanta : List (Nat × Nat)), e = s.elapse dt → p < 48 → 
      exec (.pauseFrame dt p pfc quanta) s = .next ((((e.count p 11).portUpd p fun x =>
          { x with paused := ((e.count p 11).pauseClasses p pfc quanta).foldl (fun (l : Tab Nat) r => if r.2 = 0 then Tab.del l r.1 else Tab.put l r.1 ((e.count p 11).clk + r.2 % 65536 * 512000 / max 1 (modeRate ((e.count p 11).portMode p)))) x.paused }).pauseSync
          p)))
  ∧ (∀ (s e : State) (dt p : Nat), e = s.elapse dt → p < 48 → 
      exec (.pauseQuantaExpiry dt p) s = .next (((e.portUpd p fun x =>
          { x with paused := List.filter (fun (r : Nat × Nat) => decide (e.clk < r.2)) x.paused }).pauseSync p)))
  ∧ (∀ (s e : State) (dt : Nat), e = s.elapse dt → e.polWin < e.clk / 10 ^ 9 → 
      exec (.policerWindow dt) s = .next
          ({ e with polWin := e.clk / 10 ^ 9, police := 0, policed := [], port := e.port.map fun r => (r.1, { r.2 with admitted := 0 }) }))

/-- Tier 1. Forwarding (R332, R333, R340, R347, R349, R355, R359, R360). On an UP port with no frame in reception a header is
looked up in the active image and stamped; cells and the end follow it, and its frame is stored, dropped or consumed; the
head of a die's trap queue is delivered; a bank decides where it is free and keeps requests where it is not. An epoch ends
when no old frame is left, or at MAX_RES with what is left dropped; a due commit swaps the images; a resync ends. -/
def Obligations.ForwardingEventsComplete : Prop :=
  (∀ (s e : State) (dt p ago rho : Nat) (bytes : List Byte), e = s.elapse dt → p < 48 → e.portState p = 2 → Tab.find? e.cl.rx
      p = none →
      exec (.headerReceived dt p ago rho bytes) s = .next (((e.setRx p
          { bytes := [], res := e.merge p (bytes.take 128), line := e.rxStamp p e.lineTb (min ago e.clk) (min rho (rhoMax (e.portMode p))), own := e.rxStamp p (e.msgTb (bytes.take 128) (e.svlan e.epoch p)) (min ago e.clk) (min rho (rhoMax (e.portMode p))), extra := e.ingressTerms p (bytes.take 128) (e.svlan e.epoch p) }).rxBytes
          p (bytes.take 128))))
  ∧ (∀ (s e : State) (dt p : Nat) (bytes : List Byte), e = s.elapse dt → p < 48 → 
      exec (.cellArrival dt p bytes) s = .next (e.rxBytes p (bytes.take 256)))
  ∧ (∀ (s e : State) (dt p : Nat) (bytes : List Byte) (ctxEcc : Bool) (r : Rx), e = s.elapse dt → p < 48 → Tab.find?
      (e.rxBytes p bytes).cl.rx p = some r →
      exec (.frameEnd dt p bytes ctxEcc) s = .next ((e.rxBytes p bytes).endRx p r ctxEcc))
  ∧ (∀ (s e : State) (dt : Nat) (t : Trap) (rest : List Trap), e = s.elapse dt → e.cl.trapA = t :: rest → 
      exec (.trapDelivery dt 0) s = .next (({ e with cl := { e.cl with trapA := rest } }.emit
          (match t.stamp with | some x => .trapped t.port x.tb x.stepSeq x.fine (e.stampWords x) t.bytes | none => .trapped t.port 0 0 false [] t.bytes))))
  ∧ (∀ (s e : State) (dt : Nat) (t : Trap) (rest : List Trap), e = s.elapse dt → e.cl.trapB = t :: rest → 
      exec (.trapDelivery dt 1) s = .next (({ e with cl := { e.cl with trapB := rest } }.emit
          (match t.stamp with | some x => .trapped t.port x.tb x.stepSeq x.fine (e.stampWords x) t.bytes | none => .trapped t.port 0 0 false [] t.bytes))))
  ∧ (∀ (s e : State) (dt k : Nat) (reqs : List Nat) (agent tally : Bool) (ecc p c w : Nat) (a : Arb), e = s.elapse dt → k < 64
      → p < 48 → c < 8 → (a =
      { e.arbOf k with reqs := present (e.arbOf k).reqs ((reqs.filter fun r => decide (r < 24)) ++ (if agent || tally then [24] else [])), tAgent := (e.arbOf k).tAgent || agent, tTally := (e.arbOf k).tTally || tally })
      → a.winner = some w → a.free ≤ e.clk →
      exec (.bankAccess dt k reqs agent tally ecc p c) s = .next (if w < 12 then (if (e.get R.CL_BANKk_STAT_PARK k != w) then
          ((({ e with cl := { e.cl with arbs := Tab.put e.cl.arbs k { (a.grant w) with free := e.clk + (if (e.get R.CL_BANKk_STAT_PARK k != w) then 800 else 400) } } }.set
          R.CL_BANKk_STAT_PARK w k).set R.CL_BANKk_STAT_MAX_WAIT (max (e.get R.CL_BANKk_STAT_MAX_WAIT k) (satN 63 (a.grant
          w).longest)) k).countProg (0x100 + k) 0 0 1).countProg (0x140 + k) 0 0 1 else
          ((({ e with cl := { e.cl with arbs := Tab.put e.cl.arbs k { (a.grant w) with free := e.clk + (if (e.get R.CL_BANKk_STAT_PARK k != w) then 800 else 400) } } }.set
          R.CL_BANKk_STAT_PARK w k).set R.CL_BANKk_STAT_MAX_WAIT (max (e.get R.CL_BANKk_STAT_MAX_WAIT k) (satN 63 (a.grant
          w).longest)) k).countProg (0x100 + k) 0 0 1)) else (if (e.get R.CL_BANKk_STAT_PARK k != w) then
          ((({ e with cl := { e.cl with arbs := Tab.put e.cl.arbs k { (a.grant w) with free := e.clk + (if (e.get R.CL_BANKk_STAT_PARK k != w) then 800 else 400) } } }.set
          R.CL_BANKk_STAT_PARK w k).set R.CL_BANKk_STAT_MAX_WAIT (max (e.get R.CL_BANKk_STAT_MAX_WAIT k) (satN 63 (a.grant
          w).longest)) k).countProg (0x100 + k) 0 0 1).countProg (0x140 + k) 0 0 1 else
          ((({ e with cl := { e.cl with arbs := Tab.put e.cl.arbs k { (a.grant w) with free := e.clk + (if (e.get R.CL_BANKk_STAT_PARK k != w) then 800 else 400) } } }.set
          R.CL_BANKk_STAT_PARK w k).set R.CL_BANKk_STAT_MAX_WAIT (max (e.get R.CL_BANKk_STAT_MAX_WAIT k) (satN 63 (a.grant
          w).longest)) k).countProg (0x100 + k) 0 0 1)).bankRead k ecc p c (w == 12 + p / 4)))
  ∧ (∀ (s e : State) (dt k : Nat) (reqs : List Nat) (agent tally : Bool) (ecc p c w : Nat) (a : Arb), e = s.elapse dt → k < 64
      → p < 48 → c < 8 → (a =
      { e.arbOf k with reqs := present (e.arbOf k).reqs ((reqs.filter fun r => decide (r < 24)) ++ (if agent || tally then [24] else [])), tAgent := (e.arbOf k).tAgent || agent, tTally := (e.arbOf k).tTally || tally })
      → a.winner = some w → e.clk < a.free →
      exec (.bankAccess dt k reqs agent tally ecc p c) s = .next
          ({ e with cl := { e.cl with arbs := Tab.put e.cl.arbs k a } }))
  ∧ (∀ (s e : State) (dt k : Nat) (reqs : List Nat) (agent tally : Bool) (ecc p c : Nat) (a : Arb), e = s.elapse dt → k < 64 →
      p < 48 → c < 8 → (a =
      { e.arbOf k with reqs := present (e.arbOf k).reqs ((reqs.filter fun r => decide (r < 24)) ++ (if agent || tally then [24] else [])), tAgent := (e.arbOf k).tAgent || agent, tTally := (e.arbOf k).tTally || tally })
      → a.winner = none →
      exec (.bankAccess dt k reqs agent tally ecc p c) s = .next
          ({ e with cl := { e.cl with arbs := Tab.put e.cl.arbs k a } }))
  ∧ (∀ (s e : State) (dt : Nat), e = s.elapse dt → e.epochState = 1 → e.oldCount = 0 → 
      exec (.epochDrained dt) s = .next (e.startResync))
  ∧ (∀ (s e : State) (dt : Nat), e = s.elapse dt → e.epochState = 1 → e.fwd.actAt + e.fwd.maxRes * 10 ^ 7 ≤ e.clk → 
      exec (.maxResExpiry dt) s = .next (e.drainAll.startResync))
  ∧ (∀ (s e : State) (dt : Nat), e = s.elapse dt → e.fwdDue = true → 
      exec (.epochActivation dt) s = .next (e.activate.foActivated (if e.tbOn e.lineTb then timeWords (e.fwd.commit.getD 0)
          else [0, 0, 0])))
  ∧ (∀ (s e : State) (dt : Nat), e = s.elapse dt → e.epochState = 2 → 
      exec (.resyncEnd dt) s = .next (e.endResync.foPoll))

/-- Tier 1. Table windows (R346, R350, R364, R380, R386, R387, R420, R427, R453). FD_TBL_CTRL reads, writes, deletes and finds
an entry of the image it names, changes going to the shadow alone and a refused operation setting ERR; SC_TBL_CTRL reads a
slot entry and writes one of an inactive bank, a write to an active bank or a managed port being refused, and logged for an
active bank; RD_CTX_CTRL reads a context and writes one of the host's that is not frozen, and otherwise sets ERR. STOP stops
a schedule and writes the register's other fields. -/
def Obligations.TableWindowsComplete : Prop :=
  (∀ (s q : State) (init w t : Nat), q = s.quiet → Allowed q init (R.FD_TBL_CTRL_GO.addr) true → q.on R.FD_TBL_CTRL_BUSY =
      false → t = q.tblNamed w → bits w 17 0 < tblSize t →
      exec (.tblRead init w) s = .next (q.direct fun q => ((q.tblFields w 0 t).putData ((q.tblFields w 0 t).tblGet (if bitOf w
          28 then q.epoch else 1 - q.epoch) t (bits w 17 0))).set R.FD_TBL_CTRL_INDEX (bits w 17 0)))
  ∧ (∀ (s q : State) (init w t : Nat), q = s.quiet → Allowed q init (R.FD_TBL_CTRL_GO.addr) true → q.on R.FD_TBL_CTRL_BUSY =
      false → t = q.tblNamed w → tblSize t ≤ bits w 17 0 →
      exec (.tblRead init w) s = .next (q.direct fun q => (q.tblFields w 0 t).set R.FD_TBL_CTRL_ERR 1))
  ∧ (∀ (s q : State) (init w t : Nat), q = s.quiet → Allowed q init (R.FD_TBL_CTRL_GO.addr) true → q.on R.FD_TBL_CTRL_BUSY =
      false → t = q.tblNamed w → bitOf w 28 = false → ((q.tblFields w 1 t).plan t (if tblHashed t then 1 else 0) (bits w 17 0)
      (q.tblFields w 1 t).tblData).status = .ok →
      exec (.tblWrite init w) s = .next (q.direct fun q => ((q.tblFields w 1 t).doPlan t ((q.tblFields w 1 t).plan t (if
          tblHashed t then 1 else 0) (bits w 17 0) (q.tblFields w 1 t).tblData)).set R.FD_TBL_CTRL_INDEX ((q.tblFields w 1
          t).plan t (if tblHashed t then 1 else 0) (bits w 17 0) (q.tblFields w 1 t).tblData).i))
  ∧ (∀ (s q : State) (init w t : Nat), q = s.quiet → Allowed q init (R.FD_TBL_CTRL_GO.addr) true → q.on R.FD_TBL_CTRL_BUSY =
      false → t = q.tblNamed w → (bitOf w 28 = true ∨ ((q.tblFields w 1 t).plan t (if tblHashed t then 1 else 0) (bits w 17 0)
      (q.tblFields w 1 t).tblData).status ≠ .ok) →
      exec (.tblWrite init w) s = .next (q.direct fun q => (q.tblFields w 1 t).set R.FD_TBL_CTRL_ERR 1))
  ∧ (∀ (s q : State) (init w t : Nat), q = s.quiet → Allowed q init (R.FD_TBL_CTRL_GO.addr) true → q.on R.FD_TBL_CTRL_BUSY =
      false → t = q.tblNamed w → bitOf w 28 = false → ((q.tblFields w 2 t).plan t 2 (bits w 17 0) (q.tblFields w 2
      t).tblData).status = .ok →
      exec (.tblDelete init w) s = .next (q.direct fun q => ((q.tblFields w 2 t).doPlan t ((q.tblFields w 2 t).plan t 2 (bits
          w 17 0) (q.tblFields w 2 t).tblData)).set R.FD_TBL_CTRL_INDEX (bits w 17 0)))
  ∧ (∀ (s q : State) (init w t : Nat), q = s.quiet → Allowed q init (R.FD_TBL_CTRL_GO.addr) true → q.on R.FD_TBL_CTRL_BUSY =
      false → t = q.tblNamed w → (bitOf w 28 = true ∨ ((q.tblFields w 2 t).plan t 2 (bits w 17 0) (q.tblFields w 2
      t).tblData).status ≠ .ok) →
      exec (.tblDelete init w) s = .next (q.direct fun q => (q.tblFields w 2 t).set R.FD_TBL_CTRL_ERR 1))
  ∧ (∀ (s q : State) (init w t j : Nat), q = s.quiet → Allowed q init (R.FD_TBL_CTRL_GO.addr) true → q.on R.FD_TBL_CTRL_BUSY =
      false → t = q.tblNamed w → tblHashed t = true → ((q.tblFields w 3 t).tblFind (if bitOf w 28 then q.epoch else 1 -
      q.epoch) t (entryKtype t (tblClean t (q.tblFields w 3 t).tblData)) (entryKey t (tblClean t (q.tblFields w 3
      t).tblData))) = some j →
      exec (.tblFind init w) s = .next (q.direct fun q => ((q.tblFields w 3 t).putData ((q.tblFields w 3 t).tblGet (if bitOf w
          28 then q.epoch else 1 - q.epoch) t j)).set R.FD_TBL_CTRL_INDEX j))
  ∧ (∀ (s q : State) (init w t : Nat), q = s.quiet → Allowed q init (R.FD_TBL_CTRL_GO.addr) true → q.on R.FD_TBL_CTRL_BUSY =
      false → t = q.tblNamed w → tblHashed t = true → ((q.tblFields w 3 t).tblFind (if bitOf w 28 then q.epoch else 1 -
      q.epoch) t (entryKtype t (tblClean t (q.tblFields w 3 t).tblData)) (entryKey t (tblClean t (q.tblFields w 3
      t).tblData))) = none →
      exec (.tblFind init w) s = .next (q.direct fun q => (q.tblFields w 3 t).set R.FD_TBL_CTRL_ERR 1))
  ∧ (∀ (s q : State) (init w p : Nat), q = s.quiet → Allowed q init (R.SC_TBL_CTRL_GO.addr) true → q.on R.SC_TBL_CTRL_BUSY =
      false → p = q.slotPort w →
      exec (.slotEntryRead init w) s = .next (q.direct fun q => (((q.slotFields w 0 p).set R.SC_TBL_DATAi_DATA ((q.slotFields
          w 0 p).slotEntry p (bits w 10 10) (bits w 9 0)).1 0).set R.SC_TBL_DATAi_DATA ((q.slotFields w 0 p).slotEntry p (bits
          w 10 10) (bits w 9 0)).2 1)))
  ∧ (∀ (s q : State) (init w p : Nat), q = s.quiet → Allowed q init (R.SC_TBL_CTRL_GO.addr) true → q.on R.SC_TBL_CTRL_BUSY =
      false → p = q.slotPort w → (q.slotFields w 1 p).managed p = false → (q.slotFields w 1 p).bankActive p (bits w 10 10) =
      false → (q.slotFields w 1 p).schedPending p = false →
      exec (.slotEntryWrite init w) s = .next (q.direct fun q => (q.slotFields w 1 p).putEntries p (bits w 10 10) (bits w 9 0)
          [((q.slotFields w 1 p).get R.SC_TBL_DATAi_DATA 0, (q.slotFields w 1 p).get R.SC_TBL_DATAi_DATA 1)]))
  ∧ (∀ (s q : State) (init w p : Nat), q = s.quiet → Allowed q init (R.SC_TBL_CTRL_GO.addr) true → q.on R.SC_TBL_CTRL_BUSY =
      false → p = q.slotPort w → (q.slotFields w 1 p).managed p = true →
      exec (.slotEntryWrite init w) s = .next (q.direct fun q => (((q.slotFields w 1 p).set R.SC_TBL_CTRL_ERR 1).refuseAccess
          3 .internal 15 init ((q.slotFields w 1 p).entryNonSecure 15) 1 R.SC_TBL_CTRL_GO.addr)))
  ∧ (∀ (s q : State) (init w p : Nat), q = s.quiet → Allowed q init (R.SC_TBL_CTRL_GO.addr) true → q.on R.SC_TBL_CTRL_BUSY =
      false → p = q.slotPort w → (q.slotFields w 1 p).managed p = false → (q.slotFields w 1 p).bankActive p (bits w 10 10) =
      true →
      exec (.slotEntryWrite init w) s = .next (q.direct fun q => ((((q.slotFields w 1 p).activeWrite p (bits w 10 10) (bits w
          9 0) 0 1).set R.SC_TBL_CTRL_ERR 1).refuseAccess 3 .internal 15 init (((q.slotFields w 1 p).activeWrite p (bits w 10
          10) (bits w 9 0) 0 1).entryNonSecure 15) 1 R.SC_TBL_CTRL_GO.addr)))
  ∧ (∀ (s q : State) (init p w : Nat), q = s.quiet → Allowed q init (R.SC_Pp_CFG_STOP.addr + 0x100 * p) true → p < 48 →
      q.writable (q.schedWrites p (Nat.lor w 2)) → bitOf (Nat.lor w 2) 1 = true → ((q.schedRuns p = true ∨ q.tbOn (bits
      (Nat.lor w 2) 6 4) = true)) → q.managed p = false →
      exec (.scheduleStop init p w) s = .next (q.direct fun q => (q.writes (q.schedWrites p (Nat.lor w 2))).stopSchedule p))
  ∧ (∀ (s q : State) (init p w : Nat), q = s.quiet → Allowed q init (R.SC_Pp_CFG_STOP.addr + 0x100 * p) true → p < 48 →
      q.writable (q.schedWrites p (Nat.lor w 2)) → bitOf (Nat.lor w 2) 1 = true → q.managed p = true →
      exec (.scheduleStop init p w) s = .next (q.direct fun q => q))
  ∧ (∀ (s q : State) (init w : Nat), q = s.quiet → Allowed q init (R.RD_CTX_CTRL_GO.addr) true → q.on R.RD_CTX_CTRL_BUSY =
      false →
      exec (.ctxRead init w) s = .next (q.direct fun q => (((((((q.set R.RD_CTX_CTRL_OP 0).set R.RD_CTX_CTRL_CTX (bits w 12
          0)).set R.RD_CTX_CTRL_ERR 0).writes (R.RD_CTX_DATA0.fields.map fun f =>
          { f := f, v := f.of (((((q.set R.RD_CTX_CTRL_OP 0).set R.RD_CTX_CTRL_CTX (bits w 12 0)).set R.RD_CTX_CTRL_ERR 0).ctxWords (bits w 12 0)).getD 0 0) })).writes
          (R.RD_CTX_DATA1.fields.map fun f =>
          { f := f, v := f.of (((((q.set R.RD_CTX_CTRL_OP 0).set R.RD_CTX_CTRL_CTX (bits w 12 0)).set R.RD_CTX_CTRL_ERR 0).ctxWords (bits w 12 0)).getD 1 0) })).writes
          (R.RD_CTX_DATA2.fields.map fun f =>
          { f := f, v := f.of (((((q.set R.RD_CTX_CTRL_OP 0).set R.RD_CTX_CTRL_CTX (bits w 12 0)).set R.RD_CTX_CTRL_ERR 0).ctxWords (bits w 12 0)).getD 2 0) })).writes
          (R.RD_CTX_DATA3.fields.map fun f => { f := f, v := f.of (0) }))))
  ∧ (∀ (s q : State) (init w : Nat), q = s.quiet → Allowed q init (R.RD_CTX_CTRL_GO.addr) true → q.on R.RD_CTX_CTRL_BUSY =
      false → foresterCtx (bits w 12 0) = false → ((((q.set R.RD_CTX_CTRL_OP 1).set R.RD_CTX_CTRL_CTX (bits w 12 0)).set
      R.RD_CTX_CTRL_ERR 0).sctxOf (bits w 12 0)).frozen ((((q.set R.RD_CTX_CTRL_OP 1).set R.RD_CTX_CTRL_CTX (bits w 12 0)).set
      R.RD_CTX_CTRL_ERR 0).word R.RD_CTX_DATA0) = false →
      exec (.ctxWrite init w) s = .next (q.direct fun q => (((q.set R.RD_CTX_CTRL_OP 1).set R.RD_CTX_CTRL_CTX (bits w 12
          0)).set R.RD_CTX_CTRL_ERR 0).ctxSet (bits w 12 0) ((((q.set R.RD_CTX_CTRL_OP 1).set R.RD_CTX_CTRL_CTX (bits w 12
          0)).set R.RD_CTX_CTRL_ERR 0).word R.RD_CTX_DATA0) ((((q.set R.RD_CTX_CTRL_OP 1).set R.RD_CTX_CTRL_CTX (bits w 12
          0)).set R.RD_CTX_CTRL_ERR 0).word R.RD_CTX_DATA1) ((((q.set R.RD_CTX_CTRL_OP 1).set R.RD_CTX_CTRL_CTX (bits w 12
          0)).set R.RD_CTX_CTRL_ERR 0).word R.RD_CTX_DATA2)))
  ∧ (∀ (s q : State) (init w : Nat), q = s.quiet → Allowed q init (R.RD_CTX_CTRL_GO.addr) true → q.on R.RD_CTX_CTRL_BUSY =
      false → (foresterCtx (bits w 12 0) || ((((q.set R.RD_CTX_CTRL_OP 1).set R.RD_CTX_CTRL_CTX (bits w 12 0)).set
      R.RD_CTX_CTRL_ERR 0).sctxOf (bits w 12 0)).frozen ((((q.set R.RD_CTX_CTRL_OP 1).set R.RD_CTX_CTRL_CTX (bits w 12 0)).set
      R.RD_CTX_CTRL_ERR 0).word R.RD_CTX_DATA0)) = true →
      exec (.ctxWrite init w) s = .next (q.direct fun q => (((q.set R.RD_CTX_CTRL_OP 1).set R.RD_CTX_CTRL_CTX (bits w 12
          0)).set R.RD_CTX_CTRL_ERR 0).set R.RD_CTX_CTRL_ERR 1))

/-- Tier 1. Schedules, Forester and contexts (R373, R378, R383, R411, R412, R424, R426). While a schedule runs its current entry
is shown, and a wake entry wakes its port; a due bank commit makes the bank active; after its delay a port that stays down
has its flows placed again, and the re-placement ends with its count and time. A context's histories reset after their
timeout, the latent test counts and raises RED_LATENT where the paths disagree by more than allowed, and its counts restart. -/
def Obligations.ScheduleAndFlowEventsComplete : Prop :=
  (∀ (s e : State) (dt p : Nat), e = s.elapse dt → p < 48 → e.schedRuns p = true → 
      exec (.slotEdge dt p) s = .next (e.set R.SC_Pp_STAT_ENTRY (e.entryNow p) p))
  ∧ (∀ (s e : State) (dt p : Nat), e = s.elapse dt → p < 48 → e.schedRuns p = true → e.wakeDue p = true → 
      exec (.wakeLead dt p) s = .next (e.wakePort p))
  ∧ (∀ (s e : State) (dt p : Nat), e = s.elapse dt → p < 48 → e.commitDue p = true → 
      exec (.bankActivation dt p) s = .next ((e.activateBank p).foBank p))
  ∧ (∀ (s e : State) (dt p : Nat), e = s.elapse dt → p < 48 → e.serves = true → e.replaceDue p = true → e.foState < 2 →
      e.fwdBusy = false →
      exec (.replaceDelayExpiry dt p) s = .next (e.replacePort p))
  ∧ (∀ (s e : State) (dt : Nat), e = s.elapse dt → e.foState = 3 → e.fo.phase = 4 → 
      exec (.flowReplace dt) s = .next (((((e.foComplete.incSat R.FO_REPL_STAT_REPL_CNT).set R.FO_REPL_STAT_LAST_US (satN
          65535 ((e.clk - e.fo.since) / 10 ^ 6))).raise 79 e.fo.count).settleCfg)))
  ∧ (∀ (s e : State) (dt n : Nat), e = s.elapse dt → n < 8192 → 
      exec (.resetTimeout dt n) s = .next (e.ctxTimeout n))
  ∧ (∀ (s e : State) (dt n : Nat), e = s.elapse dt → n < 8192 → (e.sctxOf n).latEn = true → (e.sctxOf n).latAt + (e.sctxOf
      n).latPeriod ≤ e.clk →
      exec (.latentTest dt n) s = .next (if ((((e.sctxOf n).latPass * ((e.sctxOf n).latPaths - 1) : Nat) : Int) - ((e.sctxOf
          n).latDisc : Int)) > (e.sctxOf n).latDiff then ((e.sctxUpd n fun c => { c with latAt := e.clk }).ctxCount n 8).raise
          82 n else (e.sctxUpd n fun c => { c with latAt := e.clk })))
  ∧ (∀ (s e : State) (dt n : Nat), e = s.elapse dt → n < 8192 → (e.sctxOf n).latEn = true → (e.sctxOf n).latReset + (e.sctxOf
      n).latResetLen ≤ e.clk →
      exec (.latReset dt n) s = .next (e.sctxUpd n fun c => { c with latReset := e.clk, latPass := 0, latDisc := 0 }))

/-- Tier 1. Sessions of time transfer (R99, R111, R113, R115, R122, R123). An Announce of a domain the port follows opens the
session or gives it its quality; a Delay_Req it serves is answered; where the partner shows the device's own Node ID,
NODE_LOOP is raised instead; a message due leaves with the next sequence number; a hold past its length closes the session;
a two-way exchange whose t2 and t3 have the same STEP_SEQ gives a master its mean path delay, and a slave theta, which it
feeds on; a slave in TRACK whose STEP_SEQ moved, or whose theta moved more than 0.4 ns, goes to HOLD. -/
def Obligations.PtpSessionEventsComplete : Prop :=
  (∀ (s e : State) (dt p d peer cls acc var steps : Nat) (c : PtpCfg), e = s.elapse dt → p < 48 → d < 256 → e.ptpOf (sessKey p
      d) = some c → roleAllows c.role 2 = true → (e.domainTb d).isSome = true → e.nodeLoop p = false →
      exec (.announce dt p d peer cls acc var steps) s = .next (e.heardAnnounce (sessKey p d) peer cls acc var steps))
  ∧ (∀ (s e : State) (dt p d peer cls acc var steps : Nat) (c : PtpCfg), e = s.elapse dt → p < 48 → d < 256 → e.ptpOf (sessKey
      p d) = some c → roleAllows c.role 2 = true → (e.domainTb d).isSome = true → e.nodeLoop p = true →
      exec (.announce dt p d peer cls acc var steps) s = .next (e.raise 44 p))
  ∧ (∀ (s e : State) (dt p d peer seq ago rho port : Nat) (pdelay : Bool) (corr : Int) (c : PtpCfg), e = s.elapse dt → p < 48
      → d < 256 → e.ptpOf (sessKey p d) = some c → c.serves pdelay = true → (e.domainTb d).isSome = true → e.nodeLoop p =
      false →
      exec (.delayReq dt p d peer seq pdelay ago rho port corr) s = .next (e.heardDelayReq (sessKey p d) peer port seq c
          pdelay ago rho corr))
  ∧ (∀ (s e : State) (dt p d peer seq ago rho port : Nat) (pdelay : Bool) (corr : Int) (c : PtpCfg), e = s.elapse dt → p < 48
      → d < 256 → e.ptpOf (sessKey p d) = some c → (c.serves pdelay = false ∨ e.domainTb d = none) →
      exec (.delayReq dt p d peer seq pdelay ago rho port corr) s = .next (e))
  ∧ (∀ (s e : State) (dt p d since : Nat) (x : Session) (c : PtpCfg), e = s.elapse dt → p < 48 → d < 256 → e.sess? (sessKey p
      d) = some x → x.suspended = some since → e.ptpOf (sessKey p d) = some c → since + c.hold * 10 ^ 12 ≤ e.clk →
      exec (.sessionHoldExpiry dt p d) s = .next (e.closeSession (sessKey p d)))
  ∧ (∀ (s e : State) (dt p d kind flags : Nat) (c : PtpCfg), e = s.elapse dt → p < 48 → d < 256 → e.ptpOf (sessKey p d) = some
      c → e.mayOriginate (sessKey p d) kind c = true → ((Tab.find? c.sent kind = none ∨ Tab.get 0 c.sent kind + c.interval
      kind ≤ e.clk)) →
      exec (.ptpMessageSend dt p d kind flags) s = .next (e.ptpSend (sessKey p d) kind flags c))
  ∧ (∀ (s e : State) (dt p d t1 t2 t3 t4 sq2 sq3 : Nat) (fine2 fine4 : Bool) (x : Session), e = s.elapse dt → p < 48 → d < 256
      → e.sess? (sessKey p d) = some x → ((x.suspended ≠ none ∨ sq2 % 16 ≠ sq3 % 16)) →
      exec (.twoWayExchange dt p d t1 t2 t3 t4 sq2 sq3 fine2 fine4) s = .next (e))
  ∧ (∀ (s e : State) (dt p d t1 t2 t3 t4 sq2 sq3 : Nat) (fine2 fine4 : Bool) (x : Session), e = s.elapse dt → p < 48 → d < 256
      → e.sess? (sessKey p d) = some x → x.suspended = none → sq2 % 16 = sq3 % 16 → x.npx = 5 → sq2 % 16 ≠ x.stepSeq →
      exec (.twoWayExchange dt p d t1 t2 t3 t4 sq2 sq3 fine2 fine4) s = .next (e.setNpx (sessKey p d) 6))
  ∧ (∀ (s e : State) (dt p d t1 t2 t3 t4 sq2 sq3 : Nat) (fine2 fine4 : Bool) (x : Session) (mpd asym theta : Int), e =
      s.elapse dt → p < 48 → d < 256 → e.sess? (sessKey p d) = some x → x.suspended = none → sq2 % 16 = sq3 % 16 → x.role ≠ 2
      → ((x.npx = 5 → sq2 % 16 = x.stepSeq)) → mpd = (linDist t2 t1 + linDist t4 t3) / 2 → asym = asymAt x.link mpd → theta =
      linDist t2 t1 - mpd - asym →
      exec (.twoWayExchange dt p d t1 t2 t3 t4 sq2 sq3 fine2 fine4) s = .next ((e.takeTheta (sessKey p d) theta mpd asym
          (fine2 && fine4)).tryTrack (sessKey p d)))
  ∧ (∀ (s e : State) (dt p d t1 t2 t3 t4 sq2 sq3 : Nat) (fine2 fine4 : Bool) (x : Session) (mpd asym theta : Int), e =
      s.elapse dt → p < 48 → d < 256 → e.sess? (sessKey p d) = some x → x.suspended = none → sq2 % 16 = sq3 % 16 → x.role = 2
      → x.npx = 5 → sq2 % 16 = x.stepSeq → mpd = (linDist t2 t1 + linDist t4 t3) / 2 → asym = asymAt x.link mpd → theta =
      linDist t2 t1 - mpd - asym → 26214 < (theta - x.theta).natAbs →
      exec (.twoWayExchange dt p d t1 t2 t3 t4 sq2 sq3 fine2 fine4) s = .next ((e.count ((sessKey p d) / 256) 63).setNpx
          (sessKey p d) 6))
  ∧ (∀ (s e : State) (dt p d t1 t2 t3 t4 sq2 sq3 : Nat) (fine2 fine4 : Bool) (x : Session) (mpd asym theta : Int), e =
      s.elapse dt → p < 48 → d < 256 → e.sess? (sessKey p d) = some x → x.suspended = none → sq2 % 16 = sq3 % 16 → x.role = 2
      → mpd = (linDist t2 t1 + linDist t4 t3) / 2 → asym = asymAt x.link mpd → theta = linDist t2 t1 - mpd - asym → ((x.npx =
      5 → sq2 % 16 = x.stepSeq ∧ (theta - x.theta).natAbs ≤ 26214)) →
      exec (.twoWayExchange dt p d t1 t2 t3 t4 sq2 sq3 fine2 fine4) s = .next ((((e.sessUpd (sessKey p d) fun z =>
          { z with syncLog := some (sext 8 (bits sq2 11 4)) }).takeTheta (sessKey p d) theta mpd asym (fine2 &&
          fine4)).sessFeed (sessKey p d) theta).tryTrack (sessKey p d)))

/-- Tier 1. The NPX exchange and the phase meters (R103, R104, R119 to R122, R124, R137). A CAP under the device's
organizationId, of version 0 or 1, is taken and moves PROBE and PLAIN to LEGACY or ALIGN, and the same Node ID closes the
session with NODE_LOOP; a PHASE is taken where the session is in ALIGN or beyond; 8 s of PROBE give PLAIN; four intervals
without a PHASE give HOLD; CAP and PHASE leave at their intervals; a meter takes its reading each millisecond and is VALID
16 ms after lock. -/
def Obligations.NpxEventsComplete : Prop :=
  (∀ (s e : State) (dt p d org version flags node depth mode rate asymVer check : Nat) (x : Session), e = s.elapse dt → p < 48
      → d < 256 → e.sess? (sessKey p d) = some x → (x.npx = 1 ∨ x.npx = 2) → x.suspended = none → org = e.get
      R.PT_NPX_CFG_NPX_ORG_ID → version < 2 → node % 2 ^ 20 ≠ e.nodeId →
      exec (.capTlv dt p d org version flags node depth mode rate asymVer check) s = .next ((e.takeCap (sessKey p d) version
          flags node depth rate check).setNpx (sessKey p d) (if version = 1 then 4 else 3)))
  ∧ (∀ (s e : State) (dt p d org version flags node depth mode rate asymVer check : Nat) (x : Session), e = s.elapse dt → p <
      48 → d < 256 → e.sess? (sessKey p d) = some x → x.npx ≠ 0 → x.suspended = none → org = e.get R.PT_NPX_CFG_NPX_ORG_ID →
      version < 2 → node % 2 ^ 20 = e.nodeId →
      exec (.capTlv dt p d org version flags node depth mode rate asymVer check) s = .next (((e.portUpd ((sessKey p d) / 256)
          fun z => { z with loop := true }).raise 44 ((sessKey p d) / 256)).closeSession (sessKey p d)))
  ∧ (∀ (s e : State) (dt p d org version flags node depth mode rate asymVer check : Nat) (x : Session), e = s.elapse dt → p <
      48 → d < 256 → e.sess? (sessKey p d) = some x → ((x.npx = 0 ∨ x.suspended ≠ none ∨ org ≠ e.get R.PT_NPX_CFG_NPX_ORG_ID ∨
      2 ≤ version)) →
      exec (.capTlv dt p d org version flags node depth mode rate asymVer check) s = .next (e))
  ∧ (∀ (s e : State) (dt p d org seq flags count sec ns : Nat) (last mean : Int) (x : Session), e = s.elapse dt → p < 48 → d <
      256 → e.sess? (sessKey p d) = some x → 4 ≤ x.npx → x.suspended = none → org = e.get R.PT_NPX_CFG_NPX_ORG_ID → (x.npx = 5
      ∧ bitOf flags 2 = true) →
      exec (.phaseTlv dt p d org seq flags count last mean sec ns) s = .next ((e.takePhase (sessKey p d) flags
          { last := last, at_ := linearOf sec ns }).setNpx (sessKey p d) 6))
  ∧ (∀ (s e : State) (dt p d org seq flags count sec ns : Nat) (last mean : Int) (x : Session), e = s.elapse dt → p < 48 → d <
      256 → e.sess? (sessKey p d) = some x → 4 ≤ x.npx → x.suspended = none → org = e.get R.PT_NPX_CFG_NPX_ORG_ID → ((x.npx ≠
      5 ∨ bitOf flags 2 = false)) →
      exec (.phaseTlv dt p d org seq flags count last mean sec ns) s = .next ((e.takePhase (sessKey p d) flags
          { last := last, at_ := linearOf sec ns }).tryTrack (sessKey p d)))
  ∧ (∀ (s e : State) (dt p d : Nat) (x : Session), e = s.elapse dt → p < 48 → d < 256 → e.sess? (sessKey p d) = some x → x.npx
      = 1 → x.suspended = none → x.since + 8 * 10 ^ 12 ≤ e.clk →
      exec (.probeTimeout dt p d) s = .next (e.setNpx (sessKey p d) 2))
  ∧ (∀ (s e : State) (dt p d : Nat) (x : Session), e = s.elapse dt → p < 48 → d < 256 → e.sess? (sessKey p d) = some x → x.npx
      = 5 → ((∀ r, e.phaseRate x = some r → x.phaseAt + 4 * logPs (-r) ≤ e.clk)) →
      exec (.phaseTimeout dt p d) s = .next (e.setNpx (sessKey p d) 6))
  ∧ (∀ (s e : State) (dt p d : Nat) (x : Session), e = s.elapse dt → p < 48 → d < 256 → e.sess? (sessKey p d) = some x → x.npx
      ≠ 0 → x.suspended = none → x.capSent + (if x.npx = 1 then 10 ^ 12 else 8 * 10 ^ 12) ≤ e.clk →
      exec (.capSend dt p d) s = .next (e.sendCap (sessKey p d)))
  ∧ (∀ (s e : State) (dt p d : Nat) (x : Session) (r : Int), e = s.elapse dt → p < 48 → d < 256 → e.sess? (sessKey p d) = some
      x → e.phaseRate x = some r → x.npx ≠ 0 → x.suspended = none → x.readings ≠ [] → x.phaseSent + logPs (-r) ≤ e.clk →
      exec (.phaseSend dt p d) s = .next ((e.sendTlv (sessKey p d) (e.phaseBytes (sessKey p d) x)).sessUpd (sessKey p d) fun z
          => { z with phaseSeq := (z.phaseSeq + 1) % 65536, readings := [], phaseReset := false, phaseSent := e.clk }))
  ∧ (∀ (s e : State) (dt l code : Nat), e = s.elapse dt → l < 60 → (e.fpmOf l).lockAt ≠ none → (e.fpmOf l).ms ≠ e.msIndex →
      code < 3200 →
      exec (.fpmReading dt l code) s = .next ((e.fpmTake l code).fpmServe l))
  ∧ (∀ (s e : State) (dt l t : Nat), e = s.elapse dt → l < 60 → (e.fpmOf l).lockAt = some t → t + 16 * 10 ^ 9 ≤ e.clk → 
      exec (.fpmValid dt l) s = .next (e.set R.LN_FPMl_STAT_VALID 1 l))

/-- Tier 1. Comparison between the members of a pair (R430 to R432, R434, R436, R438, R448). The items of a tick leave in
COMPARE frames; the partner's are kept and settled and its ToD compared; an item without a counterpart for 4 ms is MISSING;
each millisecond the times are compared where comparison runs, and the counts of a deviation restart where it does not; a
JUDGE of the partner is judged against this member's own, and 4 ms without one is a verdict of its own; a pass of the
self-test sets HEALTH and answers RED.HEALTH. -/
def Obligations.PairComparisonComplete : Prop :=
  (∀ (s e : State) (dt : Nat) (q : State), e = s.elapse dt → q = e.settleItems → q.pairRuns = true → q.agent.sentMs ≠ q.pairMs
      →
      exec (.compareSend dt) s = .next (q.sendCompare))
  ∧ (∀ (s e : State) (dt ms : Nat) (items : List (Nat × Nat × Nat)) (sec utc leap flags : Nat) (dly : Int) (digest : Nat), e =
      s.elapse dt → e.pairRuns = true →
      exec (.compareReceived dt ms items sec utc leap flags dly digest) s = .next ((e.takeItems items dly digest).takeTod ms
          flags { sec := sec, utc := utc, leap := leap }))
  ∧ (∀ (s e : State) (dt : Nat) (q : State), e = s.elapse dt → q = e.settleItems → ((∀ i ∈ q.agent.own, q.clk < i.at_ + 4 * 10
      ^ 9)) → ((∀ i ∈ q.agent.theirs, i.at_ + 4 * 10 ^ 9 ≤ q.clk)) →
      exec (.itemExpiry dt) s = .next (q.agentUpd fun x =>
          { x with theirs := [], missing := x.missing + q.agent.theirs.length }))
  ∧ (∀ (s e : State) (dt : Nat), e = s.elapse dt → e.on R.RD_PAIR_CFG_EN = true → e.agent.lastMs ≠ e.pairMs → e.cmpTime =
      false →
      exec (.timeCompare dt) s = .next (((e.setB R.RD_PAIR_STAT_CMP_TIME false).agentUpd fun x =>
          { x with lastMs := e.pairMs, samples := ((e.pairMs, e.todFields 500000000) :: x.samples).take 8, beyond := 0, declared := false })))
  ∧ (∀ (s e : State) (dt : Nat) (x : Session), e = s.elapse dt → e.on R.RD_PAIR_CFG_EN = true → e.agent.lastMs ≠ e.pairMs →
      e.cmpTime = true → e.pairSession = some x →
      exec (.timeCompare dt) s = .next (((e.setB R.RD_PAIR_STAT_CMP_TIME true).agentUpd fun x =>
          { x with lastMs := e.pairMs, samples := ((e.pairMs, e.todFields 500000000) :: x.samples).take 8, beyond := if e.agent.lastMs + 1 = e.pairMs then x.beyond else 0 }).takeDelta
          (x.theta * 1000 + (e.getZ R.HW_PPSn_DLY_DLY 0 - e.agent.dly) * 65536)))
  ∧ (∀ (s e : State) (dt cause : Nat) (qualified : Bool) (ew : Int) (onset : Nat), e = s.elapse dt → e.pairRuns = true → 
      exec (.judgeReceived dt cause qualified ew onset) s = .next ((e.agentUpd fun x =>
          { x with theirJudge := some { cause := cause, qualified := qualified, ew := ew, onset := onset % 2 ^ 64, at_ := e.clk } }).judge))
  ∧ (∀ (s e : State) (dt : Nat) (j : Judge), e = s.elapse dt → e.agent.ownJudge = some j → j.at_ + 4 * 10 ^ 9 ≤ e.clk → 
      exec (.judgeTimeout dt) s = .next (e.verdict 3))
  ∧ (∀ (s e : State) (dt : Nat) (band clkout pps serial compare apll : Bool) (t : State), e = s.elapse dt → (apll = (band &&
      e.roleAplls.all fun a => e.on R.SY_APLLa_STAT_LOCKED a && !e.on R.SY_APLLa_STAT_ALIGN_LOST a)) → (t = (e.setHealth apll
      clkout pps serial e.wireRight compare).agentUpd fun x => { x with testAt := e.clk, asked := false, askedMb := none }) →
      e.agent.asked = true →
      exec (.selfTest dt band clkout pps serial compare) s = .next (t.finish e.agent.askedMb .ok [t.word R.RD_HEALTH]))
  ∧ (∀ (s e : State) (dt : Nat) (band clkout pps serial compare apll : Bool), e = s.elapse dt → (apll = (band &&
      e.roleAplls.all fun a => e.on R.SY_APLLa_STAT_LOCKED a && !e.on R.SY_APLLa_STAT_ALIGN_LOST a)) → e.agent.asked = false →
      e.testRuns = true → e.agent.testAt + 10 ^ 10 ≤ e.clk →
      exec (.selfTest dt band clkout pps serial compare) s = .next ((e.setHealth apll clkout pps serial e.wireRight
          compare).agentUpd fun x => { x with testAt := e.clk, asked := false, askedMb := none }))

/-- Tier 1. The role of a pair (R430, R431, R442 to R445, R447). A ROLE frame leaves every 10 ms, on a change, and with a claim;
one received is kept, settles a claim, and where it proposes an instant to an armed standby is accepted; pair_role_in
falling lets a member that may take the role take it, and 100 ms of low with the pair link down lets the preferred one; the
loser of a contention releases the role; at an accepted instant the holder releases and the standby takes; an unanswered
proposal is withdrawn 1 ms before; ALIGN_OK follows 1 s; recovery ends after RECOVERY_TIME armed. -/
def Obligations.PairRoleComplete : Prop :=
  (∀ (s e : State) (dt : Nat) (t : State), e = s.elapse dt → e.pairRuns = true → (t = (if e.mayTake && !e.on
      R.RD_ROLE_STAT_ROLE_IN && e.agent.claim.isNone then e.agentUpd fun x => { x with claim := some e.clk } else e)) →
      (t.roleState ≠ t.agent.roleByte ∨ t.agent.roleAt + 10 ^ 10 ≤ t.clk) →
      exec (.roleSend dt) s = .next (t.sendRole 0 0))
  ∧ (∀ (s e : State) (dt state request instant health : Nat) (alignErr : Int) (node : Nat) (t : State), e = s.elapse dt →
      e.pairRuns = true → (t = ((e.agentUpd fun x =>
      { x with role := some { state := state % 256, request := request, instant := instant, health := health, alignErr := alignErr, at_ := e.clk } }).settleClaim
      state node)) → request = 1 → t.on R.RD_ROLE_STAT_ARMED = true → t.roleHeld = false →
      exec (.roleReceived dt state request instant health alignErr node) s = .next ((t.agentUpd fun x =>
          { x with handover := some (instant % 2 ^ 64, false, true) }).sendRole 2 (instant % 2 ^ 64)))
  ∧ (∀ (s e : State) (dt state request instant health : Nat) (alignErr : Int) (node i : Nat) (b : Bool) (t : State), e =
      s.elapse dt → e.pairRuns = true → (t = ((e.agentUpd fun x =>
      { x with role := some { state := state % 256, request := request, instant := instant, health := health, alignErr := alignErr, at_ := e.clk } }).settleClaim
      state node)) → request = 2 → t.agent.handover = some (i, true, b) → i = instant % 2 ^ 64 →
      exec (.roleReceived dt state request instant health alignErr node) s = .next (t.agentUpd fun x =>
          { x with handover := some (i, true, true) }))
  ∧ (∀ (s e : State) (dt state request instant health : Nat) (alignErr : Int) (node : Nat), e = s.elapse dt → e.pairRuns =
      true → request ≠ 1 → request ≠ 2 →
      exec (.roleReceived dt state request instant health alignErr node) s = .next (((e.agentUpd fun x =>
          { x with role := some { state := state % 256, request := request, instant := instant, health := health, alignErr := alignErr, at_ := e.clk } }).settleClaim
          state node)))
  ∧ (∀ (s e : State) (dt : Nat), e = s.elapse dt → e.on R.RD_ROLE_STAT_ROLE_IN = true → 
      exec (.roleInFall dt) s = .next (((e.set R.RD_ROLE_STAT_ROLE_IN 0).agentUpd fun x =>
          { x with lowFrom := some e.clk }).takeRole 2))
  ∧ (∀ (s e : State) (dt t : Nat), e = s.elapse dt → e.on R.RD_ROLE_STAT_ROLE_IN = false → e.agent.lowFrom = some t → t + 10 ^
      11 ≤ e.clk → e.on R.RD_PAIR_STAT_LINK_UP = false → e.on R.RD_ROLE_CFG_PREF = true →
      exec (.roleInLowTimeout dt) s = .next (e.takeRole 1))
  ∧ (∀ (s e : State) (dt node : Nat) (t : State), e = s.elapse dt → (t = (e.set R.RD_ROLE_STAT_ROLE_IN 1).agentUpd fun x =>
      { x with lowFrom := none }) → t.roleHeld = true → t.wins
      (match t.agent.role with | some r => bitOf r.state 2 | none => false) node = false →
      exec (.roleContention dt node) s = .next ((t.dropRole 5).set R.RD_ROLE_STAT_CONTEND 1))
  ∧ (∀ (s e : State) (dt i : Nat) (mine : Bool), e = s.elapse dt → e.agent.handover = some (i, mine, true) → linDist i (linear
      e.pairTime) ≤ 0 →
      exec (.plannedHandover dt) s = .next (if mine then e.dropRole 3 else (e.agentUpd fun x =>
          { x with handover := none }).takeRole 3))
  ∧ (∀ (s e : State) (dt i : Nat), e = s.elapse dt → e.agent.handover = some (i, true, false) → linDist i (linear e.pairTime)
      ≤ 10 ^ 6 * 65536 →
      exec (.handoverAnswerTimeout dt) s = .next ((e.agentUpd fun x => { x with handover := none })))
  ∧ (∀ (s e : State) (dt t : Nat), e = s.elapse dt → e.on R.RD_ROLE_STAT_ALIGN_OK = false → e.agent.alignFrom = some t → t +
      10 ^ 12 ≤ e.clk → e.clk < e.agent.alignAt + 10 ^ 12 →
      exec (.alignOk dt) s = .next ((e.set R.RD_ROLE_STAT_ALIGN_OK 1).armedSync))
  ∧ (∀ (s e : State) (dt : Nat), e = s.elapse dt → e.on R.RD_ROLE_STAT_ALIGN_OK = true → e.agent.alignAt + 10 ^ 12 ≤ e.clk → 
      exec (.alignOk dt) s = .next (((e.set R.RD_ROLE_STAT_ALIGN_OK 0).agentUpd fun x =>
          { x with alignFrom := none }).armedSync))
  ∧ (∀ (s e : State) (dt t : Nat) (q : State), e = s.elapse dt → q = e.armedSync → q.agent.armedFrom = some t → q.on
      R.RD_PAIR_STAT_RECOVERY = true → t + q.get R.RD_PAIR_CFG2_RECOVERY_TIME * 10 ^ 12 ≤ q.clk →
      exec (.recoveryEnd dt) s = .next (q.set R.RD_PAIR_STAT_RECOVERY 0))

/-- Tier 1. Telemetry (R526, R532, R533, R535, R538, R542, R547, R548, R553, R554). A permitted read of the counter window
answers its word and latches bits 47 to 32 for the initiator; a write of a counter's or a bandwidth meter's registers,
unlocked, takes effect with a restart; windows end when their time has come; the oldest waiting capture is recorded; a write
of an event status word clears the bits written 1 that the initiator may see; SWEVT raises an event for each bit; a read of
an event FIFO pops it, and answers bit 31 alone where it is empty. -/
def Obligations.TelemetryEventsComplete : Prop :=
  (∀ (s q : State) (init off v : Nat), q = s.quiet → Allowed q init (0x300000 + off) false → off < 0xB000 → off % 4 = 0 →
      q.cntValue off = some v →
      exec (.counterLoRead init off) s = .next
          (({ q with hi := { q.hi with latch := Tab.put q.hi.latch init (off, v / 2 ^ 32) } } : State).emit (.readData init [v
          % 2 ^ 32])))
  ∧ (∀ (s q : State) (init addr v : Nat) (gl : Bool) (g k w : Nat), q = s.quiet → Allowed q init (addr) true → cntAt addr =
      some (gl, g, k, w) → (q.writable ((cntWrites gl g k v v v).filter fun x => (x.f.addr % 16) / 4 == w)) →
      exec (.counterCfgWrite init addr v) s = .next (q.direct fun q => q.cntRegWrite gl g k w v))
  ∧ (∀ (s e : State) (dt : Nat), e = s.elapse dt → e.cntWin < e.clk / 10 ^ 9 → 
      exec (.cntThresh dt) s = .next (e.endCntWindow))
  ∧ (∀ (s q : State) (init p w v : Nat), q = s.quiet → Allowed q init (0x67A000 + 16 * p + 4 * w) true → p < 48 → w < 3 →
      q.writable (inRangeWrites (bwWrites p w v)) →
      exec (.bwCfgWrite init (0x67A000 + 16 * p + 4 * w) v) s = .next (q.direct fun q => (q.writes (inRangeWrites (bwWrites p
          w v))).restartBw p))
  ∧ (∀ (s e : State) (dt p : Nat), e = s.elapse dt → p < 48 → e.windowOver p = true → 
      exec (.bwWindowEnd dt p) s = .next (e.endWindow p))
  ∧ (∀ (s e : State) (dt p : Nat), e = s.elapse dt → p < 48 → e.on R.TL_BWp_CFG_EN p = true → e.get R.TL_BWp_PER_PERIOD_N p ≤
      (e.bwOf p).windows →
      exec (.bwPeriodEnd dt p) s = .next (e.publish p))
  ∧ (∀ (s e : State) (dt : Nat) (c : Capture) (rest : List Capture), e = s.elapse dt → e.tally.waiting = c :: rest → 
      exec (.tallyDma dt) s = .next (({ e with tally := { e.tally with waiting := rest } } : State).tallyRecord c))
  ∧ (∀ (s q : State) (init i v : Nat), q = s.quiet → Allowed q init (0x100000 + 4 * i) true → i < 4 → 
      exec (.evStatusClear init i v) s = .next (q.direct fun q => q.evClear init i v))
  ∧ (∀ (s q : State) (init v : Nat), q = s.quiet → Allowed q init (0x100030) true → 
      exec (.swevt init v) s = .next (q.direct fun q => q.swRaise init v))
  ∧ (∀ (s q : State) (init : Nat) (r : EvRec) (rest : List EvRec), q = s.quiet → Allowed q init (0x100040) false →
      q.ev.secFifo = r :: rest →
      exec (.evrecPop init false) s = .next ({ q with ev := { q.ev with secLatch := r, secFifo := rest } }.emit (.readData
          init [r.w0])))
  ∧ (∀ (s q : State) (init : Nat) (r : EvRec) (rest : List EvRec), q = s.quiet → Allowed q init (0x100050) false →
      q.ev.nonFifo = r :: rest →
      exec (.evrecPop init true) s = .next ({ q with ev := { q.ev with nonLatch := r, nonFifo := rest } }.emit (.readData init
          [r.w0])))
  ∧ (∀ (s q : State) (init : Nat), q = s.quiet → Allowed q init (0x100040) false → q.ev.secFifo = [] → 
      exec (.evrecPop init false) s = .next ({ q with ev := { q.ev with secLatch := {} } }.emit (.readData init [2 ^ 31])))

/-- Tier 1. A run judges its target's measurement when it is due; one without a target left is complete; a result is applied at
its millisecond; the loss of a reference that the run needs aborts it; a further day of training writes the OCXO record
(R174, R593, R594, R597 to R599). The trim store reads a slot at once, writes or erases it as an operation that ends later,
and no operation starts while one runs (R603, R608). A pass of the sweep ends each millisecond (R510, R511), CFG_LOCK locks
its world for good (R513), and only a secure initiator clears the violation log (R509). -/
def Obligations.CalibrationAndTrimStoreComplete : Prop :=
  (∀ (s e : State) (dt n : Nat) (ofs age coef : Int) (t : State), e = s.elapse dt → n < 8 → t = e.trainUp n → t.tbOn n = true
      → t.ocxoMark n + dayPs ≤ Tab.get 0 t.us.trained n →
      exec (.ocxoRecordWrite dt n ofs age coef) s = .next
          (({ t with us := { t.us with trainedDone := Tab.put t.us.trainedDone n (t.ocxoMark n + dayPs) } } : State).ocxoWrite
          [wrap 32 ofs, wrap 32 age, wrap 32 coef]))
  ∧ (∀ (s e : State) (dt : Nat) (vs : List Int) (q k : Nat) (rest : List Nat), e = s.elapse dt → e.calRuns = true → e.cal.left
      = k :: rest → ¬ ((e.get R.CA_RUN_STAT_ITEM) = 8 ∧ e.subState (k / 4) ≠ 1) → e.calDue (e.get R.CA_RUN_STAT_ITEM) k = true
      →
      exec (.calTargetDone dt vs q) s = .next (e.calJudge k vs q))
  ∧ (∀ (s e : State) (dt : Nat) (vs : List Int) (q g : Nat), e = s.elapse dt → e.calRuns = false → e.peerGrove = some g → 
      exec (.calTargetDone dt vs q) s = .next (e.peerMeasured g vs q))
  ∧ (∀ (s e : State) (dt : Nat), e = s.elapse dt → e.calRuns = true → e.cal.left = [] → 
      exec (.calRunEnd dt) s = .next (e.calOver 1 0))
  ∧ (∀ (s e : State) (dt : Nat) (a : CalApply), e = s.elapse dt → e.cal.apply = some a → e.calRuns = true → a.at_ ≤ e.lineTime
      →
      exec (.calApply dt) s = .next (e.calGive a.target (a.values.map fun z => wrap 32 z) (shownValue (e.calChecked a.item
          a.target (a.values.map fun z => wrap 32 z))) (shownValue (e.calOld a.item a.target))))
  ∧ (∀ (s e : State) (dt : Nat) (pps ten : Bool), e = s.elapse dt → e.calRuns = true → calNeedsPps (e.get R.CA_RUN_STAT_ITEM)
      = true → pps = false →
      exec (.calRefLoss dt pps ten) s = .next ((((e.setB R.CA_REF_STAT_PPS_OK pps).setB R.CA_REF_STAT_TEN_OK ten).raise 111
          0).calAbort 1))
  ∧ (∀ (s e : State) (dt : Nat) (pps ten : Bool), e = s.elapse dt → e.calRuns = true → (calNeedsPps (e.get R.CA_RUN_STAT_ITEM)
      = false ∨ pps = true) → calNeedsTen (e.get R.CA_RUN_STAT_ITEM) = true → ten = false →
      exec (.calRefLoss dt pps ten) s = .next ((((e.setB R.CA_REF_STAT_PPS_OK pps).setB R.CA_REF_STAT_TEN_OK ten).raise 111
          1).calAbort 1))
  ∧ (∀ (s e : State) (dt : Nat) (pps ten : Bool), e = s.elapse dt → e.calRuns = false → 
      exec (.calRefLoss dt pps ten) s = .next ((e.setB R.CA_REF_STAT_PPS_OK pps).setB R.CA_REF_STAT_TEN_OK ten))
  ∧ (∀ (s q : State) (init slot : Nat), q = s.quiet → Allowed q init (0x690008) true → slot < 1024 → q.nvOp = none → 
      exec (.nvSlotRead init slot) s = .next (q.direct fun q => ((List.range 16).foldl (fun (s : State) i => s.set
          R.NV_DATAi_DATA ((((q.set R.NV_CTRL_OP 0).set R.NV_CTRL_SLOT slot).nvSlotWords slot).1.getD i 0) i) (((q.set
          R.NV_CTRL_OP 0).set R.NV_CTRL_SLOT slot).nvSlotWords slot).2).set R.NV_CTRL_ERR 0))
  ∧ (∀ (s q : State) (init slot : Nat), q = s.quiet → Allowed q init (0x690008) true → slot < 1024 → init ≠ 4 → q.nvOp = none
      →
      exec (.nvSlotWrite init slot) s = .next (q.direct fun q =>
          { ((q.set R.NV_CTRL_OP 1).set R.NV_CTRL_SLOT slot).set R.NV_STAT_BUSY 1 with nvOp := some { op := 1, slot := slot, at_ := q.clk } }))
  ∧ (∀ (s q : State) (init slot : Nat), q = s.quiet → Allowed q init (0x690008) true → slot < 1024 → init ≠ 4 → q.nvOp = none
      →
      exec (.nvSlotErase init slot) s = .next (q.direct fun q =>
          { ((q.set R.NV_CTRL_OP 2).set R.NV_CTRL_SLOT slot).set R.NV_STAT_BUSY 1 with nvOp := some { op := 2, slot := slot, at_ := q.clk } }))
  ∧ (∀ (s q : State) (init slot : Nat) (o : NvOp), q = s.quiet → Allowed q init (0x690008) true → slot < 1024 → init ≠ 4 →
      q.nvOp = some o →
      exec (.nvSlotErase init slot) s = .next (q.direct fun q => q))
  ∧ (∀ (s e : State) (dt : Nat) (ok : Bool) (o : NvOp), e = s.elapse dt → e.nvOp = some o → 
      exec (.nvOperationEnd dt ok) s = .next (e.nvFinish o ok))
  ∧ (∀ (s e : State) (dt t : Nat), e = s.elapse dt → e.ci.passStart = some t → t + 10 ^ 9 ≤ e.clk → 
      exec (.sweepPassEnd dt) s = .next (({ e with ci := { e.ci with passStart := some (t + 10 ^ 9) } } : State).endPass))
  ∧ (∀ (s q : State) (init : Nat), q = s.quiet → Allowed q init (0x400300) true → 
      exec (.cfgLockWrite init 0) s = .next (q.direct fun q => q.set R.CFG_LOCK_S_LOCK 1))
  ∧ (∀ (s q : State) (init : Nat), q = s.quiet → Allowed q init (0x400304) true → 
      exec (.cfgLockWrite init 1) s = .next (q.direct fun q => q.set R.CFG_LOCK_N_LOCK 1))
  ∧ (∀ (s q : State) (init : Nat), q = s.quiet → Allowed q init (0x400000) true → q.initSecure init = true → 
      exec (.violLogClear init) s = .next (q.direct fun q => q.clearViolations))
  ∧ (∀ (s q : State) (init : Nat), q = s.quiet → Allowed q init (0x400000) true → q.initSecure init = false → 
      exec (.violLogClear init) s = .next (q.direct fun q => q.violate { kind := 0 } init 0x400000 1))

/-- Tier 1. The host interface (R545, R610 to R616, R629). A trained link is shown and raises PCIE_LINK, and its loss takes it
down; a function level reset resets its function and is counted; configuration space sets bus mastering, MSI-X and the
masks, and pending vectors leave. The link of M0 is shown; a frame addressed to it waits, of at most eight, or is counted as
dropped; READ and WRITE are carried out word by word, with the count done and status 1 where a word was refused, and a bad
request answered with status 2. SMBus commands of a powered device (R617 to R621). Status, identity, mode, power,
temperature, time and event registers are answered as their words, least significant byte first, a read of the status
clearing ERR and PEC_ERR; a block write or read of a mailbox goes word by word; semaphores are written and read as agent 7;
a command that the port does not know, a semaphore beyond 63 and a mailbox offset outside its mailbox are not acknowledged;
a reset of the bus frees what the agent holds. -/
def Obligations.HostAndManagementPortsComplete : Prop :=
  (∀ (s e : State) (dt gen width : Nat), e = s.elapse dt → e.powered = true → e.beforeStep 2 = false → 1 ≤ gen → gen ≤ 4 →
      (width = 1 ∨ width = 2 ∨ width = 4) → e.on R.HI_PCIE_STAT_LINK_UP = false →
      exec (.pcieLink dt gen width false) s = .next ((e.writes [{ f := R.HI_PCIE_STAT_LINK_UP, v := 1 },
          { f := R.HI_PCIE_STAT_SPEED, v := gen }, { f := R.HI_PCIE_STAT_WIDTH, v := width }]).raise 114 (16 * gen + width)))
  ∧ (∀ (s e : State) (dt width : Nat) (hot : Bool), e = s.elapse dt → e.powered = true → 
      exec (.pcieLink dt 0 width hot) s = .next (e.pcieDown))
  ∧ (∀ (s e : State) (dt f : Nat), e = s.elapse dt → f < 2 → e.on R.HI_PCIE_STAT_LINK_UP = true → 
      exec (.pcieFlr dt f) s = .next (((e.resetPf f).incSat (if f = 0 then R.HI_PCIE_STAT_FLR_CNT0 else
          R.HI_PCIE_STAT_FLR_CNT1)).raise 115 f))
  ∧ (∀ (s q : State) (f vmask : Nat) (bme msixEn fmask : Bool), q = s.quiet → f < 2 → vmask < 2 ^ 32 → q.on
      R.HI_PCIE_STAT_LINK_UP = true →
      exec (.pcieConfigWrite f vmask bme msixEn fmask) s = .next
          ((({ q with pf := Tab.put q.pf f { Tab.get {} q.pf f with bme := bme, msixEn := msixEn, fmask := fmask, vmask := vmask } }
          : State).setB (if f = 0 then R.HI_PCIE_STAT_PF0_BME else R.HI_PCIE_STAT_PF1_BME) bme).sendPending f))
  ∧ (∀ (s e : State) (dt speed v : Nat) (up : Bool), e = s.elapse dt → e.powered = true → e.asleep 41 = false → v = (if !up
      then 0 else if e.on R.HI_M0_CFG_MODE then min 2 speed else 2) → (e.on R.HI_M0_STAT_LINK != up || e.get
      R.HI_M0_STAT_SPEED != v) = true →
      exec (.m0Link dt speed up) s = .next (((e.setB R.HI_M0_STAT_LINK up).set R.HI_M0_STAT_SPEED v).raise 116 (b2n up + 2 *
          v)))
  ∧ (∀ (s e : State) (dt : Nat) (bytes : List Byte), e = s.elapse dt → e.asleep 41 = false → e.on R.HI_M0_STAT_LINK = true →
      e.m0Takes bytes = true →
      exec (.m0FrameArrival dt bytes) s = .next (if e.hi.m0.length < 8 then
          { e with hi := { e.hi with m0 := e.hi.m0 ++ [{ src := fieldAt bytes 6 6, payload := bytes.drop 14 }] } } else
          e.incSat R.HI_M0_STAT_DROP))
  ∧ (∀ (s e : State) (dt : Nat) (f : M0Frame) (rest : List M0Frame) (p : State), e = s.elapse dt → e.asleep 41 = false →
      e.hi.m0 = f :: rest → p = { e with hi := { e.hi with m0 := rest } } → fieldAt f.payload 2 1 = 1 → m0Good f false = true
      →
      exec (.m0Read dt) s = .next ((p.readWords p.m0Init (fieldAt f.payload 8 4) (fieldAt f.payload 3 1)).2.2.m0Answer f
          (p.readWords p.m0Init (fieldAt f.payload 8 4) (fieldAt f.payload 3 1)).1.length (b2n (!(p.readWords p.m0Init
          (fieldAt f.payload 8 4) (fieldAt f.payload 3 1)).2.1)) (p.readWords p.m0Init (fieldAt f.payload 8 4) (fieldAt
          f.payload 3 1)).1))
  ∧ (∀ (s e : State) (dt : Nat) (f : M0Frame) (rest : List M0Frame), e = s.elapse dt → e.asleep 41 = false → e.hi.m0 = f ::
      rest → fieldAt f.payload 2 1 ≠ 2 → ((fieldAt f.payload 2 1 ≠ 1 ∨ m0Good f false = false)) →
      exec (.m0Read dt) s = .next (({ e with hi := { e.hi with m0 := rest } } : State).m0Answer f 0 2 []))
  ∧ (∀ (s e : State) (dt : Nat) (f : M0Frame) (rest : List M0Frame) (p : State), e = s.elapse dt → e.asleep 41 = false →
      e.hi.m0 = f :: rest → p = { e with hi := { e.hi with m0 := rest } } → fieldAt f.payload 2 1 = 2 → m0Good f true = true →
      exec (.m0Write dt) s = .next ((p.writeWords p.m0Init (fieldAt f.payload 8 4) ((List.range (fieldAt f.payload 3 1)).map
          fun i => fieldAt f.payload (12 + 4 * i) 4)).2.m0Answer f (p.writeWords p.m0Init (fieldAt f.payload 8 4) ((List.range
          (fieldAt f.payload 3 1)).map fun i => fieldAt f.payload (12 + 4 * i) 4)).1 (b2n ((p.writeWords p.m0Init (fieldAt
          f.payload 8 4) ((List.range (fieldAt f.payload 3 1)).map fun i => fieldAt f.payload (12 + 4 * i) 4)).1 != fieldAt
          f.payload 3 1)) []))
  ∧ (∀ (s q : State), q = s.quiet → q.powered = true → 
      exec (.i2cStatus) s = .next (((q.set R.HI_I2C_STAT_ERR 0).set R.HI_I2C_STAT_PEC_ERR 0).i2cAnswer 0x00 [] (leBytes 1
          (q.get R.HI_I2C_STAT_ERR + 2 * q.get R.HI_I2C_STAT_PEC_ERR + 4 * q.get R.MB_STATUS_FW_READY_N + 8 * b2n q.irqLow))))
  ∧ (∀ (s q : State), q = s.quiet → q.powered = true → 
      exec (.i2cDevId) s = .next (q.i2cAnswer 0x01 [] (leBytes 4 (q.word R.DEV_ID))))
  ∧ (∀ (s q : State), q = s.quiet → q.powered = true → 
      exec (.i2cNodeId) s = .next (q.i2cAnswer 0x02 [] (leBytes 4 (q.word R.NODE_ID))))
  ∧ (∀ (s q : State), q = s.quiet → q.powered = true → 
      exec (.i2cModeState) s = .next (q.i2cAnswer 0x03 [] (leBytes 4 (q.word R.MODE_STATE))))
  ∧ (∀ (s q : State), q = s.quiet → q.powered = true → 
      exec (.i2cPwrState) s = .next (q.i2cAnswer 0x04 [] (leBytes 4 (q.word R.PWR_STATE))))
  ∧ (∀ (s q : State), q = s.quiet → q.powered = true → 
      exec (.i2cTemp) s = .next (q.i2cAnswer 0x05 [] (leBytes 3 (q.word R.PM_TEMP_STAT))))
  ∧ (∀ (s q : State) (n u : Nat), q = s.quiet → q.powered = true → n = q.lineTb → u = units16 (q.time n) / 65536 → 
      exec (.i2cTime) s = .next (q.i2cAnswer 0x06 [] (leBytes 6 (u / 10 ^ 9 % 2 ^ 48) ++ leBytes 4 (u % 10 ^ 9) ++ leBytes 1
          (b2n (q.tbOf n).timeValid + 2 * b2n (q.dpllState n == 2)))))
  ∧ (∀ (s q : State), q = s.quiet → q.powered = true → 
      exec (.i2cEvents) s = .next (q.i2cAnswer 0x07 [] ((List.range 4).flatMap fun i => leBytes 4 (Nat.land (q.get
          R.EV_STATUSi_STATUS i) (q.evMask 7 i)))))
  ∧ (∀ (s q : State) (off : Nat) (words : List Nat) (pec : Bool), q = s.quiet → q.powered = true → (q.on R.HI_I2C_CFG_PEC_EN =
      false ∨ pec = true) →
      exec (.i2cMbWrite off words pec) s = .next (q.i2cWrite off words))
  ∧ (∀ (s q : State) (off : Nat) (words : List Nat), q = s.quiet → q.powered = true → q.on R.HI_I2C_CFG_PEC_EN = true → 
      exec (.i2cMbWrite off words false) s = .next ((q.set R.HI_I2C_STAT_PEC_ERR 1).i2cNack))
  ∧ (∀ (s q : State) (off n : Nat), q = s.quiet → q.powered = true → mbOffset off = true → n < 256 → 
      exec (.i2cMbRead off n) s = .next ((q.i2cReads off n).2.i2cAnswer 0x10 (leBytes 2 off) ((q.i2cReads off n).1.flatMap fun
          w => leBytes 4 w)))
  ∧ (∀ (s q : State) (off n : Nat), q = s.quiet → q.powered = true → mbOffset off = false → 
      exec (.i2cMbRead off n) s = .next (q.i2cNack))
  ∧ (∀ (s q : State) (n cmd lease : Nat) (pec : Bool), q = s.quiet → q.powered = true → n < 64 → cmd < 4 → lease < 1024 →
      (q.on R.HI_I2C_CFG_PEC_EN = false ∨ pec = true) →
      exec (.i2cSemWrite n cmd lease pec) s = .next (if (q.portWrite 7 (semAddr n) (cmd + lease * 2 ^ 10)).1 then (q.portWrite
          7 (semAddr n) (cmd + lease * 2 ^ 10)).2 else (q.portWrite 7 (semAddr n) (cmd + lease * 2 ^ 10)).2.i2cErr.i2cNack))
  ∧ (∀ (s q : State) (n : Nat), q = s.quiet → q.powered = true → n < 64 → 
      exec (.i2cSemRead n) s = .next ((if (q.portRead 7 (semAddr n)).1.isNone then (q.portRead 7 (semAddr n)).2.i2cErr else
          (q.portRead 7 (semAddr n)).2).i2cAnswer 0x11 (leBytes 1 n) (leBytes 4 ((q.portRead 7 (semAddr n)).1.getD 0))))
  ∧ (∀ (s q : State) (n : Nat), q = s.quiet → q.powered = true → 64 ≤ n → n < 256 → 
      exec (.i2cSemRead n) s = .next (q.i2cNack))
  ∧ (∀ (s q : State) (c : Nat), q = s.quiet → q.powered = true → 8 ≤ c → c < 256 → c ≠ 0x10 → c ≠ 0x11 → 
      exec (.i2cUnknownCommand c) s = .next (q.i2cNack))
  ∧ (∀ (s e : State) (dt : Nat), e = s.elapse dt → e.powered = true → 
      exec (.i2cReset dt) s = .next ((e.ownerFault 7).raise 117 0))

/-- Tier 1. The console and the test port (R622 to R628). A byte waits for the console while fewer than 256 do, and is otherwise
counted with an event; a line answers its text, any other "?". The TAP reset selects IDCODE; each instruction code selects
its register, every other code BYPASS; EXTEST scans pins in MAINTENANCE only; a debug access is carried out as agent 8 and
shifts out the result of the one before it, and an abort is recorded; unlocking without permission presents zeros and
changes nothing, and else accepts or fails on the answer to a fresh challenge (a value left free). -/
def Obligations.ConsoleAndTestPortComplete : Prop :=
  (∀ (s e : State) (dt b : Nat), e = s.elapse dt → e.powered = true → e.asleep 44 = false → e.on R.HI_UART_CFG_EN = true →
      e.hi.uart.length < 256 →
      exec (.uartByte dt b) s = .next ({ e with hi := { e.hi with uart := e.hi.uart ++ [BitVec.ofNat 8 b] } }))
  ∧ (∀ (s e : State) (dt b : Nat), e = s.elapse dt → e.powered = true → e.asleep 44 = false → e.on R.HI_UART_CFG_EN = true →
      256 ≤ e.hi.uart.length →
      exec (.uartByte dt b) s = .next ((e.incSat R.HI_UART_STAT_OVF_CNT).raise 119 1))
  ∧ (∀ (s e : State) (dt : Nat) (rest : List Byte), e = s.elapse dt → e.on R.MB_STATUS_FW_READY = true → e.asleep 44 = false →
      e.on R.HI_UART_CFG_EN = true → firstLine e.hi.uart = some (ascii "status", rest) →
      exec (.uartStatus dt) s = .next (({ e with hi := { e.hi with uart := rest } } : State).emit (.uart "status")))
  ∧ (∀ (s e : State) (dt : Nat) (rest : List Byte), e = s.elapse dt → e.on R.MB_STATUS_FW_READY = true → e.asleep 44 = false →
      e.on R.HI_UART_CFG_EN = true → firstLine e.hi.uart = some (ascii "temp", rest) →
      exec (.uartTemp dt) s = .next (({ e with hi := { e.hi with uart := rest } } : State).emit (.uart "temp")))
  ∧ (∀ (s e : State) (dt : Nat) (rest : List Byte), e = s.elapse dt → e.on R.MB_STATUS_FW_READY = true → e.asleep 44 = false →
      e.on R.HI_UART_CFG_EN = true → firstLine e.hi.uart = some (ascii "ver", rest) →
      exec (.uartVer dt) s = .next (({ e with hi := { e.hi with uart := rest } } : State).emit (.uart "ver")))
  ∧ (∀ (s e : State) (dt : Nat) (rest : List Byte), e = s.elapse dt → e.on R.MB_STATUS_FW_READY = true → e.asleep 44 = false →
      e.on R.HI_UART_CFG_EN = true → firstLine e.hi.uart = some (ascii "help", rest) →
      exec (.uartHelp dt) s = .next (({ e with hi := { e.hi with uart := rest } } : State).emit (.uart "help")))
  ∧ (∀ (s e : State) (dt : Nat) (line rest : List Byte), e = s.elapse dt → e.on R.MB_STATUS_FW_READY = true → e.asleep 44 =
      false → e.on R.HI_UART_CFG_EN = true → firstLine e.hi.uart = some (line, rest) → ((consoleLines.any fun l => line ==
      ascii l) = false) →
      exec (.uartUnknownLine dt) s = .next (({ e with hi := { e.hi with uart := rest } } : State).emit (.uart "?")))
  ∧ (∀ (s : State), s.powered = true → s.asleep 45 = false → 
      exec (.tapReset) s = .next (s.selectIr 1))
  ∧ (∀ (s : State) (code bit : Nat), s.powered = true → s.asleep 45 = false → code < 256 → [0x01, 0x02, 0x03, 0x04, 0x05,
      0x20, 0x21].contains code = false →
      exec (.jtagBypass code bit) s = .next ((s.selectIr code).shiftBypass bit))
  ∧ (∀ (s : State), s.powered = true → s.asleep 45 = false → 
      exec (.jtagIdcode) s = .next ((s.selectIr 1).emit (.tdo 32 (bits (s.get R.DEV_REV_REV_T) 7 4 * 2 ^ 28 + 0x4816 * 2 ^ 12
          + 0x1D5 * 2 + 1))))
  ∧ (∀ (s : State) (v : Nat), s.powered = true → s.asleep 45 = false → 
      exec (.jtagSamplePreload v) s = .next ((s.selectIr 2).scanPins v))
  ∧ (∀ (s : State) (v : Nat), s.powered = true → s.asleep 45 = false → (s.selectIr 3).mode = 5 → 
      exec (.jtagExtest v) s = .next ((s.selectIr 3).scanPins v))
  ∧ (∀ (s : State) (v : Nat), s.powered = true → s.asleep 45 = false → (s.selectIr 3).mode ≠ 5 → 
      exec (.jtagExtest v) s = .next ((s.selectIr 3).shiftBypass v))
  ∧ (∀ (s : State) (v : Nat), s.powered = true → s.asleep 45 = false → 
      exec (.jtagClamp v) s = .next ((s.selectIr 4).shiftBypass v))
  ∧ (∀ (s : State) (v : Nat), s.powered = true → s.asleep 45 = false → 
      exec (.jtagHighz v) s = .next ((s.selectIr 5).shiftBypass v))
  ∧ (∀ (s : State) (addr : Nat), s.powered = true → s.asleep 45 = false → 
      exec (.dbgRead addr) s = .next
          (({ ((s.selectIr 0x20).portRead 8 (dbgAddr addr)).2 with hi := { ((s.selectIr 0x20).portRead 8 (dbgAddr addr)).2.hi with dbgData := ((s.selectIr 0x20).portRead 8 (dbgAddr addr)).1.getD 0, dbgDone := true, dbgAbort := ((s.selectIr 0x20).portRead 8 (dbgAddr addr)).1.isNone } }
          : State).emit (.tdo 66 s.dbgWord)))
  ∧ (∀ (s : State) (addr v : Nat), s.powered = true → s.asleep 45 = false → 
      exec (.dbgWrite addr v) s = .next
          (({ ((s.selectIr 0x20).portWrite 8 (dbgAddr addr) v).2 with hi := { ((s.selectIr 0x20).portWrite 8 (dbgAddr addr) v).2.hi with dbgDone := true, dbgAbort := !((s.selectIr 0x20).portWrite 8 (dbgAddr addr) v).1 } }
          : State).emit (.tdo 66 s.dbgWord)))
  ∧ (∀ (s : State) (key sr ss : Nat) (t : State), s.powered = true → s.asleep 45 = false → t = s.selectIr 0x21 → t.on
      R.FB_CFG_DEBUG_PERMIT = false →
      exec (.dbgUnlock key sr ss) s = .next (({ t with drawn := t.drawn + 1 } : State).emit (.tdo 256 0)))
  ∧ (∀ (s : State) (key sr ss ch : Nat) (t u : State), s.powered = true → s.asleep 45 = false → t = s.selectIr 0x21 → t.on
      R.FB_CFG_DEBUG_PERMIT = true → ch = Config.challenge t.drawn % 2 ^ 256 → u = ({ t with drawn := t.drawn + 1 } :
      State).emit (.tdo 256 ch) → u.on R.HI_JTAG_STAT_UNLOCK_BLOCKED = false → key < 256 → sr < 2 ^ 256 → ss < 2 ^ 256 →
      exec (.dbgUnlock key sr ss) s = .next (if u.keyAccepted key && Config.ecdsaVerify key (Config.sha256 (beBytes 32 ch ++
          u.serialBytes) % 2 ^ 256) (sr * 2 ^ 256 + ss) then u.setUnlocked true else u.unlockFails))
end

