-- ==== Sys2Proof/Laws/Tab.lean ====
section
/-! SUPPORT. What a sparse table reads after a write, and that writes keep its keys ascending. -/

namespace Sys2Proof.Machine

variable {α : Type}

theorem Tab.find?_put_same (t : Tab α) (k : Nat) (v : α) : Tab.find? (Tab.put t k v) k = some v := by
  induction t with
  | nil => simp [Tab.put, Tab.find?]
  | cons p r ih =>
    obtain ⟨j, w⟩ := p
    by_cases h : j = k
    · simp [Tab.put, Tab.find?, h]
    · by_cases h2 : k < j <;> simp [Tab.put, Tab.find?, h, h2, ih]

theorem Tab.find?_put_ne (t : Tab α) {k l : Nat} (v : α) (h : l ≠ k) :
    Tab.find? (Tab.put t k v) l = Tab.find? t l := by
  induction t with
  | nil => simp [Tab.put, Tab.find?, Ne.symm h]
  | cons p r ih =>
    obtain ⟨j, w⟩ := p
    by_cases h1 : j = k
    · subst h1; simp [Tab.put, Tab.find?, Ne.symm h]
    · by_cases h2 : k < j
      · simp [Tab.put, Tab.find?, h1, h2, Ne.symm h]
      · simp [Tab.put, Tab.find?, h1, h2, ih]

theorem Tab.get_put_same (d : α) (t : Tab α) (k : Nat) (v : α) : Tab.get d (Tab.put t k v) k = v := by
  simp [Tab.get, Tab.find?_put_same]

theorem Tab.get_put_ne (d : α) (t : Tab α) {k l : Nat} (v : α) (h : l ≠ k) :
    Tab.get d (Tab.put t k v) l = Tab.get d t l := by
  simp [Tab.get, Tab.find?_put_ne t v h]

theorem Tab.get_upd_same (d : α) (t : Tab α) (k : Nat) (f : α → α) :
    Tab.get d (Tab.upd d t k f) k = f (Tab.get d t k) := Tab.get_put_same ..

theorem Tab.get_upd_ne (d : α) (t : Tab α) {k l : Nat} (f : α → α) (h : l ≠ k) :
    Tab.get d (Tab.upd d t k f) l = Tab.get d t l := Tab.get_put_ne d t _ h

theorem Tab.find?_del_same (t : Tab α) (k : Nat) : Tab.find? (Tab.del t k) k = none := by
  induction t with
  | nil => rfl
  | cons p r ih =>
    obtain ⟨j, w⟩ := p
    by_cases h : j = k <;> simp [Tab.del, Tab.find?, h, ih]

theorem Tab.find?_del_ne (t : Tab α) {k l : Nat} (h : l ≠ k) : Tab.find? (Tab.del t k) l = Tab.find? t l := by
  induction t with
  | nil => rfl
  | cons p r ih =>
    obtain ⟨j, w⟩ := p
    by_cases h1 : j = k
    · subst h1; simp [Tab.del, Tab.find?, ih, Ne.symm h]
    · simp [Tab.del, Tab.find?, h1, ih]

end Sys2Proof.Machine
end

