-- ==== Sys2Proof/Laws/State.lean ====
section
/-! SUPPORT. What the register operations leave: one lemma per field of State and update, and what a register field
reads after a write. -/

namespace Sys2Proof.Machine

variable (s : State)

/-! ### One field per update -/

@[simp] theorem State.set_pending (f : Fld) (v i j : Nat) : (s.set f v i j).pending = s.pending := rfl
@[simp] theorem State.set_out (f : Fld) (v i j : Nat) : (s.set f v i j).out = s.out := rfl
@[simp] theorem State.set_clk (f : Fld) (v i j : Nat) : (s.set f v i j).clk = s.clk := rfl
@[simp] theorem State.set_drawn (f : Fld) (v i j : Nat) : (s.set f v i j).drawn = s.drawn := rfl
@[simp] theorem State.set_ev (f : Fld) (v i j : Nat) : (s.set f v i j).ev = s.ev := rfl
@[simp] theorem State.set_sem (f : Fld) (v i j : Nat) : (s.set f v i j).sem = s.sem := rfl
@[simp] theorem State.set_ctl (f : Fld) (v i j : Nat) : (s.set f v i j).ctl = s.ctl := rfl
@[simp] theorem State.set_ci (f : Fld) (v i j : Nat) : (s.set f v i j).ci = s.ci := rfl
@[simp] theorem State.set_tb (f : Fld) (v i j : Nat) : (s.set f v i j).tb = s.tb := rfl
@[simp] theorem State.set_replica (f : Fld) (v i j : Nat) : (s.set f v i j).replica = s.replica := rfl
@[simp] theorem State.set_pair (f : Fld) (v i j : Nat) : (s.set f v i j).pair = s.pair := rfl
@[simp] theorem State.set_snap (f : Fld) (v i j : Nat) : (s.set f v i j).snap = s.snap := rfl
@[simp] theorem State.set_hw (f : Fld) (v i j : Nat) : (s.set f v i j).hw = s.hw := rfl
@[simp] theorem State.set_pps (f : Fld) (v i j : Nat) : (s.set f v i j).pps = s.pps := rfl
@[simp] theorem State.set_serial (f : Fld) (v i j : Nat) : (s.set f v i j).serial = s.serial := rfl
@[simp] theorem State.set_slot (f : Fld) (v i j : Nat) : (s.set f v i j).slot = s.slot := rfl
@[simp] theorem State.set_dpll (f : Fld) (v i j : Nat) : (s.set f v i j).dpll = s.dpll := rfl
@[simp] theorem State.set_tr (f : Fld) (v i j : Nat) : (s.set f v i j).tr = s.tr := rfl
@[simp] theorem State.set_pf (f : Fld) (v i j : Nat) : (s.set f v i j).pf = s.pf := rfl
@[simp] theorem State.set_progCnt (f : Fld) (v i j : Nat) : (s.set f v i j).progCnt = s.progCnt := rfl
@[simp] theorem State.set_fixedCnt (f : Fld) (v i j : Nat) : (s.set f v i j).fixedCnt = s.fixedCnt := rfl
@[simp] theorem State.set_bw (f : Fld) (v i j : Nat) : (s.set f v i j).bw = s.bw := rfl
@[simp] theorem State.set_sched (f : Fld) (v i j : Nat) : (s.set f v i j).sched = s.sched := rfl
@[simp] theorem State.set_sessions (f : Fld) (v i j : Nat) : (s.set f v i j).sessions = s.sessions := rfl
@[simp] theorem State.set_ptp (f : Fld) (v i j : Nat) : (s.set f v i j).ptp = s.ptp := rfl
@[simp] theorem State.set_admits (f : Fld) (v i j : Nat) : (s.set f v i j).admits = s.admits := rfl
@[simp] theorem State.set_fpm (f : Fld) (v i j : Nat) : (s.set f v i j).fpm = s.fpm := rfl
@[simp] theorem State.set_lane (f : Fld) (v i j : Nat) : (s.set f v i j).lane = s.lane := rfl
@[simp] theorem State.set_subst (f : Fld) (v i j : Nat) : (s.set f v i j).subst = s.subst := rfl
@[simp] theorem State.set_waveFrom (f : Fld) (v i j : Nat) : (s.set f v i j).waveFrom = s.waveFrom := rfl
@[simp] theorem State.set_port (f : Fld) (v i j : Nat) : (s.set f v i j).port = s.port := rfl
@[simp] theorem State.set_police (f : Fld) (v i j : Nat) : (s.set f v i j).police = s.police := rfl
@[simp] theorem State.set_policed (f : Fld) (v i j : Nat) : (s.set f v i j).policed = s.policed := rfl
@[simp] theorem State.set_cl (f : Fld) (v i j : Nat) : (s.set f v i j).cl = s.cl := rfl
@[simp] theorem State.set_fwd (f : Fld) (v i j : Nat) : (s.set f v i j).fwd = s.fwd := rfl
@[simp] theorem State.set_fo (f : Fld) (v i j : Nat) : (s.set f v i j).fo = s.fo := rfl
@[simp] theorem State.set_sctx (f : Fld) (v i j : Nat) : (s.set f v i j).sctx = s.sctx := rfl
@[simp] theorem State.set_et (f : Fld) (v i j : Nat) : (s.set f v i j).et = s.et := rfl
@[simp] theorem State.set_us (f : Fld) (v i j : Nat) : (s.set f v i j).us = s.us := rfl
@[simp] theorem State.set_nv (f : Fld) (v i j : Nat) : (s.set f v i j).nv = s.nv := rfl
@[simp] theorem State.set_nvBad (f : Fld) (v i j : Nat) : (s.set f v i j).nvBad = s.nvBad := rfl
@[simp] theorem State.set_nvOp (f : Fld) (v i j : Nat) : (s.set f v i j).nvOp = s.nvOp := rfl
@[simp] theorem State.set_nvLast (f : Fld) (v i j : Nat) : (s.set f v i j).nvLast = s.nvLast := rfl
@[simp] theorem State.set_bootCfg (f : Fld) (v i j : Nat) : (s.set f v i j).bootCfg = s.bootCfg := rfl
@[simp] theorem State.set_flash (f : Fld) (v i j : Nat) : (s.set f v i j).flash = s.flash := rfl
@[simp] theorem State.set_csram (f : Fld) (v i j : Nat) : (s.set f v i j).csram = s.csram := rfl
@[simp] theorem State.set_apll (f : Fld) (v i j : Nat) : (s.set f v i j).apll = s.apll := rfl
@[simp] theorem State.set_clkout (f : Fld) (v i j : Nat) : (s.set f v i j).clkout = s.clkout := rfl
@[simp] theorem State.set_gn (f : Fld) (v i j : Nat) : (s.set f v i j).gn = s.gn := rfl
@[simp] theorem State.set_tally (f : Fld) (v i j : Nat) : (s.set f v i j).tally = s.tally := rfl
@[simp] theorem State.set_agent (f : Fld) (v i j : Nat) : (s.set f v i j).agent = s.agent := rfl
@[simp] theorem State.set_degWin (f : Fld) (v i j : Nat) : (s.set f v i j).degWin = s.degWin := rfl
@[simp] theorem State.set_polWin (f : Fld) (v i j : Nat) : (s.set f v i j).polWin = s.polWin := rfl
@[simp] theorem State.set_cntWin (f : Fld) (v i j : Nat) : (s.set f v i j).cntWin = s.cntWin := rfl
@[simp] theorem State.set_pw (f : Fld) (v i j : Nat) : (s.set f v i j).pw = s.pw := rfl
@[simp] theorem State.set_cal (f : Fld) (v i j : Nat) : (s.set f v i j).cal = s.cal := rfl
@[simp] theorem State.set_hi (f : Fld) (v i j : Nat) : (s.set f v i j).hi = s.hi := rfl
@[simp] theorem State.set_waveDie (f : Fld) (v i j : Nat) : (s.set f v i j).waveDie = s.waveDie := rfl

@[simp] theorem State.emit_pending (x : Out) : (s.emit x).pending = s.pending := rfl
@[simp] theorem State.emit_clk (x : Out) : (s.emit x).clk = s.clk := rfl
@[simp] theorem State.emit_drawn (x : Out) : (s.emit x).drawn = s.drawn := rfl
@[simp] theorem State.emit_regs (x : Out) : (s.emit x).regs = s.regs := rfl
@[simp] theorem State.emit_ev (x : Out) : (s.emit x).ev = s.ev := rfl
@[simp] theorem State.emit_sem (x : Out) : (s.emit x).sem = s.sem := rfl
@[simp] theorem State.emit_ctl (x : Out) : (s.emit x).ctl = s.ctl := rfl
@[simp] theorem State.emit_ci (x : Out) : (s.emit x).ci = s.ci := rfl
@[simp] theorem State.emit_tb (x : Out) : (s.emit x).tb = s.tb := rfl
@[simp] theorem State.emit_replica (x : Out) : (s.emit x).replica = s.replica := rfl
@[simp] theorem State.emit_pair (x : Out) : (s.emit x).pair = s.pair := rfl
@[simp] theorem State.emit_snap (x : Out) : (s.emit x).snap = s.snap := rfl
@[simp] theorem State.emit_hw (x : Out) : (s.emit x).hw = s.hw := rfl
@[simp] theorem State.emit_pps (x : Out) : (s.emit x).pps = s.pps := rfl
@[simp] theorem State.emit_serial (x : Out) : (s.emit x).serial = s.serial := rfl
@[simp] theorem State.emit_slot (x : Out) : (s.emit x).slot = s.slot := rfl
@[simp] theorem State.emit_dpll (x : Out) : (s.emit x).dpll = s.dpll := rfl
@[simp] theorem State.emit_tr (x : Out) : (s.emit x).tr = s.tr := rfl
@[simp] theorem State.emit_pf (x : Out) : (s.emit x).pf = s.pf := rfl
@[simp] theorem State.emit_progCnt (x : Out) : (s.emit x).progCnt = s.progCnt := rfl
@[simp] theorem State.emit_fixedCnt (x : Out) : (s.emit x).fixedCnt = s.fixedCnt := rfl
@[simp] theorem State.emit_bw (x : Out) : (s.emit x).bw = s.bw := rfl
@[simp] theorem State.emit_sched (x : Out) : (s.emit x).sched = s.sched := rfl
@[simp] theorem State.emit_sessions (x : Out) : (s.emit x).sessions = s.sessions := rfl
@[simp] theorem State.emit_ptp (x : Out) : (s.emit x).ptp = s.ptp := rfl
@[simp] theorem State.emit_admits (x : Out) : (s.emit x).admits = s.admits := rfl
@[simp] theorem State.emit_fpm (x : Out) : (s.emit x).fpm = s.fpm := rfl
@[simp] theorem State.emit_lane (x : Out) : (s.emit x).lane = s.lane := rfl
@[simp] theorem State.emit_subst (x : Out) : (s.emit x).subst = s.subst := rfl
@[simp] theorem State.emit_waveFrom (x : Out) : (s.emit x).waveFrom = s.waveFrom := rfl
@[simp] theorem State.emit_port (x : Out) : (s.emit x).port = s.port := rfl
@[simp] theorem State.emit_police (x : Out) : (s.emit x).police = s.police := rfl
@[simp] theorem State.emit_policed (x : Out) : (s.emit x).policed = s.policed := rfl
@[simp] theorem State.emit_cl (x : Out) : (s.emit x).cl = s.cl := rfl
@[simp] theorem State.emit_fwd (x : Out) : (s.emit x).fwd = s.fwd := rfl
@[simp] theorem State.emit_fo (x : Out) : (s.emit x).fo = s.fo := rfl
@[simp] theorem State.emit_sctx (x : Out) : (s.emit x).sctx = s.sctx := rfl
@[simp] theorem State.emit_et (x : Out) : (s.emit x).et = s.et := rfl
@[simp] theorem State.emit_us (x : Out) : (s.emit x).us = s.us := rfl
@[simp] theorem State.emit_nv (x : Out) : (s.emit x).nv = s.nv := rfl
@[simp] theorem State.emit_nvBad (x : Out) : (s.emit x).nvBad = s.nvBad := rfl
@[simp] theorem State.emit_nvOp (x : Out) : (s.emit x).nvOp = s.nvOp := rfl
@[simp] theorem State.emit_nvLast (x : Out) : (s.emit x).nvLast = s.nvLast := rfl
@[simp] theorem State.emit_bootCfg (x : Out) : (s.emit x).bootCfg = s.bootCfg := rfl
@[simp] theorem State.emit_flash (x : Out) : (s.emit x).flash = s.flash := rfl
@[simp] theorem State.emit_csram (x : Out) : (s.emit x).csram = s.csram := rfl
@[simp] theorem State.emit_apll (x : Out) : (s.emit x).apll = s.apll := rfl
@[simp] theorem State.emit_clkout (x : Out) : (s.emit x).clkout = s.clkout := rfl
@[simp] theorem State.emit_gn (x : Out) : (s.emit x).gn = s.gn := rfl
@[simp] theorem State.emit_tally (x : Out) : (s.emit x).tally = s.tally := rfl
@[simp] theorem State.emit_agent (x : Out) : (s.emit x).agent = s.agent := rfl
@[simp] theorem State.emit_degWin (x : Out) : (s.emit x).degWin = s.degWin := rfl
@[simp] theorem State.emit_polWin (x : Out) : (s.emit x).polWin = s.polWin := rfl
@[simp] theorem State.emit_cntWin (x : Out) : (s.emit x).cntWin = s.cntWin := rfl
@[simp] theorem State.emit_pw (x : Out) : (s.emit x).pw = s.pw := rfl
@[simp] theorem State.emit_cal (x : Out) : (s.emit x).cal = s.cal := rfl
@[simp] theorem State.emit_hi (x : Out) : (s.emit x).hi = s.hi := rfl
@[simp] theorem State.emit_waveDie (x : Out) : (s.emit x).waveDie = s.waveDie := rfl

@[simp] theorem State.quiet_pending : s.quiet.pending = s.pending := rfl
@[simp] theorem State.quiet_clk : s.quiet.clk = s.clk := rfl
@[simp] theorem State.quiet_drawn : s.quiet.drawn = s.drawn := rfl
@[simp] theorem State.quiet_regs : s.quiet.regs = s.regs := rfl
@[simp] theorem State.quiet_ev : s.quiet.ev = s.ev := rfl
@[simp] theorem State.quiet_sem : s.quiet.sem = s.sem := rfl
@[simp] theorem State.quiet_ctl : s.quiet.ctl = s.ctl := rfl
@[simp] theorem State.quiet_ci : s.quiet.ci = s.ci := rfl
@[simp] theorem State.quiet_tb : s.quiet.tb = s.tb := rfl
@[simp] theorem State.quiet_replica : s.quiet.replica = s.replica := rfl
@[simp] theorem State.quiet_pair : s.quiet.pair = s.pair := rfl
@[simp] theorem State.quiet_snap : s.quiet.snap = s.snap := rfl
@[simp] theorem State.quiet_hw : s.quiet.hw = s.hw := rfl
@[simp] theorem State.quiet_pps : s.quiet.pps = s.pps := rfl
@[simp] theorem State.quiet_serial : s.quiet.serial = s.serial := rfl
@[simp] theorem State.quiet_slot : s.quiet.slot = s.slot := rfl
@[simp] theorem State.quiet_dpll : s.quiet.dpll = s.dpll := rfl
@[simp] theorem State.quiet_tr : s.quiet.tr = s.tr := rfl
@[simp] theorem State.quiet_pf : s.quiet.pf = s.pf := rfl
@[simp] theorem State.quiet_progCnt : s.quiet.progCnt = s.progCnt := rfl
@[simp] theorem State.quiet_fixedCnt : s.quiet.fixedCnt = s.fixedCnt := rfl
@[simp] theorem State.quiet_bw : s.quiet.bw = s.bw := rfl
@[simp] theorem State.quiet_sched : s.quiet.sched = s.sched := rfl
@[simp] theorem State.quiet_sessions : s.quiet.sessions = s.sessions := rfl
@[simp] theorem State.quiet_ptp : s.quiet.ptp = s.ptp := rfl
@[simp] theorem State.quiet_admits : s.quiet.admits = s.admits := rfl
@[simp] theorem State.quiet_fpm : s.quiet.fpm = s.fpm := rfl
@[simp] theorem State.quiet_lane : s.quiet.lane = s.lane := rfl
@[simp] theorem State.quiet_subst : s.quiet.subst = s.subst := rfl
@[simp] theorem State.quiet_waveFrom : s.quiet.waveFrom = s.waveFrom := rfl
@[simp] theorem State.quiet_port : s.quiet.port = s.port := rfl
@[simp] theorem State.quiet_police : s.quiet.police = s.police := rfl
@[simp] theorem State.quiet_policed : s.quiet.policed = s.policed := rfl
@[simp] theorem State.quiet_cl : s.quiet.cl = s.cl := rfl
@[simp] theorem State.quiet_fwd : s.quiet.fwd = s.fwd := rfl
@[simp] theorem State.quiet_fo : s.quiet.fo = s.fo := rfl
@[simp] theorem State.quiet_sctx : s.quiet.sctx = s.sctx := rfl
@[simp] theorem State.quiet_et : s.quiet.et = s.et := rfl
@[simp] theorem State.quiet_us : s.quiet.us = s.us := rfl
@[simp] theorem State.quiet_nv : s.quiet.nv = s.nv := rfl
@[simp] theorem State.quiet_nvBad : s.quiet.nvBad = s.nvBad := rfl
@[simp] theorem State.quiet_nvOp : s.quiet.nvOp = s.nvOp := rfl
@[simp] theorem State.quiet_nvLast : s.quiet.nvLast = s.nvLast := rfl
@[simp] theorem State.quiet_bootCfg : s.quiet.bootCfg = s.bootCfg := rfl
@[simp] theorem State.quiet_flash : s.quiet.flash = s.flash := rfl
@[simp] theorem State.quiet_csram : s.quiet.csram = s.csram := rfl
@[simp] theorem State.quiet_apll : s.quiet.apll = s.apll := rfl
@[simp] theorem State.quiet_clkout : s.quiet.clkout = s.clkout := rfl
@[simp] theorem State.quiet_gn : s.quiet.gn = s.gn := rfl
@[simp] theorem State.quiet_tally : s.quiet.tally = s.tally := rfl
@[simp] theorem State.quiet_agent : s.quiet.agent = s.agent := rfl
@[simp] theorem State.quiet_degWin : s.quiet.degWin = s.degWin := rfl
@[simp] theorem State.quiet_polWin : s.quiet.polWin = s.polWin := rfl
@[simp] theorem State.quiet_cntWin : s.quiet.cntWin = s.cntWin := rfl
@[simp] theorem State.quiet_pw : s.quiet.pw = s.pw := rfl
@[simp] theorem State.quiet_cal : s.quiet.cal = s.cal := rfl
@[simp] theorem State.quiet_hi : s.quiet.hi = s.hi := rfl
@[simp] theorem State.quiet_waveDie : s.quiet.waveDie = s.waveDie := rfl

@[simp] theorem State.tbUpd_pending (n : Nat) (g : Tb → Tb) : (s.tbUpd n g).pending = s.pending := rfl
@[simp] theorem State.tbUpd_out (n : Nat) (g : Tb → Tb) : (s.tbUpd n g).out = s.out := rfl
@[simp] theorem State.tbUpd_clk (n : Nat) (g : Tb → Tb) : (s.tbUpd n g).clk = s.clk := rfl
@[simp] theorem State.tbUpd_drawn (n : Nat) (g : Tb → Tb) : (s.tbUpd n g).drawn = s.drawn := rfl
@[simp] theorem State.tbUpd_regs (n : Nat) (g : Tb → Tb) : (s.tbUpd n g).regs = s.regs := rfl
@[simp] theorem State.tbUpd_ev (n : Nat) (g : Tb → Tb) : (s.tbUpd n g).ev = s.ev := rfl
@[simp] theorem State.tbUpd_sem (n : Nat) (g : Tb → Tb) : (s.tbUpd n g).sem = s.sem := rfl
@[simp] theorem State.tbUpd_ctl (n : Nat) (g : Tb → Tb) : (s.tbUpd n g).ctl = s.ctl := rfl
@[simp] theorem State.tbUpd_ci (n : Nat) (g : Tb → Tb) : (s.tbUpd n g).ci = s.ci := rfl
@[simp] theorem State.tbUpd_replica (n : Nat) (g : Tb → Tb) : (s.tbUpd n g).replica = s.replica := rfl
@[simp] theorem State.tbUpd_pair (n : Nat) (g : Tb → Tb) : (s.tbUpd n g).pair = s.pair := rfl
@[simp] theorem State.tbUpd_snap (n : Nat) (g : Tb → Tb) : (s.tbUpd n g).snap = s.snap := rfl
@[simp] theorem State.tbUpd_hw (n : Nat) (g : Tb → Tb) : (s.tbUpd n g).hw = s.hw := rfl
@[simp] theorem State.tbUpd_pps (n : Nat) (g : Tb → Tb) : (s.tbUpd n g).pps = s.pps := rfl
@[simp] theorem State.tbUpd_serial (n : Nat) (g : Tb → Tb) : (s.tbUpd n g).serial = s.serial := rfl
@[simp] theorem State.tbUpd_slot (n : Nat) (g : Tb → Tb) : (s.tbUpd n g).slot = s.slot := rfl
@[simp] theorem State.tbUpd_dpll (n : Nat) (g : Tb → Tb) : (s.tbUpd n g).dpll = s.dpll := rfl
@[simp] theorem State.tbUpd_tr (n : Nat) (g : Tb → Tb) : (s.tbUpd n g).tr = s.tr := rfl
@[simp] theorem State.tbUpd_pf (n : Nat) (g : Tb → Tb) : (s.tbUpd n g).pf = s.pf := rfl
@[simp] theorem State.tbUpd_progCnt (n : Nat) (g : Tb → Tb) : (s.tbUpd n g).progCnt = s.progCnt := rfl
@[simp] theorem State.tbUpd_fixedCnt (n : Nat) (g : Tb → Tb) : (s.tbUpd n g).fixedCnt = s.fixedCnt := rfl
@[simp] theorem State.tbUpd_bw (n : Nat) (g : Tb → Tb) : (s.tbUpd n g).bw = s.bw := rfl
@[simp] theorem State.tbUpd_sched (n : Nat) (g : Tb → Tb) : (s.tbUpd n g).sched = s.sched := rfl
@[simp] theorem State.tbUpd_sessions (n : Nat) (g : Tb → Tb) : (s.tbUpd n g).sessions = s.sessions := rfl
@[simp] theorem State.tbUpd_ptp (n : Nat) (g : Tb → Tb) : (s.tbUpd n g).ptp = s.ptp := rfl
@[simp] theorem State.tbUpd_admits (n : Nat) (g : Tb → Tb) : (s.tbUpd n g).admits = s.admits := rfl
@[simp] theorem State.tbUpd_fpm (n : Nat) (g : Tb → Tb) : (s.tbUpd n g).fpm = s.fpm := rfl
@[simp] theorem State.tbUpd_lane (n : Nat) (g : Tb → Tb) : (s.tbUpd n g).lane = s.lane := rfl
@[simp] theorem State.tbUpd_subst (n : Nat) (g : Tb → Tb) : (s.tbUpd n g).subst = s.subst := rfl
@[simp] theorem State.tbUpd_waveFrom (n : Nat) (g : Tb → Tb) : (s.tbUpd n g).waveFrom = s.waveFrom := rfl
@[simp] theorem State.tbUpd_port (n : Nat) (g : Tb → Tb) : (s.tbUpd n g).port = s.port := rfl
@[simp] theorem State.tbUpd_police (n : Nat) (g : Tb → Tb) : (s.tbUpd n g).police = s.police := rfl
@[simp] theorem State.tbUpd_policed (n : Nat) (g : Tb → Tb) : (s.tbUpd n g).policed = s.policed := rfl
@[simp] theorem State.tbUpd_cl (n : Nat) (g : Tb → Tb) : (s.tbUpd n g).cl = s.cl := rfl
@[simp] theorem State.tbUpd_fwd (n : Nat) (g : Tb → Tb) : (s.tbUpd n g).fwd = s.fwd := rfl
@[simp] theorem State.tbUpd_fo (n : Nat) (g : Tb → Tb) : (s.tbUpd n g).fo = s.fo := rfl
@[simp] theorem State.tbUpd_sctx (n : Nat) (g : Tb → Tb) : (s.tbUpd n g).sctx = s.sctx := rfl
@[simp] theorem State.tbUpd_et (n : Nat) (g : Tb → Tb) : (s.tbUpd n g).et = s.et := rfl
@[simp] theorem State.tbUpd_us (n : Nat) (g : Tb → Tb) : (s.tbUpd n g).us = s.us := rfl
@[simp] theorem State.tbUpd_nv (n : Nat) (g : Tb → Tb) : (s.tbUpd n g).nv = s.nv := rfl
@[simp] theorem State.tbUpd_nvBad (n : Nat) (g : Tb → Tb) : (s.tbUpd n g).nvBad = s.nvBad := rfl
@[simp] theorem State.tbUpd_nvOp (n : Nat) (g : Tb → Tb) : (s.tbUpd n g).nvOp = s.nvOp := rfl
@[simp] theorem State.tbUpd_nvLast (n : Nat) (g : Tb → Tb) : (s.tbUpd n g).nvLast = s.nvLast := rfl
@[simp] theorem State.tbUpd_bootCfg (n : Nat) (g : Tb → Tb) : (s.tbUpd n g).bootCfg = s.bootCfg := rfl
@[simp] theorem State.tbUpd_flash (n : Nat) (g : Tb → Tb) : (s.tbUpd n g).flash = s.flash := rfl
@[simp] theorem State.tbUpd_csram (n : Nat) (g : Tb → Tb) : (s.tbUpd n g).csram = s.csram := rfl
@[simp] theorem State.tbUpd_apll (n : Nat) (g : Tb → Tb) : (s.tbUpd n g).apll = s.apll := rfl
@[simp] theorem State.tbUpd_clkout (n : Nat) (g : Tb → Tb) : (s.tbUpd n g).clkout = s.clkout := rfl
@[simp] theorem State.tbUpd_gn (n : Nat) (g : Tb → Tb) : (s.tbUpd n g).gn = s.gn := rfl
@[simp] theorem State.tbUpd_tally (n : Nat) (g : Tb → Tb) : (s.tbUpd n g).tally = s.tally := rfl
@[simp] theorem State.tbUpd_agent (n : Nat) (g : Tb → Tb) : (s.tbUpd n g).agent = s.agent := rfl
@[simp] theorem State.tbUpd_degWin (n : Nat) (g : Tb → Tb) : (s.tbUpd n g).degWin = s.degWin := rfl
@[simp] theorem State.tbUpd_polWin (n : Nat) (g : Tb → Tb) : (s.tbUpd n g).polWin = s.polWin := rfl
@[simp] theorem State.tbUpd_cntWin (n : Nat) (g : Tb → Tb) : (s.tbUpd n g).cntWin = s.cntWin := rfl
@[simp] theorem State.tbUpd_pw (n : Nat) (g : Tb → Tb) : (s.tbUpd n g).pw = s.pw := rfl
@[simp] theorem State.tbUpd_cal (n : Nat) (g : Tb → Tb) : (s.tbUpd n g).cal = s.cal := rfl
@[simp] theorem State.tbUpd_hi (n : Nat) (g : Tb → Tb) : (s.tbUpd n g).hi = s.hi := rfl
@[simp] theorem State.tbUpd_waveDie (n : Nat) (g : Tb → Tb) : (s.tbUpd n g).waveDie = s.waveDie := rfl

@[simp] theorem State.slotUpd_pending (n : Nat) (g : Slot → Slot) : (s.slotUpd n g).pending = s.pending := rfl
@[simp] theorem State.slotUpd_out (n : Nat) (g : Slot → Slot) : (s.slotUpd n g).out = s.out := rfl
@[simp] theorem State.slotUpd_clk (n : Nat) (g : Slot → Slot) : (s.slotUpd n g).clk = s.clk := rfl
@[simp] theorem State.slotUpd_drawn (n : Nat) (g : Slot → Slot) : (s.slotUpd n g).drawn = s.drawn := rfl
@[simp] theorem State.slotUpd_regs (n : Nat) (g : Slot → Slot) : (s.slotUpd n g).regs = s.regs := rfl
@[simp] theorem State.slotUpd_ev (n : Nat) (g : Slot → Slot) : (s.slotUpd n g).ev = s.ev := rfl
@[simp] theorem State.slotUpd_sem (n : Nat) (g : Slot → Slot) : (s.slotUpd n g).sem = s.sem := rfl
@[simp] theorem State.slotUpd_ctl (n : Nat) (g : Slot → Slot) : (s.slotUpd n g).ctl = s.ctl := rfl
@[simp] theorem State.slotUpd_ci (n : Nat) (g : Slot → Slot) : (s.slotUpd n g).ci = s.ci := rfl
@[simp] theorem State.slotUpd_tb (n : Nat) (g : Slot → Slot) : (s.slotUpd n g).tb = s.tb := rfl
@[simp] theorem State.slotUpd_replica (n : Nat) (g : Slot → Slot) : (s.slotUpd n g).replica = s.replica := rfl
@[simp] theorem State.slotUpd_pair (n : Nat) (g : Slot → Slot) : (s.slotUpd n g).pair = s.pair := rfl
@[simp] theorem State.slotUpd_snap (n : Nat) (g : Slot → Slot) : (s.slotUpd n g).snap = s.snap := rfl
@[simp] theorem State.slotUpd_hw (n : Nat) (g : Slot → Slot) : (s.slotUpd n g).hw = s.hw := rfl
@[simp] theorem State.slotUpd_pps (n : Nat) (g : Slot → Slot) : (s.slotUpd n g).pps = s.pps := rfl
@[simp] theorem State.slotUpd_serial (n : Nat) (g : Slot → Slot) : (s.slotUpd n g).serial = s.serial := rfl
@[simp] theorem State.slotUpd_dpll (n : Nat) (g : Slot → Slot) : (s.slotUpd n g).dpll = s.dpll := rfl
@[simp] theorem State.slotUpd_tr (n : Nat) (g : Slot → Slot) : (s.slotUpd n g).tr = s.tr := rfl
@[simp] theorem State.slotUpd_pf (n : Nat) (g : Slot → Slot) : (s.slotUpd n g).pf = s.pf := rfl
@[simp] theorem State.slotUpd_progCnt (n : Nat) (g : Slot → Slot) : (s.slotUpd n g).progCnt = s.progCnt := rfl
@[simp] theorem State.slotUpd_fixedCnt (n : Nat) (g : Slot → Slot) : (s.slotUpd n g).fixedCnt = s.fixedCnt := rfl
@[simp] theorem State.slotUpd_bw (n : Nat) (g : Slot → Slot) : (s.slotUpd n g).bw = s.bw := rfl
@[simp] theorem State.slotUpd_sched (n : Nat) (g : Slot → Slot) : (s.slotUpd n g).sched = s.sched := rfl
@[simp] theorem State.slotUpd_sessions (n : Nat) (g : Slot → Slot) : (s.slotUpd n g).sessions = s.sessions := rfl
@[simp] theorem State.slotUpd_ptp (n : Nat) (g : Slot → Slot) : (s.slotUpd n g).ptp = s.ptp := rfl
@[simp] theorem State.slotUpd_admits (n : Nat) (g : Slot → Slot) : (s.slotUpd n g).admits = s.admits := rfl
@[simp] theorem State.slotUpd_fpm (n : Nat) (g : Slot → Slot) : (s.slotUpd n g).fpm = s.fpm := rfl
@[simp] theorem State.slotUpd_lane (n : Nat) (g : Slot → Slot) : (s.slotUpd n g).lane = s.lane := rfl
@[simp] theorem State.slotUpd_subst (n : Nat) (g : Slot → Slot) : (s.slotUpd n g).subst = s.subst := rfl
@[simp] theorem State.slotUpd_waveFrom (n : Nat) (g : Slot → Slot) : (s.slotUpd n g).waveFrom = s.waveFrom := rfl
@[simp] theorem State.slotUpd_port (n : Nat) (g : Slot → Slot) : (s.slotUpd n g).port = s.port := rfl
@[simp] theorem State.slotUpd_police (n : Nat) (g : Slot → Slot) : (s.slotUpd n g).police = s.police := rfl
@[simp] theorem State.slotUpd_policed (n : Nat) (g : Slot → Slot) : (s.slotUpd n g).policed = s.policed := rfl
@[simp] theorem State.slotUpd_cl (n : Nat) (g : Slot → Slot) : (s.slotUpd n g).cl = s.cl := rfl
@[simp] theorem State.slotUpd_fwd (n : Nat) (g : Slot → Slot) : (s.slotUpd n g).fwd = s.fwd := rfl
@[simp] theorem State.slotUpd_fo (n : Nat) (g : Slot → Slot) : (s.slotUpd n g).fo = s.fo := rfl
@[simp] theorem State.slotUpd_sctx (n : Nat) (g : Slot → Slot) : (s.slotUpd n g).sctx = s.sctx := rfl
@[simp] theorem State.slotUpd_et (n : Nat) (g : Slot → Slot) : (s.slotUpd n g).et = s.et := rfl
@[simp] theorem State.slotUpd_us (n : Nat) (g : Slot → Slot) : (s.slotUpd n g).us = s.us := rfl
@[simp] theorem State.slotUpd_nv (n : Nat) (g : Slot → Slot) : (s.slotUpd n g).nv = s.nv := rfl
@[simp] theorem State.slotUpd_nvBad (n : Nat) (g : Slot → Slot) : (s.slotUpd n g).nvBad = s.nvBad := rfl
@[simp] theorem State.slotUpd_nvOp (n : Nat) (g : Slot → Slot) : (s.slotUpd n g).nvOp = s.nvOp := rfl
@[simp] theorem State.slotUpd_nvLast (n : Nat) (g : Slot → Slot) : (s.slotUpd n g).nvLast = s.nvLast := rfl
@[simp] theorem State.slotUpd_bootCfg (n : Nat) (g : Slot → Slot) : (s.slotUpd n g).bootCfg = s.bootCfg := rfl
@[simp] theorem State.slotUpd_flash (n : Nat) (g : Slot → Slot) : (s.slotUpd n g).flash = s.flash := rfl
@[simp] theorem State.slotUpd_csram (n : Nat) (g : Slot → Slot) : (s.slotUpd n g).csram = s.csram := rfl
@[simp] theorem State.slotUpd_apll (n : Nat) (g : Slot → Slot) : (s.slotUpd n g).apll = s.apll := rfl
@[simp] theorem State.slotUpd_clkout (n : Nat) (g : Slot → Slot) : (s.slotUpd n g).clkout = s.clkout := rfl
@[simp] theorem State.slotUpd_gn (n : Nat) (g : Slot → Slot) : (s.slotUpd n g).gn = s.gn := rfl
@[simp] theorem State.slotUpd_tally (n : Nat) (g : Slot → Slot) : (s.slotUpd n g).tally = s.tally := rfl
@[simp] theorem State.slotUpd_agent (n : Nat) (g : Slot → Slot) : (s.slotUpd n g).agent = s.agent := rfl
@[simp] theorem State.slotUpd_degWin (n : Nat) (g : Slot → Slot) : (s.slotUpd n g).degWin = s.degWin := rfl
@[simp] theorem State.slotUpd_polWin (n : Nat) (g : Slot → Slot) : (s.slotUpd n g).polWin = s.polWin := rfl
@[simp] theorem State.slotUpd_cntWin (n : Nat) (g : Slot → Slot) : (s.slotUpd n g).cntWin = s.cntWin := rfl
@[simp] theorem State.slotUpd_pw (n : Nat) (g : Slot → Slot) : (s.slotUpd n g).pw = s.pw := rfl
@[simp] theorem State.slotUpd_cal (n : Nat) (g : Slot → Slot) : (s.slotUpd n g).cal = s.cal := rfl
@[simp] theorem State.slotUpd_hi (n : Nat) (g : Slot → Slot) : (s.slotUpd n g).hi = s.hi := rfl
@[simp] theorem State.slotUpd_waveDie (n : Nat) (g : Slot → Slot) : (s.slotUpd n g).waveDie = s.waveDie := rfl

@[simp] theorem State.dpllUpd_pending (n : Nat) (g : Dpll → Dpll) : (s.dpllUpd n g).pending = s.pending := rfl
@[simp] theorem State.dpllUpd_out (n : Nat) (g : Dpll → Dpll) : (s.dpllUpd n g).out = s.out := rfl
@[simp] theorem State.dpllUpd_clk (n : Nat) (g : Dpll → Dpll) : (s.dpllUpd n g).clk = s.clk := rfl
@[simp] theorem State.dpllUpd_drawn (n : Nat) (g : Dpll → Dpll) : (s.dpllUpd n g).drawn = s.drawn := rfl
@[simp] theorem State.dpllUpd_regs (n : Nat) (g : Dpll → Dpll) : (s.dpllUpd n g).regs = s.regs := rfl
@[simp] theorem State.dpllUpd_ev (n : Nat) (g : Dpll → Dpll) : (s.dpllUpd n g).ev = s.ev := rfl
@[simp] theorem State.dpllUpd_sem (n : Nat) (g : Dpll → Dpll) : (s.dpllUpd n g).sem = s.sem := rfl
@[simp] theorem State.dpllUpd_ctl (n : Nat) (g : Dpll → Dpll) : (s.dpllUpd n g).ctl = s.ctl := rfl
@[simp] theorem State.dpllUpd_ci (n : Nat) (g : Dpll → Dpll) : (s.dpllUpd n g).ci = s.ci := rfl
@[simp] theorem State.dpllUpd_tb (n : Nat) (g : Dpll → Dpll) : (s.dpllUpd n g).tb = s.tb := rfl
@[simp] theorem State.dpllUpd_replica (n : Nat) (g : Dpll → Dpll) : (s.dpllUpd n g).replica = s.replica := rfl
@[simp] theorem State.dpllUpd_pair (n : Nat) (g : Dpll → Dpll) : (s.dpllUpd n g).pair = s.pair := rfl
@[simp] theorem State.dpllUpd_snap (n : Nat) (g : Dpll → Dpll) : (s.dpllUpd n g).snap = s.snap := rfl
@[simp] theorem State.dpllUpd_hw (n : Nat) (g : Dpll → Dpll) : (s.dpllUpd n g).hw = s.hw := rfl
@[simp] theorem State.dpllUpd_pps (n : Nat) (g : Dpll → Dpll) : (s.dpllUpd n g).pps = s.pps := rfl
@[simp] theorem State.dpllUpd_serial (n : Nat) (g : Dpll → Dpll) : (s.dpllUpd n g).serial = s.serial := rfl
@[simp] theorem State.dpllUpd_slot (n : Nat) (g : Dpll → Dpll) : (s.dpllUpd n g).slot = s.slot := rfl
@[simp] theorem State.dpllUpd_tr (n : Nat) (g : Dpll → Dpll) : (s.dpllUpd n g).tr = s.tr := rfl
@[simp] theorem State.dpllUpd_pf (n : Nat) (g : Dpll → Dpll) : (s.dpllUpd n g).pf = s.pf := rfl
@[simp] theorem State.dpllUpd_progCnt (n : Nat) (g : Dpll → Dpll) : (s.dpllUpd n g).progCnt = s.progCnt := rfl
@[simp] theorem State.dpllUpd_fixedCnt (n : Nat) (g : Dpll → Dpll) : (s.dpllUpd n g).fixedCnt = s.fixedCnt := rfl
@[simp] theorem State.dpllUpd_bw (n : Nat) (g : Dpll → Dpll) : (s.dpllUpd n g).bw = s.bw := rfl
@[simp] theorem State.dpllUpd_sched (n : Nat) (g : Dpll → Dpll) : (s.dpllUpd n g).sched = s.sched := rfl
@[simp] theorem State.dpllUpd_sessions (n : Nat) (g : Dpll → Dpll) : (s.dpllUpd n g).sessions = s.sessions := rfl
@[simp] theorem State.dpllUpd_ptp (n : Nat) (g : Dpll → Dpll) : (s.dpllUpd n g).ptp = s.ptp := rfl
@[simp] theorem State.dpllUpd_admits (n : Nat) (g : Dpll → Dpll) : (s.dpllUpd n g).admits = s.admits := rfl
@[simp] theorem State.dpllUpd_fpm (n : Nat) (g : Dpll → Dpll) : (s.dpllUpd n g).fpm = s.fpm := rfl
@[simp] theorem State.dpllUpd_lane (n : Nat) (g : Dpll → Dpll) : (s.dpllUpd n g).lane = s.lane := rfl
@[simp] theorem State.dpllUpd_subst (n : Nat) (g : Dpll → Dpll) : (s.dpllUpd n g).subst = s.subst := rfl
@[simp] theorem State.dpllUpd_waveFrom (n : Nat) (g : Dpll → Dpll) : (s.dpllUpd n g).waveFrom = s.waveFrom := rfl
@[simp] theorem State.dpllUpd_port (n : Nat) (g : Dpll → Dpll) : (s.dpllUpd n g).port = s.port := rfl
@[simp] theorem State.dpllUpd_police (n : Nat) (g : Dpll → Dpll) : (s.dpllUpd n g).police = s.police := rfl
@[simp] theorem State.dpllUpd_policed (n : Nat) (g : Dpll → Dpll) : (s.dpllUpd n g).policed = s.policed := rfl
@[simp] theorem State.dpllUpd_cl (n : Nat) (g : Dpll → Dpll) : (s.dpllUpd n g).cl = s.cl := rfl
@[simp] theorem State.dpllUpd_fwd (n : Nat) (g : Dpll → Dpll) : (s.dpllUpd n g).fwd = s.fwd := rfl
@[simp] theorem State.dpllUpd_fo (n : Nat) (g : Dpll → Dpll) : (s.dpllUpd n g).fo = s.fo := rfl
@[simp] theorem State.dpllUpd_sctx (n : Nat) (g : Dpll → Dpll) : (s.dpllUpd n g).sctx = s.sctx := rfl
@[simp] theorem State.dpllUpd_et (n : Nat) (g : Dpll → Dpll) : (s.dpllUpd n g).et = s.et := rfl
@[simp] theorem State.dpllUpd_us (n : Nat) (g : Dpll → Dpll) : (s.dpllUpd n g).us = s.us := rfl
@[simp] theorem State.dpllUpd_nv (n : Nat) (g : Dpll → Dpll) : (s.dpllUpd n g).nv = s.nv := rfl
@[simp] theorem State.dpllUpd_nvBad (n : Nat) (g : Dpll → Dpll) : (s.dpllUpd n g).nvBad = s.nvBad := rfl
@[simp] theorem State.dpllUpd_nvOp (n : Nat) (g : Dpll → Dpll) : (s.dpllUpd n g).nvOp = s.nvOp := rfl
@[simp] theorem State.dpllUpd_nvLast (n : Nat) (g : Dpll → Dpll) : (s.dpllUpd n g).nvLast = s.nvLast := rfl
@[simp] theorem State.dpllUpd_bootCfg (n : Nat) (g : Dpll → Dpll) : (s.dpllUpd n g).bootCfg = s.bootCfg := rfl
@[simp] theorem State.dpllUpd_flash (n : Nat) (g : Dpll → Dpll) : (s.dpllUpd n g).flash = s.flash := rfl
@[simp] theorem State.dpllUpd_csram (n : Nat) (g : Dpll → Dpll) : (s.dpllUpd n g).csram = s.csram := rfl
@[simp] theorem State.dpllUpd_apll (n : Nat) (g : Dpll → Dpll) : (s.dpllUpd n g).apll = s.apll := rfl
@[simp] theorem State.dpllUpd_clkout (n : Nat) (g : Dpll → Dpll) : (s.dpllUpd n g).clkout = s.clkout := rfl
@[simp] theorem State.dpllUpd_gn (n : Nat) (g : Dpll → Dpll) : (s.dpllUpd n g).gn = s.gn := rfl
@[simp] theorem State.dpllUpd_tally (n : Nat) (g : Dpll → Dpll) : (s.dpllUpd n g).tally = s.tally := rfl
@[simp] theorem State.dpllUpd_agent (n : Nat) (g : Dpll → Dpll) : (s.dpllUpd n g).agent = s.agent := rfl
@[simp] theorem State.dpllUpd_degWin (n : Nat) (g : Dpll → Dpll) : (s.dpllUpd n g).degWin = s.degWin := rfl
@[simp] theorem State.dpllUpd_polWin (n : Nat) (g : Dpll → Dpll) : (s.dpllUpd n g).polWin = s.polWin := rfl
@[simp] theorem State.dpllUpd_cntWin (n : Nat) (g : Dpll → Dpll) : (s.dpllUpd n g).cntWin = s.cntWin := rfl
@[simp] theorem State.dpllUpd_pw (n : Nat) (g : Dpll → Dpll) : (s.dpllUpd n g).pw = s.pw := rfl
@[simp] theorem State.dpllUpd_cal (n : Nat) (g : Dpll → Dpll) : (s.dpllUpd n g).cal = s.cal := rfl
@[simp] theorem State.dpllUpd_hi (n : Nat) (g : Dpll → Dpll) : (s.dpllUpd n g).hi = s.hi := rfl
@[simp] theorem State.dpllUpd_waveDie (n : Nat) (g : Dpll → Dpll) : (s.dpllUpd n g).waveDie = s.waveDie := rfl

/-! ### Register fields -/

theorem State.get_set_same (f : Fld) (v i j : Nat) : (s.set f v i j).get f i j = v % 2 ^ f.width := by
  simp [State.set, State.get, Tab.get_put_same]

theorem State.get_set_ne {f g : Fld} {i j k l : Nat} (v : Nat) (h : g.key k l ≠ f.key i j) :
    (s.set f v i j).get g k l = s.get g k l := by
  simp [State.set, State.get, Tab.get_put_ne _ _ _ h]

/-- A write of a field shows wherever a field of the same key and width is read. -/
theorem State.get_set_key {f g : Fld} {i j k l : Nat} (v : Nat) (h : g.key k l = f.key i j) :
    (s.set f v i j).get g k l = v % 2 ^ f.width := by
  simp [State.set, State.get, h, Tab.get_put_same]

@[simp] theorem State.get_emit (x : Out) (f : Fld) (i j : Nat) : (s.emit x).get f i j = s.get f i j := rfl
@[simp] theorem State.get_quiet (f : Fld) (i j : Nat) : s.quiet.get f i j = s.get f i j := rfl

theorem State.get_congr {s t : State} (h : t.regs = s.regs) (f : Fld) (i j : Nat) : t.get f i j = s.get f i j := by
  simp [State.get, h]

/-- Writes change the register table alone. -/
theorem State.writes_eq (ws : List FieldWrite) : s.writes ws = { s with regs := (s.writes ws).regs } := by
  induction ws generalizing s with
  | nil => rfl
  | cons w r ih => exact ih (s.set w.f w.v w.i w.j)

@[simp] theorem State.writes_nil : s.writes [] = s := rfl
@[simp] theorem State.writes_cons (w : FieldWrite) (ws : List FieldWrite) :
    s.writes (w :: ws) = (s.set w.f w.v w.i w.j).writes ws := rfl

/-- Writes leave a field that none of them names. -/
theorem State.get_writes_ne {ws : List FieldWrite} {g : Fld} {k l : Nat}
    (h : ∀ w ∈ ws, g.key k l ≠ w.f.key w.i w.j) : (s.writes ws).get g k l = s.get g k l := by
  induction ws generalizing s with
  | nil => rfl
  | cons w r ih =>
    rw [State.writes_cons, ih _ fun x hx => h x (List.mem_cons_of_mem _ hx)]
    exact State.get_set_ne s w.v (h w List.mem_cons_self)

theorem State.writes_pending (ws : List FieldWrite) : (s.writes ws).pending = s.pending := by rw [State.writes_eq]
theorem State.writes_out (ws : List FieldWrite) : (s.writes ws).out = s.out := by rw [State.writes_eq]
theorem State.writes_clk (ws : List FieldWrite) : (s.writes ws).clk = s.clk := by rw [State.writes_eq]
theorem State.writes_drawn (ws : List FieldWrite) : (s.writes ws).drawn = s.drawn := by rw [State.writes_eq]
theorem State.writes_ev (ws : List FieldWrite) : (s.writes ws).ev = s.ev := by rw [State.writes_eq]
theorem State.writes_sem (ws : List FieldWrite) : (s.writes ws).sem = s.sem := by rw [State.writes_eq]
theorem State.writes_ctl (ws : List FieldWrite) : (s.writes ws).ctl = s.ctl := by rw [State.writes_eq]
theorem State.writes_ci (ws : List FieldWrite) : (s.writes ws).ci = s.ci := by rw [State.writes_eq]
theorem State.writes_tb (ws : List FieldWrite) : (s.writes ws).tb = s.tb := by rw [State.writes_eq]
theorem State.writes_replica (ws : List FieldWrite) : (s.writes ws).replica = s.replica := by rw [State.writes_eq]
theorem State.writes_pair (ws : List FieldWrite) : (s.writes ws).pair = s.pair := by rw [State.writes_eq]
theorem State.writes_snap (ws : List FieldWrite) : (s.writes ws).snap = s.snap := by rw [State.writes_eq]
theorem State.writes_hw (ws : List FieldWrite) : (s.writes ws).hw = s.hw := by rw [State.writes_eq]
theorem State.writes_pps (ws : List FieldWrite) : (s.writes ws).pps = s.pps := by rw [State.writes_eq]
theorem State.writes_serial (ws : List FieldWrite) : (s.writes ws).serial = s.serial := by rw [State.writes_eq]
theorem State.writes_slot (ws : List FieldWrite) : (s.writes ws).slot = s.slot := by rw [State.writes_eq]
theorem State.writes_dpll (ws : List FieldWrite) : (s.writes ws).dpll = s.dpll := by rw [State.writes_eq]
theorem State.writes_tr (ws : List FieldWrite) : (s.writes ws).tr = s.tr := by rw [State.writes_eq]
theorem State.writes_pf (ws : List FieldWrite) : (s.writes ws).pf = s.pf := by rw [State.writes_eq]
theorem State.writes_progCnt (ws : List FieldWrite) : (s.writes ws).progCnt = s.progCnt := by rw [State.writes_eq]
theorem State.writes_fixedCnt (ws : List FieldWrite) : (s.writes ws).fixedCnt = s.fixedCnt := by rw [State.writes_eq]
theorem State.writes_bw (ws : List FieldWrite) : (s.writes ws).bw = s.bw := by rw [State.writes_eq]
theorem State.writes_sched (ws : List FieldWrite) : (s.writes ws).sched = s.sched := by rw [State.writes_eq]
theorem State.writes_sessions (ws : List FieldWrite) : (s.writes ws).sessions = s.sessions := by rw [State.writes_eq]
theorem State.writes_ptp (ws : List FieldWrite) : (s.writes ws).ptp = s.ptp := by rw [State.writes_eq]
theorem State.writes_admits (ws : List FieldWrite) : (s.writes ws).admits = s.admits := by rw [State.writes_eq]
theorem State.writes_fpm (ws : List FieldWrite) : (s.writes ws).fpm = s.fpm := by rw [State.writes_eq]
theorem State.writes_lane (ws : List FieldWrite) : (s.writes ws).lane = s.lane := by rw [State.writes_eq]
theorem State.writes_subst (ws : List FieldWrite) : (s.writes ws).subst = s.subst := by rw [State.writes_eq]
theorem State.writes_waveFrom (ws : List FieldWrite) : (s.writes ws).waveFrom = s.waveFrom := by rw [State.writes_eq]
theorem State.writes_port (ws : List FieldWrite) : (s.writes ws).port = s.port := by rw [State.writes_eq]
theorem State.writes_police (ws : List FieldWrite) : (s.writes ws).police = s.police := by rw [State.writes_eq]
theorem State.writes_policed (ws : List FieldWrite) : (s.writes ws).policed = s.policed := by rw [State.writes_eq]
theorem State.writes_cl (ws : List FieldWrite) : (s.writes ws).cl = s.cl := by rw [State.writes_eq]
theorem State.writes_fwd (ws : List FieldWrite) : (s.writes ws).fwd = s.fwd := by rw [State.writes_eq]
theorem State.writes_fo (ws : List FieldWrite) : (s.writes ws).fo = s.fo := by rw [State.writes_eq]
theorem State.writes_sctx (ws : List FieldWrite) : (s.writes ws).sctx = s.sctx := by rw [State.writes_eq]
theorem State.writes_et (ws : List FieldWrite) : (s.writes ws).et = s.et := by rw [State.writes_eq]
theorem State.writes_us (ws : List FieldWrite) : (s.writes ws).us = s.us := by rw [State.writes_eq]
theorem State.writes_nv (ws : List FieldWrite) : (s.writes ws).nv = s.nv := by rw [State.writes_eq]
theorem State.writes_nvBad (ws : List FieldWrite) : (s.writes ws).nvBad = s.nvBad := by rw [State.writes_eq]
theorem State.writes_nvOp (ws : List FieldWrite) : (s.writes ws).nvOp = s.nvOp := by rw [State.writes_eq]
theorem State.writes_nvLast (ws : List FieldWrite) : (s.writes ws).nvLast = s.nvLast := by rw [State.writes_eq]
theorem State.writes_bootCfg (ws : List FieldWrite) : (s.writes ws).bootCfg = s.bootCfg := by rw [State.writes_eq]
theorem State.writes_flash (ws : List FieldWrite) : (s.writes ws).flash = s.flash := by rw [State.writes_eq]
theorem State.writes_csram (ws : List FieldWrite) : (s.writes ws).csram = s.csram := by rw [State.writes_eq]
theorem State.writes_apll (ws : List FieldWrite) : (s.writes ws).apll = s.apll := by rw [State.writes_eq]
theorem State.writes_clkout (ws : List FieldWrite) : (s.writes ws).clkout = s.clkout := by rw [State.writes_eq]
theorem State.writes_gn (ws : List FieldWrite) : (s.writes ws).gn = s.gn := by rw [State.writes_eq]
theorem State.writes_tally (ws : List FieldWrite) : (s.writes ws).tally = s.tally := by rw [State.writes_eq]
theorem State.writes_agent (ws : List FieldWrite) : (s.writes ws).agent = s.agent := by rw [State.writes_eq]
theorem State.writes_degWin (ws : List FieldWrite) : (s.writes ws).degWin = s.degWin := by rw [State.writes_eq]
theorem State.writes_polWin (ws : List FieldWrite) : (s.writes ws).polWin = s.polWin := by rw [State.writes_eq]
theorem State.writes_cntWin (ws : List FieldWrite) : (s.writes ws).cntWin = s.cntWin := by rw [State.writes_eq]
theorem State.writes_pw (ws : List FieldWrite) : (s.writes ws).pw = s.pw := by rw [State.writes_eq]
theorem State.writes_cal (ws : List FieldWrite) : (s.writes ws).cal = s.cal := by rw [State.writes_eq]
theorem State.writes_hi (ws : List FieldWrite) : (s.writes ws).hi = s.hi := by rw [State.writes_eq]
theorem State.writes_waveDie (ws : List FieldWrite) : (s.writes ws).waveDie = s.waveDie := by rw [State.writes_eq]

end Sys2Proof.Machine
end

