-- ==== Sys2Proof/Laws/Events.lean ====
section
/-! SUPPORT. Everything that raising an event can change: the event registers, FIFOs, programmable counters, pending MSI-X bits
and what is sent outward. -/

namespace Sys2Proof.Machine

/-- Two states differ at most in what raising an event changes. -/
structure State.EvOnly (s t : State) : Prop where
  rest : t = { s with regs := t.regs, ev := t.ev, progCnt := t.progCnt, pf := t.pf, out := t.out }
  regs : ∀ (f : Fld) (i j : Nat), ¬ eventReg (f.key i j) → t.get f i j = s.get f i j

theorem State.EvOnly.pending {s t : State} (h : s.EvOnly t) : t.pending = s.pending := by rw [h.rest]
theorem State.EvOnly.clk {s t : State} (h : s.EvOnly t) : t.clk = s.clk := by rw [h.rest]
theorem State.EvOnly.drawn {s t : State} (h : s.EvOnly t) : t.drawn = s.drawn := by rw [h.rest]
theorem State.EvOnly.sem {s t : State} (h : s.EvOnly t) : t.sem = s.sem := by rw [h.rest]
theorem State.EvOnly.ctl {s t : State} (h : s.EvOnly t) : t.ctl = s.ctl := by rw [h.rest]
theorem State.EvOnly.ci {s t : State} (h : s.EvOnly t) : t.ci = s.ci := by rw [h.rest]
theorem State.EvOnly.tb {s t : State} (h : s.EvOnly t) : t.tb = s.tb := by rw [h.rest]
theorem State.EvOnly.replica {s t : State} (h : s.EvOnly t) : t.replica = s.replica := by rw [h.rest]
theorem State.EvOnly.pair {s t : State} (h : s.EvOnly t) : t.pair = s.pair := by rw [h.rest]
theorem State.EvOnly.snap {s t : State} (h : s.EvOnly t) : t.snap = s.snap := by rw [h.rest]
theorem State.EvOnly.hw {s t : State} (h : s.EvOnly t) : t.hw = s.hw := by rw [h.rest]
theorem State.EvOnly.pps {s t : State} (h : s.EvOnly t) : t.pps = s.pps := by rw [h.rest]
theorem State.EvOnly.serial {s t : State} (h : s.EvOnly t) : t.serial = s.serial := by rw [h.rest]
theorem State.EvOnly.slot {s t : State} (h : s.EvOnly t) : t.slot = s.slot := by rw [h.rest]
theorem State.EvOnly.dpll {s t : State} (h : s.EvOnly t) : t.dpll = s.dpll := by rw [h.rest]
theorem State.EvOnly.tr {s t : State} (h : s.EvOnly t) : t.tr = s.tr := by rw [h.rest]
theorem State.EvOnly.fixedCnt {s t : State} (h : s.EvOnly t) : t.fixedCnt = s.fixedCnt := by rw [h.rest]
theorem State.EvOnly.bw {s t : State} (h : s.EvOnly t) : t.bw = s.bw := by rw [h.rest]
theorem State.EvOnly.sched {s t : State} (h : s.EvOnly t) : t.sched = s.sched := by rw [h.rest]
theorem State.EvOnly.sessions {s t : State} (h : s.EvOnly t) : t.sessions = s.sessions := by rw [h.rest]
theorem State.EvOnly.ptp {s t : State} (h : s.EvOnly t) : t.ptp = s.ptp := by rw [h.rest]
theorem State.EvOnly.admits {s t : State} (h : s.EvOnly t) : t.admits = s.admits := by rw [h.rest]
theorem State.EvOnly.fpm {s t : State} (h : s.EvOnly t) : t.fpm = s.fpm := by rw [h.rest]
theorem State.EvOnly.lane {s t : State} (h : s.EvOnly t) : t.lane = s.lane := by rw [h.rest]
theorem State.EvOnly.subst {s t : State} (h : s.EvOnly t) : t.subst = s.subst := by rw [h.rest]
theorem State.EvOnly.waveFrom {s t : State} (h : s.EvOnly t) : t.waveFrom = s.waveFrom := by rw [h.rest]
theorem State.EvOnly.port {s t : State} (h : s.EvOnly t) : t.port = s.port := by rw [h.rest]
theorem State.EvOnly.police {s t : State} (h : s.EvOnly t) : t.police = s.police := by rw [h.rest]
theorem State.EvOnly.policed {s t : State} (h : s.EvOnly t) : t.policed = s.policed := by rw [h.rest]
theorem State.EvOnly.cl {s t : State} (h : s.EvOnly t) : t.cl = s.cl := by rw [h.rest]
theorem State.EvOnly.fwd {s t : State} (h : s.EvOnly t) : t.fwd = s.fwd := by rw [h.rest]
theorem State.EvOnly.fo {s t : State} (h : s.EvOnly t) : t.fo = s.fo := by rw [h.rest]
theorem State.EvOnly.sctx {s t : State} (h : s.EvOnly t) : t.sctx = s.sctx := by rw [h.rest]
theorem State.EvOnly.et {s t : State} (h : s.EvOnly t) : t.et = s.et := by rw [h.rest]
theorem State.EvOnly.us {s t : State} (h : s.EvOnly t) : t.us = s.us := by rw [h.rest]
theorem State.EvOnly.nv {s t : State} (h : s.EvOnly t) : t.nv = s.nv := by rw [h.rest]
theorem State.EvOnly.nvBad {s t : State} (h : s.EvOnly t) : t.nvBad = s.nvBad := by rw [h.rest]
theorem State.EvOnly.nvOp {s t : State} (h : s.EvOnly t) : t.nvOp = s.nvOp := by rw [h.rest]
theorem State.EvOnly.nvLast {s t : State} (h : s.EvOnly t) : t.nvLast = s.nvLast := by rw [h.rest]
theorem State.EvOnly.bootCfg {s t : State} (h : s.EvOnly t) : t.bootCfg = s.bootCfg := by rw [h.rest]
theorem State.EvOnly.flash {s t : State} (h : s.EvOnly t) : t.flash = s.flash := by rw [h.rest]
theorem State.EvOnly.csram {s t : State} (h : s.EvOnly t) : t.csram = s.csram := by rw [h.rest]
theorem State.EvOnly.apll {s t : State} (h : s.EvOnly t) : t.apll = s.apll := by rw [h.rest]
theorem State.EvOnly.clkout {s t : State} (h : s.EvOnly t) : t.clkout = s.clkout := by rw [h.rest]
theorem State.EvOnly.gn {s t : State} (h : s.EvOnly t) : t.gn = s.gn := by rw [h.rest]
theorem State.EvOnly.tally {s t : State} (h : s.EvOnly t) : t.tally = s.tally := by rw [h.rest]
theorem State.EvOnly.agent {s t : State} (h : s.EvOnly t) : t.agent = s.agent := by rw [h.rest]
theorem State.EvOnly.degWin {s t : State} (h : s.EvOnly t) : t.degWin = s.degWin := by rw [h.rest]
theorem State.EvOnly.polWin {s t : State} (h : s.EvOnly t) : t.polWin = s.polWin := by rw [h.rest]
theorem State.EvOnly.cntWin {s t : State} (h : s.EvOnly t) : t.cntWin = s.cntWin := by rw [h.rest]
theorem State.EvOnly.pw {s t : State} (h : s.EvOnly t) : t.pw = s.pw := by rw [h.rest]
theorem State.EvOnly.cal {s t : State} (h : s.EvOnly t) : t.cal = s.cal := by rw [h.rest]
theorem State.EvOnly.hi {s t : State} (h : s.EvOnly t) : t.hi = s.hi := by rw [h.rest]
theorem State.EvOnly.waveDie {s t : State} (h : s.EvOnly t) : t.waveDie = s.waveDie := by rw [h.rest]

theorem State.EvOnly.refl (s : State) : s.EvOnly s := ⟨rfl, fun _ _ _ _ => rfl⟩

theorem State.EvOnly.trans {s t u : State} (h : s.EvOnly t) (g : t.EvOnly u) : s.EvOnly u :=
  ⟨by rw [g.rest, h.rest], fun f i j hk => (g.regs f i j hk).trans (h.regs f i j hk)⟩

theorem State.EvOnly.ite {s a b : State} {c : Prop} [Decidable c] (ha : s.EvOnly a) (hb : s.EvOnly b) :
    s.EvOnly (if c then a else b) := by split <;> assumption

theorem State.EvOnly.set {s : State} {f : Fld} (v : Nat) {i j : Nat}
    (h : eventReg (f.key i j)) : s.EvOnly (s.set f v i j) :=
  ⟨rfl, fun _ _ _ hk => State.get_set_ne s v fun e => hk (e ▸ h)⟩

theorem State.countProg_evOnly (s : State) (ev port m n : Nat) : s.EvOnly (s.countProg ev port m n) :=
  ⟨rfl, fun _ _ _ _ => rfl⟩

theorem State.sendVec_evOnly (s : State) (fn v : Nat) : s.EvOnly (s.sendVec fn v) := by
  unfold State.sendVec
  dsimp only
  split
  · exact .refl s
  · split
    · exact ⟨rfl, fun _ _ _ _ => rfl⟩
    · exact ⟨rfl, fun _ _ _ _ => rfl⟩

theorem State.latchEvent_evOnly (s : State) (e : Nat) (he : e < 128) : s.EvOnly (s.latchEvent e) := by
  have h1 : s.EvOnly (s.set R.EV_STATUSi_STATUS (s.get R.EV_STATUSi_STATUS (e / 32) ||| 2 ^ (e % 32)) (e / 32)) :=
    .set _ (by simp only [eventReg, inRegs, Fld.key, R.EV_STATUSi_STATUS]; omega)
  unfold State.latchEvent
  dsimp only
  split
  · exact .ite (.trans (.ite (h1.trans (State.sendVec_evOnly ..)) h1) (State.sendVec_evOnly ..))
      (.ite (h1.trans (State.sendVec_evOnly ..)) h1)
  · exact h1

theorem State.recordEvent_evOnly (s : State) (e d : Nat) : s.EvOnly (s.recordEvent e d).1 := by
  unfold State.recordEvent
  split
  · exact ⟨rfl, fun _ _ _ _ => rfl⟩
  · exact .refl s

theorem State.raiseOne_evOnly (s : State) (e d : Nat) (he : e < 128) : s.EvOnly (s.raiseOne e d).1 :=
  ((s.countProg_evOnly ..).trans (State.latchEvent_evOnly _ e he)).trans (State.recordEvent_evOnly ..)

theorem State.evrecOvf_evOnly (s : State) (a b : Bool) : s.EvOnly (s.evrecOvf a b) := by
  have h (t : State) : t.EvOnly (if a then ((t.set R.EV_REC_STAT_S_OVF 1).raiseOne 100 0).1 else t) :=
    .ite ((State.EvOnly.set 1 (by simp [eventReg, inRegs, Fld.key, R.EV_REC_STAT_S_OVF])).trans (State.raiseOne_evOnly _ 100 0 (by decide))) (.refl t)
  unfold State.evrecOvf
  exact .ite ((h s).trans ((State.EvOnly.set 1 (by simp [eventReg, inRegs, Fld.key, R.EV_REC_STAT_N_OVF])).trans
    (State.raiseOne_evOnly _ 100 1 (by decide)))) (h s)

/-- Raising an event changes nothing beyond the event block's registers and FIFOs, the counters and the interrupts. -/
theorem State.raise_evOnly (s : State) (e d : Nat) (he : e < 128) : s.EvOnly (s.raise e d) :=
  (State.raiseOne_evOnly s e d he).trans (State.evrecOvf_evOnly ..)

theorem State.get_raise (s : State) {e : Nat} (d : Nat) (he : e < 128) {f : Fld} {i j : Nat}
    (hk : ¬ eventReg (f.key i j)) : (s.raise e d).get f i j = s.get f i j :=
  (State.raise_evOnly s e d he).regs f i j hk

end Sys2Proof.Machine
end

