-- ==== Sys2Proof/Laws/Mailbox.lean ====
section
/-! SUPPORT. The mailbox exchange: what a response leaves in its mailbox and what it leaves alone, and that a request which is
served runs its command's body. -/

namespace Sys2Proof.Machine

/-! ### Words of a mailbox -/

theorem State.putRsp_eq (s : State) (mb k : Nat) (ws : List Nat) :
    s.putRsp mb k ws = { s with regs := (s.putRsp mb k ws).regs } := by
  induction ws generalizing s k with
  | nil => rfl
  | cons w r ih => exact ih (s.set R.MB_n_RSP_W w mb k) (k + 1)

/-- Writing response words from `k` on leaves every key below theirs or beyond the 64 words. -/
theorem State.get_putRsp_ne (s : State) (mb k : Nat) (ws : List Nat) {g : Fld} {i j : Nat}
    (h : ∀ m, k ≤ m → m < k + ws.length → g.key i j ≠ R.MB_n_RSP_W.key mb m) :
    (s.putRsp mb k ws).get g i j = s.get g i j := by
  induction ws generalizing s k with
  | nil => rfl
  | cons w r ih =>
    rw [State.putRsp, ih _ _ fun m h1 h2 => h m (by omega) (by simp; omega)]
    exact State.get_set_ne s w (h k (Nat.le_refl _) (by simp))

theorem rsp_key_inj {mb a b : Nat} (h : R.MB_n_RSP_W.key mb a = R.MB_n_RSP_W.key mb b) : a = b := by
  simp only [Fld.key, R.MB_n_RSP_W] at h; omega

theorem State.get_putRsp (s : State) (mb k : Nat) (ws : List Nat) (m : Nat) (hm : m < ws.length) :
    (s.putRsp mb k ws).get R.MB_n_RSP_W mb (k + m) = ws.getD m 0 % 2 ^ 32 := by
  induction ws generalizing s k m with
  | nil => simp at hm
  | cons w r ih =>
    cases m with
    | zero =>
      rw [State.putRsp, State.get_putRsp_ne _ _ _ _ fun x h1 _ e => by have := rsp_key_inj e; omega]
      simp only [Nat.add_zero, State.get_set_same, List.getD_cons_zero]
      rfl
    | succ m =>
      rw [State.putRsp, show k + (m + 1) = k + 1 + m by omega]
      simpa using ih (s.set R.MB_n_RSP_W w mb k) (k + 1) m (by simpa using hm)

/-! ### A response -/

@[simp] theorem State.get_freeCores (s : State) (mb : Nat) (f : Fld) (i j : Nat) :
    (s.freeCores mb).get f i j = s.get f i j := rfl

/-- A response's words and the writes that follow them. -/
def State.rspRegs (s : State) (mb : Nat) (st : Status) (words : List Nat) : State :=
  (s.putRsp mb 0 ((bits (s.reqHeader mb) 15 0 + st.code * 2 ^ 16 + bits (s.reqHeader mb) 31 24 * 2 ^ 24) :: words.take 63)).writes
    [{ f := R.MB_n_STATE_LEN, i := mb, v := (words.take 63).length },
     { f := R.MB_n_STATE_STATE, i := mb, v := 2 }, { f := R.MB_n_STATE_PEND_NR, i := mb, v := 0 },
     { f := R.MB_n_SEQ_RSP_SEQ, i := mb, v := s.get R.MB_n_SEQ_REQ_SEQ mb }]

theorem State.respond_eq (s : State) {mb : Nat} (hm : mb < 16) (st : Status) (words : List Nat) :
    s.respond mb st words = ((s.rspRegs mb st words).freeCores mb).raise (16 + mb) (s.get R.MB_n_SEQ_REQ_SEQ mb) := by
  unfold State.respond
  rw [if_neg (by omega)]
  rfl

theorem mb_not_event {f : Fld} {i j : Nat} (h : mailboxReg (f.key i j)) : ¬ eventReg (f.key i j) := by
  simp only [mailboxReg, eventReg, inRegs] at *; omega

/-- A register of a mailbox page after a response. -/
theorem State.get_respond_mb (s : State) {mb : Nat} (hm : mb < 16) (st : Status) (words : List Nat) {f : Fld} {i j : Nat}
    (hk : mailboxReg (f.key i j)) : (s.respond mb st words).get f i j = (s.rspRegs mb st words).get f i j := by
  rw [State.respond_eq s hm, State.get_raise _ _ (by omega) (mb_not_event hk), State.get_freeCores]

/-- A response leaves every register field outside the mailbox pages and the event registers. -/
theorem State.get_respond (s : State) {mb : Nat} (hm : mb < 16) (st : Status) (words : List Nat) {f : Fld} {i j : Nat}
    (hk : ¬ mailboxReg (f.key i j)) (he : ¬ eventReg (f.key i j)) :
    (s.respond mb st words).get f i j = s.get f i j := by
  have hlen : (words.take 63).length ≤ 63 := by rw [List.length_take]; omega
  simp only [mailboxReg, inRegs] at hk
  rw [State.respond_eq s hm, State.get_raise _ _ (by omega) he, State.get_freeCores, State.rspRegs,
    State.get_writes_ne, State.get_putRsp_ne]
  · intro m _ h2
    simp only [List.length_cons] at h2
    simp only [Fld.key, R.MB_n_RSP_W] at *
    omega
  · intro w hw
    simp only [List.mem_cons, List.not_mem_nil, or_false] at hw
    rcases hw with rfl | rfl | rfl | rfl <;>
      simp only [Fld.key, R.MB_n_STATE_LEN, R.MB_n_STATE_STATE, R.MB_n_STATE_PEND_NR, R.MB_n_SEQ_RSP_SEQ] at * <;> omega

theorem State.respond_pending (s : State) {mb : Nat} (hm : mb < 16) (st : Status) (words : List Nat) :
    (s.respond mb st words).pending = s.pending := by
  rw [State.respond_eq s hm, (State.raise_evOnly _ _ _ (by omega)).pending]
  exact (State.writes_pending ..).trans (by rw [State.putRsp_eq])
theorem State.respond_clk (s : State) {mb : Nat} (hm : mb < 16) (st : Status) (words : List Nat) :
    (s.respond mb st words).clk = s.clk := by
  rw [State.respond_eq s hm, (State.raise_evOnly _ _ _ (by omega)).clk]
  exact (State.writes_clk ..).trans (by rw [State.putRsp_eq])
theorem State.respond_drawn (s : State) {mb : Nat} (hm : mb < 16) (st : Status) (words : List Nat) :
    (s.respond mb st words).drawn = s.drawn := by
  rw [State.respond_eq s hm, (State.raise_evOnly _ _ _ (by omega)).drawn]
  exact (State.writes_drawn ..).trans (by rw [State.putRsp_eq])
theorem State.respond_sem (s : State) {mb : Nat} (hm : mb < 16) (st : Status) (words : List Nat) :
    (s.respond mb st words).sem = s.sem := by
  rw [State.respond_eq s hm, (State.raise_evOnly _ _ _ (by omega)).sem]
  exact (State.writes_sem ..).trans (by rw [State.putRsp_eq])
theorem State.respond_ci (s : State) {mb : Nat} (hm : mb < 16) (st : Status) (words : List Nat) :
    (s.respond mb st words).ci = s.ci := by
  rw [State.respond_eq s hm, (State.raise_evOnly _ _ _ (by omega)).ci]
  exact (State.writes_ci ..).trans (by rw [State.putRsp_eq])
theorem State.respond_tb (s : State) {mb : Nat} (hm : mb < 16) (st : Status) (words : List Nat) :
    (s.respond mb st words).tb = s.tb := by
  rw [State.respond_eq s hm, (State.raise_evOnly _ _ _ (by omega)).tb]
  exact (State.writes_tb ..).trans (by rw [State.putRsp_eq])
theorem State.respond_replica (s : State) {mb : Nat} (hm : mb < 16) (st : Status) (words : List Nat) :
    (s.respond mb st words).replica = s.replica := by
  rw [State.respond_eq s hm, (State.raise_evOnly _ _ _ (by omega)).replica]
  exact (State.writes_replica ..).trans (by rw [State.putRsp_eq])
theorem State.respond_pair (s : State) {mb : Nat} (hm : mb < 16) (st : Status) (words : List Nat) :
    (s.respond mb st words).pair = s.pair := by
  rw [State.respond_eq s hm, (State.raise_evOnly _ _ _ (by omega)).pair]
  exact (State.writes_pair ..).trans (by rw [State.putRsp_eq])
theorem State.respond_snap (s : State) {mb : Nat} (hm : mb < 16) (st : Status) (words : List Nat) :
    (s.respond mb st words).snap = s.snap := by
  rw [State.respond_eq s hm, (State.raise_evOnly _ _ _ (by omega)).snap]
  exact (State.writes_snap ..).trans (by rw [State.putRsp_eq])
theorem State.respond_pps (s : State) {mb : Nat} (hm : mb < 16) (st : Status) (words : List Nat) :
    (s.respond mb st words).pps = s.pps := by
  rw [State.respond_eq s hm, (State.raise_evOnly _ _ _ (by omega)).pps]
  exact (State.writes_pps ..).trans (by rw [State.putRsp_eq])
theorem State.respond_serial (s : State) {mb : Nat} (hm : mb < 16) (st : Status) (words : List Nat) :
    (s.respond mb st words).serial = s.serial := by
  rw [State.respond_eq s hm, (State.raise_evOnly _ _ _ (by omega)).serial]
  exact (State.writes_serial ..).trans (by rw [State.putRsp_eq])
theorem State.respond_slot (s : State) {mb : Nat} (hm : mb < 16) (st : Status) (words : List Nat) :
    (s.respond mb st words).slot = s.slot := by
  rw [State.respond_eq s hm, (State.raise_evOnly _ _ _ (by omega)).slot]
  exact (State.writes_slot ..).trans (by rw [State.putRsp_eq])
theorem State.respond_dpll (s : State) {mb : Nat} (hm : mb < 16) (st : Status) (words : List Nat) :
    (s.respond mb st words).dpll = s.dpll := by
  rw [State.respond_eq s hm, (State.raise_evOnly _ _ _ (by omega)).dpll]
  exact (State.writes_dpll ..).trans (by rw [State.putRsp_eq])
theorem State.respond_tr (s : State) {mb : Nat} (hm : mb < 16) (st : Status) (words : List Nat) :
    (s.respond mb st words).tr = s.tr := by
  rw [State.respond_eq s hm, (State.raise_evOnly _ _ _ (by omega)).tr]
  exact (State.writes_tr ..).trans (by rw [State.putRsp_eq])
theorem State.respond_fixedCnt (s : State) {mb : Nat} (hm : mb < 16) (st : Status) (words : List Nat) :
    (s.respond mb st words).fixedCnt = s.fixedCnt := by
  rw [State.respond_eq s hm, (State.raise_evOnly _ _ _ (by omega)).fixedCnt]
  exact (State.writes_fixedCnt ..).trans (by rw [State.putRsp_eq])
theorem State.respond_bw (s : State) {mb : Nat} (hm : mb < 16) (st : Status) (words : List Nat) :
    (s.respond mb st words).bw = s.bw := by
  rw [State.respond_eq s hm, (State.raise_evOnly _ _ _ (by omega)).bw]
  exact (State.writes_bw ..).trans (by rw [State.putRsp_eq])
theorem State.respond_sched (s : State) {mb : Nat} (hm : mb < 16) (st : Status) (words : List Nat) :
    (s.respond mb st words).sched = s.sched := by
  rw [State.respond_eq s hm, (State.raise_evOnly _ _ _ (by omega)).sched]
  exact (State.writes_sched ..).trans (by rw [State.putRsp_eq])
theorem State.respond_sessions (s : State) {mb : Nat} (hm : mb < 16) (st : Status) (words : List Nat) :
    (s.respond mb st words).sessions = s.sessions := by
  rw [State.respond_eq s hm, (State.raise_evOnly _ _ _ (by omega)).sessions]
  exact (State.writes_sessions ..).trans (by rw [State.putRsp_eq])
theorem State.respond_ptp (s : State) {mb : Nat} (hm : mb < 16) (st : Status) (words : List Nat) :
    (s.respond mb st words).ptp = s.ptp := by
  rw [State.respond_eq s hm, (State.raise_evOnly _ _ _ (by omega)).ptp]
  exact (State.writes_ptp ..).trans (by rw [State.putRsp_eq])
theorem State.respond_admits (s : State) {mb : Nat} (hm : mb < 16) (st : Status) (words : List Nat) :
    (s.respond mb st words).admits = s.admits := by
  rw [State.respond_eq s hm, (State.raise_evOnly _ _ _ (by omega)).admits]
  exact (State.writes_admits ..).trans (by rw [State.putRsp_eq])
theorem State.respond_fpm (s : State) {mb : Nat} (hm : mb < 16) (st : Status) (words : List Nat) :
    (s.respond mb st words).fpm = s.fpm := by
  rw [State.respond_eq s hm, (State.raise_evOnly _ _ _ (by omega)).fpm]
  exact (State.writes_fpm ..).trans (by rw [State.putRsp_eq])
theorem State.respond_lane (s : State) {mb : Nat} (hm : mb < 16) (st : Status) (words : List Nat) :
    (s.respond mb st words).lane = s.lane := by
  rw [State.respond_eq s hm, (State.raise_evOnly _ _ _ (by omega)).lane]
  exact (State.writes_lane ..).trans (by rw [State.putRsp_eq])
theorem State.respond_subst (s : State) {mb : Nat} (hm : mb < 16) (st : Status) (words : List Nat) :
    (s.respond mb st words).subst = s.subst := by
  rw [State.respond_eq s hm, (State.raise_evOnly _ _ _ (by omega)).subst]
  exact (State.writes_subst ..).trans (by rw [State.putRsp_eq])
theorem State.respond_waveFrom (s : State) {mb : Nat} (hm : mb < 16) (st : Status) (words : List Nat) :
    (s.respond mb st words).waveFrom = s.waveFrom := by
  rw [State.respond_eq s hm, (State.raise_evOnly _ _ _ (by omega)).waveFrom]
  exact (State.writes_waveFrom ..).trans (by rw [State.putRsp_eq])
theorem State.respond_port (s : State) {mb : Nat} (hm : mb < 16) (st : Status) (words : List Nat) :
    (s.respond mb st words).port = s.port := by
  rw [State.respond_eq s hm, (State.raise_evOnly _ _ _ (by omega)).port]
  exact (State.writes_port ..).trans (by rw [State.putRsp_eq])
theorem State.respond_police (s : State) {mb : Nat} (hm : mb < 16) (st : Status) (words : List Nat) :
    (s.respond mb st words).police = s.police := by
  rw [State.respond_eq s hm, (State.raise_evOnly _ _ _ (by omega)).police]
  exact (State.writes_police ..).trans (by rw [State.putRsp_eq])
theorem State.respond_policed (s : State) {mb : Nat} (hm : mb < 16) (st : Status) (words : List Nat) :
    (s.respond mb st words).policed = s.policed := by
  rw [State.respond_eq s hm, (State.raise_evOnly _ _ _ (by omega)).policed]
  exact (State.writes_policed ..).trans (by rw [State.putRsp_eq])
theorem State.respond_cl (s : State) {mb : Nat} (hm : mb < 16) (st : Status) (words : List Nat) :
    (s.respond mb st words).cl = s.cl := by
  rw [State.respond_eq s hm, (State.raise_evOnly _ _ _ (by omega)).cl]
  exact (State.writes_cl ..).trans (by rw [State.putRsp_eq])
theorem State.respond_fwd (s : State) {mb : Nat} (hm : mb < 16) (st : Status) (words : List Nat) :
    (s.respond mb st words).fwd = s.fwd := by
  rw [State.respond_eq s hm, (State.raise_evOnly _ _ _ (by omega)).fwd]
  exact (State.writes_fwd ..).trans (by rw [State.putRsp_eq])
theorem State.respond_fo (s : State) {mb : Nat} (hm : mb < 16) (st : Status) (words : List Nat) :
    (s.respond mb st words).fo = s.fo := by
  rw [State.respond_eq s hm, (State.raise_evOnly _ _ _ (by omega)).fo]
  exact (State.writes_fo ..).trans (by rw [State.putRsp_eq])
theorem State.respond_sctx (s : State) {mb : Nat} (hm : mb < 16) (st : Status) (words : List Nat) :
    (s.respond mb st words).sctx = s.sctx := by
  rw [State.respond_eq s hm, (State.raise_evOnly _ _ _ (by omega)).sctx]
  exact (State.writes_sctx ..).trans (by rw [State.putRsp_eq])
theorem State.respond_et (s : State) {mb : Nat} (hm : mb < 16) (st : Status) (words : List Nat) :
    (s.respond mb st words).et = s.et := by
  rw [State.respond_eq s hm, (State.raise_evOnly _ _ _ (by omega)).et]
  exact (State.writes_et ..).trans (by rw [State.putRsp_eq])
theorem State.respond_us (s : State) {mb : Nat} (hm : mb < 16) (st : Status) (words : List Nat) :
    (s.respond mb st words).us = s.us := by
  rw [State.respond_eq s hm, (State.raise_evOnly _ _ _ (by omega)).us]
  exact (State.writes_us ..).trans (by rw [State.putRsp_eq])
theorem State.respond_nv (s : State) {mb : Nat} (hm : mb < 16) (st : Status) (words : List Nat) :
    (s.respond mb st words).nv = s.nv := by
  rw [State.respond_eq s hm, (State.raise_evOnly _ _ _ (by omega)).nv]
  exact (State.writes_nv ..).trans (by rw [State.putRsp_eq])
theorem State.respond_nvBad (s : State) {mb : Nat} (hm : mb < 16) (st : Status) (words : List Nat) :
    (s.respond mb st words).nvBad = s.nvBad := by
  rw [State.respond_eq s hm, (State.raise_evOnly _ _ _ (by omega)).nvBad]
  exact (State.writes_nvBad ..).trans (by rw [State.putRsp_eq])
theorem State.respond_nvOp (s : State) {mb : Nat} (hm : mb < 16) (st : Status) (words : List Nat) :
    (s.respond mb st words).nvOp = s.nvOp := by
  rw [State.respond_eq s hm, (State.raise_evOnly _ _ _ (by omega)).nvOp]
  exact (State.writes_nvOp ..).trans (by rw [State.putRsp_eq])
theorem State.respond_nvLast (s : State) {mb : Nat} (hm : mb < 16) (st : Status) (words : List Nat) :
    (s.respond mb st words).nvLast = s.nvLast := by
  rw [State.respond_eq s hm, (State.raise_evOnly _ _ _ (by omega)).nvLast]
  exact (State.writes_nvLast ..).trans (by rw [State.putRsp_eq])
theorem State.respond_bootCfg (s : State) {mb : Nat} (hm : mb < 16) (st : Status) (words : List Nat) :
    (s.respond mb st words).bootCfg = s.bootCfg := by
  rw [State.respond_eq s hm, (State.raise_evOnly _ _ _ (by omega)).bootCfg]
  exact (State.writes_bootCfg ..).trans (by rw [State.putRsp_eq])
theorem State.respond_flash (s : State) {mb : Nat} (hm : mb < 16) (st : Status) (words : List Nat) :
    (s.respond mb st words).flash = s.flash := by
  rw [State.respond_eq s hm, (State.raise_evOnly _ _ _ (by omega)).flash]
  exact (State.writes_flash ..).trans (by rw [State.putRsp_eq])
theorem State.respond_csram (s : State) {mb : Nat} (hm : mb < 16) (st : Status) (words : List Nat) :
    (s.respond mb st words).csram = s.csram := by
  rw [State.respond_eq s hm, (State.raise_evOnly _ _ _ (by omega)).csram]
  exact (State.writes_csram ..).trans (by rw [State.putRsp_eq])
theorem State.respond_apll (s : State) {mb : Nat} (hm : mb < 16) (st : Status) (words : List Nat) :
    (s.respond mb st words).apll = s.apll := by
  rw [State.respond_eq s hm, (State.raise_evOnly _ _ _ (by omega)).apll]
  exact (State.writes_apll ..).trans (by rw [State.putRsp_eq])
theorem State.respond_clkout (s : State) {mb : Nat} (hm : mb < 16) (st : Status) (words : List Nat) :
    (s.respond mb st words).clkout = s.clkout := by
  rw [State.respond_eq s hm, (State.raise_evOnly _ _ _ (by omega)).clkout]
  exact (State.writes_clkout ..).trans (by rw [State.putRsp_eq])
theorem State.respond_gn (s : State) {mb : Nat} (hm : mb < 16) (st : Status) (words : List Nat) :
    (s.respond mb st words).gn = s.gn := by
  rw [State.respond_eq s hm, (State.raise_evOnly _ _ _ (by omega)).gn]
  exact (State.writes_gn ..).trans (by rw [State.putRsp_eq])
theorem State.respond_tally (s : State) {mb : Nat} (hm : mb < 16) (st : Status) (words : List Nat) :
    (s.respond mb st words).tally = s.tally := by
  rw [State.respond_eq s hm, (State.raise_evOnly _ _ _ (by omega)).tally]
  exact (State.writes_tally ..).trans (by rw [State.putRsp_eq])
theorem State.respond_agent (s : State) {mb : Nat} (hm : mb < 16) (st : Status) (words : List Nat) :
    (s.respond mb st words).agent = s.agent := by
  rw [State.respond_eq s hm, (State.raise_evOnly _ _ _ (by omega)).agent]
  exact (State.writes_agent ..).trans (by rw [State.putRsp_eq])
theorem State.respond_degWin (s : State) {mb : Nat} (hm : mb < 16) (st : Status) (words : List Nat) :
    (s.respond mb st words).degWin = s.degWin := by
  rw [State.respond_eq s hm, (State.raise_evOnly _ _ _ (by omega)).degWin]
  exact (State.writes_degWin ..).trans (by rw [State.putRsp_eq])
theorem State.respond_polWin (s : State) {mb : Nat} (hm : mb < 16) (st : Status) (words : List Nat) :
    (s.respond mb st words).polWin = s.polWin := by
  rw [State.respond_eq s hm, (State.raise_evOnly _ _ _ (by omega)).polWin]
  exact (State.writes_polWin ..).trans (by rw [State.putRsp_eq])
theorem State.respond_cntWin (s : State) {mb : Nat} (hm : mb < 16) (st : Status) (words : List Nat) :
    (s.respond mb st words).cntWin = s.cntWin := by
  rw [State.respond_eq s hm, (State.raise_evOnly _ _ _ (by omega)).cntWin]
  exact (State.writes_cntWin ..).trans (by rw [State.putRsp_eq])
theorem State.respond_pw (s : State) {mb : Nat} (hm : mb < 16) (st : Status) (words : List Nat) :
    (s.respond mb st words).pw = s.pw := by
  rw [State.respond_eq s hm, (State.raise_evOnly _ _ _ (by omega)).pw]
  exact (State.writes_pw ..).trans (by rw [State.putRsp_eq])
theorem State.respond_cal (s : State) {mb : Nat} (hm : mb < 16) (st : Status) (words : List Nat) :
    (s.respond mb st words).cal = s.cal := by
  rw [State.respond_eq s hm, (State.raise_evOnly _ _ _ (by omega)).cal]
  exact (State.writes_cal ..).trans (by rw [State.putRsp_eq])
theorem State.respond_hi (s : State) {mb : Nat} (hm : mb < 16) (st : Status) (words : List Nat) :
    (s.respond mb st words).hi = s.hi := by
  rw [State.respond_eq s hm, (State.raise_evOnly _ _ _ (by omega)).hi]
  exact (State.writes_hi ..).trans (by rw [State.putRsp_eq])
theorem State.respond_waveDie (s : State) {mb : Nat} (hm : mb < 16) (st : Status) (words : List Nat) :
    (s.respond mb st words).waveDie = s.waveDie := by
  rw [State.respond_eq s hm, (State.raise_evOnly _ _ _ (by omega)).waveDie]
  exact (State.writes_waveDie ..).trans (by rw [State.putRsp_eq])

/-- After a response the answer stands in its mailbox. -/
theorem State.respond_answered (s : State) {mb : Nat} (hm : mb < 16) (st : Status) (words : List Nat) (hw : words.length ≤ 63) :
    Answered (s.respond mb st words) mb st words := by
  have hk (f : Fld) (j : Nat) (h : f.addr + f.s1 * mb + f.s2 * j < 0x10000) (hl : f.lo < 32) : mailboxReg (f.key mb j) := by
    simp only [mailboxReg, inRegs, Fld.key]; omega
  have ht : words.take 63 = words := List.take_of_length_le hw
  have hr (j : Nat) (hj : j < 64) : (s.respond mb st words).get R.MB_n_REQ_W mb j = s.get R.MB_n_REQ_W mb j := by
    rw [State.get_respond_mb s hm st words (hk _ _ (by simp only [R.MB_n_REQ_W]; omega) (by decide)), State.rspRegs,
      State.get_writes_ne, State.get_putRsp_ne]
    · intro m _ h2
      simp only [List.length_cons, List.length_take] at h2
      simp only [Fld.key, R.MB_n_RSP_W, R.MB_n_REQ_W] at *
      omega
    · intro w hw
      simp only [List.mem_cons, List.not_mem_nil, or_false] at hw
      rcases hw with rfl | rfl | rfl | rfl <;>
        simp only [Fld.key, R.MB_n_STATE_LEN, R.MB_n_STATE_STATE, R.MB_n_STATE_PEND_NR, R.MB_n_SEQ_RSP_SEQ, R.MB_n_REQ_W] <;> omega
  have hp (k : Nat) (hk' : k ≤ words.length) : (s.respond mb st words).get R.MB_n_RSP_W mb k
      = ((bits (s.reqHeader mb) 15 0 + st.code * 2 ^ 16 + bits (s.reqHeader mb) 31 24 * 2 ^ 24) :: words).getD k 0 % 2 ^ 32 := by
    rw [State.get_respond_mb s hm st words (hk _ _ (by simp only [R.MB_n_RSP_W]; omega) (by decide)), State.rspRegs, ht,
      State.get_writes_ne]
    · simpa using State.get_putRsp s mb 0 _ k (by simp; omega)
    · intro w hw
      simp only [List.mem_cons, List.not_mem_nil, or_false] at hw
      rcases hw with rfl | rfl | rfl | rfl <;>
        simp only [Fld.key, R.MB_n_STATE_LEN, R.MB_n_STATE_STATE, R.MB_n_STATE_PEND_NR, R.MB_n_SEQ_RSP_SEQ, R.MB_n_RSP_W] <;> omega
  have hs (f : Fld) (h : f.addr + f.s1 * mb < 0x10000) (hl : f.lo < 32) :
      (s.respond mb st words).get f mb 0 = (s.rspRegs mb st words).get f mb 0 :=
    State.get_respond_mb s hm st words (hk f 0 (by simpa using h) hl)
  refine ⟨?_, ?_, ?_, ?_, ?_⟩
  · rw [hs _ (by simp only [R.MB_n_STATE_STATE]; omega) (by decide)]
    simp only [State.rspRegs, State.writes_cons, State.writes_nil]
    rw [State.get_set_ne, State.get_set_ne, State.get_set_same] <;>
      simp [Fld.key, Fld.width, R.MB_n_STATE_STATE, R.MB_n_STATE_PEND_NR, R.MB_n_SEQ_RSP_SEQ] <;> omega
  · rw [hs _ (by simp only [R.MB_n_SEQ_RSP_SEQ]; omega) (by decide), hs _ (by simp only [R.MB_n_SEQ_REQ_SEQ]; omega) (by decide)]
    have hq : (s.rspRegs mb st words).get R.MB_n_SEQ_REQ_SEQ mb 0 = s.get R.MB_n_SEQ_REQ_SEQ mb := by
      rw [State.rspRegs, State.get_writes_ne, State.get_putRsp_ne]
      · intro m _ h2
        simp only [List.length_cons, List.length_take] at h2
        simp only [Fld.key, R.MB_n_RSP_W, R.MB_n_SEQ_REQ_SEQ] at *
        omega
      · intro w hw
        simp only [List.mem_cons, List.not_mem_nil, or_false] at hw
        rcases hw with rfl | rfl | rfl | rfl <;>
          simp only [Fld.key, R.MB_n_STATE_LEN, R.MB_n_STATE_STATE, R.MB_n_STATE_PEND_NR, R.MB_n_SEQ_RSP_SEQ,
            R.MB_n_SEQ_REQ_SEQ] <;> omega
    rw [hq]
    simp only [State.rspRegs, State.writes_cons, State.writes_nil]
    rw [State.get_set_same]
    rfl
  · rw [hs _ (by simp only [R.MB_n_STATE_LEN]; omega) (by decide), State.rspRegs, ht]
    simp only [State.writes_cons, State.writes_nil]
    rw [State.get_set_ne, State.get_set_ne, State.get_set_ne, State.get_set_same]
    · simp only [Fld.width, R.MB_n_STATE_LEN]; omega
    all_goals simp [Fld.key, R.MB_n_STATE_STATE, R.MB_n_STATE_PEND_NR, R.MB_n_SEQ_RSP_SEQ, R.MB_n_STATE_LEN]
  · have hc : st.code ≤ 14 := by cases st <;> decide
    have he : (s.respond mb st words).reqHeader mb = s.reqHeader mb := hr 0 (by omega)
    rw [hp 0 (by omega), he]
    simp only [List.getD_cons_zero, bits]
    omega
  · intro k hk'
    rw [hp (k + 1) (by omega)]
    simp

/-! ### A request that is served -/

theorem State.putReq_eq (s : State) (mb k : Nat) (ws : List Nat) :
    s.putReq mb k ws = { s with regs := (s.putReq mb k ws).regs } := by
  induction ws generalizing s k with
  | nil => rfl
  | cons w r ih => exact ih (s.set R.MB_n_REQ_W w mb k) (k + 1)

theorem req_key_inj {mb a b : Nat} (h : R.MB_n_REQ_W.key mb a = R.MB_n_REQ_W.key mb b) : a = b := by
  simp only [Fld.key, R.MB_n_REQ_W] at h; omega

theorem State.get_putReq_ne (s : State) (mb k : Nat) (ws : List Nat) {g : Fld} {i j : Nat}
    (h : ∀ m, k ≤ m → m < k + ws.length → g.key i j ≠ R.MB_n_REQ_W.key mb m) :
    (s.putReq mb k ws).get g i j = s.get g i j := by
  induction ws generalizing s k with
  | nil => rfl
  | cons w r ih =>
    rw [State.putReq, ih _ _ fun m h1 h2 => h m (by omega) (by simp; omega)]
    exact State.get_set_ne s w (h k (Nat.le_refl _) (by simp))

theorem State.get_putReq (s : State) (mb k : Nat) (ws : List Nat) (m : Nat) (hm : m < ws.length) :
    (s.putReq mb k ws).get R.MB_n_REQ_W mb (k + m) = ws.getD m 0 % 2 ^ 32 := by
  induction ws generalizing s k m with
  | nil => simp at hm
  | cons w r ih =>
    cases m with
    | zero =>
      rw [State.putReq, State.get_putReq_ne _ _ _ _ fun x h1 _ e => by have := req_key_inj e; omega]
      simp only [Nat.add_zero, State.get_set_same, List.getD_cons_zero]
      rfl
    | succ m =>
      rw [State.putReq, show k + (m + 1) = k + 1 + m by omega]
      simpa using ih (s.set R.MB_n_REQ_W w mb k) (k + 1) m (by simpa using hm)

@[simp] theorem State.get_setTaken (s : State) (c : Nat) (x : Option Taken) (f : Fld) (i j : Nat) :
    (s.setTaken c x).get f i j = s.get f i j := by unfold State.setTaken; (repeat' split) <;> rfl

theorem State.get_holdMb (s : State) {mb : Nat} {f : Fld} {i j : Nat} (h : f.key i j ≠ R.MB_n_STATE_PEND_NR.key mb 0) :
    (s.holdMb mb).get f i j = s.get f i j := by
  have : (s.holdMb mb).get f i j = ((s.setTaken (coreOf mb) (some { mb := mb })).set R.MB_n_STATE_PEND_NR 0 mb).get f i j := by
    unfold State.holdMb; dsimp only; (repeat' split) <;> rfl
  rw [this, State.get_set_ne _ _ h, State.get_setTaken]

/-- A doorbell changes STATE, REQ_SEQ and PEND_NR alone. -/
theorem State.get_ring (s : State) {init mb : Nat} {f : Fld} {i j : Nat} (h1 : f.key i j ≠ R.MB_n_STATE_STATE.key mb 0)
    (h2 : f.key i j ≠ R.MB_n_SEQ_REQ_SEQ.key mb 0) (h3 : f.key i j ≠ R.MB_n_STATE_PEND_NR.key mb 0) :
    (s.ring init mb).get f i j = s.get f i j := by
  have e : (s.ring init mb).get f i j = (((s.set R.MB_n_STATE_STATE 1 mb).incWrap R.MB_n_SEQ_REQ_SEQ mb).setB
    R.MB_n_STATE_PEND_NR (!s.coreReady (coreOf mb)) mb).get f i j := rfl
  rw [e, State.setB, State.get_set_ne _ _ h3, State.incWrap, State.get_set_ne _ _ h2, State.get_set_ne _ _ h1]

/-- The words of a request as they stand in its mailbox once it is rung. -/
theorem State.get_rung_req (s : State) {op : Nat} {r : Req} {k : Nat} (hk : k ≤ (r.args.take 63).length) :
    (s.rung op r).get R.MB_n_REQ_W r.mb k
      = ((op + (r.args.take 63).length * 2 ^ 16 + r.tag % 256 * 2 ^ 24) :: r.args.take 63).getD k 0 % 2 ^ 32 := by
  have hl : (r.args.take 63).length ≤ 63 := by rw [List.length_take]; omega
  unfold State.rung
  dsimp only
  rw [State.get_ring]
  · simpa using State.get_putReq s.quiet r.mb 0 _ k (by simp only [List.length_cons]; omega)
  all_goals simp only [Fld.key, R.MB_n_REQ_W, R.MB_n_STATE_STATE, R.MB_n_SEQ_REQ_SEQ, R.MB_n_STATE_PEND_NR]; omega

theorem State.rung_ringer (s : State) (op : Nat) (r : Req) : Tab.get 4 (s.rung op r).ctl.ringer r.mb = r.init := by
  simp [State.rung, State.ring, Tab.get_put_same]

@[simp] theorem State.setTaken_ringer (s : State) (c : Nat) (x : Option Taken) : (s.setTaken c x).ctl.ringer = s.ctl.ringer := by
  unfold State.setTaken; (repeat' split) <;> rfl

@[simp] theorem State.holdMb_ringer (s : State) (mb : Nat) : (s.holdMb mb).ctl.ringer = s.ctl.ringer := by
  unfold State.holdMb; dsimp only; (repeat' split) <;> simp

theorem State.asked_ringer (s : State) (cmd : Cmd) (r : Req) : Tab.get 4 (s.asked cmd r).ctl.ringer r.mb = r.init := by
  unfold State.asked; dsimp only; split <;> simp [State.rung_ringer]

theorem State.get_asked_req (s : State) {cmd : Cmd} {r : Req} {k : Nat} (hk : k ≤ (r.args.take 63).length) :
    (s.asked cmd r).get R.MB_n_REQ_W r.mb k
      = ((cmd.op + (r.args.take 63).length * 2 ^ 16 + r.tag % 256 * 2 ^ 24) :: r.args.take 63).getD k 0 % 2 ^ 32 := by
  have hl : (r.args.take 63).length ≤ 63 := by rw [List.length_take]; omega
  have hh : ((s.rung cmd.op r).holdMb r.mb).get R.MB_n_REQ_W r.mb k = (s.rung cmd.op r).get R.MB_n_REQ_W r.mb k :=
    State.get_holdMb _ (by simp only [Fld.key, R.MB_n_REQ_W, R.MB_n_STATE_PEND_NR]; omega)
  unfold State.asked
  dsimp only
  rw [← State.get_rung_req s hk, ← hh]
  split <;> simp

/-- The core reads the argument words as the sender gave them. -/
theorem State.asked_args (s : State) {cmd : Cmd} {r : Req} (hop : cmd.op < 2 ^ 16) (hl : r.args.length ≤ 63)
    (hw : ∀ w ∈ r.args, w < 2 ^ 32) : (s.asked cmd r).reqArgs r.mb = r.args := by
  have ht : r.args.take 63 = r.args := List.take_of_length_le hl
  have hh : bits ((s.asked cmd r).reqHeader r.mb) 21 16 = r.args.length := by
    rw [State.reqHeader, State.get_asked_req s (Nat.zero_le _), ht]
    simp only [List.getD_cons_zero, bits]
    omega
  apply List.ext_getElem
  · simp [State.reqArgs, hh]
  · intro k h1 h2
    simp only [State.reqArgs, List.getElem_map, List.getElem_range]
    rw [State.get_asked_req s (by rw [ht]; omega), ht]
    simp only [List.getD_cons_succ]
    rw [List.getD_eq_getElem?_getD, List.getElem?_eq_getElem h2, Option.getD_some]
    exact Nat.mod_eq_of_lt (hw _ (List.getElem_mem h2))

/-- The body's answer as a core gives it to a served request, once the checks that every command shares have passed. -/
theorem State.runCmd_served {s : State} {cmd : Cmd} {r : Req} (h : Served s cmd r)
    (hs : (cmd.body (ctxOf r) (s.asked cmd r)).status = .ok) :
    (s.asked cmd r).runCmd cmd (ctxOf r)
      = { cmd.body (ctxOf r) (s.asked cmd r) with st := (cmd.body (ctxOf r) (s.asked cmd r)).st.settleCfg } := by
  have hm := h.mailbox
  have hi : (ctxOf r).image = false := by
    simp only [Ctx.image, ctxOf]
    simp; omega
  have h1 : (!cmd.any && !(ctxOf r).secure) = false := by
    rcases h.any with e | e <;> simp [e, ctxOf]
  have h2 : ((s.asked cmd r).on R.MODE_STATE_ROM_ONLY && !romOps.contains cmd.op) = false := by
    rcases h.rom with e | e
    · rw [e]; rfl
    · rw [e]; simp
  have h3 : ((!((ctxOf r).image && (cmd.op / 256 == 0x14 || cmd.op / 256 == 0x24)) && !cmd.mode (s.asked cmd r)) || (cmd.acts && (s.asked cmd r).asleep (cmd.entry (ctxOf r).args))) = false := by
    rw [h.mode, hi]
    rcases e : cmd.acts with _ | _
    · simp
    · rw [show (ctxOf r).args = r.args from rfl, h.awake e]; simp
  have h4 : ¬ (ctxOf r).args.length < cmd.need := by have := h.needs; simp only [ctxOf]; omega
  unfold State.runCmd
  rw [if_neg (by rw [h1]; decide), if_neg (by rw [h2]; decide), if_neg (by rw [h3]; decide), if_neg h4]
  simp only [hs]

/-- A served request is carried out by its core at once. -/
theorem State.exchange_carryOut {s : State} {cmd : Cmd} {r : Req} (h : Served s cmd r) :
    s.exchange (some cmd) cmd.op r = (s.asked cmd r).carryOut r.mb (some cmd) := by
  have hb : s.mbBusy r.mb = false := h.free
  unfold State.exchange
  rw [if_neg (by have := h.mailbox; omega), if_neg]
  · rw [if_neg (by rw [hb]; decide), if_pos h.core]
    unfold State.takeMb State.asked
    dsimp only
    by_cases e : ((s.rung cmd.op r).holdMb r.mb).needsPair r.mb (some cmd) = true
    · rw [if_pos e, if_pos e, if_pos (h.pair e)]
    · rw [if_neg e, if_neg e]
  · simp only [Bool.and_eq_true, decide_eq_true_eq, Bool.not_eq_true', not_and]
    intro e
    simp [h.world e]

/-- The context that a core gives the body of a served request. -/
theorem State.asked_ctx {s : State} {cmd : Cmd} {r : Req} (hop : cmd.op < 2 ^ 16) (h : Served s cmd r) :
    ({ mb := some r.mb, init := Tab.get 4 (s.asked cmd r).ctl.ringer r.mb, secure := decide (r.mb < 8),
       args := (s.asked cmd r).reqArgs r.mb } : Ctx) = ctxOf r := by
  rw [State.asked_ringer, State.asked_args s hop h.len h.words]; rfl

/-- A served request is carried out by its core: the response holds what the command's body answers. -/
theorem State.exchange_served {s : State} {cmd : Cmd} {r : Req} (hop : cmd.op < 2 ^ 16) (h : Served s cmd r)
    (hs : (cmd.body (ctxOf r) (s.asked cmd r)).status = .ok) (hw : (cmd.body (ctxOf r) (s.asked cmd r)).wait = false) :
    s.exchange (some cmd) cmd.op r
      = (cmd.body (ctxOf r) (s.asked cmd r)).st.settleCfg.respond r.mb .ok (cmd.body (ctxOf r) (s.asked cmd r)).words := by
  rw [State.exchange_carryOut h]
  unfold State.carryOut
  dsimp only
  rw [State.asked_ctx hop h, State.runCmd_served h hs]
  simp only [hw, hs]
  rfl

/-- A served request whose answer comes at a later event leaves the state of its body. -/
theorem State.exchange_waits {s : State} {cmd : Cmd} {r : Req} (hop : cmd.op < 2 ^ 16) (h : Served s cmd r)
    (hs : (cmd.body (ctxOf r) (s.asked cmd r)).status = .ok) (hw : (cmd.body (ctxOf r) (s.asked cmd r)).wait = true) :
    s.exchange (some cmd) cmd.op r = (cmd.body (ctxOf r) (s.asked cmd r)).st.settleCfg := by
  rw [State.exchange_carryOut h]
  unfold State.carryOut
  dsimp only
  rw [State.asked_ctx hop h, State.runCmd_served h hs]
  simp only [hw]
  rfl

/-- A served request whose body answers OK completes, and every register field outside the mailbox pages, the event registers
and CI_STAT.PENDING stands as the body leaves it. -/
theorem State.settleCfg_get (s : State) {f : Fld} {i j : Nat} (h : f.key i j ≠ R.CI_STAT_PENDING.key 0 0) :
    s.settleCfg.get f i j = s.get f i j := by
  unfold State.settleCfg
  split
  · dsimp only
    split
    · exact State.get_set_ne _ _ h
    · rfl
  · rfl

theorem Completes.of_served {i : Instr} {s : State} {cmd : Cmd} {r : Req} {holds : State → Prop}
    (he : exec i s = .next (s.exchange (some cmd) cmd.op r)) (hop : cmd.op < 2 ^ 16) (h : Served s cmd r)
    (hs : (cmd.body (ctxOf r) (s.asked cmd r)).status = .ok) (hw : (cmd.body (ctxOf r) (s.asked cmd r)).wait = false)
    (hl : (cmd.body (ctxOf r) (s.asked cmd r)).words.length ≤ 63)
    (hh : holds ((cmd.body (ctxOf r) (s.asked cmd r)).st.settleCfg.respond r.mb .ok (cmd.body (ctxOf r) (s.asked cmd r)).words)) :
    Completes i s r.mb (cmd.body (ctxOf r) (s.asked cmd r)).words holds :=
  ⟨_, by rw [he, State.exchange_served hop h hs hw], State.respond_answered _ h.mailbox _ _ hl, hh⟩

/-- A condition that holds lets a body go on. -/
theorem need_pos {b : Bool} {st : Status} {s : State} {k : Res} (h : b = true) : need b st s k = k := if_pos h

/-- Configuration writes that no lock refuses are made. -/
theorem writeCfg_unlocked {s : State} {ws : List FieldWrite} {k : State → Res} (h : s.unlocked ws) :
    writeCfg s ws k = k (s.cfgWrites ws) := by
  have hn := List.find?_eq_none.mpr fun w hw => by simpa using h w hw
  unfold writeCfg
  rw [hn]

/-- A block that no lock holds lets a body go on. -/
theorem unlessLocked_free {s : State} {e : Nat} {k : Res} (h : s.worldLocked (s.entryNonSecure e) = false) :
    unlessLocked s e k = k := if_neg (by rw [h]; decide)

/-- What may be accessed does not depend on what has been sent outward. -/
theorem allowed_quiet {s : State} {init addr : Nat} {wr : Bool} (h : Allowed s init addr wr) : Allowed s.quiet init addr wr := by
  have h0 : s.quiet.powered = s.powered := rfl
  have ho : ∀ f i j, s.quiet.on f i j = s.on f i j := fun _ _ _ => rfl
  have h1 : ∀ i, s.quiet.initSecure i = s.initSecure i := fun _ => rfl
  have h2 : ∀ i, s.quiet.entryNonSecure i = s.entryNonSecure i := fun _ => rfl
  have h3 : ∀ i, s.quiet.blkState i = s.blkState i := fun _ => rfl
  have h4 : ∀ i, s.quiet.portPower i = s.portPower i := fun _ => rfl
  have h5 : ∀ a b, s.quiet.downTo a b = s.downTo a b := fun a b => by unfold State.downTo; simp only [h3, h4]
  have h6 : s.quiet.checkAccess init addr wr = s.checkAccess init addr wr := by
    unfold State.checkAccess State.checkInternal State.checkDirect
    simp only [h0, ho, h1, h2, h5]
  exact h6.trans h

/-- A direct write that breaks no rule of access and no lock takes effect. -/
theorem State.directWrite_allowed {s : State} {init addr : Nat} {ws : List FieldWrite} {k : State → State}
    (ha : Allowed s.quiet init addr true) (h : s.quiet.writable ws) : s.directWrite init addr ws k = s.quiet.direct k := by
  have hn := List.find?_eq_none.mpr fun w hw => by simpa using h w hw
  unfold State.directWrite Allowed at *
  dsimp only at *
  rw [ha]
  dsimp only
  rw [hn]
  rfl

theorem leWords_length (n : Nat) (l : List Byte) : (leWords n l).length ≤ n := by
  induction n generalizing l with
  | zero => simp [leWords]
  | succ n ih => unfold leWords; split <;> simp [ih]

/-- A command fulfils what its body does: the one lemma through which a mailbox command's statement goes. -/
theorem Fulfils.of_body {mk : Req → Instr} {cmd : Cmd} {pre : Ctx → State → Prop} {words : Ctx → State → List Nat}
    {effect : Ctx → State → State} (he : ∀ r s, exec (mk r) s = .next (s.exchange (some cmd) cmd.op r)) (hop : cmd.op < 2 ^ 16)
    (hb : ∀ c q, pre c q → cmd.body c q = done (effect c q) (words c q))
    (hl : ∀ c q, pre c q → c.args.length ≤ 63 → (words c q).length ≤ 63) : Fulfils mk cmd pre words effect := by
  intro s r h hp
  have e := hb _ _ hp
  have w : words (ctxOf r) (s.asked cmd r) = (cmd.body (ctxOf r) (s.asked cmd r)).words := by rw [e]; rfl
  rw [w]
  refine Completes.of_served (he r s) hop h (by rw [e]; rfl) (by rw [e]; rfl) ?_ ?_
  · rw [← w]; exact hl _ _ hp h.len
  · rw [e]; rfl

/-- A command that answers later fulfils what its body does. -/
theorem Awaits.of_body {mk : Req → Instr} {cmd : Cmd} {pre : Ctx → State → Prop} {effect : Ctx → State → State}
    (he : ∀ r s, exec (mk r) s = .next (s.exchange (some cmd) cmd.op r)) (hop : cmd.op < 2 ^ 16)
    (hb : ∀ c q, pre c q → cmd.body c q = { st := effect c q, wait := true }) : Awaits mk cmd pre effect := by
  intro s r h hp
  have e := hb _ _ hp
  rw [he, State.exchange_waits hop h (by rw [e]) (by rw [e]), e]

end Sys2Proof.Machine
end

