-- ==== Sys2Proof/Laws/Memory.lean ====
section
/-! SUPPORT. The byte memories: a read after a write, and that every operation keeps the canonical form. -/

namespace Sys2Proof.Machine

theorem Memory.read_write_same (d : Byte) (m : Memory) (a : Nat) (v : Byte) (hm : Memory.wf d m = true) :
    Memory.read d (Memory.write d m a v) a = v := by
  have key : ∀ (m : Memory) (b : Nat), Memory.above d b m = true →
      Memory.read d (Memory.write d m a v) a = v ∧ (a ≤ b → Memory.read d m a = d) := by
    intro m
    induction m with
    | nil => intro b _; by_cases h : v = d <;> simp [Memory.write, Memory.read, h]
    | cons p r ih =>
      obtain ⟨j, w⟩ := p
      intro b hb
      simp only [Memory.above, Bool.and_eq_true, decide_eq_true_eq] at hb
      obtain ⟨⟨h1, h2⟩, h3⟩ := hb
      have hr := ih j h3
      constructor
      · by_cases e : j = a
        · subst e
          by_cases h : v = d
          · simpa [Memory.write, h] using hr.2 (Nat.le_refl _)
          · simp [Memory.write, Memory.read, h]
        · by_cases l : a < j
          · by_cases h : v = d
            · simpa [Memory.write, Memory.read, e, l, h] using hr.2 (Nat.le_of_lt l)
            · simp [Memory.write, Memory.read, e, l, h]
          · simpa [Memory.write, Memory.read, e, l] using hr.1
      · intro hab
        have : j ≠ a := by omega
        simpa [Memory.read, this] using hr.2 (by omega)
  cases m with
  | nil => by_cases h : v = d <;> simp [Memory.write, Memory.read, h]
  | cons p r =>
    obtain ⟨j, w⟩ := p
    simp only [Memory.wf, Bool.and_eq_true, decide_eq_true_eq] at hm
    have hr := key r j hm.2
    by_cases e : j = a
    · subst e
      by_cases h : v = d
      · simpa [Memory.write, h] using hr.2 (Nat.le_refl _)
      · simp [Memory.write, Memory.read, h]
    · by_cases l : a < j
      · by_cases h : v = d
        · simpa [Memory.write, Memory.read, e, l, h] using hr.2 (Nat.le_of_lt l)
        · simp [Memory.write, Memory.read, e, l, h]
      · simpa [Memory.write, Memory.read, e, l] using hr.1

theorem Memory.read_write_ne (d : Byte) (m : Memory) {a b : Nat} (v : Byte) (h : b ≠ a) :
    Memory.read d (Memory.write d m a v) b = Memory.read d m b := by
  induction m with
  | nil => by_cases e : v = d <;> simp [Memory.write, Memory.read, e, Ne.symm h]
  | cons p r ih =>
    obtain ⟨j, w⟩ := p
    by_cases e : j = a
    · subst e; by_cases f : v = d <;> simp [Memory.write, Memory.read, f, Ne.symm h]
    · by_cases l : a < j
      · by_cases f : v = d <;> simp [Memory.write, Memory.read, e, l, f, Ne.symm h]
      · simp [Memory.write, Memory.read, e, l, ih]

theorem Memory.above_mono (d : Byte) (m : Memory) {a b : Nat} (h : a ≤ b) (hm : Memory.above d b m = true) :
    Memory.above d a m = true := by
  cases m with
  | nil => rfl
  | cons p r =>
    simp only [Memory.above, Bool.and_eq_true, decide_eq_true_eq] at hm ⊢
    exact ⟨⟨by omega, hm.1.2⟩, hm.2⟩

theorem Memory.above_write (d : Byte) (m : Memory) (a b : Nat) (v : Byte) (h : b < a)
    (hm : Memory.above d b m = true) : Memory.above d b (Memory.write d m a v) = true := by
  induction m generalizing b with
  | nil => by_cases e : v = d <;> simp [Memory.write, Memory.above, e, h]
  | cons p r ih =>
    obtain ⟨j, w⟩ := p
    have hm' := hm
    simp only [Memory.above, Bool.and_eq_true, decide_eq_true_eq] at hm
    by_cases e : j = a
    · subst e
      by_cases f : v = d
      · simpa [Memory.write, f] using Memory.above_mono d r (by omega) hm.2
      · simp [Memory.write, Memory.above, f, h, hm.2]
    · by_cases l : a < j
      · by_cases f : v = d
        · simpa [Memory.write, e, l, f] using hm'
        · simp [Memory.write, Memory.above, e, l, f, h, hm.1.2, hm.2]
      · simp [Memory.write, Memory.above, e, l, hm.1.1, hm.1.2, ih j (by omega) hm.2]

theorem Memory.wf_of_above (d : Byte) (m : Memory) (b : Nat) (h : Memory.above d b m = true) : Memory.wf d m = true := by
  cases m with
  | nil => rfl
  | cons p r =>
    simp only [Memory.above, Memory.wf, Bool.and_eq_true, decide_eq_true_eq] at h ⊢
    exact ⟨h.1.2, h.2⟩

theorem Memory.wf_write (d : Byte) (m : Memory) (a : Nat) (v : Byte) (hm : Memory.wf d m = true) :
    Memory.wf d (Memory.write d m a v) = true := by
  cases m with
  | nil => by_cases e : v = d <;> simp [Memory.write, Memory.wf, Memory.above, e]
  | cons p r =>
    obtain ⟨j, w⟩ := p
    have hm' := hm
    simp only [Memory.wf, Bool.and_eq_true, decide_eq_true_eq] at hm
    by_cases e : j = a
    · subst e
      by_cases f : v = d
      · simpa [Memory.write, f] using Memory.wf_of_above d r _ hm.2
      · simp [Memory.write, Memory.wf, f, hm.2]
    · by_cases l : a < j
      · by_cases f : v = d
        · simpa [Memory.write, e, l, f] using hm'
        · simp [Memory.write, Memory.wf, Memory.above, e, l, f, hm.1, hm.2]
      · simp [Memory.write, Memory.wf, e, l, hm.1, Memory.above_write d r a j v (by omega) hm.2]

theorem Memory.wf_writeBytes (d : Byte) (l : List Byte) (m : Memory) (a : Nat) (hm : Memory.wf d m = true) :
    Memory.wf d (Memory.writeBytes d m a l) = true := by
  induction l generalizing m a with
  | nil => exact hm
  | cons v r ih => exact ih _ _ (Memory.wf_write d m a v hm)

theorem Memory.above_filter (d : Byte) (p : Host.Cell → Bool) (m : Memory) (b : Nat)
    (hm : Memory.above d b m = true) : Memory.above d b (m.filter p) = true := by
  induction m generalizing b with
  | nil => rfl
  | cons c r ih =>
    obtain ⟨j, w⟩ := c
    simp only [Memory.above, Bool.and_eq_true, decide_eq_true_eq] at hm
    by_cases e : p (j, w) = true
    · simp [e, Memory.above, hm.1.1, hm.1.2, ih j hm.2]
    · simp only [List.filter_cons, e]
      exact ih b (Memory.above_mono d r (by omega) hm.2)

theorem Memory.wf_erase (d : Byte) (m : Memory) (a n : Nat) (hm : Memory.wf d m = true) :
    Memory.wf d (Memory.erase m a n) = true := by
  cases m with
  | nil => rfl
  | cons c r =>
    obtain ⟨j, w⟩ := c
    simp only [Memory.wf, Bool.and_eq_true, decide_eq_true_eq] at hm
    have hr := Memory.above_filter d (fun c => decide (c.1 < a) || decide (a + n ≤ c.1)) r j hm.2
    simp only [Memory.erase, List.filter_cons]
    split
    · simp [Memory.wf, hm.1, hr]
    · exact Memory.wf_of_above d _ _ hr

end Sys2Proof.Machine
end

