-- ==== Sys2Proof/Laws/Time.lean ====
section
/-! SUPPORT. What the passing of time changes: the clock, the timebases, the event timer's own scale, the cycle counters, the
captured ToD frames, the integrity sweep, and what is sent outward. -/

namespace Sys2Proof.Machine

variable (s : State)

theorem State.advanceAll_eq (dt : Nat) : s.advanceAll dt = { s with tb := (s.advanceAll dt).tb } := by
  unfold State.advanceAll
  dsimp only
  generalize 800 * (s.clk / 800 - (s.clk - dt) / 800) = run
  generalize List.range 8 = l
  induction l generalizing s with
  | nil => rfl
  | cons n r ih =>
    simp only [List.foldl_cons]
    split
    · exact ih (s.tbUpd n fun b => b.advance run)
    · exact ih s

theorem State.todTakes_eq (l : List Nat) :
    l.foldl (fun s x => if inRanges s.serial.todDone x then s else s.todTake x) s
      = { s with serial := (l.foldl (fun s x => if inRanges s.serial.todDone x then s else s.todTake x) s).serial } := by
  induction l generalizing s with
  | nil => rfl
  | cons x r ih =>
    simp only [List.foldl_cons]
    split
    · exact ih s
    · exact ih (s.todTake x)

theorem State.todCapture_eq : s.todCapture = { s with serial := s.todCapture.serial } := by
  unfold State.todCapture
  dsimp only
  split
  · rw [State.todTakes_eq]
  · rfl

theorem State.after_eq (t : State) (dt : Nat) : ((t.advanceOcxo dt).countCycles dt).todCapture
    = { t with et := (t.advanceOcxo dt).et, progCnt := ((t.advanceOcxo dt).countCycles dt).progCnt,
               serial := ((t.advanceOcxo dt).countCycles dt).todCapture.serial } := State.todCapture_eq _

theorem State.sweepRun_eq : s.sweepRun = { s with ci := s.sweepRun.ci } := by
  unfold State.sweepRun
  split <;> rfl

/-- The passing of time, with what the timebases become held apart. -/
theorem State.elapse_split (dt : Nat) : ∃ tb et pc se ci, s.elapse dt
    = { s with out := [], clk := s.clk + dt, tb := tb, et := et, progCnt := pc, serial := se, ci := ci } := by
  have h1 : s.elapse dt = (((((s.clock dt).advanceAll dt).advanceOcxo dt).countCycles dt).todCapture).sweepRun := by
    rw [State.elapse]
  have h2 := State.advanceAll_eq (s.clock dt) dt
  revert h1 h2
  generalize (s.clock dt).advanceAll dt = a
  intro h1 h2
  rw [h1, State.sweepRun_eq, State.after_eq, h2]
  exact ⟨_, _, _, _, _, rfl⟩

/-! Everything else stays. -/

@[simp] theorem State.elapse_pending (dt : Nat) : (s.elapse dt).pending = s.pending := by
  obtain ⟨_, _, _, _, _, h⟩ := s.elapse_split dt; rw [h]
@[simp] theorem State.elapse_out (dt : Nat) : (s.elapse dt).out = [] := by
  obtain ⟨_, _, _, _, _, h⟩ := s.elapse_split dt; rw [h]
@[simp] theorem State.elapse_clk (dt : Nat) : (s.elapse dt).clk = s.clk + dt := by
  obtain ⟨_, _, _, _, _, h⟩ := s.elapse_split dt; rw [h]
@[simp] theorem State.elapse_drawn (dt : Nat) : (s.elapse dt).drawn = s.drawn := by
  obtain ⟨_, _, _, _, _, h⟩ := s.elapse_split dt; rw [h]
@[simp] theorem State.elapse_regs (dt : Nat) : (s.elapse dt).regs = s.regs := by
  obtain ⟨_, _, _, _, _, h⟩ := s.elapse_split dt; rw [h]
@[simp] theorem State.elapse_ev (dt : Nat) : (s.elapse dt).ev = s.ev := by
  obtain ⟨_, _, _, _, _, h⟩ := s.elapse_split dt; rw [h]
@[simp] theorem State.elapse_sem (dt : Nat) : (s.elapse dt).sem = s.sem := by
  obtain ⟨_, _, _, _, _, h⟩ := s.elapse_split dt; rw [h]
@[simp] theorem State.elapse_ctl (dt : Nat) : (s.elapse dt).ctl = s.ctl := by
  obtain ⟨_, _, _, _, _, h⟩ := s.elapse_split dt; rw [h]
@[simp] theorem State.elapse_replica (dt : Nat) : (s.elapse dt).replica = s.replica := by
  obtain ⟨_, _, _, _, _, h⟩ := s.elapse_split dt; rw [h]
@[simp] theorem State.elapse_pair (dt : Nat) : (s.elapse dt).pair = s.pair := by
  obtain ⟨_, _, _, _, _, h⟩ := s.elapse_split dt; rw [h]
@[simp] theorem State.elapse_snap (dt : Nat) : (s.elapse dt).snap = s.snap := by
  obtain ⟨_, _, _, _, _, h⟩ := s.elapse_split dt; rw [h]
@[simp] theorem State.elapse_hw (dt : Nat) : (s.elapse dt).hw = s.hw := by
  obtain ⟨_, _, _, _, _, h⟩ := s.elapse_split dt; rw [h]
@[simp] theorem State.elapse_pps (dt : Nat) : (s.elapse dt).pps = s.pps := by
  obtain ⟨_, _, _, _, _, h⟩ := s.elapse_split dt; rw [h]
@[simp] theorem State.elapse_slot (dt : Nat) : (s.elapse dt).slot = s.slot := by
  obtain ⟨_, _, _, _, _, h⟩ := s.elapse_split dt; rw [h]
@[simp] theorem State.elapse_dpll (dt : Nat) : (s.elapse dt).dpll = s.dpll := by
  obtain ⟨_, _, _, _, _, h⟩ := s.elapse_split dt; rw [h]
@[simp] theorem State.elapse_tr (dt : Nat) : (s.elapse dt).tr = s.tr := by
  obtain ⟨_, _, _, _, _, h⟩ := s.elapse_split dt; rw [h]
@[simp] theorem State.elapse_pf (dt : Nat) : (s.elapse dt).pf = s.pf := by
  obtain ⟨_, _, _, _, _, h⟩ := s.elapse_split dt; rw [h]
@[simp] theorem State.elapse_fixedCnt (dt : Nat) : (s.elapse dt).fixedCnt = s.fixedCnt := by
  obtain ⟨_, _, _, _, _, h⟩ := s.elapse_split dt; rw [h]
@[simp] theorem State.elapse_bw (dt : Nat) : (s.elapse dt).bw = s.bw := by
  obtain ⟨_, _, _, _, _, h⟩ := s.elapse_split dt; rw [h]
@[simp] theorem State.elapse_sched (dt : Nat) : (s.elapse dt).sched = s.sched := by
  obtain ⟨_, _, _, _, _, h⟩ := s.elapse_split dt; rw [h]
@[simp] theorem State.elapse_sessions (dt : Nat) : (s.elapse dt).sessions = s.sessions := by
  obtain ⟨_, _, _, _, _, h⟩ := s.elapse_split dt; rw [h]
@[simp] theorem State.elapse_ptp (dt : Nat) : (s.elapse dt).ptp = s.ptp := by
  obtain ⟨_, _, _, _, _, h⟩ := s.elapse_split dt; rw [h]
@[simp] theorem State.elapse_admits (dt : Nat) : (s.elapse dt).admits = s.admits := by
  obtain ⟨_, _, _, _, _, h⟩ := s.elapse_split dt; rw [h]
@[simp] theorem State.elapse_fpm (dt : Nat) : (s.elapse dt).fpm = s.fpm := by
  obtain ⟨_, _, _, _, _, h⟩ := s.elapse_split dt; rw [h]
@[simp] theorem State.elapse_lane (dt : Nat) : (s.elapse dt).lane = s.lane := by
  obtain ⟨_, _, _, _, _, h⟩ := s.elapse_split dt; rw [h]
@[simp] theorem State.elapse_subst (dt : Nat) : (s.elapse dt).subst = s.subst := by
  obtain ⟨_, _, _, _, _, h⟩ := s.elapse_split dt; rw [h]
@[simp] theorem State.elapse_waveFrom (dt : Nat) : (s.elapse dt).waveFrom = s.waveFrom := by
  obtain ⟨_, _, _, _, _, h⟩ := s.elapse_split dt; rw [h]
@[simp] theorem State.elapse_port (dt : Nat) : (s.elapse dt).port = s.port := by
  obtain ⟨_, _, _, _, _, h⟩ := s.elapse_split dt; rw [h]
@[simp] theorem State.elapse_police (dt : Nat) : (s.elapse dt).police = s.police := by
  obtain ⟨_, _, _, _, _, h⟩ := s.elapse_split dt; rw [h]
@[simp] theorem State.elapse_policed (dt : Nat) : (s.elapse dt).policed = s.policed := by
  obtain ⟨_, _, _, _, _, h⟩ := s.elapse_split dt; rw [h]
@[simp] theorem State.elapse_cl (dt : Nat) : (s.elapse dt).cl = s.cl := by
  obtain ⟨_, _, _, _, _, h⟩ := s.elapse_split dt; rw [h]
@[simp] theorem State.elapse_fwd (dt : Nat) : (s.elapse dt).fwd = s.fwd := by
  obtain ⟨_, _, _, _, _, h⟩ := s.elapse_split dt; rw [h]
@[simp] theorem State.elapse_fo (dt : Nat) : (s.elapse dt).fo = s.fo := by
  obtain ⟨_, _, _, _, _, h⟩ := s.elapse_split dt; rw [h]
@[simp] theorem State.elapse_sctx (dt : Nat) : (s.elapse dt).sctx = s.sctx := by
  obtain ⟨_, _, _, _, _, h⟩ := s.elapse_split dt; rw [h]
@[simp] theorem State.elapse_us (dt : Nat) : (s.elapse dt).us = s.us := by
  obtain ⟨_, _, _, _, _, h⟩ := s.elapse_split dt; rw [h]
@[simp] theorem State.elapse_nv (dt : Nat) : (s.elapse dt).nv = s.nv := by
  obtain ⟨_, _, _, _, _, h⟩ := s.elapse_split dt; rw [h]
@[simp] theorem State.elapse_nvBad (dt : Nat) : (s.elapse dt).nvBad = s.nvBad := by
  obtain ⟨_, _, _, _, _, h⟩ := s.elapse_split dt; rw [h]
@[simp] theorem State.elapse_nvOp (dt : Nat) : (s.elapse dt).nvOp = s.nvOp := by
  obtain ⟨_, _, _, _, _, h⟩ := s.elapse_split dt; rw [h]
@[simp] theorem State.elapse_nvLast (dt : Nat) : (s.elapse dt).nvLast = s.nvLast := by
  obtain ⟨_, _, _, _, _, h⟩ := s.elapse_split dt; rw [h]
@[simp] theorem State.elapse_bootCfg (dt : Nat) : (s.elapse dt).bootCfg = s.bootCfg := by
  obtain ⟨_, _, _, _, _, h⟩ := s.elapse_split dt; rw [h]
@[simp] theorem State.elapse_flash (dt : Nat) : (s.elapse dt).flash = s.flash := by
  obtain ⟨_, _, _, _, _, h⟩ := s.elapse_split dt; rw [h]
@[simp] theorem State.elapse_csram (dt : Nat) : (s.elapse dt).csram = s.csram := by
  obtain ⟨_, _, _, _, _, h⟩ := s.elapse_split dt; rw [h]
@[simp] theorem State.elapse_apll (dt : Nat) : (s.elapse dt).apll = s.apll := by
  obtain ⟨_, _, _, _, _, h⟩ := s.elapse_split dt; rw [h]
@[simp] theorem State.elapse_clkout (dt : Nat) : (s.elapse dt).clkout = s.clkout := by
  obtain ⟨_, _, _, _, _, h⟩ := s.elapse_split dt; rw [h]
@[simp] theorem State.elapse_gn (dt : Nat) : (s.elapse dt).gn = s.gn := by
  obtain ⟨_, _, _, _, _, h⟩ := s.elapse_split dt; rw [h]
@[simp] theorem State.elapse_tally (dt : Nat) : (s.elapse dt).tally = s.tally := by
  obtain ⟨_, _, _, _, _, h⟩ := s.elapse_split dt; rw [h]
@[simp] theorem State.elapse_agent (dt : Nat) : (s.elapse dt).agent = s.agent := by
  obtain ⟨_, _, _, _, _, h⟩ := s.elapse_split dt; rw [h]
@[simp] theorem State.elapse_degWin (dt : Nat) : (s.elapse dt).degWin = s.degWin := by
  obtain ⟨_, _, _, _, _, h⟩ := s.elapse_split dt; rw [h]
@[simp] theorem State.elapse_polWin (dt : Nat) : (s.elapse dt).polWin = s.polWin := by
  obtain ⟨_, _, _, _, _, h⟩ := s.elapse_split dt; rw [h]
@[simp] theorem State.elapse_cntWin (dt : Nat) : (s.elapse dt).cntWin = s.cntWin := by
  obtain ⟨_, _, _, _, _, h⟩ := s.elapse_split dt; rw [h]
@[simp] theorem State.elapse_pw (dt : Nat) : (s.elapse dt).pw = s.pw := by
  obtain ⟨_, _, _, _, _, h⟩ := s.elapse_split dt; rw [h]
@[simp] theorem State.elapse_cal (dt : Nat) : (s.elapse dt).cal = s.cal := by
  obtain ⟨_, _, _, _, _, h⟩ := s.elapse_split dt; rw [h]
@[simp] theorem State.elapse_hi (dt : Nat) : (s.elapse dt).hi = s.hi := by
  obtain ⟨_, _, _, _, _, h⟩ := s.elapse_split dt; rw [h]
@[simp] theorem State.elapse_waveDie (dt : Nat) : (s.elapse dt).waveDie = s.waveDie := by
  obtain ⟨_, _, _, _, _, h⟩ := s.elapse_split dt; rw [h]

@[simp] theorem State.get_elapse (dt : Nat) (f : Fld) (i j : Nat) : (s.elapse dt).get f i j = s.get f i j :=
  State.get_congr (s.elapse_regs dt) f i j

@[simp] theorem State.on_elapse (dt : Nat) (f : Fld) (i j : Nat) : (s.elapse dt).on f i j = s.on f i j := by
  simp [State.on]

end Sys2Proof.Machine
end

