-- ==== Sys2Proof/Machine/Package.lean ====
section
/-! DEFINITION. The balls of the package: their names, their groups, the lane rule and the power rule (R651 to R654). -/

namespace Sys2Proof.Machine

/-- The letters of row names; no others are used. -/
def rowLetters : List String :=
  ["A", "B", "C", "D", "E", "F", "G", "H", "J", "K", "L", "M", "N", "P", "T", "U", "V", "W", "Y"]

/-- The name of row n, 1 to 52: one letter, then A and one, then B and one (R651). -/
def rowName (n : Nat) : String :=
  (["", "A", "B"].getD ((n - 1) / 19) "") ++ rowLetters.getD ((n - 1) % 19) ""

/-- The groups of balls (R652). -/
inductive BallGroup
  | laneA | laneB | vddaLn | vddhLn | host | gnss | clkIn | clkOut | events | vddA | vddT | vddB | modulesA | modulesB
  deriving DecidableEq, Repr

/-- The group of the ball in a row and a column, each 1 to 52 (R652). -/
def ballGroup (row col : Nat) : BallGroup :=
  if col ≤ 8 then .laneA
  else if 45 ≤ col then .laneB
  else if col ≤ 10 ∨ 43 ≤ col then .vddaLn
  else if col ≤ 12 ∨ 41 ≤ col then .vddhLn
  else if row ≤ 12 then
    if col ≤ 18 then .host else if col ≤ 24 then .gnss else if col ≤ 30 then .clkIn else if col ≤ 36 then .clkOut else .events
  else if 23 ≤ col ∧ col ≤ 30 then .vddT
  else if row ≤ 48 then (if col ≤ 22 then .vddA else .vddB)
  else if col ≤ 22 then .modulesA else .modulesB

/-- The ball of lane l, receive or transmit, p or n, as row and column (R653). -/
def laneBall (l : Nat) (tx n : Bool) : Nat × Nat :=
  let m := l % 30
  let inner := decide (15 ≤ m)
  let colA := (if tx then 5 else 1) + (if inner then 2 else 0)
  (3 * (m % 15) + 3 + (if n then 1 else 0), if l < 30 then colA else 53 - colA)

/-- A ball of a power group carries the group's rail where its row and column sum to an odd number, and `vss` elsewhere
(R654). -/
def carriesRail (row col : Nat) : Bool := (row + col) % 2 == 1

end Sys2Proof.Machine
end

