-- ==== Sys2Proof/WellFormed.lean ====
section
/-! DEFINITION. The operands that a row of the table admits: initiator codes, mailboxes, ports, lanes and the
other numbers within their ranges, and words of 32 bits. -/

namespace Sys2Proof

/-- A number lies below a bound. -/
def below (n k : Nat) : Bool := decide (k < n)

/-- A 32-bit word. -/
def word (w : Nat) : Bool := decide (w < 2 ^ 32)

/-- A code of an initiator: 0, 2 to 8 (R502). -/
def initiator (i : Nat) : Bool := decide (i ≤ 8) && i != 1

/-- A core that serves mailboxes: the pair as 0, C2 and C3 (R458). -/
def serving (c : Nat) : Bool := c == 0 || c == 2 || c == 3

/-- A request: its initiator, mailbox and TAG, and at most 63 argument words (R466, R467). -/
def Req.wf (r : Req) : Bool := initiator r.init && below 16 r.mb && below 256 r.tag && below 64 r.args.length && r.args.all word

/-- A command is well formed. -/
def Instr.wf (c : Instr) : Bool :=
  match c with
  | .registerWrite init addr v | .counterCfgWrite init addr v | .bwCfgWrite init addr v => initiator init && below
    0x1000000 addr && word v
  | .badOpcode op r => below 0x10000 op && r.wf
  | .doorbellRing init mb => initiator init && below 16 mb
  | .requestWrite init mb k v => initiator init && below 16 mb && below 64 k && word v
  | .responseRead init mb k => initiator init && below 16 mb && below 64 k
  | .requestTake _ core | .watchdogExpiry _ core | .coreRestartEnd _ core => serving core
  | .secureQueuePass _ | .lockstepMismatch _ | .powerOn _ | .pinReset _ | .deviceReset _ | .dieReset _ |
    .powerSequencing _ _ | .trimLoad _ _ | .bist _ _ | .firmware _ | .apllBandSearch _ | .laneTraining _ |
    .capabilityExchange _ | .timebases _ | .internalDelayCalibration _ _ _ | .gnss _ | .flowPlacement _ |
    .configurationCrcCheck _ | .startStepTimeout _ | .startRetryReset _ | .dormantEntry _ | .wakePin _ | .keeperAlarm
    _ | .tempSample _ _ _ _ | .tick _ _ | .snapComplete _ | .todFrame _ | .irigFrame _ | .frequencyMonitorUpdate _ _ _
    | .settleWindowEnd _ | .ocxoFail _ | .ocxoWarm _ | .xoLoss _ | .xoReturn _ | .measurementEpoch _ _ |
    .navDataDecoded _ _ _ _ _ _ _ _ | .keptDataRewrite _ | .etResultWrite _ | .trainingWaveOpen _ |
    .degradationWindowEnd _ | .flowReplace _ | .policerWindow _ | .epochActivation _ | .epochDrained _ | .maxResExpiry
    _ | .resyncEnd _ | .compareSend _ | .compareReceived _ _ _ _ _ _ _ _ _ | .itemExpiry _ | .timeCompare _ |
    .judgeReceived _ _ _ _ _ | .judgeTimeout _ | .roleSend _ | .roleReceived _ _ _ _ _ _ _ | .roleInFall _ |
    .roleInLowTimeout _ | .roleContention _ _ | .plannedHandover _ | .handoverAnswerTimeout _ | .alignOk _ |
    .recoveryEnd _ | .selfTest _ _ _ _ _ _ | .sweepPassEnd _ | .cntThresh _ | .tallyDma _ | .calTargetDone _ _ _ |
    .calRunEnd _ | .calApply _ | .calRefLoss _ _ _ | .pcieLink _ _ _ _ | .m0FrameArrival _ _ | .m0Read _ | .m0Write _
    | .i2cStatus | .i2cDevId | .i2cNodeId | .i2cModeState | .i2cPwrState | .i2cTemp | .i2cTime | .i2cEvents |
    .i2cReset _ | .uartStatus _ | .uartTemp _ | .uartVer _ | .uartHelp _ | .uartUnknownLine _ | .tapReset |
    .jtagIdcode | .dbgUnlock _ _ _ | .ocxoActivityReturn _ _ | .ocxoWarmPinFall _ | .vddUsLoss _ | .timeRecordSave _ |
    .nvOperationEnd _ _ => true
  | .sysInfo r | .sysNodeId r | .sysCoreStatus r | .sysWdtCfg r | .sysBootCfg r | .sysCfgLoad r | .sysEcho r |
    .nvmStatus r | .nvmRead r | .nvmErase r | .nvmWrite r | .nvmVerify r | .pwrStatus r | .pwrState r | .pwrMode r |
    .pwrReset r | .pwrStartCfg r | .timeStatus r | .timeTbCfg r | .timeSet r | .timeAdjPhase r | .timeAdjFreq r |
    .timeUtc r | .timeDomainMap r | .timePair r | .timeCmp r | .timePps r | .timeSerial r | .timePtpPort r |
    .timeSessStatus r | .timeNpx r | .refStatus r | .refSlotStatus r | .refSlotCfg r | .refDpllCfg r | .refPrio r |
    .refGlobal r | .refOcxo r | .refForce r | .refSwLoop r | .refSwRead r | .refSwWrite r | .synStatus r | .synApllCfg
    r | .synOutCfg r | .synCommit r | .synPhase r | .gnssStatus r | .gnssInputCfg r | .gnssTimingCfg r | .gnssTrustCfg
    r | .gnssRead r | .gnssSleep r | .gnssFeSpi r | .evtStatus r | .evtCfg r | .evtInputCfg r | .evtRead r |
    .laneStatus r | .laneCfg r | .laneRestart r | .laneSpare r | .laneTest r | .laneInject r | .laneGroveCfg r |
    .portStatus r | .portCfg r | .portDownCfg r | .portFc r | .portModule r | .portPolice r | .fwdStatus r | .fwdWrite
    r | .fwdRead r | .fwdCommit r | .fwdDiscard r | .fwdBufCfg r | .fwdEpochCfg r | .schedStatus r | .schedPortCfg r |
    .schedQueueCfg r | .schedWrite r | .schedRead r | .schedBankCfg r | .schedCommit r | .schedCopy r | .flowStatus r
    | .flowPortCfg r | .flowPlace r | .flowPin r | .flowRemove r | .flowCommit r | .flowDiscard r | .flowQuery r |
    .flowCfg r | .redStatus r | .redCtxCfg r | .redCtxStatus r | .redCtxReset r | .redPairCfg r | .redRole r |
    .redHealth r | .redLoopBreak r | .secStatus r | .secBlockWorld r | .secRegionWorld r | .secPartWorld r | .secLock
    r | .secCrcCommit r | .secViolRead r | .secWindow r | .secDebugUnlock r | .telStatus r | .telCounterCfg r |
    .telRead r | .telWindowCfg r | .telTallyCfg r | .telTallyRead r | .telEventCfg r | .calStatus r | .calRun r |
    .calResult r | .calRecordWrite r | .calRecordRead r | .calLinkRecord r => r.wf
  | .csramDbe _ core region _ => serving core && below 32 region
  | .wdtKick init core => initiator init && serving core
  | .semAcquire init n lease => initiator init && below 128 n && below 1024 lease
  | .semRelease init n => initiator init && below 128 n
  | .semLeaseExpiry _ n => below 64 n
  | .supplyWarn _ rail | .supplyReturn _ rail => below 8 rail
  | .heartwoodPulse _ die tb _ => below 2 die && below 8 tb
  | .pairOffsetSample _ k | .domainSwitch _ k => below 4 k
  | .pairSwitchWrite init k => initiator init && below 4 k
  | .leapApplied _ tb => below 8 tb
  | .freqHiWrite init tb v => initiator init && below 8 tb && word v
  | .cmpArm init m w => initiator init && below 32 m && word w
  | .cmpFire _ m => below 32 m
  | .snapCapture init w | .tblRead init w | .tblWrite init w | .tblDelete init w | .tblFind init w | .slotEntryRead
    init w | .slotEntryWrite init w | .ctxRead init w | .ctxWrite init w => initiator init && word w
  | .ppsPulse _ n | .ppsPulseEnd _ n => below 4 n
  | .activityLoss _ slot | .activityReturn _ slot _ | .wtrExpiry _ slot => below 16 slot
  | .disputeResolution _ n a b | .disputeClear _ n a b => below 8 n && below 16 a && below 16 b
  | .switchTimeElapsed _ n | .swloopTimeout _ n | .hoqChange _ n | .modelValid _ n | .ocxoRecordWrite _ n _ _ _ =>
    below 8 n
  | .feedEstimate init slot v => initiator init && below 16 slot && word v
  | .swFreqWrite init n v => initiator init && below 8 n && word v
  | .bandSearchEnd _ a band => below 4 a && below 32 band
  | .apllLock _ a | .apllLol _ a | .outputRestart _ a | .apllCommitActivation _ a | .phofsMoveDone _ a => below 4 a
  | .apllCommitNext init a | .apllCommitTarget init a | .apllCommitCancel init a => initiator init && below 4 a
  | .sampleClockLoss _ x | .clockPhaseMeasure _ x _ | .spectrumMonitor _ x _ _ _ | .sampleClockReturn _ x |
    .signalAcquisition _ x _ _ _ _ | .lossOfTracking _ x _ _ => below 2 x
  | .gnssSolution _ ant _ | .trustHoldExpiry _ ant | .gnssSurvey _ ant _ _ _ => below 2 ant
  | .notchRelease _ x k => below 2 x && below 4 k
  | .gnssFifoPop init _ | .etFifoPop init | .violLogClear init | .evrecPop init _ => initiator init
  | .eventEdge _ inp _ _ | .intervalTimeout _ inp | .pairWindowExpiry _ inp | .gateEnd _ inp => below 16 inp
  | .partnerSignal _ l | .trainingComplete _ l _ _ _ | .cacheLockTimeout _ l | .trainToExpiry _ l | .failIdleEnd _ l |
    .lockReached _ l | .lockTimeout _ l | .laneLoss _ l | .cacheHoldExpiry _ l | .phaseBeacon _ l | .rateMatchMeasure
    _ l _ | .elasticOverflow _ l | .fpmValid _ l | .partnerIdleChange _ l _ => below 60 l
  | .helloReceived _ l _ _ _ _ port => below 60 l && below 256 port
  | .capexTimeout _ p | .helloSend _ p | .idleEntry _ p | .idleExit _ p | .causeAppears _ p | .causeClears _ p |
    .holdTimeExpiry _ p | .degradation _ p _ _ _ _ | .replaceDelayExpiry _ p | .pauseFrame _ p _ _ |
    .pauseQuantaExpiry _ p | .headerReceived _ p _ _ _ | .cellArrival _ p _ | .frameEnd _ p _ _ | .schedulerDecision _
    p _ _ | .transmitEnd _ p | .slotEdge _ p | .wakeLead _ p | .bankActivation _ p | .bwWindowEnd _ p | .bwPeriodEnd _
    p => below 48 p
  | .subReq _ p pos => below 48 p && below 4 pos
  | .subAck _ g | .subNak _ g | .subAckTimeout _ g | .spareSwitch _ g | .subDone _ g | .subRel _ g |
    .substitutionTimeout _ g | .presenceChange _ g _ => below 12 g
  | .injectOne init l => initiator init && below 60 l
  | .trapDelivery _ die => below 2 die
  | .bankAccess _ k _ _ _ _ p c => below 64 k && below 48 p && below 8 c
  | .scheduleStop init p w => initiator init && below 48 p && word w
  | .announce _ p dom _ _ _ _ _ | .sessionHoldExpiry _ p dom | .capTlv _ p dom _ _ _ _ _ _ _ _ _ | .phaseTlv _ p dom _
    _ _ _ _ _ _ _ | .probeTimeout _ p dom | .phaseTimeout _ p dom | .capSend _ p dom | .phaseSend _ p dom => below 48
    p && below 256 dom
  | .delayReq _ p dom _ _ _ _ _ port _ => below 48 p && below 256 dom && below 0x10000 port
  | .twoWayExchange _ p dom _ _ _ _ sq2 _ _ _ => below 48 p && below 256 dom && below 4096 sq2
  | .ptpMessageSend _ p dom _ flags => below 48 p && below 256 dom && below 256 flags
  | .fpmReading _ l code => below 60 l && below 4096 code
  | .resetTimeout _ n | .latentTest _ n | .latReset _ n => below 8192 n
  | .cfgLockWrite init which => initiator init && below 2 which
  | .counterLoRead init off => initiator init && below 0xB000 off
  | .latchedLoRead init addr => initiator init && below 0x1000000 addr
  | .evStatusClear init k v => initiator init && below 4 k && word v
  | .swevt init v => initiator init && word v
  | .nvSlotRead init slot | .nvSlotWrite init slot | .nvSlotErase init slot => initiator init && below 1024 slot
  | .pcieFlr _ f => below 2 f
  | .m0Link _ speed _ => below 3 speed
  | .i2cMbWrite off _ _ => below 0x10000 off
  | .i2cMbRead off n => below 0x10000 off && below 256 n
  | .i2cSemWrite n cmd lease _ => below 256 n && below 4 cmd && below 1024 lease
  | .i2cSemRead n => below 256 n
  | .i2cUnknownCommand c => below 256 c
  | .uartByte _ b => below 256 b
  | .jtagBypass code bit => below 256 code && below 2 bit
  | .jtagSamplePreload v | .jtagExtest v | .jtagClamp v | .jtagHighz v => word v
  | .dbgRead addr => below 0x1000000 addr
  | .dbgWrite addr v => below 0x1000000 addr && word v
  | .pcieConfigWrite f vmask _ _ _ => below 2 f && word vmask

end Sys2Proof
end

