-- ==== Sys2Proof/Tests/Slice0.lean ====
section
/-! SUPPORT. Tests: ill-formed commands refused by their checks, values worked out by hand from the spec, and, for every statement
with conditions, a case that meets them. -/

open Sys2Proof Sys2Proof.Machine

namespace Sys2Proof.Tests

set_option Elab.async false

/-! ### The package -/

/-- Row names at the ends of the three sets of R651, and the balls of R653 at the corners of both lane fields. -/
theorem test_ball_names : (rowName 1, rowName 19, rowName 20, rowName 38, rowName 39, rowName 52) = ("A", "Y", "AA", "AY", "BA", "BP")
    ∧ laneBall 0 false false = (3, 1) ∧ laneBall 29 true true = (46, 7) ∧ laneBall 30 false true = (4, 52)
    ∧ laneBall 59 true false = (45, 46) := by decide

/-! ### Small states -/

/-- The reset state with a mode entered and no start running, and the cores ready. -/
def inMode (m : Nat) : State :=
  State.reset.writes [{ f := R.MODE_STATE_MODE, v := m }, { f := R.MODE_STATE_START_RUN, v := 0 }, { f := R.MB_STATUS_FW_READY, v := 1 },
    { f := R.MB_STATUS_C2_READY, v := 1 }, { f := R.MB_STATUS_C3_READY, v := 1 }]

/-- A device in SERVICE with its firmware ready. -/
def ready : State := inMode 2

/-- The cores run and their watchdogs count. -/
def running : State := ((ready.coreUp 0).coreUp 2).coreUp 3

/-- A start, warm or cold, runs a step. -/
def atStep (k warm : Nat) : State :=
  State.reset.writes [{ f := R.MODE_STATE_STEP, v := k }, { f := R.MODE_STATE_START_KIND, v := warm }]

/-- The work of the step in hand is begun. -/
def begun (s : State) : State := s.beganStep

/-- What `Served` asks as a check. -/
def servedCheck (s : State) (cmd : Cmd) (r : Req) : Bool :=
  decide (r.mb < 16) && (decide (8 ≤ r.mb) || s.initSecure r.init) && !s.mbBusy r.mb && (s.rung cmd.op r).servesNow r.mb
  && (!((s.rung cmd.op r).holdMb r.mb).needsPair r.mb (some cmd) || ((s.rung cmd.op r).holdMb r.mb).pairFree)
  && r.args.all (fun w => decide (w < 2 ^ 32)) && decide (r.args.length ≤ 63) && decide (cmd.need ≤ r.args.length)
  && (cmd.any || decide (r.mb < 8)) && (!(s.asked cmd r).on R.MODE_STATE_ROM_ONLY || romOps.contains cmd.op)
  && cmd.mode (s.asked cmd r) && (!cmd.acts || !(s.asked cmd r).asleep (cmd.entry r.args))

theorem served_of_check {s : State} {cmd : Cmd} {r : Req} (h : servedCheck s cmd r = true) : Served s cmd r := by
  simp only [servedCheck, Bool.and_eq_true, Bool.or_eq_true, decide_eq_true_eq, Bool.not_eq_true', List.all_eq_true] at h
  obtain ⟨⟨⟨⟨⟨⟨⟨⟨⟨⟨⟨h1, h2⟩, h3⟩, h4⟩, h5⟩, h6⟩, h7⟩, h8⟩, h9⟩, h10⟩, h11⟩, h12⟩ := h
  exact ⟨h1, fun h => h2.resolve_left (by omega), h3, h4, fun h => h5.resolve_left (by simp [h]), h6, h7, h8, h9, h10, h11,
    fun h => h12.resolve_left (by simp [h])⟩

/-- Some state and request meet the conditions of a mailbox command's statement. -/
def Meets (cmd : Cmd) (pre : Ctx → State → Prop) : Prop := ∃ s r, Served s cmd r ∧ pre (ctxOf r) (s.asked cmd r)

theorem meets {cmd : Cmd} {pre : Ctx → State → Prop} (s : State) (r : Req) (h : servedCheck s cmd r = true)
    (hp : pre (ctxOf r) (s.asked cmd r)) : Meets cmd pre := ⟨s, r, served_of_check h, hp⟩

/-- The state with bytes in its flash. -/
def withFlash (s : State) (a : Nat) (l : List Byte) : State := { s with flash := Memory.writeBytes flashBlank s.flash a l }

/-- A device that takes configurations unsigned and whose slot 0 holds an image of one request, SYS.ECHO of one word. -/
def imaged : State :=
  withFlash (withFlash { ready with bootCfg := { ready.bootCfg with signed := false } } 0x800000 (leBytes 4 0x4B5A494D ++ [1, 2] ++ leBytes 2 0 ++ leBytes 4 9 ++ leBytes 4 12
    ++ leBytes 4 0x928ec4a3)) 0x800100 (leBytes 4 2 ++ leBytes 4 0x00010107 ++ leBytes 4 5)

/-- Timebase 1 runs with the host as its source, steps being allowed. -/
def tbState : State :=
  ready.writes [{ f := R.HW_TBn_CTRL_EN, i := 1, v := 1 }, { f := R.HW_TBn_CTRL_SRC, i := 1, v := 1 }, { f := R.HW_TBn_CTRL_STEP_ALLOW, i := 1, v := 1 }]

/-- A session of domain 5 is open on port 2. -/
def withSession : State := { tbState.set R.HW_DOMMAPj_MAP (9 * 2 ^ 20) with sessions := [(sessKey 2 5, { role := 1, peer := 3 })] }

/-- Slot 0 is a candidate for DPLL 0. -/
def slotCandidate : State :=
  (ready.writes [{ f := R.TR_SLOTs_CFG_EN, v := 1 }, { f := R.TR_SLOTs_STAT_QUALIFIED, v := 1 },
    { f := R.TR_DPLLn_PRIO_LO_PRIO, v := 0xFFFFFFF1 }]).takePrio

/-- Port 1 is enabled on lane 1, which is ACTIVE, and its partner's HELLO offers a wired and accepted spare. -/
def linkUp : State :=
  { ready.writes [{ f := R.LN_GRVg_CFG_SPARE_WIRED, v := 1 }, { f := R.PT_CFGp_EN, i := 1, v := 1 }, { f := R.PT_CFGp_MODE, i := 1, v := 1 },
      { f := R.LN_Ll_STAT_STATE, i := 1, v := 5 }, { f := R.PT_STATp_STATE, i := 1, v := 2 }]
    with lane := [(1, { hello := some { flags := 6, node := 2, port := 7 } })] }

/-- The spare of grove 0 stands in for lane 1 of port 1. -/
def substituted : State := { linkUp.set R.LN_GRVg_STAT_SUB_STATE 3 with subst := [(0, { port := 1 })] }

/-- A device in MAINTENANCE with the spare lane 4 in TEST. -/
def calibrating : State := (inMode 5).set R.LN_Ll_STAT_STATE 6 4

/-- The shadow of the L2 table holds an entry. -/
def withStation : State := ready.doPlan 0 (ready.plan 0 1 0 [1, 2 ^ 31 + 0x10000, 0])

/-- Timebase 1 runs, port 1 schedules on it, and its bank 1 holds a cycle of one entry. -/
def bankReady : State :=
  (tbState.writes [{ f := R.SC_Pp_CFG_TB, i := 1, v := 1 }, { f := R.SC_Pp_CYCx_CYCLE, i := 1, j := 1, v := 62500 },
    { f := R.SC_Pp_NUMx_NUM, i := 1, j := 1, v := 1 }]).putEntries 1 1 0 [(0, 0xFF)]

/-- Ports 0 and 1 are enabled, and port 1 is managed with a cycle of 1 ms on timebase 1. -/
def managedState : State :=
  tbState.writes [{ f := R.PT_CFGp_EN, v := 1 }, { f := R.PT_CFGp_MODE, v := 1 }, { f := R.PT_CFGp_EN, i := 1, v := 1 },
    { f := R.PT_CFGp_MODE, i := 1, v := 1 }, { f := R.PT_STATp_STATE, i := 1, v := 2 }, { f := R.SC_Pp_CFG_TB, i := 1, v := 1 },
    { f := R.FO_PORTp_CFG_MANAGED, i := 1, v := 1 }]

/-- The context of a command from MB00 with some argument words. -/
def ctxArgs (l : List Nat) : Ctx := ctxOf { init := 4, mb := 0, tag := 0, args := l }

/-- A request of FLOW.PLACE: flow 3 from port 0 to port 1, one frame of 64 bytes each 1000 µs. -/
def flowWords : List Nat := [3 + 5 * 2 ^ 22, 2, 0, 1000, 64, 1000000, 1000, 0, 10, 1, 2, 3, 4, 5, 6, 7, 8, 9, 10]

/-- Flow 3 is placed. -/
def flowPlaced : State := match managedState.placed (flowOf (ctxArgs flowWords)) with
  | some (g, t) => t.stage (insertFlow g t.fo.work) g.ports
  | none => managedState

/-- The holder of the clock-output role, whose partner is armed. -/
def roleHolder : State :=
  let s := ready.writes [{ f := R.RD_PAIR_STAT_LINK_UP, v := 1 }, { f := R.RD_ROLE_STAT_HOLD, v := 1 }]
  { s with agent := { s.agent with role := some { state := 2, request := 0, instant := 0, health := 0, alignErr := 0, at_ := 0 } } }

/-- The trim store holds a record of type 0x15. -/
def withRecord : State := match ready.nvPut 0x15 0 none [1, 2] with
  | some (_, t) => t
  | none => ready

/-- A frame of class 7 for port 1. -/
def frameOne : Frame :=
  { bytes := List.replicate 64 0, port := 0, res := { kind := 2, cls := 7, ports := [1] }, cells := [], line := {}, own := {}, left := [1] }

/-- It waits at port 1. -/
def queued : State := { linkUp with cl := { linkUp.cl with frames := [(0, frameOne)], next := 1, queues := [(15, [0])] } }

/-- Both GNSS inputs run with their sample clocks, each tracking the first signal of its band. -/
def receiving : State :=
  tbState.writes [{ f := R.GN_INx_CFG_EN, v := 1 }, { f := R.GN_INx_CFG_EN, i := 1, v := 1 }, { f := R.GN_INx_STAT_CLK_OK, v := 1 },
    { f := R.GN_INx_STAT_CLK_OK, i := 1, v := 1 }, { f := R.GN_INx_CFG_SIGEN, v := 7 }, { f := R.GN_INx_CFG_SIGEN, i := 1, v := 7 },
    { f := R.GN_CFG_TB, v := 1 }]

/-- A channel. -/
def chanOf (k : Nat) : Chan := { ch := k, input := 0, sig := 0, svid := k, elev := 40, since := 0 }

/-- The receiver with a record of its internal delay in the band of an input. -/
def withDelay (x : Nat) : State := match receiving.nvPut 0x15 (receiving.bandOf x) none [0] with
  | some (_, t) => t
  | none => receiving

/-- A session of domain 5 on port 2, which is a slave of that domain, at a later clock. -/
def sessionOf (x : Session) : State :=
  { tbState.set R.HW_DOMMAPj_MAP (9 * 2 ^ 20) with
    sessions := [(sessKey 2 5, x)], clk := 10 ^ 14
    ptp := [(sessKey 2 5, { role := 2, delay := 0, transport := 0, syncLog := 0, dreqLog := 0, annLog := 0, hold := 10 })] }

/-- The pair agent of this member runs with some data of its own, at a later clock, with `pair_role_in` low. -/
def paired (a : Agent) : State :=
  { ready.writes [{ f := R.RD_PAIR_CFG_EN, v := 1 }, { f := R.RD_PAIR_STAT_LINK_UP, v := 1 }, { f := R.RD_ROLE_STAT_ROLE_IN, v := 0 }] with
    agent := a, clk := 10 ^ 14 }

/-! ### Ill-formed commands -/

/-- An initiator code that R502 does not give, and one above the last. -/
theorem test_wf_initiator : (Instr.doorbellRing 1 3).wf = false ∧ (Instr.doorbellRing 9 3).wf = false := by decide

/-- A mailbox of sixteen and a word of a request area of 64. -/
theorem test_wf_below : (Instr.doorbellRing 4 16).wf = false ∧ (Instr.requestWrite 4 0 64 0).wf = false := by decide

/-- A data word of 33 bits. -/
theorem test_wf_word : (Instr.registerWrite 4 0 (2 ^ 32)).wf = false := by decide

/-- C1 serves no mailbox. -/
theorem test_wf_serving : (Instr.requestTake 0 1).wf = false ∧ (Instr.requestTake 0 3).wf = true := by decide

/-- Every part of a request: its initiator, its mailbox, its TAG, the number of its words and each word. -/
theorem test_wf_request :
    Req.wf { init := 1, mb := 0, tag := 0, args := [] } = false ∧ Req.wf { init := 4, mb := 16, tag := 0, args := [] } = false
    ∧ Req.wf { init := 4, mb := 0, tag := 256, args := [] } = false
    ∧ Req.wf { init := 4, mb := 0, tag := 0, args := List.replicate 64 0 } = false
    ∧ Req.wf { init := 4, mb := 0, tag := 0, args := [2 ^ 32] } = false
    ∧ Req.wf { init := 4, mb := 15, tag := 255, args := [2 ^ 32 - 1] } = true := by decide

/-! ### Values of the spec's worked examples -/

/-- Locating a port (spec/01): P29 is on L36, and the spare of its grove is L39. -/
theorem test_locating_a_port : laneOf 29 = 36 ∧ spareOf 7 = 39 := by decide

/-- The check value of CRC-32C over the digits 1 to 9. -/
theorem test_crc32c : crc32c [0x31, 0x32, 0x33, 0x34, 0x35, 0x36, 0x37, 0x38, 0x39] = 0xE3069283 := by decide +kernel

/-- A compare across the wrap (spec/02): the distance is 65,536,000 units ahead, and 13,107,200,000 units behind. -/
theorem test_compare_across_the_wrap :
    linDist 0x0000000001680000 0xFFFFFFFFFD800000 = 65536000
    ∧ linDist (0xFFFFFFFFFD800000 - 200000 * 65536) 0xFFFFFFFFFD800000 = -13107200000 := by decide

/-- The state after a command. -/
def after (o : Host.Outcome State Fault Refusal) : State := match o with
  | .next t => t
  | _ => State.reset

/-- Requests before firmware is ready (spec/14), step 1: MB03 becomes BUSY with REQ_SEQ 1 and PEND_NR 1. -/
theorem test_request_before_firmware :
    let t := after (exec (.timeStatus { init := 4, mb := 3, tag := 0x21, args := [0] }) State.reset)
    t.get R.MB_n_STATE_STATE 3 = 1 ∧ t.get R.MB_n_SEQ_REQ_SEQ 3 = 1 ∧ t.get R.MB_n_STATE_PEND_NR 3 = 1 := by decide +kernel

/-- The same example, step 2: a second request to a BUSY mailbox is lost, its words and its doorbell. -/
theorem test_second_request_lost :
    let t := after (exec (.timeStatus { init := 4, mb := 3, tag := 0x22, args := [0] }) (State.reset.set R.MB_n_STATE_STATE 1 3))
    t.get R.MB_n_STATE_REQ_WR_LOST 3 = 1 ∧ t.get R.MB_n_STATE_DOOR_LOST 3 = 1 ∧ t.get R.MB_n_SEQ_REQ_SEQ 3 = 0 := by
  decide +kernel

/-- A locked write through the window (spec/15), step 1: logged as KIND 1, INIT 4, SPACE 1, TARGET 29, a write; no field changes. -/
theorem test_locked_write :
    let t := after (exec (.registerWrite 4 0x618000 1) ((ready.set R.CFG_LOCK_S_LOCK 1).set R.FB_CFG_WIN_EN 1))
    [t.get R.FB_VIOLn_INFO_KIND 0, t.get R.FB_VIOLn_INFO_INIT 0, t.get R.FB_VIOLn_INFO_SPACE 0,
      t.get R.FB_VIOLn_INFO_TARGET 0, t.get R.FB_VIOLn_INFO_ACC 0] = [1, 4, 1, 29, 1]
    ∧ t.word R.TR_GLOBAL_CFG = State.reset.word R.TR_GLOBAL_CFG := by decide +kernel

/-- The ninth violation leaves the integrity registers as they are (R509, R519, R520). -/
theorem test_ninth_violation :
    let t := (ready.set R.FB_VIOL_STAT_COUNT 8).refuseAccess 4 .internal 29 4 false 1 0x618004
    t.word R.CI_CRC_REF = 0 ∧ t.word R.CI_STAT = 0 ∧ t.get R.FB_VIOLn_ADDR_ADDR 8 = 0x618004 := by decide +kernel

/-- A clear that meets a raise (spec/16), step 4: writing 4 to EV_STATUS1 clears EV034 and leaves EV035. -/
theorem test_clear_one_event :
    (after (exec (.evStatusClear 4 1 4) (ready.set R.EV_STATUSi_STATUS 12 1))).get R.EV_STATUSi_STATUS 1 = 8 := by decide +kernel

/-- One exchange over 20 km (spec/03): theta is -4,021.75 ps and the mean path delay 98,000,000 ps, here in 2^-16 ns with the
rounding of the four stamps. -/
theorem test_exchange_over_20_km :
    let e := (after (exec (.twoWayExchange 0 2 0 32768002622308 32774425746898 32781113176801 32787535108210 0 0 true true)
      { ready with sessions := [(sessKey 2 0, { role := 2, link := some (4200, 133500, 1) })] })).sess? (sessKey 2 0)
    e.map Session.mpd = some 6422527999 ∧ ((e.map Session.theta).getD 0 + 263569).natAbs ≤ 2 := by decide +kernel

/-- Bank 17 parked on WR04 (spec/10). -/
def bank17 (rank : List Nat) (park : Nat) : State :=
  let s := ready.set R.CL_BANKk_STAT_PARK park 17
  { s with cl := { s.cl with arbs := [(17, { (s.arbOf 17) with rank := rank })] } }

/-- Parking on bank 17, cycle 1: WR04 alone is served without a turnaround; cycle 2: RD07 (19) ranks higher and wins. -/
theorem test_bank_rotation :
    let a (r : List Nat) : Arb := (after (exec (.bankAccess 0 17 r false false 0 0 0) (bank17 [19, 24, 4] 4))).arbOf 17
    (a [4]).free = 400 ∧ (a [4]).rank = [19, 24, 4] ∧ (a [4, 19]).free = 800 ∧ (a [4, 19]).rank = [24, 4, 19] := by
  decide +kernel

/-- The ports of the dual-path flow (spec/12): P05, P10 and P30 up in mode 5 and managed, P12 down. -/
def dualPorts : State :=
  tbState.writes ([5, 10, 12, 30].flatMap fun p => [{ f := R.PT_CFGp_EN, i := p, v := 1 }, { f := R.PT_CFGp_MODE, i := p, v := 5 },
    { f := R.PT_STATp_STATE, i := p, v := if p = 12 then 0 else 2 }, { f := R.SC_Pp_CFG_TB, i := p, v := 1 },
    { f := R.FO_PORTp_CFG_MANAGED, i := p, v := 1 }])

/-- Flow 0x0200 of that example, which holds [4,000, 4,176) on P05. -/
def flow200 : Flow :=
  { id := 0x200, inport := 10, cls := 6, red := 0, tally := false, ktype := 1, egress := [5], period := 250, size := 1000, lat := 5000
    jit := 100, release := 3128, rjit := 300, key := [1], subs := [(5, 500, 22)] }

/-- Flow 0x0210 of that example, before it is placed. -/
def flow210 (jit : Nat) : Flow :=
  { id := 0x210, inport := 10, cls := 6, red := 1, tally := false, ktype := 1, egress := [5, 12, 30], period := 250, size := 300
    lat := 5000, jit := jit, release := 1000, rjit := 200, key := [2] }

/-- A dual-path flow (spec/12), with the sub-windows at 4,176 on P05 and at 4,000 on P30: LAT_WC is 3,570 ns and JIT_WC 189 ns, and flow 0x0200's jitter becomes 77 ns. -/
theorem test_dual_path_latency :
    let g := { flow210 200 with subs := [(5, 522, 8), (30, 500, 8)] }
    dualPorts.worst (insertFlow g [flow200]) g = (3570, 189) ∧ (dualPorts.worst (insertFlow g [flow200]) flow200).2 = 77 := by
  decide +kernel

/-! ### The conditions of the statements are met -/

/-- The conditions of `Obligations.StepRunsFrontCommand` are met. -/
theorem test_meets_StepRunsFrontCommand :
    ∃ (s : State) (c : Instr) (rest : List Instr), s.pending = c :: rest :=
  ⟨{ ready with pending := [.doorbellRing 4 3] }, _, _, rfl⟩

/-- The conditions of `Obligations.StepIdlesOnEmptyQueue` are met. -/
theorem test_meets_StepIdlesOnEmptyQueue :
    ∃ s : State, s.pending = [] :=
  ⟨ready, rfl⟩

/-- The conditions of `Obligations.StepKeepsMemoriesCanonical` are met. -/
theorem test_meets_StepKeepsMemoriesCanonical :
    ∃ s t : State, s.memOk = true ∧ step s = .next t :=
  ⟨{ imaged with pending := [.doorbellRing 4 3] }, _, by decide +kernel +kernel, rfl⟩

/-- The conditions of `Obligations.OnlyTheseCommandsChangeMemory` are met. -/
theorem test_meets_OnlyTheseCommandsChangeMemory :
    ∃ (c : Instr) (s t : State), mayStore c = false ∧ exec c s = .next t :=
  ⟨.doorbellRing 4 3, imaged, _, rfl, rfl⟩

/-- The conditions of `Obligations.MemoryReadsWhatWasWritten` are met. -/
theorem test_meets_MemoryReadsWhatWasWritten :
    ∃ (d : Byte) (m : Memory), Memory.wf d m = true :=
  ⟨flashBlank, [(0, 5), (7, 0)], by decide +kernel⟩

/-- The conditions of `Obligations.FlashWritesAndErasesStoreTheirRange` are met, each clause by a case of its own. -/
theorem test_meets_FlashWritesAndErasesStoreTheirRange :
    (∃ (s t : State) (r : Req) (b : Nat), r.args.length ≤ 63 ∧ (∀ w ∈ r.args, w < 2 ^ 32) ∧ exec (.nvmErase r) s = .next t
      ∧ (b < (ctxOf r).arg 1 ∨ (ctxOf r).arg 1 + (if (ctxOf r).bit 2 0 then 65536 else 4096) ≤ b))
    ∧ (∃ (s t : State) (r : Req) (b : Nat), r.args.length ≤ 63 ∧ (∀ w ∈ r.args, w < 2 ^ 32) ∧ exec (.nvmWrite r) s = .next t
      ∧ (b < (ctxOf r).arg 1 ∨ (ctxOf r).arg 1 + (ctxOf r).bits 2 7 0 ≤ b))
    ∧ (∃ (s : State) (r : Req), Served s cmdNvmErase r ∧ (ctxOf r).arg 1 % (if (ctxOf r).bit 2 0 then 65536 else 4096) = 0
      ∧ inFlash ((ctxOf r).arg 1) (if (ctxOf r).bit 2 0 then 65536 else 4096) = true
      ∧ (s.asked cmdNvmErase r).nvmProtected ((ctxOf r).arg 1) (if (ctxOf r).bit 2 0 then 65536 else 4096) = false)
    ∧ (∃ (s : State) (r : Req), Served s cmdNvmWrite r ∧ s.memOk = true ∧ 1 ≤ (ctxOf r).bits 2 7 0 ∧ (ctxOf r).bits 2 7 0 ≤
        240
      ∧ (ctxOf r).arg 1 % 256 + (ctxOf r).bits 2 7 0 ≤ 256 ∧ inFlash ((ctxOf r).arg 1) ((ctxOf r).bits 2 7 0) = true
      ∧ 2 + ((ctxOf r).bits 2 7 0 + 3) / 4 ≤ r.args.length
      ∧ (s.asked cmdNvmWrite r).nvmProtected ((ctxOf r).arg 1) ((ctxOf r).bits 2 7 0) = false
      ∧ ∀ k, k < (ctxOf r).bits 2 7 0 → Memory.read flashBlank s.flash ((ctxOf r).arg 1 + k) = flashBlank) :=
  ⟨⟨ready, _, { init := 4, mb := 0, tag := 7, args := [0x400000, 1] }, 0x410000, by decide +kernel, by decide +kernel, rfl,
      by decide +kernel⟩,
   ⟨ready, _, { init := 4, mb := 0, tag := 7, args := [0x4000FC, 4, 0x11223344] }, 0x4000FB, by decide +kernel,
       by decide +kernel, rfl, by decide +kernel⟩,
   ⟨ready, { init := 4, mb := 0, tag := 7, args := [0x400000, 1] }, served_of_check (by decide +kernel), by decide +kernel,
       by decide +kernel, by decide +kernel⟩,
   ⟨ready, { init := 4, mb := 0, tag := 7, args := [0x4000FC, 4, 0x11223344] }, served_of_check (by decide +kernel),
       by decide +kernel, by decide +kernel, by decide +kernel, by decide +kernel,
    by decide +kernel, by decide +kernel, by decide +kernel, fun _ _ => rfl⟩⟩

/-- The conditions of `Obligations.RaiseSetsStatusAndKeepsTheRest` are met. -/
theorem test_meets_RaiseSetsStatusAndKeepsTheRest :
    ∃ e : Nat, e < 128 :=
  ⟨127, by decide +kernel⟩

/-- The conditions of `Obligations.ResponseStandsInMailbox` are met. -/
theorem test_meets_ResponseStandsInMailbox :
    ∃ (mb : Nat) (words : List Nat), mb < 16 ∧ words.length ≤ 63 :=
  ⟨15, List.replicate 63 1, by decide +kernel, by decide +kernel⟩

/-- The conditions of `Obligations.MailboxProtocol` are met, each clause by a case of its own. -/
theorem test_meets_MailboxProtocol :
    (∃ (s : State) (init mb : Nat), mb < 16 ∧ Allowed s init (0x1000 * mb + 0x200) true ∧ s.mbBusy mb = false)
    ∧ (∃ (s : State) (init mb : Nat), mb < 16 ∧ Allowed s init (0x1000 * mb + 0x200) true ∧ s.mbBusy mb = true)
    ∧ (∃ (s : State) (init mb k : Nat), mb < 16 ∧ k < 64 ∧ Allowed s init (0x1000 * mb + 4 * k) true ∧ s.mbBusy mb = false)
    ∧ (∃ (s : State) (init mb k : Nat), mb < 16 ∧ k < 64 ∧ Allowed s init (0x1000 * mb + 4 * k) true ∧ s.mbBusy mb = true)
    ∧ (∃ (s : State) (init mb k : Nat), mb < 16 ∧ k < 64 ∧ Allowed s init (0x1000 * mb + 0x100 + 4 * k) false) :=
  ⟨⟨ready, 5, 15, by decide +kernel, (by decide +kernel : State.checkAccess _ _ _ _ = none), by decide +kernel⟩,
   ⟨(ready.set R.MB_n_STATE_STATE 1 15), 5, 15, by decide +kernel, (by decide +kernel : State.checkAccess _ _ _ _ = none),
       by decide +kernel⟩,
   ⟨ready, 4, 0, 63, by decide +kernel, by decide +kernel, (by decide +kernel : State.checkAccess _ _ _ _ = none),
       by decide +kernel⟩,
   ⟨(ready.set R.MB_n_STATE_STATE 1 15), 5, 15, 0, by decide +kernel, by decide +kernel, (by decide +kernel :
       State.checkAccess _ _ _ _ = none), by decide +kernel⟩,
   ⟨ready, 4, 7, 63, by decide +kernel, by decide +kernel, (by decide +kernel : State.checkAccess _ _ _ _ = none)⟩⟩

/-- The conditions of `Obligations.DirectAccessesComplete` are met, each clause by a case of its own. -/
theorem test_meets_DirectAccessesComplete :
    (∃ (s q : State) (init addr v : Nat) (g : Reg) (i j : Nat), q = s.quiet ∧ v < 2 ^ 32 ∧ Allowed q init addr true
      ∧ findReg addr = some (g, i, j) ∧ handlers.find? (fun (h : Nat × Handler) => h.1 == g.addr) = none ∧ q.writable
          (q.lockable g v i j))
    ∧ (∃ (s q : State) (init addr v : Nat) (g : Reg) (i j : Nat), q = s.quiet ∧ v < 2 ^ 32 ∧ Allowed q init addr true
      ∧ findReg addr = some (g, i, j) ∧ q.writable (q.lockable g v i j) ∧ ∃ h : Nat × Handler, handlers.find? (fun (h : Nat ×
          Handler) => h.1 == g.addr) = some h)
    ∧ (∃ (s q : State) (init addr v : Nat) (g : Reg) (i j : Nat), q = s.quiet ∧ v < 2 ^ 32 ∧ Allowed q init addr true
      ∧ findReg addr = some (g, i, j) ∧ ¬ q.writable (q.lockable g v i j))
    ∧ (∃ (s q : State) (init addr : Nat) (x : Viol), q = s.quiet ∧ q.checkAccess init addr true = some x)
    ∧ (∃ (s q : State) (init addr : Nat) (x : Viol), q = s.quiet ∧ q.checkAccess init addr false = some x)
    ∧ (∃ (s q t : State) (init addr i j : Nat) (p : Reg × Reg), q = s.quiet ∧ Allowed q init addr false ∧ canonAddr addr =
        addr
      ∧ q.specialRead init addr = none ∧ findReg addr = some (p.1, i, j) ∧ latchPairs.find? (fun (x : Reg × Reg) => x.1.addr
          == p.1.addr) = some p
      ∧ inCounterWindow addr = false ∧ t = q.refresh p.1 i)
    ∧ (∃ (s q t : State) (init addr i j : Nat) (p : Reg × Reg), q = s.quiet ∧ Allowed q init addr false ∧ canonAddr addr =
        addr
      ∧ q.specialRead init addr = none ∧ findReg addr = some (p.2, i, j) ∧ latchPairs.find? (fun (x : Reg × Reg) => x.1.addr
          == p.2.addr) = none
      ∧ latchPairs.find? (fun (x : Reg × Reg) => x.2.addr == p.2.addr) = some p ∧ inCounterWindow addr = false ∧ t = q.refresh
          p.2 i)
    ∧ (∃ (s q t : State) (init addr i j : Nat) (g : Reg), q = s.quiet ∧ Allowed q init addr false ∧ canonAddr addr = addr
      ∧ q.specialRead init addr = none ∧ findReg addr = some (g, i, j) ∧ inCounterWindow addr = false
      ∧ latchPairs.find? (fun (x : Reg × Reg) => x.1.addr == g.addr) = none
      ∧ latchPairs.find? (fun (x : Reg × Reg) => x.2.addr == g.addr) = none ∧ t = q.refresh g i) :=
  ⟨⟨ready, _, 0, 0x608004, 9, _, _, _, rfl, by decide +kernel, (by decide +kernel : State.checkAccess _ _ _ _ = none), rfl,
      rfl, by decide +kernel⟩,
   ⟨ready, _, 4, 0x100030, 9, _, _, _, rfl, by decide +kernel, (by decide +kernel : State.checkAccess _ _ _ _ = none), rfl,
       by decide +kernel, _, rfl⟩,
   ⟨ready.set R.CFG_LOCK_S_LOCK 1, _, 0, 0x608004, 9, _, _, _, rfl, by decide +kernel, (by decide +kernel : State.checkAccess
       _ _ _ _ = none), rfl, by decide +kernel⟩,
   ⟨ready, _, 5, 0, _, rfl, rfl⟩,
   ⟨ready, _, 5, 0x7FFC, _, rfl, rfl⟩,
   ⟨ready, _, _, 0, 0x610020, 0, 0, (R.HW_PAIRk_OFS_LO, R.HW_PAIRk_OFS_HI), rfl, (by decide +kernel : State.checkAccess _ _ _
       _ = none), by decide +kernel, rfl, rfl, rfl, by decide +kernel, rfl⟩,
   ⟨ready, _, _, 0, 0x610024, 0, 0, (R.HW_PAIRk_OFS_LO, R.HW_PAIRk_OFS_HI), rfl, (by decide +kernel : State.checkAccess _ _ _
       _ = none), by decide +kernel, rfl, rfl, rfl, rfl, by decide +kernel, rfl⟩,
   ⟨ready, _, _, 0, 0x608004, _, _, _, rfl, (by decide +kernel : State.checkAccess _ _ _ _ = none), by decide +kernel, rfl,
       rfl, by decide +kernel, rfl, rfl, rfl⟩⟩

/-- The conditions of `Obligations.OpcodesOfTheTable` are met. -/
theorem test_meets_OpcodesOfTheTable :
    ∃ (s : State) (op : Nat) (r : Req), op < 65536 ∧ (cmdOf op).isNone = true ∧ r.mb < 16 ∧ (r.mb < 8 → s.initSecure r.init =
        true)
      ∧ s.mbBusy r.mb = false ∧ (s.rung op r).servesNow r.mb = true :=
  ⟨ready, 0x1305, { init := 5, mb := 15, tag := 7, args := [] }, by decide +kernel, by decide +kernel, by decide +kernel,
      by decide +kernel, by decide +kernel, by decide +kernel⟩

/-- The conditions of `Obligations.SemaphoreLease` are met, each clause by a case of its own. -/
theorem test_meets_SemaphoreLease :
    (∃ (s : State) (init n lease : Nat), n < 64 ∧ init ≠ 8 ∧ semOpen init n = true ∧ (s.semOf n).held = false ∧ 1 ≤ lease ∧
        lease ≤ 1000)
    ∧ (∃ lease : Nat, 1000 < lease ∧ lease < 1024)
    ∧ (∃ (s : State) (init n : Nat), n < 64 ∧ init ≠ 8 ∧ semOpen init n = true ∧ (s.semOf n).held = true ∧ (s.semOf n).owner =
        init)
    ∧ (∃ (s : State) (dt n t0 : Nat), n < 64 ∧ (s.semOf n).held = true ∧ (s.semOf n).lease = some t0 ∧ t0 ≤ s.clk + dt)
    ∧ (∃ (s : State) (dt n t0 : Nat), n < 64 ∧ (s.semOf n).lease = some t0 ∧ s.clk + dt < t0)
    ∧ (∃ (s : State) (n : Nat), n < 64 ∧ (s.semOf n).lease = none) :=
  ⟨⟨ready, 4, 31, 1000, by decide +kernel, by decide +kernel, by decide +kernel, by decide +kernel, by decide +kernel,
      by decide +kernel⟩,
   ⟨1001, by decide +kernel, by decide +kernel⟩,
   ⟨ready.semWrite false 2 63 1 5, 2, 63, by decide +kernel, by decide +kernel, by decide +kernel, by decide +kernel,
       by decide +kernel⟩,
   ⟨ready.semWrite false 2 63 1 1, 10 ^ 9, 63, 10 ^ 9, by decide +kernel, by decide +kernel, by decide +kernel,
       by decide +kernel⟩,
   ⟨ready.semWrite false 4 0 1 1, 10 ^ 9 - 1, 0, 10 ^ 9, by decide +kernel, by decide +kernel, by decide +kernel⟩,
   ⟨ready, 0, by decide +kernel, rfl⟩⟩

/-- The conditions of `Obligations.SoftwareEvents` are met, each clause by a case of its own. -/
theorem test_meets_SoftwareEvents :
    (∃ (s : State) (init v n : Nat), Allowed s init 0x100030 true ∧ n < 8 ∧ bitOf v n = true ∧ (s.initSecure init = true ∨ 4 ≤
        n))
    ∧ (∃ (s : State) (init v : Nat), Allowed s init 0x100030 true ∧ s.initSecure init = false ∧ (∀ n, 4 ≤ n → n < 8 → bitOf v
        n = false)) :=
  ⟨⟨ready, 5, 255, 4, (by decide +kernel : State.checkAccess _ _ _ _ = none), by decide +kernel, by decide +kernel,
      by decide +kernel⟩,
   ⟨ready, 5, 15, (by decide +kernel : State.checkAccess _ _ _ _ = none), by decide +kernel, by decide +kernel⟩⟩

/-- The conditions of `Obligations.TimeSetRefusals` are met, each clause by a case of its own. -/
theorem test_meets_TimeSetRefusals :
    (Meets cmdTimeSet (fun c q => (wordsTime (c.arg 2) (c.arg 3) (c.arg 4)).isSome ∧ q.tbOn (c.bits 1 2 0) = true
      ∧ (q.on R.HW_TBn_CTRL_SRC (c.bits 1 2 0) = false
        ∨ (q.on R.HW_TBn_CTRL_STEP_ALLOW (c.bits 1 2 0) = false ∧ (q.tbOf (c.bits 1 2 0)).timeValid = true))))
    ∧ (Meets cmdTimeAdjPhase (fun c q => q.tbOn (c.bits 1 2 0) = true
      ∧ (c.int64 2).natAbs ≤ 10 ^ 9 * 65536 ∧ c.bit 1 8 = true
      ∧ (q.on R.HW_TBn_CTRL_SRC (c.bits 1 2 0) = false
        ∨ (q.on R.HW_TBn_CTRL_STEP_ALLOW (c.bits 1 2 0) = false ∧ (q.tbOf (c.bits 1 2 0)).timeValid = true))))
    ∧ (Meets cmdTimeAdjPhase (fun c q => q.tbOn (c.bits 1 2 0) = true
      ∧ q.on R.HW_TBn_CTRL_SRC (c.bits 1 2 0) = true
      ∧ (c.bit 1 8 = true → q.on R.HW_TBn_CTRL_STEP_ALLOW (c.bits 1 2 0) = true ∨ (q.tbOf (c.bits 1 2 0)).timeValid = false)
      ∧ secUnit < ((q.tbOf (c.bits 1 2 0)).pendingCorr + c.int64 2 * linUnit).natAbs))
    ∧ (Meets cmdTimeSet (fun c q => (wordsTime (c.arg 2) (c.arg 3) (c.arg 4)).isSome ∧ q.tbOn (c.bits 1 2 0) = true
      ∧ q.on R.HW_TBn_CTRL_SRC (c.bits 1 2 0) = true
      ∧ (q.on R.HW_TBn_CTRL_STEP_ALLOW (c.bits 1 2 0) = true ∨ (q.tbOf (c.bits 1 2 0)).timeValid = false)
      ∧ q.worldLocked (q.entryNonSecure (19 + c.bits 1 2 0)) = false)) :=
  ⟨meets (ready.set R.HW_TBn_CTRL_EN 1 1) { init := 4, mb := 0, tag := 7, args := [1, 5, 6, 7] } (by decide +kernel)
      (by decide +kernel),
   meets (ready.set R.HW_TBn_CTRL_EN 1 1) { init := 4, mb := 0, tag := 7, args := [0x101, 5, 0] } (by decide +kernel)
       (by decide +kernel),
   meets
       (({ (ready.set R.HW_TBn_CTRL_EN 1 1).set R.HW_TBn_CTRL_SRC 1 1 with tb := Tab.put ready.tb 1 { ready.tbOf 1 with rem := secUnit } }))
       { init := 4, mb := 0, tag := 7, args := [1, 5, 0] } (by decide +kernel) (by decide +kernel),
   meets ((ready.set R.HW_TBn_CTRL_EN 1 1).set R.HW_TBn_CTRL_SRC 1 1) { init := 4, mb := 0, tag := 7, args := [1, 5, 6, 7] }
       (by decide +kernel) (by decide +kernel)⟩

/-- The conditions of `Obligations.DomainMapping` are met, each clause by a case of its own. -/
theorem test_meets_DomainMapping :
    (∃ (s : State) (d n : Nat), s.domainTb d = some n)
    ∧ (∃ (s : State) (r : Req), Served s cmdTimeDomainMap r ∧ ((ctxOf r).bit 1 11 = true → (s.asked cmdTimeDomainMap r).tbOn
        ((ctxOf r).bits 1 10 8) = true)
      ∧ (s.asked cmdTimeDomainMap r).domainOpen ((ctxOf r).bits 1 7 0) = false
      ∧ (s.asked cmdTimeDomainMap r).worldLocked ((s.asked cmdTimeDomainMap r).entryNonSecure 27) = false)
    ∧ (∃ (s : State) (dom : Nat), dom < 256 ∧ s.domainTb dom = none) :=
  ⟨⟨ready, 0, 0, by decide +kernel⟩,
   ⟨ready.set R.HW_TBn_CTRL_EN 1 1, { init := 4, mb := 0, tag := 7, args := [0x9FF] }, served_of_check (by decide +kernel),
       by decide +kernel, by decide +kernel, by decide +kernel⟩,
   ⟨ready, 255, by decide +kernel, by decide +kernel⟩⟩

/-- The conditions of `Obligations.ViolationLog` are met, each clause by a case of its own. -/
theorem test_meets_ViolationLog :
    (∃ (s : State) (kind target init acc addr n : Nat), kind < 8 ∧ target < 64 ∧ init < 16 ∧ acc < 4 ∧ addr < 2 ^ 32
      ∧ n = s.get R.FB_VIOL_STAT_COUNT ∧ n < 16)
    ∧ (∃ s : State, 16 ≤ s.get R.FB_VIOL_STAT_COUNT)
    ∧ (∃ (s : State) (init : Nat), Allowed s init 0x400000 true ∧ s.initSecure init = true)
    ∧ (∃ (s : State) (init : Nat), Allowed s init 0x400000 true ∧ s.initSecure init = false) :=
  ⟨⟨ready.set R.FB_VIOL_STAT_COUNT 15, 7, 63, 8, 3, 0xFFFFFF, 15, by decide +kernel, by decide +kernel, by decide +kernel,
      by decide +kernel, by decide +kernel, by decide +kernel, by decide +kernel⟩,
   ⟨ready.set R.FB_VIOL_STAT_COUNT 16, by decide +kernel⟩,
   ⟨ready, 4, (by decide +kernel : State.checkAccess _ _ _ _ = none), by decide +kernel⟩,
   ⟨ready, 5, (by decide +kernel : State.checkAccess _ _ _ _ = none), by decide +kernel⟩⟩

/-- The conditions of `Obligations.QueriesChangeNothing` are met. -/
theorem test_meets_QueriesChangeNothing :
    ∃ (r : Req) (s t : State), exec (.sysInfo r) s = .next t :=
  ⟨{ init := 4, mb := 0, tag := 7, args := [] }, ready, _, rfl⟩

/-- The conditions of `Obligations.SystemCommandsComplete` are met, each clause by a case of its own. -/
theorem test_meets_SystemCommandsComplete :
    Meets cmdSysInfo (fun _ _ => True)
    ∧ Meets cmdSysNodeId (fun c q => q.worldLocked (q.entryNonSecure 37) = false ∧ ((q.writes
        [{ f := R.NODE_ID_NODE_ID, v := c.bits 1 19 0 }, { f := R.NODE_ID_UNSET, v := 0 }]).nvPut 0x02 0 none [c.bits 1 19
        0]).isSome)
    ∧ Meets cmdSysCoreStatus (fun _ _ => True)
    ∧ Meets cmdSysWdtCfg (fun c q => c.bits 1 1 0 ≠ 1 ∧ R.MB_WDTc_CFG_TIMEOUT.inRange (c.bits 2 13 0) = true ∧ q.unlocked
        [{ f := R.MB_WDTc_CFG_TIMEOUT, i := c.bits 1 1 0, v := c.bits 2 13 0 }])
    ∧ Meets cmdSysBootCfg (fun c q => q.minSec = c.bits 2 15 0 ∧ ((q.bootCfg.signed = false ∨ c.bit 1 4 = true ∨ q.mode = 5))
        ∧ q.worldLocked (q.entryNonSecure 39) = false)
    ∧ Meets cmdSysBootCfg (fun c q => q.minSec < c.bits 2 15 0 ∧ c.bits 2 15 0 ≤ q.get R.BOOT_STAT_SEC_VER ∧
        ((q.bootCfg.signed = false ∨ c.bit 1 4 = true ∨ q.mode = 5)) ∧ q.worldLocked (q.entryNonSecure 39) = false ∧
        ((({ q with bootCfg := { pref := c.bits 1 0 0, trial := c.bit 1 1 && !c.bit 1 2, tried := q.bootCfg.tried && !c.bit 1 1 && !c.bit 1 2, cfgPref := c.bits 1 3 3, signed := c.bit 1 4 } }).bootSync).nvPut
        0x04 0 none [c.bits 2 15 0]).isSome)
    ∧ Meets cmdSysEcho (fun _ _ => True)
    ∧ Meets cmdSysCfgLoad (fun c q => q.cfgAccepted (c.bits 1 0 0) = true ∧ (q.entries (c.bits 1 0 0)).isSome)
    ∧ Meets cmdNvmStatus (fun _ _ => True)
    ∧ Meets cmdNvmRead (fun c _ => 1 ≤ c.bits 2 7 0 ∧ c.bits 2 7 0 ≤ 240 ∧ inFlash (c.arg 1) (c.bits 2 7 0) = true)
    ∧ Meets cmdNvmErase (fun c q => c.arg 1 % (if c.bit 2 0 then 65536 else 4096) = 0 ∧ inFlash (c.arg 1) (if c.bit 2 0 then
        65536 else 4096) = true ∧ q.nvmProtected (c.arg 1) (if c.bit 2 0 then 65536 else 4096) = false)
    ∧ Meets cmdNvmWrite (fun c q => 1 ≤ c.bits 2 7 0 ∧ c.bits 2 7 0 ≤ 240 ∧ c.arg 1 % 256 + c.bits 2 7 0 ≤ 256 ∧ inFlash
        (c.arg 1) (c.bits 2 7 0) = true ∧ 2 + (c.bits 2 7 0 + 3) / 4 ≤ c.args.length ∧ q.nvmProtected (c.arg 1) (c.bits 2 7 0)
        = false ∧ (List.zipWith (fun (x y : Byte) => x &&& y) (q.flashBytes (c.arg 1) (c.bits 2 7 0)) (((c.args.drop
        2).flatMap fun w => leBytes 4 w).take (c.bits 2 7 0)) = ((c.args.drop 2).flatMap fun w => leBytes 4 w).take (c.bits 2
        7 0)))
    ∧ Meets cmdNvmVerify (fun _ _ => True)
    ∧ Meets cmdPwrStatus (fun _ _ => True)
    ∧ Meets cmdPwrState (fun c q => c.bit 1 8 = true ∧ c.bits 1 5 0 < 48 ∧ ((c.bits 1 13 12 < 2 ∨ q.portState (c.bits 1 5 0) =
        0)))
    ∧ Meets cmdPwrState (fun c q => c.bit 1 8 = false ∧ c.bits 1 5 0 < 48 ∧ (blkAllowed (c.bits 1 5 0)).contains (c.bits 1 13
        12) = true ∧ ((2 ≤ c.bits 1 13 12 → q.blkMaySleep (c.bits 1 5 0) = true)) ∧ ((c.bits 1 13 12 < 2 → q.blkOff (c.bits 1
        5 0) = false)))
    ∧ Meets cmdPwrMode (fun c q => 1 ≤ c.bits 1 2 0 ∧ c.bits 1 2 0 ≤ 5 ∧ q.modeAnswer (c.bits 1 2 0) = .ok)
    ∧ Meets cmdPwrMode (fun c q => c.bits 1 2 0 = 0 ∧ q.modeAnswer 0 = .ok ∧ q.wakeArmed = true ∧ q.wakeHolds = false)
    ∧ Meets cmdPwrReset (fun c q => c.bits 1 1 0 ≤ 2 ∧ ((c.bits 1 1 0 = 0 ∨ q.on R.MODE_STATE_START_RUN = false)))
    ∧ Meets cmdPwrStartCfg (fun c q => R.PM_TEMP_CFG.ok (c.arg 5) = true ∧ q.unlocked (R.PM_START_CFG.writes (c.arg 1) ++
        R.PM_WAKE_CFG.writes (c.arg 2) ++ R.PM_WAKE_ALARM_LO.writes (c.arg 3) ++ R.PM_WAKE_ALARM_HI.writes (c.arg 4) ++
        R.PM_TEMP_CFG.writes (c.arg 5))) :=
  ⟨meets (ready) { init := 5, mb := 15, tag := 7, args := [] } (by decide +kernel) trivial,
   meets (inMode 5) { init := 4, mb := 0, tag := 7, args := [0x12345] } (by decide +kernel) (by decide +kernel),
   meets (ready) { init := 5, mb := 8, tag := 7, args := [] } (by decide +kernel) trivial,
   meets (ready) { init := 4, mb := 0, tag := 7, args := [3, 10000] } (by decide +kernel) (by decide +kernel),
   meets (ready) { init := 4, mb := 0, tag := 7, args := [0x1B, 0] } (by decide +kernel) (by decide +kernel),
   meets (ready.set R.BOOT_STAT_SEC_VER 1) { init := 4, mb := 0, tag := 7, args := [0x1B, 1] } (by decide +kernel)
       (by decide +kernel),
   meets (ready) { init := 5, mb := 12, tag := 7, args := [1, 2, 3] } (by decide +kernel) trivial,
   meets (imaged) { init := 4, mb := 0, tag := 7, args := [0] } (by decide +kernel) (by decide +kernel),
   meets (ready) { init := 5, mb := 8, tag := 7, args := [] } (by decide +kernel) trivial,
   meets (ready) { init := 4, mb := 0, tag := 7, args := [0, 240] } (by decide +kernel) (by decide +kernel),
   meets (ready) { init := 4, mb := 0, tag := 7, args := [0x400000, 1] } (by decide +kernel) (by decide +kernel),
   meets (ready) { init := 4, mb := 0, tag := 7, args := [0x4000FC, 4, 0x11223344] } (by decide +kernel) (by decide +kernel),
   meets (ready) { init := 4, mb := 0, tag := 7, args := [0] } (by decide +kernel) trivial,
   meets (ready) { init := 4, mb := 0, tag := 7, args := [] } (by decide +kernel) trivial,
   meets (ready) { init := 4, mb := 0, tag := 7, args := [0x312F] } (by decide +kernel) (by decide +kernel),
   meets (ready) { init := 4, mb := 0, tag := 7, args := [0x3020] } (by decide +kernel) (by decide +kernel),
   meets (ready) { init := 4, mb := 0, tag := 7, args := [3] } (by decide +kernel) (by decide +kernel),
   meets (ready.set R.PM_WAKE_CFG_WAKE_PIN_EN 1) { init := 4, mb := 0, tag := 7, args := [0] } (by decide +kernel)
       (by decide +kernel),
   meets (ready) { init := 4, mb := 0, tag := 7, args := [0x32] } (by decide +kernel) (by decide +kernel),
   meets (ready) { init := 4, mb := 0, tag := 7, args := [0, 1, 5, 0, 0x6955] } (by decide +kernel) (by decide +kernel)⟩

/-- The conditions of `Obligations.TimebaseCommandsComplete` are met, each clause by a case of its own. -/
theorem test_meets_TimebaseCommandsComplete :
    Meets cmdTimeStatus (fun _ _ => True)
    ∧ Meets cmdTimeTbCfg (fun c q => R.HW_TBn_SLEW.ok (c.arg 2) = true ∧ R.HW_TBn_STEP_THR.ok (c.arg 3) = true ∧
        R.HW_TBn_HO_LIMIT.ok (c.arg 4) = true ∧ ((q.tbOn (c.bits 1 2 0) = true → c.bit 1 3 = true ∨ q.tbInUse (c.bits 1 2 0) =
        false)) ∧ q.unlocked ([({ f := R.HW_TBn_CTRL_EN, i := c.bits 1 2 0, v := c.bits 1 3 3 } : FieldWrite),
        { f := R.HW_TBn_CTRL_SRC, i := c.bits 1 2 0, v := c.bits 1 4 4 },
        { f := R.HW_TBn_CTRL_STEP_ALLOW, i := c.bits 1 2 0, v := c.bits 1 5 5 }] ++ R.HW_TBn_SLEW.writes (c.arg 2) (c.bits 1 2
        0) ++ R.HW_TBn_STEP_THR.writes (c.arg 3) (c.bits 1 2 0) ++ R.HW_TBn_HO_LIMIT.writes (c.arg 4) (c.bits 1 2 0)))
    ∧ Meets cmdTimeSet (fun c q => (wordsTime (c.arg 2) (c.arg 3) (c.arg 4)).isSome ∧ q.tbOn (c.bits 1 2 0) = true ∧ q.on
        R.HW_TBn_CTRL_SRC (c.bits 1 2 0) = true ∧ q.hostStepOk (c.bits 1 2 0) = true ∧ q.worldLocked (q.entryNonSecure (19 +
        c.bits 1 2 0)) = false)
    ∧ Meets cmdTimeAdjPhase (fun c q => q.tbOn (c.bits 1 2 0) = true ∧ (c.int64 2).natAbs ≤ 10 ^ 9 * 65536 ∧ q.on
        R.HW_TBn_CTRL_SRC (c.bits 1 2 0) = true ∧ ((c.bit 1 8 = true → q.hostStepOk (c.bits 1 2 0) = true)) ∧ q.corrRefused
        (c.bits 1 2 0) (c.int64 2 * linUnit) = false ∧ ((∀ k, q.pairOf (c.bits 1 2 0) = some k → (q.pairRec k).awaiting =
        none)) ∧ q.worldLocked (q.entryNonSecure (19 + c.bits 1 2 0)) = false)
    ∧ Meets cmdTimeAdjFreq (fun c q => q.tbOn (c.bits 1 2 0) = true ∧ (c.int64 2).natAbs ≤ 140737488355 ∧ q.on
        R.HW_TBn_CTRL_SRC (c.bits 1 2 0) = true ∧ q.unlocked
        ([{ f := R.HW_TBn_FREQ_LO_FREQ, i := c.bits 1 2 0, v := wrap 32 (c.int64 2) },
        { f := R.HW_TBn_FREQ_HI_FREQ, i := c.bits 1 2 0, v := wrap 40 (c.int64 2) / 2 ^ 32 }]))
    ∧ Meets cmdTimeUtc (fun c q => q.tbOn (c.bits 1 2 0) = true ∧ c.bits 1 5 4 = 0 ∧ 2 ≤ c.args.length ∧ q.unlocked
        ([{ f := R.HW_TBn_UTC_UTC_OFS, i := c.bits 1 2 0, v := c.bits 2 15 0 }]))
    ∧ Meets cmdTimeUtc (fun c q => q.tbOn (c.bits 1 2 0) = true ∧ c.bits 1 5 4 = 1 ∧ 4 ≤ c.args.length ∧ (c.arg 3 % 2 ^ 32 + 2
        ^ 32 * c.bits 4 15 0) ≠ 0 ∧ (sext 16 (c.bits 2 15 0) - q.ofsBefore (c.bits 1 2 0) (c.bits 1 9 8) (c.arg 3 % 2 ^ 32 + 2
        ^ 32 * c.bits 4 15 0)).natAbs = 1 ∧ (((c.arg 3 % 2 ^ 32 + 2 ^ 32 * c.bits 4 15 0) : Nat) - sext 16 (c.bits 2 15 0)) %
        86400 = 0 ∧ q.unlocked
        ([{ f := R.HW_TBn_LEAPk_A_SEC, i := c.bits 1 2 0, j := c.bits 1 9 8, v := (c.arg 3 % 2 ^ 32 + 2 ^ 32 * c.bits 4 15 0) % 2 ^ 32 },
        { f := R.HW_TBn_LEAPk_B_SEC, i := c.bits 1 2 0, j := c.bits 1 9 8, v := (c.arg 3 % 2 ^ 32 + 2 ^ 32 * c.bits 4 15 0) / 2 ^ 32 },
        { f := R.HW_TBn_LEAPk_B_NEW_OFS, i := c.bits 1 2 0, j := c.bits 1 9 8, v := c.bits 2 15 0 }]))
    ∧ Meets cmdTimeUtc (fun c q => q.tbOn (c.bits 1 2 0) = true ∧ c.bits 1 5 4 = 2 ∧ q.unlocked
        ([{ f := R.HW_TBn_LEAPk_A_SEC, i := c.bits 1 2 0, j := c.bits 1 9 8, v := 0 % 2 ^ 32 },
        { f := R.HW_TBn_LEAPk_B_SEC, i := c.bits 1 2 0, j := c.bits 1 9 8, v := 0 / 2 ^ 32 },
        { f := R.HW_TBn_LEAPk_B_NEW_OFS, i := c.bits 1 2 0, j := c.bits 1 9 8, v := 0 }])) :=
  ⟨meets (ready) { init := 4, mb := 0, tag := 7, args := [1] } (by decide +kernel) trivial,
   meets (ready) { init := 4, mb := 0, tag := 7, args := [0x39, 1000, 1000, 1000] } (by decide +kernel) (by decide +kernel),
   meets (tbState) { init := 4, mb := 0, tag := 7, args := [1, 0, 1, 0] } (by decide +kernel) (by decide +kernel),
   meets (tbState) { init := 4, mb := 0, tag := 7, args := [1, 65536, 0] } (by decide +kernel) (by decide +kernel),
   meets (tbState) { init := 4, mb := 0, tag := 7, args := [1, 0xFFFFFFFF, 0xFFFFFFFF] } (by decide +kernel)
       (by decide +kernel),
   meets (tbState) { init := 4, mb := 0, tag := 7, args := [1, 37] } (by decide +kernel) (by decide +kernel),
   meets (tbState) { init := 4, mb := 0, tag := 7, args := [0x11, 1, 86401, 0] } (by decide +kernel) (by decide +kernel),
   meets (tbState) { init := 4, mb := 0, tag := 7, args := [0x21] } (by decide +kernel) (by decide +kernel)⟩

/-- The conditions of `Obligations.TimeOutputAndSessionCommandsComplete` are met, each clause by a case of its own. -/
theorem test_meets_TimeOutputAndSessionCommandsComplete :
    Meets cmdTimeDomainMap (fun c q => ((c.bit 1 11 = true → q.tbOn (c.bits 1 10 8) = true)) ∧ q.domainOpen (c.bits 1 7 0) =
        false ∧ q.unlocked
        ([{ f := R.HW_DOMMAPj_MAP, i := c.bits 1 7 0 / 8, v := q.get R.HW_DOMMAPj_MAP (c.bits 1 7 0 / 8) - bits (q.get R.HW_DOMMAPj_MAP (c.bits 1 7 0 / 8)) (4 * (c.bits 1 7 0 % 8) + 3) (4 * (c.bits 1 7 0 % 8)) * 2 ^ (4 * (c.bits 1 7 0 % 8)) + (if c.bit 1 11 then 8 + c.bits 1 10 8 else 0) * 2 ^ (4 * (c.bits 1 7 0 % 8)) }]))
    ∧ Meets cmdTimePair (fun c q => c.bits 1 3 2 = 0 ∧ c.bits 1 6 4 ≠ c.bits 1 10 8 ∧ q.tbOn (c.bits 1 6 4) = true ∧ q.tbOn
        (c.bits 1 10 8) = true ∧ ((∀ j, q.pairOf (c.bits 1 6 4) = some j → j = c.bits 1 1 0)) ∧ ((∀ j, q.pairOf (c.bits 1 10
        8) = some j → j = c.bits 1 1 0)) ∧ q.unlocked ([{ f := R.HW_PAIRk_CFG_PRIMARY, i := c.bits 1 1 0, v := c.bits 1 6 4 },
        { f := R.HW_PAIRk_CFG_SHADOW, i := c.bits 1 1 0, v := c.bits 1 10 8 },
        { f := R.HW_PAIRk_CFG_AUTO, i := c.bits 1 1 0, v := c.bits 1 12 12 },
        { f := R.HW_PAIRk_CFG_CONVERGE, i := c.bits 1 1 0, v := c.bits 1 13 13 },
        { f := R.HW_PAIRk_CFG_EN, i := c.bits 1 1 0, v := 1 }]))
    ∧ Meets cmdTimePair (fun c q => c.bits 1 3 2 = 1 ∧ q.pairConverging (c.bits 1 1 0) = false ∧ q.unlocked
        ([{ f := R.HW_PAIRk_CFG_EN, i := c.bits 1 1 0, v := 0 }]))
    ∧ Meets cmdTimePair (fun c q => c.bits 1 3 2 = 2 ∧ q.on R.HW_PAIRk_CFG_EN (c.bits 1 1 0) = true ∧ q.switchRefusal (c.bits
        1 1 0) = none ∧ q.worldLocked (q.entryNonSecure 27) = false)
    ∧ Meets cmdTimeCmp (fun c q => c.bit 1 8 = false ∧ q.unlocked ([{ f := R.HW_CMPm_CTRL_ARM, i := c.bits 1 4 0, v := 0 }]))
    ∧ Meets cmdTimeCmp (fun c q => c.bit 1 8 = true ∧ 5 ≤ c.args.length ∧ q.tbOn (c.bits 1 7 5) = true ∧ R.HW_CMPm_PER.ok
        (c.arg 5) = true ∧ ((c.bit 1 9 = true → q.widthFits (c.bits 1 4 0) (c.bits 5 29 0) = true)) ∧ (q.judgeTarget (c.bits 1
        7 5) (c.arg 2) (c.arg 3) (c.arg 4)).isLeft = true ∧ q.unlocked
        ([{ f := R.HW_CMPm_CTRL_TB, i := c.bits 1 4 0, v := c.bits 1 7 5 },
        { f := R.HW_CMPm_CTRL_PERIODIC, i := c.bits 1 4 0, v := c.bits 1 9 9 },
        { f := R.HW_CMPm_CTRL_ACT_EVENT, i := c.bits 1 4 0, v := c.bits 1 10 10 },
        { f := R.HW_CMPm_CTRL_ACT_SNAP, i := c.bits 1 4 0, v := c.bits 1 11 11 },
        { f := R.HW_CMPm_PER_PERIOD, i := c.bits 1 4 0, v := c.bits 5 29 0 },
        { f := R.HW_CMPm_TGT_LO_TGT, i := c.bits 1 4 0, v := (((q.judgeTarget (c.bits 1 7 5) (c.arg 2) (c.arg 3) (c.arg 4)).getLeft?).getD 0) % 2 ^ 32 },
        { f := R.HW_CMPm_TGT_HI_TGT, i := c.bits 1 4 0, v := (((q.judgeTarget (c.bits 1 7 5) (c.arg 2) (c.arg 3) (c.arg 4)).getLeft?).getD 0) / 2 ^ 32 },
        { f := R.HW_CMPm_CTRL_ARM, i := c.bits 1 4 0, v := 1 }]))
    ∧ Meets cmdTimePps (fun c q => c.bits 1 3 2 ≤ 2 ∧ R.HW_PPSn_WIDTH.ok (c.arg 2) = true ∧ (sext 32 (c.arg 3)).natAbs ≤
        100000 ∧ ((c.bits 1 3 2 ≠ 2 → q.tbOn (c.bits 1 6 4) = true)) ∧ ((c.bits 1 3 2 = 2 → q.on R.HW_CMPm_CTRL_PERIODIC
        (c.bits 1 11 7) = true → c.bits 2 18 0 < q.get R.HW_CMPm_PER_PERIOD (c.bits 1 11 7))) ∧ q.unlocked
        ([{ f := R.HW_PPSn_CFG_MODE, i := c.bits 1 1 0, v := c.bits 1 3 2 },
        { f := R.HW_PPSn_CFG_TB, i := c.bits 1 1 0, v := c.bits 1 6 4 },
        { f := R.HW_PPSn_CFG_CMP_NUM, i := c.bits 1 1 0, v := c.bits 1 11 7 },
        { f := R.HW_PPSn_CFG_POL, i := c.bits 1 1 0, v := c.bits 1 12 12 },
        { f := R.HW_PPSn_CFG_PPS_FREE, i := c.bits 1 1 0, v := c.bits 1 13 13 },
        { f := R.HW_PPSn_CFG_HO_ACT, i := c.bits 1 1 0, v := c.bits 1 14 14 },
        { f := R.HW_PPSn_WIDTH_WIDTH, i := c.bits 1 1 0, v := c.bits 2 18 0 },
        { f := R.HW_PPSn_DLY_DLY, i := c.bits 1 1 0, v := c.arg 3 }]))
    ∧ Meets cmdTimeSerial (fun c q => R.HW_TOD_CFG.ok (c.arg 1) = true ∧ R.HW_IRIG_CFG.ok (c.arg 2) = true ∧ q.tbOn (c.bits 2
        6 4) = true ∧ q.unlocked (R.HW_TOD_CFG.writes (c.arg 1) ++ R.HW_IRIG_CFG.writes (c.arg 2)))
    ∧ Meets cmdTimePtpPort (fun c q => c.bits 1 5 0 < 48 ∧ (q.domainTb (c.bits 1 15 8)).isSome ∧ c.bits 1 18 16 ≤ 4 ∧ c.bits 1
        23 22 ≤ 2 ∧ signedIn (c.bits 2 7 0) (-7) 4 = true ∧ signedIn (c.bits 2 15 8) (-7) 4 = true ∧ signedIn (c.bits 2 23 16)
        (-3) 4 = true ∧ c.bits 3 5 0 ≤ 60 ∧ ((c.bits 1 18 16 = 0 ∨ (q.ptpOf (sessKey (c.bits 1 5 0) (c.bits 1 15 8))).isSome ∨
        q.ptp.length < 256)) ∧ q.worldLocked (q.entryNonSecure (blockEntry (R.PT_TSCFGp_EN_CORR.addr + 0x40 * c.bits 1 5 0)))
        = false ∧ q.unlocked (if c.bits 1 18 16 = 4 then [{ f := R.PT_TSCFGp_EN_CORR, i := c.bits 1 5 0, v := 1 }] else []))
    ∧ Meets cmdTimeSessStatus (fun c q => (q.sess? (sessKey (c.bits 1 5 0) (c.bits 1 15 8))).isSome)
    ∧ Meets cmdTimeNpx (fun c q => q.unlocked ([{ f := R.PT_NPX_CFG_NPX_ORG_ID, v := c.bits 1 23 0 },
        { f := R.PT_NPX_CFG_NPX_EN, v := c.bits 1 24 24 }, { f := R.PT_NPX_CFG_NPX_RATE_LOG, v := c.bits 2 2 0 }])) :=
  ⟨meets (tbState) { init := 4, mb := 0, tag := 7, args := [0x905] } (by decide +kernel) (by decide +kernel),
   meets (tbState.set R.HW_TBn_CTRL_EN 1 2) { init := 4, mb := 0, tag := 7, args := [0x210] } (by decide +kernel)
       (by decide +kernel),
   meets ((tbState.set R.HW_TBn_CTRL_EN 1 2).writes [{ f := R.HW_PAIRk_CFG_EN, v := 1 },
       { f := R.HW_PAIRk_CFG_PRIMARY, v := 1 }, { f := R.HW_PAIRk_CFG_SHADOW, v := 2 }])
       { init := 4, mb := 0, tag := 7, args := [4] } (by decide +kernel) (by decide +kernel),
   meets ((tbState.set R.HW_TBn_CTRL_EN 1 2).writes [{ f := R.HW_PAIRk_CFG_EN, v := 1 },
       { f := R.HW_PAIRk_CFG_PRIMARY, v := 1 }, { f := R.HW_PAIRk_CFG_SHADOW, v := 2 }])
       { init := 4, mb := 0, tag := 7, args := [8] } (by decide +kernel) (by decide +kernel),
   meets (ready) { init := 4, mb := 0, tag := 7, args := [31] } (by decide +kernel) (by decide +kernel),
   meets (tbState) { init := 4, mb := 0, tag := 7, args := [0x720, 0, 1, 0, 1000] } (by decide +kernel) (by decide +kernel),
   meets (tbState) { init := 4, mb := 0, tag := 7, args := [0x15, 1000, 5] } (by decide +kernel) (by decide +kernel),
   meets (tbState) { init := 4, mb := 0, tag := 7, args := [0x640040, 0x11] } (by decide +kernel) (by decide +kernel),
   meets (tbState.set R.HW_DOMMAPj_MAP (9 * 2 ^ 20)) { init := 4, mb := 0, tag := 7, args := [0x10502, 0, 30] }
       (by decide +kernel) (by decide +kernel),
   meets (withSession) { init := 4, mb := 0, tag := 7, args := [0x502] } (by decide +kernel) (by decide +kernel),
   meets (ready) { init := 4, mb := 0, tag := 7, args := [0x1ABCDEF, 3] } (by decide +kernel) (by decide +kernel)⟩

/-- The conditions of `Obligations.RefCommandsComplete` are met, each clause by a case of its own. -/
theorem test_meets_RefCommandsComplete :
    Meets cmdRefStatus (fun _ _ => True)
    ∧ Meets cmdRefSlotStatus (fun _ _ => True)
    ∧ Meets cmdRefSlotCfg (fun c q => R.TR_SLOTs_CFG.ok (if portSlot (c.bits 1 3 0) then c.arg 2 else c.bits 2 7 0) = true ∧
        R.TR_SLOTs_LIM.ok (c.arg 3) = true ∧ c.bits 3 15 0 ≤ c.bits 3 31 16 ∧ ((c.bits 1 3 0 < 8 → R.TR_SLOTs_NOM.ok (c.arg 4)
        = true)) ∧ q.unlocked (slotWrites (c.bits 1 3 0) (c.arg 2) (c.arg 3) (c.arg 4) (c.arg 5)))
    ∧ Meets cmdRefDpllCfg (fun c q => c.bits 1 12 8 ≤ 20 ∧ R.TR_DPLLn_SWT.ok (c.arg 2) = true ∧ R.TR_DPLLn_HO.ok (c.arg 3) =
        true ∧ q.unlocked ([({ f := R.TR_DPLLn_CFG_BW, i := c.bits 1 2 0, v := c.bits 1 12 8 } : FieldWrite),
        { f := R.TR_DPLLn_CFG_REVERT, i := c.bits 1 2 0, v := c.bits 1 16 16 }] ++ R.TR_DPLLn_SWT.writes (c.arg 2) (c.bits 1 2
        0) ++ R.TR_DPLLn_HO.writes (c.arg 3) (c.bits 1 2 0) ++ R.TR_DPLLn_HOQ.writes (c.arg 4) (c.bits 1 2 0)))
    ∧ Meets cmdRefPrio (fun c q => q.unlocked (R.TR_DPLLn_PRIO_LO.writes (c.arg 2) (c.bits 1 2 0) ++ R.TR_DPLLn_PRIO_HI.writes
        (c.arg 3) (c.bits 1 2 0)))
    ∧ Meets cmdRefGlobal (fun c q => ((c.bits 1 30 28 = q.lineTb ∨ q.lineTbFree = true)) ∧ R.TR_GLOBAL_CFG.ok (c.arg 1) = true
        ∧ q.unlocked (R.TR_GLOBAL_CFG.writes (c.arg 1)))
    ∧ Meets cmdRefOcxo (fun c q => R.TR_OCXO_CFG.ok (c.arg 1) = true ∧ R.TR_HO_MODEL0.ok (c.arg 2) = true ∧ R.TR_HO_MODEL1.ok
        (c.arg 3) = true ∧ R.TR_HO_MODEL2.ok (c.arg 4) = true ∧ q.accrueAll.unlocked (R.TR_OCXO_CFG.writes (c.arg 1) ++
        R.TR_HO_MODEL0.writes (c.arg 2) ++ R.TR_HO_MODEL1.writes (c.arg 3) ++ R.TR_HO_MODEL2.writes (c.arg 4)))
    ∧ Meets cmdRefForce (fun c q => c.bits 1 6 4 = 0 ∧ q.unlocked ([{ f := R.TR_DPLLn_CFG_FORCE, i := c.bits 1 2 0, v := 0 },
        { f := R.TR_DPLLn_CFG_FORCE_SLOT, i := c.bits 1 2 0, v := q.get R.TR_DPLLn_CFG_FORCE_SLOT (c.bits 1 2 0) }]))
    ∧ Meets cmdRefForce (fun c q => c.bits 1 6 4 = 1 ∧ q.candidate (c.bits 1 2 0) (c.bits 1 11 8) = true ∧ q.unlocked
        ([{ f := R.TR_DPLLn_CFG_FORCE, i := c.bits 1 2 0, v := 1 },
        { f := R.TR_DPLLn_CFG_FORCE_SLOT, i := c.bits 1 2 0, v := c.bits 1 11 8 }]))
    ∧ Meets cmdRefForce (fun c q => c.bits 1 6 4 = 2 ∧ q.unlocked ([{ f := R.TR_DPLLn_CFG_FORCE, i := c.bits 1 2 0, v := 2 },
        { f := R.TR_DPLLn_CFG_FORCE_SLOT, i := c.bits 1 2 0, v := q.get R.TR_DPLLn_CFG_FORCE_SLOT (c.bits 1 2 0) }]))
    ∧ Meets cmdRefForce (fun c _ => c.bits 1 6 4 = 4)
    ∧ Meets cmdRefSwLoop (fun c q => q.unlocked ([{ f := R.TR_DPLLn_CFG_OPEN, i := c.bits 1 2 0, v := c.bits 1 8 8 }]))
    ∧ Meets cmdRefSwRead (fun _ _ => True)
    ∧ Meets cmdRefSwWrite (fun c q => (c.int64 2).natAbs ≤ (q.clampOf (c.bits 1 2 0)).natAbs ∧ q.on R.TR_DPLLn_CFG_OPEN
        (c.bits 1 2 0) = true ∧ q.swBusy (c.bits 1 2 0) = false ∧ q.unlocked
        ([{ f := R.TR_DPLLn_SWF_LO_SWF, i := c.bits 1 2 0, v := wrap 64 (c.int64 2) % 2 ^ 32 },
        { f := R.TR_DPLLn_SWF_HI_SWF, i := c.bits 1 2 0, v := wrap 64 (c.int64 2) / 2 ^ 32 }])) :=
  ⟨meets (ready) { init := 4, mb := 0, tag := 7, args := [7] } (by decide +kernel) trivial,
   meets (ready) { init := 4, mb := 0, tag := 7, args := [15] } (by decide +kernel) trivial,
   meets (ready) { init := 4, mb := 0, tag := 7, args := [0, 0x20, 0x00640032, 10000000, 0] } (by decide +kernel)
       (by decide +kernel),
   meets (ready) { init := 4, mb := 0, tag := 7, args := [0x10507, 0x0064000A, 60, 0] } (by decide +kernel)
       (by decide +kernel),
   meets (ready) { init := 4, mb := 0, tag := 7, args := [2, 0x76543210, 0xFEDCBA98] } (by decide +kernel)
       (by decide +kernel),
   meets (ready) { init := 4, mb := 0, tag := 7, args := [0x0001012C] } (by decide +kernel) (by decide +kernel),
   meets (ready)
       { init := 4, mb := 0, tag := 7, args := [ready.word R.TR_OCXO_CFG, ready.word R.TR_HO_MODEL0, ready.word R.TR_HO_MODEL1, ready.word R.TR_HO_MODEL2] }
       (by decide +kernel) (by decide +kernel),
   meets (ready) { init := 4, mb := 0, tag := 7, args := [0] } (by decide +kernel) (by decide +kernel),
   meets (slotCandidate) { init := 4, mb := 0, tag := 7, args := [0x10] } (by decide +kernel) (by decide +kernel),
   meets (ready) { init := 4, mb := 0, tag := 7, args := [0x20] } (by decide +kernel) (by decide +kernel),
   meets (ready) { init := 4, mb := 0, tag := 7, args := [0x40] } (by decide +kernel) (by decide +kernel),
   meets (ready) { init := 4, mb := 0, tag := 7, args := [0x101] } (by decide +kernel) (by decide +kernel),
   meets (ready) { init := 4, mb := 0, tag := 7, args := [1] } (by decide +kernel) trivial,
   meets (ready.set R.TR_DPLLn_CFG_OPEN 1 1) { init := 4, mb := 0, tag := 7, args := [1, 5, 0] } (by decide +kernel)
       (by decide +kernel)⟩

/-- The conditions of `Obligations.SynCommandsComplete` are met, each clause by a case of its own. -/
theorem test_meets_SynCommandsComplete :
    Meets cmdSynStatus (fun _ _ => True)
    ∧ Meets cmdSynApllCfg (fun c q => R.SY_APLLa_CFG.ok (c.arg 2) = true ∧ mOk (c.arg 3) = true ∧ R.SY_APLLa_LOCK.ok (c.arg 4)
        = true ∧ ((c.bits 1 1 0 < 2 → c.bits 3 30 24 = 100 ∧ c.bits 3 23 0 = 0 ∧ c.bits 2 20 16 = 4 ∧ c.bits 2 10 8 =
        q.lineTb)) ∧ q.synPending (c.bits 1 1 0) = false ∧ (q.unlocked ((R.SY_APLLa_CFG.writes (c.arg 2) (c.bits 1 1
        0)).filter (fun w => decide (2 ≤ c.bits 1 1 0) || w.f.lo == 11) ++ (if 2 ≤ c.bits 1 1 0 then R.SY_APLLa_M.writes
        (c.arg 3) (c.bits 1 1 0) else []) ++ R.SY_APLLa_LOCK.writes (c.arg 4) (c.bits 1 1 0))))
    ∧ Meets cmdSynOutCfg (fun c q => R.SY_OUTm_CFG.ok (c.arg 2) = true ∧ R.SY_OUTm_DIV.ok (c.arg 3) = true ∧ R.SY_OUTm_DLY.ok
        (c.arg 4) = true ∧ q.synPending (q.get R.SY_OUTm_CFG_APLL (c.bits 1 3 0)) = false ∧ q.synPending (c.bits 2 2 1) =
        false ∧ q.unlocked (R.SY_OUTm_CFG.writes (c.arg 2) (c.bits 1 3 0) ++ R.SY_OUTm_DIV.writes (c.arg 3) (c.bits 1 3 0) ++
        R.SY_OUTm_DLY.writes (c.arg 4) (c.bits 1 3 0)))
    ∧ Meets cmdSynCommit (fun c q => c.bits 1 5 4 = 0 ∧ q.groupOk (c.bits 1 1 0) = true ∧ q.synPending (c.bits 1 1 0) = false
        ∧ q.unlocked ([({ f := R.SY_APLLa_COMMIT_MODE, i := c.bits 1 1 0, v := 0 } : FieldWrite)]))
    ∧ Meets cmdSynCommit (fun c q => c.bits 1 5 4 = 1 ∧ 4 ≤ c.args.length ∧ (q.judgeTarget (q.apllFollow (c.bits 1 1 0))
        (c.arg 2) (c.arg 3) (c.arg 4)).isLeft = true ∧ q.groupOk (c.bits 1 1 0) = true ∧ q.synPending (c.bits 1 1 0) = false ∧
        q.unlocked ([({ f := R.SY_APLLa_COMMIT_MODE, i := c.bits 1 1 0, v := 1 } : FieldWrite),
        { f := R.SY_APLLa_CTGT_LO_TGT, i := c.bits 1 1 0, v := (((q.judgeTarget (q.apllFollow (c.bits 1 1 0)) (c.arg 2) (c.arg 3) (c.arg 4)).getLeft?).getD 0) % 2 ^ 32 },
        { f := R.SY_APLLa_CTGT_HI_TGT, i := c.bits 1 1 0, v := (((q.judgeTarget (q.apllFollow (c.bits 1 1 0)) (c.arg 2) (c.arg 3) (c.arg 4)).getLeft?).getD 0) / 2 ^ 32 }]))
    ∧ Meets cmdSynCommit (fun c q => c.bits 1 5 4 = 2 ∧ q.synLate (c.bits 1 1 0) = false ∧ q.unlocked
        ([({ f := R.SY_APLLa_COMMIT_MODE, i := c.bits 1 1 0, v := 2 } : FieldWrite)]))
    ∧ Meets cmdSynPhase (fun c q => R.SY_APLLa_PHOFS.ok (c.arg 2) = true ∧ q.unlocked (R.SY_APLLa_PHOFS.writes (c.arg 2)
        (c.bits 1 1 0))) :=
  ⟨meets (ready) { init := 4, mb := 0, tag := 7, args := [3] } (by decide +kernel) trivial,
   meets (ready)
       { init := 4, mb := 0, tag := 7, args := [2, ready.word R.SY_APLLa_CFG 2, ready.word R.SY_APLLa_M 2, ready.word R.SY_APLLa_LOCK 2] }
       (by decide +kernel) (by decide +kernel),
   meets (ready)
       { init := 4, mb := 0, tag := 7, args := [15, ready.word R.SY_OUTm_CFG 15, ready.word R.SY_OUTm_DIV 15, ready.word R.SY_OUTm_DLY 15] }
       (by decide +kernel) (by decide +kernel),
   meets (ready) { init := 4, mb := 0, tag := 7, args := [2] } (by decide +kernel) (by decide +kernel),
   meets (tbState.set R.SY_APLLa_CFG_SRC_DPLL 1 2) { init := 4, mb := 0, tag := 7, args := [0x12, 0, 1, 0] }
       (by decide +kernel) (by decide +kernel),
   meets (ready) { init := 4, mb := 0, tag := 7, args := [0x22] } (by decide +kernel) (by decide +kernel),
   meets (ready) { init := 4, mb := 0, tag := 7, args := [3, 100] } (by decide +kernel) (by decide +kernel)⟩

/-- The conditions of `Obligations.GnssAndEvtCommandsComplete` are met, each clause by a case of its own. -/
theorem test_meets_GnssAndEvtCommandsComplete :
    Meets cmdGnssStatus (fun _ _ => True)
    ∧ Meets cmdGnssInputCfg (fun c q => R.GN_INx_CFG.ok (c.arg 2) = true ∧ (((List.range 4).all fun k => R.GN_NOTCHx_k.ok
        (c.arg (3 + k))) = true) ∧ R.GN_CFG.ok (c.arg 7) = true ∧ q.tbOn (c.bits 7 15 13) = true ∧ (q.unlocked
        (R.GN_INx_CFG.writes (c.arg 2) (c.bits 1 0 0) ++
        [{ f := R.GN_INx_CFG_SIGEN, i := (c.bits 1 0 0), v := sigenOk (c.bits 1 0 0) (c.arg 2) (c.arg 7) }] ++
        [{ f := R.GN_INx_CFG_SIGEN, i := 1 - (c.bits 1 0 0), v := sigenOk (1 - (c.bits 1 0 0)) (q.word R.GN_INx_CFG (1 - (c.bits 1 0 0))) (c.arg 7) }]
        ++ (List.range 4).flatMap (fun k => notchWrites (c.bits 1 0 0) k (c.arg (3 + k))) ++ R.GN_CFG.writes (c.arg 7))))
    ∧ Meets cmdGnssTimingCfg (fun c q => R.GN_TIM_CFG.ok (c.arg 1) = true ∧ R.GN_ANT_DLYx.ok (c.arg 2) = true ∧
        R.GN_ANT_DLYx.ok (c.arg 3) = true ∧ q.unlocked (R.GN_TIM_CFG.writes (c.arg 1) ++ R.GN_ANT_DLYx.writes (c.arg 2) 0 ++
        R.GN_ANT_DLYx.writes (c.arg 3) 1 ++ (if c.bits 1 31 30 = 1 then [{ f := R.GN_POSx_X_X, i := 0, v := c.arg 4 },
        { f := R.GN_POSx_Y_Y, i := 0, v := c.arg 5 }, { f := R.GN_POSx_Z_Z, i := 0, v := c.arg 6 },
        { f := R.GN_POSx_X_X, i := 1, v := c.arg 7 }, { f := R.GN_POSx_Y_Y, i := 1, v := c.arg 8 },
        { f := R.GN_POSx_Z_Z, i := 1, v := c.arg 9 }] else [])))
    ∧ Meets cmdGnssTrustCfg (fun c q => R.GN_TRUST_CFG0.ok (c.arg 1) = true ∧ R.GN_TRUST_CFG1.ok (c.arg 2) = true ∧ q.unlocked
        (R.GN_TRUST_CFG0.writes (c.arg 1) ++ R.GN_TRUST_CFG1.writes (c.arg 2)))
    ∧ Meets cmdGnssRead (fun c q => 1 ≤ c.bits 1 10 8 ∧ q.semTaken (if c.bit 1 0 then 35 else 34) (c.agent q 31) = false ∧
        (q.gnPopN (c.bit 1 0) (c.bits 1 10 8)).1.length ≤ 62)
    ∧ Meets cmdGnssSleep (fun c q => q.gnAsleep = c.bit 1 0 ∧ q.worldLocked (q.entryNonSecure 31) = false)
    ∧ Meets cmdGnssFeSpi (fun c q => 1 ≤ c.bits 1 11 8 ∧ c.bits 1 11 8 ≤ 8 ∧ q.gnRuns (c.bits 1 0 0) = true)
    ∧ Meets cmdEvtStatus (fun _ _ => True)
    ∧ Meets cmdEvtCfg (fun c q => R.ET_CFG.ok (c.arg 1) = true ∧ q.tbOn (c.bits 1 2 0) = true ∧ (((c.bits 1 3 3 == q.get
        R.ET_CFG_REF && c.bits 1 2 0 == q.get R.ET_CFG_TB) = true ∨ q.etAnyEn = false)) ∧ q.unlocked (R.ET_CFG.writes (c.arg
        1)))
    ∧ Meets cmdEvtInputCfg (fun c q => R.ET_INi_CFG.ok (c.arg 2) = true ∧ 1000 ≤ c.arg 3 % 2 ^ 32 + 2 ^ 32 * c.arg 4 ∧ c.arg 3
        % 2 ^ 32 + 2 ^ 32 * c.arg 4 ≤ 2 ^ 40 ∧ R.ET_INi_PWIN.ok (c.arg 5) = true ∧ R.ET_INi_GATE.ok (c.arg 6) = true ∧
        R.ET_INi_DLY.ok (c.arg 7) = true ∧ q.intervalOk (c.bits 1 3 0) (c.arg 2) = true ∧ ((q.on R.ET_INi_CFG_EN (c.bits 1 3
        0) = true → ∀ w ∈ etInputWrites (c.bits 1 3 0) (c.arg 2) (c.arg 3) (c.arg 4) (c.arg 5) (c.arg 6) (c.arg 7), (w.f.addr
        = R.ET_INi_CFG_EN.addr ∧ w.f.lo = 0) ∨ q.get w.f w.i w.j = w.v % 2 ^ w.f.width)) ∧ q.unlocked (etInputWrites (c.bits 1
        3 0) (c.arg 2) (c.arg 3) (c.arg 4) (c.arg 5) (c.arg 6) (c.arg 7)))
    ∧ Meets cmdEvtRead (fun c q => 1 ≤ c.bits 1 4 0 ∧ c.bits 1 4 0 ≤ 15 ∧ q.semTaken 33 (c.agent q 32) = false) :=
  ⟨meets (ready) { init := 4, mb := 0, tag := 7, args := [1] } (by decide +kernel) trivial,
   meets (ready.set R.HW_TBn_CTRL_EN 1)
       { init := 4, mb := 0, tag := 7, args := [1, ready.word R.GN_INx_CFG 1, ready.word R.GN_NOTCHx_k 1 0, ready.word R.GN_NOTCHx_k 1 1, ready.word R.GN_NOTCHx_k 1 2, ready.word R.GN_NOTCHx_k 1 3, ready.word R.GN_CFG] }
       (by decide +kernel) (by decide +kernel),
   meets (ready)
       { init := 4, mb := 0, tag := 7, args := [ready.word R.GN_TIM_CFG % 2 ^ 30 + 2 ^ 30, ready.word R.GN_ANT_DLYx, ready.word R.GN_ANT_DLYx 1, 1, 2, 3, 4, 5, 6] }
       (by decide +kernel) (by decide +kernel),
   meets (ready) { init := 4, mb := 0, tag := 7, args := [ready.word R.GN_TRUST_CFG0, ready.word R.GN_TRUST_CFG1] }
       (by decide +kernel) (by decide +kernel),
   meets (ready) { init := 5, mb := 8, tag := 7, args := [0x700] } (by decide +kernel) (by decide +kernel),
   meets (ready) { init := 4, mb := 0, tag := 7, args := [0] } (by decide +kernel) (by decide +kernel),
   meets (ready.set R.GN_INx_CFG_EN 1 1) { init := 4, mb := 0, tag := 7, args := [0x801, 0x11223344, 0x55667788] }
       (by decide +kernel) (by decide +kernel),
   meets (ready) { init := 4, mb := 0, tag := 7, args := [15] } (by decide +kernel) trivial,
   meets (ready.set R.HW_TBn_CTRL_EN 1) { init := 4, mb := 0, tag := 7, args := [ready.word R.ET_CFG] } (by decide +kernel)
       (by decide +kernel),
   meets (ready)
       { init := 4, mb := 0, tag := 7, args := [3, ready.word R.ET_INi_CFG 3 + 1, 5000, 0, ready.word R.ET_INi_PWIN 3, ready.word R.ET_INi_GATE 3, ready.word R.ET_INi_DLY 3] }
       (by decide +kernel) (by decide +kernel),
   meets (ready) { init := 5, mb := 8, tag := 7, args := [15] } (by decide +kernel) (by decide +kernel)⟩

/-- The conditions of `Obligations.LaneCommandsComplete` are met, each clause by a case of its own. -/
theorem test_meets_LaneCommandsComplete :
    Meets cmdLaneStatus (fun c _ => c.bits 1 5 0 < 60)
    ∧ Meets cmdLaneCfg (fun c q => c.bits 1 5 0 < 60 ∧ R.LN_Ll_CFG.ok (c.arg 2) = true ∧ R.LN_Ll_TXEQ.ok (c.arg 3) = true ∧
        tapsOk (c.arg 3) = true ∧ q.unlocked (R.LN_Ll_CFG.writes (c.arg 2) (c.bits 1 5 0) ++ R.LN_Ll_TXEQ.writes (c.arg 3)
        (c.bits 1 5 0)))
    ∧ Meets cmdLaneRestart (fun c q => c.bits 1 5 0 < 60 ∧ q.laneAsleep (c.bits 1 5 0) = false ∧ q.subBusy (c.bits 1 5 0 / 5)
        = false ∧ q.worldLocked (q.entryNonSecure 12) = false)
    ∧ Meets cmdLaneSpare (fun c q => c.bits 1 5 0 < 48 ∧ c.bit 1 12 = false ∧ q.on R.LN_GRVg_CFG_SPARE_WIRED (c.bits 1 5 0 /
        4) = true ∧ q.partnerSpare (c.bits 1 5 0) = true ∧ modeFwdClk (q.portMode (c.bits 1 5 0)) = false ∧ q.on R.PT_CFGp_EN
        (c.bits 1 5 0) = true ∧ q.lanesActive (c.bits 1 5 0) = true ∧ c.bits 1 9 8 < modeLanes (q.portMode (c.bits 1 5 0)) ∧
        q.subState (c.bits 1 5 0 / 4) = 0 ∧ q.laneState (spareOf (c.bits 1 5 0 / 4)) ≠ 6 ∧ q.worldLocked (q.entryNonSecure 12)
        = false)
    ∧ Meets cmdLaneSpare (fun c q => c.bits 1 5 0 < 48 ∧ c.bit 1 12 = true ∧ (q.subst? (c.bits 1 5 0 / 4)).isSome ∧ q.subBusy
        (c.bits 1 5 0 / 4) = false ∧ (((q.subst? (c.bits 1 5 0 / 4)).map fun b => (b.port, b.pos)) = some (c.bits 1 5 0,
        c.bits 1 9 8)) ∧ q.worldLocked (q.entryNonSecure 12) = false)
    ∧ Meets cmdLaneTest (fun c q => c.bits 1 5 0 < 60 ∧ (q.mayTest (c.bits 1 5 0) = true) ∧ ((isSpare (c.bits 1 5 0) = true →
        q.subState (c.bits 1 5 0 / 5) = 0)) ∧ q.laneAsleep (c.bits 1 5 0) = false ∧ R.LN_Ll_TEST.ok (c.arg 2) = true ∧ q.patOk
        (c.bits 1 5 0) (bits (c.arg 2) 31 28) = true ∧ q.patOk (c.bits 1 5 0) (bits (c.arg 2) 27 24) = true ∧ bits (c.arg 2)
        27 24 ≠ 10 ∧ c.bit 1 8 = false ∧ (q.checkSync (c.bits 1 5 0)).unlocked (R.LN_Ll_TEST.writes (c.arg 2) (c.bits 1 5 0)
        ++ R.LN_Ll_USER_LO.writes (c.arg 3) (c.bits 1 5 0) ++ R.LN_Ll_USER_HI.writes (c.arg 4) (c.bits 1 5 0)))
    ∧ Meets cmdLaneTest (fun c q => c.bits 1 5 0 < 60 ∧ (q.mayTest (c.bits 1 5 0) = true) ∧ ((isSpare (c.bits 1 5 0) = true →
        q.subState (c.bits 1 5 0 / 5) = 0)) ∧ q.laneAsleep (c.bits 1 5 0) = false ∧ R.LN_Ll_TEST.ok (c.arg 2) = true ∧ q.patOk
        (c.bits 1 5 0) (bits (c.arg 2) 31 28) = true ∧ q.patOk (c.bits 1 5 0) (bits (c.arg 2) 27 24) = true ∧ bits (c.arg 2)
        27 24 ≠ 10 ∧ c.bit 1 8 = true ∧ True)
    ∧ Meets cmdLaneInject (fun c q => c.bits 1 5 0 < 60 ∧ q.mayInject (c.bits 1 5 0) = true ∧ R.LN_Ll_INJ.ok (c.arg 2) = true
        ∧ q.unlocked (R.LN_Ll_INJ.writes (c.arg 2) (c.bits 1 5 0)))
    ∧ Meets cmdLaneGroveCfg (fun c q => c.bits 1 3 0 < 12 ∧ R.LN_GRVg_CFG.ok (c.arg 2) = true ∧ R.LN_GLOBAL_CFG.ok (c.arg 3) =
        true ∧ ((q.get R.LN_GRVg_CFG_SPARE_WIRED (c.bits 1 3 0) = bits (c.arg 2) 0 0 ∨ q.subState (c.bits 1 3 0) = 0)) ∧
        q.unlocked (R.LN_GRVg_CFG.writes (c.arg 2) (c.bits 1 3 0) ++ R.LN_GLOBAL_CFG.writes (c.arg 3))) :=
  ⟨meets (ready) { init := 4, mb := 0, tag := 7, args := [59] } (by decide +kernel) (by decide +kernel),
   meets (ready) { init := 4, mb := 0, tag := 7, args := [59, ready.word R.LN_Ll_CFG 59, ready.word R.LN_Ll_TXEQ 59] }
       (by decide +kernel) (by decide +kernel),
   meets (ready) { init := 4, mb := 0, tag := 7, args := [0x103] } (by decide +kernel) (by decide +kernel),
   meets (linkUp) { init := 4, mb := 0, tag := 7, args := [1] } (by decide +kernel) (by decide +kernel),
   meets (substituted) { init := 4, mb := 0, tag := 7, args := [0x1001] } (by decide +kernel) (by decide +kernel),
   meets (calibrating) { init := 4, mb := 0, tag := 7, args := [4, 0, 0, 0] } (by decide +kernel) (by decide +kernel),
   meets (calibrating) { init := 4, mb := 0, tag := 7, args := [0x104, 0, 0, 0] } (by decide +kernel) (by decide +kernel),
   meets (calibrating) { init := 4, mb := 0, tag := 7, args := [4, 2 ^ 31 + ready.word R.LN_Ll_INJ 4] } (by decide +kernel)
       (by decide +kernel),
   meets (ready) { init := 4, mb := 0, tag := 7, args := [11, 1, ready.word R.LN_GLOBAL_CFG] } (by decide +kernel)
       (by decide +kernel)⟩

/-- The conditions of `Obligations.PortCommandsComplete` are met, each clause by a case of its own. -/
theorem test_meets_PortCommandsComplete :
    Meets cmdPortStatus (fun c _ => c.bits 1 5 0 < 48)
    ∧ Meets cmdPortCfg (fun c q => c.bits 1 5 0 < 48 ∧ R.PT_CFGp.ok (c.arg 2) = true ∧ ((bitOf (c.arg 2) 0 = true → bits
        (c.arg 2) 7 4 ≠ 0)) ∧ ((bitOf (c.arg 2) 0 = true → q.portPower (c.bits 1 5 0) < 2)) ∧ ((bits (c.arg 2) 7 4 =
        q.portMode (c.bits 1 5 0) ∨ q.subState (c.bits 1 5 0 / 4) = 0)) ∧ modeFits (c.bits 1 5 0) (bits (c.arg 2) 7 4) = true
        ∧ ((bitOf (c.arg 2) 0 = true → q.lanesFit (c.bits 1 5 0) (bits (c.arg 2) 7 4) = true)) ∧ q.reserveMore (c.bits 1 5 0)
        (leastCells (bits (c.arg 2) 31 18)) ≤ q.get R.CL_POOL_STAT_SHARED_FREE ∧ q.unlocked (R.PT_CFGp.writes (c.arg 2)
        (c.bits 1 5 0)))
    ∧ Meets cmdPortDownCfg (fun c q => c.bits 1 5 0 < 48 ∧ R.PT_HOLDp.ok (c.arg 2) = true ∧ R.PT_DEGp.ok (c.arg 3) = true ∧
        R.PT_DEG2p.ok (c.arg 4) = true ∧ q.unlocked (R.PT_HOLDp.writes (c.arg 2) (c.bits 1 5 0) ++ R.PT_DEGp.writes (c.arg 3)
        (c.bits 1 5 0) ++ R.PT_DEG2p.writes (c.arg 4) (c.bits 1 5 0)))
    ∧ Meets cmdPortFc (fun c q => c.bits 1 5 0 < 48 ∧ R.PT_FCp.ok (c.arg 2) = true ∧ bits (c.arg 2) 7 0 < bits (c.arg 2) 15 8
        ∧ q.unlocked (R.PT_FCp.writes (c.arg 2) (c.bits 1 5 0)))
    ∧ Meets cmdPortModule (fun c q => c.bits 1 3 0 < 12 ∧ q.unlocked
        ([{ f := R.PT_MODg_RST, i := c.bits 1 3 0, v := c.bits 1 8 8 },
        { f := R.PT_MODg_LPMODE, i := c.bits 1 3 0, v := c.bits 1 9 9 }]))
    ∧ Meets cmdPortPolice (fun c q => ((q.mode = 1 → c.image = true)) ∧ R.PT_POLICE_CFG.ok (c.arg 1) = true ∧ q.unlocked
        (R.PT_POLICE_CFG.writes (c.arg 1))) :=
  ⟨meets (ready) { init := 4, mb := 0, tag := 7, args := [47] } (by decide +kernel) (by decide +kernel),
   meets (ready) { init := 4, mb := 0, tag := 7, args := [47, ready.word R.PT_CFGp 47] } (by decide +kernel)
       (by decide +kernel),
   meets (ready)
       { init := 4, mb := 0, tag := 7, args := [47, ready.word R.PT_HOLDp, ready.word R.PT_DEGp, ready.word R.PT_DEG2p] }
       (by decide +kernel) (by decide +kernel),
   meets (ready) { init := 4, mb := 0, tag := 7, args := [47, ready.word R.PT_FCp] } (by decide +kernel) (by decide +kernel),
   meets (ready) { init := 4, mb := 0, tag := 7, args := [0x30B] } (by decide +kernel) (by decide +kernel),
   meets (ready) { init := 4, mb := 0, tag := 7, args := [ready.word R.PT_POLICE_CFG] } (by decide +kernel)
       (by decide +kernel)⟩

/-- The conditions of `Obligations.FwdCommandsComplete` are met, each clause by a case of its own. -/
theorem test_meets_FwdCommandsComplete :
    Meets cmdFwdStatus (fun _ _ => True)
    ∧ Meets cmdFwdWrite (fun c q => c.bits 1 3 0 < 7 ∧ (if c.bits 1 5 4 = 3 then 0 else if c.bits 1 5 4 = 2 then (if c.bits 1
        3 0 = 0 then 2 else 11) else tblWords (c.bits 1 3 0)) + 2 ≤ c.args.length ∧ (q.plan (c.bits 1 3 0) (c.bits 1 5 4)
        (c.bits 2 17 0) (c.args.drop 2)).status = .ok ∧ q.worldLocked (q.entryNonSecure 13) = false)
    ∧ Meets cmdFwdRead (fun c _ => c.bit 1 5 = false ∧ c.bits 1 3 0 < 7 ∧ 2 ≤ c.args.length ∧ c.bits 2 17 0 < tblSize (c.bits
        1 3 0))
    ∧ Meets cmdFwdRead (fun c q => c.bit 1 5 = true ∧ tblHashed (c.bits 1 3 0) = true ∧ 3 ≤ c.args.length ∧ (q.readByKey (if
        c.bit 1 4 then q.epoch else 1 - q.epoch) (c.bits 1 3 0) (c.args.drop 2)).isSome)
    ∧ Meets cmdFwdRead (fun c q => c.bit 1 5 = true ∧ tblHashed (c.bits 1 3 0) = true ∧ 3 ≤ c.args.length ∧ q.readByKey (if
        c.bit 1 4 then q.epoch else 1 - q.epoch) (c.bits 1 3 0) (c.args.drop 2) = none)
    ∧ Meets cmdFwdCommit (fun _ q => q.fwdBusy = false ∧ q.worldLocked (q.entryNonSecure 13) = false)
    ∧ Meets cmdFwdDiscard (fun _ q => q.fwdBusy = false)
    ∧ Meets cmdFwdBufCfg (fun c q => c.bits 1 5 0 < 48 ∧ R.CL_PORTp_SHARE.ok (c.arg 2) = true ∧ (((rsvList (c.arg 3) ++
        rsvList (c.arg 4)).all fun v => decide (q.leastRsv (c.bits 1 5 0) ≤ v)) = true) ∧ (q.poolAfter (c.bits 1 5 0) (c.arg
        3) (c.arg 4)).isSome ∧ q.unlocked (R.CL_PORTp_SHARE.writes (c.arg 2) (c.bits 1 5 0) ++ R.CL_RSVp_LO.writes (c.arg 3)
        (c.bits 1 5 0) ++ R.CL_RSVp_HI.writes (c.arg 4) (c.bits 1 5 0)))
    ∧ Meets cmdFwdEpochCfg (fun c q => R.FD_EPOCH_CFG.ok (c.arg 1) = true ∧ q.unlocked (R.FD_EPOCH_CFG.writes (c.arg 1))) :=
  ⟨meets (ready) { init := 4, mb := 0, tag := 7, args := [] } (by decide +kernel) trivial,
   meets (ready) { init := 4, mb := 0, tag := 7, args := [0x4, 5, 1, 0] } (by decide +kernel) (by decide +kernel),
   meets (ready) { init := 4, mb := 0, tag := 7, args := [6, 47] } (by decide +kernel) (by decide +kernel),
   meets (withStation) { init := 4, mb := 0, tag := 7, args := [0x20, 0, 1, 0x10000] } (by decide +kernel)
       (by decide +kernel),
   meets (ready) { init := 4, mb := 0, tag := 7, args := [0x20, 0, 1, 0x10000] } (by decide +kernel) (by decide +kernel),
   meets (ready) { init := 4, mb := 0, tag := 7, args := [] } (by decide +kernel) (by decide +kernel),
   meets (ready) { init := 4, mb := 0, tag := 7, args := [] } (by decide +kernel) (by decide +kernel),
   meets (ready)
       { init := 4, mb := 0, tag := 7, args := [47, ready.word R.CL_PORTp_SHARE 47, ready.word R.CL_RSVp_LO 47, ready.word R.CL_RSVp_HI 47] }
       (by decide +kernel) (by decide +kernel),
   meets (ready) { init := 4, mb := 0, tag := 7, args := [ready.word R.FD_EPOCH_CFG] } (by decide +kernel)
       (by decide +kernel)⟩

/-- The conditions of `Obligations.SchedCommandsComplete` are met, each clause by a case of its own. -/
theorem test_meets_SchedCommandsComplete :
    Meets cmdSchedStatus (fun c _ => c.bits 1 5 0 < 48)
    ∧ Meets cmdSchedPortCfg (fun c q => c.bits 1 5 0 < 48 ∧ q.tbOn (bits (c.arg 2) 6 4) = true ∧ R.SC_Pp_CFG.ok (c.arg 2) =
        true ∧ R.SC_Pp_DWRR0.ok (c.arg 3) = true ∧ R.SC_Pp_DWRR1.ok (c.arg 4) = true ∧ ((bitOf (c.arg 2) 1 = true → q.managed
        (c.bits 1 5 0) = false)) ∧ ((q.schedRuns (c.bits 1 5 0) = false ∨ bits (c.arg 2) 6 4 = q.schedTb (c.bits 1 5 0))) ∧
        q.unlocked (R.SC_Pp_CFG.writes (c.arg 2) (c.bits 1 5 0) ++ R.SC_Pp_DWRR0.writes (c.arg 3) (c.bits 1 5 0) ++
        R.SC_Pp_DWRR1.writes (c.arg 4) (c.bits 1 5 0)))
    ∧ Meets cmdSchedQueueCfg (fun c q => c.bits 1 5 0 < 48 ∧ R.SC_Pp_QLIMc.ok (c.arg 2) = true ∧ R.SC_Pp_SHAPEc.ok (c.arg 3) =
        true ∧ q.unlocked (R.SC_Pp_QLIMc.writes (c.arg 2) (c.bits 1 5 0) (c.bits 1 10 8) ++ (if c.bits 1 10 8 = 7 then [] else
        R.SC_Pp_SHAPEc.writes (c.arg 3) (c.bits 1 5 0) (c.bits 1 10 8))))
    ∧ Meets cmdSchedWrite (fun c q => c.bits 1 5 0 < 48 ∧ 1 ≤ c.bits 2 20 16 ∧ c.bits 2 20 16 ≤ 30 ∧ (pairsOf ((c.args.drop
        2).take (2 * c.bits 2 20 16))).length = c.bits 2 20 16 ∧ c.bits 2 9 0 + c.bits 2 20 16 ≤ 1024 ∧ q.managed (c.bits 1 5
        0) = false ∧ q.bankActive (c.bits 1 5 0) (c.bits 1 8 8) = false ∧ q.schedPending (c.bits 1 5 0) = false ∧
        q.worldLocked (q.entryNonSecure 15) = false)
    ∧ Meets cmdSchedRead (fun c _ => c.bits 1 5 0 < 48 ∧ 1 ≤ c.bits 2 20 16 ∧ c.bits 2 20 16 ≤ 30)
    ∧ Meets cmdSchedBankCfg (fun c q => c.bits 1 5 0 < 48 ∧ R.SC_Pp_CYCx.ok (c.arg 2) = true ∧ R.SC_Pp_NUMx.ok (c.arg 3) =
        true ∧ q.managed (c.bits 1 5 0) = false ∧ q.bankActive (c.bits 1 5 0) (c.bits 1 8 8) = false ∧ q.schedPending (c.bits
        1 5 0) = false ∧ q.unlocked (R.SC_Pp_CYCx.writes (c.arg 2) (c.bits 1 5 0) (c.bits 1 8 8) ++ R.SC_Pp_NUMx.writes (c.arg
        3) (c.bits 1 5 0) (c.bits 1 8 8)))
    ∧ Meets cmdSchedCopy (fun c q => c.bits 1 5 0 < 48 ∧ q.managed (c.bits 1 5 0) = false ∧ q.schedPending (c.bits 1 5 0) =
        false ∧ q.worldLocked (q.entryNonSecure 15) = false ∧ q.unlocked
        ([{ f := R.SC_Pp_CYCx_CYCLE, i := c.bits 1 5 0, j := 1 - q.bankOf (c.bits 1 5 0), v := q.cycleOf (c.bits 1 5 0) (q.bankOf (c.bits 1 5 0)) },
        { f := R.SC_Pp_NUMx_NUM, i := c.bits 1 5 0, j := 1 - q.bankOf (c.bits 1 5 0), v := q.numOf (c.bits 1 5 0) (q.bankOf (c.bits 1 5 0)) }]))
    ∧ Meets cmdSchedCommit (fun c q => c.bits 3 1 0 = 0 ∧ (maskPorts (c.arg 1) (c.bits 2 15 0)).all q.bankGood = true ∧
        (maskPorts (c.arg 1) (c.bits 2 15 0)).any q.managed = false ∧ (((maskPorts (c.arg 1) (c.bits 2 15 0)).all fun p =>
        q.tbOn (q.schedTb p)) = true) ∧ (((maskPorts (c.arg 1) (c.bits 2 15 0)).all fun p => !q.schedPending p) = true) ∧
        (maskPorts (c.arg 1) (c.bits 2 15 0)).all q.schedRuns = true ∧ q.worldLocked (q.entryNonSecure 15) = false)
    ∧ Meets cmdSchedCommit (fun c q => c.bits 3 1 0 = 1 ∧ 6 ≤ c.args.length ∧ (wordsTime (c.arg 4) (c.arg 5) (c.arg 6)).isSome
        ∧ (maskPorts (c.arg 1) (c.bits 2 15 0)).all q.bankGood = true ∧ (maskPorts (c.arg 1) (c.bits 2 15 0)).any q.managed =
        false ∧ (((maskPorts (c.arg 1) (c.bits 2 15 0)).all fun p => q.tbOn (q.schedTb p)) = true) ∧ (((maskPorts (c.arg 1)
        (c.bits 2 15 0)).all fun p => !q.schedPending p) = true) ∧ (((maskPorts (c.arg 1) (c.bits 2 15 0)).all fun p =>
        nearTime ((wordsTime (c.arg 4) (c.arg 5) (c.arg 6)).getD 0) (q.time (q.schedTb p)) && if !q.schedRuns p || q.on
        R.SC_Pp_STAT_ALIGN_LOST p then onGrid ((wordsTime (c.arg 4) (c.arg 5) (c.arg 6)).getD 0) else q.isBoundary p
        ((wordsTime (c.arg 4) (c.arg 5) (c.arg 6)).getD 0)) = true) ∧ (((maskPorts (c.arg 1) (c.bits 2 15 0)).all fun p =>
        decide (tenUs ≤ (linDist (linear ((wordsTime (c.arg 4) (c.arg 5) (c.arg 6)).getD 0)) (linear (q.time (q.schedTb
        p)))).toNat * linUnit)) = true) ∧ q.worldLocked (q.entryNonSecure 15) = false)
    ∧ Meets cmdSchedCommit (fun c q => c.bits 3 1 0 = 2 ∧ (maskPorts (c.arg 1) (c.bits 2 15 0)).any q.managed = false ∧
        (((maskPorts (c.arg 1) (c.bits 2 15 0)).any fun p =>
        (match q.toCommit p with | some d => decide (d < tenUs) | none => false)) = false) ∧ q.worldLocked (q.entryNonSecure
        15) = false) :=
  ⟨meets (ready) { init := 4, mb := 0, tag := 7, args := [47] } (by decide +kernel) (by decide +kernel),
   meets (ready.set R.HW_TBn_CTRL_EN 1)
       { init := 4, mb := 0, tag := 7, args := [47, ready.word R.SC_Pp_CFG 47, ready.word R.SC_Pp_DWRR0 47, ready.word R.SC_Pp_DWRR1 47] }
       (by decide +kernel) (by decide +kernel),
   meets (ready)
       { init := 4, mb := 0, tag := 7, args := [0x72F, ready.word R.SC_Pp_QLIMc 47 7, ready.word R.SC_Pp_SHAPEc 47 6] }
       (by decide +kernel) (by decide +kernel),
   meets (ready) { init := 4, mb := 0, tag := 7, args := [0x12F, 0x103FF, 1000, 0xFF] } (by decide +kernel)
       (by decide +kernel),
   meets (ready) { init := 4, mb := 0, tag := 7, args := [47, 0x1E03FF] } (by decide +kernel) (by decide +kernel),
   meets (ready) { init := 4, mb := 0, tag := 7, args := [0x12F, ready.word R.SC_Pp_CYCx 47 1, ready.word R.SC_Pp_NUMx 47 1] }
       (by decide +kernel) (by decide +kernel),
   meets (ready) { init := 4, mb := 0, tag := 7, args := [47] } (by decide +kernel) (by decide +kernel),
   meets (bankReady.set R.SC_Pp_STAT_RUN 1 1) { init := 4, mb := 0, tag := 7, args := [2, 0, 0] } (by decide +kernel)
       (by decide +kernel),
   meets (bankReady) { init := 4, mb := 0, tag := 7, args := [2, 0, 1, 0, 1, 0] } (by decide +kernel) (by decide +kernel),
   meets (ready) { init := 4, mb := 0, tag := 7, args := [2, 0, 2] } (by decide +kernel) (by decide +kernel)⟩

/-- The conditions of `Obligations.FlowCommandsComplete` are met, each clause by a case of its own. -/
theorem test_meets_FlowCommandsComplete :
    Meets cmdFlowStatus (fun _ _ => True)
    ∧ Meets cmdFlowPortCfg (fun c q => c.bits 1 5 0 < 48 ∧ foCfgOk (c.arg 2) = true ∧ ((bitOf (c.arg 2) 31 = true → q.tbOn
        (q.schedTb (c.bits 1 5 0)) = true)) ∧ q.foPortBusy (c.bits 1 5 0) = false ∧ q.schedPending (c.bits 1 5 0) = false ∧
        q.unlocked (R.FO_PORTp_CFG.writes (c.arg 2) (c.bits 1 5 0)))
    ∧ Meets cmdFlowPlace (fun c q => q.flowOk (flowOf c) = true ∧ q.foState < 2 ∧ q.fwdBusy = false ∧ q.mayPlace (flowOf c)
        true ∧ (q.placed (flowOf c)).isSome ∧ ((∀ e ∈ [13, 14, 15, 16, 18], q.worldLocked (q.entryNonSecure e) = false)))
    ∧ Meets cmdFlowPin (fun c q => q.flowOk (flowOf c) = true ∧ (flowOf c).egress.length = (if (flowOf c).red = 0 then 1 else
        2) ∧ 19 + (if (flowOf c).red = 0 then 1 else 2) ≤ c.args.length ∧ q.foState < 2 ∧ q.fwdBusy = false ∧ q.mayPlace
        { flowOf c with pinned := true } false ∧ ((((flowOf c).egress.zip [c.bits 20 26 0, c.bits 21 26 0]).all fun e =>
        !q.pinConflict { flowOf c with pinned := true } e.1 e.2) = true) ∧ ((Flow.ports
        { flowOf c with pinned := true, subs := ((flowOf c).egress.zip [c.bits 20 26 0, c.bits 21 26 0]).map fun e => (e.1, e.2, q.subLen { flowOf c with pinned := true } e.1) }).all
        (fun p => q.entriesFit (q.fo.work ++
        [{ flowOf c with pinned := true, subs := ((flowOf c).egress.zip [c.bits 20 26 0, c.bits 21 26 0]).map fun e => (e.1, e.2, q.subLen { flowOf c with pinned := true } e.1) }])
        p) = true) ∧ (((q.book q.fo.work
        { flowOf c with pinned := true, subs := ((flowOf c).egress.zip [c.bits 20 26 0, c.bits 21 26 0]).map fun e => (e.1, e.2, q.subLen { flowOf c with pinned := true } e.1) }).toOption).isSome)
        ∧ ((∀ e ∈ [13, 14, 15, 16, 18], q.worldLocked (q.entryNonSecure e) = false)))
    ∧ Meets cmdFlowRemove (fun c q => ((q.fo.work.find? fun f => f.id == c.bits 1 15 0).isSome) ∧ q.foState < 2 ∧ q.fwdBusy =
        false ∧ ((∀ e ∈ [13, 14, 15, 16, 18], q.worldLocked (q.entryNonSecure e) = false)))
    ∧ Meets cmdFlowCommit (fun _ q => q.foState < 2 ∧ q.fwdBusy = false ∧ ((q.fo.changed.all fun p => !q.schedPending p) =
        true) ∧ ((∀ e ∈ [13, 14, 15, 16, 18], q.worldLocked (q.entryNonSecure e) = false)))
    ∧ Meets cmdFlowDiscard (fun _ q => q.foState < 2 ∧ q.fwdBusy = false)
    ∧ Meets cmdFlowQuery (fun c q => (((q.fo.work.find? fun f => f.id == c.bits 1 15 0).bind fun f => (q.modelCopies q.fo.work
        (c.bits 1 21 16)).find? fun x => x.flow.id == f.id).isSome))
    ∧ Meets cmdFlowCfg (fun c q => R.FO_CFG.ok (c.arg 1) = true ∧ q.foState ≠ 3 ∧ q.unlocked (R.FO_CFG.writes (c.arg 1))) :=
  ⟨meets (ready) { init := 4, mb := 0, tag := 7, args := [] } (by decide +kernel) trivial,
   meets (ready) { init := 4, mb := 0, tag := 7, args := [47, 1000] } (by decide +kernel) (by decide +kernel),
   meets (managedState) { init := 4, mb := 0, tag := 7, args := flowWords } (by decide +kernel) (by decide +kernel),
   meets (managedState) { init := 4, mb := 0, tag := 7, args := flowWords ++ [1000] } (by decide +kernel) (by decide +kernel),
   meets (flowPlaced) { init := 4, mb := 0, tag := 7, args := [3] } (by decide +kernel) (by decide +kernel),
   meets (ready) { init := 4, mb := 0, tag := 7, args := [] } (by decide +kernel) (by decide +kernel),
   meets (ready) { init := 4, mb := 0, tag := 7, args := [] } (by decide +kernel) (by decide +kernel),
   meets (flowPlaced) { init := 4, mb := 0, tag := 7, args := [0x10003] } (by decide +kernel) (by decide +kernel),
   meets (ready) { init := 4, mb := 0, tag := 7, args := [ready.word R.FO_CFG] } (by decide +kernel) (by decide +kernel)⟩

/-- The conditions of `Obligations.RedCommandsComplete` are met, each clause by a case of its own. -/
theorem test_meets_RedCommandsComplete :
    Meets cmdRedStatus (fun _ _ => True)
    ∧ Meets cmdRedCtxCfg (fun c q => ctxOk (c.arg 2) (c.arg 3) (c.arg 4) = true ∧ foresterCtx (c.bits 1 12 0) = false ∧
        (q.sctxOf (c.bits 1 12 0)).frozen (c.arg 2) = false ∧ q.worldLocked (q.entryNonSecure 16) = false)
    ∧ Meets cmdRedCtxStatus (fun _ _ => True)
    ∧ Meets cmdRedCtxReset (fun c q => foresterCtx (c.bits 1 12 0) = false ∧ q.worldLocked (q.entryNonSecure 16) = false)
    ∧ Meets cmdRedPairCfg (fun c q => ((q.mode ≠ 1 ∧ q.mode ≠ 5 ∨ c.image = true)) ∧ R.RD_PAIR_CFG.ok (c.arg 1) = true ∧
        R.RD_PAIR_CFG2.ok (c.arg 2) = true ∧ R.RD_ROLE_CFG.ok (c.arg 3) = true ∧ q.tbOn (c.bits 1 30 28) = true ∧ q.pairFits
        (c.bits 1 27 22) = true ∧ q.pairFits (c.bits 1 21 16) = true ∧ q.unlocked (R.RD_PAIR_CFG.writes (c.arg 1) ++
        R.RD_PAIR_CFG2.writes (c.arg 2) ++ R.RD_ROLE_CFG.writes (c.arg 3)))
    ∧ Meets cmdRedRole (fun c q => c.bits 1 1 0 = 0 ∧ q.worldLocked (q.entryNonSecure 17) = false)
    ∧ Meets cmdRedRole (fun c q => c.bits 1 1 0 = 1 ∧ q.on R.RD_PAIR_STAT_LINK_UP = true ∧ ((q.agent.role.map fun r => bitOf
        r.state 1) = some true) ∧ q.roleHeld = true ∧ q.agent.handover = none ∧ q.worldLocked (q.entryNonSecure 17) = false)
    ∧ Meets cmdRedHealth (fun c _ => c.bit 1 0 = false)
    ∧ Meets cmdRedHealth (fun c _ => c.bit 1 0 = true ∧ c.image = false)
    ∧ Meets cmdRedLoopBreak (fun c q => c.arg 2 < 65536 ∧ q.unlocked (R.RD_LOOPBRK_LO.writes (c.arg 1) ++
        R.RD_LOOPBRK_HI.writes (c.arg 2))) :=
  ⟨meets (ready) { init := 4, mb := 0, tag := 7, args := [] } (by decide +kernel) trivial,
   meets (ready) { init := 4, mb := 0, tag := 7, args := [0x0FFF, 0x02200000, 3277800, 1968080, 0] } (by decide +kernel)
       (by decide +kernel),
   meets (ready) { init := 4, mb := 0, tag := 7, args := [0x0FFF] } (by decide +kernel) trivial,
   meets (ready) { init := 4, mb := 0, tag := 7, args := [0x10FFF] } (by decide +kernel) (by decide +kernel),
   meets (ready.set R.HW_TBn_CTRL_EN 1)
       { init := 4, mb := 0, tag := 7, args := [ready.word R.RD_PAIR_CFG, ready.word R.RD_PAIR_CFG2, ready.word R.RD_ROLE_CFG] }
       (by decide +kernel) (by decide +kernel),
   meets (ready) { init := 4, mb := 0, tag := 7, args := [0] } (by decide +kernel) (by decide +kernel),
   meets (roleHolder) { init := 4, mb := 0, tag := 7, args := [1] } (by decide +kernel) (by decide +kernel),
   meets (ready) { init := 4, mb := 0, tag := 7, args := [0] } (by decide +kernel) (by decide +kernel),
   meets (ready) { init := 4, mb := 0, tag := 7, args := [1] } (by decide +kernel) (by decide +kernel),
   meets (ready) { init := 4, mb := 0, tag := 7, args := [1, 0x8000] } (by decide +kernel) (by decide +kernel)⟩

/-- The conditions of `Obligations.SecCommandsComplete` are met, each clause by a case of its own. -/
theorem test_meets_SecCommandsComplete :
    Meets cmdSecStatus (fun _ _ => True)
    ∧ Meets cmdSecBlockWorld (fun c q => c.bits 1 5 0 < 48 ∧ ((fixedEntry (c.bits 1 5 0) = true → c.bit 1 8 = false)) ∧
        q.worldLocked false = false ∧ q.worldLocked (q.entryNonSecure (c.bits 1 5 0)) = false ∧ q.worldLocked (c.bit 1 8) =
        false)
    ∧ Meets cmdSecRegionWorld (fun c q => (((c.bits 1 4 0 < 8 ∨ 16 ≤ c.bits 1 4 0 ∧ c.bits 1 4 0 < 24) →
        q.ctl.fwVersion.isSome = true → bitOf (q.get R.FB_REGION_WORLD_REGION) (c.bits 1 4 0) = c.bit 1 8)) ∧ q.worldLocked
        false = false ∧ q.worldLocked (bitOf (q.get R.FB_REGION_WORLD_REGION) (c.bits 1 4 0)) = false ∧ q.worldLocked (c.bit 1
        8) = false)
    ∧ Meets cmdSecPartWorld (fun c q => q.worldLocked false = false ∧ q.worldLocked (bitOf (q.get R.FB_PART_WORLD_PART)
        (c.bits 1 2 0)) = false ∧ q.worldLocked (c.bit 1 8) = false)
    ∧ Meets cmdSecLock (fun c _ => ((c.secure = true ∨ c.bit 1 0 = false)) ∧ 1 ≤ c.args.length)
    ∧ Meets cmdSecCrcCommit (fun c q => ((c.bit 1 0 = true → 2 ≤ c.args.length)) ∧ q.on R.CI_STAT_PENDING = false)
    ∧ Meets cmdSecViolRead (fun c _ => ((c.secure = true ∨ c.bit 1 16 = false)) ∧ 1 ≤ c.args.length ∧ 1 ≤ c.bits 1 11 8 ∧
        c.bits 1 11 8 ≤ 12)
    ∧ Meets cmdSecWindow (fun c q => q.unlocked ([{ f := R.FB_CFG_WIN_EN, v := c.bits 1 0 0 }]))
    ∧ Meets cmdSecDebugUnlock (fun c q => q.unlocked ([{ f := R.FB_CFG_DEBUG_PERMIT, v := c.bits 1 0 0 }])) :=
  ⟨meets (ready) { init := 4, mb := 0, tag := 7, args := [] } (by decide +kernel) trivial,
   meets (ready) { init := 4, mb := 0, tag := 7, args := [0x10C] } (by decide +kernel) (by decide +kernel),
   meets (ready) { init := 4, mb := 0, tag := 7, args := [0x10F] } (by decide +kernel) (by decide +kernel),
   meets (ready) { init := 4, mb := 0, tag := 7, args := [0x107] } (by decide +kernel) (by decide +kernel),
   meets (ready) { init := 5, mb := 9, tag := 7, args := [2] } (by decide +kernel) (by decide +kernel),
   meets (ready) { init := 4, mb := 0, tag := 7, args := [1, 0x12345678] } (by decide +kernel) (by decide +kernel),
   meets (ready) { init := 4, mb := 0, tag := 7, args := [0x10C00] } (by decide +kernel) (by decide +kernel),
   meets (ready) { init := 4, mb := 0, tag := 7, args := [1] } (by decide +kernel) (by decide +kernel),
   meets (ready) { init := 4, mb := 0, tag := 7, args := [0] } (by decide +kernel) (by decide +kernel)⟩

/-- The conditions of `Obligations.TelCommandsComplete` are met, each clause by a case of its own. -/
theorem test_meets_TelCommandsComplete :
    Meets cmdTelStatus (fun _ _ => True)
    ∧ Meets cmdTelCounterCfg (fun c q => (if c.bit 1 0 then 0 else c.bits 1 11 8) < 12 ∧ ((c.bit 1 0 = true ∨ c.bits 1 20 16 <
        8)) ∧ evnumOk (c.bit 1 0) (if c.bit 1 0 then 0 else c.bits 1 11 8) (c.bits 2 25 16) (c.bits 2 5 0) = true ∧ q.unlocked
        (cntWrites (c.bit 1 0) (if c.bit 1 0 then 0 else c.bits 1 11 8) (c.bits 1 20 16) (c.arg 2) (c.arg 3) (c.arg 4)))
    ∧ Meets cmdTelRead (fun c _ => c.bits 1 1 0 ≠ 3 ∧ c.bits 1 13 8 < (if c.bits 1 1 0 = 1 then 12 else if c.bits 1 1 0 = 2
        then 64 else 48) ∧ c.bits 1 21 16 ≤ (if c.bits 1 1 0 = 0 then 63 else if c.bits 1 1 0 = 1 then 7 else 31) ∧ 1 ≤ c.bits
        1 28 24 ∧ c.bits 1 28 24 ≤ 30)
    ∧ Meets cmdTelRead (fun c _ => c.bits 1 1 0 = 3 ∧ c.bits 1 13 8 < 48)
    ∧ Meets cmdTelWindowCfg (fun c q => c.bits 1 5 0 < 48 ∧ R.TL_BWp_CFG.ok (c.arg 2) = true ∧ R.TL_BWp_PER.ok (c.arg 3) =
        true ∧ q.unlocked (bwWrites (c.bits 1 5 0) 0 (c.arg 2) ++ bwWrites (c.bits 1 5 0) 1 (c.arg 3) ++ bwWrites (c.bits 1 5
        0) 2 (c.arg 4)))
    ∧ Meets cmdTelTallyCfg (fun c q => ((c.secure = true ∨ q.entryNonSecure 34 = true)) ∧ q.asleep 34 = false ∧ c.bit 1 0 =
        true ∧ 6 ≤ c.args.length ∧ ringOk (c.arg 2) (c.arg 3) (c.arg 4) = true ∧ ((q.on R.TL_RING_CFG_EN = true →
        q.changesMore R.TL_RING_CFG_EN ((List.range 5).flatMap fun w => ringWrites w (c.arg (2 + w))) = false)) ∧ q.ringWorld
        (c.arg 2) (c.arg 3) = true ∧ (q.unlocked ((List.range 5).flatMap fun w => ringWrites w (c.arg (2 + w)))))
    ∧ Meets cmdTelTallyCfg (fun c q => ((c.secure = true ∨ q.entryNonSecure 34 = true)) ∧ q.asleep 34 = false ∧ c.bit 1 0 =
        false ∧ 6 ≤ c.args.length ∧ R.TL_TSs_CFG.ok (c.arg 2) = true ∧ ((q.on R.TL_TSs_CFG_EN (c.bits 1 11 8) = true →
        q.changesMore R.TL_TSs_CFG_EN ((List.range 5).flatMap fun w => samplerWrites (c.bits 1 11 8) w (c.arg (2 + w))) =
        false)) ∧ (q.unlocked ((List.range 5).flatMap fun w => samplerWrites (c.bits 1 11 8) w (c.arg (2 + w)))))
    ∧ Meets cmdTelTallyRead (fun c q => ((c.secure = true ∨ q.entryNonSecure 34 = true)) ∧ q.asleep 34 = false ∧ c.bit 1 0 =
        true ∧ 2 ≤ c.args.length ∧ c.arg 2 < q.ringSize ∧ q.semTaken 36 (c.agent q 34) = false)
    ∧ Meets cmdTelTallyRead (fun c q => ((c.secure = true ∨ q.entryNonSecure 34 = true)) ∧ q.asleep 34 = false ∧ c.bit 1 0 =
        false ∧ 1 ≤ c.args.length ∧ 1 ≤ c.bits 1 15 8 ∧ c.bits 1 15 8 ≤ 240 ∧ q.on R.TL_RING_CFG_HOST = false ∧ q.semTaken 36
        (c.agent q 34) = false)
    ∧ Meets cmdTelEventCfg (fun _ _ => True) :=
  ⟨meets (ready) { init := 5, mb := 15, tag := 7, args := [] } (by decide +kernel) trivial,
   meets (ready) { init := 4, mb := 0, tag := 7, args := [0x70B00, 44, 0, 0] } (by decide +kernel) (by decide +kernel),
   meets (ready) { init := 4, mb := 0, tag := 7, args := [0x1E222F00] } (by decide +kernel) (by decide +kernel),
   meets (ready) { init := 4, mb := 0, tag := 7, args := [0x2F03] } (by decide +kernel) (by decide +kernel),
   meets (ready) { init := 4, mb := 0, tag := 7, args := [47, ready.word R.TL_BWp_CFG 47, ready.word R.TL_BWp_PER 47, 0] }
       (by decide +kernel) (by decide +kernel),
   meets (ready) { init := 4, mb := 0, tag := 7, args := [1, 0x000C0000, 0x700000, 0, 0, 0] } (by decide +kernel)
       (by decide +kernel),
   meets (ready) { init := 4, mb := 0, tag := 7, args := [0xF00, ready.word R.TL_TSs_CFG 15, 0, 0, 0, 0] } (by decide +kernel)
       (by decide +kernel),
   meets (ready) { init := 4, mb := 0, tag := 7, args := [1, 0] } (by decide +kernel) (by decide +kernel),
   meets (ready) { init := 4, mb := 0, tag := 7, args := [0xF000] } (by decide +kernel) (by decide +kernel),
   meets (ready) { init := 4, mb := 0, tag := 7, args := [127, 0x1FF] } (by decide +kernel) trivial⟩

/-- The conditions of `Obligations.CalCommandsComplete` are met, each clause by a case of its own. -/
theorem test_meets_CalCommandsComplete :
    Meets cmdCalStatus (fun _ _ => True)
    ∧ Meets cmdCalRun (fun c q => q.mode = 4 ∧ q.blkState 36 = 0 ∧ 1 ≤ c.args.length ∧ c.bit 1 17 = true)
    ∧ Meets cmdCalRun (fun c q => q.mode = 4 ∧ q.blkState 36 = 0 ∧ 1 ≤ c.args.length ∧ c.bit 1 17 = false ∧ 1 ≤ c.bits 1 3 0 ∧
        c.bits 1 3 0 ≤ 8 ∧ ((c.bits 1 15 8 = 255 ∨ c.bits 1 15 8 < calTargets (c.bits 1 3 0))) ∧ ((if c.bits 1 3 0 = 7 then 4
        else if c.bits 1 3 0 = 5 ∨ c.bits 1 3 0 = 6 then 2 else 1) ≤ c.args.length) ∧ ((c.bits 1 3 0 = 7 → c.bits 4 15 0 ≠ 0))
        ∧ ((c.bits 1 15 8 = 255 ∨ q.calAsleep (c.bits 1 3 0) (c.bits 1 15 8) = false)) ∧ q.calRuns = false ∧ q.calRefs (c.bits
        1 3 0) = true ∧ (((q.calTargetsOf (c.bits 1 3 0) (c.bits 1 15 8) (c.bits 4 23 16)).any fun k => q.calCond (c.bits 1 3
        0) k (c.bits 4 23 16)) = true) ∧ ((c.bits 1 3 0 = 5 → q.worldLocked (q.entryNonSecure (blockEntry (R.PT_KTXp_K_TX.addr
        + R.PT_KTXp_K_TX.s1 * (q.calTargetsOf (c.bits 1 3 0) (c.bits 1 15 8) (c.bits 4 23 16)).headD 0))) = false)) ∧ ((c.bits
        1 3 0 = 4 → q.worldLocked (q.entryNonSecure (blockEntry R.PT_DIE_OFS_DIE_OFS.addr)) = false)))
    ∧ Meets cmdCalResult (fun _ _ => True)
    ∧ Meets cmdCalRecordWrite (fun c q => q.forceOk (c.bit 1 8) = true ∧ 1 ≤ c.args.length ∧ c.bits 1 31 16 < recKeys (c.bits
        1 7 0) ∧ q.calWrites (c.bits 1 7 0) (c.bits 1 31 16) = false ∧ [0x01, 0x02, 0x04].contains (c.bits 1 7 0) = false ∧
        c.bit 1 9 = true ∧ c.bits 1 7 0 ≠ 0x03)
    ∧ Meets cmdCalRecordWrite (fun c q => q.forceOk (c.bit 1 8) = true ∧ 1 ≤ c.args.length ∧ c.bits 1 31 16 < recKeys (c.bits
        1 7 0) ∧ q.calWrites (c.bits 1 7 0) (c.bits 1 31 16) = false ∧ [0x01, 0x02, 0x04].contains (c.bits 1 7 0) = false ∧
        c.bit 1 9 = false ∧ ((c.args.drop 1).take (if c.bits 1 7 0 = 0x12 then max 2 (min 11 (c.args.length - 1)) else recLen
        (c.bits 1 7 0) (c.bits 1 31 16))).length = (if c.bits 1 7 0 = 0x12 then max 2 (min 11 (c.args.length - 1)) else recLen
        (c.bits 1 7 0) (c.bits 1 31 16)) ∧ ((c.bits 1 7 0 = 0x03 → q.rootOk (c.bits 1 31 16) ((c.args.drop 1).take (if c.bits
        1 7 0 = 0x12 then max 2 (min 11 (c.args.length - 1)) else recLen (c.bits 1 7 0) (c.bits 1 31 16))) = true)) ∧
        q.plausible (c.bits 1 7 0) (c.bits 1 31 16) none ((c.args.drop 1).take (if c.bits 1 7 0 = 0x12 then max 2 (min 11
        (c.args.length - 1)) else recLen (c.bits 1 7 0) (c.bits 1 31 16))) (c.bit 1 8) = 0 ∧ (q.nvPut (c.bits 1 7 0) (c.bits 1
        31 16) none ((c.args.drop 1).take (if c.bits 1 7 0 = 0x12 then max 2 (min 11 (c.args.length - 1)) else recLen (c.bits
        1 7 0) (c.bits 1 31 16)))).isSome)
    ∧ Meets cmdCalRecordRead (fun c q => c.bits 1 31 16 < recKeys (c.bits 1 7 0) ∧ (q.nvFind (c.bits 1 7 0) (c.bits 1 31 16)
        (if 2 ≤ c.args.length then some (c.bits 2 19 0) else none)).isSome)
    ∧ Meets cmdCalRecordRead (fun c q => c.bits 1 31 16 < recKeys (c.bits 1 7 0) ∧ (q.nvFind (c.bits 1 7 0) (c.bits 1 31 16)
        (if 2 ≤ c.args.length then some (c.bits 2 19 0) else none)) = none)
    ∧ Meets cmdCalLinkRecord (fun c q => q.forceOk (c.bit 1 9) = true ∧ c.bit 1 8 = true ∧ 2 ≤ c.args.length ∧ c.bits 1 5 0 <
        48 ∧ q.calWrites 0x20 (c.bits 1 5 0) = false)
    ∧ Meets cmdCalLinkRecord (fun c q => q.forceOk (c.bit 1 9) = true ∧ c.bit 1 8 = false ∧ 5 ≤ c.args.length ∧ c.bits 1 5 0 <
        48 ∧ c.bits 3 15 0 ≠ 0 ∧ q.calWrites 0x20 (c.bits 1 5 0) = false ∧ q.plausible 0x20 (c.bits 1 5 0) (some (c.bits 2 19
        0)) [c.bits 3 15 0, c.arg 4, c.arg 5, 0] (c.bit 1 9) = 0 ∧ (q.nvPut 0x20 (c.bits 1 5 0) (some (c.bits 2 19 0)) [c.bits
        3 15 0, c.arg 4, c.arg 5, 0]).isSome) :=
  ⟨meets (ready) { init := 4, mb := 0, tag := 7, args := [] } (by decide +kernel) trivial,
   meets (inMode 4) { init := 4, mb := 0, tag := 7, args := [0x20000] } (by decide +kernel) (by decide +kernel),
   meets ((inMode 4).writes [{ f := R.CA_REF_STAT_PPS_OK, v := 1 }, { f := R.CA_REF_STAT_TEN_OK, v := 1 }])
       { init := 4, mb := 0, tag := 7, args := [0x0F01] } (by decide +kernel) (by decide +kernel),
   meets (ready) { init := 4, mb := 0, tag := 7, args := [0] } (by decide +kernel) trivial,
   meets (ready) { init := 4, mb := 0, tag := 7, args := [0x000F0211] } (by decide +kernel) (by decide +kernel),
   meets (ready) { init := 4, mb := 0, tag := 7, args := [0x00000016, 0, 1, 2] } (by decide +kernel) (by decide +kernel),
   meets (withRecord) { init := 4, mb := 0, tag := 7, args := [0x00000015] } (by decide +kernel) (by decide +kernel),
   meets (ready) { init := 4, mb := 0, tag := 7, args := [0x00000015] } (by decide +kernel) (by decide +kernel),
   meets (ready) { init := 4, mb := 0, tag := 7, args := [0x12F, 5] } (by decide +kernel) (by decide +kernel),
   meets (ready) { init := 4, mb := 0, tag := 7, args := [47, 5, 1, 0, 0] } (by decide +kernel) (by decide +kernel)⟩

/-- The conditions of `Obligations.ControlEventsComplete` are met, each clause by a case of its own. -/
theorem test_meets_ControlEventsComplete :
    (∃ (s e : State) (dt core mb : Nat), e = s.elapse dt ∧ (core = 0 ∨ core = 2 ∨ core = 3) ∧ (e.coreReady core = true) ∧
        (e.takenBy core = none) ∧ ((e.turns core).find? e.mbWaiting = some mb))
    ∧ (∃ (s e : State) (dt core : Nat) (x : Taken), e = s.elapse dt ∧ (core = 2 ∨ core = 3) ∧ (e.coreReady core = true) ∧
        (e.takenBy core = some x) ∧ (e.heldBack core x.mb = true))
    ∧ (∃ (s e : State) (dt core : Nat) (x : Taken), e = s.elapse dt ∧ (core = 0 ∨ core = 2 ∨ core = 3) ∧ (e.coreReady core =
        true) ∧ (e.takenBy core = some x) ∧ (e.heldBack core x.mb = false) ∧ ((Tab.find? e.ctl.semWait x.mb).isSome = true))
    ∧ (∃ (s e : State) (dt mb : Nat) (x : Taken) (r : ImgRun), e = s.elapse dt ∧ (e.coreReady 0 = true) ∧ (e.takenBy 0 = some
        x) ∧ ((Tab.find? e.ctl.semWait x.mb).isSome = false) ∧ (e.ctl.load = some (mb, r)))
    ∧ (∃ (s e : State) (dt mb : Nat) (rest : List Nat), e = s.elapse dt ∧ (e.ctl.queue = mb :: rest) ∧ (e.coreReady 0 = true)
        ∧ (e.ctl.takenS = none))
    ∧ (∃ (s e : State) (dt : Nat), e = s.elapse dt ∧ (e.coreRuns 0 = true))
    ∧ (∃ (s e : State) (dt core region : Nat), e = s.elapse dt ∧ (region < 32) ∧ (e.coreRuns core = true))
    ∧ (∃ (s e : State) (dt core region : Nat), e = s.elapse dt ∧ (region < 32) ∧ (e.coreRuns core = true))
    ∧ (∃ (s e : State) (dt core t : Nat), e = s.elapse dt ∧ (Tab.find? e.ctl.kicked core = some t) ∧ (4 * t + 3 * e.get
        R.MB_WDTc_CFG_TIMEOUT core * 10 ^ 9 ≤ 4 * e.clk))
    ∧ (∃ (s q : State) (init core : Nat), q = s.quiet ∧ Allowed q init (0x660000 + 4 * core) true ∧ (core < 4) ∧ (q.coreRuns
        core = true))
    ∧ (∃ (s e : State) (dt core : Nat), e = s.elapse dt ∧ ((Tab.find? e.ctl.restart core).isNone = false) ∧ (e.runSlot = none
        ∨ e.imageSpoilt core = false))
    ∧ (∃ (s e : State) (dt core slot : Nat), e = s.elapse dt ∧ ((Tab.find? e.ctl.restart core).isNone = false) ∧ (e.runSlot =
        some slot) ∧ (e.imageSpoilt core = true)) :=
  ⟨⟨running.writes [{ f := R.MB_n_STATE_STATE, i := 9, v := 1 }, { f := R.MB_n_REQ_W, i := 9, v := 0x00010107 },
      { f := R.MB_n_SEQ_REQ_SEQ, i := 9, v := 1 }], _, 0, 2, 9, rfl, by decide +kernel, by decide +kernel, by decide +kernel,
      by decide +kernel⟩,
   ⟨(let s := (running.set R.MB_n_STATE_STATE 1 9).set R.MB_n_REQ_W 0x2101 9;
       { s with ctl := { s.ctl with taken2 := some { mb := 9 } } }), _, 0, 2, { mb := 9 }, rfl, by decide +kernel,
       by decide +kernel, by decide +kernel, by decide +kernel⟩,
   ⟨({ running with ctl := { running.ctl with taken2 := some { mb := 9 }, semWait := [(9, 0)] } }), _, 0, 2, { mb := 9 }, rfl,
       by decide +kernel, by decide +kernel, by decide +kernel, by decide +kernel, by decide +kernel⟩,
   ⟨({ running with ctl := { running.ctl with takenS := some { mb := 1 }, load := some (1, {}) } }), _, 0, 1, { mb := 1 }, {},
       rfl, by decide +kernel, by decide +kernel, by decide +kernel, by decide +kernel⟩,
   ⟨({ running with ctl := { running.ctl with queue := [9, 12] } }), _, 0, 9, [12], rfl, by decide +kernel, by decide +kernel,
       by decide +kernel⟩,
   ⟨running, _, 0, rfl, by decide +kernel⟩,
   ⟨running, _, 0, 3, 31, rfl, by decide +kernel, by decide +kernel⟩,
   ⟨running, _, 0, 2, 31, rfl, by decide +kernel, by decide +kernel⟩,
   ⟨({ running with clk := 375 * 10 ^ 9 }), _, 0, 3, 0, rfl, by decide +kernel, by decide +kernel⟩,
   ⟨running, _, 0, 3, rfl, (by decide +kernel : State.checkAccess _ _ _ _ = none), by decide +kernel, by decide +kernel⟩,
   ⟨running.restartCore 2 1, _, 0, 2, rfl, by decide +kernel, by decide +kernel⟩,
   ⟨(let s := running.restartCore 0 3; { s with ctl := { s.ctl with fwVersion := some 1 } }), _, 0, 0, 0, rfl,
       by decide +kernel, by decide +kernel, by decide +kernel⟩⟩

/-- The conditions of `Obligations.SemaphoresComplete` are met, each clause by a case of its own. -/
theorem test_meets_SemaphoresComplete :
    (∃ (s q : State) (init n lease : Nat), q = s.quiet ∧ (n < 64) ∧ (init ≠ 8) ∧ (semOpen init n = true) ∧ ((q.semOf n).held =
        false) ∧ (1 ≤ lease) ∧ (lease ≤ 1000))
    ∧ (∃ (s q : State) (init n : Nat), q = s.quiet ∧ (n < 64) ∧ (init ≠ 8) ∧ (semOpen init n = true) ∧ ((q.semOf n).held =
        false))
    ∧ (∃ (s q : State) (init n lease : Nat), q = s.quiet ∧ (n < 64) ∧ (init ≠ 8) ∧ (semOpen init n = true) ∧ (1000 < lease) ∧
        (lease < 1024))
    ∧ (∃ (s q : State) (init n lease : Nat), q = s.quiet ∧ (n < 64) ∧ (init ≠ 8) ∧ (semOpen init n = true) ∧ (lease ≤ 1000) ∧
        ((q.semOf n).held = true))
    ∧ (∃ (s q : State) (init n lease : Nat), q = s.quiet ∧ (n < 64) ∧ (init ≠ 8) ∧ (semOpen init n = true) ∧ ((q.semOf n).seen
        / 800 = q.clk / 800) ∧ (lease ≤ 1000) ∧ ((q.semOf n).held = true) ∧ ((q.semOf n).fresh = true) ∧ (init < (q.semOf
        n).owner))
    ∧ (∃ (s q : State) (init n : Nat), q = s.quiet ∧ (n < 64) ∧ (init ≠ 8) ∧ (semOpen init n = true) ∧ ((q.semOf n).held =
        true) ∧ ((q.semOf n).owner = init))
    ∧ (∃ (s q : State) (init n a lease : Nat), q = s.quiet ∧ (n < 64) ∧ (init ≠ 8) ∧ (semOpen init n = true) ∧ ((q.semOf
        n).seen / 800 = q.clk / 800) ∧ ((q.semOf n).held = true) ∧ ((q.semOf n).owner = init) ∧ (firstTried (q.semOf n).tried
        = some (a, lease)))
    ∧ (∃ (s q : State) (init n : Nat), q = s.quiet ∧ (n < 64) ∧ (init ≠ 8) ∧ (semOpen init n = true) ∧ ((q.semOf n).held =
        false ∨ (q.semOf n).owner ≠ init))
    ∧ (∃ (s q : State) (init n : Nat), q = s.quiet ∧ (n < 64) ∧ (init ≠ 8) ∧ (semOpen init n = false))
    ∧ (∃ (s e : State) (dt n t : Nat), e = s.elapse dt ∧ (n < 64) ∧ ((e.semOf n).held = true) ∧ ((e.semOf n).lease = some t) ∧
        (t ≤ e.clk)) :=
  ⟨⟨ready, _, 4, 31, 1000, rfl, by decide +kernel, by decide +kernel, by decide +kernel, by decide +kernel, by decide +kernel,
      by decide +kernel⟩,
   ⟨ready, _, 2, 32, rfl, by decide +kernel, by decide +kernel, by decide +kernel, by decide +kernel⟩,
   ⟨ready, _, 2, 32, 1001, rfl, by decide +kernel, by decide +kernel, by decide +kernel, by decide +kernel,
       by decide +kernel⟩,
   ⟨({ ready with sem := [(40, { held := true, owner := 2, lease := some 7, seen := 7 })], clk := 7 }), _, 2, 40, 1000, rfl,
       by decide +kernel, by decide +kernel, by decide +kernel, by decide +kernel, by decide +kernel⟩,
   ⟨({ ready with sem := [(40, { held := true, owner := 5, seen := 7, fresh := true })], clk := 7 }), _, 4, 40, 10, rfl,
       by decide +kernel, by decide +kernel, by decide +kernel, by decide +kernel, by decide +kernel, by decide +kernel,
       by decide +kernel, by decide +kernel⟩,
   ⟨({ ready with sem := [(40, { held := true, owner := 2, lease := some 7, seen := 7 })], clk := 7 }), _, 2, 40, rfl,
       by decide +kernel, by decide +kernel, by decide +kernel, by decide +kernel, by decide +kernel⟩,
   ⟨({ ready with sem := [(40, { held := true, owner := 5, seen := 7, tried := [(3, 0), (2, 10)] })], clk := 7 }), _, 5, 40,
       2, 10, rfl, by decide +kernel, by decide +kernel, by decide +kernel, by decide +kernel, by decide +kernel,
       by decide +kernel, by decide +kernel⟩,
   ⟨({ ready with sem := [(40, { held := true, owner := 2, lease := some 7, seen := 7 })], clk := 7 }), _, 3, 40, rfl,
       by decide +kernel, by decide +kernel, by decide +kernel, by decide +kernel⟩,
   ⟨ready, _, 5, 31, rfl, by decide +kernel, by decide +kernel, by decide +kernel⟩,
   ⟨({ ready with sem := [(40, { held := true, owner := 2, lease := some 7, seen := 7 })], clk := 7 }), _, 0, 40, 7, rfl,
       by decide +kernel, by decide +kernel, by decide +kernel, by decide +kernel⟩⟩

/-- The conditions of `Obligations.ResetsAndMonitorsComplete` are met, each clause by a case of its own. -/
theorem test_meets_ResetsAndMonitorsComplete :
    (∃ (s e : State) (dt : Nat), e = s.elapse dt)
    ∧ (∃ (s e : State) (dt : Nat), e = s.elapse dt ∧ (e.pw.off = false))
    ∧ (∃ (s e : State) (dt : Nat) (r : ResetReq), e = s.elapse dt ∧ (e.pw.reset = some r) ∧ (r.scope = 0) ∧ (r.at_ + 10 ^ 9 ≤
        e.clk))
    ∧ (∃ (s e : State) (dt : Nat) (r : ResetReq), e = s.elapse dt ∧ (e.pw.reset = some r) ∧ (r.scope ≠ 0) ∧ (r.at_ + 10 ^ 9 ≤
        e.clk))
    ∧ (∃ (s e : State) (dt f : Nat), e = s.elapse dt ∧ (e.pw.failedAt = some f) ∧ (f + 10 ^ 11 ≤ e.clk))
    ∧ (∃ (s e : State) (dt : Nat), e = s.elapse dt ∧ (e.pw.dormant = true))
    ∧ (∃ (s e : State) (dt : Nat), e = s.elapse dt ∧ (e.dormantNow = true) ∧ (e.on R.PM_WAKE_CFG_WAKE_PIN_EN = true))
    ∧ (∃ (s e : State) (dt : Nat), e = s.elapse dt ∧ (e.dormantNow = true) ∧ (e.on R.PM_WAKE_CFG_ALARM_EN = true) ∧ (e.get64
        R.PM_WAKE_ALARM_LO_ALARM R.PM_WAKE_ALARM_HI_ALARM ≤ e.keeper))
    ∧ (∃ (s e : State) (dt : Nat), e = s.elapse dt)
    ∧ (∃ (s e : State) (dt r : Nat), e = s.elapse dt ∧ (r < 8) ∧ (bitOf (e.get R.PM_SUPPLY_STAT_OUT) r = false))
    ∧ (∃ (s e : State) (dt r : Nat), e = s.elapse dt ∧ (r < 8) ∧ (bitOf (e.get R.PM_SUPPLY_STAT_OUT) r = true))
    ∧ (∃ (s e : State) (dt : Nat), e = s.elapse dt ∧ (e.pw.tempAt + 10 ^ 9 ≤ e.clk))
    ∧ (∃ (s e : State) (dt : Nat), e = s.elapse dt ∧ (e.pw.saveAt + 10 ^ 12 ≤ e.clk) ∧ (e.coreRuns 0 = true)) :=
  ⟨⟨ready, _, 0, rfl⟩,
   ⟨ready, _, 0, rfl, by decide +kernel⟩,
   ⟨({ ready with clk := 10 ^ 9, pw := { ready.pw with reset := some { scope := 0, warm := true, clr := false, at_ := 0 } } }),
       _, 0, { scope := 0, warm := true, clr := false, at_ := 0 }, rfl, by decide +kernel, by decide +kernel,
       by decide +kernel⟩,
   ⟨({ ready with clk := 10 ^ 9, pw := { ready.pw with reset := some { scope := 2, warm := true, clr := false, at_ := 0 } } }),
       _, 0, { scope := 2, warm := true, clr := false, at_ := 0 }, rfl, by decide +kernel, by decide +kernel,
       by decide +kernel⟩,
   ⟨({ ready with clk := 10 ^ 11, pw := { ready.pw with failedAt := some 0 } }), _, 0, 0, rfl, by decide +kernel,
       by decide +kernel⟩,
   ⟨({ ready with pw := { ready.pw with dormant := true } }), _, 0, rfl, by decide +kernel⟩,
   ⟨((inMode 0).set R.PM_WAKE_CFG_WAKE_PIN_EN 1), _, 0, rfl, by decide +kernel, by decide +kernel⟩,
   ⟨((inMode 0).set R.PM_WAKE_CFG_ALARM_EN 1), _, 0, rfl, by decide +kernel, by decide +kernel, by decide +kernel⟩,
   ⟨ready, _, 0, rfl⟩,
   ⟨ready, _, 0, 7, rfl, by decide +kernel, by decide +kernel⟩,
   ⟨(ready.set R.PM_SUPPLY_STAT_OUT 0x84), _, 0, 7, rfl, by decide +kernel, by decide +kernel⟩,
   ⟨({ ready with clk := 10 ^ 9 }), _, 0, rfl, by decide +kernel⟩,
   ⟨({ running with clk := 10 ^ 12 }), _, 0, rfl, by decide +kernel, by decide +kernel⟩⟩

/-- The conditions of `Obligations.StartStepsComplete` are met, each clause by a case of its own. -/
theorem test_meets_StartStepsComplete :
    (∃ (s e : State) (dt : Nat), e = s.elapse dt ∧ (e.enterS1.stepNow 1 = true) ∧ (e.enterS1.pw.begun = false) ∧
        (((((List.range 4).foldl (fun s a => s.set R.SY_APLLa_STAT_REF_OK 1 a) e.enterS1.beganStep).trainLinks [0, 1,
        2]).runEntries 1).2 = some true) ∧ (e.enterS1.overLimit 1 = false))
    ∧ (∃ (s e : State) (dt : Nat), e = s.elapse dt ∧ (e.enterS1.stepNow 1 = true) ∧ (e.enterS1.pw.begun = false) ∧
        (e.enterS1.overLimit 1 = false))
    ∧ (∃ (s e : State) (dt : Nat), e = s.elapse dt ∧ (e.stepNow 2 = true) ∧ (e.pw.begun = false) ∧ ((e.beganStep.warmStart &&
        e.beganStep.pw.trim) = false) ∧ (e.beganStep.loadRecords.2 = true) ∧ (((e.beganStep.loadRecords.1).runEntries 2).2 =
        some true) ∧ (e.overLimit 2 = false))
    ∧ (∃ (s e : State) (dt : Nat), e = s.elapse dt ∧ (e.stepNow 2 = true) ∧ (e.pw.begun = false) ∧ (e.beganStep.warmStart =
        true) ∧ (e.beganStep.pw.trim = true) ∧ ((e.beganStep.runEntries 2).2 = some true) ∧ (e.overLimit 2 = false))
    ∧ (∃ (s e : State) (dt : Nat) (ok : Bool), e = s.elapse dt ∧ (e.stepNow 3 = true) ∧ (e.pw.begun = false) ∧ ((e.warmStart
        || ok) = true) ∧ ((e.beganStep.runEntries 3).2 = some true) ∧ (e.overLimit 3 = false))
    ∧ (∃ (s e : State) (dt : Nat), e = s.elapse dt ∧ (e.stepNow 3 = true) ∧ (e.pw.begun = false) ∧ (e.warmStart = false) ∧
        (e.overLimit 3 = false))
    ∧ (∃ (s e : State) (dt : Nat), e = s.elapse dt ∧ (e.stepNow 4 = true) ∧ (e.pw.begun = false))
    ∧ (∃ (s e : State) (dt : Nat), e = s.elapse dt ∧ (e.stepNow 4 = true) ∧ (e.pw.begun = true) ∧ ((e.runEntries 4).2 = some
        true) ∧ (e.overLimit 4 = false))
    ∧ (∃ (s e : State) (dt : Nat), e = s.elapse dt ∧ (e.stepNow 5 = true) ∧ (e.pw.begun = true) ∧ ((e.runEntries 5).2 = some
        true) ∧ ((e.runEntries 5).1.on R.SY_APLLa_STAT_LOCKED 0 = true) ∧ ((e.runEntries 5).1.on R.SY_APLLa_STAT_LOCKED 1 =
        true) ∧ (e.overLimit 5 = false))
    ∧ (∃ (s e : State) (dt : Nat), e = s.elapse dt ∧ (e.stepNow 5 = true) ∧ (e.pw.begun = false) ∧ ((((List.range 4).foldl
        (fun s a => if s.on R.SY_APLLa_CFG_EN a then s.relock a else s) e.beganStep).runEntries 5).2 = some true) ∧
        (((((List.range 4).foldl (fun s a => if s.on R.SY_APLLa_CFG_EN a then s.relock a else s) e.beganStep).runEntries
        5).1.on R.SY_APLLa_STAT_LOCKED 0 && (((List.range 4).foldl (fun s a => if s.on R.SY_APLLa_CFG_EN a then s.relock a
        else s) e.beganStep).runEntries 5).1.on R.SY_APLLa_STAT_LOCKED 1) = false) ∧ (e.overLimit 5 = false))
    ∧ (∃ (s e : State) (dt : Nat), e = s.elapse dt ∧ (e.stepNow 6 = true) ∧ (e.pw.begun = false) ∧
        ((e.beganStep.openTraining.runEntries 6).2 = some true) ∧ (e.overLimit 6 = false))
    ∧ (∃ (s e : State) (dt : Nat), e = s.elapse dt ∧ (e.stepNow 7 = true) ∧ (e.pw.begun = false) ∧ ((e.beganStep.runEntries
        7).2 = some true) ∧ ((e.beganStep.runEntries 7).1.allActive = true ∨ (e.beganStep.runEntries 7).1.pw.stepAt + 10 ^ 12
        ≤ (e.beganStep.runEntries 7).1.clk) ∧ (e.overLimit 7 = false))
    ∧ (∃ (s e : State) (dt : Nat), e = s.elapse dt ∧ (e.stepNow 8 = true) ∧ (e.pw.begun = false) ∧ (((if e.beganStep.warmStart
        then e.beganStep.resumeTime else e.beganStep).runEntries 8).2 = some true) ∧ (e.overLimit 8 = false))
    ∧ (∃ (s e : State) (dt : Nat) (vs : List Int), e = s.elapse dt ∧ (e.stepNow 9 = true) ∧ (e.pw.begun = false) ∧
        (e.beganStep.warmStart = false) ∧ (((e.beganStep.measureDelays vs).runEntries 9).2 = some true) ∧ (e.overLimit 9 =
        false))
    ∧ (∃ (s e : State) (dt : Nat), e = s.elapse dt ∧ (e.stepNow 9 = true) ∧ (e.pw.begun = false) ∧ (e.beganStep.warmStart =
        true) ∧ ((e.beganStep.resumeDelays.runEntries 9).2 = some true) ∧ (e.overLimit 9 = false))
    ∧ (∃ (s e : State) (dt : Nat), e = s.elapse dt ∧ (e.stepNow 10 = true) ∧ (e.pw.begun = false) ∧
        ((e.beganStep.startGnss.runEntries 10).2 = some true) ∧ (e.overLimit 10 = false))
    ∧ (∃ (s e : State) (dt : Nat), e = s.elapse dt ∧ (e.stepNow 11 = true) ∧ (e.pw.begun = false) ∧ ((e.beganStep.runEntries
        11).2 = some true) ∧ ((e.beganStep.runEntries 11).1.placeAgain.foState < 2) ∧ (e.overLimit 11 = false))
    ∧ (∃ (s e : State) (dt : Nat), e = s.elapse dt ∧ (e.stepNow 12 = true) ∧ (e.pw.begun = false) ∧ (e.ci.commit = none) ∧
        ((e.beganStep.runEntries 12).2 = some true) ∧ ((e.beganStep.runEntries 12).1.imageCommits = false) ∧
        ((e.beganStep.runEntries 12).1.pw.committed = false) ∧ (e.overLimit 12 = false))
    ∧ (∃ (s e : State) (dt : Nat), e = s.elapse dt ∧ (e.stepNow 12 = true) ∧ (e.pw.begun = true) ∧ ((e.runEntries 12).2 = some
        true) ∧ ((e.runEntries 12).1.imageCommits = false) ∧ ((e.runEntries 12).1.pw.committed = true) ∧ ((e.runEntries
        12).1.ci.commit = none) ∧ (e.overLimit 12 = false))
    ∧ (∃ (s e : State) (dt : Nat), e = s.elapse dt ∧ (e.stepNow 12 = true) ∧ (e.pw.begun = true) ∧ ((e.runEntries 12).2 = some
        true) ∧ ((e.runEntries 12).1.imageCommits = true) ∧ ((e.runEntries 12).1.pw.committed = true) ∧ ((e.runEntries
        12).1.pw.checkNext = false) ∧ ((e.runEntries 12).1.on R.CI_STAT_DRIFT = false) ∧ (e.overLimit 12 = false))
    ∧ (∃ (s e : State) (dt k l : Nat), e = s.enterS1.elapse dt ∧ e.on R.MODE_STATE_START_RUN = true ∧ e.get R.MODE_STATE_STEP
        = k ∧ stepLimit k e.warmStart = some l ∧ e.pw.stepAt + l * 10 ^ 9 < e.clk) :=
  ⟨⟨(State.reset), _, 0, rfl, by decide +kernel, by decide +kernel, by decide +kernel, by decide +kernel⟩,
   ⟨State.reset, _, 0, rfl, by decide +kernel, by decide +kernel, by decide +kernel⟩,
   ⟨((match (atStep 2 0).nvPut 0x01 0 none [1, 2, 64, 0] with | some (_, t) => t | none => atStep 2 0)), _, 0, rfl,
       by decide +kernel, by decide +kernel, by decide +kernel, by decide +kernel, by decide +kernel, by decide +kernel⟩,
   ⟨((let s := atStep 2 1; { s with pw := { s.pw with trim := true } })), _, 0, rfl, by decide +kernel, by decide +kernel,
       by decide +kernel, by decide +kernel, by decide +kernel, by decide +kernel⟩,
   ⟨(atStep 3 0), _, 0, true, rfl, by decide +kernel, by decide +kernel, by decide +kernel, by decide +kernel,
       by decide +kernel⟩,
   ⟨(atStep 3 0), _, 0, rfl, by decide +kernel, by decide +kernel, by decide +kernel, by decide +kernel⟩,
   ⟨(atStep 4 0), _, 0, rfl, by decide +kernel, by decide +kernel⟩,
   ⟨(begun (atStep 4 0)), _, 0, rfl, by decide +kernel, by decide +kernel, by decide +kernel, by decide +kernel⟩,
   ⟨(begun ((atStep 5 0).writes [{ f := R.SY_APLLa_STAT_LOCKED, v := 1 }, { f := R.SY_APLLa_STAT_LOCKED, i := 1, v := 1 }])),
       _, 0, rfl, by decide +kernel, by decide +kernel, by decide +kernel, by decide +kernel, by decide +kernel,
       by decide +kernel⟩,
   ⟨(atStep 5 0), _, 0, rfl, by decide +kernel, by decide +kernel, by decide +kernel, by decide +kernel, by decide +kernel⟩,
   ⟨(atStep 6 0), _, 0, rfl, by decide +kernel, by decide +kernel, by decide +kernel, by decide +kernel⟩,
   ⟨(atStep 7 0), _, 0, rfl, by decide +kernel, by decide +kernel, by decide +kernel, by decide +kernel, by decide +kernel⟩,
   ⟨(atStep 8 1), _, 0, rfl, by decide +kernel, by decide +kernel, by decide +kernel, by decide +kernel⟩,
   ⟨(atStep 9 0), _, 0, [], rfl, by decide +kernel, by decide +kernel, by decide +kernel, by decide +kernel,
       by decide +kernel⟩,
   ⟨(atStep 9 1), _, 0, rfl, by decide +kernel, by decide +kernel, by decide +kernel, by decide +kernel, by decide +kernel⟩,
   ⟨(atStep 10 0), _, 0, rfl, by decide +kernel, by decide +kernel, by decide +kernel, by decide +kernel⟩,
   ⟨(atStep 11 0), _, 0, rfl, by decide +kernel, by decide +kernel, by decide +kernel, by decide +kernel, by decide +kernel⟩,
   ⟨(atStep 12 0), _, 0, rfl, by decide +kernel, by decide +kernel, by decide +kernel, by decide +kernel, by decide +kernel,
       by decide +kernel, by decide +kernel⟩,
   ⟨((let s := begun (atStep 12 0); { s with pw := { s.pw with committed := true } })), _, 0, rfl, by decide +kernel,
       by decide +kernel, by decide +kernel, by decide +kernel, by decide +kernel, by decide +kernel, by decide +kernel⟩,
   ⟨((let s := withFlash (begun (atStep 12 0)) 0x800000 (leBytes 4 0x4B5A494D ++ [1, 2] ++ leBytes 2 0 ++ leBytes 4 9 ++
       leBytes 4 12); let s := withFlash s 0x800100 (leBytes 4 2 ++ leBytes 4 0x00013006 ++ leBytes 4 1);
       { s with pw := { s.pw with committed := true, run := some {} }, ctl := { s.ctl with cfgImage := some (9, 0) } })), _,
       0, rfl, by decide +kernel, by decide +kernel, by decide +kernel, by decide +kernel, by decide +kernel,
       by decide +kernel, by decide +kernel, by decide +kernel⟩,
   ⟨({ atStep 12 0 with clk := 10 ^ 10 + 1 }), _, 0, 12, 10, rfl, by decide +kernel, by decide +kernel, by decide +kernel,
       by decide +kernel⟩⟩

/-- The conditions of `Obligations.HeartwoodEventsComplete` are met, each clause by a case of its own. -/
theorem test_meets_HeartwoodEventsComplete :
    (∃ (s e : State) (dt die n : Nat), e = s.elapse dt ∧ (n < 8) ∧ (die < 2) ∧ (e.pulseDue die n = true))
    ∧ (∃ (s e : State) (dt k : Nat), e = s.elapse dt ∧ (k < 4) ∧ (e.on R.HW_PAIRk_CFG_EN k = true) ∧ (0 < e.sampleMs k))
    ∧ (∃ (s e : State) (dt k cause : Nat), e = s.elapse dt ∧ (k < 4) ∧ (e.on R.HW_PAIRk_CFG_EN k = true) ∧ (0 < e.sampleMs k)
        ∧ ((e.pairRec k).awaiting = some cause))
    ∧ (∃ (s q : State) (init k : Nat), q = s.quiet ∧ Allowed q init (0x610000 + 4 * k) true ∧ (k < 4) ∧ (q.on
        R.HW_PAIRk_CFG_EN k = true) ∧ ((q.pairRec k).awaiting = none) ∧ (q.pairConverging k = false) ∧ ((q.pairRec
        k).ofs.natAbs ≤ switchMax))
    ∧ (∃ (s e : State) (dt n : Nat), e = s.elapse dt ∧ (n < 8))
    ∧ (∃ (s q : State) (init n v : Nat), q = s.quiet ∧ Allowed q init (0x610108 + 0x40 * n) true ∧ (n < 8) ∧ (q.on
        R.HW_TBn_CTRL_SRC n = true) ∧ (q.tbOn n = true) ∧ ((sext 40 ((q.tbOf n).freqLo + v % 256 * 2 ^ 32)).natAbs ≤
        140737488355) ∧ (q.writable [{ f := R.HW_TBn_FREQ_HI_FREQ, i := n, v := v % 256 }]))
    ∧ (∃ (s q : State) (init n : Nat), q = s.quiet ∧ Allowed q init (0x610108 + 0x40 * n) true ∧ (n < 8) ∧ (q.on
        R.HW_TBn_CTRL_SRC n = false))
    ∧ (∃ (s q : State) (init n v : Nat), q = s.quiet ∧ Allowed q init (0x610108 + 0x40 * n) true ∧ (n < 8) ∧ (q.on
        R.HW_TBn_CTRL_SRC n = true) ∧ ((q.tbOn n = false ∨ 140737488355 < (sext 40 ((q.tbOf n).freqLo + v % 256 * 2 ^
        32)).natAbs)) ∧ (q.writable [{ f := R.HW_TBn_FREQ_HI_FREQ, i := n, v := v % 256 }]))
    ∧ (∃ (s q : State) (init m w : Nat), q = s.quiet ∧ Allowed q init (0x610400 + 0x10 * m) true ∧ (m < 32) ∧ (q.writable
        (R.HW_CMPm_CTRL.writes w m)))
    ∧ (∃ (s e : State) (dt m : Nat), e = s.elapse dt ∧ (m < 32) ∧ (e.on R.HW_CMPm_CTRL_ARM m = true) ∧ (e.tbOn (e.get
        R.HW_CMPm_CTRL_TB m) = true) ∧ (e.cmpGoal m ≤ units16 (e.time (e.get R.HW_CMPm_CTRL_TB m))))
    ∧ (∃ (s q : State) (init w : Nat), q = s.quiet ∧ Allowed q init (0x200000) true ∧ (bitOf w 31 = true))
    ∧ (∃ (s q : State) (init w : Nat), q = s.quiet ∧ Allowed q init (0x200000) true ∧ (bitOf w 31 = false))
    ∧ (∃ (s e : State) (dt : Nat), e = s.elapse dt ∧ (e.on R.TS_SNAP_CTRL_BUSY = true)) :=
  ⟨⟨tbState, _, 10 ^ 9, 1, 1, rfl, by decide +kernel, by decide +kernel, by decide +kernel⟩,
   ⟨(ready.writes [{ f := R.HW_PAIRk_CFG_EN, i := 3, v := 1 }, { f := R.HW_TBn_CTRL_EN, v := 1 }]), _, 10 ^ 9, 3, rfl,
       by decide +kernel, by decide +kernel, by decide +kernel⟩,
   ⟨((ready.writes [{ f := R.HW_PAIRk_CFG_EN, i := 3, v := 1 }, { f := R.HW_TBn_CTRL_EN, v := 1 }]).requestSwitch 3 1 none),
       _, 10 ^ 9, 3, 1, rfl, by decide +kernel, by decide +kernel, by decide +kernel, by decide +kernel⟩,
   ⟨(ready.writes [{ f := R.HW_PAIRk_CFG_EN, i := 3, v := 1 }, { f := R.HW_TBn_CTRL_EN, v := 1 }]), _, 0, 3, rfl,
       (by decide +kernel : State.checkAccess _ _ _ _ = none), by decide +kernel, by decide +kernel, by decide +kernel,
       by decide +kernel, by decide +kernel⟩,
   ⟨ready, _, 0, 7, rfl, by decide +kernel⟩,
   ⟨tbState, _, 0, 1, 0xFF, rfl, (by decide +kernel : State.checkAccess _ _ _ _ = none), by decide +kernel, by decide +kernel,
       by decide +kernel, by decide +kernel, by decide +kernel⟩,
   ⟨ready, _, 0, 7, rfl, (by decide +kernel : State.checkAccess _ _ _ _ = none), by decide +kernel, by decide +kernel⟩,
   ⟨tbState, _, 0, 1, 0x21, rfl, (by decide +kernel : State.checkAccess _ _ _ _ = none), by decide +kernel, by decide +kernel,
       by decide +kernel, by decide +kernel⟩,
   ⟨tbState, _, 0, 31, 9, rfl, (by decide +kernel : State.checkAccess _ _ _ _ = none), by decide +kernel, by decide +kernel⟩,
   ⟨(tbState.writes [{ f := R.HW_CMPm_CTRL_TB, i := 31, v := 1 }, { f := R.HW_CMPm_CTRL_ARM, i := 31, v := 1 }]), _, 0, 31,
       rfl, by decide +kernel, by decide +kernel, by decide +kernel, by decide +kernel⟩,
   ⟨ready, _, 4, 0x80000203, rfl, (by decide +kernel : State.checkAccess _ _ _ _ = none), by decide +kernel⟩,
   ⟨ready, _, 5, 0x203, rfl, (by decide +kernel : State.checkAccess _ _ _ _ = none), by decide +kernel⟩,
   ⟨(ready.set R.TS_SNAP_CTRL_BUSY 1), _, 0, rfl, by decide +kernel⟩⟩

/-- The conditions of `Obligations.OutputEventsComplete` are met, each clause by a case of its own. -/
theorem test_meets_OutputEventsComplete :
    (∃ (s e : State) (dt n : Nat), e = s.elapse dt ∧ (n < 4) ∧ (e.ppsCmpMode n = false) ∧ ((e.ppsOf n).seen < secsOf
        (e.ppsTime n)))
    ∧ (∃ (s e : State) (dt n : Nat) (edge : Int) (rest : List Int), e = s.elapse dt ∧ (n < 4) ∧ (e.ppsCmpMode n = true) ∧
        ((e.ppsOf n).due = edge :: rest))
    ∧ (∃ (s e : State) (dt n : Nat), e = s.elapse dt ∧ (n < 4) ∧ (e.ppsCmpMode n = true) ∧ ((e.ppsOf n).due = []) ∧
        (e.ppsAhead n = true))
    ∧ (∃ (s e : State) (dt n : Nat) (t : Int), e = s.elapse dt ∧ (n < 4) ∧ ((e.ppsOf n).on = some t) ∧ (t + (e.get
        R.HW_PPSn_WIDTH_WIDTH n * 10 ^ 6 : Nat) ≤ (e.clk : Int)))
    ∧ (∃ (s e : State) (dt : Nat) (f : TodFrame) (rest : List TodFrame), e = s.elapse dt ∧ (e.serial.frames = f :: rest) ∧
        (f.at_ + (f.offset * 10 ^ 9 : Nat) ≤ (e.clk : Int)) ∧ (e.on R.HW_TOD_CFG_EN = true) ∧ (e.todDriven = true))
    ∧ (∃ (s e : State) (dt : Nat) (f : TodFrame) (rest : List TodFrame), e = s.elapse dt ∧ (e.serial.frames = f :: rest) ∧
        (f.at_ + (f.offset * 10 ^ 9 : Nat) ≤ (e.clk : Int)) ∧ ((e.on R.HW_TOD_CFG_EN && e.todDriven) = false))
    ∧ (∃ (s e : State) (dt : Nat), e = s.elapse dt ∧ (e.serial.irigSeen < secsOf e.irigTime) ∧ (e.irigBegins (secsOf
        e.irigTime) = true))
    ∧ (∃ (s e : State) (dt : Nat), e = s.elapse dt ∧ (e.serial.irigSeen < secsOf e.irigTime) ∧ (e.irigBegins (secsOf
        e.irigTime) = false))
    ∧ (∃ (s e : State) (dt p cls : Nat), e = s.elapse dt ∧ (p < 48) ∧ (e.portFree p = true) ∧ ((((e.fillBuckets
        p).judgeWindows p).chooseClass p).map Prod.fst = some cls))
    ∧ (∃ (s e : State) (dt p : Nat), e = s.elapse dt ∧ (p < 48) ∧ (e.portFree p = true) ∧ (((e.fillBuckets p).judgeWindows
        p).chooseClass p = none))
    ∧ (∃ (s e : State) (dt p : Nat) (x : Tx), e = s.elapse dt ∧ (p < 48) ∧ (Tab.find? e.cl.tx p = some x) ∧ (x.stop ≤ e.clk))
        :=
  ⟨⟨({ tbState with tb := Tab.upd {} tbState.tb 0 fun b => { b with acc := 5 * secUnit * 2 ^ 33 } }), _, 0, 3, rfl,
      by decide +kernel, by decide +kernel, by decide +kernel⟩,
   ⟨((tbState.set R.HW_PPSn_CFG_MODE 2 3).ppsUpd 3 fun p => { p with due := [5] }), _, 0, 3, 5, [], rfl, by decide +kernel,
       by decide +kernel, by decide +kernel⟩,
   ⟨(tbState.writes [{ f := R.HW_PPSn_CFG_MODE, i := 3, v := 2 }, { f := R.HW_PPSn_CFG_CMP_NUM, i := 3, v := 31 },
       { f := R.HW_PPSn_DLY_DLY, i := 3, v := 2 ^ 32 - 5 }, { f := R.HW_CMPm_CTRL_TB, i := 31, v := 1 },
       { f := R.HW_CMPm_CTRL_ARM, i := 31, v := 1 }]), _, 0, 3, rfl, by decide +kernel, by decide +kernel, by decide +kernel,
       by decide +kernel⟩,
   ⟨({ ready.ppsUpd 2 fun p => { p with on := some 0 } with clk := 10 ^ 13 }), _, 0, 2, 0, rfl, by decide +kernel,
       by decide +kernel, by decide +kernel⟩,
   ⟨({ ready.set R.HW_TOD_CFG_EN 1 with clk := 10 ^ 13, serial := { ready.serial with frames := [{ at_ := 0, body := [1, 2], offset := 0, baud := 0 }] } }),
       _, 0, { at_ := 0, body := [1, 2], offset := 0, baud := 0 }, [], rfl, by decide +kernel, by decide +kernel,
       by decide +kernel, by decide +kernel⟩,
   ⟨({ ready with clk := 10 ^ 13, serial := { ready.serial with frames := [{ at_ := 0, body := [1, 2], offset := 0, baud := 0 }] } }),
       _, 0, { at_ := 0, body := [1, 2], offset := 0, baud := 0 }, [], rfl, by decide +kernel, by decide +kernel,
       by decide +kernel⟩,
   ⟨({ tbState.writes [{ f := R.HW_IRIG_CFG_EN, v := 1 }, { f := R.HW_IRIG_CFG_TB, v := 1 }, { f := R.HW_IRIG_CFG_FREE, v := 1 }] with tb := Tab.upd {} tbState.tb 1 fun b => { b with acc := 5 * secUnit * 2 ^ 33, timeValid := true } }),
       _, 0, rfl, by decide +kernel, by decide +kernel⟩,
   ⟨({ tbState.writes [{ f := R.HW_IRIG_CFG_TB, v := 1 }] with tb := Tab.upd {} tbState.tb 1 fun b => { b with acc := 5 * secUnit * 2 ^ 33 } }),
       _, 0, rfl, by decide +kernel, by decide +kernel⟩,
   ⟨queued, _, 0, 1, 7, rfl, by decide +kernel, by decide +kernel, by decide +kernel⟩,
   ⟨linkUp, _, 0, 1, rfl, by decide +kernel, by decide +kernel, by decide +kernel⟩,
   ⟨({ linkUp with clk := 9, cl := { linkUp.cl with tx := [(1, { frame := 0, cls := 7, bytes := [], start := 0, stop := 9 })] } }),
       _, 0, 1, { frame := 0, cls := 7, bytes := [], start := 0, stop := 9 }, rfl, by decide +kernel, by decide +kernel,
       by decide +kernel⟩⟩

/-- The conditions of `Obligations.TaprootSlotsComplete` are met, each clause by a case of its own. -/
theorem test_meets_TaprootSlotsComplete :
    (∃ (s e : State) (dt i : Nat), e = s.elapse dt ∧ (i < 16) ∧ (e.on R.TR_SLOTs_STAT_ACTIVE i = true) ∧ ((e.slotOf
        i).lastPhase + e.silence i ≤ e.clk))
    ∧ (∃ (s e : State) (dt i : Nat), e = s.elapse dt ∧ (i < 16) ∧ (e.mayFeed i = true) ∧ (e.on R.TR_SLOTs_STAT_ACTIVE i =
        false))
    ∧ (∃ (s q : State) (init i : Nat), q = s.quiet ∧ Allowed q init (0x61811C + 0x20 * i) true ∧ (i < 16) ∧ (portSlot i =
        true) ∧ (q.mayFeed i = true))
    ∧ (∃ (s e : State) (dt : Nat), e = s.elapse dt ∧ (e.monIndex ≠ e.tr.lastMon))
    ∧ (∃ (s e : State) (dt i t : Nat), e = s.elapse dt ∧ (i < 16) ∧ ((e.slotOf i).wtrStart = some t) ∧ (t + (e.slotOf
        i).wtrLen ≤ e.clk))
    ∧ (∃ (s e : State) (dt n a b : Nat) (d : Dispute), e = s.elapse dt ∧ (e.dispOf n a b = some d) ∧ (d.resolved = false) ∧
        (d.since + 4 * 10 ^ 12 ≤ e.clk) ∧ (e.disagree n a b = true))
    ∧ (∃ (s e : State) (dt n a b : Nat) (d : Dispute), e = s.elapse dt ∧ (e.dispOf n a b = some d) ∧ (d.resolved = true) ∧
        (d.agreeing = true) ∧ (d.since + 30 * 10 ^ 12 ≤ e.clk) ∧ (e.together d = true))
    ∧ (∃ (s e : State) (dt t : Nat), e = s.elapse dt ∧ (e.tr.settleDone = false) ∧ (e.tr.settleFrom = some t) ∧ (t + 2 * 10 ^
        12 ≤ e.clk)) :=
  ⟨⟨(ready.writes [{ f := R.TR_SLOTs_CFG_EN, i := 7, v := 1 }, { f := R.TR_SLOTs_STAT_ACTIVE, i := 7, v := 1 }]), _, 10 ^ 13,
      7, rfl, by decide +kernel, by decide +kernel, by decide +kernel⟩,
   ⟨(ready.writes [{ f := R.TR_SLOTs_CFG_EN, i := 15, v := 1 }, { f := R.TR_SLOTs_STAT_ACTIVE, i := 15, v := 0 }]), _, 0, 15,
       rfl, by decide +kernel, by decide +kernel, by decide +kernel⟩,
   ⟨(let s := ready.writes [{ f := R.TR_SLOTs_CFG_EN, i := 13, v := 1 }, { f := R.TR_SLOTs_CFG_PORT, i := 13, v := 2 },
       { f := R.TR_SLOTs_CFG_DOMAIN, i := 13, v := 5 }]; { s with sessions := [(256 * 2 + 5, { role := 1, peer := 3 })] }), _,
       0, 13, rfl, (by decide +kernel : State.checkAccess _ _ _ _ = none), by decide +kernel, by decide +kernel,
       by decide +kernel⟩,
   ⟨({ ready with clk := 10 ^ 12 }), _, 0, rfl, by decide +kernel⟩,
   ⟨({ ready with clk := 9, slot := [(15, { wtrStart := some 4, wtrLen := 5 })] }), _, 0, 15, 4, rfl, by decide +kernel,
       by decide +kernel, by decide +kernel⟩,
   ⟨(let s := ready.writes [{ f := R.TR_SLOTs_CFG_EN, i := 2, v := 1 }, { f := R.TR_SLOTs_CFG_EN, i := 3, v := 1 },
       { f := R.TR_SLOTs_STAT_QUALIFIED, i := 2, v := 1 }, { f := R.TR_SLOTs_STAT_QUALIFIED, i := 3, v := 1 },
       { f := R.TR_SLOTs_STAT_ACTIVE, i := 2, v := 1 }, { f := R.TR_SLOTs_STAT_ACTIVE, i := 3, v := 1 },
       { f := R.TR_DPLLn_PRIO_LO_PRIO, v := 0xFFFF11FF }, { f := R.TR_SLOTs_FOFS_FOFS, i := 2, v := 999999 }]; let s :=
       s.takePrio; { s with clk := 30 * 10 ^ 12, tr := { s.tr with disputes := [{ n := 0, a := 2, b := 3, since := 0 }] } }),
       _, 0, 0, 2, 3, { n := 0, a := 2, b := 3, since := 0 }, rfl, by decide +kernel, by decide +kernel, by decide +kernel,
       by decide +kernel⟩,
   ⟨(let s := ready.writes [{ f := R.TR_SLOTs_CFG_EN, i := 2, v := 1 }, { f := R.TR_SLOTs_CFG_EN, i := 3, v := 1 },
       { f := R.TR_SLOTs_STAT_QUALIFIED, i := 2, v := 1 }, { f := R.TR_SLOTs_STAT_QUALIFIED, i := 3, v := 1 },
       { f := R.TR_SLOTs_STAT_ACTIVE, i := 2, v := 1 }, { f := R.TR_SLOTs_STAT_ACTIVE, i := 3, v := 1 },
       { f := R.TR_DPLLn_PRIO_LO_PRIO, v := 0xFFFF11FF }]; let s := s.takePrio;
       { s with clk := 30 * 10 ^ 12, tr := { s.tr with disputes := [{ n := 0, a := 2, b := 3, since := 0, resolved := true, agreeing := true }] } }),
       _, 0, 0, 2, 3, { n := 0, a := 2, b := 3, since := 0, resolved := true, agreeing := true }, rfl, by decide +kernel,
       by decide +kernel, by decide +kernel, by decide +kernel, by decide +kernel⟩,
   ⟨({ ready with clk := 2 * 10 ^ 12, tr := { ready.tr with settleFrom := some 0, settleDone := false } }), _, 0, 0, rfl,
       by decide +kernel, by decide +kernel, by decide +kernel⟩⟩

/-- The conditions of `Obligations.TaprootLoopsComplete` are met, each clause by a case of its own. -/
theorem test_meets_TaprootLoopsComplete :
    (∃ (s e : State) (dt : Nat), e = s.elapse dt ∧ (e.tickDue = true))
    ∧ (∃ (s e : State) (dt n : Nat), e = s.elapse dt ∧ (n < 8) ∧ (e.tbOn n = true) ∧ (e.dpllState n = 1) ∧ ((e.dpllOf
        n).lastTarget + e.get R.TR_DPLLn_SWT_SWITCH_TIME n * 10 ^ 9 ≤ e.clk) ∧ (e.candidate n (e.get R.TR_DPLLn_STAT_TARGET n)
        = true))
    ∧ (∃ (s e : State) (dt n : Nat), e = s.elapse dt ∧ (n < 8) ∧ (e.tbOn n = true))
    ∧ (∃ (s e : State) (dt n : Nat), e = s.elapse dt ∧ (n < 8) ∧ (e.tbOn n = true))
    ∧ (∃ (s e : State) (dt n : Nat), e = s.elapse dt ∧ (n < 8) ∧ (e.on R.TR_DPLLn_CFG_OPEN n = true) ∧ ((e.dpllOf n).lastSw +
        e.get R.TR_DPLLn_SWT_SW_TIMEOUT n * 10 ^ 9 ≤ e.clk))
    ∧ (∃ (s q : State) (init n v : Nat), q = s.quiet ∧ Allowed q init (0x618438 + 0x40 * n) true ∧ (n < 8) ∧ (q.on
        R.TR_DPLLn_CFG_OPEN n = true) ∧ (q.swBusy n = false) ∧ ((sext 40 ((q.dpllOf n).swfLo + v % 256 * 2 ^ 32)).natAbs ≤
        (q.clampOf n).natAbs) ∧ (q.writable [{ f := R.TR_DPLLn_SWF_HI_SWF, i := n, v := v % 2 ^ 32 }]))
    ∧ (∃ (s q : State) (init n : Nat), q = s.quiet ∧ Allowed q init (0x618438 + 0x40 * n) true ∧ (n < 8) ∧ (q.on
        R.TR_DPLLn_CFG_OPEN n = false))
    ∧ (∃ (s e : State) (dt : Nat), e = s.elapse dt ∧ (e.on R.TR_OCXO_STAT_ACTIVE = true))
    ∧ (∃ (s e : State) (dt : Nat), e = s.elapse dt ∧ (e.on R.TR_OCXO_STAT_ACTIVE = false))
    ∧ (∃ (s e : State) (dt : Nat), e = s.elapse dt ∧ (e.warmDue = true))
    ∧ (∃ (s e : State) (dt : Nat), e = s.elapse dt ∧ (e.warmDue = false))
    ∧ (∃ (s e : State) (dt : Nat), e = s.elapse dt) :=
  ⟨⟨({ ready with clk := 10 ^ 9 }), _, 0, rfl, by decide +kernel⟩,
   ⟨({ slotCandidate.writes [{ f := R.HW_TBn_CTRL_EN, v := 1 }, { f := R.TR_DPLLn_STAT_STATE, v := 1 }] with clk := 10 ^ 15 }),
       _, 0, 0, rfl, by decide +kernel, by decide +kernel, by decide +kernel, by decide +kernel, by decide +kernel⟩,
   ⟨tbState, _, 0, 1, rfl, by decide +kernel, by decide +kernel⟩,
   ⟨tbState, _, 0, 1, rfl, by decide +kernel, by decide +kernel⟩,
   ⟨({ ready.set R.TR_DPLLn_CFG_OPEN 1 7 with clk := 10 ^ 15 }), _, 0, 7, rfl, by decide +kernel, by decide +kernel,
       by decide +kernel⟩,
   ⟨(ready.set R.TR_DPLLn_CFG_OPEN 1 7), _, 0, 7, 0xFF, rfl, (by decide +kernel : State.checkAccess _ _ _ _ = none),
       by decide +kernel, by decide +kernel, by decide +kernel, by decide +kernel, by decide +kernel⟩,
   ⟨ready, _, 0, 7, rfl, (by decide +kernel : State.checkAccess _ _ _ _ = none), by decide +kernel, by decide +kernel⟩,
   ⟨(ready.set R.TR_OCXO_STAT_ACTIVE 1), _, 0, rfl, by decide +kernel⟩,
   ⟨(ready.set R.TR_OCXO_STAT_ACTIVE 0), _, 0, rfl, by decide +kernel⟩,
   ⟨(ready.writes [{ f := R.TR_OCXO_CFG_WARM_SRC, v := 0 }, { f := R.TR_OCXO_CFG_OCXO_WARMUP, v := 0 },
       { f := R.TR_OCXO_STAT_ACTIVE, v := 1 }]), _, 0, rfl, by
       simp only [State.warmDue, Bool.and_eq_true, decide_eq_true_eq]
       exact ⟨by decide +kernel, Nat.le_trans (Nat.le_of_eq (m := 0) (by decide +kernel)) (Nat.zero_le _)⟩⟩,
   ⟨(ready.set R.TR_OCXO_CFG_WARM_SRC 1), _, 0, rfl, by decide +kernel⟩,
   ⟨ready, _, 0, rfl⟩⟩

/-- The conditions of `Obligations.SynthesisEventsComplete` are met, each clause by a case of its own. -/
theorem test_meets_SynthesisEventsComplete :
    (∃ (s e : State) (dt : Nat), e = s.elapse dt ∧ (e.tr.xoLost = false))
    ∧ (∃ (s e : State) (dt : Nat), e = s.elapse dt ∧ (e.xoBack = true))
    ∧ (∃ (s e : State) (dt a b : Nat), e = s.elapse dt ∧ (a < 4) ∧ (b < 32) ∧ (e.on R.SY_APLLa_STAT_SEARCH a = true) ∧
        ((Tab.find? e.us.bands a ≠ some b ∨ (e.apllOf a).searchFrom + 100000000 ≤ e.clk)))
    ∧ (∃ (s e : State) (dt a : Nat), e = s.elapse dt ∧ (a < 4) ∧ (e.on R.SY_APLLa_CFG_EN a = true) ∧ (e.on
        R.SY_APLLa_STAT_REF_OK a = true) ∧ (e.on R.SY_APLLa_STAT_SEARCH a = false) ∧ (e.on R.SY_APLLa_STAT_LOCKED a = false) ∧
        ((e.apllOf a).searchFrom ≤ (e.apllOf a).lockFrom) ∧ ((e.apllOf a).lockFrom + (e.apllOf a).lockN * 10000 ≤ e.clk))
    ∧ (∃ (s e : State) (dt a : Nat), e = s.elapse dt ∧ (a < 4) ∧ (e.on R.SY_APLLa_STAT_LOCKED a = true))
    ∧ (∃ (s e : State) (dt a : Nat), e = s.elapse dt ∧ (a < 4) ∧ (e.on R.SY_APLLa_STAT_LOCKED a = true) ∧ (e.on
        R.SY_APLLa_STAT_GATED a = true) ∧ ((e.apllOf a).restartAt ≤ e.granIndex a))
    ∧ (∃ (s q : State) (init a : Nat), q = s.quiet ∧ Allowed q init (0x620010 + 0x40 * a) true ∧ (a < 4) ∧ (q.writable
        [{ f := R.SY_APLLa_COMMIT_MODE, i := a, v := 0 }]) ∧ (q.synPending a = false) ∧ (q.groupOk a = true))
    ∧ (∃ (s q : State) (init a : Nat), q = s.quiet ∧ Allowed q init (0x620010 + 0x40 * a) true ∧ (a < 4) ∧ (q.writable
        [{ f := R.SY_APLLa_COMMIT_MODE, i := a, v := 0 }]) ∧ (q.groupOk a = false))
    ∧ (∃ (s q : State) (init a : Nat), q = s.quiet ∧ Allowed q init (0x620010 + 0x40 * a) true ∧ (a < 4) ∧ (q.writable
        [{ f := R.SY_APLLa_COMMIT_MODE, i := a, v := 1 }]) ∧ (q.synPending a = false) ∧ (q.groupOk a = true) ∧ (0 < ((q.writes
        [{ f := R.SY_APLLa_COMMIT_MODE, i := a, v := 1 }]).synPend a (q.get64 R.SY_APLLa_CTGT_LO_TGT R.SY_APLLa_CTGT_HI_TGT
        a)).synLeft a))
    ∧ (∃ (s q : State) (init a : Nat), q = s.quiet ∧ Allowed q init (0x620010 + 0x40 * a) true ∧ (a < 4) ∧ (q.writable
        [{ f := R.SY_APLLa_COMMIT_MODE, i := a, v := 2 }]) ∧ (q.synLate a = false))
    ∧ (∃ (s q : State) (init a : Nat), q = s.quiet ∧ Allowed q init (0x620010 + 0x40 * a) true ∧ (a < 4) ∧ (q.writable
        [{ f := R.SY_APLLa_COMMIT_MODE, i := a, v := 2 }]) ∧ (q.synLate a = true))
    ∧ (∃ (s e : State) (dt a : Nat), e = s.elapse dt ∧ (a < 4) ∧ (e.on R.SY_APLLa_STAT_PENDING a = true) ∧ (e.synLeft a ≤ 0))
    ∧ (∃ (s e : State) (dt a : Nat), e = s.elapse dt ∧ (a < 4) ∧ (e.on R.SY_APLLa_STAT_PH_BUSY a = true) ∧ (e.phaseNow a =
        e.getZ R.SY_APLLa_PHOFS_PHOFS a)) :=
  ⟨⟨ready, _, 0, rfl, by decide +kernel⟩,
   ⟨({ ready with tr := { ready.tr with xoLost := true, xoAt := 0 } }), _, 10 ^ 11, rfl, by decide +kernel⟩,
   ⟨(ready.writes [{ f := R.SY_APLLa_STAT_SEARCH, i := 3, v := 1 }]), _, 0, 3, 31, rfl, by decide +kernel, by decide +kernel,
       by decide +kernel, by decide +kernel⟩,
   ⟨({ (ready.writes [{ f := R.SY_APLLa_CFG_EN, i := 3, v := 1 }, { f := R.SY_APLLa_STAT_REF_OK, i := 3, v := 1 }]) with clk := 10 ^ 9 }),
       _, 0, 3, rfl, by decide +kernel, by decide +kernel, by decide +kernel, by decide +kernel, by decide +kernel,
       by decide +kernel, by decide +kernel⟩,
   ⟨(ready.writes [{ f := R.SY_APLLa_STAT_LOCKED, i := 3, v := 1 }]), _, 0, 3, rfl, by decide +kernel, by decide +kernel⟩,
   ⟨(ready.writes [{ f := R.SY_APLLa_STAT_LOCKED, i := 3, v := 1 }, { f := R.SY_APLLa_STAT_GATED, i := 3, v := 1 }]), _, 0, 3,
       rfl, by decide +kernel, by decide +kernel, by decide +kernel, by decide +kernel⟩,
   ⟨ready, _, 0, 3, rfl, (by decide +kernel : State.checkAccess _ _ _ _ = none), by decide +kernel, by decide +kernel,
       by decide +kernel, by decide +kernel⟩,
   ⟨(ready.writes [{ f := R.SY_OUTm_CFG_CASCADE, i := 0, v := 1 }, { f := R.SY_OUTm_CFG_APLL, i := 0, v := 3 }]), _, 0, 3,
       rfl, (by decide +kernel : State.checkAccess _ _ _ _ = none), by decide +kernel, by decide +kernel, by decide +kernel⟩,
   ⟨(ready.set R.SY_APLLa_CTGT_LO_TGT 1000000 3), _, 0, 3, rfl, (by decide +kernel : State.checkAccess _ _ _ _ = none),
       by decide +kernel, by decide +kernel, by decide +kernel, by decide +kernel, by decide +kernel⟩,
   ⟨({ (ready.writes [{ f := R.SY_APLLa_STAT_PENDING, i := 3, v := 1 }]) with apll := [(3, { commit := 2 ^ 60 })] }), _, 0, 3,
       rfl, (by decide +kernel : State.checkAccess _ _ _ _ = none), by decide +kernel, by decide +kernel, by decide +kernel⟩,
   ⟨({ (ready.writes [{ f := R.SY_APLLa_STAT_PENDING, i := 3, v := 1 }]) with apll := [(3, { commit := 1 })] }), _, 0, 3, rfl,
       (by decide +kernel : State.checkAccess _ _ _ _ = none), by decide +kernel, by decide +kernel, by decide +kernel⟩,
   ⟨(ready.writes [{ f := R.SY_APLLa_STAT_PENDING, i := 3, v := 1 }]), _, 0, 3, rfl, by decide +kernel, by decide +kernel,
       by decide +kernel⟩,
   ⟨(ready.writes [{ f := R.SY_APLLa_STAT_PH_BUSY, i := 3, v := 1 }]), _, 0, 3, rfl, by decide +kernel, by decide +kernel,
       by decide +kernel⟩⟩

/-- The conditions of `Obligations.GnssInputsComplete` are met, each clause by a case of its own. -/
theorem test_meets_GnssInputsComplete :
    (∃ (s e : State) (dt x : Nat), e = s.elapse dt ∧ (x < 2) ∧ (e.on R.GN_INx_STAT_CLK_OK x = true))
    ∧ (∃ (s e : State) (dt x : Nat), e = s.elapse dt ∧ (x < 2) ∧ (e.gnRuns x = true))
    ∧ (∃ (s e : State) (dt x : Nat), e = s.elapse dt ∧ (x < 2) ∧ (e.gnRuns x = true) ∧ (e.on R.GN_INx_STAT_CLK_OK x = true) ∧
        ((∀ c ∈ (e.gnIn x).phases.head?, c.1 + 10 ^ 9 ≤ e.clk)))
    ∧ (∃ (s e : State) (dt x sig svid elev : Nat) (v : Signal) (k : Nat), e = s.elapse dt ∧ (x < 2) ∧ (e.gnRuns x = true) ∧
        (e.on R.GN_INx_STAT_CLK_OK x = true) ∧ (e.sigOn x sig = true) ∧ (e.get R.GN_TIM_CFG_ELEV_MASK < elev) ∧
        ((e.gn.chans.any fun (c : Chan) => c.input == x && c.sig == sig && c.svid == svid % 256) = false) ∧ (128 ≤ v.cn0) ∧
        (e.inSearch (satKey sig svid) v.doppler = true) ∧ (freeChan e.gn.chans = some k))
    ∧ (∃ (s e : State) (dt x sig svid elev : Nat) (v : Signal) (w : Chan), e = s.elapse dt ∧ (x < 2) ∧ (e.gnRuns x = true) ∧
        (e.on R.GN_INx_STAT_CLK_OK x = true) ∧ (e.sigOn x sig = true) ∧ (e.get R.GN_TIM_CFG_ELEV_MASK < elev) ∧
        ((e.gn.chans.any fun (c : Chan) => c.input == x && c.sig == sig && c.svid == svid % 256) = false) ∧ (128 ≤ v.cn0) ∧
        (e.inSearch (satKey sig svid) v.doppler = true) ∧ (freeChan e.gn.chans = none) ∧ (lowChan e.gn.chans = some w))
    ∧ (∃ (s e : State) (dt x sig svid elev : Nat), e = s.elapse dt ∧ (x < 2) ∧ (e.gnRuns x = true) ∧ (e.on
        R.GN_INx_STAT_CLK_OK x = true) ∧ (e.sigOn x sig = true) ∧ (e.get R.GN_TIM_CFG_ELEV_MASK < elev) ∧ ((e.gn.chans.any fun
        (c : Chan) => c.input == x && c.sig == sig && c.svid == svid % 256) = true))
    ∧ (∃ (s e : State) (dt x : Nat) (v : Fading), e = s.elapse dt ∧ (x < 2) ∧ ((v.cn0 < 104 ∨ v.elev ≤ e.get
        R.GN_TIM_CFG_ELEV_MASK)))
    ∧ (∃ (s e : State) (dt x : Nat) (v : Fading), e = s.elapse dt ∧ (x < 2) ∧ (104 ≤ v.cn0) ∧ (e.get R.GN_TIM_CFG_ELEV_MASK <
        v.elev))
    ∧ (∃ (s e : State) (dt : Nat), e = s.elapse dt ∧ (e.on R.GN_CFG_MEAS_EN = true) ∧ (e.gnAsleep = false) ∧ ((e.time (e.get
        R.GN_CFG_TB) / e.measPeriod) ≠ e.gn.lastEpoch))
    ∧ (∃ (s e : State) (dt k : Nat) (ch : Chan), e = s.elapse dt ∧ (e.gn.chans.find? (fun c => c.ch == k) = some ch) ∧ (e.on
        R.GN_CFG_NAV_EN = true) ∧ (e.gnAsleep = false))
    ∧ (∃ (s e : State) (dt k : Nat) (ch : Chan), e = s.elapse dt ∧ (e.gn.chans.find? (fun c => c.ch == k) = some ch) ∧ ((e.on
        R.GN_CFG_NAV_EN && !e.gnAsleep) = false))
    ∧ (∃ (s q : State) (init : Nat), q = s.quiet ∧ Allowed q init (0x628200) false)
    ∧ (∃ (s q : State) (init : Nat), q = s.quiet ∧ Allowed q init (0x628240) false)
    ∧ (∃ (s e : State) (dt x : Nat), e = s.elapse dt ∧ (x < 2) ∧ (e.gnRuns x = true) ∧ ((∀ c ∈ (e.gnIn x).specAt, c + 10 ^ 11
        ≤ e.clk)))
    ∧ (∃ (s e : State) (dt x k t : Nat), e = s.elapse dt ∧ (x < 2) ∧ (k < 4) ∧ (Tab.find? (e.gnIn x).low k = some t) ∧
        (e.notchOn x k = true) ∧ (e.get R.GN_NOTCHx_k_MODE x k = 1) ∧ (t + 10 ^ 12 ≤ e.clk))
    ∧ (∃ (s e : State) (dt : Nat), e = s.elapse dt ∧ (e.gn.chans.isEmpty = false) ∧ (e.gn.lastKept + 60 * 10 ^ 12 ≤ e.clk)) :=
  ⟨⟨receiving, _, 0, 1, rfl, by decide +kernel, by decide +kernel⟩,
   ⟨receiving, _, 0, 1, rfl, by decide +kernel, by decide +kernel⟩,
   ⟨receiving, _, 0, 1, rfl, by decide +kernel, by decide +kernel, by decide +kernel, by decide +kernel⟩,
   ⟨({ receiving with gn := { receiving.gn with chans := [chanOf 5] } }), _, 0, 0, 0, 7, 60, { cn0 := 128, doppler := 5000 },
       0, rfl, by decide +kernel, by decide +kernel, by decide +kernel, by decide +kernel, by decide +kernel,
       by decide +kernel, by decide +kernel, by decide +kernel, by decide +kernel⟩,
   ⟨({ receiving with gn := { receiving.gn with chans := (List.range 96).map chanOf } }), _, 0, 0, 0, 200, 60,
       { cn0 := 128, doppler := -5000 }, chanOf 0, rfl, by decide +kernel, by decide +kernel, by decide +kernel,
       by decide +kernel, by decide +kernel, by decide +kernel, by decide +kernel, by decide +kernel, by decide +kernel,
       by decide +kernel⟩,
   ⟨({ receiving with gn := { receiving.gn with chans := [chanOf 5] } }), _, 0, 0, 0, 5, 60, rfl, by decide +kernel,
       by decide +kernel, by decide +kernel, by decide +kernel, by decide +kernel, by decide +kernel⟩,
   ⟨ready, _, 0, 1, { svid := 7, cn0 := 103, elev := 90 }, rfl, by decide +kernel, by decide +kernel⟩,
   ⟨ready, _, 0, 1, { svid := 7, cn0 := 104, elev := 90 }, rfl, by decide +kernel, by decide +kernel, by decide +kernel⟩,
   ⟨({ receiving.set R.GN_CFG_MEAS_EN 1 with gn := { receiving.gn with chans := [chanOf 5], lastEpoch := 1 } }), _, 0, rfl,
       by decide +kernel, by decide +kernel, by decide +kernel⟩,
   ⟨({ receiving.set R.GN_CFG_NAV_EN 1 with gn := { receiving.gn with chans := [chanOf 5] } }), _, 0, 5, chanOf 5, rfl,
       by decide +kernel, by decide +kernel, by decide +kernel⟩,
   ⟨({ receiving with gn := { receiving.gn with chans := [chanOf 5] } }), _, 0, 5, chanOf 5, rfl, by decide +kernel,
       by decide +kernel⟩,
   ⟨({ receiving with gn := { receiving.gn with mfifo := [[1, 2, 3, 4]] } }), _, 0, rfl, (by decide +kernel :
       State.checkAccess _ _ _ _ = none)⟩,
   ⟨ready, _, 0, rfl, (by decide +kernel : State.checkAccess _ _ _ _ = none)⟩,
   ⟨receiving, _, 0, 1, rfl, by decide +kernel, by decide +kernel, by decide +kernel⟩,
   ⟨(let s := receiving.writes [{ f := R.GN_INx_STAT_NOTCH_ACT, i := 1, v := 8 },
       { f := R.GN_NOTCHx_k_MODE, i := 1, j := 3, v := 1 }];
       { s with clk := 10 ^ 12, gn := { s.gn with ins := [(1, { low := [(3, 0)] })] } }), _, 0, 1, 3, 0, rfl,
       by decide +kernel, by decide +kernel, by decide +kernel, by decide +kernel, by decide +kernel, by decide +kernel⟩,
   ⟨({ receiving with clk := 60 * 10 ^ 12, gn := { receiving.gn with chans := [chanOf 5] } }), _, 0, rfl, by decide +kernel,
       by decide +kernel⟩⟩

/-- The conditions of `Obligations.GnssSolutionsAndEventTimerComplete` are met, each clause by a case of its own. -/
theorem test_meets_GnssSolutionsAndEventTimerComplete :
    (∃ (s e : State) (dt x : Nat) (v : Sol), e = s.elapse dt ∧ (x < 2) ∧ ((e.antInputs x).isEmpty = false) ∧ ((∀ i ∈
        e.antInputs x, e.on R.GN_INx_STAT_CLK_OK i = true)) ∧ (needSats (e.posWanted x) ≤ (e.solUsed v).length) ∧ (e.tbOn
        (e.get R.GN_CFG_TB) = true) ∧ ((e.gnAnt x).second ≠ some (e.taiSecond (v.ofs - e.antDelay x))) ∧ (e.sinceTai (v.ofs -
        e.antDelay x) ≤ 200000000 * 65536))
    ∧ (∃ (s e : State) (dt x t : Nat), e = s.elapse dt ∧ (x < 2) ∧ ((e.gnAnt x).passFrom = some t) ∧ ((e.gnAnt x).failed =
        true) ∧ (e.solValid x = true) ∧ (t + e.get R.GN_TRUST_CFG1_TRUST_HOLD * 10 ^ 12 ≤ e.clk))
    ∧ (∃ (s e : State) (dt x t : Nat), e = s.elapse dt ∧ (x < 2) ∧ ((e.gnAnt x).survey = some t) ∧ (e.posState x = 1) ∧ (t +
        e.get R.GN_TIM_CFG_SURVEY_MIN * 60 * 10 ^ 12 ≤ e.clk))
    ∧ (∃ (s e : State) (dt i : Nat), e = s.elapse dt ∧ (i < 16))
    ∧ (∃ (s e : State) (dt i : Nat), e = s.elapse dt ∧ (e.etNext = some i) ∧ (e.et.written ≠ some (e.clk / 800)))
    ∧ (∃ (s e : State) (dt i : Nat) (r : EtEdge) (rest : List EtEdge), e = s.elapse dt ∧ (i < 16) ∧ ((e.etIn i).starts = r ::
        rest) ∧ (r.at_ + e.etTimeout i ≤ e.clk))
    ∧ (∃ (s e : State) (dt i : Nat) (r : EtEdge) (rest : List EtEdge), e = s.elapse dt ∧ (i < 16) ∧ ((e.etIn i).stops = r ::
        rest) ∧ (r.at_ + e.get R.ET_INi_PWIN_PAIR_WIN i * 1000 ≤ e.clk))
    ∧ (∃ (s e : State) (dt i : Nat) (g : EtGate), e = s.elapse dt ∧ (i < 16) ∧ ((e.etIn i).gate = some g) ∧ (((g.open_ +
        e.etGateLen i : Nat) : Int) ≤ e.etDateNow i))
    ∧ (∃ (s q : State) (init : Nat), q = s.quiet ∧ Allowed q init (0x630010) false) :=
  ⟨⟨(withDelay 1), _, 0, 1, { ofs := -3, sats := [(160, 1), (160, 1), (160, 1), (160, 1)] }, rfl, by decide +kernel,
      by decide +kernel, by decide +kernel, by decide +kernel, by decide +kernel, by decide +kernel, by decide +kernel⟩,
   ⟨({ receiving with clk := 10 ^ 17, gn := { receiving.gn with ants := [(1, { passFrom := some 0, failed := true, last := some (10 ^ 17) })] } }),
       _, 0, 1, 0, rfl, by decide +kernel, by decide +kernel, by decide +kernel, by decide +kernel, by decide +kernel⟩,
   ⟨({ receiving.set R.GN_SOLx_STAT_POS_STATE 1 1 with clk := 10 ^ 19, gn := { receiving.gn with ants := [(1, { survey := some 0 })] } }),
       _, 0, 1, 0, rfl, by decide +kernel, by decide +kernel, by decide +kernel, by decide +kernel⟩,
   ⟨ready, _, 0, 15, rfl, by decide +kernel⟩,
   ⟨({ ready with et := { ready.et with ins := [(15, { buf := [{}] })] } }), _, 0, 15, rfl, by decide +kernel,
       by decide +kernel⟩,
   ⟨({ ready with clk := 10 ^ 18, et := { ready.et with ins := [(15, { starts := [{ date := 0, at_ := 0 }] })] } }), _, 0, 15,
       { date := 0, at_ := 0 }, [], rfl, by decide +kernel, by decide +kernel, by decide +kernel⟩,
   ⟨({ ready with clk := 10 ^ 18, et := { ready.et with ins := [(15, { stops := [{ date := 0, at_ := 0 }] })] } }), _, 0, 15,
       { date := 0, at_ := 0 }, [], rfl, by decide +kernel, by decide +kernel, by decide +kernel⟩,
   ⟨({ ready with tb := [(0, { acc := 10 ^ 6 * secUnit * 2 ^ 33 })], et := { ready.et with ins := [(15, { gate := some { open_ := 0 } })] } }),
       _, 0, 15, { open_ := 0 }, rfl, by decide +kernel, by decide +kernel, by decide +kernel⟩,
   ⟨ready, _, 0, rfl, (by decide +kernel : State.checkAccess _ _ _ _ = none)⟩⟩

/-- The conditions of `Obligations.LaneEventsComplete` are met, each clause by a case of its own. -/
theorem test_meets_LaneEventsComplete :
    (∃ (s e : State) (dt t : Nat), e = s.elapse dt ∧ (e.waveFrom = some t) ∧ (e.get R.LN_GLOBAL_STAT_WAVE < 4) ∧ (t + 60 * 10
        ^ 9 * e.get R.LN_GLOBAL_STAT_WAVE ≤ e.clk))
    ∧ (∃ (s e : State) (dt : Nat), e = s.elapse dt ∧ (e.waveDue = false) ∧ (e.waveDie.isEmpty = false))
    ∧ (∃ (s e : State) (dt l : Nat), e = s.elapse dt ∧ (l < 60) ∧ (e.laneState l = 1) ∧ (e.dieClocked (l / 30) = true) ∧
        (e.waveOpen l = true) ∧ ((e.laneRec l).quietTo ≤ e.clk))
    ∧ (∃ (s e : State) (dt l : Nat), e = s.elapse dt ∧ (l < 60) ∧ (e.laneState l = 2))
    ∧ (∃ (s e : State) (dt l : Nat), e = s.elapse dt ∧ (l < 60) ∧ (e.laneState l = 2) ∧ ((e.laneRec l).cached = true) ∧
        ((e.laneRec l).since + 2 * 10 ^ 9 ≤ e.clk))
    ∧ (∃ (s e : State) (dt l : Nat), e = s.elapse dt ∧ (l < 60) ∧ (e.laneState l = 2) ∧ (e.trains l = true) ∧ ((e.laneRec
        l).since + e.get R.LN_GLOBAL_CFG_TRAIN_TO * 10 ^ 10 ≤ e.clk))
    ∧ (∃ (s e : State) (dt l : Nat), e = s.elapse dt ∧ (l < 60) ∧ (e.laneState l = 1) ∧ ((e.laneRec l).quietTo ≤ e.clk))
    ∧ (∃ (s e : State) (dt l : Nat), e = s.elapse dt ∧ (l < 60) ∧ (e.laneState l = 3) ∧ (e.on R.LN_Ll_STAT_ALIGNED l = false)
        ∧ ((e.laneRec l).since + 5 * 10 ^ 10 ≤ e.clk))
    ∧ (∃ (s e : State) (dt l : Nat), e = s.elapse dt ∧ (l < 60) ∧ (e.laneState l = 3))
    ∧ (∃ (s e : State) (dt l p flags node port : Nat) (h : Hello), e = s.elapse dt ∧ (l < 60) ∧ (e.lanePort l = some p) ∧
        (e.on R.LN_GLOBAL_CFG_CAPEX_EN = true) ∧ (h = { flags := flags % 256, node := node % 2 ^ 20, port := port % 256 }) ∧
        (e.laneState (e.actual (laneOf p)) = 4))
    ∧ (∃ (s e : State) (dt l p flags node port : Nat) (h : Hello), e = s.elapse dt ∧ (l < 60) ∧ (e.lanePort l = some p) ∧
        (e.on R.LN_GLOBAL_CFG_CAPEX_EN = true) ∧ (h = { flags := flags % 256, node := node % 2 ^ 20, port := port % 256 }) ∧
        (e.laneState (e.actual (laneOf p)) = 5))
    ∧ (∃ (s e : State) (dt p : Nat), e = s.elapse dt ∧ (p < 48) ∧ (e.on R.PT_CFGp_EN p = true) ∧ (e.laneState (e.actual
        (laneOf p)) = 4) ∧ ((e.laneRec (e.actual (laneOf p))).since + 2 * 10 ^ 11 ≤ e.clk))
    ∧ (∃ (s e : State) (dt p : Nat), e = s.elapse dt ∧ (p < 48) ∧ (e.on R.PT_CFGp_EN p = true) ∧ (e.on
        R.LN_GLOBAL_CFG_CAPEX_EN = true) ∧ ((e.laneState (e.actual (laneOf p)) = 4 ∨ e.laneState (e.actual (laneOf p)) = 5)) ∧
        ((e.laneRec (laneOf p)).helloAt + (if e.laneState (e.actual (laneOf p)) = 4 then 10 ^ 10 else 10 ^ 12) ≤ e.clk))
    ∧ (∃ (s e : State) (dt l : Nat), e = s.elapse dt ∧ (l < 60) ∧ (e.laneState l = 4 ∨ e.laneState l = 5) ∧ ((e.on
        R.LN_Ll_STAT_RX_IDLE l = false ∨ e.beaconsGone l = true)))
    ∧ (∃ (s e : State) (dt l t : Nat), e = s.elapse dt ∧ (l < 60) ∧ ((e.laneRec l).lost = some t) ∧ (t + e.get
        R.LN_GLOBAL_CFG_CACHE_HOLD * 10 ^ 9 < e.clk))
    ∧ (∃ (s e : State) (dt l : Nat), e = s.elapse dt ∧ (l < 60) ∧ (e.laneState l = 4 ∨ e.laneState l = 5))
    ∧ (∃ (s e : State) (dt p : Nat), e = s.elapse dt ∧ (p < 48) ∧ (e.mayIdle p = true))
    ∧ (∃ (s e : State) (dt l : Nat), e = s.elapse dt ∧ (l < 60) ∧ (e.laneState l = 5) ∧ (e.on R.LN_Ll_STAT_IDLE l = true) ∧
        ((e.laneRec l).beacon ≠ e.msIndex))
    ∧ (∃ (s e : State) (dt p k : Nat), e = s.elapse dt ∧ (p < 48) ∧ (k < 8) ∧ ((e.queue p k).isEmpty = false))
    ∧ (∃ (s e : State) (dt l : Nat), e = s.elapse dt ∧ (l < 60) ∧ (e.laneState l = 4 ∨ e.laneState l = 5) ∧ ((∀ c ∈ (e.laneRec
        l).rmAt, c + 10 ^ 11 ≤ e.clk)))
    ∧ (∃ (s e : State) (dt l p : Nat) (r : Rx), e = s.elapse dt ∧ (l < 60) ∧ ((e.raise 37 l).lanePort l = some p) ∧ (Tab.find?
        (e.raise 37 l).cl.rx p = some r))
    ∧ (∃ (s e : State) (dt l : Nat), e = s.elapse dt ∧ (l < 60) ∧ ((∀ p, (e.raise 37 l).lanePort l = some p → Tab.find?
        (e.raise 37 l).cl.rx p = none)))
    ∧ (∃ (s q : State) (init l : Nat), q = s.quiet ∧ Allowed q init (0x601020 + 0x40 * l) true ∧ (l < 60) ∧ (q.mayInject l =
        true)) :=
  ⟨⟨({ ready with waveFrom := some 0 }), _, 0, 0, rfl, by decide +kernel, by decide +kernel, by decide +kernel⟩,
   ⟨({ ready with waveDie := [(1, 0)] }), _, 0, rfl, by decide +kernel, by decide +kernel⟩,
   ⟨({ ready.writes [{ f := R.LN_Ll_STAT_STATE, i := 58, v := 1 }, { f := R.LN_GLOBAL_STAT_WAVE, v := 4 }, { f := R.SY_APLLa_STAT_GATED, i := 1, v := 0 }] with clk := 10 ^ 14 }),
       _, 0, 58, rfl, by decide +kernel, by decide +kernel, by decide +kernel, by decide +kernel, by decide +kernel⟩,
   ⟨({ ready.writes [{ f := R.LN_Ll_STAT_STATE, i := 59, v := 2 }] with clk := 10 ^ 14 }), _, 0, 59, rfl, by decide +kernel,
       by decide +kernel⟩,
   ⟨({ ready.writes [{ f := R.LN_Ll_STAT_STATE, i := 59, v := 2 }] with clk := 10 ^ 14, lane := [(59, { cached := true })] }),
       _, 0, 59, rfl, by decide +kernel, by decide +kernel, by decide +kernel, by decide +kernel⟩,
   ⟨({ ready.writes [{ f := R.LN_Ll_STAT_STATE, i := 59, v := 2 }, { f := R.LN_Ll_CFG_TRAIN_EN, i := 59, v := 1 }, { f := R.LN_Ll_CFG_RATE, i := 59, v := 4 }] with clk := 10 ^ 14 }),
       _, 0, 59, rfl, by decide +kernel, by decide +kernel, by decide +kernel, by decide +kernel⟩,
   ⟨({ ready.writes [{ f := R.LN_Ll_STAT_STATE, i := 59, v := 1 }] with clk := 10 ^ 14 }), _, 0, 59, rfl, by decide +kernel,
       by decide +kernel, by decide +kernel⟩,
   ⟨({ ready.writes [{ f := R.LN_Ll_STAT_STATE, i := 59, v := 3 }] with clk := 10 ^ 14 }), _, 0, 59, rfl, by decide +kernel,
       by decide +kernel, by decide +kernel, by decide +kernel⟩,
   ⟨({ ready.writes [{ f := R.LN_Ll_STAT_STATE, i := 59, v := 3 }] with clk := 10 ^ 14 }), _, 0, 59, rfl, by decide +kernel,
       by decide +kernel⟩,
   ⟨((linkUp.set R.LN_Ll_STAT_STATE 4 1).set R.LN_GLOBAL_CFG_CAPEX_EN 1), _, 0, 1, 1, 6, 3, 7,
       { flags := 6, node := 3, port := 7 }, rfl, by decide +kernel, by decide +kernel, by decide +kernel, by decide +kernel,
       by decide +kernel⟩,
   ⟨((linkUp.set R.LN_Ll_STAT_STATE 5 1).set R.LN_GLOBAL_CFG_CAPEX_EN 1), _, 0, 1, 1, 6, 3, 7,
       { flags := 6, node := 3, port := 7 }, rfl, by decide +kernel, by decide +kernel, by decide +kernel, by decide +kernel,
       by decide +kernel⟩,
   ⟨({ ((linkUp.set R.LN_Ll_STAT_STATE 4 1).set R.LN_GLOBAL_CFG_CAPEX_EN 1) with clk := 10 ^ 12 }), _, 0, 1, rfl,
       by decide +kernel, by decide +kernel, by decide +kernel, by decide +kernel⟩,
   ⟨({ ((linkUp.set R.LN_Ll_STAT_STATE 5 1).set R.LN_GLOBAL_CFG_CAPEX_EN 1) with clk := 10 ^ 12 }), _, 0, 1, rfl,
       by decide +kernel, by decide +kernel, by decide +kernel, by decide +kernel, by decide +kernel⟩,
   ⟨linkUp, _, 0, 1, rfl, by decide +kernel, by decide +kernel, by decide +kernel⟩,
   ⟨({ ready with clk := 10 ^ 20, lane := [(59, { lost := some 0 })] }), _, 0, 59, 0, rfl, by decide +kernel,
       by decide +kernel, by decide +kernel⟩,
   ⟨linkUp, _, 0, 1, rfl, by decide +kernel, by decide +kernel⟩,
   ⟨({ (linkUp.set R.LN_Ll_STAT_IDLE_CAP 1 1).setPortPower 1 1 with clk := 10 ^ 14 }), _, 0, 1, rfl, by decide +kernel,
       by decide +kernel⟩,
   ⟨({ linkUp.set R.LN_Ll_STAT_IDLE 1 1 with clk := 10 ^ 10 }), _, 0, 1, rfl, by decide +kernel, by decide +kernel,
       by decide +kernel, by decide +kernel⟩,
   ⟨queued, _, 0, 1, 7, rfl, by decide +kernel, by decide +kernel, by decide +kernel⟩,
   ⟨linkUp, _, 0, 1, rfl, by decide +kernel, by decide +kernel, by decide +kernel⟩,
   ⟨({ linkUp with cl := { linkUp.cl with rx := [(1, { bytes := [], res := { kind := 0 }, line := {}, own := {} })] } }), _,
       0, 1, 1, { bytes := [], res := { kind := 0 }, line := {}, own := {} }, rfl, by decide +kernel, by decide +kernel,
       by decide +kernel⟩,
   ⟨ready, _, 0, 4, rfl, by decide +kernel, by decide +kernel⟩,
   ⟨calibrating, _, 0, 4, rfl, (by decide +kernel : State.checkAccess _ _ _ _ = none), by decide +kernel, by decide +kernel⟩⟩

/-- The conditions of `Obligations.SubstitutionEventsComplete` are met, each clause by a case of its own. -/
theorem test_meets_SubstitutionEventsComplete :
    (∃ (s e : State) (dt p pos : Nat), e = s.elapse dt ∧ (p < 48) ∧ (pos < 4) ∧ (e.on R.PT_CFGp_EN p = true) ∧ (pos <
        modeLanes (e.portMode p)) ∧ (e.on R.LN_GLOBAL_CFG_CAPEX_EN = true) ∧ (e.on R.LN_GRVg_CFG_SUB_ACCEPT (p / 4) = true) ∧
        (e.on R.LN_GRVg_CFG_SPARE_WIRED (p / 4) = true) ∧ (e.subState (p / 4) = 0) ∧ (e.laneState (spareOf (p / 4)) ≠ 6) ∧
        (modeFwdClk (e.portMode p) = false))
    ∧ (∃ (s e : State) (dt p pos : Nat), e = s.elapse dt ∧ (p < 48) ∧ (pos < 4) ∧ (e.on R.PT_CFGp_EN p = true) ∧ (pos <
        modeLanes (e.portMode p)) ∧ (e.on R.LN_GLOBAL_CFG_CAPEX_EN = true) ∧ ((e.on R.LN_GRVg_CFG_SUB_ACCEPT (p / 4) = false ∨
        e.on R.LN_GRVg_CFG_SPARE_WIRED (p / 4) = false ∨ e.subState (p / 4) ≠ 0 ∨ e.laneState (spareOf (p / 4)) = 6 ∨
        modeFwdClk (e.portMode p) = true)))
    ∧ (∃ (s e : State) (dt g : Nat) (b : Subst), e = s.elapse dt ∧ (g < 12) ∧ (e.subst? g = some b) ∧ (e.subState g = 1) ∧
        (b.remote = false) ∧ (b.acked = false))
    ∧ (∃ (s e : State) (dt g : Nat) (b : Subst), e = s.elapse dt ∧ (g < 12) ∧ (e.subst? g = some b) ∧ (e.subState g = 1) ∧
        (b.remote = false) ∧ (b.acked = false))
    ∧ (∃ (s e : State) (dt g : Nat) (b : Subst), e = s.elapse dt ∧ (g < 12) ∧ (e.subst? g = some b) ∧ (e.subState g = 1) ∧
        (b.remote = false) ∧ (b.acked = false) ∧ (b.since + 10 ^ 11 ≤ e.clk))
    ∧ (∃ (s e : State) (dt g : Nat) (b : Subst), e = s.elapse dt ∧ (g < 12) ∧ (e.subst? g = some b) ∧ (e.subState g = 1) ∧
        (b.calib = false) ∧ (e.laneState (spareOf g) = 3) ∧ (e.on R.LN_Ll_STAT_ALIGNED (spareOf g) = true))
    ∧ (∃ (s e : State) (dt g : Nat) (b : Subst), e = s.elapse dt ∧ (g < 12) ∧ (e.subst? g = some b) ∧ (e.subState g = 1 ∨
        e.subState g = 2))
    ∧ (∃ (s e : State) (dt g : Nat) (b : Subst), e = s.elapse dt ∧ (g < 12) ∧ (e.subst? g = some b) ∧ (e.subState g = 3))
    ∧ (∃ (s e : State) (dt g : Nat) (b : Subst), e = s.elapse dt ∧ (g < 12) ∧ (e.subst? g = some b) ∧ (e.subState g = 4) ∧
        (e.laneState (laneOf b.port + b.pos) = 3) ∧ (e.on R.LN_Ll_STAT_ALIGNED (laneOf b.port + b.pos) = true))
    ∧ (∃ (s e : State) (dt g : Nat) (b : Subst), e = s.elapse dt ∧ (g < 12) ∧ (e.subst? g = some b) ∧ (e.subState g = 1) ∧
        (b.since + e.get R.LN_GLOBAL_CFG_TRAIN_TO * 10 ^ 10 + 3 * 10 ^ 11 ≤ e.clk) ∧ ((b.calib && e.spareReady g) = false))
    ∧ (∃ (s e : State) (dt g : Nat) (b : Subst), e = s.elapse dt ∧ (g < 12) ∧ (e.subst? g = some b) ∧ (e.subState g = 4) ∧
        (b.since + e.get R.LN_GLOBAL_CFG_TRAIN_TO * 10 ^ 10 + 3 * 10 ^ 11 ≤ e.clk)) :=
  ⟨⟨(linkUp.writes [{ f := R.LN_GLOBAL_CFG_CAPEX_EN, v := 1 }, { f := R.LN_GRVg_CFG_SUB_ACCEPT, v := 1 }]), _, 0, 1, 0, rfl,
      by decide +kernel, by decide +kernel, by decide +kernel, by decide +kernel, by decide +kernel, by decide +kernel,
      by decide +kernel, by decide +kernel, by decide +kernel, by decide +kernel⟩,
   ⟨(linkUp.writes [{ f := R.LN_GLOBAL_CFG_CAPEX_EN, v := 1 }, { f := R.LN_GRVg_CFG_SUB_ACCEPT, v := 0 }]), _, 0, 1, 0, rfl,
       by decide +kernel, by decide +kernel, by decide +kernel, by decide +kernel, by decide +kernel, by decide +kernel⟩,
   ⟨({ linkUp.set R.LN_GRVg_STAT_SUB_STATE 1 0 with clk := 10 ^ 14, subst := [(0, { port := 1 })] }), _, 0, 0, { port := 1 },
       rfl, by decide +kernel, by decide +kernel, by decide +kernel, by decide +kernel, by decide +kernel⟩,
   ⟨({ linkUp.set R.LN_GRVg_STAT_SUB_STATE 1 0 with clk := 10 ^ 14, subst := [(0, { port := 1 })] }), _, 0, 0, { port := 1 },
       rfl, by decide +kernel, by decide +kernel, by decide +kernel, by decide +kernel, by decide +kernel⟩,
   ⟨({ linkUp.set R.LN_GRVg_STAT_SUB_STATE 1 0 with clk := 10 ^ 14, subst := [(0, { port := 1 })] }), _, 0, 0, { port := 1 },
       rfl, by decide +kernel, by decide +kernel, by decide +kernel, by decide +kernel, by decide +kernel, by decide +kernel⟩,
   ⟨({ linkUp.writes [{ f := R.LN_GRVg_STAT_SUB_STATE, v := 1 }, { f := R.LN_Ll_STAT_STATE, i := 4, v := 3 }, { f := R.LN_Ll_STAT_ALIGNED, i := 4, v := 1 }] with clk := 10 ^ 14, subst := [(0, { port := 1 })] }),
       _, 0, 0, { port := 1 }, rfl, by decide +kernel, by decide +kernel, by decide +kernel, by decide +kernel,
       by decide +kernel, by decide +kernel⟩,
   ⟨({ linkUp.set R.LN_GRVg_STAT_SUB_STATE 2 0 with clk := 10 ^ 14, subst := [(0, { port := 1 })] }), _, 0, 0, { port := 1 },
       rfl, by decide +kernel, by decide +kernel, by decide +kernel⟩,
   ⟨({ linkUp.set R.LN_GRVg_STAT_SUB_STATE 3 0 with clk := 10 ^ 14, subst := [(0, { port := 1 })] }), _, 0, 0, { port := 1 },
       rfl, by decide +kernel, by decide +kernel, by decide +kernel⟩,
   ⟨({ linkUp.writes [{ f := R.LN_GRVg_STAT_SUB_STATE, v := 4 }, { f := R.LN_Ll_STAT_STATE, i := 1, v := 3 }, { f := R.LN_Ll_STAT_ALIGNED, i := 1, v := 1 }] with clk := 10 ^ 14, subst := [(0, { port := 1 })] }),
       _, 0, 0, { port := 1 }, rfl, by decide +kernel, by decide +kernel, by decide +kernel, by decide +kernel,
       by decide +kernel⟩,
   ⟨({ linkUp.set R.LN_GRVg_STAT_SUB_STATE 1 0 with clk := 10 ^ 14, subst := [(0, { port := 1 })] }), _, 0, 0, { port := 1 },
       rfl, by decide +kernel, by decide +kernel, by decide +kernel, by decide +kernel, by decide +kernel⟩,
   ⟨({ linkUp.set R.LN_GRVg_STAT_SUB_STATE 4 0 with clk := 10 ^ 14, subst := [(0, { port := 1 })] }), _, 0, 0, { port := 1 },
       rfl, by decide +kernel, by decide +kernel, by decide +kernel, by decide +kernel⟩⟩

/-- The conditions of `Obligations.PortEventsComplete` are met, each clause by a case of its own. -/
theorem test_meets_PortEventsComplete :
    (∃ (s e : State) (dt p : Nat), e = s.elapse dt ∧ (p < 48) ∧ ((e.causeSync p).portState p = 2) ∧ ((e.causeSync p).causes p
        ≠ 0))
    ∧ (∃ (s e : State) (dt p : Nat), e = s.elapse dt ∧ (p < 48) ∧ ((e.causeSync p).portState p = 1 ∨ (e.causeSync p).portState
        p = 3 ∨ (e.causeSync p).portState p = 4) ∧ ((e.causeSync p).causes p = 0))
    ∧ (∃ (s e : State) (dt p : Nat), e = s.elapse dt ∧ (p < 48) ∧ (e.holdDue p = true))
    ∧ (∃ (s e : State) (dt p : Nat), e = s.elapse dt ∧ (p < 48) ∧ (e.degRoll.portState p ≠ 0))
    ∧ (∃ (s e : State) (dt : Nat), e = s.elapse dt ∧ (e.degWin < e.clk / 10 ^ 9))
    ∧ (∃ (s e : State) (dt g : Nat) (low : Bool), e = s.elapse dt ∧ (g < 12) ∧ ((e.on R.PT_MODg_PRS g == low) = false))
    ∧ (∃ (s e : State) (dt p : Nat), e = s.elapse dt ∧ (p < 48))
    ∧ (∃ (s e : State) (dt p : Nat), e = s.elapse dt ∧ (p < 48))
    ∧ (∃ (s e : State) (dt : Nat), e = s.elapse dt ∧ (e.polWin < e.clk / 10 ^ 9)) :=
  ⟨⟨(linkUp.set R.LN_Ll_STAT_STATE 1 1), _, 0, 1, rfl, by decide +kernel, by decide +kernel, by decide +kernel⟩,
   ⟨(linkUp.set R.PT_STATp_STATE 3 1), _, 0, 1, rfl, by decide +kernel, by decide +kernel, by decide +kernel⟩,
   ⟨({ linkUp.set R.PT_STATp_STATE 3 1 with clk := 10 ^ 14, port := [(1, { hold := some (0, 1, 1) })] }), _, 0, 1, rfl,
       by decide +kernel, by decide +kernel⟩,
   ⟨linkUp, _, 0, 1, rfl, by decide +kernel, by decide +kernel⟩,
   ⟨({ linkUp with clk := 10 ^ 9 }), _, 0, rfl, by decide +kernel⟩,
   ⟨linkUp, _, 0, 0, true, rfl, by decide +kernel, by decide +kernel⟩,
   ⟨linkUp, _, 0, 47, rfl, by decide +kernel⟩,
   ⟨linkUp, _, 0, 47, rfl, by decide +kernel⟩,
   ⟨({ linkUp with clk := 10 ^ 9 }), _, 0, rfl, by decide +kernel⟩⟩

/-- The conditions of `Obligations.ForwardingEventsComplete` are met, each clause by a case of its own. -/
theorem test_meets_ForwardingEventsComplete :
    (∃ (s e : State) (dt p : Nat), e = s.elapse dt ∧ (p < 48) ∧ (e.portState p = 2) ∧ (Tab.find? e.cl.rx p = none))
    ∧ (∃ (s e : State) (dt p : Nat), e = s.elapse dt ∧ (p < 48))
    ∧ (∃ (s e : State) (dt p : Nat) (bytes : List Byte) (r : Rx), e = s.elapse dt ∧ (p < 48) ∧ (Tab.find? (e.rxBytes p
        bytes).cl.rx p = some r))
    ∧ (∃ (s e : State) (dt : Nat) (t : Trap) (rest : List Trap), e = s.elapse dt ∧ (e.cl.trapA = t :: rest))
    ∧ (∃ (s e : State) (dt : Nat) (t : Trap) (rest : List Trap), e = s.elapse dt ∧ (e.cl.trapB = t :: rest))
    ∧ (∃ (s e : State) (dt k : Nat) (reqs : List Nat) (agent tally : Bool) (p c w : Nat) (a : Arb), e = s.elapse dt ∧ (k < 64)
        ∧ (p < 48) ∧ (c < 8) ∧ (a =
        { e.arbOf k with reqs := present (e.arbOf k).reqs ((reqs.filter fun r => decide (r < 24)) ++ (if agent || tally then [24] else [])), tAgent := (e.arbOf k).tAgent || agent, tTally := (e.arbOf k).tTally || tally })
        ∧ (a.winner = some w) ∧ (a.free ≤ e.clk))
    ∧ (∃ (s e : State) (dt k : Nat) (reqs : List Nat) (agent tally : Bool) (p c w : Nat) (a : Arb), e = s.elapse dt ∧ (k < 64)
        ∧ (p < 48) ∧ (c < 8) ∧ (a =
        { e.arbOf k with reqs := present (e.arbOf k).reqs ((reqs.filter fun r => decide (r < 24)) ++ (if agent || tally then [24] else [])), tAgent := (e.arbOf k).tAgent || agent, tTally := (e.arbOf k).tTally || tally })
        ∧ (a.winner = some w) ∧ (e.clk < a.free))
    ∧ (∃ (s e : State) (dt k : Nat) (reqs : List Nat) (agent tally : Bool) (p c : Nat) (a : Arb), e = s.elapse dt ∧ (k < 64) ∧
        (p < 48) ∧ (c < 8) ∧ (a =
        { e.arbOf k with reqs := present (e.arbOf k).reqs ((reqs.filter fun r => decide (r < 24)) ++ (if agent || tally then [24] else [])), tAgent := (e.arbOf k).tAgent || agent, tTally := (e.arbOf k).tTally || tally })
        ∧ (a.winner = none))
    ∧ (∃ (s e : State) (dt : Nat), e = s.elapse dt ∧ (e.epochState = 1) ∧ (e.oldCount = 0))
    ∧ (∃ (s e : State) (dt : Nat), e = s.elapse dt ∧ (e.epochState = 1) ∧ (e.fwd.actAt + e.fwd.maxRes * 10 ^ 7 ≤ e.clk))
    ∧ (∃ (s e : State) (dt : Nat), e = s.elapse dt ∧ (e.fwdDue = true))
    ∧ (∃ (s e : State) (dt : Nat), e = s.elapse dt ∧ (e.epochState = 2)) :=
  ⟨⟨linkUp, _, 0, 1, rfl, by decide +kernel, by decide +kernel, by decide +kernel⟩,
   ⟨({ linkUp with cl := { linkUp.cl with rx := [(1, { bytes := [], res := { kind := 0 }, line := {}, own := {} })] } }), _,
       0, 1, rfl, by decide +kernel⟩,
   ⟨({ linkUp with cl := { linkUp.cl with rx := [(1, { bytes := [], res := { kind := 0 }, line := {}, own := {} })] } }), _,
       0, 1, [], { bytes := [], res := { kind := 0 }, line := {}, own := {} }, rfl, by decide +kernel, by decide +kernel⟩,
   ⟨({ linkUp with cl := { linkUp.cl with trapA := [{ port := 3, bytes := [], stamp := some {}, epoch := 0 }] } }), _, 0,
       { port := 3, bytes := [], stamp := some {}, epoch := 0 }, [], rfl, by decide +kernel⟩,
   ⟨({ linkUp with cl := { linkUp.cl with trapB := [{ port := 3, bytes := [], stamp := some {}, epoch := 0 }] } }), _, 0,
       { port := 3, bytes := [], stamp := some {}, epoch := 0 }, [], rfl, by decide +kernel⟩,
   ⟨linkUp, _, 0, 63, [13], false, false, 5, 7, 13, { reqs := [(13, 0)] }, rfl, by decide +kernel, by decide +kernel,
       by decide +kernel, by decide +kernel, by decide +kernel, by decide +kernel⟩,
   ⟨({ linkUp with cl := { linkUp.cl with arbs := [(63, { free := 9 })] } }), _, 0, 63, [13], false, false, 5, 7, 13,
       { reqs := [(13, 0)], free := 9 }, rfl, by decide +kernel, by decide +kernel, by decide +kernel, by decide +kernel,
       by decide +kernel, by decide +kernel⟩,
   ⟨linkUp, _, 0, 63, [], false, false, 5, 7, {}, rfl, by decide +kernel, by decide +kernel, by decide +kernel,
       by decide +kernel, by decide +kernel⟩,
   ⟨(ready.set R.FD_EPOCH_STAT_STATE 1), _, 0, rfl, by decide +kernel, by decide +kernel⟩,
   ⟨({ ready.set R.FD_EPOCH_STAT_STATE 1 with clk := 10 ^ 14 }), _, 0, rfl, by decide +kernel, by decide +kernel⟩,
   ⟨({ ready with clk := 10 ^ 14, fwd := { ready.fwd with commit := some 0 } }), _, 0, rfl, by decide +kernel⟩,
   ⟨(ready.set R.FD_EPOCH_STAT_STATE 2), _, 0, rfl, by decide +kernel⟩⟩

/-- The conditions of `Obligations.TableWindowsComplete` are met, each clause by a case of its own. -/
theorem test_meets_TableWindowsComplete :
    (∃ (s q : State) (init w t : Nat), q = s.quiet ∧ Allowed q init (R.FD_TBL_CTRL_GO.addr) true ∧ (q.on R.FD_TBL_CTRL_BUSY =
        false) ∧ (t = q.tblNamed w) ∧ (bits w 17 0 < tblSize t))
    ∧ (∃ (s q : State) (init w t : Nat), q = s.quiet ∧ Allowed q init (R.FD_TBL_CTRL_GO.addr) true ∧ (q.on R.FD_TBL_CTRL_BUSY
        = false) ∧ (t = q.tblNamed w) ∧ (tblSize t ≤ bits w 17 0))
    ∧ (∃ (s q : State) (init w t : Nat), q = s.quiet ∧ Allowed q init (R.FD_TBL_CTRL_GO.addr) true ∧ (q.on R.FD_TBL_CTRL_BUSY
        = false) ∧ (t = q.tblNamed w) ∧ (bitOf w 28 = false) ∧ (((q.tblFields w 1 t).plan t (if tblHashed t then 1 else 0)
        (bits w 17 0) (q.tblFields w 1 t).tblData).status = .ok))
    ∧ (∃ (s q : State) (init w t : Nat), q = s.quiet ∧ Allowed q init (R.FD_TBL_CTRL_GO.addr) true ∧ (q.on R.FD_TBL_CTRL_BUSY
        = false) ∧ (t = q.tblNamed w) ∧ (bitOf w 28 = true ∨ ((q.tblFields w 1 t).plan t (if tblHashed t then 1 else 0) (bits
        w 17 0) (q.tblFields w 1 t).tblData).status ≠ .ok))
    ∧ (∃ (s q : State) (init w t : Nat), q = s.quiet ∧ Allowed q init (R.FD_TBL_CTRL_GO.addr) true ∧ (q.on R.FD_TBL_CTRL_BUSY
        = false) ∧ (t = q.tblNamed w) ∧ (bitOf w 28 = false) ∧ (((q.tblFields w 2 t).plan t 2 (bits w 17 0) (q.tblFields w 2
        t).tblData).status = .ok))
    ∧ (∃ (s q : State) (init w t : Nat), q = s.quiet ∧ Allowed q init (R.FD_TBL_CTRL_GO.addr) true ∧ (q.on R.FD_TBL_CTRL_BUSY
        = false) ∧ (t = q.tblNamed w) ∧ (bitOf w 28 = true ∨ ((q.tblFields w 2 t).plan t 2 (bits w 17 0) (q.tblFields w 2
        t).tblData).status ≠ .ok))
    ∧ (∃ (s q : State) (init w t j : Nat), q = s.quiet ∧ Allowed q init (R.FD_TBL_CTRL_GO.addr) true ∧ (q.on
        R.FD_TBL_CTRL_BUSY = false) ∧ (t = q.tblNamed w) ∧ (tblHashed t = true) ∧ (((q.tblFields w 3 t).tblFind (if bitOf w 28
        then q.epoch else 1 - q.epoch) t (entryKtype t (tblClean t (q.tblFields w 3 t).tblData)) (entryKey t (tblClean t
        (q.tblFields w 3 t).tblData))) = some j))
    ∧ (∃ (s q : State) (init w t : Nat), q = s.quiet ∧ Allowed q init (R.FD_TBL_CTRL_GO.addr) true ∧ (q.on R.FD_TBL_CTRL_BUSY
        = false) ∧ (t = q.tblNamed w) ∧ (tblHashed t = true) ∧ (((q.tblFields w 3 t).tblFind (if bitOf w 28 then q.epoch else
        1 - q.epoch) t (entryKtype t (tblClean t (q.tblFields w 3 t).tblData)) (entryKey t (tblClean t (q.tblFields w 3
        t).tblData))) = none))
    ∧ (∃ (s q : State) (init w p : Nat), q = s.quiet ∧ Allowed q init (R.SC_TBL_CTRL_GO.addr) true ∧ (q.on R.SC_TBL_CTRL_BUSY
        = false) ∧ (p = q.slotPort w))
    ∧ (∃ (s q : State) (init w p : Nat), q = s.quiet ∧ Allowed q init (R.SC_TBL_CTRL_GO.addr) true ∧ (q.on R.SC_TBL_CTRL_BUSY
        = false) ∧ (p = q.slotPort w) ∧ ((q.slotFields w 1 p).managed p = false) ∧ ((q.slotFields w 1 p).bankActive p (bits w
        10 10) = false) ∧ ((q.slotFields w 1 p).schedPending p = false))
    ∧ (∃ (s q : State) (init w p : Nat), q = s.quiet ∧ Allowed q init (R.SC_TBL_CTRL_GO.addr) true ∧ (q.on R.SC_TBL_CTRL_BUSY
        = false) ∧ (p = q.slotPort w) ∧ ((q.slotFields w 1 p).managed p = true))
    ∧ (∃ (s q : State) (init w p : Nat), q = s.quiet ∧ Allowed q init (R.SC_TBL_CTRL_GO.addr) true ∧ (q.on R.SC_TBL_CTRL_BUSY
        = false) ∧ (p = q.slotPort w) ∧ ((q.slotFields w 1 p).managed p = false) ∧ ((q.slotFields w 1 p).bankActive p (bits w
        10 10) = true))
    ∧ (∃ (s q : State) (init p w : Nat), q = s.quiet ∧ Allowed q init (R.SC_Pp_CFG_STOP.addr + 0x100 * p) true ∧ (p < 48) ∧
        (q.writable (q.schedWrites p (Nat.lor w 2))) ∧ (bitOf (Nat.lor w 2) 1 = true) ∧ ((q.schedRuns p = true ∨ q.tbOn (bits
        (Nat.lor w 2) 6 4) = true)) ∧ (q.managed p = false))
    ∧ (∃ (s q : State) (init p w : Nat), q = s.quiet ∧ Allowed q init (R.SC_Pp_CFG_STOP.addr + 0x100 * p) true ∧ (p < 48) ∧
        (q.writable (q.schedWrites p (Nat.lor w 2))) ∧ (bitOf (Nat.lor w 2) 1 = true) ∧ (q.managed p = true))
    ∧ (∃ (s q : State) (init : Nat), q = s.quiet ∧ Allowed q init (R.RD_CTX_CTRL_GO.addr) true ∧ (q.on R.RD_CTX_CTRL_BUSY =
        false))
    ∧ (∃ (s q : State) (init w : Nat), q = s.quiet ∧ Allowed q init (R.RD_CTX_CTRL_GO.addr) true ∧ (q.on R.RD_CTX_CTRL_BUSY =
        false) ∧ (foresterCtx (bits w 12 0) = false) ∧ (((((q.set R.RD_CTX_CTRL_OP 1).set R.RD_CTX_CTRL_CTX (bits w 12 0)).set
        R.RD_CTX_CTRL_ERR 0).sctxOf (bits w 12 0)).frozen ((((q.set R.RD_CTX_CTRL_OP 1).set R.RD_CTX_CTRL_CTX (bits w 12
        0)).set R.RD_CTX_CTRL_ERR 0).word R.RD_CTX_DATA0) = false))
    ∧ (∃ (s q : State) (init w : Nat), q = s.quiet ∧ Allowed q init (R.RD_CTX_CTRL_GO.addr) true ∧ (q.on R.RD_CTX_CTRL_BUSY =
        false) ∧ ((foresterCtx (bits w 12 0) || ((((q.set R.RD_CTX_CTRL_OP 1).set R.RD_CTX_CTRL_CTX (bits w 12 0)).set
        R.RD_CTX_CTRL_ERR 0).sctxOf (bits w 12 0)).frozen ((((q.set R.RD_CTX_CTRL_OP 1).set R.RD_CTX_CTRL_CTX (bits w 12
        0)).set R.RD_CTX_CTRL_ERR 0).word R.RD_CTX_DATA0)) = true)) :=
  ⟨⟨ready, _, 0, 0x91800005, 6, rfl, (by decide +kernel : State.checkAccess _ _ _ _ = none), by decide +kernel,
      by decide +kernel, by decide +kernel⟩,
   ⟨ready, _, 0, 0x81800030, 6, rfl, (by decide +kernel : State.checkAccess _ _ _ _ = none), by decide +kernel,
       by decide +kernel, by decide +kernel⟩,
   ⟨(ready.putData [1, 2 ^ 31 + 0x10000, 0]), _, 0, 0, 0, rfl, (by decide +kernel : State.checkAccess _ _ _ _ = none),
       by decide +kernel, by decide +kernel, by decide +kernel, by decide +kernel⟩,
   ⟨ready, _, 0, 0x10000000, 0, rfl, (by decide +kernel : State.checkAccess _ _ _ _ = none), by decide +kernel,
       by decide +kernel, by decide +kernel⟩,
   ⟨(withStation.putData [1, 2 ^ 31 + 0x10000, 0]), _, 0, 0, 0, rfl, (by decide +kernel : State.checkAccess _ _ _ _ = none),
       by decide +kernel, by decide +kernel, by decide +kernel, by decide +kernel⟩,
   ⟨ready, _, 0, 0x10000000, 0, rfl, (by decide +kernel : State.checkAccess _ _ _ _ = none), by decide +kernel,
       by decide +kernel, by decide +kernel⟩,
   ⟨(withStation.putData [1, 2 ^ 31 + 0x10000, 0]), _, 0, 0, 0, 167900, rfl, (by decide +kernel : State.checkAccess _ _ _ _ =
       none), by decide +kernel, by decide +kernel, by decide +kernel, by decide +kernel⟩,
   ⟨(ready.putData [1, 2 ^ 31 + 0x10000, 0]), _, 0, 0, 0, rfl, (by decide +kernel : State.checkAccess _ _ _ _ = none),
       by decide +kernel, by decide +kernel, by decide +kernel, by decide +kernel⟩,
   ⟨ready, _, 0, 0x2F07FF, 47, rfl, (by decide +kernel : State.checkAccess _ _ _ _ = none), by decide +kernel,
       by decide +kernel⟩,
   ⟨ready, _, 0, 0x2F07FF, 47, rfl, (by decide +kernel : State.checkAccess _ _ _ _ = none), by decide +kernel,
       by decide +kernel, by decide +kernel, by decide +kernel, by decide +kernel⟩,
   ⟨managedState, _, 0, 0x1043F, 1, rfl, (by decide +kernel : State.checkAccess _ _ _ _ = none), by decide +kernel,
       by decide +kernel, by decide +kernel⟩,
   ⟨(ready.set R.SC_Pp_STAT_RUN 1 47), _, 0, 0x2F03FF, 47, rfl, (by decide +kernel : State.checkAccess _ _ _ _ = none),
       by decide +kernel, by decide +kernel, by decide +kernel, by decide +kernel⟩,
   ⟨(ready.set R.HW_TBn_CTRL_EN 1 0), _, 0, 47, 0, rfl, (by decide +kernel : State.checkAccess _ _ _ _ = none),
       by decide +kernel, by decide +kernel, by decide +kernel, by decide +kernel, by decide +kernel⟩,
   ⟨managedState, _, 0, 1, 0, rfl, (by decide +kernel : State.checkAccess _ _ _ _ = none), by decide +kernel,
       by decide +kernel, by decide +kernel, by decide +kernel⟩,
   ⟨ready, _, 0, rfl, (by decide +kernel : State.checkAccess _ _ _ _ = none), by decide +kernel⟩,
   ⟨ready, _, 0, 4095, rfl, (by decide +kernel : State.checkAccess _ _ _ _ = none), by decide +kernel, by decide +kernel,
       by decide +kernel⟩,
   ⟨ready, _, 0, 4096, rfl, (by decide +kernel : State.checkAccess _ _ _ _ = none), by decide +kernel, by decide +kernel⟩⟩

/-- The conditions of `Obligations.ScheduleAndFlowEventsComplete` are met, each clause by a case of its own. -/
theorem test_meets_ScheduleAndFlowEventsComplete :
    (∃ (s e : State) (dt p : Nat), e = s.elapse dt ∧ (p < 48) ∧ (e.schedRuns p = true))
    ∧ (∃ (s e : State) (dt p : Nat), e = s.elapse dt ∧ (p < 48) ∧ (e.schedRuns p = true) ∧ (e.wakeDue p = true))
    ∧ (∃ (s e : State) (dt p : Nat), e = s.elapse dt ∧ (p < 48) ∧ (e.commitDue p = true))
    ∧ (∃ (s e : State) (dt p : Nat), e = s.elapse dt ∧ (p < 48) ∧ (e.serves = true) ∧ (e.replaceDue p = true) ∧ (e.foState <
        2) ∧ (e.fwdBusy = false))
    ∧ (∃ (s e : State) (dt : Nat), e = s.elapse dt ∧ (e.foState = 3) ∧ (e.fo.phase = 4))
    ∧ (∃ (s e : State) (dt n : Nat), e = s.elapse dt ∧ (n < 8192))
    ∧ (∃ (s e : State) (dt n : Nat), e = s.elapse dt ∧ (n < 8192) ∧ ((e.sctxOf n).latEn = true) ∧ ((e.sctxOf n).latAt +
        (e.sctxOf n).latPeriod ≤ e.clk))
    ∧ (∃ (s e : State) (dt n : Nat), e = s.elapse dt ∧ (n < 8192) ∧ ((e.sctxOf n).latEn = true) ∧ ((e.sctxOf n).latReset +
        (e.sctxOf n).latResetLen ≤ e.clk)) :=
  ⟨⟨(bankReady.set R.SC_Pp_STAT_RUN 1 1), _, 0, 1, rfl, by decide +kernel, by decide +kernel⟩,
   ⟨((bankReady.writes [{ f := R.SC_Pp_STAT_RUN, i := 1, v := 1 }, { f := R.SC_Pp_STAT_ACTIVE, i := 1, v := 1 }]).putEntries 1
       1 0 [(0, 0x1FF)]), _, 0, 1, rfl, by decide +kernel, by decide +kernel, by decide +kernel⟩,
   ⟨({ bankReady.set R.SC_Pp_STAT_PENDING 1 1 with sched := [(1, { commit := some 0 })] }), _, 0, 1, rfl, by decide +kernel,
       by decide +kernel⟩,
   ⟨({ ready with fo := { ready.fo with failed := [47] } }), _, 0, 47, rfl, by decide +kernel, by decide +kernel,
       by decide +kernel, by decide +kernel, by decide +kernel⟩,
   ⟨({ ready.set R.FO_STAT_STATE 3 with fo := { ready.fo with phase := 4 } }), _, 0, rfl, by decide +kernel,
       by decide +kernel⟩,
   ⟨ready, _, 0, 8191, rfl, by decide +kernel⟩,
   ⟨({ ready with clk := 10 ^ 14, sctx := [(8191, { d0 := 0x03000011, latPass := 99 })] }), _, 0, 8191, rfl,
       by decide +kernel, by decide +kernel, by decide +kernel⟩,
   ⟨({ ready with clk := 10 ^ 14, sctx := [(8191, { d0 := 0x03000011, latPass := 99 })] }), _, 0, 8191, rfl,
       by decide +kernel, by decide +kernel, by decide +kernel⟩⟩

/-- The conditions of `Obligations.PtpSessionEventsComplete` are met, each clause by a case of its own. -/
theorem test_meets_PtpSessionEventsComplete :
    (∃ (s e : State) (dt p d : Nat) (c : PtpCfg), e = s.elapse dt ∧ (p < 48) ∧ (d < 256) ∧ (e.ptpOf (sessKey p d) = some c) ∧
        (roleAllows c.role 2 = true) ∧ ((e.domainTb d).isSome = true) ∧ (e.nodeLoop p = false))
    ∧ (∃ (s e : State) (dt p d : Nat) (c : PtpCfg), e = s.elapse dt ∧ (p < 48) ∧ (d < 256) ∧ (e.ptpOf (sessKey p d) = some c)
        ∧ (roleAllows c.role 2 = true) ∧ ((e.domainTb d).isSome = true) ∧ (e.nodeLoop p = true))
    ∧ (∃ (s e : State) (dt p d : Nat) (pdelay : Bool) (c : PtpCfg), e = s.elapse dt ∧ (p < 48) ∧ (d < 256) ∧ (e.ptpOf (sessKey
        p d) = some c) ∧ (c.serves pdelay = true) ∧ ((e.domainTb d).isSome = true) ∧ (e.nodeLoop p = false))
    ∧ (∃ (s e : State) (dt p d : Nat) (pdelay : Bool) (c : PtpCfg), e = s.elapse dt ∧ (p < 48) ∧ (d < 256) ∧ (e.ptpOf (sessKey
        p d) = some c) ∧ (c.serves pdelay = false ∨ e.domainTb d = none))
    ∧ (∃ (s e : State) (dt p d since : Nat) (x : Session) (c : PtpCfg), e = s.elapse dt ∧ (p < 48) ∧ (d < 256) ∧ (e.sess?
        (sessKey p d) = some x) ∧ (x.suspended = some since) ∧ (e.ptpOf (sessKey p d) = some c) ∧ (since + c.hold * 10 ^ 12 ≤
        e.clk))
    ∧ (∃ (s e : State) (dt p d kind : Nat) (c : PtpCfg), e = s.elapse dt ∧ (p < 48) ∧ (d < 256) ∧ (e.ptpOf (sessKey p d) =
        some c) ∧ (e.mayOriginate (sessKey p d) kind c = true) ∧ ((Tab.find? c.sent kind = none ∨ Tab.get 0 c.sent kind +
        c.interval kind ≤ e.clk)))
    ∧ (∃ (s e : State) (dt p d sq2 sq3 : Nat) (x : Session), e = s.elapse dt ∧ (p < 48) ∧ (d < 256) ∧ (e.sess? (sessKey p d) =
        some x) ∧ ((x.suspended ≠ none ∨ sq2 % 16 ≠ sq3 % 16)))
    ∧ (∃ (s e : State) (dt p d sq2 sq3 : Nat) (x : Session), e = s.elapse dt ∧ (p < 48) ∧ (d < 256) ∧ (e.sess? (sessKey p d) =
        some x) ∧ (x.suspended = none) ∧ (sq2 % 16 = sq3 % 16) ∧ (x.npx = 5) ∧ (sq2 % 16 ≠ x.stepSeq))
    ∧ (∃ (s e : State) (dt p d t1 t2 t3 t4 sq2 sq3 : Nat) (x : Session) (mpd asym theta : Int), e = s.elapse dt ∧ (p < 48) ∧
        (d < 256) ∧ (e.sess? (sessKey p d) = some x) ∧ (x.suspended = none) ∧ (sq2 % 16 = sq3 % 16) ∧ (x.role ≠ 2) ∧ ((x.npx =
        5 → sq2 % 16 = x.stepSeq)) ∧ (mpd = (linDist t2 t1 + linDist t4 t3) / 2) ∧ (asym = asymAt x.link mpd) ∧ (theta =
        linDist t2 t1 - mpd - asym))
    ∧ (∃ (s e : State) (dt p d t1 t2 t3 t4 sq2 sq3 : Nat) (x : Session) (mpd asym theta : Int), e = s.elapse dt ∧ (p < 48) ∧
        (d < 256) ∧ (e.sess? (sessKey p d) = some x) ∧ (x.suspended = none) ∧ (sq2 % 16 = sq3 % 16) ∧ (x.role = 2) ∧ (x.npx =
        5) ∧ (sq2 % 16 = x.stepSeq) ∧ (mpd = (linDist t2 t1 + linDist t4 t3) / 2) ∧ (asym = asymAt x.link mpd) ∧ (theta =
        linDist t2 t1 - mpd - asym) ∧ (26214 < (theta - x.theta).natAbs))
    ∧ (∃ (s e : State) (dt p d t1 t2 t3 t4 sq2 sq3 : Nat) (x : Session) (mpd asym theta : Int), e = s.elapse dt ∧ (p < 48) ∧
        (d < 256) ∧ (e.sess? (sessKey p d) = some x) ∧ (x.suspended = none) ∧ (sq2 % 16 = sq3 % 16) ∧ (x.role = 2) ∧ (mpd =
        (linDist t2 t1 + linDist t4 t3) / 2) ∧ (asym = asymAt x.link mpd) ∧ (theta = linDist t2 t1 - mpd - asym) ∧ ((x.npx = 5
        → sq2 % 16 = x.stepSeq ∧ (theta - x.theta).natAbs ≤ 26214))) :=
  ⟨⟨(sessionOf { role := 2 }), _, 0, 2, 5,
      { role := 2, delay := 0, transport := 0, syncLog := 0, dreqLog := 0, annLog := 0, hold := 10 }, rfl, by decide +kernel,
      by decide +kernel, by decide +kernel, by decide +kernel, by decide +kernel, by decide +kernel⟩,
   ⟨{ (sessionOf { role := 2 }) with lane := [(2, { hello := some { flags := 0, node := 0, port := 0 } })] }, _, 0, 2, 5,
       { role := 2, delay := 0, transport := 0, syncLog := 0, dreqLog := 0, annLog := 0, hold := 10 }, rfl, by decide +kernel,
       by decide +kernel, by decide +kernel, by decide +kernel, by decide +kernel, by decide +kernel⟩,
   ⟨{ (sessionOf { role := 1 }) with ptp := [(sessKey 2 5, { role := 1, delay := 0, transport := 0, syncLog := 0, dreqLog := 0, annLog := 0, hold := 10 })] },
       _, 0, 2, 5, false, { role := 1, delay := 0, transport := 0, syncLog := 0, dreqLog := 0, annLog := 0, hold := 10 }, rfl,
       by decide +kernel, by decide +kernel, by decide +kernel, by decide +kernel, by decide +kernel, by decide +kernel⟩,
   ⟨(sessionOf { role := 2 }), _, 0, 2, 5, false,
       { role := 2, delay := 0, transport := 0, syncLog := 0, dreqLog := 0, annLog := 0, hold := 10 }, rfl, by decide +kernel,
       by decide +kernel, by decide +kernel, by decide +kernel⟩,
   ⟨(sessionOf { role := 2, suspended := some 0 }), _, 0, 2, 5, 0, { role := 2, suspended := some 0 },
       { role := 2, delay := 0, transport := 0, syncLog := 0, dreqLog := 0, annLog := 0, hold := 10 }, rfl, by decide +kernel,
       by decide +kernel, by decide +kernel, by decide +kernel, by decide +kernel, by decide +kernel⟩,
   ⟨(sessionOf { role := 2 }), _, 0, 2, 5, 1,
       { role := 2, delay := 0, transport := 0, syncLog := 0, dreqLog := 0, annLog := 0, hold := 10 }, rfl, by decide +kernel,
       by decide +kernel, by decide +kernel, by decide +kernel, by decide +kernel⟩,
   ⟨(sessionOf { role := 2, suspended := some 0 }), _, 0, 2, 5, 17, 1, { role := 2, suspended := some 0 }, rfl,
       by decide +kernel, by decide +kernel, by decide +kernel, by decide +kernel⟩,
   ⟨(sessionOf { role := 2, npx := 5, stepSeq := 3 }), _, 0, 2, 5, 17, 1, { role := 2, npx := 5, stepSeq := 3 }, rfl,
       by decide +kernel, by decide +kernel, by decide +kernel, by decide +kernel, by decide +kernel, by decide +kernel,
       by decide +kernel⟩,
   ⟨(sessionOf { role := 1 }), _, 0, 2, 5, 100, 200, 300, 400, 17, 1, { role := 1 }, 100, 0, 0, rfl, by decide +kernel,
       by decide +kernel, by decide +kernel, by decide +kernel, by decide +kernel, by decide +kernel, by decide +kernel,
       by decide +kernel, by decide +kernel, by decide +kernel⟩,
   ⟨(sessionOf { role := 2, npx := 5, stepSeq := 1, theta := 65536 }), _, 0, 2, 5, 100, 200, 300, 400, 17, 1,
       { role := 2, npx := 5, stepSeq := 1, theta := 65536 }, 100, 0, 0, rfl, by decide +kernel, by decide +kernel,
       by decide +kernel, by decide +kernel, by decide +kernel, by decide +kernel, by decide +kernel, by decide +kernel,
       by decide +kernel, by decide +kernel, by decide +kernel, by decide +kernel⟩,
   ⟨(sessionOf { role := 2 }), _, 0, 2, 5, 100, 200, 300, 400, 17, 1, { role := 2 }, 100, 0, 0, rfl, by decide +kernel,
       by decide +kernel, by decide +kernel, by decide +kernel, by decide +kernel, by decide +kernel, by decide +kernel,
       by decide +kernel, by decide +kernel, by decide +kernel⟩⟩

/-- The conditions of `Obligations.NpxEventsComplete` are met, each clause by a case of its own. -/
theorem test_meets_NpxEventsComplete :
    (∃ (s e : State) (dt p d org version node : Nat) (x : Session), e = s.elapse dt ∧ (p < 48) ∧ (d < 256) ∧ (e.sess? (sessKey
        p d) = some x) ∧ (x.npx = 1 ∨ x.npx = 2) ∧ (x.suspended = none) ∧ (org = e.get R.PT_NPX_CFG_NPX_ORG_ID) ∧ (version <
        2) ∧ (node % 2 ^ 20 ≠ e.nodeId))
    ∧ (∃ (s e : State) (dt p d org version node : Nat) (x : Session), e = s.elapse dt ∧ (p < 48) ∧ (d < 256) ∧ (e.sess?
        (sessKey p d) = some x) ∧ (x.npx ≠ 0) ∧ (x.suspended = none) ∧ (org = e.get R.PT_NPX_CFG_NPX_ORG_ID) ∧ (version < 2) ∧
        (node % 2 ^ 20 = e.nodeId))
    ∧ (∃ (s e : State) (dt p d org version : Nat) (x : Session), e = s.elapse dt ∧ (p < 48) ∧ (d < 256) ∧ (e.sess? (sessKey p
        d) = some x) ∧ ((x.npx = 0 ∨ x.suspended ≠ none ∨ org ≠ e.get R.PT_NPX_CFG_NPX_ORG_ID ∨ 2 ≤ version)))
    ∧ (∃ (s e : State) (dt p d org flags : Nat) (x : Session), e = s.elapse dt ∧ (p < 48) ∧ (d < 256) ∧ (e.sess? (sessKey p d)
        = some x) ∧ (4 ≤ x.npx) ∧ (x.suspended = none) ∧ (org = e.get R.PT_NPX_CFG_NPX_ORG_ID) ∧ ((x.npx = 5 ∧ bitOf flags 2 =
        true)))
    ∧ (∃ (s e : State) (dt p d org flags : Nat) (x : Session), e = s.elapse dt ∧ (p < 48) ∧ (d < 256) ∧ (e.sess? (sessKey p d)
        = some x) ∧ (4 ≤ x.npx) ∧ (x.suspended = none) ∧ (org = e.get R.PT_NPX_CFG_NPX_ORG_ID) ∧ ((x.npx ≠ 5 ∨ bitOf flags 2 =
        false)))
    ∧ (∃ (s e : State) (dt p d : Nat) (x : Session), e = s.elapse dt ∧ (p < 48) ∧ (d < 256) ∧ (e.sess? (sessKey p d) = some x)
        ∧ (x.npx = 1) ∧ (x.suspended = none) ∧ (x.since + 8 * 10 ^ 12 ≤ e.clk))
    ∧ (∃ (s e : State) (dt p d : Nat) (x : Session), e = s.elapse dt ∧ (p < 48) ∧ (d < 256) ∧ (e.sess? (sessKey p d) = some x)
        ∧ (x.npx = 5) ∧ ((∀ r, e.phaseRate x = some r → x.phaseAt + 4 * logPs (-r) ≤ e.clk)))
    ∧ (∃ (s e : State) (dt p d : Nat) (x : Session), e = s.elapse dt ∧ (p < 48) ∧ (d < 256) ∧ (e.sess? (sessKey p d) = some x)
        ∧ (x.npx ≠ 0) ∧ (x.suspended = none) ∧ (x.capSent + (if x.npx = 1 then 10 ^ 12 else 8 * 10 ^ 12) ≤ e.clk))
    ∧ (∃ (s e : State) (dt p d : Nat) (x : Session) (r : Int), e = s.elapse dt ∧ (p < 48) ∧ (d < 256) ∧ (e.sess? (sessKey p d)
        = some x) ∧ (e.phaseRate x = some r) ∧ (x.npx ≠ 0) ∧ (x.suspended = none) ∧ (x.readings ≠ []) ∧ (x.phaseSent + logPs
        (-r) ≤ e.clk))
    ∧ (∃ (s e : State) (dt l code : Nat), e = s.elapse dt ∧ (l < 60) ∧ ((e.fpmOf l).lockAt ≠ none) ∧ ((e.fpmOf l).ms ≠
        e.msIndex) ∧ (code < 3200))
    ∧ (∃ (s e : State) (dt l t : Nat), e = s.elapse dt ∧ (l < 60) ∧ ((e.fpmOf l).lockAt = some t) ∧ (t + 16 * 10 ^ 9 ≤ e.clk))
        :=
  ⟨⟨(sessionOf { role := 2, npx := 1 }), _, 0, 2, 5, ready.get R.PT_NPX_CFG_NPX_ORG_ID, 1, 3, { role := 2, npx := 1 }, rfl,
      by decide +kernel, by decide +kernel, by decide +kernel, by decide +kernel, by decide +kernel, by decide +kernel,
      by decide +kernel, by decide +kernel⟩,
   ⟨(sessionOf { role := 2, npx := 1 }), _, 0, 2, 5, ready.get R.PT_NPX_CFG_NPX_ORG_ID, 1, ready.nodeId,
       { role := 2, npx := 1 }, rfl, by decide +kernel, by decide +kernel, by decide +kernel, by decide +kernel,
       by decide +kernel, by decide +kernel, by decide +kernel, by decide +kernel⟩,
   ⟨(sessionOf { role := 2, npx := 1 }), _, 0, 2, 5, 0, 2, { role := 2, npx := 1 }, rfl, by decide +kernel, by decide +kernel,
       by decide +kernel, by decide +kernel⟩,
   ⟨(sessionOf { role := 2, npx := 5 }), _, 0, 2, 5, ready.get R.PT_NPX_CFG_NPX_ORG_ID, 7, { role := 2, npx := 5 }, rfl,
       by decide +kernel, by decide +kernel, by decide +kernel, by decide +kernel, by decide +kernel, by decide +kernel,
       by decide +kernel⟩,
   ⟨(sessionOf { role := 2, npx := 4 }), _, 0, 2, 5, ready.get R.PT_NPX_CFG_NPX_ORG_ID, 7, { role := 2, npx := 4 }, rfl,
       by decide +kernel, by decide +kernel, by decide +kernel, by decide +kernel, by decide +kernel, by decide +kernel,
       by decide +kernel⟩,
   ⟨(sessionOf { role := 2, npx := 1 }), _, 0, 2, 5, { role := 2, npx := 1 }, rfl, by decide +kernel, by decide +kernel,
       by decide +kernel, by decide +kernel, by decide +kernel, by decide +kernel⟩,
   ⟨(sessionOf { role := 2, npx := 5 }), _, 0, 2, 5, { role := 2, npx := 5 }, rfl, by decide +kernel, by decide +kernel,
       by decide +kernel, by decide +kernel, by decide +kernel⟩,
   ⟨(sessionOf { role := 2, npx := 1 }), _, 0, 2, 5, { role := 2, npx := 1 }, rfl, by decide +kernel, by decide +kernel,
       by decide +kernel, by decide +kernel, by decide +kernel, by decide +kernel⟩,
   ⟨(sessionOf { role := 2, npx := 4, offer := 0, readings := [5] }), _, 0, 2, 5,
       { role := 2, npx := 4, offer := 0, readings := [5] }, 0, rfl, by decide +kernel, by decide +kernel, by decide +kernel,
       by decide +kernel, by decide +kernel, by decide +kernel, by decide +kernel, by decide +kernel⟩,
   ⟨({ ready with fpm := [(59, { lockAt := some 0, ms := 1 })] }), _, 0, 59, 3199, rfl, by decide +kernel, by decide +kernel,
       by decide +kernel, by decide +kernel⟩,
   ⟨({ ready with clk := 10 ^ 12, fpm := [(59, { lockAt := some 0 })] }), _, 0, 59, 0, rfl, by decide +kernel,
       by decide +kernel, by decide +kernel⟩⟩

/-- The conditions of `Obligations.PairComparisonComplete` are met, each clause by a case of its own. -/
theorem test_meets_PairComparisonComplete :
    (∃ (s e : State) (dt : Nat) (q : State), e = s.elapse dt ∧ (q = e.settleItems) ∧ (q.pairRuns = true) ∧ (q.agent.sentMs ≠
        q.pairMs))
    ∧ (∃ (s e : State) (dt : Nat), e = s.elapse dt ∧ (e.pairRuns = true))
    ∧ (∃ (s e : State) (dt : Nat) (q : State), e = s.elapse dt ∧ (q = e.settleItems) ∧ ((∀ i ∈ q.agent.own, q.clk < i.at_ + 4
        * 10 ^ 9)) ∧ ((∀ i ∈ q.agent.theirs, i.at_ + 4 * 10 ^ 9 ≤ q.clk)))
    ∧ (∃ (s e : State) (dt : Nat), e = s.elapse dt ∧ (e.on R.RD_PAIR_CFG_EN = true) ∧ (e.agent.lastMs ≠ e.pairMs) ∧ (e.cmpTime
        = false))
    ∧ (∃ (s e : State) (dt : Nat) (x : Session), e = s.elapse dt ∧ (e.on R.RD_PAIR_CFG_EN = true) ∧ (e.agent.lastMs ≠
        e.pairMs) ∧ (e.cmpTime = true) ∧ (e.pairSession = some x))
    ∧ (∃ (s e : State) (dt : Nat), e = s.elapse dt ∧ (e.pairRuns = true))
    ∧ (∃ (s e : State) (dt : Nat) (j : Judge), e = s.elapse dt ∧ (e.agent.ownJudge = some j) ∧ (j.at_ + 4 * 10 ^ 9 ≤ e.clk))
    ∧ (∃ (s e : State) (dt : Nat) (band clkout pps serial compare apll : Bool) (t : State), e = s.elapse dt ∧ (apll = (band &&
        e.roleAplls.all fun a => e.on R.SY_APLLa_STAT_LOCKED a && !e.on R.SY_APLLa_STAT_ALIGN_LOST a)) ∧ (t = (e.setHealth
        apll clkout pps serial e.wireRight compare).agentUpd fun x =>
        { x with testAt := e.clk, asked := false, askedMb := none }) ∧ (e.agent.asked = true))
    ∧ (∃ (s e : State) (dt : Nat) (band apll : Bool), e = s.elapse dt ∧ (apll = (band && e.roleAplls.all fun a => e.on
        R.SY_APLLa_STAT_LOCKED a && !e.on R.SY_APLLa_STAT_ALIGN_LOST a)) ∧ (e.agent.asked = false) ∧ (e.testRuns = true) ∧
        (e.agent.testAt + 10 ^ 10 ≤ e.clk)) :=
  ⟨⟨(paired { sentMs := 1 }), _, 0, _, rfl, rfl, by decide +kernel, by decide +kernel⟩,
   ⟨(paired {}), _, 0, rfl, by decide +kernel⟩,
   ⟨(paired { theirs := [{ ctx := 1, seq := 2, crc := 3, at_ := 5 }] }), _, 0, _, rfl, rfl, by decide +kernel,
       by decide +kernel⟩,
   ⟨(paired { lastMs := 1 }), _, 0, rfl, by decide +kernel, by decide +kernel, by decide +kernel⟩,
   ⟨({ (paired { lastMs := 1 }) with sessions := [(sessKey 46 (ready.get R.RD_PAIR_CFG2_DOMAIN), { role := 2, npx := 5, link := some (0, 0, 0), found := true, capFlags := 8 })] }),
       _, 0, { role := 2, npx := 5, link := some (0, 0, 0), found := true, capFlags := 8 }, rfl, by decide +kernel,
       by decide +kernel, by decide +kernel, by decide +kernel⟩,
   ⟨(paired {}), _, 0, rfl, by decide +kernel⟩,
   ⟨(paired { ownJudge := some { cause := 1, qualified := true, ew := 0, onset := 0, at_ := 0 } }), _, 0,
       { cause := 1, qualified := true, ew := 0, onset := 0, at_ := 0 }, rfl, by decide +kernel, by decide +kernel⟩,
   ⟨(paired { asked := true, askedMb := some 2 }), _, 0, true, false, true, true, true, _, _, rfl, rfl, rfl,
       by decide +kernel⟩,
   ⟨((paired {}).set R.RD_PAIR_STAT_RECOVERY 1), _, 0, true, _, rfl, rfl, by decide +kernel, by decide +kernel,
       by decide +kernel⟩⟩

/-- The conditions of `Obligations.PairRoleComplete` are met, each clause by a case of its own. -/
theorem test_meets_PairRoleComplete :
    (∃ (s e : State) (dt : Nat) (t : State), e = s.elapse dt ∧ (e.pairRuns = true) ∧ (t = (if e.mayTake && !e.on
        R.RD_ROLE_STAT_ROLE_IN && e.agent.claim.isNone then e.agentUpd fun x => { x with claim := some e.clk } else e)) ∧
        (t.roleState ≠ t.agent.roleByte ∨ t.agent.roleAt + 10 ^ 10 ≤ t.clk))
    ∧ (∃ (s e : State) (dt state request instant health : Nat) (alignErr : Int) (node : Nat) (t : State), e = s.elapse dt ∧
        (e.pairRuns = true) ∧ (t = ((e.agentUpd fun x =>
        { x with role := some { state := state % 256, request := request, instant := instant, health := health, alignErr := alignErr, at_ := e.clk } }).settleClaim
        state node)) ∧ (request = 1) ∧ (t.on R.RD_ROLE_STAT_ARMED = true) ∧ (t.roleHeld = false))
    ∧ (∃ (s e : State) (dt state request instant health : Nat) (alignErr : Int) (node i : Nat) (b : Bool) (t : State), e =
        s.elapse dt ∧ (e.pairRuns = true) ∧ (t = ((e.agentUpd fun x =>
        { x with role := some { state := state % 256, request := request, instant := instant, health := health, alignErr := alignErr, at_ := e.clk } }).settleClaim
        state node)) ∧ (request = 2) ∧ (t.agent.handover = some (i, true, b)) ∧ (i = instant % 2 ^ 64))
    ∧ (∃ (s e : State) (dt request : Nat), e = s.elapse dt ∧ (e.pairRuns = true) ∧ (request ≠ 1) ∧ (request ≠ 2))
    ∧ (∃ (s e : State) (dt : Nat), e = s.elapse dt ∧ (e.on R.RD_ROLE_STAT_ROLE_IN = true))
    ∧ (∃ (s e : State) (dt t : Nat), e = s.elapse dt ∧ (e.on R.RD_ROLE_STAT_ROLE_IN = false) ∧ (e.agent.lowFrom = some t) ∧ (t
        + 10 ^ 11 ≤ e.clk) ∧ (e.on R.RD_PAIR_STAT_LINK_UP = false) ∧ (e.on R.RD_ROLE_CFG_PREF = true))
    ∧ (∃ (s e : State) (dt node : Nat) (t : State), e = s.elapse dt ∧ (t = (e.set R.RD_ROLE_STAT_ROLE_IN 1).agentUpd fun x =>
        { x with lowFrom := none }) ∧ (t.roleHeld = true) ∧ (t.wins
        (match t.agent.role with | some r => bitOf r.state 2 | none => false) node = false))
    ∧ (∃ (s e : State) (dt i : Nat) (mine : Bool), e = s.elapse dt ∧ (e.agent.handover = some (i, mine, true)) ∧ (linDist i
        (linear e.pairTime) ≤ 0))
    ∧ (∃ (s e : State) (dt i : Nat), e = s.elapse dt ∧ (e.agent.handover = some (i, true, false)) ∧ (linDist i (linear
        e.pairTime) ≤ 10 ^ 6 * 65536))
    ∧ (∃ (s e : State) (dt t : Nat), e = s.elapse dt ∧ (e.on R.RD_ROLE_STAT_ALIGN_OK = false) ∧ (e.agent.alignFrom = some t) ∧
        (t + 10 ^ 12 ≤ e.clk) ∧ (e.clk < e.agent.alignAt + 10 ^ 12))
    ∧ (∃ (s e : State) (dt : Nat), e = s.elapse dt ∧ (e.on R.RD_ROLE_STAT_ALIGN_OK = true) ∧ (e.agent.alignAt + 10 ^ 12 ≤
        e.clk))
    ∧ (∃ (s e : State) (dt t : Nat) (q : State), e = s.elapse dt ∧ (q = e.armedSync) ∧ (q.agent.armedFrom = some t) ∧ (q.on
        R.RD_PAIR_STAT_RECOVERY = true) ∧ (t + q.get R.RD_PAIR_CFG2_RECOVERY_TIME * 10 ^ 12 ≤ q.clk)) :=
  ⟨⟨(paired {}), _, 0, _, rfl, by decide +kernel, rfl, by decide +kernel⟩,
   ⟨((paired {}).set R.RD_ROLE_STAT_ARMED 1), _, 0, 1, 1, 77, 0, 0, 3, _, rfl, by decide +kernel, rfl, by decide +kernel,
       by decide +kernel, by decide +kernel⟩,
   ⟨(paired { handover := some (77, true, false) }), _, 0, 1, 2, 77, 0, 0, 3, 77, false, _, rfl, by decide +kernel, rfl,
       by decide +kernel, by decide +kernel, by decide +kernel⟩,
   ⟨(paired {}), _, 0, 0, rfl, by decide +kernel, by decide +kernel, by decide +kernel⟩,
   ⟨((paired {}).set R.RD_ROLE_STAT_ROLE_IN 1), _, 0, rfl, by decide +kernel⟩,
   ⟨((paired {}).writes [{ f := R.RD_PAIR_STAT_LINK_UP, v := 0 }, { f := R.RD_ROLE_CFG_PREF, v := 1 }]), _, 0, 0, rfl,
       by decide +kernel, by decide +kernel, by decide +kernel, by decide +kernel, by decide +kernel⟩,
   ⟨((paired {}).writes [{ f := R.RD_ROLE_STAT_HOLD, v := 1 }, { f := R.RD_ROLE_CFG_PREF, v := 0 }]), _, 0, 0, _, rfl, rfl,
       by decide +kernel, by decide +kernel⟩,
   ⟨(paired { handover := some (0, true, true) }), _, 0, 0, true, rfl, by decide +kernel, by decide +kernel⟩,
   ⟨(paired { handover := some (0, true, false) }), _, 0, 0, rfl, by decide +kernel, by decide +kernel⟩,
   ⟨(paired { alignFrom := some 0, alignAt := 10 ^ 14 }), _, 0, 0, rfl, by decide +kernel, by decide +kernel,
       by decide +kernel, by decide +kernel⟩,
   ⟨((paired {}).set R.RD_ROLE_STAT_ALIGN_OK 1), _, 0, rfl, by decide +kernel, by decide +kernel⟩,
   ⟨(({ (paired { armedFrom := some 0 }) with clk := 10 ^ 16 }).set R.RD_PAIR_STAT_RECOVERY 1), _, 0, 0, _, rfl, rfl,
       by decide +kernel, by decide +kernel, by decide +kernel⟩⟩

/-- The conditions of `Obligations.TelemetryEventsComplete` are met, each clause by a case of its own. -/
theorem test_meets_TelemetryEventsComplete :
    (∃ (s q : State) (init off v : Nat), q = s.quiet ∧ Allowed q init (0x300000 + off) false ∧ off < 0xB000 ∧ off % 4 = 0 ∧
        q.cntValue off = some v)
    ∧ (∃ (s q : State) (init addr v : Nat) (gl : Bool) (g k w : Nat), q = s.quiet ∧ Allowed q init (addr) true ∧ (cntAt addr =
        some (gl, g, k, w)) ∧ (q.writable ((cntWrites gl g k v v v).filter fun x => (x.f.addr % 16) / 4 == w)))
    ∧ (∃ (s e : State) (dt : Nat), e = s.elapse dt ∧ (e.cntWin < e.clk / 10 ^ 9))
    ∧ (∃ (s q : State) (init p w v : Nat), q = s.quiet ∧ Allowed q init (0x67A000 + 16 * p + 4 * w) true ∧ (p < 48) ∧ (w < 3)
        ∧ (q.writable (inRangeWrites (bwWrites p w v))))
    ∧ (∃ (s e : State) (dt p : Nat), e = s.elapse dt ∧ (p < 48) ∧ (e.windowOver p = true))
    ∧ (∃ (s e : State) (dt p : Nat), e = s.elapse dt ∧ (p < 48) ∧ (e.on R.TL_BWp_CFG_EN p = true) ∧ (e.get
        R.TL_BWp_PER_PERIOD_N p ≤ (e.bwOf p).windows))
    ∧ (∃ (s e : State) (dt : Nat) (c : Capture) (rest : List Capture), e = s.elapse dt ∧ (e.tally.waiting = c :: rest))
    ∧ (∃ (s q : State) (init i : Nat), q = s.quiet ∧ Allowed q init (0x100000 + 4 * i) true ∧ (i < 4))
    ∧ (∃ (s q : State) (init : Nat), q = s.quiet ∧ Allowed q init (0x100030) true)
    ∧ (∃ (s q : State) (init : Nat) (r : EvRec) (rest : List EvRec), q = s.quiet ∧ Allowed q init (0x100040) false ∧
        (q.ev.secFifo = r :: rest))
    ∧ (∃ (s q : State) (init : Nat) (r : EvRec) (rest : List EvRec), q = s.quiet ∧ Allowed q init (0x100050) false ∧
        (q.ev.nonFifo = r :: rest))
    ∧ (∃ (s q : State) (init : Nat), q = s.quiet ∧ Allowed q init (0x100040) false ∧ (q.ev.secFifo = [])) :=
  ⟨⟨ready, _, 4, 0, 0, rfl, (by decide +kernel +kernel : State.checkAccess _ _ _ _ = none), by decide +kernel,
      by decide +kernel, by decide +kernel⟩,
   ⟨ready, _, 0, 0x678400, 0, false, 0, 0, 0, rfl, (by decide +kernel : State.checkAccess _ _ _ _ = none), by decide +kernel,
       by decide +kernel⟩,
   ⟨({ ready with clk := 10 ^ 12 }), _, 0, rfl, by decide +kernel⟩,
   ⟨ready, _, 0, 47, 2, 5, rfl, (by decide +kernel : State.checkAccess _ _ _ _ = none), by decide +kernel, by decide +kernel,
       by decide +kernel⟩,
   ⟨({ ready.writes [{ f := R.TL_BWp_CFG_EN, i := 1, v := 1 }, { f := R.TL_BWp_PER_PERIOD_N, i := 1, v := 5 }] with clk := 10 ^ 14, bw := [(1, {})] }),
       _, 0, 1, rfl, by decide +kernel, by decide +kernel⟩,
   ⟨({ ready.writes [{ f := R.TL_BWp_CFG_EN, i := 1, v := 1 }, { f := R.TL_BWp_PER_PERIOD_N, i := 1, v := 5 }] with bw := [(1, { windows := 5 })] }),
       _, 0, 1, rfl, by decide +kernel, by decide +kernel, by decide +kernel⟩,
   ⟨({ ready with tally := { waiting := [{ sampler := 0, frame := none, words := [], bytes := [], bank := none }] } }), _, 0,
       { sampler := 0, frame := none, words := [], bytes := [], bank := none }, [], rfl, by decide +kernel⟩,
   ⟨ready, _, 4, 3, rfl, (by decide +kernel : State.checkAccess _ _ _ _ = none), by decide +kernel⟩,
   ⟨ready, _, 4, rfl, (by decide +kernel : State.checkAccess _ _ _ _ = none)⟩,
   ⟨({ ready with ev := { secFifo := [{ w0 := 1, w1 := 2, w2 := 3, w3 := 4 }] } }), _, 4,
       { w0 := 1, w1 := 2, w2 := 3, w3 := 4 }, [], rfl, (by decide +kernel : State.checkAccess _ _ _ _ = none),
       by decide +kernel⟩,
   ⟨({ ready with ev := { nonFifo := [{ w0 := 1, w1 := 2, w2 := 3, w3 := 4 }] } }), _, 4,
       { w0 := 1, w1 := 2, w2 := 3, w3 := 4 }, [], rfl, (by decide +kernel : State.checkAccess _ _ _ _ = none),
       by decide +kernel⟩,
   ⟨ready, _, 4, rfl, (by decide +kernel : State.checkAccess _ _ _ _ = none), by decide +kernel⟩⟩

/-- The conditions of `Obligations.CalibrationAndTrimStoreComplete` are met, each clause by a case of its own. -/
theorem test_meets_CalibrationAndTrimStoreComplete :
    (∃ (s e : State) (dt n : Nat) (t : State), e = s.elapse dt ∧ (n < 8) ∧ (t = e.trainUp n) ∧ (t.tbOn n = true) ∧ (t.ocxoMark
        n + dayPs ≤ Tab.get 0 t.us.trained n))
    ∧ (∃ (s e : State) (dt : Nat) (k : Nat) (rest : List Nat), e = s.elapse dt ∧ (e.calRuns = true) ∧ (e.cal.left = k :: rest)
        ∧ (¬ ((e.get R.CA_RUN_STAT_ITEM) = 8 ∧ e.subState (k / 4) ≠ 1)) ∧ (e.calDue (e.get R.CA_RUN_STAT_ITEM) k = true))
    ∧ (∃ (s e : State) (dt : Nat) (g : Nat), e = s.elapse dt ∧ (e.calRuns = false) ∧ (e.peerGrove = some g))
    ∧ (∃ (s e : State) (dt : Nat), e = s.elapse dt ∧ (e.calRuns = true) ∧ (e.cal.left = []))
    ∧ (∃ (s e : State) (dt : Nat) (a : CalApply), e = s.elapse dt ∧ (e.cal.apply = some a) ∧ (e.calRuns = true) ∧ (a.at_ ≤
        e.lineTime))
    ∧ (∃ (s e : State) (dt : Nat) (pps : Bool), e = s.elapse dt ∧ (e.calRuns = true) ∧ (calNeedsPps (e.get R.CA_RUN_STAT_ITEM)
        = true) ∧ (pps = false))
    ∧ (∃ (s e : State) (dt : Nat) (pps ten : Bool), e = s.elapse dt ∧ (e.calRuns = true) ∧ (calNeedsPps (e.get
        R.CA_RUN_STAT_ITEM) = false ∨ pps = true) ∧ (calNeedsTen (e.get R.CA_RUN_STAT_ITEM) = true) ∧ (ten = false))
    ∧ (∃ (s e : State) (dt : Nat), e = s.elapse dt ∧ (e.calRuns = false))
    ∧ (∃ (s q : State) (init slot : Nat), q = s.quiet ∧ Allowed q init (0x690008) true ∧ (slot < 1024) ∧ (q.nvOp = none))
    ∧ (∃ (s q : State) (init slot : Nat), q = s.quiet ∧ Allowed q init (0x690008) true ∧ (slot < 1024) ∧ (init ≠ 4) ∧ (q.nvOp
        = none))
    ∧ (∃ (s q : State) (init slot : Nat), q = s.quiet ∧ Allowed q init (0x690008) true ∧ (slot < 1024) ∧ (init ≠ 4) ∧ (q.nvOp
        = none))
    ∧ (∃ (s q : State) (init slot : Nat) (o : NvOp), q = s.quiet ∧ Allowed q init (0x690008) true ∧ (slot < 1024) ∧ (init ≠ 4)
        ∧ (q.nvOp = some o))
    ∧ (∃ (s e : State) (dt : Nat) (o : NvOp), e = s.elapse dt ∧ (e.nvOp = some o))
    ∧ (∃ (s e : State) (dt t : Nat), e = s.elapse dt ∧ (e.ci.passStart = some t) ∧ (t + 10 ^ 9 ≤ e.clk))
    ∧ (∃ (s q : State) (init : Nat), q = s.quiet ∧ Allowed q init (0x400300) true)
    ∧ (∃ (s q : State) (init : Nat), q = s.quiet ∧ Allowed q init (0x400304) true)
    ∧ (∃ (s q : State) (init : Nat), q = s.quiet ∧ Allowed q init (0x400000) true ∧ (q.initSecure init = true))
    ∧ (∃ (s q : State) (init : Nat), q = s.quiet ∧ Allowed q init (0x400000) true ∧ (q.initSecure init = false)) :=
  ⟨⟨({ tbState with us := { tbState.us with trained := [(1, 2 * 10 ^ 17)] } }), _, 0, 1, _, rfl, by decide +kernel, rfl,
      by decide +kernel, by decide +kernel⟩,
   ⟨(let s := calibrating.writes [{ f := R.CA_RUN_STAT_RUNNING, v := 1 }, { f := R.CA_RUN_STAT_ITEM, v := 1 }];
       { s with cal := { s.cal with left := [0] }, clk := 10 ^ 16 }), _, 0, 0, [], rfl, by decide +kernel, by decide +kernel,
       by decide +kernel, by decide +kernel⟩,
   ⟨({ linkUp.writes [{ f := R.MODE_STATE_MODE, v := 4 }, { f := R.CA_CFG_PEER_SUB, v := 1 }, { f := R.LN_GRVg_STAT_SUB_STATE, v := 1 }, { f := R.LN_Ll_STAT_STATE, i := 4, v := 3 }, { f := R.LN_Ll_STAT_ALIGNED, i := 4, v := 1 }] with subst := [(0, { port := 1, calib := true, remote := true, since := 0, acked := true })] }),
       _, 0, 0, rfl, by decide +kernel, by decide +kernel⟩,
   ⟨(calibrating.set R.CA_RUN_STAT_RUNNING 1), _, 0, rfl, by decide +kernel, by decide +kernel⟩,
   ⟨(let s := calibrating.set R.CA_RUN_STAT_RUNNING 1;
       { s with cal := { s.cal with apply := some { item := 1, target := 2, values := [3], quality := 1, at_ := 0 } } }), _,
       0, { item := 1, target := 2, values := [3], quality := 1, at_ := 0 }, rfl, by decide +kernel, by decide +kernel,
       by decide +kernel⟩,
   ⟨(calibrating.writes [{ f := R.CA_RUN_STAT_RUNNING, v := 1 }, { f := R.CA_RUN_STAT_ITEM, v := 6 }]), _, 0, false, rfl,
       by decide +kernel, by decide +kernel, by decide +kernel⟩,
   ⟨(calibrating.writes [{ f := R.CA_RUN_STAT_RUNNING, v := 1 }, { f := R.CA_RUN_STAT_ITEM, v := 3 }]), _, 0, true, false,
       rfl, by decide +kernel, by decide +kernel, by decide +kernel, by decide +kernel⟩,
   ⟨ready, _, 0, rfl, by decide +kernel⟩,
   ⟨ready, _, 0, 9, rfl, (by decide +kernel : State.checkAccess _ _ _ _ = none), by decide +kernel, by decide +kernel⟩,
   ⟨ready, _, 0, 1023, rfl, (by decide +kernel : State.checkAccess _ _ _ _ = none), by decide +kernel, by decide +kernel,
       by decide +kernel⟩,
   ⟨ready, _, 0, 1023, rfl, (by decide +kernel : State.checkAccess _ _ _ _ = none), by decide +kernel, by decide +kernel,
       by decide +kernel⟩,
   ⟨({ ready with nvOp := some { op := 1, slot := 3, at_ := 0 } }), _, 0, 1023, { op := 1, slot := 3, at_ := 0 }, rfl,
       (by decide +kernel : State.checkAccess _ _ _ _ = none), by decide +kernel, by decide +kernel, by decide +kernel⟩,
   ⟨({ ready with nvOp := some { op := 1, slot := 3, at_ := 0 } }), _, 0, { op := 1, slot := 3, at_ := 0 }, rfl,
       by decide +kernel⟩,
   ⟨({ ready with ci := { ready.ci with passStart := some 0 }, clk := 10 ^ 12 }), _, 0, 0, rfl, by decide +kernel,
       by decide +kernel⟩,
   ⟨ready, _, 4, rfl, (by decide +kernel : State.checkAccess _ _ _ _ = none)⟩,
   ⟨ready, _, 4, rfl, (by decide +kernel : State.checkAccess _ _ _ _ = none)⟩,
   ⟨ready, _, 4, rfl, (by decide +kernel : State.checkAccess _ _ _ _ = none), by decide +kernel⟩,
   ⟨ready, _, 5, rfl, (by decide +kernel : State.checkAccess _ _ _ _ = none), by decide +kernel⟩⟩

/-- The conditions of `Obligations.HostAndManagementPortsComplete` are met, each clause by a case of its own. -/
theorem test_meets_HostAndManagementPortsComplete :
    (∃ (s e : State) (dt gen width : Nat), e = s.elapse dt ∧ (e.powered = true) ∧ (e.beforeStep 2 = false) ∧ (1 ≤ gen) ∧ (gen
        ≤ 4) ∧ (width = 1 ∨ width = 2 ∨ width = 4) ∧ (e.on R.HI_PCIE_STAT_LINK_UP = false))
    ∧ (∃ (s e : State) (dt : Nat), e = s.elapse dt ∧ (e.powered = true))
    ∧ (∃ (s e : State) (dt f : Nat), e = s.elapse dt ∧ (f < 2) ∧ (e.on R.HI_PCIE_STAT_LINK_UP = true))
    ∧ (∃ (s q : State) (f vmask : Nat), q = s.quiet ∧ (f < 2) ∧ (vmask < 2 ^ 32) ∧ (q.on R.HI_PCIE_STAT_LINK_UP = true))
    ∧ (∃ (s e : State) (dt speed v : Nat) (up : Bool), e = s.elapse dt ∧ (e.powered = true) ∧ (e.asleep 41 = false) ∧ (v = (if
        !up then 0 else if e.on R.HI_M0_CFG_MODE then min 2 speed else 2)) ∧ ((e.on R.HI_M0_STAT_LINK != up || e.get
        R.HI_M0_STAT_SPEED != v) = true))
    ∧ (∃ (s e : State) (dt : Nat) (bytes : List Byte), e = s.elapse dt ∧ (e.asleep 41 = false) ∧ (e.on R.HI_M0_STAT_LINK =
        true) ∧ (e.m0Takes bytes = true))
    ∧ (∃ (s e : State) (dt : Nat) (f : M0Frame) (rest : List M0Frame) (p : State), e = s.elapse dt ∧ (e.asleep 41 = false) ∧
        (e.hi.m0 = f :: rest) ∧ (p = { e with hi := { e.hi with m0 := rest } }) ∧ (fieldAt f.payload 2 1 = 1) ∧ (m0Good f
        false = true))
    ∧ (∃ (s e : State) (dt : Nat) (f : M0Frame) (rest : List M0Frame), e = s.elapse dt ∧ (e.asleep 41 = false) ∧ (e.hi.m0 = f
        :: rest) ∧ (fieldAt f.payload 2 1 ≠ 2) ∧ ((fieldAt f.payload 2 1 ≠ 1 ∨ m0Good f false = false)))
    ∧ (∃ (s e : State) (dt : Nat) (f : M0Frame) (rest : List M0Frame) (p : State), e = s.elapse dt ∧ (e.asleep 41 = false) ∧
        (e.hi.m0 = f :: rest) ∧ (p = { e with hi := { e.hi with m0 := rest } }) ∧ (fieldAt f.payload 2 1 = 2) ∧ (m0Good f true
        = true))
    ∧ (∃ (s q : State), q = s.quiet ∧ q.powered = true)
    ∧ (∃ (s q : State), q = s.quiet ∧ q.powered = true)
    ∧ (∃ (s q : State), q = s.quiet ∧ q.powered = true)
    ∧ (∃ (s q : State), q = s.quiet ∧ q.powered = true)
    ∧ (∃ (s q : State), q = s.quiet ∧ q.powered = true)
    ∧ (∃ (s q : State), q = s.quiet ∧ q.powered = true)
    ∧ (∃ (s q : State) (n u : Nat), q = s.quiet ∧ q.powered = true ∧ n = q.lineTb ∧ u = units16 (q.time n) / 65536)
    ∧ (∃ (s q : State), q = s.quiet ∧ q.powered = true)
    ∧ (∃ (s q : State) (off : Nat) (words : List Nat) (pec : Bool), q = s.quiet ∧ q.powered = true ∧ (q.on R.HI_I2C_CFG_PEC_EN
        = false ∨ pec = true))
    ∧ (∃ (s q : State) (off : Nat) (words : List Nat), q = s.quiet ∧ q.powered = true ∧ q.on R.HI_I2C_CFG_PEC_EN = true)
    ∧ (∃ (s q : State) (off n : Nat), q = s.quiet ∧ q.powered = true ∧ mbOffset off = true ∧ n < 256)
    ∧ (∃ (s q : State) (off n : Nat), q = s.quiet ∧ q.powered = true ∧ mbOffset off = false)
    ∧ (∃ (s q : State) (n cmd lease : Nat) (pec : Bool), q = s.quiet ∧ q.powered = true ∧ n < 64 ∧ cmd < 4 ∧ lease < 1024 ∧
        (q.on R.HI_I2C_CFG_PEC_EN = false ∨ pec = true))
    ∧ (∃ (s q : State) (n : Nat), q = s.quiet ∧ q.powered = true ∧ n < 64)
    ∧ (∃ (s q : State) (n : Nat), q = s.quiet ∧ q.powered = true ∧ 64 ≤ n ∧ n < 256)
    ∧ (∃ (s q : State) (c : Nat), q = s.quiet ∧ q.powered = true ∧ 8 ≤ c ∧ c < 256 ∧ c ≠ 0x10 ∧ c ≠ 0x11)
    ∧ (∃ (s e : State) (dt : Nat), e = s.elapse dt ∧ (e.powered = true)) :=
  ⟨⟨ready, _, 0, 4, 2, rfl, by decide +kernel, by decide +kernel, by decide +kernel, by decide +kernel, by decide +kernel,
      by decide +kernel⟩,
   ⟨({ ready.writes [{ f := R.HI_PCIE_STAT_LINK_UP, v := 1 }, { f := R.HI_PCIE_STAT_SPEED, v := 3 }, { f := R.HI_PCIE_STAT_WIDTH, v := 4 }] with clk := 5 }),
       _, 0, rfl, by decide +kernel⟩,
   ⟨({ ready.writes [{ f := R.HI_PCIE_STAT_LINK_UP, v := 1 }, { f := R.HI_PCIE_STAT_SPEED, v := 3 }, { f := R.HI_PCIE_STAT_WIDTH, v := 4 }] with clk := 5 }),
       _, 0, 1, rfl, by decide +kernel, by decide +kernel⟩,
   ⟨({ ready.writes [{ f := R.HI_PCIE_STAT_LINK_UP, v := 1 }, { f := R.HI_PCIE_STAT_SPEED, v := 3 }, { f := R.HI_PCIE_STAT_WIDTH, v := 4 }] with clk := 5 }),
       _, 1, 5, rfl, by decide +kernel, by decide +kernel, by decide +kernel⟩,
   ⟨ready, _, 0, 2, _, true, rfl, by decide +kernel, by decide +kernel, rfl, by decide +kernel⟩,
   ⟨(ready.writes [{ f := R.HI_M0_STAT_LINK, v := 1 }, { f := R.HI_M0_CFG_EN, v := 1 },
       { f := R.HI_M0_CFG_PEER_EN, v := 0 }]), _, 0, beBytes 6 ready.m0Mac ++ beBytes 6 9 ++ beBytes 2 0x88B5, rfl,
       by decide +kernel, by decide +kernel, by decide +kernel⟩,
   ⟨({ ready.writes [{ f := R.HI_M0_STAT_LINK, v := 1 }] with hi := { ready.hi with m0 := [{ src := 5, payload := beBytes 2 0x4B4D ++ [1, 1] ++ beBytes 2 9 ++ beBytes 2 0 ++ beBytes 4 0x100000 ++ beBytes 4 7 }] } }),
       _, 0,
       { src := 5, payload := beBytes 2 0x4B4D ++ [1, 1] ++ beBytes 2 9 ++ beBytes 2 0 ++ beBytes 4 0x100000 ++ beBytes 4 7 },
       [], _, rfl, by decide +kernel, by decide +kernel, rfl, by decide +kernel, by decide +kernel⟩,
   ⟨({ ready.writes [{ f := R.HI_M0_STAT_LINK, v := 1 }] with hi := { ready.hi with m0 := [{ src := 5, payload := beBytes 2 0x4B4D ++ [3, 1] ++ beBytes 2 9 ++ beBytes 2 0 ++ beBytes 4 0x100000 ++ beBytes 4 7 }] } }),
       _, 0,
       { src := 5, payload := beBytes 2 0x4B4D ++ [3, 1] ++ beBytes 2 9 ++ beBytes 2 0 ++ beBytes 4 0x100000 ++ beBytes 4 7 },
       [], rfl, by decide +kernel, by decide +kernel, by decide +kernel, by decide +kernel⟩,
   ⟨({ ready.writes [{ f := R.HI_M0_STAT_LINK, v := 1 }] with hi := { ready.hi with m0 := [{ src := 5, payload := beBytes 2 0x4B4D ++ [2, 1] ++ beBytes 2 9 ++ beBytes 2 0 ++ beBytes 4 0x100000 ++ beBytes 4 7 }] } }),
       _, 0,
       { src := 5, payload := beBytes 2 0x4B4D ++ [2, 1] ++ beBytes 2 9 ++ beBytes 2 0 ++ beBytes 4 0x100000 ++ beBytes 4 7 },
       [], _, rfl, by decide +kernel, by decide +kernel, rfl, by decide +kernel, by decide +kernel⟩,
   ⟨ready, _, rfl, by decide +kernel⟩,
   ⟨ready, _, rfl, by decide +kernel⟩,
   ⟨ready, _, rfl, by decide +kernel⟩,
   ⟨ready, _, rfl, by decide +kernel⟩,
   ⟨ready, _, rfl, by decide +kernel⟩,
   ⟨ready, _, rfl, by decide +kernel⟩,
   ⟨ready, _, _, _, rfl, by decide +kernel, rfl, rfl⟩,
   ⟨ready, _, rfl, by decide +kernel⟩,
   ⟨ready, _, 0, [1], true, rfl, by decide +kernel, by decide +kernel⟩,
   ⟨(ready.set R.HI_I2C_CFG_PEC_EN 1), _, 0, [1], rfl, by decide +kernel, by decide +kernel⟩,
   ⟨ready, _, 0x208, 3, rfl, by decide +kernel, by decide +kernel, by decide +kernel⟩,
   ⟨ready, _, 0x20C, 3, rfl, by decide +kernel, by decide +kernel⟩,
   ⟨ready, _, 63, 1, 5, true, rfl, by decide +kernel, by decide +kernel, by decide +kernel, by decide +kernel,
       by decide +kernel⟩,
   ⟨ready, _, 63, rfl, by decide +kernel, by decide +kernel⟩,
   ⟨ready, _, 64, rfl, by decide +kernel, by decide +kernel, by decide +kernel⟩,
   ⟨ready, _, 8, rfl, by decide +kernel, by decide +kernel, by decide +kernel, by decide +kernel, by decide +kernel⟩,
   ⟨ready, _, 0, rfl, by decide +kernel⟩⟩

/-- The conditions of `Obligations.ConsoleAndTestPortComplete` are met, each clause by a case of its own. -/
theorem test_meets_ConsoleAndTestPortComplete :
    (∃ (s e : State) (dt : Nat), e = s.elapse dt ∧ (e.powered = true) ∧ (e.asleep 44 = false) ∧ (e.on R.HI_UART_CFG_EN = true)
        ∧ (e.hi.uart.length < 256))
    ∧ (∃ (s e : State) (dt : Nat), e = s.elapse dt ∧ (e.powered = true) ∧ (e.asleep 44 = false) ∧ (e.on R.HI_UART_CFG_EN =
        true) ∧ (256 ≤ e.hi.uart.length))
    ∧ (∃ (s e : State) (dt : Nat) (rest : List Byte), e = s.elapse dt ∧ (e.on R.MB_STATUS_FW_READY = true) ∧ (e.asleep 44 =
        false) ∧ (e.on R.HI_UART_CFG_EN = true) ∧ (firstLine e.hi.uart = some (ascii "status", rest)))
    ∧ (∃ (s e : State) (dt : Nat) (rest : List Byte), e = s.elapse dt ∧ (e.on R.MB_STATUS_FW_READY = true) ∧ (e.asleep 44 =
        false) ∧ (e.on R.HI_UART_CFG_EN = true) ∧ (firstLine e.hi.uart = some (ascii "temp", rest)))
    ∧ (∃ (s e : State) (dt : Nat) (rest : List Byte), e = s.elapse dt ∧ (e.on R.MB_STATUS_FW_READY = true) ∧ (e.asleep 44 =
        false) ∧ (e.on R.HI_UART_CFG_EN = true) ∧ (firstLine e.hi.uart = some (ascii "ver", rest)))
    ∧ (∃ (s e : State) (dt : Nat) (rest : List Byte), e = s.elapse dt ∧ (e.on R.MB_STATUS_FW_READY = true) ∧ (e.asleep 44 =
        false) ∧ (e.on R.HI_UART_CFG_EN = true) ∧ (firstLine e.hi.uart = some (ascii "help", rest)))
    ∧ (∃ (s e : State) (dt : Nat) (line rest : List Byte), e = s.elapse dt ∧ (e.on R.MB_STATUS_FW_READY = true) ∧ (e.asleep 44
        = false) ∧ (e.on R.HI_UART_CFG_EN = true) ∧ (firstLine e.hi.uart = some (line, rest)) ∧ ((consoleLines.any fun l =>
        line == ascii l) = false))
    ∧ (∃ (s : State), s.powered = true ∧ s.asleep 45 = false)
    ∧ (∃ (s : State) (code : Nat), s.powered = true ∧ s.asleep 45 = false ∧ code < 256 ∧ [0x01, 0x02, 0x03, 0x04, 0x05, 0x20,
        0x21].contains code = false)
    ∧ (∃ (s : State), s.powered = true ∧ s.asleep 45 = false)
    ∧ (∃ (s : State), s.powered = true ∧ s.asleep 45 = false)
    ∧ (∃ (s : State), s.powered = true ∧ s.asleep 45 = false ∧ (s.selectIr 3).mode = 5)
    ∧ (∃ (s : State), s.powered = true ∧ s.asleep 45 = false ∧ (s.selectIr 3).mode ≠ 5)
    ∧ (∃ (s : State), s.powered = true ∧ s.asleep 45 = false)
    ∧ (∃ (s : State), s.powered = true ∧ s.asleep 45 = false)
    ∧ (∃ (s : State), s.powered = true ∧ s.asleep 45 = false)
    ∧ (∃ (s : State), s.powered = true ∧ s.asleep 45 = false)
    ∧ (∃ (s : State) (t : State), s.powered = true ∧ s.asleep 45 = false ∧ t = s.selectIr 0x21 ∧ t.on R.FB_CFG_DEBUG_PERMIT =
        false)
    ∧ (∃ (s : State) (key sr ss ch : Nat) (t u : State), s.powered = true ∧ s.asleep 45 = false ∧ t = s.selectIr 0x21 ∧ t.on
        R.FB_CFG_DEBUG_PERMIT = true ∧ ch = Config.challenge t.drawn % 2 ^ 256 ∧ u = ({ t with drawn := t.drawn + 1 } :
        State).emit (.tdo 256 ch) ∧ u.on R.HI_JTAG_STAT_UNLOCK_BLOCKED = false ∧ key < 256 ∧ sr < 2 ^ 256 ∧ ss < 2 ^ 256) :=
  ⟨⟨(ready.set R.HI_UART_CFG_EN 1), _, 0, rfl, by decide +kernel, by decide +kernel, by decide +kernel, by decide +kernel⟩,
   ⟨({ ready.set R.HI_UART_CFG_EN 1 with hi := { ready.hi with uart := List.replicate 256 0 } }), _, 0, rfl,
       by decide +kernel, by decide +kernel, by decide +kernel, by decide +kernel⟩,
   ⟨({ ready.set R.HI_UART_CFG_EN 1 with hi := { ready.hi with uart := ascii "status" ++ [13] } }), _, 0, [], rfl,
       by decide +kernel, by decide +kernel, by decide +kernel, by decide +kernel⟩,
   ⟨({ ready.set R.HI_UART_CFG_EN 1 with hi := { ready.hi with uart := ascii "temp" ++ [13] } }), _, 0, [], rfl,
       by decide +kernel, by decide +kernel, by decide +kernel, by decide +kernel⟩,
   ⟨({ ready.set R.HI_UART_CFG_EN 1 with hi := { ready.hi with uart := ascii "ver" ++ [13] } }), _, 0, [], rfl,
       by decide +kernel, by decide +kernel, by decide +kernel, by decide +kernel⟩,
   ⟨({ ready.set R.HI_UART_CFG_EN 1 with hi := { ready.hi with uart := ascii "help" ++ [13] } }), _, 0, [], rfl,
       by decide +kernel, by decide +kernel, by decide +kernel, by decide +kernel⟩,
   ⟨({ ready.set R.HI_UART_CFG_EN 1 with hi := { ready.hi with uart := [65, 13] } }), _, 0, [65], [], rfl, by decide +kernel,
       by decide +kernel, by decide +kernel, by decide +kernel, by decide +kernel⟩,
   ⟨ready, by decide +kernel, by decide +kernel⟩,
   ⟨ready, 0xFF, by decide +kernel, by decide +kernel, by decide +kernel, by decide +kernel⟩,
   ⟨ready, by decide +kernel, by decide +kernel⟩,
   ⟨ready, by decide +kernel, by decide +kernel⟩,
   ⟨calibrating, by decide +kernel, by decide +kernel, by decide +kernel⟩,
   ⟨ready, by decide +kernel, by decide +kernel, by decide +kernel⟩,
   ⟨ready, by decide +kernel, by decide +kernel⟩,
   ⟨ready, by decide +kernel, by decide +kernel⟩,
   ⟨ready, by decide +kernel, by decide +kernel⟩,
   ⟨ready, by decide +kernel, by decide +kernel⟩,
   ⟨(ready.set R.FB_CFG_DEBUG_PERMIT 0), _, by decide +kernel, by decide +kernel, rfl, by decide +kernel⟩,
   ⟨(ready.set R.FB_CFG_DEBUG_PERMIT 1), 0, 0, 0, _, _, _, by decide +kernel, by decide +kernel, rfl, by decide +kernel, rfl,
       rfl, rfl, by decide +kernel, by decide +kernel, by decide +kernel⟩⟩

end Sys2Proof.Tests
end

section
/-! SUPPORT. What a direct write and a direct read of a register do, case by case, and with them the statement on direct
accesses (R6, R78, R503, R507, R513, R660). -/

open Sys2Proof Sys2Proof.Machine

namespace Sys2Proof.Machine

section

variable (s : State) {init addr v i j : Nat} {g : Reg} {x : Viol}

/-! ### The two rows -/

theorem exec_registerWrite : exec (.registerWrite init addr v) s = .next (s.busWrite init addr v) := rfl

theorem exec_latchedLoRead : exec (.latchedLoRead init addr) s
    = .next ((s.quiet.busRead init addr).2.emit (.readData init [(s.quiet.busRead init addr).1.getD 0])) := rfl

/-! ### Direct writes -/

theorem State.directWrite_of_violation (ws : List FieldWrite) (k : State → State)
    (hx : s.quiet.checkAccess init addr true = some x) :
    s.directWrite init addr ws k = s.quiet.violate x init addr 1 := by
  simp only [State.directWrite, hx]

theorem State.directWrite_of_writable {ws : List FieldWrite} (k : State → State) (ha : Allowed s.quiet init addr true)
    (hw : s.quiet.writable ws) : s.directWrite init addr ws k = s.quiet.direct k := by
  have hc : s.quiet.checkAccess init addr true = none := ha
  have hnone : ws.find? s.quiet.writeLocked = none := by simpa using hw
  simp only [State.directWrite, hc, hnone, State.direct]

theorem State.directWrite_of_locked {ws : List FieldWrite} (k : State → State) (ha : Allowed s.quiet init addr true)
    (hw : ¬ s.quiet.writable ws) :
    s.directWrite init addr ws k = s.quiet.refuseAccess 1 (if blockEntry (canonAddr addr) = 63 then .bar else .internal)
      (blockEntry (canonAddr addr)) init (s.quiet.entryNonSecure (blockEntry (canonAddr addr))) 1 addr := by
  have hc : s.quiet.checkAccess init addr true = none := ha
  obtain ⟨w, hlocked⟩ : ∃ w, ws.find? s.quiet.writeLocked = some w := by
    rw [← Option.isSome_iff_exists, List.find?_isSome]
    simpa using hw
  simp only [State.directWrite, hc, hlocked]

/-- Clearing what was sent outward leaves the registers, and so the fields that a write may change. -/
theorem State.lockable_quiet : s.quiet.lockable g v i j = s.lockable g v i j := rfl

/-- Whatever stands at the address, a write of it is a direct write, and so is judged as one. -/
theorem State.busWrite_eq_directWrite (init addr v : Nat) :
    ∃ ws k, s.busWrite init addr v = s.directWrite init addr ws k := by
  unfold State.busWrite
  split
  · exact ⟨_, _, rfl⟩
  · exact ⟨_, _, rfl⟩

theorem State.busWrite_of_findReg (hv : v < 2 ^ 32) (hg : findReg addr = some (g, i, j)) :
    ∃ k, s.busWrite init addr v = s.directWrite init addr (s.quiet.lockable g v i j) k := by
  simp only [State.busWrite, hg, Nat.mod_eq_of_lt hv, State.lockable_quiet]
  exact ⟨_, rfl⟩

theorem State.busWrite_of_plain (hv : v < 2 ^ 32) (hg : findReg addr = some (g, i, j))
    (hplain : handlers.find? (fun (h : Nat × Handler) => h.1 == g.addr) = none) :
    s.busWrite init addr v = s.directWrite init addr (s.quiet.lockable g v i j)
      fun q => (q.writes (q.saneWrites g v i j)).clearOnes g v i j := by
  simp only [State.busWrite, hg, hplain, Nat.mod_eq_of_lt hv, State.lockable_quiet]

theorem State.busWrite_of_rule {h : Nat × Handler} (hv : v < 2 ^ 32) (hg : findReg addr = some (g, i, j))
    (hrule : handlers.find? (fun (h : Nat × Handler) => h.1 == g.addr) = some h) :
    s.busWrite init addr v = s.directWrite init addr (s.quiet.lockable g v i j) fun q =>
      h.2 { init := init, addr := addr, i := i, j := j, w := q.saneWord g v i j, v := v, ws := q.saneWrites g v i j } q := by
  simp only [State.busWrite, hg, hrule, Nat.mod_eq_of_lt hv, State.lockable_quiet]

/-! ### Reads -/

theorem State.busRead_of_violation (hx : s.checkAccess init addr false = some x) :
    s.busRead init addr = (none, s.violate x init addr 0) := by
  simp only [State.busRead, hx]

theorem State.busRead_of_allowed (ha : Allowed s init addr false) :
    s.busRead init addr = (some (s.readWord init addr).1, (s.readWord init addr).2) := by
  have hc : s.checkAccess init addr false = none := ha
  simp only [State.busRead, hc]

/-- A violating read returns 0. -/
theorem exec_latchedLoRead_of_violation (hx : s.quiet.checkAccess init addr false = some x) :
    exec (.latchedLoRead init addr) s = .next ((s.quiet.violate x init addr 0).emit (.readData init [0])) := by
  rw [exec_latchedLoRead, State.busRead_of_violation _ hx, Option.getD_none]

/-- A read that the initiator may make answers what the register's read gives. -/
theorem exec_latchedLoRead_of_allowed (ha : Allowed s.quiet init addr false) {w : Nat} {t : State}
    (hr : s.quiet.readWord init addr = (w, t)) :
    exec (.latchedLoRead init addr) s = .next (t.emit (.readData init [w])) := by
  rw [exec_latchedLoRead, State.busRead_of_allowed _ ha, hr, Option.getD_some]

end

/-! ### The word that a read gives, outside the counter window and the registers whose read takes something -/

section

variable {s : State} {init addr i j : Nat} {g : Reg} {p : Reg × Reg} (hcanon : canonAddr addr = addr)
  (hwindow : inCounterWindow addr = false) (hspecial : s.specialRead init addr = none)

include hcanon hwindow hspecial

theorem State.readWord_of_lo (hg : findReg addr = some (g, i, j))
    (hlo : latchPairs.find? (fun (x : Reg × Reg) => x.1.addr == g.addr) = some p) :
    s.readWord init addr = ((s.refresh g i).word g i j, { s.refresh g i with hi := { (s.refresh g i).hi with
      hiLatch := Tab.put (s.refresh g i).hi.hiLatch addr ((s.refresh g i).word p.2 i j) } }) := by
  simp [State.readWord, hcanon, hwindow, hspecial, hg, hlo]

theorem State.readWord_of_hi (hg : findReg addr = some (g, i, j))
    (hlo : latchPairs.find? (fun (x : Reg × Reg) => x.1.addr == g.addr) = none)
    (hhi : latchPairs.find? (fun (x : Reg × Reg) => x.2.addr == g.addr) = some p) :
    s.readWord init addr = (Tab.get ((s.refresh g i).word g i j) (s.refresh g i).hi.hiLatch
      (addr - (p.2.addr - p.1.addr)), s.refresh g i) := by
  simp [State.readWord, hcanon, hwindow, hspecial, hg, hlo, hhi]

theorem State.readWord_of_unpaired (hg : findReg addr = some (g, i, j))
    (hlo : latchPairs.find? (fun (x : Reg × Reg) => x.1.addr == g.addr) = none)
    (hhi : latchPairs.find? (fun (x : Reg × Reg) => x.2.addr == g.addr) = none) :
    s.readWord init addr = ((s.refresh g i).word g i j, s.refresh g i) := by
  simp [State.readWord, hcanon, hwindow, hspecial, hg, hlo, hhi]

end

end Sys2Proof.Machine

/-- Settles O13, by the case of the check, of the lock and of the register that each access falls in. -/
theorem directAccessesComplete : Obligations.DirectAccessesComplete := by
  unfold Obligations.DirectAccessesComplete
  refine ⟨?plain, ?rule, ?locked, ?badWrite, ?badRead, ?lo, ?hi, ?unpaired⟩
  case plain =>
    rintro s _ init addr v g i j rfl hv ha hg hplain hw
    rw [exec_registerWrite, s.busWrite_of_plain hv hg hplain, s.directWrite_of_writable _ ha hw]
  case rule =>
    rintro s _ init addr v g i j rfl hv ha hg hw h hrule
    rw [exec_registerWrite, s.busWrite_of_rule hv hg hrule, s.directWrite_of_writable _ ha hw]
  case locked =>
    rintro s _ init addr v g i j rfl hv ha hg hw
    obtain ⟨k, hk⟩ := s.busWrite_of_findReg (init := init) hv hg
    rw [exec_registerWrite, hk, s.directWrite_of_locked k ha hw]
  case badWrite =>
    rintro s _ init addr v x rfl hx
    obtain ⟨ws, k, hk⟩ := s.busWrite_eq_directWrite init addr v
    rw [exec_registerWrite, hk, s.directWrite_of_violation ws k hx]
  case badRead =>
    rintro s _ init addr x rfl hx
    exact exec_latchedLoRead_of_violation s hx
  case lo =>
    rintro s _ _ init addr i j p rfl ha hcanon hspecial hg hlo hwindow rfl
    exact exec_latchedLoRead_of_allowed s ha (State.readWord_of_lo hcanon hwindow hspecial hg hlo)
  case hi =>
    rintro s _ _ init addr i j p rfl ha hcanon hspecial hg hlo hhi hwindow rfl
    exact exec_latchedLoRead_of_allowed s ha (State.readWord_of_hi hcanon hwindow hspecial hg hlo hhi)
  case unpaired =>
    rintro s _ _ init addr i j g rfl ha hcanon hspecial hg hwindow hlo hhi rfl
    exact exec_latchedLoRead_of_allowed s ha (State.readWord_of_unpaired hcanon hwindow hspecial hg hlo hhi)
end

section
/-! SUPPORT. What the rows of Heartwood do, each through the state operation that its row names, and with them the
statement on Heartwood's events (R27, R46, R49, R51 to R53, R74, R77, R79). -/

open Sys2Proof Sys2Proof.Machine

namespace Sys2Proof.Machine

variable (s : State)

/-! ### Pairs -/

theorem State.sampleDue_iff (k : Nat) :
    s.sampleDue k = true ↔ s.on R.HW_PAIRk_CFG_EN k = true ∧ 0 < s.sampleMs k := by
  simp [State.sampleDue]

/-- A waiting switch is made at the sample (R51). -/
theorem State.pairTick_of_awaiting {k cause : Nat} (h : (s.pairRec k).awaiting = some cause) :
    s.pairTick k = (s.samplePair k).switchDomain k cause := by
  simp [State.pairTick, h]

theorem State.switchRefusal_eq_none {k : Nat} (hwait : (s.pairRec k).awaiting = none) (hconv : s.pairConverging k = false)
    (hofs : (s.pairRec k).ofs.natAbs ≤ switchMax) : s.switchRefusal k = none := by
  simp [State.switchRefusal, hwait, hconv, hofs]

theorem State.switchWrite_of_free {k : Nat} (hen : s.on R.HW_PAIRk_CFG_EN k = true) (hfree : s.switchRefusal k = none) :
    s.switchWrite k = s.requestSwitch k 0 none := by
  simp [State.switchWrite, hen, hfree]

/-! ### Frequency words -/

theorem State.freqOk_iff (n : Nat) (z : Int) :
    s.freqOk n z = true ↔ s.tbOn n = true ∧ z.natAbs ≤ 140737488355 := by
  simp [State.freqOk]

/-- A write of FREQ_HI takes the joined word of a host that is the source. -/
theorem State.freqHi_of_ok {n v : Nat} (hsrc : s.on R.HW_TBn_CTRL_SRC n = true)
    (hok : s.freqOk n (s.freqJoin n v) = true) : s.freqHi n v = s.takeFreq n (s.freqJoin n v) := by
  simp [State.freqHi, hsrc, hok]

theorem State.freqHi_of_refused {n v : Nat} (h : s.on R.HW_TBn_CTRL_SRC n = false ∨ s.freqOk n (s.freqJoin n v) = false) :
    s.freqHi n v = s := by
  rcases h with h | h <;> simp [State.freqHi, h]

/-! ### Comparators -/

theorem State.cmpDue_iff (m : Nat) : s.cmpDue m = true ↔ s.on R.HW_CMPm_CTRL_ARM m = true
    ∧ s.tbOn (s.get R.HW_CMPm_CTRL_TB m) = true ∧ s.cmpGoal m ≤ units16 (s.time (s.get R.HW_CMPm_CTRL_TB m)) := by
  simp [State.cmpDue, and_assoc]

/-! ### Snapshots -/

theorem State.snapCtrl_of_capture {w : Nat} (h : bitOf w 31 = true) : s.snapCtrl w
    = (if bitOf w 9 then (s.set R.TS_SNAP_CTRL_TB_MASK (bits w 7 0)).set R.TS_SNAP_CTRL_OVERRUN 0
        else s.set R.TS_SNAP_CTRL_TB_MASK (bits w 7 0)).capture (bits w 7 0) none := by
  simp [State.snapCtrl, h]

theorem State.snapCtrl_of_no_capture {w : Nat} (h : bitOf w 31 = false) : s.snapCtrl w
    = if bitOf w 9 then (s.set R.TS_SNAP_CTRL_TB_MASK (bits w 7 0)).set R.TS_SNAP_CTRL_OVERRUN 0
        else s.set R.TS_SNAP_CTRL_TB_MASK (bits w 7 0) := by
  simp [State.snapCtrl, h]

/-! ### The rows: an operand in its range is the index itself -/

theorem exec_heartwoodPulse {n : Nat} (hn : n < 8) (dt die : Nat) (err : Int) : exec (.heartwoodPulse dt die n err) s
    = .next (if die < 2 && (s.elapse dt).pulseDue die n then (s.elapse dt).pulse die n err else s.elapse dt) := by
  change execHeartwoodPulse dt die n err s = _
  simp only [execHeartwoodPulse, Nat.mod_eq_of_lt hn]

theorem exec_pairOffsetSample (dt k : Nat) : exec (.pairOffsetSample dt k) s
    = .next (if k < 4 && (s.elapse dt).sampleDue k then (s.elapse dt).pairTick k else s.elapse dt) := rfl

theorem exec_domainSwitch {k : Nat} (hk : k < 4) (dt : Nat) : exec (.domainSwitch dt k) s
    = .next (if (s.elapse dt).sampleDue k && ((s.elapse dt).pairRec k).awaiting.isSome then (s.elapse dt).pairTick k
        else s.elapse dt) := by
  change execDomainSwitch dt k s = _
  simp only [execDomainSwitch, Nat.mod_eq_of_lt hk]

theorem exec_pairSwitchWrite {k : Nat} (hk : k < 4) (init : Nat) : exec (.pairSwitchWrite init k) s
    = .next (s.directWrite init (0x610000 + 4 * k) [] fun q => q.switchWrite k) := by
  change execPairSwitchWrite init k s = _
  simp only [execPairSwitchWrite, Nat.mod_eq_of_lt hk]

theorem exec_leapApplied {n : Nat} (hn : n < 8) (dt : Nat) : exec (.leapApplied dt n) s
    = .next ((s.elapse dt).applyLeaps n) := by
  change execLeapApplied dt n s = _
  simp only [execLeapApplied, Nat.mod_eq_of_lt hn]

theorem exec_freqHiWrite {n : Nat} (hn : n < 8) (init v : Nat) : exec (.freqHiWrite init n v) s
    = .next (s.directWrite init (0x610108 + 0x40 * n)
        (if s.quiet.on R.HW_TBn_CTRL_SRC n then [{ f := R.HW_TBn_FREQ_HI_FREQ, i := n, v := v % 256 }] else [])
        fun q => q.freqHi n v) := by
  change execFreqHiWrite init n v s = _
  simp only [execFreqHiWrite, Nat.mod_eq_of_lt hn]
  rfl

theorem exec_cmpArm {m : Nat} (hm : m < 32) (init w : Nat) : exec (.cmpArm init m w) s
    = .next (s.directWrite init (0x610400 + 0x10 * m) (R.HW_CMPm_CTRL.writes w m) fun q => q.cmpCtrl m w) := by
  change execCmpArm init m w s = _
  simp only [execCmpArm, Nat.mod_eq_of_lt hm]

theorem exec_cmpFire {m : Nat} (hm : m < 32) (dt : Nat) : exec (.cmpFire dt m) s
    = .next (if (s.elapse dt).cmpDue m then (s.elapse dt).fireCmp m 1 ((s.elapse dt).cmpEdge m) else s.elapse dt) := by
  change execCmpFire dt m s = _
  simp only [execCmpFire, Nat.mod_eq_of_lt hm]

theorem exec_snapCapture (init w : Nat) : exec (.snapCapture init w) s
    = .next (s.directWrite init 0x200000 [] fun q => q.snapCtrl w) := rfl

theorem exec_snapComplete (dt : Nat) : exec (.snapComplete dt) s
    = .next (if (s.elapse dt).on R.TS_SNAP_CTRL_BUSY then (s.elapse dt).snapDone else s.elapse dt) := rfl

/-- A direct write that names no lockable field is judged by its access alone. -/
theorem State.writable_nil : s.writable [] := fun _ h => absurd h List.not_mem_nil

/-- A direct write's effect is judged in the state in which it takes place. -/
theorem State.direct_congr {k l : State → State} (h : k s = l s) : s.direct k = s.direct l := by
  simp only [State.direct, h]

end Sys2Proof.Machine

/-- Settles O40, row by row: each row's condition holds in the case, so the row does its operation. -/
theorem heartwoodEventsComplete : Obligations.HeartwoodEventsComplete := by
  unfold Obligations.HeartwoodEventsComplete
  refine ⟨?pulse, ?sample, ?switch, ?request, ?leap, ?freq, ?freqNotHost, ?freqRefused, ?arm, ?fire, ?capture, ?clear,
    ?complete⟩
  case pulse =>
    intro s e dt die n err he hn hdie hdue
    rw [exec_heartwoodPulse s hn, ← he, if_pos (by simp [hdie, hdue])]
  case sample =>
    intro s e dt k he hk hen hms
    have hdue := (e.sampleDue_iff k).mpr ⟨hen, hms⟩
    rw [exec_pairOffsetSample, ← he, if_pos (by simp [hk, hdue])]
  case switch =>
    intro s e dt k cause he hk hen hms hwait
    have hdue := (e.sampleDue_iff k).mpr ⟨hen, hms⟩
    rw [exec_domainSwitch s hk, ← he, if_pos (by simp [hdue, hwait]), e.pairTick_of_awaiting hwait]
  case request =>
    rintro s _ init k rfl ha hk hen hwait hconv hofs
    have hfree := State.switchRefusal_eq_none _ hwait hconv hofs
    rw [exec_pairSwitchWrite s hk, s.directWrite_of_writable _ ha (State.writable_nil _)]
    exact congrArg _ (State.direct_congr _ (State.switchWrite_of_free _ hen hfree))
  case leap =>
    intro s e dt n he hn
    rw [exec_leapApplied s hn, ← he]
  case freq =>
    rintro s _ init n v rfl ha hn hsrc hon hrange hw
    have hok := (s.quiet.freqOk_iff n (s.quiet.freqJoin n v)).mpr ⟨hon, hrange⟩
    rw [exec_freqHiWrite s hn, if_pos hsrc, s.directWrite_of_writable _ ha hw]
    exact congrArg _ (State.direct_congr _ (State.freqHi_of_ok _ hsrc hok))
  case freqNotHost =>
    rintro s _ init n v rfl ha hn hsrc
    rw [exec_freqHiWrite s hn, if_neg (by simp [hsrc]), s.directWrite_of_writable _ ha (State.writable_nil _)]
    exact congrArg _ (State.direct_congr _ (State.freqHi_of_refused _ (.inl hsrc)))
  case freqRefused =>
    rintro s _ init n v rfl ha hn hsrc hbad hw
    have hrefused : s.quiet.freqOk n (s.quiet.freqJoin n v) = false := by
      rw [← Bool.not_eq_true, State.freqOk_iff]
      rintro ⟨hon, hrange⟩
      rcases hbad with hoff | hbeyond
      · simp [hon] at hoff
      · exact absurd hrange (Nat.not_le.mpr hbeyond)
    rw [exec_freqHiWrite s hn, if_pos hsrc, s.directWrite_of_writable _ ha hw]
    exact congrArg _ (State.direct_congr _ (State.freqHi_of_refused _ (.inr hrefused)))
  case arm =>
    rintro s _ init m w rfl ha hm hw
    rw [exec_cmpArm s hm, s.directWrite_of_writable _ ha hw]
  case fire =>
    intro s e dt m he hm harm hon hgoal
    rw [exec_cmpFire s hm, ← he, if_pos ((e.cmpDue_iff m).mpr ⟨harm, hon, hgoal⟩)]
  case capture =>
    rintro s _ init w rfl ha hcap
    rw [exec_snapCapture, s.directWrite_of_writable _ ha (State.writable_nil _)]
    exact congrArg _ (State.direct_congr _ (State.snapCtrl_of_capture _ hcap))
  case clear =>
    rintro s _ init w rfl ha hcap
    rw [exec_snapCapture, s.directWrite_of_writable _ ha (State.writable_nil _)]
    exact congrArg _ (State.direct_congr _ (State.snapCtrl_of_no_capture _ hcap))
  case complete =>
    intro s e dt he hbusy
    rw [exec_snapComplete, ← he, if_pos hbusy]
end

section
/-! SUPPORT. The domain map (R33, R90): the entry of four bits that a domain has in its word, what TIME.DOMAIN_MAP makes of
it, and that a message of an unmapped domain opens no session (R113). -/

open Sys2Proof Sys2Proof.Machine

namespace Sys2Proof.Machine

/-! ### Entries of four bits in a word -/

/-- A word whose entry `m` of four bits becomes `e`. -/
def putEntry (w m e : Nat) : Nat := w - bits w (4 * m + 3) (4 * m) * 2 ^ (4 * m) + e * 2 ^ (4 * m)

theorem bits_entry (w n : Nat) : bits w (4 * n + 3) (4 * n) = w / 16 ^ n % 16 := by
  have hwidth : 4 * n + 3 + 1 - 4 * n = 4 := by omega
  rw [bits, hwidth, Nat.pow_mul]
  rfl

theorem putEntry_eq (w m e : Nat) : putEntry w m e = 16 ^ m * (16 * (w / 16 ^ m / 16) + e) + w % 16 ^ m := by
  have hw := Nat.div_add_mod w (16 ^ m)
  have hq := Nat.div_add_mod (w / 16 ^ m) 16
  rw [putEntry, bits_entry, Nat.pow_mul]
  change w - w / 16 ^ m % 16 * 16 ^ m + e * 16 ^ m = _
  generalize w / 16 ^ m % 16 = b at *
  generalize w / 16 ^ m / 16 = a at *
  rw [← hq] at hw
  generalize w % 16 ^ m = r at *
  generalize 16 ^ m = c at *
  subst hw
  have hcancel : c * (16 * a + b) + r = c * (16 * a) + r + b * c := by ring
  rw [hcancel, Nat.add_sub_cancel]
  ring

/-- Cutting a word off at entry `m` keeps the entries below. -/
theorem mod_entry {n m : Nat} (h : n < m) (w : Nat) : w % 16 ^ m / 16 ^ n % 16 = w / 16 ^ n % 16 := by
  obtain ⟨k, rfl⟩ := Nat.exists_eq_add_of_lt h
  rw [show n + k + 1 = n + (k + 1) by omega, Nat.pow_add, Nat.mod_mul_right_div_self]
  exact Nat.mod_mod_of_dvd _ (Dvd.intro_left _ (Nat.pow_succ ..).symm)

theorem putEntry_same {e : Nat} (he : e < 16) (w m : Nat) : putEntry w m e / 16 ^ m % 16 = e := by
  have hpos : 0 < 16 ^ m := Nat.pow_pos (by decide)
  rw [putEntry_eq, Nat.mul_add_div hpos, Nat.div_eq_of_lt (Nat.mod_lt _ hpos)]
  omega

theorem putEntry_ne {e n m : Nat} (he : e < 16) (h : n ≠ m) (w : Nat) :
    putEntry w m e / 16 ^ n % 16 = w / 16 ^ n % 16 := by
  have hpos : 0 < 16 ^ m := Nat.pow_pos (by decide)
  rcases Nat.lt_or_gt_of_ne h with hlow | hhigh
  · have hkept : putEntry w m e % 16 ^ m = w % 16 ^ m := by
      rw [putEntry_eq, Nat.mul_add_mod, Nat.mod_mod]
    rw [← mod_entry hlow, hkept, mod_entry hlow]
  · have hkept : putEntry w m e / 16 ^ m / 16 = w / 16 ^ m / 16 := by
      rw [putEntry_eq, Nat.mul_add_div hpos, Nat.div_eq_of_lt (Nat.mod_lt _ hpos)]
      omega
    obtain ⟨k, rfl⟩ := Nat.exists_eq_add_of_lt hhigh
    rw [show m + k + 1 = m + 1 + k by omega, Nat.pow_add, Nat.pow_succ, ← Nat.div_div_eq_div_mul,
      ← Nat.div_div_eq_div_mul, ← Nat.div_div_eq_div_mul, ← Nat.div_div_eq_div_mul, hkept]

/-! ### The timebase of a domain -/

/-- The timebase that an entry of the domain map names: none below 8 (R90). -/
def entryTb (e : Nat) : Option Nat := if 8 ≤ e then some (e - 8) else none

theorem State.domainTb_eq (s : State) (d : Nat) :
    s.domainTb d = entryTb (s.get R.HW_DOMMAPj_MAP (d / 8) / 16 ^ (d % 8) % 16) := by
  rw [← bits_entry]
  rfl

theorem State.domainTb_congr {s t : State} {d : Nat}
    (h : t.get R.HW_DOMMAPj_MAP (d / 8) = s.get R.HW_DOMMAPj_MAP (d / 8)) : t.domainTb d = s.domainTb d := by
  rw [State.domainTb_eq, h, ← State.domainTb_eq]

theorem State.domainTb_lt {s : State} {d n : Nat} (h : s.domainTb d = some n) : n < 8 := by
  rw [State.domainTb_eq, entryTb] at h
  split at h
  · simp only [Option.some.injEq] at h
    omega
  · simp at h

@[simp] theorem State.domainTb_elapse (s : State) (dt d : Nat) : (s.elapse dt).domainTb d = s.domainTb d :=
  State.domainTb_congr (s.get_elapse ..)

/-- A write of an entry maps its domain, and no other. -/
theorem State.domainTb_set_putEntry (s : State) {d e : Nat} (he : e < 16) (d' : Nat) :
    (s.set R.HW_DOMMAPj_MAP (putEntry (s.get R.HW_DOMMAPj_MAP (d / 8)) (d % 8) e) (d / 8)).domainTb d'
      = if d' = d then entryTb e else s.domainTb d' := by
  by_cases hword : d' / 8 = d / 8
  · have hcut : d' % 8 < 8 := Nat.mod_lt _ (by decide)
    rw [State.domainTb_eq, hword, State.get_set_same, show 2 ^ R.HW_DOMMAPj_MAP.width = 16 ^ 8 from rfl,
      mod_entry hcut]
    by_cases hd : d' = d
    · rw [if_pos hd, hd, putEntry_same he]
    · rw [if_neg hd, putEntry_ne he (by omega), ← hword, ← State.domainTb_eq]
  · rw [if_neg (by rintro rfl; exact hword rfl)]
    exact State.domainTb_congr (State.get_set_ne s _ (by simp only [Fld.key, R.HW_DOMMAPj_MAP]; omega))

/-! ### Registers outside the mailboxes, before a command's body and after its answer -/

/-- A request that its core holds has changed the registers of its mailbox alone. -/
theorem State.get_asked (s : State) {cmd : Cmd} {r : Req} (hm : r.mb < 16) {f : Fld} {i j : Nat}
    (hk : ¬ mailboxReg (f.key i j)) : (s.asked cmd r).get f i j = s.get f i j := by
  have hlen : (r.args.take 63).length ≤ 63 := by rw [List.length_take]; omega
  have hheld : ((s.rung cmd.op r).holdMb r.mb).get f i j = s.get f i j := by
    simp only [mailboxReg, inRegs] at hk
    rw [State.get_holdMb, State.rung, State.get_ring, State.get_putReq_ne, State.get_quiet]
    · intro k _ hlt
      simp only [List.length_cons] at hlt
      simp only [R.MB_n_REQ_W, Fld.key] at *
      omega
    all_goals
      simp only [Fld.key, R.MB_n_STATE_STATE, R.MB_n_SEQ_REQ_SEQ, R.MB_n_STATE_PEND_NR] at *
      omega
  unfold State.asked
  dsimp only
  split
  · rw [State.get_setTaken, hheld]
  · exact hheld

theorem State.get_answeredOk (s : State) {r : Req} (hm : r.mb < 16) (words : List Nat) {f : Fld} {i j : Nat}
    (hk : ¬ mailboxReg (f.key i j)) (he : ¬ eventReg (f.key i j)) (hc : f.key i j ≠ R.CI_STAT_PENDING.key 0 0) :
    (s.answeredOk r words).get f i j = s.get f i j :=
  (State.get_respond _ hm _ _ hk he).trans (State.settleCfg_get _ hc)

/-- Configuration writes leave the registers as plain writes do. -/
theorem State.get_cfgWrites (s : State) (ws : List FieldWrite) (f : Fld) (i j : Nat) :
    (s.cfgWrites ws).get f i j = (s.writes ws).get f i j := rfl

/-! ### TIME.DOMAIN_MAP -/

/-- The entry that a request of TIME.DOMAIN_MAP gives its domain. -/
def Ctx.domainEntry (c : Ctx) : Nat := if c.bit 1 11 then 8 + c.bits 1 10 8 else 0

/-- The write that a request of TIME.DOMAIN_MAP makes. -/
def State.domainWrites (q : State) (c : Ctx) : List FieldWrite :=
  [{ f := R.HW_DOMMAPj_MAP, i := c.bits 1 7 0 / 8
     v := putEntry (q.get R.HW_DOMMAPj_MAP (c.bits 1 7 0 / 8)) (c.bits 1 7 0 % 8) c.domainEntry }]

theorem Ctx.bits_lt (c : Ctx) (k hi lo : Nat) : c.bits k hi lo < 2 ^ (hi + 1 - lo) :=
  Nat.mod_lt _ (Nat.pow_pos (by decide))

theorem Ctx.domainEntry_lt (c : Ctx) : c.domainEntry < 16 := by
  have htb : c.bits 1 10 8 < 8 := c.bits_lt 1 10 8
  unfold Ctx.domainEntry
  split <;> omega

theorem Ctx.entryTb_domainEntry (c : Ctx) :
    entryTb c.domainEntry = if c.bit 1 11 then some (c.bits 1 10 8) else none := by
  unfold Ctx.domainEntry
  split
  · rw [entryTb, if_pos (Nat.le_add_right ..), Nat.add_sub_cancel_left]
  · rfl

theorem blockEntry_domainMap {j : Nat} (hj : j < 32) : blockEntry (0x610800 + 4 * j) = 27 := by
  have hpage : (0x610800 + 4 * j - 0x600000) / 0x8000 = 2 := by omega
  have hofs : 0x800 ≤ (0x610800 + 4 * j - 0x600000) % 0x8000 := by omega
  unfold blockEntry
  rw [if_neg (by omega)]
  simp only [hpage]
  rw [if_neg (by omega), if_neg (by omega), if_neg (by omega), if_neg (by omega)]

/-- The domain map is locked with its block entry. -/
theorem State.domainWrites_unlocked {q : State} {c : Ctx} (h : q.worldLocked (q.entryNonSecure 27) = false) :
    q.unlocked (q.domainWrites c) := by
  have hd : c.bits 1 7 0 < 256 := c.bits_lt 1 7 0
  have hentry : blockEntry (R.HW_DOMMAPj_MAP.addr + R.HW_DOMMAPj_MAP.s1 * (c.bits 1 7 0 / 8) + R.HW_DOMMAPj_MAP.s2 * 0) = 27 :=
    (congrArg blockEntry (by simp [R.HW_DOMMAPj_MAP])).trans (blockEntry_domainMap (j := c.bits 1 7 0 / 8) (by omega))
  intro w hw
  rw [State.domainWrites, List.mem_singleton] at hw
  subst hw
  simp only [State.cmdLocked, State.fieldLocked, hentry, h, Bool.and_false]

theorem timeDomainMap_fulfils : Fulfils .timeDomainMap cmdTimeDomainMap
    (fun c q => (c.bit 1 11 = true → q.tbOn (c.bits 1 10 8) = true) ∧ q.domainOpen (c.bits 1 7 0) = false
      ∧ q.unlocked (q.domainWrites c))
    (fun _ _ => []) (fun c q => q.cfgWrites (q.domainWrites c)) := by
  refine Fulfils.of_body (fun _ _ => rfl) (by decide) ?body (fun _ _ _ _ => Nat.zero_le _)
  rintro c q ⟨hon, hclosed, hfree⟩
  have htb : (!c.bit 1 11 || q.tbOn (c.bits 1 10 8)) = true := by simpa [Decidable.imp_iff_not_or] using hon
  exact (need_pos htb).trans ((need_pos (by rw [hclosed]; rfl)).trans (writeCfg_unlocked hfree))

/-- The domain map lies apart from the mailboxes, the event registers and CI_STAT.PENDING. -/
theorem domainMapKey_apart {j : Nat} (hj : j < 32) : ¬ mailboxReg (R.HW_DOMMAPj_MAP.key j 0)
    ∧ ¬ eventReg (R.HW_DOMMAPj_MAP.key j 0) ∧ R.HW_DOMMAPj_MAP.key j 0 ≠ R.CI_STAT_PENDING.key 0 0 := by
  simp only [mailboxReg, eventReg, inRegs, Fld.key, R.HW_DOMMAPj_MAP, R.CI_STAT_PENDING]
  omega

/-- The domain map after TIME.DOMAIN_MAP has been answered. -/
theorem State.domainTb_mapped (s : State) {r : Req} (hm : r.mb < 16) {d : Nat} (hd : d < 256) :
    (((s.asked cmdTimeDomainMap r).cfgWrites ((s.asked cmdTimeDomainMap r).domainWrites (ctxOf r))).answeredOk r []).domainTb d
      = if d = (ctxOf r).bits 1 7 0 then entryTb (ctxOf r).domainEntry else s.domainTb d := by
  obtain ⟨hmail, hevent, hci⟩ := domainMapKey_apart (j := d / 8) (by omega)
  have hafter := State.domainTb_congr (d := d) (State.get_answeredOk
    ((s.asked cmdTimeDomainMap r).cfgWrites ((s.asked cmdTimeDomainMap r).domainWrites (ctxOf r))) hm [] hmail hevent hci)
  have hbefore : (s.asked cmdTimeDomainMap r).domainTb d = s.domainTb d := State.domainTb_congr (s.get_asked hm hmail)
  rw [hafter, ← hbefore]
  exact State.domainTb_set_putEntry _ (Ctx.domainEntry_lt _) d

/-! ### Messages of an unmapped domain -/

/-- An Announce of a domain that is not mapped only lets time pass. -/
theorem exec_announce_of_unmapped (s : State) {dom : Nat} (hdom : dom < 256) (h : s.domainTb dom = none)
    (dt p peer cls acc var steps : Nat) :
    exec (.announce dt p dom peer cls acc var steps) s = .next (s.elapse dt) := by
  change execAnnounce dt p dom peer cls acc var steps s = _
  have hun : (s.elapse dt).domainTb dom = none := (s.domainTb_elapse dt dom).trans h
  unfold execAnnounce
  generalize s.elapse dt = e at hun ⊢
  simp only [Nat.mod_eq_of_lt hdom, hun, Option.isNone_none, Bool.or_true, if_true]
  split <;> rfl

/-- A delay request of a domain that is not mapped only lets time pass. -/
theorem exec_delayReq_of_unmapped (s : State) {dom : Nat} (hdom : dom < 256) (h : s.domainTb dom = none)
    (dt p peer seq : Nat) (pdelay : Bool) (ago rho port : Nat) (corr : Int) :
    exec (.delayReq dt p dom peer seq pdelay ago rho port corr) s = .next (s.elapse dt) := by
  change execDelayReq dt p dom peer seq pdelay ago rho port corr s = _
  have hun : (s.elapse dt).domainTb dom = none := (s.domainTb_elapse dt dom).trans h
  unfold execDelayReq
  generalize s.elapse dt = e at hun ⊢
  simp only [Nat.mod_eq_of_lt hdom, hun, Option.isNone_none, Bool.or_true, if_true]
  split <;> rfl

end Sys2Proof.Machine

/-- Settles O18, by the entry of four bits that each domain has in the map. -/
theorem domainMapping : Obligations.DomainMapping := by
  unfold Obligations.DomainMapping
  refine ⟨fun _ _ _ => State.domainTb_lt, ?map, ?announce, ?delayReq⟩
  case map =>
    intro s r hs hon hclosed hunlocked
    obtain ⟨t, hexec, hanswer, ht⟩ := timeDomainMap_fulfils s r hs ⟨hon, hclosed, State.domainWrites_unlocked hunlocked⟩
    have hmap {d : Nat} (hd : d < 256) := s.domainTb_mapped hs.mailbox hd
    refine ⟨t, hexec, hanswer, ?_, ?_⟩
    · rw [ht, hmap ((ctxOf r).bits_lt 1 7 0), if_pos rfl, Ctx.entryTb_domainEntry]
    · intro d hd hne
      rw [ht, hmap hd, if_neg hne]
  case announce =>
    intro s dt p dom peer cls acc var steps hdom h
    exact ⟨_, exec_announce_of_unmapped s hdom h dt p peer cls acc var steps, s.elapse_sessions dt⟩
  case delayReq =>
    intro s dt p dom peer seq pdelay ago rho port corr hdom h
    exact ⟨_, exec_delayReq_of_unmapped s hdom h dt p peer seq pdelay ago rho port corr, s.elapse_sessions dt⟩
end

section
/-! SUPPORT. What a mailbox command answers where it is served and its own conditions refuse it, and with it the refusals and
the acceptance of TIME.SET and of a stepping TIME.ADJ_PHASE (R44). -/

open Sys2Proof Sys2Proof.Machine

namespace Sys2Proof.Machine

/-! ### Refused commands -/

/-- A condition that fails ends a body with its status. -/
theorem need_neg {b : Bool} {st : Status} {s : State} {k : Res} (h : b = false) : need b st s k = fail s st :=
  if_neg (by rw [h]; decide)

/-- A served command that its own conditions refuse changes nothing, where the refusal is neither for a lock nor for a world,
which are logged (R507). -/
theorem State.runCmd_refused {s : State} {cmd : Cmd} {r : Req} {st : Status} (h : Served s cmd r)
    (hst : st ∉ [.ok, .locked, .worldViolation])
    (hbody : cmd.body (ctxOf r) (s.asked cmd r) = fail (s.asked cmd r) st) :
    (s.asked cmd r).runCmd cmd (ctxOf r) = fail (s.asked cmd r) st := by
  have himage : (ctxOf r).image = false := by
    simpa [Ctx.image, ctxOf] using Nat.ne_of_lt h.mailbox
  have hworld : (!cmd.any && !(ctxOf r).secure) = false := by
    rcases h.any with e | e <;> simp [ctxOf, e]
  have hrom : ((s.asked cmd r).on R.MODE_STATE_ROM_ONLY && !romOps.contains cmd.op) = false := by
    rcases h.rom with e | e <;> simp only [e, Bool.false_and, Bool.not_true, Bool.and_false]
  have hawake : (cmd.acts && (s.asked cmd r).asleep (cmd.entry (ctxOf r).args)) = false := by
    cases e : cmd.acts
    · rfl
    · exact h.awake e
  have hneeds : ¬ (ctxOf r).args.length < cmd.need := Nat.not_lt.mpr h.needs
  unfold State.runCmd
  rw [hworld, hrom, himage, h.mode, hawake, hbody, if_neg (by decide), if_neg (by decide),
    if_neg (by rw [Bool.false_and]; decide), if_neg hneeds]
  cases st
  case ok | locked | worldViolation => simp at hst
  all_goals rfl

/-- A command refuses what its body refuses: the counterpart of `Fulfils.of_body`. -/
theorem Refuses.of_body {mk : Req → Instr} {cmd : Cmd} {st : Status} {pre : Ctx → State → Prop}
    (he : ∀ r s, exec (mk r) s = .next (s.exchange (some cmd) cmd.op r)) (hop : cmd.op < 2 ^ 16)
    (hst : st ∉ [.ok, .locked, .worldViolation]) (hb : ∀ c q, pre c q → cmd.body c q = fail q st) :
    Refuses mk cmd st pre := by
  intro s r hs hp
  have hrun := State.runCmd_refused hs hst (hb _ _ hp)
  refine ⟨_, ?_, State.respond_answered _ hs.mailbox _ _ (Nat.zero_le _), rfl⟩
  rw [he, State.exchange_carryOut hs]
  simp only [State.carryOut, State.asked_ctx hop hs, hrun]
  rfl

/-! ### Commands that answer no words -/

theorem Fulfils.of_silent_body {mk : Req → Instr} {cmd : Cmd} {pre : Ctx → State → Prop} {effect : Ctx → State → State}
    (he : ∀ r s, exec (mk r) s = .next (s.exchange (some cmd) cmd.op r)) (hop : cmd.op < 2 ^ 16)
    (hb : ∀ c q, pre c q → cmd.body c q = done (effect c q)) : Fulfils mk cmd pre (fun _ _ => []) effect :=
  .of_body he hop hb fun _ _ _ _ => Nat.zero_le _

/-- What a command fulfils, it fulfils under stronger conditions. -/
theorem Fulfils.of_imp {mk : Req → Instr} {cmd : Cmd} {pre pre' : Ctx → State → Prop} {words : Ctx → State → List Nat}
    {effect : Ctx → State → State} (h : Fulfils mk cmd pre words effect) (himp : ∀ c q, pre' c q → pre c q) :
    Fulfils mk cmd pre' words effect :=
  fun s r hs hp => h s r hs (himp _ _ hp)

/-! ### Steps by the host -/

theorem State.hostStepOk_iff (s : State) (n : Nat) :
    s.hostStepOk n = true ↔ s.on R.HW_TBn_CTRL_STEP_ALLOW n = true ∨ (s.tbOf n).timeValid = false := by
  simp [State.hostStepOk]

theorem State.hostStepOk_eq_false (s : State) (n : Nat) :
    s.hostStepOk n = false ↔ s.on R.HW_TBn_CTRL_STEP_ALLOW n = false ∧ (s.tbOf n).timeValid = true := by
  simp [State.hostStepOk]

theorem State.corrRefused_iff (s : State) (n : Nat) (delta : Int) :
    s.corrRefused n delta = true ↔ secUnit < ((s.tbOf n).pendingCorr + delta).natAbs :=
  decide_eq_true_iff

/-- TIME.SET with a legal time is judged by its timebase, its source and the world's lock, in that order. -/
theorem timeSet_body {c : Ctx} (q : State) (ht : (wordsTime (c.arg 2) (c.arg 3) (c.arg 4)).isSome) :
    cmdTimeSet.body c q = need (q.tbOn (c.bits 1 2 0)) .badArg q
      (need (q.on R.HW_TBn_CTRL_SRC (c.bits 1 2 0) && q.hostStepOk (c.bits 1 2 0)) .notInMode q
        (unlessLocked q (19 + c.bits 1 2 0) (done (q.stepTb (c.bits 1 2 0)
          (((wordsTime (c.arg 2) (c.arg 3) (c.arg 4)).getD 0 : Int) - q.time (c.bits 1 2 0)))))) := by
  obtain ⟨t, ht⟩ := Option.isSome_iff_exists.mp ht
  simp only [cmdTimeSet, ht, Option.getD_some]

theorem timeSet_fulfils : Fulfils .timeSet cmdTimeSet
    (fun c q => (wordsTime (c.arg 2) (c.arg 3) (c.arg 4)).isSome ∧ q.tbOn (c.bits 1 2 0) = true
      ∧ q.on R.HW_TBn_CTRL_SRC (c.bits 1 2 0) = true ∧ q.hostStepOk (c.bits 1 2 0) = true
      ∧ q.worldLocked (q.entryNonSecure (19 + c.bits 1 2 0)) = false) (fun _ _ => [])
    (fun c q => q.stepTb (c.bits 1 2 0) (((wordsTime (c.arg 2) (c.arg 3) (c.arg 4)).getD 0 : Int) - q.time (c.bits 1 2 0))) := by
  refine .of_silent_body (fun _ _ => rfl) (by decide) ?_
  rintro c q ⟨ht, hon, hsrc, hstep, hfree⟩
  rw [timeSet_body q ht, need_pos hon, need_pos (by rw [hsrc, hstep]; rfl), unlessLocked_free hfree]

end Sys2Proof.Machine

/-- Settles O17: each clause by the first condition of the command's body that fails, or by all of them holding. -/
theorem timeSetRefusals : Obligations.TimeSetRefusals := by
  unfold Obligations.TimeSetRefusals
  refine ⟨?set, ?adjPhase, ?pending, ?accepted⟩
  case set =>
    refine .of_body (fun _ _ => rfl) (by decide) (by decide) ?_
    rintro c q ⟨ht, hon, hnot⟩
    rw [← State.hostStepOk_eq_false] at hnot
    rw [timeSet_body q ht, need_pos hon, need_neg (Bool.and_eq_false_iff.mpr hnot)]
  case adjPhase =>
    refine .of_body (fun _ _ => rfl) (by decide) (by decide) ?_
    rintro c q ⟨hon, hrange, hstep, hnot⟩
    rw [← State.hostStepOk_eq_false] at hnot
    refine (need_pos (by rw [hon, decide_eq_true hrange]; rfl)).trans (need_neg ?_)
    rw [hstep]
    exact Bool.and_eq_false_iff.mpr hnot
  case pending =>
    refine .of_body (fun _ _ => rfl) (by decide) (by decide) ?_
    rintro c q ⟨hon, hsrc, hstep, hsum⟩
    simp only [← State.hostStepOk_iff] at hstep
    have hrefused := (q.corrRefused_iff _ _).mpr hsum
    by_cases hrange : (c.int64 2).natAbs ≤ 10 ^ 9 * 65536
    · refine (need_pos (by rw [hon, decide_eq_true hrange]; rfl)).trans ((need_pos ?_).trans
        (need_neg (by rw [hrefused]; rfl)))
      simpa [hsrc, Decidable.imp_iff_not_or] using hstep
    · exact need_neg (by rw [decide_eq_false hrange, Bool.and_false])
  case accepted =>
    refine timeSet_fulfils.of_imp ?_
    rintro c q ⟨ht, hon, hsrc, hstep, hfree⟩
    exact ⟨ht, hon, hsrc, (q.hostStepOk_iff _).mpr hstep, hfree⟩
end

section
/-! SUPPORT. The TIME commands of the timebases, each through its body under the conditions in which it is carried out (R84 to
R89). -/

open Sys2Proof Sys2Proof.Machine

namespace Sys2Proof.Machine

/-! ### Locks -/

theorem State.unlocked_find? {q : State} {ws : List FieldWrite} (h : q.unlocked ws) : ws.find? q.cmdLocked = none := by
  simpa using h

/-! ### Conditions of the timebase commands -/

theorem State.leapOk_iff (s : State) (n k sec ofs : Nat) : s.leapOk n k sec ofs = true ↔ sec ≠ 0
    ∧ (sext 16 ofs - s.ofsBefore n k sec).natAbs = 1 ∧ ((sec : Int) - sext 16 ofs) % 86400 = 0 := by
  simp [State.leapOk, and_assoc]

end Sys2Proof.Machine

/-- Settles O22: in each clause the conditions that the command's body asks for hold, and no lock refuses its writes. -/
theorem timebaseCommandsComplete : Obligations.TimebaseCommandsComplete := by
  unfold Obligations.TimebaseCommandsComplete
  refine ⟨?status, ?tbCfg, timeSet_fulfils, ?adjPhase, ?adjFreq, ?utcOfs, ?leapSet, ?leapClear⟩
  case status =>
    exact .of_body (fun _ _ => rfl) (by decide) (fun _ _ _ => rfl) fun _ _ _ _ => by simp [words64]
  case tbCfg =>
    refine .of_silent_body (fun _ _ => rfl) (by decide) ?_
    rintro c q ⟨hslew, hthr, hlimit, huse, hfree⟩
    refine (need_pos (by rw [hslew, hthr, hlimit]; rfl)).trans ((need_pos ?_).trans ?_)
    · simpa [Decidable.imp_iff_not_or, or_assoc] using huse
    · rw [State.unlocked_find? hfree]
  case adjPhase =>
    refine .of_silent_body (fun _ _ => rfl) (by decide) ?_
    rintro c q ⟨hon, hrange, hsrc, hstep, hsum, hpair, hfree⟩
    refine (need_pos (by rw [hon, decide_eq_true hrange]; rfl)).trans ((need_pos ?_).trans
      ((need_pos (by rw [hsum]; rfl)).trans ((need_pos ?_).trans (unlessLocked_free hfree))))
    · simpa [hsrc, Decidable.imp_iff_not_or] using hstep
    · split
      · rw [hpair _ ‹_›]; rfl
      · rfl
  case adjFreq =>
    refine .of_silent_body (fun _ _ => rfl) (by decide) ?_
    rintro c q ⟨hon, hrange, hsrc, hfree⟩
    exact (need_pos ((q.freqOk_iff _ _).mpr ⟨hon, hrange⟩)).trans ((need_pos hsrc).trans (writeCfg_unlocked hfree))
  case utcOfs =>
    refine .of_silent_body (fun _ _ => rfl) (by decide) ?_
    rintro c q ⟨hon, hop, hlen, hfree⟩
    refine (need_pos hon).trans ?_
    rw [hop]
    exact (need_pos (decide_eq_true hlen)).trans (writeCfg_unlocked hfree)
  case leapSet =>
    refine .of_silent_body (fun _ _ => rfl) (by decide) ?_
    rintro c q ⟨hon, hop, hlen, hsec, hofs, hday, hfree⟩
    have hleap := (q.leapOk_iff _ _ _ _).mpr ⟨hsec, hofs, hday⟩
    refine (need_pos hon).trans ?_
    rw [hop]
    exact (need_pos (by rw [decide_eq_true hlen, hleap]; rfl)).trans (writeCfg_unlocked hfree)
  case leapClear =>
    refine .of_silent_body (fun _ _ => rfl) (by decide) ?_
    rintro c q ⟨hon, hop, hfree⟩
    refine (need_pos hon).trans ?_
    rw [hop]
    exact writeCfg_unlocked hfree
end

section
/-! SUPPORT. The TIME commands of the outputs, of the pairs and of IEEE 1588 sessions, each through its body under the
conditions in which it is carried out (R90 to R94, R139 to R141). -/

open Sys2Proof Sys2Proof.Machine

namespace Sys2Proof.Machine

/-- A sum on the left is its own left value: so a target that R56 accepts is judged to its linear time. -/
theorem sum_eq_inl_getD {x : Nat ⊕ Status} (h : x.isLeft = true) : x = .inl (x.getLeft?.getD 0) := by
  cases x
  · rfl
  · simp at h

/-- A timebase of no pair but the one in hand may be a member of it (R91). -/
theorem noOtherPair_of_imp {o : Option Nat} {k : Nat} (h : ∀ j, o = some j → j = k) :
    (match (generalizing := false) o with | some j => j == k | none => true) = true := by
  cases o with
  | none => rfl
  | some j => exact beq_iff_eq.mpr (h j rfl)

theorem State.widthOk_iff (s : State) (m width : Nat) : s.widthOk m width = true
    ↔ (s.on R.HW_CMPm_CTRL_PERIODIC m = true → width < s.get R.HW_CMPm_PER_PERIOD m) := by
  simp [State.widthOk, Decidable.imp_iff_not_or]

/-- The domain of a session's key. -/
theorem sessKey_mod (p : Nat) {dom : Nat} (h : dom < 256) : sessKey p dom % 256 = dom := by
  rw [sessKey, Nat.mul_add_mod, Nat.mod_eq_of_lt h]

end Sys2Proof.Machine

/-- Settles O23: in each clause the conditions that the command's body asks for hold, and no lock refuses its writes. -/
theorem timeOutputAndSessionCommandsComplete : Obligations.TimeOutputAndSessionCommandsComplete := by
  unfold Obligations.TimeOutputAndSessionCommandsComplete
  refine ⟨timeDomainMap_fulfils, ?enable, ?disable, ?switch, ?disarm, ?arm, ?pps, ?serial, ?ptpPort, ?sessStatus, ?npx⟩
  case enable =>
    refine .of_silent_body (fun _ _ => rfl) (by decide) ?_
    rintro c q ⟨hop, hne, hprim, hshadow, hprimFree, hshadowFree, hfree⟩
    simp only [cmdTimePair, hop]
    refine (need_pos ?_).trans (writeCfg_unlocked hfree)
    simp only [hprim, hshadow, bne_iff_ne.mpr hne, Bool.true_and, Bool.and_eq_true]
    exact ⟨noOtherPair_of_imp hprimFree, noOtherPair_of_imp hshadowFree⟩
  case disable =>
    refine .of_silent_body (fun _ _ => rfl) (by decide) ?_
    rintro c q ⟨hop, hconv, hfree⟩
    simp only [cmdTimePair, hop]
    exact (need_pos (by rw [hconv]; rfl)).trans (writeCfg_unlocked hfree)
  case switch =>
    refine .of_body (fun _ _ => rfl) (by decide) ?_
    rintro c q ⟨hop, hen, hmay, hfree⟩
    simp only [cmdTimePair, hop, hmay]
    exact (need_pos hen).trans (unlessLocked_free hfree)
  case disarm =>
    refine .of_silent_body (fun _ _ => rfl) (by decide) ?_
    rintro c q ⟨hop, hfree⟩
    exact (if_pos (by rw [hop]; rfl)).trans (writeCfg_unlocked hfree)
  case arm =>
    refine .of_silent_body (fun _ _ => rfl) (by decide) ?_
    rintro c q ⟨hop, hlen, hon, hper, hwidth, htarget, hfree⟩
    refine (if_neg (by rw [hop]; decide)).trans ((need_pos ?_).trans ?_)
    · simpa [hlen, hon, hper, Decidable.imp_iff_not_or] using hwidth
    · rw [sum_eq_inl_getD htarget]
      exact writeCfg_unlocked hfree
  case pps =>
    refine .of_silent_body (fun _ _ => rfl) (by decide) ?_
    rintro c q ⟨hmode, hwidth, hdly, hon, hper, hfree⟩
    rw [← State.widthOk_iff] at hper
    refine (need_pos ?_).trans (writeCfg_unlocked hfree)
    simpa [hmode, hwidth, hdly, Decidable.imp_iff_not_or] using And.intro hon hper
  case serial =>
    refine .of_silent_body (fun _ _ => rfl) (by decide) ?_
    rintro c q ⟨htod, hirig, hon, hfree⟩
    exact (need_pos (by rw [htod, hirig, hon]; rfl)).trans (writeCfg_unlocked hfree)
  case ptpPort =>
    refine .of_silent_body (fun _ _ => rfl) (by decide) ?_
    rintro c q ⟨hport, hmapped, hrole, htransport, hsync, hdreq, hann, hhold, hroom, hworld, hfree⟩
    refine (need_pos ?_).trans ((need_pos ?_).trans ((unlessLocked_free hworld).trans (writeCfg_unlocked hfree)))
    · rw [sessKey_mod _ (c.bits_lt 1 15 8)]
      simp [hport, hmapped, hrole, htransport, hsync, hdreq, hann, hhold]
    · simpa [or_assoc] using hroom
  case sessStatus =>
    refine .of_body (fun _ _ => rfl) (by decide) ?_ ?_
    · intro c q h
      obtain ⟨e, he⟩ := Option.isSome_iff_exists.mp h
      simp only [cmdTimeSessStatus, he]
    · intro c q h _
      obtain ⟨e, he⟩ := Option.isSome_iff_exists.mp h
      simp [he, words64]
  case npx =>
    refine .of_silent_body (fun _ _ => rfl) (by decide) ?_
    intro c q hfree
    simp only [cmdTimeNpx]
    exact writeCfg_unlocked hfree
end

section
/-! SUPPORT. The rows of the outputs and of the transmitting ports, each through the branch that its condition chooses (R56 to
R61, R353, R371). -/

open Sys2Proof Sys2Proof.Machine

namespace Sys2Proof.Machine

/-! ### What a row of the serial outputs does to their record -/

/-- The oldest captured ToD frame has left the queue. -/
def State.dropTod (s : State) (rest : List TodFrame) : State := { s with serial := { s.serial with frames := rest } }

/-- The oldest captured ToD frame leaves the queue with its sequence number (R59). -/
def State.sendTod (s : State) (f : TodFrame) (rest : List TodFrame) : State :=
  let t := (s.dropTod rest).emit (.tod f.baud (todBytes f.body s.serial.todSeq))
  { t with serial := { t.serial with todSeq := (s.serial.todSeq + 1) % 65536 } }

/-- A second of the IRIG-B output's time has been seen. -/
def State.sawIrig (s : State) (sec : Nat) : State := { s with serial := { s.serial with irigSeen := sec, irigOn := none } }

section

variable {s e : State} {dt n p : Nat} (he : e = s.elapse dt)

include he

/-! ### PPS -/

/-- In SECOND mode a boundary is handled once (R58). -/
theorem exec_ppsPulse_of_second (hn : n < 4) (hmode : e.ppsCmpMode n = false) : exec (.ppsPulse dt n) s
    = .next (if (e.ppsOf n).seen < secsOf (e.ppsTime n) then e.ppsBoundary n (secsOf (e.ppsTime n)) else e) := by
  change execPpsPulse dt n s = _
  simp only [execPpsPulse, ← he, Nat.mod_eq_of_lt hn, hmode, Bool.false_eq_true, if_false]

/-- In CMP mode the oldest firing that is due is driven first (R56). -/
theorem exec_ppsPulse_of_due (hn : n < 4) (hmode : e.ppsCmpMode n = true) {edge : Int} {rest : List Int}
    (hdue : (e.ppsOf n).due = edge :: rest) : exec (.ppsPulse dt n) s
    = .next ((e.ppsUpd n fun p => { p with due := rest }).ppsFire n edge) := by
  change execPpsPulse dt n s = _
  simp only [execPpsPulse, ← he, Nat.mod_eq_of_lt hn, hmode, hdue, if_true]

/-- In CMP mode with no firing due, a negative DLY may place the coming one now (R56). -/
theorem exec_ppsPulse_of_none_due (hn : n < 4) (hmode : e.ppsCmpMode n = true) (hdue : (e.ppsOf n).due = []) :
    exec (.ppsPulse dt n) s = .next (if e.ppsAhead n then
        (e.ppsUpd n fun p => { p with early := some (e.cmpGoal (e.get R.HW_PPSn_CFG_CMP_NUM n)).toNat }).ppsFire n
          (e.cmpEdge (e.get R.HW_PPSn_CFG_CMP_NUM n) n)
      else e) := by
  change execPpsPulse dt n s = _
  simp only [execPpsPulse, ← he, Nat.mod_eq_of_lt hn, hmode, hdue, if_true]

theorem exec_ppsPulseEnd_of_on (hn : n < 4) {t : Int} (hon : (e.ppsOf n).on = some t) : exec (.ppsPulseEnd dt n) s
    = .next (if t + (e.get R.HW_PPSn_WIDTH_WIDTH n * 10 ^ 6 : Nat) ≤ (e.clk : Int)
      then e.ppsUpd n fun p => { p with on := none } else e) := by
  change execPpsPulseEnd dt n s = _
  simp only [execPpsPulseEnd, ← he, Nat.mod_eq_of_lt hn, hon, ge_iff_le]

/-! ### Serial outputs -/

/-- OFFSET after its boundary the oldest ToD frame leaves the queue, sent where the output is enabled and driven (R59). -/
theorem exec_todFrame_of_due {f : TodFrame} {rest : List TodFrame} (hframes : e.serial.frames = f :: rest)
    (hdue : f.at_ + (f.offset * 10 ^ 9 : Nat) ≤ (e.clk : Int)) : exec (.todFrame dt) s
    = .next (if e.on R.HW_TOD_CFG_EN && e.todDriven then e.sendTod f rest else e.dropTod rest) := by
  change execTodFrame dt s = _
  simp only [execTodFrame, ← he, hframes, ge_iff_le, hdue, if_true]
  rfl

/-- A new second of its time is seen by the IRIG-B output, and its frame begins where it may (R61). -/
theorem exec_irigFrame_of_new (hnew : e.serial.irigSeen < secsOf e.irigTime) : exec (.irigFrame dt) s
    = .next (if e.irigBegins (secsOf e.irigTime) then (e.sawIrig (secsOf e.irigTime)).irigSend (secsOf e.irigTime)
      else e.sawIrig (secsOf e.irigTime)) := by
  change execIrigFrame dt s = _
  simp only [execIrigFrame, ← he, hnew, if_true]
  rfl

/-! ### Ports -/

/-- A free port starts the copy of the class that it chooses, after the guard of those above it is counted (R371). -/
theorem exec_schedulerDecision_of_some (hp : p < 48) (hfree : e.portFree p = true) {c : Nat} {u : State}
    (hchosen : ((e.fillBuckets p).judgeWindows p).chooseClass p = some (c, u)) (rho : Nat) (corrupt : Bool) :
    exec (.schedulerDecision dt p rho corrupt) s
      = .next ((u.countGuard p (some c)).startCopy p c (min rho (rhoMax (e.portMode p))) corrupt) := by
  change execSchedulerDecision dt p rho corrupt s = _
  simp only [execSchedulerDecision, ← he, Nat.mod_eq_of_lt hp, hfree, hchosen, Bool.not_true, Bool.false_eq_true, if_false]

/-- A free port with no class to start counts the guard alone. -/
theorem exec_schedulerDecision_of_none (hp : p < 48) (hfree : e.portFree p = true)
    (hchosen : ((e.fillBuckets p).judgeWindows p).chooseClass p = none) (rho : Nat) (corrupt : Bool) :
    exec (.schedulerDecision dt p rho corrupt) s = .next (((e.fillBuckets p).judgeWindows p).countGuard p none) := by
  change execSchedulerDecision dt p rho corrupt s = _
  simp only [execSchedulerDecision, ← he, Nat.mod_eq_of_lt hp, hfree, hchosen, Bool.not_true, Bool.false_eq_true, if_false]

theorem exec_transmitEnd_of_sending (hp : p < 48) {x : Tx} (hx : Tab.find? e.cl.tx p = some x) :
    exec (.transmitEnd dt p) s = .next (if x.stop ≤ e.clk then e.endTx p x else e) := by
  change execTransmitEnd dt p s = _
  simp only [execTransmitEnd, ← he, Nat.mod_eq_of_lt hp, hx]

end

end Sys2Proof.Machine

/-- Settles O41, row by row: the row's condition chooses the branch, and the branch is what the statement names. -/
theorem outputEventsComplete : Obligations.OutputEventsComplete := by
  unfold Obligations.OutputEventsComplete
  refine ⟨?second, ?due, ?ahead, ?pulseEnd, ?tod, ?todDropped, ?irig, ?irigSilent, ?starts, ?idles, ?transmitEnd⟩
  case second =>
    intro s e dt n he hn hmode hseen
    rw [exec_ppsPulse_of_second he hn hmode, if_pos hseen]
  case due =>
    intro s e dt n edge rest he hn hmode hdue
    exact exec_ppsPulse_of_due he hn hmode hdue
  case ahead =>
    intro s e dt n he hn hmode hdue hahead
    rw [exec_ppsPulse_of_none_due he hn hmode hdue, if_pos hahead]
  case pulseEnd =>
    intro s e dt n t he hn hon hpassed
    rw [exec_ppsPulseEnd_of_on he hn hon, if_pos hpassed]
  case tod =>
    intro s e dt f rest he hframes hdue hen hdriven
    rw [exec_todFrame_of_due he hframes hdue, if_pos (by rw [hen, hdriven]; rfl)]
    rfl
  case todDropped =>
    intro s e dt f rest he hframes hdue hsilent
    rw [exec_todFrame_of_due he hframes hdue, if_neg (by rw [hsilent]; decide)]
    rfl
  case irig =>
    intro s e dt he hnew hbegins
    rw [exec_irigFrame_of_new he hnew, if_pos hbegins]
    rfl
  case irigSilent =>
    intro s e dt he hnew hsilent
    rw [exec_irigFrame_of_new he hnew, if_neg (by rw [hsilent]; decide)]
    rfl
  case starts =>
    intro s e dt p rho cls corrupt he hp hfree hcls
    obtain ⟨⟨c, u⟩, hchosen, rfl⟩ := Option.map_eq_some_iff.mp hcls
    rw [exec_schedulerDecision_of_some he hp hfree hchosen, hchosen]
    rfl
  case idles =>
    intro s e dt p rho corrupt he hp hfree hchosen
    exact exec_schedulerDecision_of_none he hp hfree hchosen rho corrupt
  case transmitEnd =>
    intro s e dt p x he hp hx hstop
    rw [exec_transmitEnd_of_sending he hp hx, if_pos hstop]
end

section
/-! SUPPORT. The rows of time transfer: sessions and their messages (R99, R111, R113, R115, R122, R123), the NPX exchange
(R119 to R122, R124) and the phase meters (R103, R104, R137), each with its session, configuration or meter looked up, and
with them the statements on sessions and on NPX. -/

open Sys2Proof Sys2Proof.Machine

namespace Sys2Proof.Machine

section

variable {s e : State} {dt p d : Nat} (he : e = s.elapse dt) (hp : p < 48) (hd : d < 256)

include he hp hd

/-! ### Messages of a domain that the port follows -/

theorem exec_announce_of_ptp {c : PtpCfg} (hc : e.ptpOf (sessKey p d) = some c) (peer cls acc var steps : Nat) :
    exec (.announce dt p d peer cls acc var steps) s
      = if !roleAllows c.role 2 || (e.domainTb d).isNone then .next e
        else if e.nodeLoop p then .next (e.raise 44 p)
        else .next (e.heardAnnounce (sessKey p d) peer cls acc var steps) := by
  change execAnnounce dt p d peer cls acc var steps s = _
  unfold execAnnounce
  simp only [← he, Nat.mod_eq_of_lt hp, Nat.mod_eq_of_lt hd, hc]

theorem exec_delayReq_of_ptp {c : PtpCfg} (hc : e.ptpOf (sessKey p d) = some c) (peer seq : Nat) (pdelay : Bool)
    (ago rho port : Nat) (corr : Int) :
    exec (.delayReq dt p d peer seq pdelay ago rho port corr) s
      = if !c.serves pdelay || (e.domainTb d).isNone then .next e
        else if e.nodeLoop p then .next (e.raise 44 p)
        else .next (e.heardDelayReq (sessKey p d) peer port seq c pdelay ago rho corr) := by
  change execDelayReq dt p d peer seq pdelay ago rho port corr s = _
  unfold execDelayReq
  simp only [← he, Nat.mod_eq_of_lt hp, Nat.mod_eq_of_lt hd, hc]

/-- A message that was never sent is due, and one that was is due an interval later. -/
theorem exec_ptpMessageSend_of_ptp {c : PtpCfg} (hc : e.ptpOf (sessKey p d) = some c) (kind flags : Nat) :
    exec (.ptpMessageSend dt p d kind flags) s
      = if e.mayOriginate (sessKey p d) kind c
            && (Tab.find? c.sent kind).all (fun t => decide (t + c.interval kind ≤ e.clk))
        then .next (e.ptpSend (sessKey p d) kind flags c) else .next e := by
  change execPtpMessageSend dt p d kind flags s = _
  unfold execPtpMessageSend
  simp only [← he, Nat.mod_eq_of_lt hp, Nat.mod_eq_of_lt hd, hc]
  cases Tab.find? c.sent kind <;> rfl

/-! ### Sessions -/

variable {x : Session} (hx : e.sess? (sessKey p d) = some x)

include hx

theorem exec_sessionHoldExpiry_of_suspended {c : PtpCfg} {since : Nat} (hc : e.ptpOf (sessKey p d) = some c)
    (hheld : x.suspended = some since) :
    exec (.sessionHoldExpiry dt p d) s
      = .next (if since + c.hold * 10 ^ 12 ≤ e.clk then e.closeSession (sessKey p d) else e) := by
  change execSessionHoldExpiry dt p d s = _
  unfold execSessionHoldExpiry
  simp only [← he, Nat.mod_eq_of_lt hp, Nat.mod_eq_of_lt hd, hc, hx, hheld]

/-- A held session, and one whose STEP_SEQ moved between t2 and t3, take nothing of an exchange (R99). -/
theorem exec_twoWayExchange_of_unusable {sq2 sq3 : Nat} (h : x.suspended ≠ none ∨ sq2 % 16 ≠ sq3 % 16)
    (t1 t2 t3 t4 : Nat) (fine2 fine4 : Bool) :
    exec (.twoWayExchange dt p d t1 t2 t3 t4 sq2 sq3 fine2 fine4) s = .next e := by
  have hcond : (x.suspended.isSome || sq2 % 16 != sq3 % 16) = true := by
    simpa [Option.isSome_iff_ne_none] using h
  change execTwoWayExchange dt p d t1 t2 t3 t4 sq2 sq3 fine2 fine4 s = _
  unfold execTwoWayExchange
  simp only [← he, Nat.mod_eq_of_lt hp, Nat.mod_eq_of_lt hd, hx, hcond, if_true]

/-- A usable exchange gives HOLD where tracking broke, and the estimate of the session's role otherwise (R99, R123). -/
theorem exec_twoWayExchange_of_usable {t1 t2 t3 t4 sq2 sq3 : Nat} {mpd asym theta : Int} (hopen : x.suspended = none)
    (hseq : sq2 % 16 = sq3 % 16) (hmpd : mpd = (linDist t2 t1 + linDist t4 t3) / 2) (hasym : asym = asymAt x.link mpd)
    (htheta : theta = linDist t2 t1 - mpd - asym) (fine2 fine4 : Bool) :
    exec (.twoWayExchange dt p d t1 t2 t3 t4 sq2 sq3 fine2 fine4) s
      = if x.npx = 5 ∧ sq2 % 16 ≠ x.stepSeq then .next (e.setNpx (sessKey p d) 6)
        else if x.role ≠ 2 then
          .next ((e.takeTheta (sessKey p d) theta mpd asym (fine2 && fine4)).tryTrack (sessKey p d))
        else if x.npx = 5 ∧ 26214 < (theta - x.theta).natAbs then
          .next ((e.count (sessKey p d / 256) 63).setNpx (sessKey p d) 6)
        else .next ((((e.sessUpd (sessKey p d) fun z => { z with syncLog := some (sext 8 (bits sq2 11 4)) }).takeTheta
          (sessKey p d) theta mpd asym (fine2 && fine4)).sessFeed (sessKey p d) theta).tryTrack (sessKey p d)) := by
  have hcond : (x.suspended.isSome || sq2 % 16 != sq3 % 16) = false := by simp [hopen, hseq]
  subst hmpd hasym htheta
  change execTwoWayExchange dt p d t1 t2 t3 t4 sq2 sq3 fine2 fine4 s = _
  unfold execTwoWayExchange
  simp only [← he, Nat.mod_eq_of_lt hp, Nat.mod_eq_of_lt hd, hx, hcond, Bool.false_eq_true, if_false]

/-! ### NPX -/

/-- A CAP is taken by a session that exchanges NPX, under the device's organizationId and of a known version; the
device's own Node ID in it is a loop, which also closes the session (R119, R122, R124; the raise and the close together are
the model's choice, log entry 73). -/
theorem exec_capTlv_of_session (org version flags node depth mode rate asymVer check : Nat) :
    exec (.capTlv dt p d org version flags node depth mode rate asymVer check) s
      = if x.npx = 0 || x.suspended.isSome || org != e.get R.PT_NPX_CFG_NPX_ORG_ID || 2 ≤ version then .next e
        else if node % 2 ^ 20 = e.nodeId then
          .next (((e.portUpd (sessKey p d / 256) fun z => { z with loop := true }).raise 44
            (sessKey p d / 256)).closeSession (sessKey p d))
        else .next (
          if x.npx = 1 ∨ x.npx = 2 then (e.takeCap (sessKey p d) version flags node depth rate check).setNpx
            (sessKey p d) (if version = 1 then 4 else 3)
          else if 4 ≤ x.npx ∧ (x.cap.isSome && x.node != node % 2 ^ 20) then
            (e.takeCap (sessKey p d) version flags node depth rate check).setNpx (sessKey p d) 4
          else e.takeCap (sessKey p d) version flags node depth rate check) := by
  change execCapTlv dt p d org version flags node depth mode rate asymVer check s = _
  unfold execCapTlv
  simp only [← he, Nat.mod_eq_of_lt hp, Nat.mod_eq_of_lt hd, hx]

/-- A session in ALIGN or beyond takes a PHASE of its partner; a RESET of a tracked phase gives HOLD (R120, R122). -/
theorem exec_phaseTlv_of_exchanging {org : Nat} (hnpx : 4 ≤ x.npx) (hopen : x.suspended = none)
    (horg : org = e.get R.PT_NPX_CFG_NPX_ORG_ID) (seq flags count : Nat) (last mean : Int) (sec ns : Nat) :
    exec (.phaseTlv dt p d org seq flags count last mean sec ns) s
      = .next (if x.npx = 5 ∧ bitOf flags 2 = true then
          (e.takePhase (sessKey p d) flags { last := last, at_ := linearOf sec ns }).setNpx (sessKey p d) 6
        else (e.takePhase (sessKey p d) flags { last := last, at_ := linearOf sec ns }).tryTrack (sessKey p d)) := by
  have hcond : (x.npx < 4 || x.suspended.isSome || org != e.get R.PT_NPX_CFG_NPX_ORG_ID) = false := by
    simp [hopen, horg, hnpx]
  change execPhaseTlv dt p d org seq flags count last mean sec ns s = _
  unfold execPhaseTlv
  simp only [← he, Nat.mod_eq_of_lt hp, Nat.mod_eq_of_lt hd, hx, hcond, Bool.false_eq_true, if_false]

theorem exec_probeTimeout_of_session : exec (.probeTimeout dt p d) s
    = .next (if x.npx = 1 ∧ x.suspended.isNone ∧ x.since + 8 * 10 ^ 12 ≤ e.clk then e.setNpx (sessKey p d) 2 else e) := by
  change execProbeTimeout dt p d s = _
  unfold execProbeTimeout
  simp only [← he, Nat.mod_eq_of_lt hp, Nat.mod_eq_of_lt hd, hx]

/-- A tracking session whose partner offers no PHASE at all times out at once. -/
theorem exec_phaseTimeout_of_session : exec (.phaseTimeout dt p d) s
    = .next (if x.npx = 5 ∧ (e.phaseRate x).all (fun r => decide (x.phaseAt + 4 * logPs (-r) ≤ e.clk)) = true
      then e.setNpx (sessKey p d) 6 else e) := by
  change execPhaseTimeout dt p d s = _
  unfold execPhaseTimeout
  simp only [← he, Nat.mod_eq_of_lt hp, Nat.mod_eq_of_lt hd, hx]
  cases e.phaseRate x <;> rfl

theorem exec_capSend_of_session : exec (.capSend dt p d) s
    = .next (if x.npx ≠ 0 ∧ x.suspended.isNone ∧ x.capSent + (if x.npx = 1 then 10 ^ 12 else 8 * 10 ^ 12) ≤ e.clk
      then e.sendCap (sessKey p d) else e) := by
  change execCapSend dt p d s = _
  unfold execCapSend
  simp only [← he, Nat.mod_eq_of_lt hp, Nat.mod_eq_of_lt hd, hx]

theorem exec_phaseSend_of_rate {r : Int} (hr : e.phaseRate x = some r) : exec (.phaseSend dt p d) s
    = .next (if x.npx ≠ 0 ∧ x.suspended.isNone ∧ x.readings ≠ [] ∧ x.phaseSent + logPs (-r) ≤ e.clk then
        (e.sendTlv (sessKey p d) (e.phaseBytes (sessKey p d) x)).sessUpd (sessKey p d) fun z =>
          { z with phaseSeq := (z.phaseSeq + 1) % 65536, readings := [], phaseReset := false, phaseSent := e.clk }
      else e) := by
  change execPhaseSend dt p d s = _
  unfold execPhaseSend
  simp only [← he, Nat.mod_eq_of_lt hp, Nat.mod_eq_of_lt hd, hx, hr]

end

/-! ### Phase meters -/

section

variable {s e : State} {dt l : Nat} (he : e = s.elapse dt) (hl : l < 60)

include he hl

theorem exec_fpmReading_of_code {code : Nat} (hcode : code < 3200) : exec (.fpmReading dt l code) s
    = if (e.fpmOf l).lockAt.isNone || (e.fpmOf l).ms == e.msIndex then .next e
      else .next ((e.fpmTake l code).fpmServe l) := by
  change execFpmReading dt l code s = _
  unfold execFpmReading
  simp only [← he, Nat.mod_eq_of_lt hl, Nat.mod_eq_of_lt hcode]

theorem exec_fpmValid_of_locked {t : Nat} (ht : (e.fpmOf l).lockAt = some t) : exec (.fpmValid dt l) s
    = .next (if t + 16 * 10 ^ 9 ≤ e.clk then e.set R.LN_FPMl_STAT_VALID 1 l else e) := by
  change execFpmValid dt l s = _
  unfold execFpmValid
  simp only [← he, Nat.mod_eq_of_lt hl, ht]

end

end Sys2Proof.Machine

/-- Settles O53, row by row: the row's condition chooses the branch, and the branch is what the statement names. -/
theorem ptpSessionEventsComplete : Obligations.PtpSessionEventsComplete := by
  unfold Obligations.PtpSessionEventsComplete
  refine ⟨?announce, ?announceLoop, ?request, ?requestIgnored, ?holdEnds, ?send, ?unusable, ?stepMoved, ?master, ?jump,
    ?slave⟩
  case announce =>
    intro s e dt p d peer cls acc var steps c he hp hd hc hrole htb hloop
    rw [exec_announce_of_ptp he hp hd hc, if_neg (by simp [hrole, Option.ne_none_iff_isSome.mpr htb]),
      if_neg (by simp [hloop])]
  case announceLoop =>
    intro s e dt p d peer cls acc var steps c he hp hd hc hrole htb hloop
    rw [exec_announce_of_ptp he hp hd hc, if_neg (by simp [hrole, Option.ne_none_iff_isSome.mpr htb]), if_pos hloop]
  case request =>
    intro s e dt p d peer seq ago rho port pdelay corr c he hp hd hc hserves htb hloop
    rw [exec_delayReq_of_ptp he hp hd hc, if_neg (by simp [hserves, Option.ne_none_iff_isSome.mpr htb]),
      if_neg (by simp [hloop])]
  case requestIgnored =>
    intro s e dt p d peer seq ago rho port pdelay corr c he hp hd hc hnot
    rw [exec_delayReq_of_ptp he hp hd hc, if_pos (by simpa using hnot)]
  case holdEnds =>
    intro s e dt p d since x c he hp hd hx hheld hc hpassed
    rw [exec_sessionHoldExpiry_of_suspended he hp hd hx hc hheld, if_pos hpassed]
  case send =>
    intro s e dt p d kind flags c he hp hd hc hmay hdue
    have hall : (Tab.find? c.sent kind).all (fun t => decide (t + c.interval kind ≤ e.clk)) = true := by
      rw [Tab.get] at hdue
      cases hsent : Tab.find? c.sent kind with
      | none => rfl
      | some t => simpa [hsent] using hdue
    rw [exec_ptpMessageSend_of_ptp he hp hd hc, if_pos (by rw [hmay, hall]; rfl)]
  case unusable =>
    intro s e dt p d t1 t2 t3 t4 sq2 sq3 fine2 fine4 x he hp hd hx hnot
    exact exec_twoWayExchange_of_unusable he hp hd hx hnot t1 t2 t3 t4 fine2 fine4
  case stepMoved =>
    intro s e dt p d t1 t2 t3 t4 sq2 sq3 fine2 fine4 x he hp hd hx hopen hseq htrack hmoved
    rw [exec_twoWayExchange_of_usable he hp hd hx hopen hseq rfl rfl rfl, if_pos ⟨htrack, hmoved⟩]
  case master =>
    intro s e dt p d t1 t2 t3 t4 sq2 sq3 fine2 fine4 x mpd asym theta he hp hd hx hopen hseq hrole hstill hmpd hasym htheta
    rw [exec_twoWayExchange_of_usable he hp hd hx hopen hseq hmpd hasym htheta,
      if_neg (fun ⟨htrack, hmoved⟩ => hmoved (hstill htrack)), if_pos hrole]
  case jump =>
    intro s e dt p d t1 t2 t3 t4 sq2 sq3 fine2 fine4 x mpd asym theta he hp hd hx hopen hseq hrole htrack hstill hmpd
      hasym htheta hjump
    rw [exec_twoWayExchange_of_usable he hp hd hx hopen hseq hmpd hasym htheta,
      if_neg (fun ⟨_, hmoved⟩ => hmoved hstill), if_neg (not_not_intro hrole), if_pos ⟨htrack, hjump⟩]
  case slave =>
    intro s e dt p d t1 t2 t3 t4 sq2 sq3 fine2 fine4 x mpd asym theta he hp hd hx hopen hseq hrole hmpd hasym htheta hcalm
    rw [exec_twoWayExchange_of_usable he hp hd hx hopen hseq hmpd hasym htheta,
      if_neg (fun ⟨htrack, hmoved⟩ => hmoved (hcalm htrack).1), if_neg (not_not_intro hrole),
      if_neg (fun ⟨htrack, hjump⟩ => Nat.not_le.mpr hjump (hcalm htrack).2)]

/-- Settles O54, row by row: the row's condition chooses the branch, and the branch is what the statement names. -/
theorem npxEventsComplete : Obligations.NpxEventsComplete := by
  unfold Obligations.NpxEventsComplete
  refine ⟨?cap, ?capLoop, ?capIgnored, ?phaseReset, ?phase, ?probeEnds, ?phaseEnds, ?sendCap, ?sendPhase, ?reading, ?valid⟩
  case cap =>
    intro s e dt p d org version flags node depth mode rate asymVer check x he hp hd hx hnpx hopen horg hversion hnode
    have hon : x.npx ≠ 0 := by omega
    rw [exec_capTlv_of_session he hp hd hx, if_neg (by simp [hon, hopen, horg, hversion]), if_neg hnode, if_pos hnpx]
  case capLoop =>
    intro s e dt p d org version flags node depth mode rate asymVer check x he hp hd hx hon hopen horg hversion hnode
    rw [exec_capTlv_of_session he hp hd hx, if_neg (by simp [hon, hopen, horg, hversion]), if_pos hnode]
  case capIgnored =>
    intro s e dt p d org version flags node depth mode rate asymVer check x he hp hd hx hnot
    rw [exec_capTlv_of_session he hp hd hx, if_pos (by simpa [or_assoc, Option.isSome_iff_ne_none] using hnot)]
  case phaseReset =>
    intro s e dt p d org seq flags count sec ns last mean x he hp hd hx hnpx hopen horg hreset
    rw [exec_phaseTlv_of_exchanging he hp hd hx hnpx hopen horg, if_pos hreset]
  case phase =>
    intro s e dt p d org seq flags count sec ns last mean x he hp hd hx hnpx hopen horg hcalm
    have hno : ¬ (x.npx = 5 ∧ bitOf flags 2 = true) := by simpa [imp_iff_not_or] using hcalm
    rw [exec_phaseTlv_of_exchanging he hp hd hx hnpx hopen horg, if_neg hno]
  case probeEnds =>
    intro s e dt p d x he hp hd hx hnpx hopen hpassed
    rw [exec_probeTimeout_of_session he hp hd hx, if_pos ⟨hnpx, by rw [hopen]; rfl, hpassed⟩]
  case phaseEnds =>
    intro s e dt p d x he hp hd hx hnpx hpassed
    rw [exec_phaseTimeout_of_session he hp hd hx, if_pos ⟨hnpx, by simpa [Option.all_eq_true] using hpassed⟩]
  case sendCap =>
    intro s e dt p d x he hp hd hx hon hopen hdue
    rw [exec_capSend_of_session he hp hd hx, if_pos ⟨hon, by rw [hopen]; rfl, hdue⟩]
  case sendPhase =>
    intro s e dt p d x r he hp hd hx hr hon hopen hread hdue
    rw [exec_phaseSend_of_rate he hp hd hx hr, if_pos ⟨hon, by rw [hopen]; rfl, hread, hdue⟩]
  case reading =>
    intro s e dt l code he hl hlocked hnew hcode
    rw [exec_fpmReading_of_code he hl hcode, if_neg (by simp [hlocked, hnew])]
  case valid =>
    intro s e dt l t he hl ht hpassed
    rw [exec_fpmValid_of_locked he hl ht, if_pos hpassed]
end

section
/-! SUPPORT. The REF commands, each through its body under the conditions in which it is carried out (R188 to R198). -/

open Sys2Proof Sys2Proof.Machine

namespace Sys2Proof.Machine

/-! ### REF.FORCE, one way of forcing at a time -/

/-- The release of a forcing, or forced holdover: FORCE_SLOT stays as it was (R159, R195). -/
theorem refForce_body_keepingSlot {c : Ctx} {q : State} {v : Nat} (hop : c.bits 1 6 4 = v) (hv : v = 0 ∨ v = 2)
    (hfree : q.unlocked [{ f := R.TR_DPLLn_CFG_FORCE, i := c.bits 1 2 0, v := v },
      { f := R.TR_DPLLn_CFG_FORCE_SLOT, i := c.bits 1 2 0, v := q.get R.TR_DPLLn_CFG_FORCE_SLOT (c.bits 1 2 0) }]) :
    cmdRefForce.body c q = done ((q.cfgWrites [{ f := R.TR_DPLLn_CFG_FORCE, i := c.bits 1 2 0, v := v },
      { f := R.TR_DPLLn_CFG_FORCE_SLOT, i := c.bits 1 2 0, v := q.get R.TR_DPLLn_CFG_FORCE_SLOT (c.bits 1 2 0) }]).setB
      R.TR_DPLLn_STAT_FORCED (v != 0) (c.bits 1 2 0)) := by
  rcases hv with rfl | rfl <;> simp only [cmdRefForce, hop] <;> exact writeCfg_unlocked hfree

/-- Forced selection of a candidate (R159, R195). -/
theorem refForce_body_select {c : Ctx} {q : State} (hop : c.bits 1 6 4 = 1)
    (hcand : q.candidate (c.bits 1 2 0) (c.bits 1 11 8) = true)
    (hfree : q.unlocked [{ f := R.TR_DPLLn_CFG_FORCE, i := c.bits 1 2 0, v := 1 },
      { f := R.TR_DPLLn_CFG_FORCE_SLOT, i := c.bits 1 2 0, v := c.bits 1 11 8 }]) :
    cmdRefForce.body c q = done ((q.cfgWrites [{ f := R.TR_DPLLn_CFG_FORCE, i := c.bits 1 2 0, v := 1 },
      { f := R.TR_DPLLn_CFG_FORCE_SLOT, i := c.bits 1 2 0, v := c.bits 1 11 8 }]).setB
      R.TR_DPLLn_STAT_FORCED true (c.bits 1 2 0)) := by
  simp only [cmdRefForce, hop]
  exact (need_pos hcand).trans (writeCfg_unlocked hfree)

/-- The clearing of a slot's resolved disputes on a DPLL (R163, R195). -/
theorem refForce_body_clear {c : Ctx} {q : State} (hop : c.bits 1 6 4 = 4) :
    cmdRefForce.body c q = done ((q.tr.disputes.filter fun d => d.resolved && d.n == c.bits 1 2 0
      && (d.a == c.bits 1 11 8 || d.b == c.bits 1 11 8)).foldl (fun s d => s.clearDispute d) q) := by
  simp only [cmdRefForce, hop]

end Sys2Proof.Machine

/-- Settles O24: in each clause the conditions that the command's body asks for hold, and no lock refuses its writes. -/
theorem refCommandsComplete : Obligations.RefCommandsComplete := by
  unfold Obligations.RefCommandsComplete
  refine ⟨?status, ?slotStatus, ?slotCfg, ?dpllCfg, ?prio, ?global, ?ocxo, ?release, ?select, ?hold, ?clear, ?loop, ?read,
    ?write⟩
  case status =>
    exact .of_body (fun _ _ => rfl) (by decide) (fun _ _ _ => rfl) fun _ _ _ _ => by simp [words64]
  case slotStatus =>
    exact .of_body (fun _ _ => rfl) (by decide) (fun _ _ _ => rfl) fun _ _ _ _ => by simp
  case slotCfg =>
    refine .of_silent_body (fun _ _ => rfl) (by decide) ?_
    rintro c q ⟨hcfg, hlim, hlimits, hnom, hfree⟩
    refine (need_pos ?_).trans (writeCfg_unlocked hfree)
    simpa [hcfg, hlim, hlimits, Decidable.imp_iff_not_or] using hnom
  case dpllCfg =>
    refine .of_silent_body (fun _ _ => rfl) (by decide) ?_
    rintro c q ⟨hbw, hswt, hho, hfree⟩
    exact (need_pos (by rw [decide_eq_true hbw, hswt, hho]; rfl)).trans (writeCfg_unlocked hfree)
  case prio =>
    refine .of_silent_body (fun _ _ => rfl) (by decide) ?_
    intro c q hfree
    simp only [cmdRefPrio]
    exact writeCfg_unlocked hfree
  case global =>
    refine .of_silent_body (fun _ _ => rfl) (by decide) ?_
    rintro c q ⟨hline, hcfg, hfree⟩
    exact (need_pos (by simpa using hline)).trans ((need_pos hcfg).trans (writeCfg_unlocked hfree))
  case ocxo =>
    refine .of_silent_body (fun _ _ => rfl) (by decide) ?_
    rintro c q ⟨hcfg, hmodel0, hmodel1, hmodel2, hfree⟩
    exact (need_pos (by rw [hcfg, hmodel0, hmodel1, hmodel2]; rfl)).trans (writeCfg_unlocked hfree)
  case release =>
    exact .of_silent_body (fun _ _ => rfl) (by decide) fun _ _ ⟨hop, hfree⟩ =>
      refForce_body_keepingSlot hop (.inl rfl) hfree
  case select =>
    exact .of_silent_body (fun _ _ => rfl) (by decide) fun _ _ ⟨hop, hcand, hfree⟩ => refForce_body_select hop hcand hfree
  case hold =>
    exact .of_silent_body (fun _ _ => rfl) (by decide) fun _ _ ⟨hop, hfree⟩ =>
      refForce_body_keepingSlot hop (.inr rfl) hfree
  case clear =>
    exact .of_silent_body (fun _ _ => rfl) (by decide) fun _ _ hop => refForce_body_clear hop
  case loop =>
    refine .of_silent_body (fun _ _ => rfl) (by decide) ?_
    intro c q hfree
    simp only [cmdRefSwLoop]
    exact writeCfg_unlocked hfree
  case read =>
    exact .of_body (fun _ _ => rfl) (by decide) (fun _ _ _ => rfl) fun _ _ _ _ => by simp [words64]
  case write =>
    refine .of_silent_body (fun _ _ => rfl) (by decide) ?_
    rintro c q ⟨hclamp, hopen, hidle, hfree⟩
    exact (need_pos (decide_eq_true hclamp)).trans ((need_pos hopen).trans ((need_pos (by rw [hidle]; rfl)).trans
      (writeCfg_unlocked hfree)))
end

section
/-! SUPPORT. The rows of Taproot's slots and disputes, each through the branch that its condition chooses (R146 to R149, R160
to R163, R182). -/

open Sys2Proof Sys2Proof.Machine

namespace Sys2Proof.Machine

/-! ### What makes a row due -/

theorem State.wtrDue_iff (s : State) (i : Nat) : s.wtrDue i = true
    ↔ ∃ t, (s.slotOf i).wtrStart = some t ∧ t + (s.slotOf i).wtrLen ≤ s.clk := by
  unfold State.wtrDue
  cases (s.slotOf i).wtrStart <;> simp

theorem State.settleDue_iff (s : State) : s.settleDue = true
    ↔ s.tr.settleDone = false ∧ ∃ t, s.tr.settleFrom = some t ∧ t + 2 * 10 ^ 12 ≤ s.clk := by
  unfold State.settleDue
  cases s.tr.settleFrom <;> simp

theorem State.resolveDue_iff (s : State) (d : Dispute) :
    s.resolveDue d = true ↔ d.resolved = false ∧ d.since + 4 * 10 ^ 12 ≤ s.clk := by
  simp [State.resolveDue]

theorem State.clearDue_iff (s : State) (d : Dispute) : s.clearDue d = true
    ↔ d.resolved = true ∧ d.agreeing = true ∧ d.since + 30 * 10 ^ 12 ≤ s.clk := by
  simp [State.clearDue, and_assoc]

/-! ### Direct writes -/

/-- A write of FEED_HI is one of a register with no field that a lock holds. -/
theorem exec_feedEstimate {i : Nat} (hi : i < 16) (s : State) (init v : Nat) : exec (.feedEstimate init i v) s
    = .next (s.directWrite init (0x61811C + 0x20 * i) [] fun q => if portSlot i && q.mayFeed i
        then q.sample i (sext 64 ((q.slotOf i).feedLo + v % 2 ^ 32 * 2 ^ 32)) else q) := by
  change execFeedEstimate init i v s = _
  simp only [execFeedEstimate, Nat.mod_eq_of_lt hi]

section

variable {s e : State} {dt i n a b : Nat} (he : e = s.elapse dt)

include he

/-! ### Slots -/

theorem exec_activityLoss (hi : i < 16) : exec (.activityLoss dt i) s
    = .next (if e.on R.TR_SLOTs_STAT_ACTIVE i && decide ((e.slotOf i).lastPhase + e.silence i ≤ e.clk)
      then e.loseActivity i else e) := by
  change execActivityLoss dt i s = _
  simp only [execActivityLoss, ← he, Nat.mod_eq_of_lt hi]

theorem exec_activityReturn (hi : i < 16) (theta : Int) : exec (.activityReturn dt i theta) s
    = .next (if e.mayFeed i && !e.on R.TR_SLOTs_STAT_ACTIVE i then e.sample i theta else e) := by
  change execActivityReturn dt i theta s = _
  simp only [execActivityReturn, ← he, Nat.mod_eq_of_lt hi]

theorem exec_wtrExpiry (hi : i < 16) : exec (.wtrExpiry dt i) s
    = .next (if e.wtrDue i then e.endWtr i else e) := by
  change execWtrExpiry dt i s = _
  simp only [execWtrExpiry, ← he, Nat.mod_eq_of_lt hi]

/-- At a new 100 ms every monitor is updated, once the OCXO's offset has been taken where it is measured (R147). -/
theorem exec_frequencyMonitorUpdate_of_new (hnew : e.monIndex ≠ e.tr.lastMon) (fofs : List Int) (ocxo : Int) :
    exec (.frequencyMonitorUpdate dt fofs ocxo) s
      = .next ((List.range 16).foldl (fun s i => s.monitor i (fofs.getD i 0))
        (if e.on R.TR_OCXO_STAT_ACTIVE && !e.tr.xoLost
          then { e with tr := { e.tr with lastMon := e.monIndex, ocxoOfs := ocxo } }
          else { e with tr := { e.tr with lastMon := e.monIndex } })) := by
  change execFrequencyMonitorUpdate dt fofs ocxo s = _
  simp only [execFrequencyMonitorUpdate, ← he, bne_iff_ne.mpr hnew, if_true]

/-! ### Disputes and the settle window -/

theorem exec_disputeResolution_of_recorded {d : Dispute} (hd : e.dispOf n a b = some d) :
    exec (.disputeResolution dt n a b) s
      = .next (if e.resolveDue d && e.disagree n a b then e.resolve d else e) := by
  change execDisputeResolution dt n a b s = _
  simp only [execDisputeResolution, ← he, hd]

theorem exec_disputeClear_of_recorded {d : Dispute} (hd : e.dispOf n a b = some d) :
    exec (.disputeClear dt n a b) s = .next (if e.clearDue d && e.together d then e.clearDispute d else e) := by
  change execDisputeClear dt n a b s = _
  simp only [execDisputeClear, ← he, hd]

theorem exec_settleWindowEnd : exec (.settleWindowEnd dt) s = .next (if e.settleDue then e.endSettle else e) := by
  rw [he]
  rfl

end

end Sys2Proof.Machine

/-- Settles O42, row by row: the row's condition chooses the branch, and the branch is what the statement names. -/
theorem taprootSlotsComplete : Obligations.TaprootSlotsComplete := by
  unfold Obligations.TaprootSlotsComplete
  refine ⟨?loss, ?returns, ?feed, ?monitors, ?wtr, ?resolve, ?clear, ?settle⟩
  case loss =>
    intro s e dt i he hi hactive hsilent
    rw [exec_activityLoss he hi, if_pos (by rw [hactive, decide_eq_true hsilent]; rfl)]
  case returns =>
    intro s e dt i theta he hi hfeed hinactive
    rw [exec_activityReturn he hi, if_pos (by rw [hfeed, hinactive]; rfl)]
  case feed =>
    rintro s _ init i v rfl ha hi hport hfeed
    rw [exec_feedEstimate hi, s.directWrite_of_writable _ ha (State.writable_nil _)]
    exact congrArg _ (State.direct_congr _ (if_pos (by rw [hport, hfeed]; rfl)))
  case monitors =>
    intro s e dt fofs ocxo he hnew
    exact exec_frequencyMonitorUpdate_of_new he hnew fofs ocxo
  case wtr =>
    intro s e dt i t he hi hstart hpassed
    rw [exec_wtrExpiry he hi, if_pos ((e.wtrDue_iff i).mpr ⟨t, hstart, hpassed⟩)]
  case resolve =>
    intro s e dt n a b d he hd hopen hpassed hapart
    have hdue := (e.resolveDue_iff d).mpr ⟨hopen, hpassed⟩
    rw [exec_disputeResolution_of_recorded he hd, if_pos (by rw [hdue, hapart]; rfl)]
  case clear =>
    intro s e dt n a b d he hd hresolved hagreeing hpassed htogether
    have hdue := (e.clearDue_iff d).mpr ⟨hresolved, hagreeing, hpassed⟩
    rw [exec_disputeClear_of_recorded he hd, if_pos (by rw [hdue, htogether]; rfl)]
  case settle =>
    intro s e dt t he hopen hfrom hpassed
    rw [exec_settleWindowEnd he, if_pos (e.settleDue_iff.mpr ⟨hopen, t, hfrom, hpassed⟩)]
end

section
/-! SUPPORT. The rows of Taproot's DPLLs, of the software loop and of the OCXO, each through the branch that its condition
chooses (R152, R154, R167 to R170, R172, R174, R186). -/

open Sys2Proof Sys2Proof.Machine

namespace Sys2Proof.Machine

/-- The word that a write of SWF_HI commits: its low byte above the low half that SWF_LO has kept (R186). -/
def State.swJoin (s : State) (n v : Nat) : Int := sext 40 ((s.dpllOf n).swfLo + v % 256 * 2 ^ 32)

/-! ### What makes a row due -/

theorem State.switchOver_iff (s : State) (n : Nat) : s.switchOver n = true
    ↔ (s.dpllOf n).lastTarget + s.get R.TR_DPLLn_SWT_SWITCH_TIME n * 10 ^ 9 ≤ s.clk :=
  decide_eq_true_iff

theorem State.swTimeoutDue_iff (s : State) (n : Nat) : s.swTimeoutDue n = true ↔ s.on R.TR_DPLLn_CFG_OPEN n = true
    ∧ (s.dpllOf n).lastSw + s.get R.TR_DPLLn_SWT_SW_TIMEOUT n * 10 ^ 9 ≤ s.clk := by
  simp [State.swTimeoutDue]

/-! ### The software word -/

/-- A write of SWF_HI changes a lockable field only while the loop is open. -/
theorem exec_swFreqWrite {n : Nat} (hn : n < 8) (s : State) (init v : Nat) : exec (.swFreqWrite init n v) s
    = .next (s.directWrite init (0x618438 + 0x40 * n)
        (if s.quiet.on R.TR_DPLLn_CFG_OPEN n then [{ f := R.TR_DPLLn_SWF_HI_SWF, i := n, v := v % 2 ^ 32 }] else [])
        fun q => if q.on R.TR_DPLLn_CFG_OPEN n && !q.swBusy n && decide ((q.swJoin n v).natAbs ≤ (q.clampOf n).natAbs)
          then q.swWord n (q.swJoin n v) else q) := by
  change execSwFreqWrite init n v s = _
  simp only [execSwFreqWrite, Nat.mod_eq_of_lt hn]
  rfl

section

variable {s e : State} {dt n : Nat} (he : e = s.elapse dt)

include he

/-! ### DPLLs -/

theorem exec_tick (ph : List (Nat × Int)) : exec (.tick dt ph) s = .next (if e.tickDue then e.tick ph else e) := by
  rw [he]
  rfl

theorem exec_switchTimeElapsed (hn : n < 8) : exec (.switchTimeElapsed dt n) s
    = .next (if e.tbOn n && e.dpllState n == 1 && e.switchOver n && e.candidate n (e.get R.TR_DPLLn_STAT_TARGET n)
      then e.lockOn n else e) := by
  change execSwitchTimeElapsed dt n s = _
  simp only [execSwitchTimeElapsed, ← he, Nat.mod_eq_of_lt hn]

theorem exec_hoqChange (hn : n < 8) : exec (.hoqChange dt n) s = .next (if e.tbOn n then e.lockSync n else e) := by
  change execHoqChange dt n s = _
  simp only [execHoqChange, ← he, Nat.mod_eq_of_lt hn]

theorem exec_modelValid (hn : n < 8) : exec (.modelValid dt n) s = .next (if e.tbOn n then e.hoqStep n else e) := by
  change execModelValid dt n s = _
  simp only [execModelValid, ← he, Nat.mod_eq_of_lt hn]

theorem exec_swloopTimeout (hn : n < 8) : exec (.swloopTimeout dt n) s
    = .next (if e.swTimeoutDue n then ((e.set R.TR_DPLLn_CFG_OPEN 0 n).resumeLoop n).raise 59 n else e) := by
  change execSwloopTimeout dt n s = _
  simp only [execSwloopTimeout, ← he, Nat.mod_eq_of_lt hn]

/-! ### The OCXO -/

theorem exec_ocxoFail : exec (.ocxoFail dt) s = .next (if e.on R.TR_OCXO_STAT_ACTIVE
    then ((e.warmFall.set R.TR_OCXO_STAT_ACTIVE 0).raise 58).ocxoSync else e) := by
  rw [he]
  rfl

theorem exec_ocxoActivityReturn (pin : Bool) : exec (.ocxoActivityReturn dt pin) s
    = .next (if e.on R.TR_OCXO_STAT_ACTIVE then e else
      ({ e with tr := { e.tr with ocxoSince := e.keeper, warmPin := pin } }.set R.TR_OCXO_STAT_ACTIVE 1).warmJudge) := by
  rw [he]
  rfl

/-- The row is the end of the warm-up time where that is due, and otherwise a rise of the pin (the model's choice, log entry
219). -/
theorem exec_ocxoWarm : exec (.ocxoWarm dt) s = .next (if e.warmDue then e.warmJudge
    else { e with tr := { e.tr with warmPin := true } }.warmJudge) := by
  rw [he]
  rfl

theorem exec_ocxoWarmPinFall : exec (.ocxoWarmPinFall dt) s
    = .next { e with tr := { e.tr with warmPin := false } }.warmJudge := by
  rw [he]
  rfl

end

end Sys2Proof.Machine

/-- Settles O43, row by row: the row's condition chooses the branch, and the branch is what the statement names. -/
theorem taprootLoopsComplete : Obligations.TaprootLoopsComplete := by
  unfold Obligations.TaprootLoopsComplete
  refine ⟨?tick, ?locks, ?hoq, ?model, ?timeout, ?word, ?closed, ?fails, ?returns, ?warm, ?pinRises, ?pinFalls⟩
  case tick =>
    intro s e dt ph he hdue
    rw [exec_tick he, if_pos hdue]
  case locks =>
    intro s e dt n he hn hon hswitching hpassed hcand
    have hover := (e.switchOver_iff n).mpr hpassed
    rw [exec_switchTimeElapsed he hn, if_pos (by rw [hon, hswitching, hover, hcand]; rfl)]
  case hoq =>
    intro s e dt n he hn hon
    rw [exec_hoqChange he hn, if_pos hon]
  case model =>
    intro s e dt n he hn hon
    rw [exec_modelValid he hn, if_pos hon]
  case timeout =>
    intro s e dt n he hn hopen hpassed
    rw [exec_swloopTimeout he hn, if_pos ((e.swTimeoutDue_iff n).mpr ⟨hopen, hpassed⟩)]
  case word =>
    rintro s _ init n v rfl ha hn hopen hfree hclamp hw
    have hwithin : (s.quiet.swJoin n v).natAbs ≤ (s.quiet.clampOf n).natAbs := hclamp
    rw [exec_swFreqWrite hn, if_pos hopen, s.directWrite_of_writable _ ha hw]
    exact congrArg _ (State.direct_congr _ (if_pos (by rw [hopen, hfree, decide_eq_true hwithin]; rfl)))
  case closed =>
    rintro s _ init n v rfl ha hn hclosed
    rw [exec_swFreqWrite hn, if_neg (by rw [hclosed]; decide), s.directWrite_of_writable _ ha (State.writable_nil _)]
    exact congrArg _ (State.direct_congr _ (if_neg (by rw [hclosed]; exact Bool.false_ne_true)))
  case fails =>
    intro s e dt he hactive
    rw [exec_ocxoFail he, if_pos hactive]
  case returns =>
    intro s e dt pin he hinactive
    rw [exec_ocxoActivityReturn he, if_neg (by rw [hinactive]; decide)]
  case warm =>
    intro s e dt he hdue
    rw [exec_ocxoWarm he, if_pos hdue]
  case pinRises =>
    intro s e dt he hnot
    rw [exec_ocxoWarm he, if_neg (by rw [hnot]; decide)]
  case pinFalls =>
    intro s e dt he
    exact exec_ocxoWarmPinFall he
end

section
/-! SUPPORT. The rows of the calibration unit (R174, R593, R594, R597 to R599), of the trim store (R603, R608) and of Firebreak
(R509 to R511, R513), each through the branch that its condition chooses. -/

open Sys2Proof Sys2Proof.Machine

namespace Sys2Proof.Machine

/-- CA_REF_STAT shows the monitors of `cal_pps` and `cal_10m` (R593). -/
def State.showCalRefs (s : State) (pps ten : Bool) : State := (s.setB R.CA_REF_STAT_PPS_OK pps).setB R.CA_REF_STAT_TEN_OK ten

section

variable {s e : State} {dt : Nat} (he : e = s.elapse dt)

include he

/-! ### Calibration -/

/-- The record is judged once the TRAINED lock has been counted up to now (R174). -/
theorem exec_ocxoRecordWrite {n : Nat} {t : State} (hn : n < 8) (ht : t = e.trainUp n) (ofs age coef : Int) :
    exec (.ocxoRecordWrite dt n ofs age coef) s
      = .next (if t.tbOn n && decide (t.ocxoMark n + dayPs ≤ Tab.get 0 t.us.trained n) then
          ({ t with us := { t.us with trainedDone := Tab.put t.us.trainedDone n (t.ocxoMark n + dayPs) } } : State).ocxoWrite
            [wrap 32 ofs, wrap 32 age, wrap 32 coef]
        else t) := by
  change execOcxoRecordWrite dt n ofs age coef s = _
  simp only [execOcxoRecordWrite, ← he, Nat.mod_eq_of_lt hn, ← ht]

/-- A run judges its target's measurement when it is due, but an item-8 target whose substitution is gone ends unmeasured
(R597 to R599). -/
theorem exec_calTargetDone_of_target (hruns : e.calRuns = true) {k : Nat} {rest : List Nat} (hleft : e.cal.left = k :: rest)
    (vs : List Int) (q : Nat) : exec (.calTargetDone dt vs q) s
      = .next (if e.get R.CA_RUN_STAT_ITEM = 8 ∧ e.subState (k / 4) ≠ 1 then e.calEnd k 3 0 0 0
        else if e.calDue (e.get R.CA_RUN_STAT_ITEM) k then e.calJudge k vs q else e) := by
  change execCalTargetDone dt vs q s = _
  simp only [execCalTargetDone, ← he, hruns, hleft, if_true]

/-- With no run in progress the row is the measurement during a partner's bridging (R599). -/
theorem exec_calTargetDone_of_peer (hidle : e.calRuns = false) {g : Nat} (hg : e.peerGrove = some g) (vs : List Int)
    (q : Nat) : exec (.calTargetDone dt vs q) s = .next (e.peerMeasured g vs q) := by
  change execCalTargetDone dt vs q s = _
  simp only [execCalTargetDone, ← he, hidle, hg, Bool.false_eq_true, if_false]

theorem exec_calRunEnd : exec (.calRunEnd dt) s
    = .next (if e.calRuns ∧ e.cal.left = [] then e.calOver 1 0 else e) := by
  rw [he]
  rfl

theorem exec_calApply_of_waiting {a : CalApply} (ha : e.cal.apply = some a) : exec (.calApply dt) s
    = .next (if e.calRuns ∧ a.at_ ≤ e.lineTime then
        e.calGive a.target (a.values.map fun z => wrap 32 z)
          (shownValue (e.calChecked a.item a.target (a.values.map fun z => wrap 32 z))) (shownValue (e.calOld a.item a.target))
      else e) := by
  change execCalApply dt s = _
  simp only [execCalApply, ← he, ha]

theorem exec_calRefLoss (pps ten : Bool) : exec (.calRefLoss dt pps ten) s
    = .next (if e.calRuns && calNeedsPps (e.get R.CA_RUN_STAT_ITEM) && !pps
        then ((e.showCalRefs pps ten).raise 111 0).calAbort 1
      else if e.calRuns && calNeedsTen (e.get R.CA_RUN_STAT_ITEM) && !ten
        then ((e.showCalRefs pps ten).raise 111 1).calAbort 1
      else e.showCalRefs pps ten) := by
  rw [he]
  rfl

/-! ### Ends of operations and of passes -/

theorem exec_nvOperationEnd_of_running {o : NvOp} (ho : e.nvOp = some o) (ok : Bool) :
    exec (.nvOperationEnd dt ok) s = .next (e.nvFinish o ok) := by
  change execNvOperationEnd dt ok s = _
  simp only [execNvOperationEnd, ← he, ho]

theorem exec_sweepPassEnd_of_running {t : Nat} (ht : e.ci.passStart = some t) : exec (.sweepPassEnd dt) s
    = .next (if t + 10 ^ 9 ≤ e.clk
      then ({ e with ci := { e.ci with passStart := some (t + 10 ^ 9) } } : State).endPass else e) := by
  change execSweepPassEnd dt s = _
  simp only [execSweepPassEnd, ← he, ht]

end

/-! ### The trim store's slot registers -/

section

variable (s : State) {init slot : Nat}

/-- While no operation runs a slot may be read, also through the window (R608). -/
theorem State.nvCtrl_read (hfree : s.nvOp = none) : s.nvCtrl init 0 slot
    = ((List.range 16).foldl (fun (u : State) i => u.set R.NV_DATAi_DATA
        ((((s.set R.NV_CTRL_OP 0).set R.NV_CTRL_SLOT slot).nvSlotWords slot).1.getD i 0) i)
        (((s.set R.NV_CTRL_OP 0).set R.NV_CTRL_SLOT slot).nvSlotWords slot).2).set R.NV_CTRL_ERR 0 := by
  simp [State.nvCtrl, hfree]

/-- A write or an erase, which the window does not take, is an operation that ends later (R608). -/
theorem State.nvCtrl_start {op : Nat} (hop : op = 1 ∨ op = 2) (hinit : init ≠ 4) (hfree : s.nvOp = none) :
    s.nvCtrl init op slot = { ((s.set R.NV_CTRL_OP op).set R.NV_CTRL_SLOT slot).set R.NV_STAT_BUSY 1 with
      nvOp := some { op := op, slot := slot, at_ := s.clk } } := by
  rcases hop with rfl | rfl <;> simp [State.nvCtrl, hinit, hfree]

/-- While an operation runs no other starts (R608; that the write is ignored is the model's choice, log entry 128). -/
theorem State.nvCtrl_of_busy {op : Nat} {o : NvOp} (hinit : init ≠ 4) (hbusy : s.nvOp = some o) :
    s.nvCtrl init op slot = s := by
  simp [State.nvCtrl, hinit, hbusy]

theorem exec_nvSlotRead (hslot : slot < 1024) : exec (.nvSlotRead init slot) s
    = .next (s.directWrite init 0x690008 [] fun q => q.nvCtrl init 0 slot) := by
  change execNvSlotRead init slot s = _
  simp only [execNvSlotRead, Nat.mod_eq_of_lt hslot]

theorem exec_nvSlotWrite (hslot : slot < 1024) : exec (.nvSlotWrite init slot) s
    = .next (s.directWrite init 0x690008 [] fun q => q.nvCtrl init 1 slot) := by
  change execNvSlotWrite init slot s = _
  simp only [execNvSlotWrite, Nat.mod_eq_of_lt hslot]

theorem exec_nvSlotErase (hslot : slot < 1024) : exec (.nvSlotErase init slot) s
    = .next (s.directWrite init 0x690008 [] fun q => q.nvCtrl init 2 slot) := by
  change execNvSlotErase init slot s = _
  simp only [execNvSlotErase, Nat.mod_eq_of_lt hslot]

/-! ### Locks and the violation log -/

theorem exec_cfgLockWrite {which : Nat} (hwhich : which < 2) : exec (.cfgLockWrite init which) s
    = .next (s.directWrite init (0x400300 + 4 * which) [] fun q => q.lockWorld (which == 1)) := by
  change execCfgLockWrite init which s = _
  simp only [execCfgLockWrite, Nat.mod_eq_of_lt hwhich]

theorem exec_violLogClear : exec (.violLogClear init) s = .next (s.directWrite init 0x400000 [] fun q =>
    if q.initSecure init then q.clearViolations else q.violate { kind := 0 } init 0x400000 1) := rfl

end

end Sys2Proof.Machine

/-- Settles O58, row by row: the row's condition chooses the branch, and the branch is what the statement names. -/
theorem calibrationAndTrimStoreComplete : Obligations.CalibrationAndTrimStoreComplete := by
  unfold Obligations.CalibrationAndTrimStoreComplete
  refine ⟨?record, ?target, ?peer, ?runEnds, ?apply, ?ppsLost, ?tenLost, ?shown, ?read, ?write, ?erase, ?busy, ?operationEnds,
    ?passEnds, ?lockS, ?lockN, ?clear, ?clearRefused⟩
  case record =>
    intro s e dt n ofs age coef t he hn ht hon hday
    rw [exec_ocxoRecordWrite he hn ht, if_pos (by rw [hon, decide_eq_true hday]; rfl)]
  case target =>
    intro s e dt vs q k rest he hruns hleft hkept hdue
    rw [exec_calTargetDone_of_target he hruns hleft, if_neg hkept, if_pos hdue]
  case peer =>
    intro s e dt vs q g he hidle hg
    exact exec_calTargetDone_of_peer he hidle hg vs q
  case runEnds =>
    intro s e dt he hruns hleft
    rw [exec_calRunEnd he, if_pos ⟨hruns, hleft⟩]
  case apply =>
    intro s e dt a he ha hruns hdue
    rw [exec_calApply_of_waiting he ha, if_pos ⟨hruns, hdue⟩]
  case ppsLost =>
    rintro s e dt pps ten he hruns hneeds rfl
    rw [exec_calRefLoss he, if_pos (by rw [hruns, hneeds]; rfl)]
    rfl
  case tenLost =>
    rintro s e dt pps ten he hruns hpps hneeds rfl
    have hkept : ¬ (e.calRuns && calNeedsPps (e.get R.CA_RUN_STAT_ITEM) && !pps) = true := by
      rcases hpps with h | h <;> simp [h]
    rw [exec_calRefLoss he, if_neg hkept, if_pos (by rw [hruns, hneeds]; rfl)]
    rfl
  case shown =>
    intro s e dt pps ten he hidle
    rw [exec_calRefLoss he, if_neg (by simp [hidle]), if_neg (by simp [hidle])]
    rfl
  case read =>
    rintro s _ init slot rfl ha hslot hfree
    rw [exec_nvSlotRead s hslot, s.directWrite_of_writable _ ha (State.writable_nil _)]
    exact congrArg _ (State.direct_congr _ (State.nvCtrl_read _ hfree))
  case write =>
    rintro s _ init slot rfl ha hslot hinit hfree
    rw [exec_nvSlotWrite s hslot, s.directWrite_of_writable _ ha (State.writable_nil _)]
    exact congrArg _ (State.direct_congr _ (State.nvCtrl_start _ (.inl rfl) hinit hfree))
  case erase =>
    rintro s _ init slot rfl ha hslot hinit hfree
    rw [exec_nvSlotErase s hslot, s.directWrite_of_writable _ ha (State.writable_nil _)]
    exact congrArg _ (State.direct_congr _ (State.nvCtrl_start _ (.inr rfl) hinit hfree))
  case busy =>
    rintro s _ init slot o rfl ha hslot hinit hbusy
    rw [exec_nvSlotErase s hslot, s.directWrite_of_writable _ ha (State.writable_nil _)]
    exact congrArg _ (State.direct_congr _ (State.nvCtrl_of_busy _ hinit hbusy))
  case operationEnds =>
    intro s e dt ok o he ho
    exact exec_nvOperationEnd_of_running he ho ok
  case passEnds =>
    intro s e dt t he ht hpassed
    rw [exec_sweepPassEnd_of_running he ht, if_pos hpassed]
  case lockS =>
    rintro s _ init rfl ha
    rw [exec_cfgLockWrite s (by decide), s.directWrite_of_writable _ ha (State.writable_nil _)]
    rfl
  case lockN =>
    rintro s _ init rfl ha
    rw [exec_cfgLockWrite s (by decide), s.directWrite_of_writable _ ha (State.writable_nil _)]
    rfl
  case clear =>
    rintro s _ init rfl ha hsecure
    rw [exec_violLogClear, s.directWrite_of_writable _ ha (State.writable_nil _)]
    exact congrArg _ (State.direct_congr _ (if_pos hsecure))
  case clearRefused =>
    rintro s _ init rfl ha hnot
    rw [exec_violLogClear, s.directWrite_of_writable _ ha (State.writable_nil _)]
    exact congrArg _ (State.direct_congr _ (if_neg (by rw [hnot]; exact Bool.false_ne_true)))
end

section
/-! SUPPORT. What a mailbox command that only asks can change: a relation between states that holds along every step of the
exchange of its request, whatever the request and its answer (R469, R475, R508, R512). -/

open Sys2Proof Sys2Proof.Machine

namespace Sys2Proof.Machine

/-- The key of a register field that a query may change: a mailbox page, an event register, the violation log,
CI_STAT.PENDING and the status bits brought up to date as they are answered (R222, R257, R457, R512). -/
def queryReg (k : Nat) : Prop :=
  mailboxReg k ∨ eventReg k ∨ violReg k ∨ k = R.CI_STAT_PENDING.key 0 0 ∨ k = R.RD_HEALTH_RUNNING.key 0 0
    ∨ (∃ a, k = R.SY_APLLa_STAT_PH_BUSY.key a 0) ∨ ∃ x, k = R.GN_SOLx_STAT_VALID.key x 0

/-- Two states differ at most in what a query may change. -/
structure State.QueryOnly (s t : State) : Prop where
  rest : t = { s with regs := t.regs, ctl := t.ctl, ev := t.ev, progCnt := t.progCnt, pf := t.pf, ci := t.ci, out := t.out }
  regs : s.RegsKept t queryReg

/-! ### The relation -/

theorem State.QueryOnly.refl (s : State) : s.QueryOnly s := ⟨rfl, fun _ _ _ _ => rfl⟩

theorem State.QueryOnly.trans {s t u : State} (h : s.QueryOnly t) (g : t.QueryOnly u) : s.QueryOnly u :=
  ⟨by rw [g.rest, h.rest], fun f i j hk => (g.regs f i j hk).trans (h.regs f i j hk)⟩

theorem State.EvOnly.queryOnly {s t : State} (h : s.EvOnly t) : s.QueryOnly t :=
  ⟨by rw [h.rest], fun f i j hk => h.regs f i j fun he => hk (.inr (.inl he))⟩

theorem State.QueryOnly.set {s : State} {f : Fld} {i j : Nat} (h : queryReg (f.key i j)) (v : Nat) :
    s.QueryOnly (s.set f v i j) :=
  ⟨rfl, fun _ _ _ hk => State.get_set_ne s v fun e => hk (e ▸ h)⟩

theorem State.QueryOnly.writes {s : State} {ws : List FieldWrite} (h : ∀ w ∈ ws, queryReg (w.f.key w.i w.j)) :
    s.QueryOnly (s.writes ws) :=
  ⟨by rw [State.writes_eq], fun _ _ _ hk => State.get_writes_ne s fun w hw e => hk (e ▸ h w hw)⟩

/-- The control complex and what is sent outward stand outside the registers. -/
theorem State.QueryOnly.beside (s : State) (ctl : Ctl) (out : List Out) :
    s.QueryOnly { s with ctl := ctl, out := out } :=
  ⟨rfl, fun _ _ _ _ => rfl⟩

variable {s : State} {mb : Nat}

/-! ### The keys of a mailbox page -/

/-- A field of a mailbox page stands within the mailbox pages. -/
theorem queryReg_of_mailbox {f : Fld} {i j : Nat} (hi : i < 16) (hs1 : f.s1 = 0x1000)
    (hofs : f.addr + f.s2 * j < 0x1000) (hlo : f.lo < 32) : queryReg (f.key i j) := by
  left
  simp only [mailboxReg, inRegs, Fld.key, hs1]
  omega

/-! ### A request and its answer -/

theorem State.putReq_queryOnly (hmb : mb < 16) (k : Nat) (ws : List Nat) (hws : k + ws.length ≤ 64) (s : State) :
    s.QueryOnly (s.putReq mb k ws) := by
  induction ws generalizing s k with
  | nil => exact .refl s
  | cons w ws ih =>
    simp only [List.length_cons] at hws
    refine .trans (.set (queryReg_of_mailbox hmb rfl ?_ (by decide)) w) (ih (k + 1) (by omega) _)
    simp only [R.MB_n_REQ_W]
    omega

theorem State.putRsp_queryOnly (hmb : mb < 16) (k : Nat) (ws : List Nat) (hws : k + ws.length ≤ 64) (s : State) :
    s.QueryOnly (s.putRsp mb k ws) := by
  induction ws generalizing s k with
  | nil => exact .refl s
  | cons w ws ih =>
    simp only [List.length_cons] at hws
    refine .trans (.set (queryReg_of_mailbox hmb rfl ?_ (by decide)) w) (ih (k + 1) (by omega) _)
    simp only [R.MB_n_RSP_W]
    omega

theorem State.ring_queryOnly (hmb : mb < 16) (s : State) (init : Nat) : s.QueryOnly (s.ring init mb) := by
  have hstate := queryReg_of_mailbox (f := R.MB_n_STATE_STATE) (j := 0) hmb rfl (by decide) (by decide)
  have hseq := queryReg_of_mailbox (f := R.MB_n_SEQ_REQ_SEQ) (j := 0) hmb rfl (by decide) (by decide)
  have hpend := queryReg_of_mailbox (f := R.MB_n_STATE_PEND_NR) (j := 0) hmb rfl (by decide) (by decide)
  exact (((State.QueryOnly.set hstate _).trans (.set hseq _)).trans (.set hpend _)).trans (.beside _ _ _)

theorem State.rung_queryOnly (s : State) (op : Nat) {r : Req} (hmb : r.mb < 16) : s.QueryOnly (s.rung op r) := by
  have hlen : (r.args.take 63).length ≤ 63 := by rw [List.length_take]; omega
  have hquiet : s.QueryOnly s.quiet := .beside s s.ctl []
  exact (hquiet.trans (State.putReq_queryOnly hmb 0 _ (by simp only [List.length_cons]; omega) _)).trans
    (State.ring_queryOnly hmb _ _)

theorem State.setTaken_queryOnly (s : State) (core : Nat) (t : Option Taken) : s.QueryOnly (s.setTaken core t) := by
  unfold State.setTaken
  split
  · exact .beside s _ s.out
  · split <;> exact .beside s _ s.out

theorem State.holdMb_queryOnly (hmb : mb < 16) (s : State) : s.QueryOnly (s.holdMb mb) := by
  have hpend := queryReg_of_mailbox (f := R.MB_n_STATE_PEND_NR) (j := 0) hmb rfl (by decide) (by decide)
  have hheld := (s.setTaken_queryOnly (coreOf mb) (some { mb := mb })).trans (.set hpend 0)
  unfold State.holdMb
  dsimp only
  split
  · exact hheld.trans (.beside _ _ _)
  · split <;> exact hheld.trans (.beside _ _ _)

/-- An answer changes its mailbox alone, and raises MB_RSP (R468, R469). -/
theorem State.respond_queryOnly (s : State) (mb : Nat) (st : Status) (words : List Nat) :
    s.QueryOnly (s.respond mb st words) := by
  by_cases hmb : mb < 16
  · have hlen : (words.take 63).length ≤ 63 := by rw [List.length_take]; omega
    have hregs : s.QueryOnly (s.rspRegs mb st words) := by
      refine (State.putRsp_queryOnly hmb 0 _ (by simp only [List.length_cons]; omega) s).trans (.writes ?_)
      simp only [List.forall_mem_cons, List.not_mem_nil, false_imp_iff, implies_true, and_true]
      refine ⟨?_, ?_, ?_, ?_⟩ <;> exact queryReg_of_mailbox hmb rfl (by decide) (by decide)
    rw [s.respond_eq hmb]
    exact (hregs.trans (.beside _ _ _)).trans (State.raise_evOnly _ _ _ (by omega)).queryOnly
  · rw [State.respond, if_pos (by omega)]
    exact .beside s _ s.out

/-! ### Violations and automatic commits -/

/-- A field of the entry that a violation takes stands within the violation log (R519). -/
theorem queryReg_of_violation {f : Fld} {n : Nat} (hn : n < 16) (hs1 : f.s1 = 0x20) (hs2 : f.s2 = 0)
    (hlow : 0x480100 ≤ f.addr) (hhigh : f.addr < 0x480120) (hlo : f.lo < 32) : queryReg (f.key n 0) := by
  refine .inr (.inr (.inl (.inr ?_)))
  simp only [inRegs, Fld.key, hs1, hs2]
  omega

/-- A violation changes its log, and raises FB_VIOLATION (R509). -/
theorem State.violation_queryOnly (s : State) (kind : Nat) (sp : Space) (target init : Nat) (ns : Bool) (acc addr : Nat) :
    s.QueryOnly (s.violation kind sp target init ns acc addr) := by
  have hcount : queryReg (R.FB_VIOL_STAT_COUNT.key 0 0) :=
    .inr (.inr (.inl (.inl ⟨by decide, by decide⟩)))
  have hlost : queryReg (R.FB_VIOL_STAT_LOST.key 0 0) :=
    .inr (.inr (.inl (.inl ⟨by decide, by decide⟩)))
  unfold State.violation
  dsimp only
  split
  case isTrue hn =>
    refine (State.QueryOnly.writes ?_).trans (State.raise_evOnly _ _ _ (by decide)).queryOnly
    simp only [List.forall_mem_cons, List.not_mem_nil, false_imp_iff, implies_true, and_true]
    refine ⟨?_, ?_, ?_, ?_, ?_, ?_, ?_, ?_, ?_, ?_, ?_, ?_, ?_, hcount⟩ <;>
      exact queryReg_of_violation hn rfl rfl (by decide) (by decide) (by decide)
  case isFalse => exact (State.QueryOnly.set hlost _).trans (State.raise_evOnly _ _ _ (by decide)).queryOnly

theorem State.refuseAccess_queryOnly (s : State) (kind : Nat) (sp : Space) (target init : Nat) (ns : Bool) (acc addr : Nat) :
    s.QueryOnly (s.refuseAccess kind sp target init ns acc addr) := by
  unfold State.refuseAccess
  split
  · exact .refl s
  · exact (s.violation_queryOnly ..).trans (.beside _ _ _)

/-- A commit that was due already is made pending by the next command (R512). -/
theorem State.settleCfg_queryOnly (s : State) : s.QueryOnly s.settleCfg := by
  have hpending : queryReg (R.CI_STAT_PENDING.key 0 0) := .inr (.inr (.inr (.inl rfl)))
  have hci (t : State) (ci) : t.QueryOnly { t with ci := ci } := ⟨rfl, fun _ _ _ _ => rfl⟩
  unfold State.settleCfg
  split
  · dsimp only
    split
    · exact ((hci s _).trans (.set hpending 1)).trans (hci _ _)
    · exact hci s _
  · exact .refl s

/-! ### The exchange of a query -/

/-- A command only asks: whatever its body is given, the body changes what a query may change alone. -/
def Cmd.Asks (cmd : Cmd) : Prop := ∀ (c : Ctx) (s : State), s.QueryOnly (cmd.body c s).st

variable {cmd : Cmd} (h : cmd.Asks)

include h

theorem State.runCmd_queryOnly (s : State) (c : Ctx) : s.QueryOnly (s.runCmd cmd c).st := by
  unfold State.runCmd
  split
  · exact s.violation_queryOnly ..
  split
  · exact .refl s
  split
  · exact .refl s
  split
  · exact .refl s
  dsimp only
  split
  · exact (h c s).trans (State.settleCfg_queryOnly _)
  · exact (h c s).trans (State.violation_queryOnly ..)
  · exact (h c s).trans (State.violation_queryOnly ..)
  · exact h c s

theorem State.carryOut_queryOnly (s : State) (mb : Nat) : s.QueryOnly (s.carryOut mb (some cmd)) := by
  unfold State.carryOut
  dsimp only
  split
  · exact s.runCmd_queryOnly h _
  · exact (s.runCmd_queryOnly h _).trans (State.respond_queryOnly ..)

theorem State.takeMb_queryOnly (hmb : mb < 16) (s : State) : s.QueryOnly (s.takeMb mb (some cmd)) := by
  have hheld := s.holdMb_queryOnly hmb
  unfold State.takeMb
  dsimp only
  split
  · split
    · exact (hheld.trans (State.setTaken_queryOnly ..)).trans (State.carryOut_queryOnly h ..)
    · split
      · exact hheld.trans (.beside _ _ _)
      · exact hheld
  · exact hheld.trans (State.carryOut_queryOnly h ..)

/-- The exchange of a query's request changes what a query may change alone, on every path. -/
theorem State.exchange_queryOnly (s : State) (op : Nat) (r : Req) : s.QueryOnly (s.exchange (some cmd) op r) := by
  have hquiet : s.QueryOnly s.quiet := .beside s s.ctl []
  unfold State.exchange
  split
  · exact hquiet.trans (State.refuseAccess_queryOnly ..)
  case isFalse hmb =>
  have hmb : r.mb < 16 := by omega
  split
  · exact hquiet.trans (State.refuseAccess_queryOnly ..)
  split
  · have hwr := queryReg_of_mailbox (f := R.MB_n_STATE_REQ_WR_LOST) (j := 0) hmb rfl (by decide) (by decide)
    have hdoor := queryReg_of_mailbox (f := R.MB_n_STATE_DOOR_LOST) (j := 0) hmb rfl (by decide) (by decide)
    exact (hquiet.trans (.set hwr 1)).trans (.set hdoor 1)
  have hrung := s.rung_queryOnly op hmb
  dsimp only
  split
  · exact hrung.trans (State.takeMb_queryOnly h hmb _)
  · exact hrung

omit h

/-! ### Bodies that only ask -/

theorem Cmd.Asks.of_st_eq (h : ∀ c s, (cmd.body c s).st = s) : cmd.Asks := fun c s => by rw [h]; exact .refl s

theorem need_st {b : Bool} {st : Status} {k : Res} (h : k.st = s) : (need b st s k).st = s := by
  unfold need
  split
  · exact h
  · rfl

theorem timeSessStatus_asks : cmdTimeSessStatus.Asks := .of_st_eq fun c s => by
  simp only [cmdTimeSessStatus]
  split <;> rfl

theorem fwdRead_asks : cmdFwdRead.Asks := .of_st_eq fun c s => by
  simp only [cmdFwdRead]
  split
  · refine need_st ?_
    split <;> rfl
  · exact need_st rfl

theorem flowQuery_asks : cmdFlowQuery.Asks := .of_st_eq fun c s => by
  simp only [cmdFlowQuery]
  split
  · rfl
  · split <;> rfl

theorem calRecordRead_asks : cmdCalRecordRead.Asks := .of_st_eq fun c s => by
  simp only [cmdCalRecordRead]
  refine need_st ?_
  split <;> rfl

/-- PH_BUSY is brought up to date as SYN.STATUS answers it (R222). -/
theorem synStatus_asks : cmdSynStatus.Asks := fun c _ =>
  .set (.inr (.inr (.inr (.inr (.inr (.inl ⟨c.bits 1 1 0, rfl⟩)))))) _

/-- VALID is brought up to date as GNSS.STATUS answers it (R257). -/
theorem gnssStatus_asks : cmdGnssStatus.Asks := fun c _ =>
  .set (.inr (.inr (.inr (.inr (.inr (.inr ⟨c.bits 1 0 0, rfl⟩)))))) _

/-- RUNNING is brought up to date as RED.STATUS answers it (R457). -/
theorem redStatus_asks : cmdRedStatus.Asks := fun _ _ => .set (.inr (.inr (.inr (.inr (.inl rfl))))) _

/-! ### Rows of queries -/

/-- A row of a mailbox request leaves everything but what a query may change. -/
def AsksOnly (mk : Req → Instr) : Prop := ∀ (r : Req) (s t : State), exec (mk r) s = .next t → s.QueryOnly t

theorem Cmd.Asks.asksOnly {mk : Req → Instr} (h : cmd.Asks)
    (he : ∀ r s, exec (mk r) s = .next (s.exchange (some cmd) cmd.op r)) : AsksOnly mk := by
  intro r s t ht
  rw [he] at ht
  cases ht
  exact s.exchange_queryOnly h _ r

end Sys2Proof.Machine

/-- Settles O20: each row is the exchange of a request whose body only asks. -/
theorem queriesChangeNothing : Obligations.QueriesChangeNothing := by
  unfold Obligations.QueriesChangeNothing
  suffices hall : ∀ mk ∈ _, AsksOnly mk from fun mk hmk r s t ht =>
    ⟨(hall mk hmk r s t ht).regs, (hall mk hmk r s t ht).rest⟩
  simp only [List.forall_mem_cons, List.not_mem_nil, false_imp_iff, implies_true, and_true]
  refine ⟨?sysInfo, ?sysCoreStatus, ?sysEcho, ?nvmStatus, ?nvmRead, ?nvmVerify, ?timeStatus, ?timeSessStatus, ?refStatus,
    ?refSlotStatus, ?refSwRead, ?synStatus, ?gnssStatus, ?evtStatus, ?fwdStatus, ?fwdRead, ?schedStatus, ?schedRead,
    ?flowStatus, ?flowQuery, ?redStatus, ?redCtxStatus, ?secStatus, ?telStatus, ?calResult, ?calRecordRead⟩
  case timeSessStatus => exact timeSessStatus_asks.asksOnly fun _ _ => rfl
  case synStatus => exact synStatus_asks.asksOnly fun _ _ => rfl
  case gnssStatus => exact gnssStatus_asks.asksOnly fun _ _ => rfl
  case fwdRead => exact fwdRead_asks.asksOnly fun _ _ => rfl
  case flowQuery => exact flowQuery_asks.asksOnly fun _ _ => rfl
  case redStatus => exact redStatus_asks.asksOnly fun _ _ => rfl
  case calRecordRead => exact calRecordRead_asks.asksOnly fun _ _ => rfl
  case nvmRead | schedStatus | schedRead =>
    exact Cmd.Asks.asksOnly (.of_st_eq fun _ _ => need_st rfl) fun _ _ => rfl
  all_goals exact Cmd.Asks.asksOnly (.of_st_eq fun _ _ => rfl) fun _ _ => rfl
end

section
/-! SUPPORT. The SYN commands, each through its body under the conditions in which it is carried out (R203, R213, R215, R216,
R227 to R230). -/

open Sys2Proof Sys2Proof.Machine

namespace Sys2Proof.Machine

variable {c : Ctx} {q : State}

/-! ### SYN.COMMIT, one operation at a time -/

/-- A commit at the next boundary of GRAN (R213, R229). -/
theorem synCommit_body_next (hop : c.bits 1 5 4 = 0) (hok : q.groupOk (c.bits 1 1 0) = true)
    (hidle : q.synPending (c.bits 1 1 0) = false)
    (hfree : q.unlocked [{ f := R.SY_APLLa_COMMIT_MODE, i := c.bits 1 1 0, v := 0 }]) :
    cmdSynCommit.body c q = done ((q.cfgWrites [{ f := R.SY_APLLa_COMMIT_MODE, i := c.bits 1 1 0, v := 0 }]).synPend
      (c.bits 1 1 0) (q.nextGran (c.bits 1 1 0))) := by
  simp -zeta only [cmdSynCommit, hop]
  exact (need_pos hok).trans ((need_pos (by rw [hidle]; rfl)).trans (writeCfg_unlocked hfree))

/-- A commit at the linear instant that the target is judged to be (R213, R229). -/
theorem synCommit_body_target {l : Nat} (hop : c.bits 1 5 4 = 1) (hlen : 4 ≤ c.args.length)
    (hl : q.judgeTarget (q.apllFollow (c.bits 1 1 0)) (c.arg 2) (c.arg 3) (c.arg 4) = .inl l)
    (hok : q.groupOk (c.bits 1 1 0) = true) (hidle : q.synPending (c.bits 1 1 0) = false)
    (hfree : q.unlocked [{ f := R.SY_APLLa_COMMIT_MODE, i := c.bits 1 1 0, v := 1 },
      { f := R.SY_APLLa_CTGT_LO_TGT, i := c.bits 1 1 0, v := l % 2 ^ 32 },
      { f := R.SY_APLLa_CTGT_HI_TGT, i := c.bits 1 1 0, v := l / 2 ^ 32 }]) :
    cmdSynCommit.body c q = done ((q.cfgWrites [{ f := R.SY_APLLa_COMMIT_MODE, i := c.bits 1 1 0, v := 1 },
      { f := R.SY_APLLa_CTGT_LO_TGT, i := c.bits 1 1 0, v := l % 2 ^ 32 },
      { f := R.SY_APLLa_CTGT_HI_TGT, i := c.bits 1 1 0, v := l / 2 ^ 32 }]).synPend (c.bits 1 1 0) l) := by
  simp -zeta only [cmdSynCommit, hop]
  refine (need_pos (decide_eq_true hlen)).trans ?_
  rw [hl]
  exact (need_pos hok).trans ((need_pos (by rw [hidle]; rfl)).trans (writeCfg_unlocked hfree))

/-- A cancel, which nothing need be pending for (R215; that it is OK with nothing pending is log entry 44). -/
theorem synCommit_body_cancel (hop : c.bits 1 5 4 = 2) (hearly : q.synLate (c.bits 1 1 0) = false)
    (hfree : q.unlocked [{ f := R.SY_APLLa_COMMIT_MODE, i := c.bits 1 1 0, v := 2 }]) :
    cmdSynCommit.body c q = done ((q.cfgWrites [{ f := R.SY_APLLa_COMMIT_MODE, i := c.bits 1 1 0, v := 2 }]).synCancel
      (c.bits 1 1 0)) := by
  simp -zeta only [cmdSynCommit, hop]
  exact (need_pos (by rw [hearly]; rfl)).trans (writeCfg_unlocked hfree)

end Sys2Proof.Machine

/-- Settles O25: in each clause the conditions that the command's body asks for hold, and no lock refuses its writes. -/
theorem synCommandsComplete : Obligations.SynCommandsComplete := by
  unfold Obligations.SynCommandsComplete
  refine ⟨?status, ?apllCfg, ?outCfg, ?commitNext, ?commitTarget, ?cancel, ?phase⟩
  case status =>
    exact .of_body (fun _ _ => rfl) (by decide) (fun _ _ _ => rfl) fun _ _ _ _ => by simp
  case apllCfg =>
    refine .of_silent_body (fun _ _ => rfl) (by decide) ?_
    rintro c q ⟨hcfg, hm, hlock, hfixed, hidle, hfree⟩
    refine (need_pos ?_).trans ((need_pos (by rw [hidle]; rfl)).trans (writeCfg_unlocked hfree))
    rcases Nat.lt_or_ge (c.bits 1 1 0) 2 with hlow | hhigh
    · obtain ⟨hmint, hmfrac, hpre, hsrc⟩ := hfixed hlow
      simp [hcfg, hm, hlock, hmint, hmfrac, hpre, hsrc]
    · simp [hcfg, hm, hlock, hhigh]
  case outCfg =>
    refine .of_silent_body (fun _ _ => rfl) (by decide) ?_
    rintro c q ⟨hcfg, hdiv, hdly, hidle, hidleNew, hfree⟩
    exact (need_pos (by rw [hcfg, hdiv, hdly]; rfl)).trans ((need_pos (by rw [hidle, hidleNew]; rfl)).trans
      (writeCfg_unlocked hfree))
  case commitNext =>
    exact .of_silent_body (fun _ _ => rfl) (by decide) fun _ _ ⟨hop, hok, hidle, hfree⟩ =>
      synCommit_body_next hop hok hidle hfree
  case commitTarget =>
    refine .of_silent_body (fun _ _ => rfl) (by decide) ?_
    rintro c q ⟨hop, hlen, hjudged, hok, hidle, hfree⟩
    obtain ⟨l, hl⟩ := Sum.isLeft_iff.mp hjudged
    rw [hl] at hfree ⊢
    exact synCommit_body_target hop hlen hl hok hidle hfree
  case cancel =>
    exact .of_silent_body (fun _ _ => rfl) (by decide) fun _ _ ⟨hop, hearly, hfree⟩ =>
      synCommit_body_cancel hop hearly hfree
  case phase =>
    refine .of_silent_body (fun _ _ => rfl) (by decide) ?_
    rintro c q ⟨hofs, hfree⟩
    refine (need_pos hofs).trans ?_
    rw [State.unlocked_find? hfree]
end

section
/-! SUPPORT. The rows of frequency synthesis, each through the branch that its condition chooses (R200, R201, R205, R206,
R211, R213 to R216). -/

open Sys2Proof Sys2Proof.Machine

namespace Sys2Proof.Machine

section

variable {s e : State} {dt a : Nat} (he : e = s.elapse dt)

include he

/-! ### The reference -/

theorem exec_xoLoss : exec (.xoLoss dt) s = .next (if e.tr.xoLost then e else e.loseXo) := by
  rw [he]
  rfl

theorem exec_xoReturn : exec (.xoReturn dt) s = .next (if e.xoBack then e.regainXo else e) := by
  rw [he]
  rfl

/-! ### Locks -/

/-- A search ends with its band; one that confirms a band kept from before ends 100 µs after it began (R205). -/
theorem exec_bandSearchEnd_of_ended {b : Nat} (ha : a < 4) (hb : b < 32) (hsearch : e.on R.SY_APLLa_STAT_SEARCH a = true)
    (hend : Tab.find? e.us.bands a ≠ some b ∨ (e.apllOf a).searchFrom + 100000000 ≤ e.clk) :
    exec (.bandSearchEnd dt a b) s = .next
      ({ (e.set R.SY_APLLa_STAT_BAND b a).set R.SY_APLLa_STAT_SEARCH 0 a with
          us := { ((e.set R.SY_APLLa_STAT_BAND b a).set R.SY_APLLa_STAT_SEARCH 0 a).us with
            bands := Tab.put ((e.set R.SY_APLLa_STAT_BAND b a).set R.SY_APLLa_STAT_SEARCH 0 a).us.bands a b } }.apllUpd a
        fun p => { p with lockFrom := e.clk }) := by
  change execBandSearchEnd dt a b s = _
  simp only [execBandSearchEnd, ← he, Nat.mod_eq_of_lt ha, Nat.mod_eq_of_lt hb]
  rw [if_pos (by simpa [hsearch] using hend)]

theorem exec_apllLock (ha : a < 4) : exec (.apllLock dt a) s
    = .next (if e.on R.SY_APLLa_CFG_EN a && e.on R.SY_APLLa_STAT_REF_OK a && !e.on R.SY_APLLa_STAT_SEARCH a
        && !e.on R.SY_APLLa_STAT_LOCKED a && decide ((e.apllOf a).searchFrom ≤ (e.apllOf a).lockFrom)
        && decide ((e.apllOf a).lockFrom + (e.apllOf a).lockN * 10000 ≤ e.clk)
      then ((e.set R.SY_APLLa_STAT_LOCKED 1 a).apllUpd a fun p =>
        { p with restartAt := e.granIndex a + 1 }).armedSync.raise 61 a
      else e) := by
  change execApllLock dt a s = _
  simp only [execApllLock, ← he, Nat.mod_eq_of_lt ha]

theorem exec_apllLol (ha : a < 4) : exec (.apllLol dt a) s
    = .next (if e.on R.SY_APLLa_STAT_LOCKED a then (e.raise 62 a).relock a else e) := by
  change execApllLol dt a s = _
  simp only [execApllLol, ← he, Nat.mod_eq_of_lt ha]

/-- The gated outputs of a locked APLL restart at the first boundary of GRAN after its lock (R206, R211). -/
theorem exec_outputRestart_of_due (ha : a < 4) (hlocked : e.on R.SY_APLLa_STAT_LOCKED a = true)
    (hgated : e.on R.SY_APLLa_STAT_GATED a = true) (hdue : (e.apllOf a).restartAt ≤ e.granIndex a) :
    exec (.outputRestart dt a) s = .next (((((((e.outsOf a).foldl (fun s m =>
        { s.set R.SY_OUTm_STAT_GATED 0 m with
          clkout := Tab.put s.clkout m { s.clkOutOf m with first := some ((e.apllOf a).restartAt * e.granUnit a) } })
        (e.set R.SY_APLLa_STAT_GATED 0 a)).apllUpd a fun p =>
        { p with phase := e.getZ R.SY_APLLa_PHOFS_PHOFS a, phaseAt := e.clk }).set R.SY_APLLa_STAT_PH_BUSY 0
        a).outSync).firstRise (e.outsOf a) ((e.apllOf a).restartAt * e.granUnit a))) := by
  change execOutputRestart dt a s = _
  simp only [execOutputRestart, ← he, Nat.mod_eq_of_lt ha]
  rw [if_pos (by rw [hlocked, hgated, decide_eq_true hdue]; rfl)]

/-! ### Activation and movements of the phase -/

theorem exec_apllCommitActivation (ha : a < 4) : exec (.apllCommitActivation dt a) s
    = .next (if e.on R.SY_APLLa_STAT_PENDING a && decide (e.synLeft a ≤ 0) then e.synActivate a else e) := by
  change execApllCommitActivation dt a s = _
  simp only [execApllCommitActivation, ← he, Nat.mod_eq_of_lt ha, State.synPending]

theorem exec_phofsMoveDone (ha : a < 4) : exec (.phofsMoveDone dt a) s
    = .next (if e.on R.SY_APLLa_STAT_PH_BUSY a && decide (e.phaseNow a = e.getZ R.SY_APLLa_PHOFS_PHOFS a)
      then (e.apllUpd a fun p => { p with phase := e.getZ R.SY_APLLa_PHOFS_PHOFS a, phaseAt := e.clk }).set
        R.SY_APLLa_STAT_PH_BUSY 0 a
      else e) := by
  change execPhofsMoveDone dt a s = _
  simp only [execPhofsMoveDone, ← he, Nat.mod_eq_of_lt ha]

end

/-! ### The direct writes that start, cancel or refuse a commit -/

section

variable {s : State} {init a : Nat} (ha : a < 4)

include ha

theorem exec_apllCommitNext : exec (.apllCommitNext init a) s = .next (s.synGoWrite init a 0) := by
  change execApllCommitNext init a s = _
  rw [execApllCommitNext, Nat.mod_eq_of_lt ha]

theorem exec_apllCommitTarget : exec (.apllCommitTarget init a) s = .next (s.synGoWrite init a 1) := by
  change execApllCommitTarget init a s = _
  rw [execApllCommitTarget, Nat.mod_eq_of_lt ha]

theorem exec_apllCommitCancel : exec (.apllCommitCancel init a) s = .next (s.synGoWrite init a 2) := by
  change execApllCommitCancel init a s = _
  rw [execApllCommitCancel, Nat.mod_eq_of_lt ha]

end

variable {s : State} {init a mode : Nat}

/-- A write with GO that is allowed does its operation. -/
theorem State.synGoWrite_of_writable (ha : Allowed s.quiet init (0x620010 + 0x40 * a) true)
    (hw : s.quiet.writable [{ f := R.SY_APLLa_COMMIT_MODE, i := a, v := mode }]) :
    s.synGoWrite init a mode = s.quiet.direct fun q => q.synGo a mode := by
  rw [State.synGoWrite, s.directWrite_of_writable _ ha hw]

theorem State.synGo_next (hok : s.groupOk a = true) (hidle : s.synPending a = false) : s.synGo a 0
    = (s.writes [{ f := R.SY_APLLa_COMMIT_MODE, i := a, v := 0 }]).synPend a (s.nextGran a) := by
  simp [State.synGo, hok, hidle]

/-- A commit that breaks the rules of R208 or R209 is ignored as a whole. -/
theorem State.synGo_next_of_broken (hbad : s.groupOk a = false) : s.synGo a 0 = s := by
  simp [State.synGo, hbad]

theorem State.synGo_target (hok : s.groupOk a = true) (hidle : s.synPending a = false)
    (hahead : 0 < ((s.writes [{ f := R.SY_APLLa_COMMIT_MODE, i := a, v := 1 }]).synPend a
      (s.get64 R.SY_APLLa_CTGT_LO_TGT R.SY_APLLa_CTGT_HI_TGT a)).synLeft a) :
    s.synGo a 1 = (s.writes [{ f := R.SY_APLLa_COMMIT_MODE, i := a, v := 1 }]).synPend a
      (s.get64 R.SY_APLLa_CTGT_LO_TGT R.SY_APLLa_CTGT_HI_TGT a) := by
  simp only [State.synGo, hok, hidle, decide_eq_false (Int.not_le.mpr hahead)]
  rfl

theorem State.synGo_cancel (hearly : s.synLate a = false) :
    s.synGo a 2 = (s.writes [{ f := R.SY_APLLa_COMMIT_MODE, i := a, v := 2 }]).synCancel a := by
  simp [State.synGo, hearly]

/-- Within 1 ms of its activation a commit can no longer be cancelled (R215). -/
theorem State.synGo_cancel_of_late (hlate : s.synLate a = true) : s.synGo a 2 = s := by
  simp [State.synGo, hlate]

end Sys2Proof.Machine

/-- Settles O44, row by row: the row's condition chooses the branch, and the branch is what the statement names. -/
theorem synthesisEventsComplete : Obligations.SynthesisEventsComplete := by
  unfold Obligations.SynthesisEventsComplete
  refine ⟨?xoLost, ?xoBack, ?search, ?locks, ?unlocks, ?restart, ?next, ?broken, ?target, ?cancel, ?late, ?activates,
    ?moved⟩
  case xoLost =>
    intro s e dt he hpresent
    rw [exec_xoLoss he, if_neg (by rw [hpresent]; exact Bool.false_ne_true)]
  case xoBack =>
    intro s e dt he hback
    rw [exec_xoReturn he, if_pos hback]
  case search =>
    intro s e dt a b he ha hb hsearch hend
    exact exec_bandSearchEnd_of_ended he ha hb hsearch hend
  case locks =>
    intro s e dt a he ha hon href hfound hunlocked hsince hpassed
    rw [exec_apllLock he ha, if_pos]
    rw [hon, href, hfound, hunlocked, decide_eq_true hsince, decide_eq_true hpassed]
    rfl
  case unlocks =>
    intro s e dt a he ha hlocked
    rw [exec_apllLol he ha, if_pos hlocked]
  case restart =>
    intro s e dt a he ha hlocked hgated hdue
    exact exec_outputRestart_of_due he ha hlocked hgated hdue
  case next =>
    rintro s _ init a rfl hallowed ha hw hidle hok
    rw [exec_apllCommitNext ha, State.synGoWrite_of_writable hallowed hw]
    exact congrArg _ (State.direct_congr _ (State.synGo_next hok hidle))
  case broken =>
    rintro s _ init a rfl hallowed ha hw hbad
    rw [exec_apllCommitNext ha, State.synGoWrite_of_writable hallowed hw]
    exact congrArg _ (State.direct_congr _ (State.synGo_next_of_broken hbad))
  case target =>
    rintro s _ init a rfl hallowed ha hw hidle hok hahead
    rw [exec_apllCommitTarget ha, State.synGoWrite_of_writable hallowed hw]
    exact congrArg _ (State.direct_congr _ (State.synGo_target hok hidle hahead))
  case cancel =>
    rintro s _ init a rfl hallowed ha hw hearly
    rw [exec_apllCommitCancel ha, State.synGoWrite_of_writable hallowed hw]
    exact congrArg _ (State.direct_congr _ (State.synGo_cancel hearly))
  case late =>
    rintro s _ init a rfl hallowed ha hw hlate
    rw [exec_apllCommitCancel ha, State.synGoWrite_of_writable hallowed hw]
    exact congrArg _ (State.direct_congr _ (State.synGo_cancel_of_late hlate))
  case activates =>
    intro s e dt a he ha hpending hdue
    rw [exec_apllCommitActivation he ha, if_pos (by rw [hpending, decide_eq_true hdue]; rfl)]
  case moved =>
    intro s e dt a he ha hbusy harrived
    rw [exec_phofsMoveDone he ha, if_pos (by rw [hbusy, decide_eq_true harrived]; rfl)]
end

section
/-! SUPPORT. The GNSS and EVT commands, each through its body under the conditions in which it is carried out (R234, R246,
R249, R255, R259, R266, R268, R272, R276, R277, R279). -/

open Sys2Proof Sys2Proof.Machine

namespace Sys2Proof.Machine

/-- A FIFO whose semaphore no other agent holds may be read (R492). -/
theorem underSem_free {c : Ctx} {s : State} {e n : Nat} {k : Res} (h : s.semTaken n (c.agent s e) = false) :
    underSem c s e n k = k := if_pos (by rw [h]; rfl)

/-- Each result popped from the event timer's FIFO is four words (R272). -/
theorem State.etPopN_length_le (s : State) (k : Nat) : (s.etPopN k).1.length ≤ 4 * k := by
  induction k generalizing s with
  | zero => exact Nat.le_refl 0
  | succ k ih =>
    simp only [State.etPopN]
    split
    · exact Nat.zero_le _
    next w t _ =>
      have := ih t
      simp only [List.length_append, List.length_cons, List.length_nil]
      omega

/-- An input is not busy for writes that, while it is enabled, change nothing but EN (R279). -/
theorem etInput_free_of_enOnly {q : State} {i : Nat} {ws : List FieldWrite} (h : q.on R.ET_INi_CFG_EN i = true →
    ∀ w ∈ ws, (w.f.addr = R.ET_INi_CFG_EN.addr ∧ w.f.lo = 0) ∨ q.get w.f w.i w.j = w.v % 2 ^ w.f.width) :
    (!(q.on R.ET_INi_CFG_EN i && ws.any fun w => !(w.f.addr == R.ET_INi_CFG_EN.addr && w.f.lo == 0)
      && q.get w.f w.i w.j != w.v % 2 ^ w.f.width)) = true := by
  cases hon : q.on R.ET_INi_CFG_EN i with
  | false => rfl
  | true =>
    simp only [Bool.true_and, Bool.not_eq_true', List.any_eq_false]
    intro w hw
    rcases h hon w hw with ⟨haddr, hlo⟩ | hsame
    · simp [haddr, hlo]
    · simp [hsame]

end Sys2Proof.Machine

/-- Settles O26: in each clause the conditions that the command's body asks for hold, and no lock refuses its writes. -/
theorem gnssAndEvtCommandsComplete : Obligations.GnssAndEvtCommandsComplete := by
  unfold Obligations.GnssAndEvtCommandsComplete
  refine ⟨?status, ?input, ?timing, ?trust, ?read, ?sleep, ?spi, ?evtStatus, ?evtCfg, ?evtInput, ?evtRead⟩
  case status =>
    exact .of_body (fun _ _ => rfl) (by decide) (fun _ _ _ => rfl) fun _ _ _ _ => by simp
  case input =>
    refine .of_silent_body (fun _ _ => rfl) (by decide) ?_
    rintro c q ⟨hin, hnotch, hcfg, hon, hfree⟩
    exact (need_pos (by rw [hin, hnotch, hcfg, hon]; rfl)).trans (writeCfg_unlocked hfree)
  case timing =>
    refine .of_silent_body (fun _ _ => rfl) (by decide) ?_
    rintro c q ⟨htim, hdly0, hdly1, hfree⟩
    exact (need_pos (by rw [htim, hdly0, hdly1]; rfl)).trans (writeCfg_unlocked hfree)
  case trust =>
    refine .of_silent_body (fun _ _ => rfl) (by decide) ?_
    rintro c q ⟨hcfg0, hcfg1, hfree⟩
    exact (need_pos (by rw [hcfg0, hcfg1]; rfl)).trans (writeCfg_unlocked hfree)
  case read =>
    refine .of_body (fun _ _ => rfl) (by decide) ?_ ?_
    · rintro c q ⟨hsome, hsem, -⟩
      exact (need_pos (decide_eq_true hsome)).trans (underSem_free hsem)
    · rintro c q ⟨-, -, hlen⟩ -
      exact Nat.succ_le_succ hlen
  case sleep =>
    refine .of_silent_body (fun _ _ => rfl) (by decide) ?_
    rintro c q ⟨hstate, hfree⟩
    exact (need_pos (beq_iff_eq.mpr hstate)).trans (unlessLocked_free hfree)
  case spi =>
    refine .of_body (fun _ _ => rfl) (by decide) ?_ fun _ _ _ _ => by simp
    rintro c q ⟨hmin, hmax, hruns⟩
    exact (need_pos (by rw [decide_eq_true hmin, decide_eq_true hmax]; rfl)).trans (need_pos hruns)
  case evtStatus =>
    exact .of_body (fun _ _ => rfl) (by decide) (fun _ _ _ => rfl) fun _ _ _ _ => by simp
  case evtCfg =>
    refine .of_silent_body (fun _ _ => rfl) (by decide) ?_
    rintro c q ⟨hcfg, hon, hsame, hfree⟩
    refine (need_pos (by rw [hcfg, hon]; rfl)).trans ((need_pos ?_).trans (writeCfg_unlocked hfree))
    rcases hsame with h | h
    · rw [h]; rfl
    · rw [h, Bool.not_false, Bool.or_true]
  case evtInput =>
    refine .of_silent_body (fun _ _ => rfl) (by decide) ?_
    rintro c q ⟨hcfg, hmin, hmax, hpwin, hgate, hdly, hinterval, honlyEn, hfree⟩
    refine (need_pos ?_).trans ((need_pos (etInput_free_of_enOnly honlyEn)).trans (writeCfg_unlocked hfree))
    rw [hcfg, decide_eq_true hmin, decide_eq_true hmax, hpwin, hgate, hdly, hinterval]
    rfl
  case evtRead =>
    refine .of_body (fun _ _ => rfl) (by decide) ?_ ?_
    · rintro c q ⟨hmin, hmax, hsem⟩
      exact (need_pos (by rw [decide_eq_true hmin, decide_eq_true hmax]; rfl)).trans (underSem_free hsem)
    · rintro c q ⟨-, hmax, -⟩ -
      have := q.etPopN_length_le (c.bits 1 4 0)
      simp only [List.length_cons]
      omega
end

section
/-! SUPPORT. The rows of the GNSS receiver's inputs, channels and FIFOs, each through the branch that its condition chooses
(R232, R233, R236 to R238, R242, R243, R247, R249). -/

open Sys2Proof Sys2Proof.Machine

namespace Sys2Proof.Machine

/-! ### What a row sees and what it makes of it -/

/-- A receiver whose channels are some list, with what it shows of them brought up to date. -/
def State.withChans (s : State) (l : List Chan) : State := { s with gn := { s.gn with chans := l } }.gnSync

/-- A channel tracks a signal of a satellite at an input. -/
def Chan.tracks (c : Chan) (x sig svid : Nat) : Bool := c.input == x && c.sig == sig && c.svid == svid

/-- A channel as it begins to track a signal. -/
def State.newChan (s : State) (x sig svid elev k : Nat) : Chan :=
  { ch := k, input := x, sig := sig, svid := svid % 256, elev := elev, since := s.clk }

/-- A signal found gets the lowest free channel; with every channel taken, the place of the lowest-ranked one where it ranks
above that (R236). -/
def State.giveChan (s : State) (x sig svid elev : Nat) : State :=
  match freeChan s.gn.chans, lowChan s.gn.chans with
  | some k, _ => s.withChans (s.gn.chans ++ [s.newChan x sig svid elev k])
  | none, some w => if (s.newChan x sig svid elev w.ch).above w
      then s.withChans ((s.gn.chans.filter fun c => c.ch != w.ch) ++ [s.newChan x sig svid elev w.ch]) else s
  | none, none => s

section

variable {s : State}

theorem State.giveChan_of_free {k : Nat} (hfree : freeChan s.gn.chans = some k) (x sig svid elev : Nat) :
    s.giveChan x sig svid elev = s.withChans (s.gn.chans ++ [s.newChan x sig svid elev k]) := by
  simp only [State.giveChan, hfree]

theorem State.giveChan_of_full {w : Chan} (hfull : freeChan s.gn.chans = none) (hlow : lowChan s.gn.chans = some w)
    (x sig svid elev : Nat) : s.giveChan x sig svid elev = if (s.newChan x sig svid elev w.ch).above w
      then s.withChans ((s.gn.chans.filter fun c => c.ch != w.ch) ++ [s.newChan x sig svid elev w.ch]) else s := by
  simp only [State.giveChan, hfull, hlow]

end

/-- An input receives a signal: it runs from its sample clock, tracks the signal's kind, and the satellite is above ELEV_MASK
(R235, R236). -/
def State.receives (s : State) (x sig elev : Nat) : Prop := s.gnRuns x = true ∧ s.on R.GN_INx_STAT_CLK_OK x = true
  ∧ s.sigOn x sig = true ∧ s.get R.GN_TIM_CFG_ELEV_MASK < elev

/-- The phases of an input's sample clock over the last second, a new one first (R233). -/
def State.phasesWith (s : State) (x : Nat) (phase : Int) : List (Nat × Int) :=
  (s.clk, phase) :: (s.gnIn x).phases.filter fun r => decide (s.clk ≤ r.1 + 10 ^ 12)

/-- An input's sample clock holds its phase: over a full second its phases, modulo the nominal sample period, lie within 10 ps
of one another (R233). -/
def State.phaseHolds (s : State) (x : Nat) (phase : Int) : Bool :=
  let ds := (s.phasesWith x phase).map fun r => s.clkPhaseDiff x r.2 phase
  (match (s.gnIn x).phaseFrom with | some c => decide (c + 10 ^ 12 ≤ s.clk) | none => false)
  && decide (ds.foldl max 0 - ds.foldl min 0 ≤ 10 * s.get R.GN_INx_CFG_SRATE x) && !s.gn.stepped

/-- The index of the current measurement epoch on the solution timebase (R237). -/
def State.epochIndex (s : State) : Nat := s.time (s.get R.GN_CFG_TB) / s.measPeriod

/-- A state in which the level, the gain and the peaks of an input's spectrum have been taken (R242). -/
def State.spectrumTaken (s : State) (x : Nat) (median : Int) (agc : Nat) (peaks : List (Int × Nat)) : State :=
  ((s.set R.GN_INx_STAT_AGC agc x).set R.GN_INx_STAT_PEAK (satN 255 ((peaks.head?.map Prod.snd).getD 0)) x).gnInUpd x
    fun i => { i with medians := (median :: i.medians).take 600, agcs := (agc :: i.agcs).take 600, specAt := some s.clk }

/-- An input is judged jammed: its level has risen by more than 6 dB above its mean, or has not fallen below 4 dB since
(R242). -/
def State.jamNow (s : State) (x : Nat) (median : Int) : Bool :=
  let i := s.gnIn x
  let n := i.medians.length
  if i.medians.isEmpty then s.on R.GN_INx_STAT_JAM x
  else if s.on R.GN_INx_STAT_JAM x then decide (median * n - sumZ i.medians ≥ 400 * n)
  else decide (median * n - sumZ i.medians > 600 * n)

section

variable {s e : State} {dt x sig : Nat} (he : e = s.elapse dt)

include he

/-! ### Sample clocks -/

theorem exec_sampleClockLoss (hx : x < 2) : exec (.sampleClockLoss dt x) s
    = .next (if e.on R.GN_INx_STAT_CLK_OK x then
        (((e.set R.GN_INx_STAT_CLK_OK 0 x).set R.GN_INx_STAT_CLK_SYNC 0 x).gnInUpd x fun i =>
          { i with phases := [], phaseFrom := none }).dropInput x
      else e) := by
  change execSampleClockLoss dt x s = _
  simp only [execSampleClockLoss, ← he, Nat.mod_eq_of_lt hx]

theorem exec_sampleClockReturn (hx : x < 2) : exec (.sampleClockReturn dt x) s
    = .next (if e.gnRuns x then e.set R.GN_INx_STAT_CLK_OK 1 x else e) := by
  change execSampleClockReturn dt x s = _
  simp only [execSampleClockReturn, ← he, Nat.mod_eq_of_lt hx]

/-- A phase is measured 1 ms after the last (R233). -/
theorem exec_clockPhaseMeasure_of_due (hx : x < 2) (hruns : e.gnRuns x = true) (hclk : e.on R.GN_INx_STAT_CLK_OK x = true)
    (hdue : ∀ r ∈ (e.gnIn x).phases.head?, r.1 + 10 ^ 9 ≤ e.clk) (phase : Int) :
    exec (.clockPhaseMeasure dt x phase) s = .next ((e.gnInUpd x fun i =>
        { i with phases := e.phasesWith x phase, phaseFrom := some (i.phaseFrom.getD e.clk) }).setB R.GN_INx_STAT_CLK_SYNC
      (e.phaseHolds x phase) x) := by
  change execClockPhaseMeasure dt x phase s = _
  simp only [execClockPhaseMeasure, ← he, Nat.mod_eq_of_lt hx, hruns, hclk]
  refine congrArg _ (if_pos ?_)
  cases h : (e.gnIn x).phases with
  | nil => rfl
  | cons r rest => simpa [h] using hdue

/-! ### Channels -/

/-- A signal that is tracked already has its elevation brought up to date (R236). -/
theorem exec_signalAcquisition_of_tracked {svid elev : Nat} (hx : x < 2) (hrec : e.receives x sig elev)
    (htracked : (e.gn.chans.any fun c => c.tracks x sig (svid % 256)) = true) (v : Signal) :
    exec (.signalAcquisition dt x sig svid elev v) s = .next (e.withChans (e.gn.chans.map fun c =>
      if c.tracks x sig (svid % 256) then { c with elev := elev } else c)) := by
  obtain ⟨hruns, hclk, hsig, helev⟩ := hrec
  simp only [Chan.tracks] at htracked
  change execSignalAcquisition dt x sig svid elev v s = _
  simp only [execSignalAcquisition, ← he, Nat.mod_eq_of_lt hx, hruns, hclk, hsig, decide_eq_true helev, htracked]
  rfl

theorem exec_signalAcquisition_of_new {svid elev : Nat} {v : Signal} (hx : x < 2) (hrec : e.receives x sig elev)
    (hnew : (e.gn.chans.any fun c => c.tracks x sig (svid % 256)) = false) (hcn0 : 128 ≤ v.cn0)
    (hsearch : e.inSearch (satKey sig svid) v.doppler = true) :
    exec (.signalAcquisition dt x sig svid elev v) s = .next (e.giveChan x sig svid elev) := by
  obtain ⟨hruns, hclk, hsig, helev⟩ := hrec
  simp only [Chan.tracks] at hnew
  change execSignalAcquisition dt x sig svid elev v s = _
  simp only [execSignalAcquisition, ← he, Nat.mod_eq_of_lt hx, hruns, hclk, hsig, decide_eq_true helev, hnew,
    decide_eq_true hcn0, hsearch]
  rfl

/-- A channel stops below 26 dB-Hz or ELEV_MASK; otherwise its elevation is brought up to date (R236). -/
theorem exec_lossOfTracking (hx : x < 2) (v : Fading) : exec (.lossOfTracking dt x sig v) s
    = .next (e.withChans (if v.cn0 < 104 ∨ v.elev ≤ e.get R.GN_TIM_CFG_ELEV_MASK
      then e.gn.chans.filter fun c => !c.tracks x sig v.svid
      else e.gn.chans.map fun c => if c.tracks x sig v.svid then { c with elev := v.elev } else c)) := by
  change execLossOfTracking dt x sig v s = _
  simp only [execLossOfTracking, ← he, Nat.mod_eq_of_lt hx, Bool.or_eq_true, decide_eq_true_eq]
  rfl

/-! ### Measurements and navigation data -/

theorem exec_measurementEpoch (ms : List Meas) : exec (.measurementEpoch dt ms) s
    = .next (if e.on R.GN_CFG_MEAS_EN && !e.gnAsleep && e.epochIndex != e.gn.lastEpoch then
        ((e.gn.chans.zip ms).foldl (fun (s : State) r => s.gnPush false (s.measWords r.1 r.2
            (secsOf (e.epochIndex * e.measPeriod)) (e.epochIndex * e.measPeriod % secUnit / (10 ^ 9 * 2 ^ 48))))
          { e with gn := { e.gn with lastEpoch := e.epochIndex } }).gnSync
      else e) := by
  rw [he]
  rfl

/-- What passing data give the receiver it takes even where they do not enter the FIFO (R238). -/
theorem exec_navDataDecoded_of_chan {k : Nat} {c : Chan} (hc : (e.gn.chans.find? fun c => c.ch == k) = some c)
    (check nbits sec ns : Nat) (data : List Nat) (v : NavInfo) :
    exec (.navDataDecoded dt k check nbits sec ns data v) s
      = .next (if e.on R.GN_CFG_NAV_EN && !e.gnAsleep then
          ((navEntries c (check == 1) nbits sec ns data).foldl (fun (s : State) r => s.gnPush true r)
            (if check = 1 then e.navTaken (satKey c.sig c.svid) v else e)).gnSync
        else if check = 1 then e.navTaken (satKey c.sig c.svid) v else e) := by
  change execNavDataDecoded dt k check nbits sec ns data v s = _
  simp only [execNavDataDecoded, ← he, hc]

/-! ### Spectrum, notches and the kept data -/

/-- The spectrum is judged 100 ms after it was last (R242). -/
theorem exec_spectrumMonitor_of_due (hx : x < 2) (hruns : e.gnRuns x = true)
    (hdue : ∀ c ∈ (e.gnIn x).specAt, c + 10 ^ 11 ≤ e.clk) (median : Int) (agc : Nat) (peaks : List (Int × Nat)) :
    exec (.spectrumMonitor dt x median agc peaks) s = .next ((List.range 4).foldl (fun s k => s.notchStep x peaks k)
      (if e.jamNow x median != e.on R.GN_INx_STAT_JAM x
        then ((e.spectrumTaken x median agc peaks).setB R.GN_INx_STAT_JAM (e.jamNow x median) x).raise 66
          (det2 x (b2n (e.jamNow x median)))
        else e.spectrumTaken x median agc peaks)) := by
  change execSpectrumMonitor dt x median agc peaks s = _
  simp only [execSpectrumMonitor, ← he, Nat.mod_eq_of_lt hx, hruns]
  refine congrArg _ (if_pos ?_)
  cases h : (e.gnIn x).specAt with
  | none => rfl
  | some c => simpa [h] using hdue

theorem exec_notchRelease_of_low {k t : Nat} (hx : x < 2) (hk : k < 4) (hlow : Tab.find? (e.gnIn x).low k = some t) :
    exec (.notchRelease dt x k) s
      = .next (if e.notchOn x k && e.get R.GN_NOTCHx_k_MODE x k == 1 && decide (t + 10 ^ 12 ≤ e.clk)
        then (e.setNotch x k false).gnInUpd x fun i => { i with low := Tab.del i.low k } else e) := by
  change execNotchRelease dt x k s = _
  simp only [execNotchRelease, ← he, Nat.mod_eq_of_lt hx, Nat.mod_eq_of_lt hk, hlow]

theorem exec_keptDataRewrite : exec (.keptDataRewrite dt) s
    = .next (if !e.gn.chans.isEmpty && decide (e.gn.lastKept + 60 * 10 ^ 12 ≤ e.clk)
      then { e.keepGnss with gn := { e.gn with lastKept := e.clk } } else e) := by
  rw [he]
  rfl

end

/-- A read of W0 that the initiator may make pops the FIFO (R249). -/
theorem exec_gnssFifoPop_of_allowed {s : State} {init : Nat} (nav : Bool)
    (ha : Allowed s.quiet init (if nav then 0x628240 else 0x628200) false) :
    exec (.gnssFifoPop init nav) s
      = .next ((s.quiet.gnReadW0 nav).2.emit (.readData init [(s.quiet.gnReadW0 nav).1])) := by
  have hc : s.quiet.checkAccess init (if nav then 0x628240 else 0x628200) false = none := ha
  change execGnssFifoPop init nav s = _
  simp only [execGnssFifoPop, hc]

end Sys2Proof.Machine

/-- Settles O45, row by row: the row's condition chooses the branch, and the branch is what the statement names. -/
theorem gnssInputsComplete : Obligations.GnssInputsComplete := by
  unfold Obligations.GnssInputsComplete
  refine ⟨?clockLost, ?clockBack, ?phase, ?free, ?full, ?tracked, ?lost, ?kept, ?epoch, ?navFifo, ?navOnly, ?popMeas,
    ?popNav, ?spectrum, ?notch, ?rewrite⟩
  case clockLost =>
    intro s e dt x he hx hclk
    rw [exec_sampleClockLoss he hx, if_pos hclk]
  case clockBack =>
    intro s e dt x he hx hruns
    rw [exec_sampleClockReturn he hx, if_pos hruns]
  case phase =>
    intro s e dt x phase he hx hruns hclk hdue
    exact exec_clockPhaseMeasure_of_due he hx hruns hclk hdue phase
  case free =>
    intro s e dt x sig svid elev v k he hx hruns hclk hsig helev hnew hcn0 hsearch hfree
    rw [exec_signalAcquisition_of_new he hx ⟨hruns, hclk, hsig, helev⟩ hnew hcn0 hsearch, State.giveChan_of_free hfree]
    rfl
  case full =>
    intro s e dt x sig svid elev v w he hx hruns hclk hsig helev hnew hcn0 hsearch hfull hlow
    rw [exec_signalAcquisition_of_new he hx ⟨hruns, hclk, hsig, helev⟩ hnew hcn0 hsearch,
      State.giveChan_of_full hfull hlow]
    rfl
  case tracked =>
    intro s e dt x sig svid elev v he hx hruns hclk hsig helev htracked
    exact exec_signalAcquisition_of_tracked he hx ⟨hruns, hclk, hsig, helev⟩ htracked v
  case lost =>
    intro s e dt x sig v he hx hlost
    rw [exec_lossOfTracking he hx, if_pos hlost]
    rfl
  case kept =>
    intro s e dt x sig v he hx hcn0 helev
    rw [exec_lossOfTracking he hx, if_neg (by omega)]
    rfl
  case epoch =>
    intro s e dt ms he hon hawake hnew
    have hindex : e.epochIndex ≠ e.gn.lastEpoch := hnew
    rw [exec_measurementEpoch he, if_pos (by rw [hon, hawake, bne_iff_ne.mpr hindex]; rfl)]
    rfl
  case navFifo =>
    intro s e dt k check nbits sec ns data v c he hc hon hawake
    rw [exec_navDataDecoded_of_chan he hc, if_pos (by rw [hon, hawake]; rfl)]
  case navOnly =>
    intro s e dt k check nbits sec ns data v c he hc hoff
    rw [exec_navDataDecoded_of_chan he hc, if_neg (by rw [hoff]; exact Bool.false_ne_true)]
  case popMeas =>
    rintro s _ init rfl ha
    exact exec_gnssFifoPop_of_allowed false ha
  case popNav =>
    rintro s _ init rfl ha
    exact exec_gnssFifoPop_of_allowed true ha
  case spectrum =>
    intro s e dt x median agc peaks he hx hruns hdue
    exact exec_spectrumMonitor_of_due he hx hruns hdue median agc peaks
  case notch =>
    intro s e dt x k t he hx hk hlow hon hmode hpassed
    rw [exec_notchRelease_of_low he hx hk hlow, if_pos (by rw [hon, hmode, decide_eq_true hpassed]; rfl)]
  case rewrite =>
    intro s e dt he hsome hpassed
    rw [exec_keptDataRewrite he, if_pos (by rw [hsome, decide_eq_true hpassed]; rfl)]
end

section
/-! SUPPORT. The rows of GNSS solutions, trust and the survey (R239, R240, R245) and of the event timer (R262, R263, R269 to
R272), each through the branch that its condition chooses. -/

open Sys2Proof Sys2Proof.Machine

namespace Sys2Proof.Machine

/-! ### What makes a row due, and what it does then -/

/-- An antenna forms a solution: it has an enabled input, the sample clock of each of these, and enough satellites, has
formed none in this TAI second, and the second began no more than 200 ms ago (R232, R239, R240). -/
def State.solutionDue (s : State) (x : Nat) (v : Sol) : Bool :=
  !(s.antInputs x).isEmpty && (s.antInputs x).all (fun i => s.on R.GN_INx_STAT_CLK_OK i)
  && decide (needSats (s.posWanted x) ≤ (s.solUsed v).length) && s.tbOn (s.get R.GN_CFG_TB)
  && (s.gnAnt x).second != some (s.taiSecond (v.ofs - s.antDelay x))
  && decide (s.sinceTai (v.ofs - s.antDelay x) ≤ 200000000 * 65536)

theorem State.solutionDue_iff (s : State) (x : Nat) (v : Sol) : s.solutionDue x v = true
    ↔ (s.antInputs x).isEmpty = false ∧ (∀ i ∈ s.antInputs x, s.on R.GN_INx_STAT_CLK_OK i = true)
      ∧ needSats (s.posWanted x) ≤ (s.solUsed v).length ∧ s.tbOn (s.get R.GN_CFG_TB) = true
      ∧ (s.gnAnt x).second ≠ some (s.taiSecond (v.ofs - s.antDelay x))
      ∧ s.sinceTai (v.ofs - s.antDelay x) ≤ 200000000 * 65536 := by
  simp [State.solutionDue, and_assoc]

/-- The next waiting result is that of the input which the order of R263 names. -/
theorem State.etWrite_of_next {s : State} {i : Nat} (h : s.etNext = some i) : s.etWrite
    = ((s.etUpd i fun r => { r with buf := r.buf.drop 1 }).etPush ((s.etIn i).buf.headD {})).etSync := by
  simp only [State.etWrite, h]

/-- A state whose FIFO has taken its entry of the present 800 ps cycle (R263). -/
def State.etCycleUsed (s : State) : State := { s with et := { s.et with written := some (s.clk / 800) } }

section

variable {s : State} {i : Nat} {r : EtEdge} {rest : List EtEdge}

theorem State.startExpired_of_cons (h : (s.etIn i).starts = r :: rest) :
    s.startExpired i = decide (r.at_ + s.etTimeout i ≤ s.clk) := by
  simp only [State.startExpired, h]

theorem State.expireStart_of_cons (h : (s.etIn i).starts = r :: rest) : s.expireStart i
    = (s.etUpd i fun k => { k with starts := rest }).intervalResult i r none false := by
  simp only [State.expireStart, h]

theorem State.stopExpired_of_cons (h : (s.etIn i).stops = r :: rest) :
    s.stopExpired i = decide (r.at_ + s.get R.ET_INi_PWIN_PAIR_WIN i * 1000 ≤ s.clk) := by
  simp only [State.stopExpired, h]

theorem State.gateOver_of_gate {g : EtGate} (h : (s.etIn i).gate = some g) :
    s.gateOver i = decide (((g.open_ + s.etGateLen i : Nat) : Int) ≤ s.etDateNow i) := by
  simp only [State.gateOver, h]

end

section

variable {s e : State} {dt x i : Nat} (he : e = s.elapse dt)

include he

/-! ### The rows of the receiver -/

theorem exec_gnssSolution (hx : x < 2) (v : Sol) : exec (.gnssSolution dt x v) s
    = .next (if e.solutionDue x v then e.solution x v else e) := by
  change execGnssSolution dt x v s = _
  simp only [execGnssSolution, ← he, Nat.mod_eq_of_lt hx]
  rfl

theorem exec_trustHoldExpiry_of_passing (hx : x < 2) {t : Nat} (ht : (e.gnAnt x).passFrom = some t) :
    exec (.trustHoldExpiry dt x) s
      = .next (if (e.gnAnt x).failed && e.solValid x
          && decide (t + e.get R.GN_TRUST_CFG1_TRUST_HOLD * 10 ^ 12 ≤ e.clk)
        then (e.gnAntUpd x fun a => { a with failed := false }).setTrust x true else e) := by
  change execTrustHoldExpiry dt x s = _
  simp only [execTrustHoldExpiry, ← he, Nat.mod_eq_of_lt hx, ht]

theorem exec_gnssSurvey_of_running (hx : x < 2) {t : Nat} (ht : (e.gnAnt x).survey = some t) (px py pz : Nat) :
    exec (.gnssSurvey dt x px py pz) s
      = .next (if e.posState x = 1 ∧ t + e.get R.GN_TIM_CFG_SURVEY_MIN * 60 * 10 ^ 12 ≤ e.clk then
          ((e.writes [{ f := R.GN_POSx_X_X, i := x, v := px }, { f := R.GN_POSx_Y_Y, i := x, v := py },
            { f := R.GN_POSx_Z_Z, i := x, v := pz }, { f := R.GN_SOLx_STAT_POS_STATE, i := x, v := 2 }]).gnAntUpd x
              fun a => { a with survey := none }).raise 69 x
        else e) := by
  change execGnssSurvey dt x px py pz s = _
  simp only [execGnssSurvey, ← he, Nat.mod_eq_of_lt hx, ht]

/-! ### The rows of the event timer -/

theorem exec_eventEdge (hi : i < 16) (falling : Bool) (err : Int) :
    exec (.eventEdge dt i falling err) s = .next (e.edge i falling err) := by
  change execEventEdge dt i falling err s = _
  simp only [execEventEdge, ← he, Nat.mod_eq_of_lt hi]

theorem exec_etResultWrite : exec (.etResultWrite dt) s
    = .next (if e.et.written = some (e.clk / 800) then e else e.etCycleUsed.etWrite) := by
  rw [he]
  rfl

theorem exec_intervalTimeout (hi : i < 16) : exec (.intervalTimeout dt i) s
    = .next (if e.startExpired i then (e.expireStart i).etSync else e) := by
  change execIntervalTimeout dt i s = _
  simp only [execIntervalTimeout, ← he, Nat.mod_eq_of_lt hi]

theorem exec_pairWindowExpiry (hi : i < 16) : exec (.pairWindowExpiry dt i) s
    = .next (if e.stopExpired i then (e.expireStop i).etSync else e) := by
  change execPairWindowExpiry dt i s = _
  simp only [execPairWindowExpiry, ← he, Nat.mod_eq_of_lt hi]

theorem exec_gateEnd (hi : i < 16) : exec (.gateEnd dt i) s
    = .next (if e.gateOver i then e.closeGate i else e) := by
  change execGateEnd dt i s = _
  simp only [execGateEnd, ← he, Nat.mod_eq_of_lt hi]

end

/-- A read of ET_FIFO_W0 that the initiator may make pops the FIFO (R272). -/
theorem exec_etFifoPop_of_allowed {s : State} {init : Nat} (ha : Allowed s.quiet init 0x630010 false) :
    exec (.etFifoPop init) s = .next (s.quiet.etReadW0.2.emit (.readData init [s.quiet.etReadW0.1])) := by
  have hc : s.quiet.checkAccess init 0x630010 false = none := ha
  change execEtFifoPop init s = _
  simp only [execEtFifoPop, hc]

end Sys2Proof.Machine

/-- Settles O46, row by row: the row's condition chooses the branch, and the branch is what the statement names. -/
theorem gnssSolutionsAndEventTimerComplete : Obligations.GnssSolutionsAndEventTimerComplete := by
  unfold Obligations.GnssSolutionsAndEventTimerComplete
  refine ⟨?solution, ?trust, ?survey, ?edge, ?write, ?start, ?stop, ?gate, ?pop⟩
  case solution =>
    intro s e dt x v he hx hinputs hclocks hsats hon hsecond hsince
    have hdue := (e.solutionDue_iff x v).mpr ⟨hinputs, hclocks, hsats, hon, hsecond, hsince⟩
    rw [exec_gnssSolution he hx, if_pos hdue]
  case trust =>
    intro s e dt x t he hx ht hfailed hvalid hpassed
    rw [exec_trustHoldExpiry_of_passing he hx ht, if_pos (by rw [hfailed, hvalid, decide_eq_true hpassed]; rfl)]
  case survey =>
    intro s e dt x px py pz t he hx ht hstate hpassed
    rw [exec_gnssSurvey_of_running he hx ht, if_pos ⟨hstate, hpassed⟩]
  case edge =>
    intro s e dt i falling err he hi
    exact exec_eventEdge he hi falling err
  case write =>
    intro s e dt i he hnext hfree
    have hwaiting : e.etCycleUsed.etNext = some i := hnext
    rw [exec_etResultWrite he, if_neg hfree, State.etWrite_of_next hwaiting]
    rfl
  case start =>
    intro s e dt i r rest he hi hstarts hpassed
    rw [exec_intervalTimeout he hi, if_pos (by rw [State.startExpired_of_cons hstarts, decide_eq_true hpassed]),
      State.expireStart_of_cons hstarts]
  case stop =>
    intro s e dt i r rest he hi hstops hpassed
    rw [exec_pairWindowExpiry he hi, if_pos (by rw [State.stopExpired_of_cons hstops, decide_eq_true hpassed])]
  case gate =>
    intro s e dt i g he hi hgate hpassed
    rw [exec_gateEnd he hi, if_pos (by rw [State.gateOver_of_gate hgate, decide_eq_true hpassed])]
  case pop =>
    rintro s _ init rfl ha
    exact exec_etFifoPop_of_allowed ha
end

section
/-! SUPPORT. The LANE commands, each through its body under the conditions in which it is carried out (R284, R294 to R296, R298
to R303, R307). -/

open Sys2Proof Sys2Proof.Machine

namespace Sys2Proof.Machine

/-- What a command that is answered at a later event leaves. -/
def awaiting (s : State) : Res := { st := s, wait := true }

/-- The attempt that a request of LANE.SPARE begins (R295). -/
def Ctx.attempt (c : Ctx) (q : State) : Subst :=
  { port := c.bits 1 5 0, pos := c.bits 1 9 8, since := q.clk, mb := c.mb, waits := true }

/-- A state in which a request of LANE.SPARE waits for the substitution of a grove (R296). -/
def State.awaitedBy (s : State) (c : Ctx) (g : Nat) : State :=
  { s with subst := Tab.upd {} s.subst g fun b => { b with mb := c.mb, waits := true, remote := false } }

section

variable {c : Ctx} {q : State}

/-- A release goes by the substitution that the port's grove has (R296). -/
theorem laneSpare_body_release (hrelease : c.bit 1 12 = true) {b : Subst} (hb : q.subst? (c.bits 1 5 0 / 4) = some b) :
    cmdLaneSpare.body c q = need (decide (c.bits 1 5 0 < 48)) .badArg q
      (need (!q.subBusy (c.bits 1 5 0 / 4)) .busy q
        (need (b.port == c.bits 1 5 0 && b.pos == c.bits 1 9 8) .checkFail q
          (unlessLocked q 12 (awaiting (((q.startRelease (c.bits 1 5 0 / 4)).awaitedBy c (c.bits 1 5 0 / 4)).sendCapex
            (c.bits 1 5 0) 6 (c.bits 1 9 8)))))) := by
  simp only [cmdLaneSpare, hrelease, hb, if_true]
  rfl

theorem laneSpare_body_start (hstart : c.bit 1 12 = false) : cmdLaneSpare.body c q
    = need (decide (c.bits 1 5 0 < 48)) .badArg q
      (need (q.on R.LN_GRVg_CFG_SPARE_WIRED (c.bits 1 5 0 / 4) && q.partnerSpare (c.bits 1 5 0)
          && !modeFwdClk (q.portMode (c.bits 1 5 0)) && q.on R.PT_CFGp_EN (c.bits 1 5 0) && q.lanesActive (c.bits 1 5 0))
        .checkFail q
        (need (decide (c.bits 1 9 8 < modeLanes (q.portMode (c.bits 1 5 0)))) .badArg q
          (need (q.subState (c.bits 1 5 0 / 4) == 0 && q.laneState (spareOf (c.bits 1 5 0 / 4)) != 6) .busy q
            (unlessLocked q 12 (awaiting ((q.startSub (c.bits 1 5 0 / 4) (c.attempt q)).sendCapex (c.bits 1 5 0) 2
              (c.bits 1 9 8))))))) := by
  simp only [cmdLaneSpare, hstart]
  rfl

/-- The five words that tell of a lane's checker (R298, R305). -/
def State.checkWords (s : State) (l : Nat) : List Nat :=
  [s.word R.LN_Ll_CHK_STAT l, s.word R.LN_Ll_CHK_ERR_LO l, s.word R.LN_Ll_CHK_ERR_HI l, s.word R.LN_Ll_CHK_BITS_LO l,
    s.word R.LN_Ll_CHK_BITS_HI l]

/-- A request of LANE.TEST is allowed on its lane with its patterns (R298, R305). -/
structure State.TestAllowed (q : State) (c : Ctx) : Prop where
  lane : c.bits 1 5 0 < 60
  may : q.mayTest (c.bits 1 5 0) = true
  free : isSpare (c.bits 1 5 0) = true → q.subState (c.bits 1 5 0 / 5) = 0
  awake : q.laneAsleep (c.bits 1 5 0) = false
  range : R.LN_Ll_TEST.ok (c.arg 2) = true
  gen : q.patOk (c.bits 1 5 0) (bits (c.arg 2) 31 28) = true
  chk : q.patOk (c.bits 1 5 0) (bits (c.arg 2) 27 24) = true
  checked : bits (c.arg 2) 27 24 ≠ 10

/-- A test that is allowed begins with its checker cleared or ends, as the request says (R298). -/
theorem laneTest_body_of_allowed (h : q.TestAllowed c) : cmdLaneTest.body c q
    = if c.bit 1 8 then
        done ((q.checkSync (c.bits 1 5 0)).endTest (c.bits 1 5 0)) ((q.checkSync (c.bits 1 5 0)).checkWords (c.bits 1 5 0))
      else
        writeCfg (q.checkSync (c.bits 1 5 0)) (R.LN_Ll_TEST.writes (c.arg 2) (c.bits 1 5 0)
            ++ R.LN_Ll_USER_LO.writes (c.arg 3) (c.bits 1 5 0) ++ R.LN_Ll_USER_HI.writes (c.arg 4) (c.bits 1 5 0))
          fun u => done ((u.laneTest (c.bits 1 5 0)).checkClear (c.bits 1 5 0))
            ((q.checkSync (c.bits 1 5 0)).checkWords (c.bits 1 5 0)) := by
  obtain ⟨hlane, hmay, hfree, hawake, hrange, hgen, hchk, hchecked⟩ := h
  have hidle : (isSpare (c.bits 1 5 0) && q.subState (c.bits 1 5 0 / 5) != 0) = false := by
    simpa using hfree
  exact (need_pos (decide_eq_true hlane)).trans <| (need_pos (by rw [hmay, hawake]; rfl)).trans <|
    (need_pos (by rw [hrange, hgen, hchk, bne_iff_ne.mpr hchecked]; rfl)).trans <| need_pos (by rw [hidle]; rfl)

end

end Sys2Proof.Machine

/-- Settles O27: in each clause the conditions that the command's body asks for hold, and no lock refuses its writes. -/
theorem laneCommandsComplete : Obligations.LaneCommandsComplete := by
  unfold Obligations.LaneCommandsComplete
  refine ⟨?status, ?cfg, ?restart, ?spare, ?release, ?test, ?testEnd, ?inject, ?grove⟩
  case status =>
    exact .of_body (fun _ _ => rfl) (by decide) (fun _ _ hlane => need_pos (decide_eq_true hlane)) fun _ _ _ _ => by simp
  case cfg =>
    refine .of_silent_body (fun _ _ => rfl) (by decide) ?_
    rintro c q ⟨hlane, hcfg, htxeq, htaps, hfree⟩
    exact (need_pos (by rw [decide_eq_true hlane, hcfg, htxeq, htaps]; rfl)).trans (writeCfg_unlocked hfree)
  case restart =>
    refine .of_silent_body (fun _ _ => rfl) (by decide) ?_
    rintro c q ⟨hlane, hawake, hidle, hfree⟩
    exact (need_pos (decide_eq_true hlane)).trans <| (need_pos (by rw [hawake]; rfl)).trans <|
      (need_pos (by rw [hidle]; rfl)).trans (unlessLocked_free hfree)
  case spare =>
    refine .of_body (fun _ _ => rfl) (by decide) ?_
    rintro c q ⟨hport, hstart, hwired, hpartner, hfwd, hen, hactive, hpos, hidle, hnoTest, hfree⟩
    rw [laneSpare_body_start hstart, need_pos (decide_eq_true hport),
      need_pos (by rw [hwired, hpartner, hfwd, hen, hactive]; rfl), need_pos (decide_eq_true hpos),
      need_pos (by rw [hidle, bne_iff_ne.mpr hnoTest]; rfl), unlessLocked_free hfree]
    rfl
  case release =>
    refine .of_body (fun _ _ => rfl) (by decide) ?_
    rintro c q ⟨hport, hrelease, hsome, hidle, hlane, hfree⟩
    obtain ⟨b, hb⟩ := Option.isSome_iff_exists.mp hsome
    obtain ⟨hbport, hbpos⟩ : b.port = c.bits 1 5 0 ∧ b.pos = c.bits 1 9 8 := by simpa [hb] using hlane
    rw [laneSpare_body_release hrelease hb, need_pos (decide_eq_true hport), need_pos (by rw [hidle]; rfl),
      need_pos (by rw [hbport, hbpos, beq_self_eq_true, beq_self_eq_true]; rfl), unlessLocked_free hfree]
    rfl
  case test =>
    refine .of_body (fun _ _ => rfl) (by decide) ?_ fun _ _ _ _ => by simp
    rintro c q ⟨hlane, hmay, hspare, hawake, hrange, hgen, hchk, hchecked, hstart, hfree⟩
    rw [laneTest_body_of_allowed ⟨hlane, hmay, hspare, hawake, hrange, hgen, hchk, hchecked⟩,
      if_neg (by rw [hstart]; decide), writeCfg_unlocked hfree]
    rfl
  case testEnd =>
    refine .of_body (fun _ _ => rfl) (by decide) ?_ fun _ _ _ _ => by simp
    rintro c q ⟨hlane, hmay, hspare, hawake, hrange, hgen, hchk, hchecked, hend, -⟩
    rw [laneTest_body_of_allowed ⟨hlane, hmay, hspare, hawake, hrange, hgen, hchk, hchecked⟩, if_pos hend]
    rfl
  case inject =>
    refine .of_silent_body (fun _ _ => rfl) (by decide) ?_
    rintro c q ⟨hlane, hmay, hrange, hfree⟩
    refine (need_pos (decide_eq_true hlane)).trans <| (need_pos hmay).trans <| (need_pos hrange).trans <|
      (writeCfg_unlocked hfree).trans ?_
    split <;> rfl
  case grove =>
    refine .of_silent_body (fun _ _ => rfl) (by decide) ?_
    rintro c q ⟨hgrove, hcfg, hglobal, hwired, hfree⟩
    refine (need_pos (by rw [decide_eq_true hgrove, hcfg, hglobal]; rfl)).trans <| (need_pos ?_).trans (writeCfg_unlocked hfree)
    rcases hwired with h | h <;> simp [h]
end

section
/-! SUPPORT. The rows of a lane's bring-up, exchange, loss, idle and rate matching, each through the branch that its condition
chooses (R282 to R288, R291, R300). -/

open Sys2Proof Sys2Proof.Machine

namespace Sys2Proof.Machine

/-! ### What makes a row due, and what it does then -/

section

variable {s : State}

theorem State.waveDue_of_from {t : Nat} (h : s.waveFrom = some t) : s.waveDue
    = (s.get R.LN_GLOBAL_STAT_WAVE < 4 && decide (t + 60 * 10 ^ 9 * s.get R.LN_GLOBAL_STAT_WAVE ≤ s.clk)) := by
  simp only [State.waveDue, h]

theorem State.signalTaken_iff (s : State) (l : Nat) : s.signalTaken l = true
    ↔ s.laneState l = 1 ∧ s.dieClocked (l / 30) = true ∧ s.waveOpen l = true ∧ (s.laneRec l).quietTo ≤ s.clk := by
  simp [State.signalTaken, and_assoc]

/-- 100 ms have passed since the partner's offset was last measured on a lane, or it has not been measured (R291). -/
def State.matchDue (s : State) (l : Nat) : Bool :=
  match (s.laneRec l).rmAt with
  | some c => decide (c + 10 ^ 11 ≤ s.clk)
  | none => true

theorem State.matchDue_iff (s : State) (l : Nat) :
    s.matchDue l = true ↔ ∀ c ∈ (s.laneRec l).rmAt, c + 10 ^ 11 ≤ s.clk := by
  unfold State.matchDue
  split
  next c h => simp [h]
  next h => simp [h]

/-- How many measurements in a row have found a lane's partner more than 100 ppm away (R291). -/
def State.matchOver (s : State) (l : Nat) (ofs : Int) : Nat :=
  if 100000000 < ofs.natAbs then (s.laneRec l).rmOver + 1 else 0

/-- A lane shows its partner's offset, and the measurement is counted (R291). -/
def State.matchShown (s : State) (l : Nat) (ofs : Int) : State :=
  (s.setZ R.LN_Ll_RM_RM_OFS (clampZ (-2147483648) 2147483647 ofs) l).laneUpd l fun x =>
    { x with rmOver := s.matchOver l ofs, rmAt := some s.clk }

/-- A HELLO has been judged for a port, as the first that says so or as a repetition (R32). -/
def State.helloJudged (s : State) (p : Nat) (h : Hello) : State :=
  s.judgeLoop p h ((s.laneRec (laneOf p)).hello != some h)

end

section

variable {s e : State} {dt l p : Nat} (he : e = s.elapse dt)

include he

/-! ### From DETECT to LOCK -/

theorem exec_trainingWaveOpen : exec (.trainingWaveOpen dt) s
    = .next (if e.waveDue then e.openWave else if e.waveDie.isEmpty then e else e.waveSync) := by
  rw [he]
  rfl

theorem exec_partnerSignal (hl : l < 60) : exec (.partnerSignal dt l) s
    = .next (if e.signalTaken l then e.laneTrain l else e) := by
  change execPartnerSignal dt l s = _
  simp only [execPartnerSignal, ← he, Nat.mod_eq_of_lt hl]

theorem exec_trainingComplete (hl : l < 60) (taps pre eq : Nat) : exec (.trainingComplete dt l taps pre eq) s
    = .next (if e.laneState l = 2 then e.laneLock l taps pre eq else e) := by
  change execTrainingComplete dt l taps pre eq s = _
  simp only [execTrainingComplete, ← he, Nat.mod_eq_of_lt hl]

theorem exec_cacheLockTimeout (hl : l < 60) : exec (.cacheLockTimeout dt l) s
    = .next (if e.laneState l = 2 ∧ (e.laneRec l).cached = true ∧ (e.laneRec l).since + 2 * 10 ^ 9 ≤ e.clk
      then (e.dropCache l).laneUpd l fun x => { x with cached := false } else e) := by
  change execCacheLockTimeout dt l s = _
  simp only [execCacheLockTimeout, ← he, Nat.mod_eq_of_lt hl]

theorem exec_trainToExpiry (hl : l < 60) : exec (.trainToExpiry dt l) s
    = .next (if e.laneState l = 2 ∧ e.trains l = true
        ∧ (e.laneRec l).since + e.get R.LN_GLOBAL_CFG_TRAIN_TO * 10 ^ 10 ≤ e.clk
      then e.laneFail l (10 ^ 11) else e) := by
  change execTrainToExpiry dt l s = _
  simp only [execTrainToExpiry, ← he, Nat.mod_eq_of_lt hl]

theorem exec_failIdleEnd (hl : l < 60) : exec (.failIdleEnd dt l) s
    = .next (if e.laneState l = 1 ∧ (e.laneRec l).quietTo ≤ e.clk
      then e.setB R.LN_Ll_STAT_IDLE (!e.waveOpen l) l else e) := by
  change execFailIdleEnd dt l s = _
  simp only [execFailIdleEnd, ← he, Nat.mod_eq_of_lt hl]

theorem exec_lockTimeout (hl : l < 60) : exec (.lockTimeout dt l) s
    = .next (if e.laneState l = 3 ∧ e.on R.LN_Ll_STAT_ALIGNED l = false ∧ (e.laneRec l).since + 5 * 10 ^ 10 ≤ e.clk
      then e.laneFail l 0 else e) := by
  change execLockTimeout dt l s = _
  simp only [execLockTimeout, ← he, Nat.mod_eq_of_lt hl]

theorem exec_lockReached (hl : l < 60) : exec (.lockReached dt l) s
    = .next (if e.laneState l = 3 then e.lockDone l else e) := by
  change execLockReached dt l s = _
  simp only [execLockReached, ← he, Nat.mod_eq_of_lt hl]

/-! ### Capability exchange -/

/-- A HELLO of this version on a port in CAPEX or ACTIVE is judged; in CAPEX it takes the port's lanes to ACTIVE, in ACTIVE
it is kept, and where it differs from the cached one the cache is stale (R286). -/
theorem exec_helloReceived_of_port (hl : l < 60) (hp : e.lanePort l = some p)
    (hcapex : e.on R.LN_GLOBAL_CFG_CAPEX_EN = true)
    (hstate : e.laneState (e.actual (laneOf p)) = 4 ∨ e.laneState (e.actual (laneOf p)) = 5)
    {flags node port : Nat} {h : Hello} (hh : h = { flags := flags % 256, node := node % 2 ^ 20, port := port % 256 }) :
    exec (.helloReceived dt l 0x4B5A 1 flags node port) s
      = .next (if e.laneState (e.actual (laneOf p)) = 4 then ((e.helloJudged p h).keepHello p h false).portActive p false
        else if (e.laneRec (laneOf p)).fromCache && (e.laneRec (laneOf p)).hello != some h
          then (((e.helloJudged p h).keepHello p h true).helloSync p).raise 39 (laneOf p)
        else ((e.helloJudged p h).keepHello p h false).helloSync p) := by
  change execHelloReceived dt l 0x4B5A 1 flags node port s = _
  simp only [execHelloReceived, ← he, Nat.mod_eq_of_lt hl, hp, ← hh]
  rw [if_neg (by simp [hcapex, hstate])]
  simp only [apply_ite Host.Outcome.next, State.helloJudged]

theorem exec_capexTimeout (hp : p < 48) : exec (.capexTimeout dt p) s
    = .next (if e.on R.PT_CFGp_EN p = true ∧ e.laneState (e.actual (laneOf p)) = 4
        ∧ (e.laneRec (e.actual (laneOf p))).since + 2 * 10 ^ 11 ≤ e.clk
      then e.portActive p true else e) := by
  change execCapexTimeout dt p s = _
  simp only [execCapexTimeout, ← he, Nat.mod_eq_of_lt hp]

theorem exec_helloSend (hp : p < 48) : exec (.helloSend dt p) s
    = .next (if e.on R.PT_CFGp_EN p = true ∧ e.on R.LN_GLOBAL_CFG_CAPEX_EN = true
        ∧ (e.laneState (e.actual (laneOf p)) = 4 ∨ e.laneState (e.actual (laneOf p)) = 5)
        ∧ (e.laneRec (laneOf p)).helloAt + (if e.laneState (e.actual (laneOf p)) = 4 then 10 ^ 10 else 10 ^ 12) ≤ e.clk
      then e.sendCapex p 1 0 else e) := by
  change execHelloSend dt p s = _
  simp only [execHelloSend, ← he, Nat.mod_eq_of_lt hp]

/-! ### Loss and idle -/

theorem exec_laneLoss (hl : l < 60) : exec (.laneLoss dt l) s
    = .next (if (e.laneState l = 4 ∨ e.laneState l = 5) ∧ (e.on R.LN_Ll_STAT_RX_IDLE l = false ∨ e.beaconsGone l = true)
      then (e.incSat R.LN_Ll_RETRY_LOS_CNT l).groupDetect l else e) := by
  change execLaneLoss dt l s = _
  simp only [execLaneLoss, ← he, Nat.mod_eq_of_lt hl]

theorem exec_cacheHoldExpiry_of_lost (hl : l < 60) {t : Nat} (ht : (e.laneRec l).lost = some t) :
    exec (.cacheHoldExpiry dt l) s
      = .next (if t + e.get R.LN_GLOBAL_CFG_CACHE_HOLD * 10 ^ 9 < e.clk
        then (e.laneUpd l fun x => { x with lost := none }).cacheSync l else e) := by
  change execCacheHoldExpiry dt l s = _
  simp only [execCacheHoldExpiry, ← he, Nat.mod_eq_of_lt hl, ht]

theorem exec_partnerIdleChange (hl : l < 60) (idle : Bool) : exec (.partnerIdleChange dt l idle) s
    = .next (if e.laneState l = 4 ∨ e.laneState l = 5
      then (e.setB R.LN_Ll_STAT_RX_IDLE idle l).laneUpd l fun x =>
        { x with idleFrom := if idle then some e.clk else none }
      else e) := by
  change execPartnerIdleChange dt l idle s = _
  simp only [execPartnerIdleChange, ← he, Nat.mod_eq_of_lt hl]

theorem exec_idleEntry (hp : p < 48) : exec (.idleEntry dt p) s = .next (if e.mayIdle p then e.idleLanes p else e) := by
  change execIdleEntry dt p s = _
  simp only [execIdleEntry, ← he, Nat.mod_eq_of_lt hp]

theorem exec_phaseBeacon (hl : l < 60) : exec (.phaseBeacon dt l) s
    = .next (if e.laneState l = 5 ∧ e.on R.LN_Ll_STAT_IDLE l = true ∧ (e.laneRec l).beacon ≠ e.msIndex
      then (e.emit (.beacon l)).laneUpd l fun x => { x with beacon := e.msIndex } else e) := by
  change execPhaseBeacon dt l s = _
  simp only [execPhaseBeacon, ← he, Nat.mod_eq_of_lt hl]

theorem exec_idleExit (hp : p < 48) : exec (.idleExit dt p) s
    = .next (if (List.range 8).all fun c => (e.queue p c).isEmpty then e else e.wakePort p) := by
  change execIdleExit dt p s = _
  simp only [execIdleExit, ← he, Nat.mod_eq_of_lt hp]

/-! ### Rate matching -/

theorem exec_rateMatchMeasure (hl : l < 60) (ofs : Int) : exec (.rateMatchMeasure dt l ofs) s
    = .next (if (e.laneState l = 4 ∨ e.laneState l = 5) ∧ e.matchDue l = true
      then (if e.matchOver l ofs = 10 then (e.matchShown l ofs).raise 37 l else e.matchShown l ofs).countMatch l ofs
      else e) := by
  change execRateMatchMeasure dt l ofs s = _
  simp only [execRateMatchMeasure, ← he, Nat.mod_eq_of_lt hl]
  exact (apply_ite Host.Outcome.next _ _ _).symm

theorem exec_elasticOverflow_of_rx (hl : l < 60) {r : Rx} (hp : (e.raise 37 l).lanePort l = some p)
    (hr : Tab.find? (e.raise 37 l).cl.rx p = some r) : exec (.elasticOverflow dt l) s
      = .next ((({ e.raise 37 l with cl := { (e.raise 37 l).cl with rx := Tab.del (e.raise 37 l).cl.rx p } }.freeCells p
          r.res.cls r.cells).count p 19).tallyFrame 2 p
            { bytes := r.bytes, inPort := p, reason := 19, stamp := r.line, res := r.res }) := by
  change execElasticOverflow dt l s = _
  simp only [execElasticOverflow, ← he, Nat.mod_eq_of_lt hl, hp, hr]

/-- With no frame in passage an overflow only raises LANE_RM. -/
theorem exec_elasticOverflow_of_none (hl : l < 60)
    (h : ∀ p, (e.raise 37 l).lanePort l = some p → Tab.find? (e.raise 37 l).cl.rx p = none) :
    exec (.elasticOverflow dt l) s = .next (e.raise 37 l) := by
  change execElasticOverflow dt l s = _
  simp only [execElasticOverflow, ← he, Nat.mod_eq_of_lt hl]
  split
  · rfl
  next p hp => simp only [h p hp]

end

theorem exec_injectOne {l : Nat} (hl : l < 60) (s : State) (init : Nat) : exec (.injectOne init l) s
    = .next (s.directWrite init (0x601020 + 0x40 * l) [] fun q =>
        if q.mayInject l then q.emit (.symbolError l) else q) := by
  change execInjectOne init l s = _
  simp only [execInjectOne, Nat.mod_eq_of_lt hl]

end Sys2Proof.Machine

/-- Settles O47, row by row: the row's condition chooses the branch, and the branch is what the statement names. -/
theorem laneEventsComplete : Obligations.LaneEventsComplete := by
  unfold Obligations.LaneEventsComplete
  refine ⟨?wave, ?waveShown, ?signal, ?trained, ?cacheTimeout, ?trainTimeout, ?quietEnd, ?lockTimeout, ?lock, ?helloCapex,
    ?helloActive, ?capexTimeout, ?helloSend, ?loss, ?cacheHold, ?partnerIdle, ?idle, ?beacon, ?wake, ?offset, ?overflow,
    ?overflowNone, ?inject⟩
  case wave =>
    intro s e dt t he hfrom hleft hpassed
    have hdue : e.waveDue = true := by
      rw [State.waveDue_of_from hfrom, decide_eq_true hleft, decide_eq_true hpassed]; rfl
    rw [exec_trainingWaveOpen he, if_pos hdue]
    rfl
  case waveShown =>
    intro s e dt he hdue hdie
    rw [exec_trainingWaveOpen he, if_neg (by rw [hdue]; decide), if_neg (by rw [hdie]; decide)]
  case signal =>
    intro s e dt l he hl hdetect hclocked hopen hquiet
    rw [exec_partnerSignal he hl, if_pos ((e.signalTaken_iff l).mpr ⟨hdetect, hclocked, hopen, hquiet⟩)]
  case trained =>
    intro s e dt l taps pre eq he hl htrain
    rw [exec_trainingComplete he hl, if_pos htrain]
  case cacheTimeout =>
    intro s e dt l he hl htrain hcached hpassed
    rw [exec_cacheLockTimeout he hl, if_pos ⟨htrain, hcached, hpassed⟩]
  case trainTimeout =>
    intro s e dt l he hl htrain htrains hpassed
    rw [exec_trainToExpiry he hl, if_pos ⟨htrain, htrains, hpassed⟩]
  case quietEnd =>
    intro s e dt l he hl hdetect hquiet
    rw [exec_failIdleEnd he hl, if_pos ⟨hdetect, hquiet⟩]
  case lockTimeout =>
    intro s e dt l he hl hlock haligned hpassed
    rw [exec_lockTimeout he hl, if_pos ⟨hlock, haligned, hpassed⟩]
  case lock =>
    intro s e dt l he hl hlock
    rw [exec_lockReached he hl, if_pos hlock]
  case helloCapex =>
    intro s e dt l p flags node port h he hl hp hcapex hh hstate
    rw [exec_helloReceived_of_port he hl hp hcapex (.inl hstate) hh, if_pos hstate]
    rfl
  case helloActive =>
    intro s e dt l p flags node port h he hl hp hcapex hh hstate
    rw [exec_helloReceived_of_port he hl hp hcapex (.inr hstate) hh, if_neg (by rw [hstate]; decide)]
    rfl
  case capexTimeout =>
    intro s e dt p he hp hen hcapex hpassed
    rw [exec_capexTimeout he hp, if_pos ⟨hen, hcapex, hpassed⟩]
  case helloSend =>
    intro s e dt p he hp hen hcapex hstate hpassed
    rw [exec_helloSend he hp, if_pos ⟨hen, hcapex, hstate, hpassed⟩]
  case loss =>
    intro s e dt l he hl hstate hlost
    rw [exec_laneLoss he hl, if_pos ⟨hstate, hlost⟩]
  case cacheHold =>
    intro s e dt l t he hl ht hpassed
    rw [exec_cacheHoldExpiry_of_lost he hl ht, if_pos hpassed]
  case partnerIdle =>
    intro s e dt l idle he hl hstate
    rw [exec_partnerIdleChange he hl, if_pos hstate]
  case idle =>
    intro s e dt p he hp hmay
    rw [exec_idleEntry he hp, if_pos hmay]
  case beacon =>
    intro s e dt l he hl hactive hidle hnew
    rw [exec_phaseBeacon he hl, if_pos ⟨hactive, hidle, hnew⟩]
  case wake =>
    intro s e dt p k he hp hk hqueued
    rw [exec_idleExit he hp, if_neg]
    intro hempty
    have := List.all_eq_true.mp hempty k (List.mem_range.mpr hk)
    rw [hqueued] at this
    contradiction
  case offset =>
    intro s e dt l ofs he hl hstate hdue
    rw [exec_rateMatchMeasure he hl, if_pos ⟨hstate, (e.matchDue_iff l).mpr hdue⟩]
    rfl
  case overflow =>
    intro s e dt l p r he hl hp hr
    exact exec_elasticOverflow_of_rx he hl hp hr
  case overflowNone =>
    intro s e dt l he hl hnone
    exact exec_elasticOverflow_of_none he hl hnone
  case inject =>
    rintro s _ init l rfl ha hl hmay
    rw [exec_injectOne hl, s.directWrite_of_writable _ ha (State.writable_nil _)]
    exact congrArg _ (State.direct_congr _ (if_pos hmay))
end

section
/-! SUPPORT. The rows of a substitution's exchange, each through the branch that its condition chooses (R295, R296). -/

open Sys2Proof Sys2Proof.Machine

namespace Sys2Proof.Machine

/-- A grove accepts its partner's substitution for a port: it may, its spare is wired and free and not in a test, and the port's
lanes are not forwarded-clock ones (R295). -/
def State.subAccepts (s : State) (p : Nat) : Bool :=
  s.on R.LN_GRVg_CFG_SUB_ACCEPT (p / 4) && s.on R.LN_GRVg_CFG_SPARE_WIRED (p / 4) && s.subState (p / 4) == 0
  && s.laneState (spareOf (p / 4)) != 6 && !modeFwdClk (s.portMode p)

theorem State.subAccepts_iff (s : State) (p : Nat) : s.subAccepts p = true
    ↔ s.on R.LN_GRVg_CFG_SUB_ACCEPT (p / 4) = true ∧ s.on R.LN_GRVg_CFG_SPARE_WIRED (p / 4) = true
      ∧ s.subState (p / 4) = 0 ∧ s.laneState (spareOf (p / 4)) ≠ 6 ∧ modeFwdClk (s.portMode p) = false := by
  simp [State.subAccepts, and_assoc]

theorem State.subAccepts_eq_false (s : State) (p : Nat) : s.subAccepts p = false
    ↔ s.on R.LN_GRVg_CFG_SUB_ACCEPT (p / 4) = false ∨ s.on R.LN_GRVg_CFG_SPARE_WIRED (p / 4) = false
      ∨ s.subState (p / 4) ≠ 0 ∨ s.laneState (spareOf (p / 4)) = 6 ∨ modeFwdClk (s.portMode p) = true := by
  simp only [State.subAccepts, Bool.and_eq_false_iff, beq_eq_false_iff_ne, bne_eq_false_iff_eq, Bool.not_eq_false', or_assoc,
    ne_eq]

section

variable {s e : State} {dt : Nat} (he : e = s.elapse dt)

include he

/-! ### The partner's request -/

theorem exec_subReq_of_port {p pos : Nat} (hp : p < 48) (hpos : pos < 4) (hen : e.on R.PT_CFGp_EN p = true)
    (hlane : pos < modeLanes (e.portMode p)) (hcapex : e.on R.LN_GLOBAL_CFG_CAPEX_EN = true) : exec (.subReq dt p pos) s
      = .next (if e.subAccepts p
        then ((e.startSub (p / 4) { port := p, pos := pos, since := e.clk, remote := true }).bridge (p / 4)).sendCapex p 3 pos
        else e.sendCapex p 4 pos) := by
  change execSubReq dt p pos s = _
  simp only [execSubReq, ← he, Nat.mod_eq_of_lt hp, Nat.mod_eq_of_lt hpos]
  rw [if_neg (by simp [hen, hlane, hcapex])]
  exact (apply_ite Host.Outcome.next _ _ _).symm

/-! ### A substitution in hand -/

variable {g : Nat} {b : Subst} (hg : g < 12) (hb : e.subst? g = some b)

include hg hb

theorem exec_subAck_of_subst : exec (.subAck dt g) s
    = .next (if e.subState g = 1 ∧ b.remote = false ∧ b.acked = false then e.bridge g else e) := by
  change execSubAck dt g s = _
  unfold execSubAck
  rw [Nat.mod_eq_of_lt hg, ← he]
  simp only [hb]

theorem exec_subNak_of_subst : exec (.subNak dt g) s
    = .next (if e.subState g = 1 ∧ b.remote = false ∧ b.acked = false then e.abandonSub g .checkFail else e) := by
  change execSubNak dt g s = _
  unfold execSubNak
  rw [Nat.mod_eq_of_lt hg, ← he]
  simp only [hb]

theorem exec_subAckTimeout_of_subst : exec (.subAckTimeout dt g) s
    = .next (if e.subState g = 1 ∧ b.remote = false ∧ b.acked = false ∧ b.since + 10 ^ 11 ≤ e.clk
      then e.abandonSub g .timeout else e) := by
  change execSubAckTimeout dt g s = _
  unfold execSubAckTimeout
  rw [Nat.mod_eq_of_lt hg, ← he]
  simp only [hb]

theorem exec_spareSwitch_of_subst : exec (.spareSwitch dt g) s
    = .next (if e.subState g = 1 ∧ b.calib = false ∧ e.laneState (spareOf g) = 3
        ∧ e.on R.LN_Ll_STAT_ALIGNED (spareOf g) = true
      then (e.switchToSpare g).subActive g else e) := by
  change execSpareSwitch dt g s = _
  unfold execSpareSwitch
  rw [Nat.mod_eq_of_lt hg, ← he]
  simp only [hb]

theorem exec_subDone_of_subst : exec (.subDone dt g) s
    = .next (if e.subState g = 1 ∨ e.subState g = 2
      then { e with subst := Tab.put e.subst g { b with gotDone := true } }.subActive g else e) := by
  change execSubDone dt g s = _
  unfold execSubDone
  rw [Nat.mod_eq_of_lt hg, ← he]
  simp only [hb]

theorem exec_subRel_of_subst : exec (.subRel dt g) s
    = .next (if e.subState g = 3 then e.startRelease g
      else if e.subState g = 4 ∧ e.laneState (laneOf b.port + b.pos) = 3
          ∧ e.on R.LN_Ll_STAT_ALIGNED (laneOf b.port + b.pos) = true
        then e.endRelease g else e) := by
  change execSubRel dt g s = _
  unfold execSubRel
  rw [Nat.mod_eq_of_lt hg, ← he]
  simp only [hb]

/-- A late attempt is abandoned unless a calibration holds its ready spare; a late release leaves the lane on the spare. -/
theorem exec_substitutionTimeout_of_late
    (hlate : b.since + e.get R.LN_GLOBAL_CFG_TRAIN_TO * 10 ^ 10 + 3 * 10 ^ 11 ≤ e.clk) :
    exec (.substitutionTimeout dt g) s
      = .next (if e.subState g = 1 ∧ (b.calib && e.spareReady g) = false then e.abandonSub g .timeout
        else if e.subState g = 4 then ((((e.set R.LN_GRVg_STAT_SUB_STATE 3 g).laneDark (laneOf b.port + b.pos)).laneGo
          (laneOf b.port + b.pos) 0).set R.LN_Ll_STAT_IDLE 1 (laneOf b.port + b.pos)).answerSub g .timeout
        else e) := by
  change execSubstitutionTimeout dt g s = _
  unfold execSubstitutionTimeout
  rw [Nat.mod_eq_of_lt hg, ← he]
  simp only [hb, hlate, true_and, and_true]

end

end Sys2Proof.Machine

/-- Settles O48, row by row: the row's condition chooses the branch, and the branch is what the statement names. -/
theorem substitutionEventsComplete : Obligations.SubstitutionEventsComplete := by
  unfold Obligations.SubstitutionEventsComplete
  refine ⟨?accepted, ?declined, ?ack, ?nak, ?ackTimeout, ?switch, ?done, ?release, ?released, ?lateAttempt, ?lateRelease⟩
  case accepted =>
    intro s e dt p pos he hp hpos hen hlane hcapex haccept hwired hfree hnoTest hfwd
    rw [exec_subReq_of_port he hp hpos hen hlane hcapex,
      if_pos ((e.subAccepts_iff p).mpr ⟨haccept, hwired, hfree, hnoTest, hfwd⟩)]
  case declined =>
    intro s e dt p pos he hp hpos hen hlane hcapex hrefuses
    rw [exec_subReq_of_port he hp hpos hen hlane hcapex,
      if_neg (by rw [(e.subAccepts_eq_false p).mpr hrefuses]; decide)]
  case ack =>
    intro s e dt g b he hg hb hstate hlocal hopen
    rw [exec_subAck_of_subst he hg hb, if_pos ⟨hstate, hlocal, hopen⟩]
  case nak =>
    intro s e dt g b he hg hb hstate hlocal hopen
    rw [exec_subNak_of_subst he hg hb, if_pos ⟨hstate, hlocal, hopen⟩]
  case ackTimeout =>
    intro s e dt g b he hg hb hstate hlocal hopen hpassed
    rw [exec_subAckTimeout_of_subst he hg hb, if_pos ⟨hstate, hlocal, hopen, hpassed⟩]
  case switch =>
    intro s e dt g b he hg hb hstate hcalib hlock haligned
    rw [exec_spareSwitch_of_subst he hg hb, if_pos ⟨hstate, hcalib, hlock, haligned⟩]
  case done =>
    intro s e dt g b he hg hb hstate
    rw [exec_subDone_of_subst he hg hb, if_pos hstate]
  case release =>
    intro s e dt g b he hg hb hactive
    rw [exec_subRel_of_subst he hg hb, if_pos hactive]
  case released =>
    intro s e dt g b he hg hb hreleasing hlock haligned
    rw [exec_subRel_of_subst he hg hb, if_neg (by rw [hreleasing]; decide), if_pos ⟨hreleasing, hlock, haligned⟩]
  case lateAttempt =>
    intro s e dt g b he hg hb hstate hlate hnotHeld
    rw [exec_substitutionTimeout_of_late he hg hb hlate, if_pos ⟨hstate, hnotHeld⟩]
  case lateRelease =>
    intro s e dt g b he hg hb hreleasing hlate
    rw [exec_substitutionTimeout_of_late he hg hb hlate, if_neg, if_pos hreleasing]
    rintro ⟨hattempt, -⟩
    rw [hreleasing] at hattempt
    contradiction
end

section
/-! SUPPORT. The rows of a port's causes, holds, degradation windows, module presence, pauses and policer, each through the
branch that its condition chooses (R313, R314, R316, R318, R319, R322, R323). -/

open Sys2Proof Sys2Proof.Machine

namespace Sys2Proof.Machine

/-! ### What a row makes of a port -/

section

variable {s : State}

theorem State.degRoll_of_due (h : s.degWin < s.clk / 10 ^ 9) : s.degRoll
    = (List.range 48).foldl (fun t p => if t.portState p = 0 then t else t.degWindow p (s.clk / 10 ^ 9 - s.degWin - 1))
        { s with degWin := s.clk / 10 ^ 9 } :=
  if_pos (decide_eq_true h)

theorem State.policeRoll_of_due (h : s.polWin < s.clk / 10 ^ 9) : s.policeRoll
    = { s with polWin := s.clk / 10 ^ 9, police := 0, policed := []
               port := s.port.map fun r => (r.1, { r.2 with admitted := 0 }) } :=
  if_pos (decide_eq_true h)

end

/-- A state in which a port's errors have been counted: corrected codewords and symbols, uncorrectable codewords, errored
blocks (R313). -/
def State.errorsCounted (s : State) (p corr sym unc blk : Nat) : State :=
  (((s.count p 13 corr).count p 14 sym).count p 15 unc).count p 16 blk

/-- The errors of a port's window in progress, with new ones (R313). -/
def State.windowWith (s : State) (p sym unc blk : Nat) : Nat × Nat × Nat :=
  ((s.portOf p).win.1 + unc, (s.portOf p).win.2.1 + sym, (s.portOf p).win.2.2 + blk)

/-- A state in which a port's window in progress holds some errors, which degrade it where they reach a threshold (R313). -/
def State.windowHolds (s : State) (p : Nat) (w : Nat × Nat × Nat) : State :=
  s.portUpd p fun x =>
    { x with win := w, degraded := x.degraded || s.overThr p w, clean := if s.overThr p w then 0 else x.clean }

/-- A presence change starts the wait of an enabled port of the module's grove, whose causes are judged (R314). -/
def State.presenceJudged (s : State) (p : Nat) : State :=
  if s.on R.PT_CFGp_EN p then (s.portUpd p fun x => { x with prs := some s.clk }).judgePort p else s

/-- A state in which the classes of a port whose quanta have run out are no longer paused (R322). -/
def State.pausesExpired (s : State) (p : Nat) : State :=
  s.portUpd p fun x => { x with paused := x.paused.filter fun r => decide (s.clk < r.2) }

section

variable {s e : State} {dt p : Nat} (he : e = s.elapse dt)

include he

/-! ### Causes and holds -/

theorem exec_causeAppears (hp : p < 48) : exec (.causeAppears dt p) s
    = .next (if (e.causeSync p).portState p = 2 ∧ (e.causeSync p).causes p ≠ 0 then (e.causeSync p).enterHoldPort p
      else e.causeSync p) := by
  change execCauseAppears dt p s = _
  simp only [execCauseAppears, ← he, Nat.mod_eq_of_lt hp]

theorem exec_causeClears (hp : p < 48) : exec (.causeClears dt p) s
    = .next (if ((e.causeSync p).portState p = 1 ∨ (e.causeSync p).portState p = 3 ∨ (e.causeSync p).portState p = 4)
        ∧ (e.causeSync p).causes p = 0
      then (e.causeSync p).portUp p else e.causeSync p) := by
  change execCauseClears dt p s = _
  simp only [execCauseClears, ← he, Nat.mod_eq_of_lt hp]

theorem exec_holdTimeExpiry (hp : p < 48) : exec (.holdTimeExpiry dt p) s
    = .next (if e.holdDue p then e.holdEnd p else e) := by
  change execHoldTimeExpiry dt p s = _
  simp only [execHoldTimeExpiry, ← he, Nat.mod_eq_of_lt hp]

/-! ### Degradation windows -/

theorem exec_degradation (hp : p < 48) (corr sym unc blk : Nat) : exec (.degradation dt p corr sym unc blk) s
    = .next (if e.degRoll.portState p = 0 then e.degRoll
      else if (e.degRoll.errorsCounted p corr sym unc blk).overThr p (e.degRoll.windowWith p sym unc blk)
        then ((e.degRoll.errorsCounted p corr sym unc blk).windowHolds p (e.degRoll.windowWith p sym unc blk)).judgePort p
      else (e.degRoll.errorsCounted p corr sym unc blk).windowHolds p (e.degRoll.windowWith p sym unc blk)) := by
  change execDegradation dt p corr sym unc blk s = _
  simp only [execDegradation, ← he, Nat.mod_eq_of_lt hp]
  exact (apply_ite Host.Outcome.next _ _ _).symm

theorem exec_degradationWindowEnd : exec (.degradationWindowEnd dt) s = .next e.degRoll := by
  rw [he]
  rfl

/-! ### Module presence -/

theorem exec_presenceChange {g : Nat} (hg : g < 12) (low : Bool) : exec (.presenceChange dt g low) s
    = .next (if e.on R.PT_MODg_PRS g == low then e
      else ((List.range 4).map fun i => 4 * g + i).foldl State.presenceJudged (e.setB R.PT_MODg_PRS low g)) := by
  change execPresenceChange dt g low s = _
  simp only [execPresenceChange, ← he, Nat.mod_eq_of_lt hg]
  rfl

/-! ### Received pauses -/

theorem exec_pauseFrame (hp : p < 48) (pfc : Bool) (quanta : List (Nat × Nat)) : exec (.pauseFrame dt p pfc quanta) s
    = .next (e.takePause p pfc quanta) := by
  change execPauseFrame dt p pfc quanta s = _
  rw [execPauseFrame, ← he, Nat.mod_eq_of_lt hp]

theorem exec_pauseQuantaExpiry (hp : p < 48) : exec (.pauseQuantaExpiry dt p) s
    = .next ((e.pausesExpired p).pauseSync p) := by
  change execPauseQuantaExpiry dt p s = _
  simp only [execPauseQuantaExpiry, ← he, Nat.mod_eq_of_lt hp]
  rfl

/-! ### The policer -/

theorem exec_policerWindow : exec (.policerWindow dt) s = .next e.policeRoll := by
  rw [he]
  rfl

end

end Sys2Proof.Machine

/-- Settles O49, row by row: the row's condition chooses the branch, and the branch is what the statement names. -/
theorem portEventsComplete : Obligations.PortEventsComplete := by
  unfold Obligations.PortEventsComplete
  refine ⟨?appears, ?clears, ?holdEnds, ?errors, ?windowEnds, ?presence, ?pause, ?resume, ?policer⟩
  case appears =>
    intro s e dt p he hp hup hcause
    rw [exec_causeAppears he hp, if_pos ⟨hup, hcause⟩]
  case clears =>
    intro s e dt p he hp hdown hclear
    rw [exec_causeClears he hp, if_pos ⟨hdown, hclear⟩]
  case holdEnds =>
    intro s e dt p he hp hdue
    rw [exec_holdTimeExpiry he hp, if_pos hdue]
  case errors =>
    intro s e dt p corr sym unc blk he hp hen
    rw [exec_degradation he hp, if_neg hen]
    rfl
  case windowEnds =>
    intro s e dt he hended
    rw [exec_degradationWindowEnd he, State.degRoll_of_due hended]
  case presence =>
    intro s e dt g low he hg hchanged
    rw [exec_presenceChange he hg, if_neg (by rw [hchanged]; decide)]
    rfl
  case pause =>
    intro s e dt p pfc quanta he hp
    exact exec_pauseFrame he hp pfc quanta
  case resume =>
    intro s e dt p he hp
    exact exec_pauseQuantaExpiry he hp
  case policer =>
    intro s e dt he hended
    rw [exec_policerWindow he, State.policeRoll_of_due hended]
end

section
/-! SUPPORT. PORT.CFG through its body under the conditions in which it is carried out (R308, R309, R356, R561). -/

open Sys2Proof Sys2Proof.Machine

namespace Sys2Proof.Machine

/-- A request of PORT.CFG is allowed: its port and fields are in range, an enabled port has a mode, is awake and has its
lanes, a port whose grove's substitution is under way keeps its mode, and the shared pool holds the reserves (R308, R309,
R356, R561). -/
structure State.PortCfgAllowed (q : State) (c : Ctx) : Prop where
  port : c.bits 1 5 0 < 48
  range : R.PT_CFGp.ok (c.arg 2) = true
  moded : bitOf (c.arg 2) 0 = true → bits (c.arg 2) 7 4 ≠ 0
  awake : bitOf (c.arg 2) 0 = true → q.portPower (c.bits 1 5 0) < 2
  settled : bits (c.arg 2) 7 4 = q.portMode (c.bits 1 5 0) ∨ q.subState (c.bits 1 5 0 / 4) = 0
  fits : modeFits (c.bits 1 5 0) (bits (c.arg 2) 7 4) = true
  lanes : bitOf (c.arg 2) 0 = true → q.lanesFit (c.bits 1 5 0) (bits (c.arg 2) 7 4) = true
  pool : q.reserveMore (c.bits 1 5 0) (leastCells (bits (c.arg 2) 31 18)) ≤ q.get R.CL_POOL_STAT_SHARED_FREE

/-- An allowed request whose writes no lock refuses reconfigures its port. -/
theorem portCfg_body_of_allowed {c : Ctx} {q : State} (h : q.PortCfgAllowed c)
    (hfree : q.unlocked (R.PT_CFGp.writes (c.arg 2) (c.bits 1 5 0))) :
    cmdPortCfg.body c q = done (q.portCfgWrite (c.bits 1 5 0) (R.PT_CFGp.writes (c.arg 2) (c.bits 1 5 0))) := by
  obtain ⟨hport, hrange, hmoded, hawake, hsettled, hfits, hlanes, hpool⟩ := h
  refine (need_pos ?badArg).trans <| (need_pos ?notInMode).trans <| (need_pos ?busy).trans <| (need_pos ?checkFail).trans <|
    (need_pos (decide_eq_true hpool)).trans ?write
  case badArg => simpa [hport, hrange, Decidable.imp_iff_not_or] using hmoded
  case notInMode => simpa [Decidable.imp_iff_not_or] using hawake
  case busy => simpa using hsettled
  case checkFail => simpa [hfits, Decidable.imp_iff_not_or] using hlanes
  case write => simp only [State.unlocked_find? hfree]

end Sys2Proof.Machine

/-- Settles O28: in each clause the conditions that the command's body asks for hold, and no lock refuses its writes. -/
theorem portCommandsComplete : Obligations.PortCommandsComplete := by
  unfold Obligations.PortCommandsComplete
  refine ⟨?status, ?cfg, ?downCfg, ?flowControl, ?module, ?police⟩
  case status =>
    exact .of_body (fun _ _ => rfl) (by decide) (fun _ _ hport => need_pos (decide_eq_true hport)) fun _ _ _ _ => by simp
  case cfg =>
    refine .of_silent_body (fun _ _ => rfl) (by decide) ?_
    rintro c q ⟨hport, hrange, hmoded, hawake, hsettled, hfits, hlanes, hpool, hfree⟩
    exact portCfg_body_of_allowed ⟨hport, hrange, hmoded, hawake, hsettled, hfits, hlanes, hpool⟩ hfree
  case downCfg =>
    refine .of_silent_body (fun _ _ => rfl) (by decide) ?_
    rintro c q ⟨hport, hhold, hdeg, hdeg2, hfree⟩
    exact (need_pos (by rw [decide_eq_true hport, hhold, hdeg, hdeg2]; rfl)).trans (writeCfg_unlocked hfree)
  case flowControl =>
    refine .of_silent_body (fun _ _ => rfl) (by decide) ?_
    rintro c q ⟨hport, hrange, hthresholds, hfree⟩
    exact (need_pos (by rw [decide_eq_true hport, hrange, decide_eq_true hthresholds]; rfl)).trans (writeCfg_unlocked hfree)
  case module =>
    refine .of_body (fun _ _ => rfl) (by decide) ?_ fun _ _ _ _ => by simp
    rintro c q ⟨hgrove, hfree⟩
    exact (need_pos (decide_eq_true hgrove)).trans (writeCfg_unlocked hfree)
  case police =>
    refine .of_silent_body (fun _ _ => rfl) (by decide) ?_
    rintro c q ⟨hmode, hrange, hfree⟩
    refine (need_pos ?_).trans <| (need_pos hrange).trans (writeCfg_unlocked hfree)
    simpa [Decidable.imp_iff_not_or, or_comm] using hmode
end

section
/-! SUPPORT. The FWD commands, each through its body under the conditions in which it is carried out (R346, R347, R350, R355,
R356, R369). -/

open Sys2Proof Sys2Proof.Machine

namespace Sys2Proof.Machine

/-- The image that FWD.READ names: the active one or its shadow. -/
def Ctx.readImage (c : Ctx) (q : State) : Nat := if c.bit 1 4 then q.epoch else 1 - q.epoch

/-- What FWD.READ answers of an entry: its index with HIT, then its words, those beyond the entry 0 (R369; that HIT is 1 also
in a read by index is log entry 104). -/
def State.entryWords (q : State) (img t j : Nat) : List Nat :=
  (2 ^ 31 + j) :: (List.range 18).map fun k => (q.tblGet img t j).getD k 0

section

variable {c : Ctx} {q : State}

theorem fwdRead_body_index (hindex : c.bit 1 5 = false) (ht : c.bits 1 3 0 < 7) (hlen : 2 ≤ c.args.length)
    (hi : c.bits 2 17 0 < tblSize (c.bits 1 3 0)) :
    cmdFwdRead.body c q = done q (q.entryWords (c.readImage q) (c.bits 1 3 0) (c.bits 2 17 0)) := by
  refine (if_neg (by rw [hindex]; decide)).trans (need_pos ?_)
  rw [decide_eq_true ht, decide_eq_true hlen, decide_eq_true hi]
  rfl

/-- A read by key answers the entry that the key finds, or zeros where it finds none (R369). -/
theorem fwdRead_body_key (hkey : c.bit 1 5 = true) (hhashed : tblHashed (c.bits 1 3 0) = true) (hlen : 3 ≤ c.args.length) :
    cmdFwdRead.body c q = done q
      (((q.readByKey (c.readImage q) (c.bits 1 3 0) (c.args.drop 2)).map (q.entryWords (c.readImage q) (c.bits 1 3 0))).getD
        (List.replicate 19 0)) := by
  refine (if_pos hkey).trans <| (need_pos (by rw [hhashed, decide_eq_true hlen]; rfl)).trans ?_
  unfold Ctx.readImage
  split
  next j hhit => rw [hhit]; rfl
  next hmiss => rw [hmiss]; rfl

end

end Sys2Proof.Machine

/-- Settles O29: in each clause the conditions that the command's body asks for hold, and no lock refuses its writes. -/
theorem fwdCommandsComplete : Obligations.FwdCommandsComplete := by
  unfold Obligations.FwdCommandsComplete
  refine ⟨?status, ?write, ?readIndex, ?readHit, ?readMiss, ?commit, ?discard, ?bufCfg, ?epochCfg⟩
  case status =>
    exact .of_body (fun _ _ => rfl) (by decide) (fun _ _ _ => rfl) fun _ _ _ _ => by simp
  case write =>
    refine .of_body (fun _ _ => rfl) (by decide) ?_ fun _ _ _ _ => by simp
    rintro c q ⟨ht, hlen, hplan, hfree⟩
    exact (need_pos (by rw [decide_eq_true ht, decide_eq_true hlen]; rfl)).trans <|
      (need_pos (beq_iff_eq.mpr hplan)).trans (unlessLocked_free hfree)
  case readIndex =>
    refine .of_body (fun _ _ => rfl) (by decide) ?_ fun _ _ _ _ => by simp
    rintro c q ⟨hindex, ht, hlen, hi⟩
    exact fwdRead_body_index hindex ht hlen hi
  case readHit =>
    refine .of_body (fun _ _ => rfl) (by decide) ?_ fun _ _ _ _ => by simp
    rintro c q ⟨hkey, hhashed, hlen, hhit⟩
    obtain ⟨j, hj⟩ := Option.isSome_iff_exists.mp hhit
    rw [hj, fwdRead_body_key hkey hhashed hlen, Ctx.readImage, hj]
    rfl
  case readMiss =>
    refine .of_body (fun _ _ => rfl) (by decide) ?_ fun _ _ _ _ => by simp
    rintro c q ⟨hkey, hhashed, hlen, hmiss⟩
    rw [fwdRead_body_key hkey hhashed hlen, Ctx.readImage, hmiss]
    rfl
  case commit =>
    refine .of_body (fun _ _ => rfl) (by decide) ?_
    rintro c q ⟨hidle, hfree⟩
    exact (need_pos (by rw [hidle]; rfl)).trans (unlessLocked_free hfree)
  case discard =>
    exact .of_silent_body (fun _ _ => rfl) (by decide) fun _ _ hidle => need_pos (by rw [hidle]; rfl)
  case bufCfg =>
    refine .of_silent_body (fun _ _ => rfl) (by decide) ?_
    rintro c q ⟨hport, hshare, hleast, hpool, hfree⟩
    obtain ⟨free, hpool⟩ := Option.isSome_iff_exists.mp hpool
    refine (need_pos (by rw [decide_eq_true hport, hshare, hleast]; rfl)).trans ?_
    rw [hpool]
    exact writeCfg_unlocked hfree
  case epochCfg =>
    refine .of_silent_body (fun _ _ => rfl) (by decide) ?_
    rintro c q ⟨hrange, hfree⟩
    exact (need_pos hrange).trans (writeCfg_unlocked hfree)
end

section
/-! SUPPORT. The rows of reception, of the trap queues, of the bank arbiters and of the epochs, each through the branch that its
condition chooses (R332, R333, R340, R347, R349, R355, R359, R360). -/

open Sys2Proof Sys2Proof.Machine

namespace Sys2Proof.Machine

/-! ### What a row begins, takes or grants -/

/-- The frame that a header begins: what the lookup in the active image makes of it, and its stamps (R96, R107, R332). -/
def State.headerRx (s : State) (p ago rho : Nat) (b : List Byte) : Rx where
  bytes := []
  res := s.merge p b
  line := s.rxStamp p s.lineTb (min ago s.clk) (min rho (rhoMax (s.portMode p)))
  own := s.rxStamp p (s.msgTb b (s.svlan s.epoch p)) (min ago s.clk) (min rho (rhoMax (s.portMode p)))
  extra := s.ingressTerms p b (s.svlan s.epoch p)

/-- What the control cores get of a trapped frame: its bytes, with its stamp where it has one (R99, R340). -/
def State.trapOut (s : State) (t : Trap) : Out :=
  match t.stamp with
  | some x => .trapped t.port x.tb x.stepSeq x.fine (s.stampWords x) t.bytes
  | none => .trapped t.port 0 0 false [] t.bytes

/-- A bank's arbiter once positions have presented requests, `agent` and `tally` those of the T port (R358, R359). -/
def State.presented (s : State) (k : Nat) (reqs : List Nat) (agent tally : Bool) : Arb :=
  { s.arbOf k with
    reqs := present (s.arbOf k).reqs ((reqs.filter fun r => decide (r < 24)) ++ (if agent || tally then [24] else []))
    tAgent := (s.arbOf k).tAgent || agent
    tTally := (s.arbOf k).tTally || tally }

/-- A state with another arbiter at a bank. -/
def State.putArb (s : State) (k : Nat) (a : Arb) : State := { s with cl := { s.cl with arbs := Tab.put s.cl.arbs k a } }

/-- Granting a bank to a position turns it where it is parked elsewhere (R358, R359). -/
def State.turnsTo (s : State) (k w : Nat) : Bool := s.get R.CL_BANKk_STAT_PARK k != w

/-- A state in which a bank has been granted to the winner among its requests: the bank is taken for the access, and its
status and counters show it (R358 to R360). -/
def State.granted (s : State) (k w : Nat) (a : Arb) : State :=
  let t := s.putArb k { a.grant w with free := s.clk + if s.turnsTo k w then 800 else 400 }
  let t := (t.set R.CL_BANKk_STAT_PARK w k).set R.CL_BANKk_STAT_MAX_WAIT
    (max (s.get R.CL_BANKk_STAT_MAX_WAIT k) (satN 63 (a.grant w).longest)) k
  let t := t.countProg (0x100 + k) 0 0 1
  if s.turnsTo k w then t.countProg (0x140 + k) 0 0 1 else t

/-- What a bank does with the requests before its arbiter: where it is free it is granted to their winner, and a granted read
shows what the check bits find; else they stay (R352, R359, R360). -/
def State.arbitrate (s : State) (k : Nat) (a : Arb) (ecc p c : Nat) : State :=
  match a.winner with
  | none => s.putArb k a
  | some w =>
    if s.clk < a.free then s.putArb k a
    else if w < 12 then s.granted k w a
    else (s.granted k w a).bankRead k ecc p c (w == 12 + p / 4)

section

variable {s : State} {k w : Nat} {a : Arb}

theorem State.arbitrate_of_no_winner (hw : a.winner = none) (ecc p c : Nat) :
    s.arbitrate k a ecc p c = s.putArb k a := by
  simp only [State.arbitrate, hw]

theorem State.arbitrate_of_taken (hw : a.winner = some w) (htaken : s.clk < a.free) (ecc p c : Nat) :
    s.arbitrate k a ecc p c = s.putArb k a := by
  simp only [State.arbitrate, hw, if_pos htaken]

theorem State.arbitrate_of_free (hw : a.winner = some w) (hfree : a.free ≤ s.clk) (ecc p c : Nat) :
    s.arbitrate k a ecc p c
      = if w < 12 then s.granted k w a else (s.granted k w a).bankRead k ecc p c (w == 12 + p / 4) := by
  simp only [State.arbitrate, hw, if_neg (Nat.not_lt.mpr hfree)]

end

section

variable {s e : State} {dt p : Nat} (he : e = s.elapse dt)

include he

/-! ### Reception -/

theorem exec_headerReceived_of_idle (hp : p < 48) (hup : e.portState p = 2) (hidle : Tab.find? e.cl.rx p = none)
    (ago rho : Nat) (bytes : List Byte) : exec (.headerReceived dt p ago rho bytes) s
    = .next ((e.setRx p (e.headerRx p ago rho (bytes.take 128))).rxBytes p (bytes.take 128)) := by
  change execHeaderReceived dt p ago rho bytes s = _
  simp only [execHeaderReceived, ← he, Nat.mod_eq_of_lt hp]
  exact if_neg (by simp [hup, hidle])

theorem exec_cellArrival (hp : p < 48) (bytes : List Byte) : exec (.cellArrival dt p bytes) s
    = .next (e.rxBytes p (bytes.take 256)) := by
  change execCellArrival dt p bytes s = _
  rw [execCellArrival, ← he, Nat.mod_eq_of_lt hp]

theorem exec_frameEnd_of_rx (hp : p < 48) {bytes : List Byte} {r : Rx} (hr : Tab.find? (e.rxBytes p bytes).cl.rx p = some r)
    (ctxEcc : Bool) : exec (.frameEnd dt p bytes ctxEcc) s = .next ((e.rxBytes p bytes).endRx p r ctxEcc) := by
  change execFrameEnd dt p bytes ctxEcc s = _
  simp only [execFrameEnd, ← he, Nat.mod_eq_of_lt hp, hr]

/-! ### Trap queues -/

theorem exec_trapDelivery_of_trapA {t : Trap} {rest : List Trap} (hhead : e.cl.trapA = t :: rest) :
    exec (.trapDelivery dt 0) s = .next (({ e with cl := { e.cl with trapA := rest } }).emit (e.trapOut t)) := by
  change execTrapDelivery dt 0 s = _
  simp only [execTrapDelivery, ← he, Nat.zero_mod, if_true, hhead]
  rfl

theorem exec_trapDelivery_of_trapB {t : Trap} {rest : List Trap} (hhead : e.cl.trapB = t :: rest) :
    exec (.trapDelivery dt 1) s = .next (({ e with cl := { e.cl with trapB := rest } }).emit (e.trapOut t)) := by
  change execTrapDelivery dt 1 s = _
  simp only [execTrapDelivery, ← he, Nat.one_mod, one_ne_zero, if_false, hhead]
  rfl

/-! ### Bank arbiters -/

theorem exec_bankAccess {k c : Nat} (hk : k < 64) (hp : p < 48) (hc : c < 8) (reqs : List Nat) (agent tally : Bool)
    (ecc : Nat) : exec (.bankAccess dt k reqs agent tally ecc p c) s
    = .next (e.arbitrate k (e.presented k reqs agent tally) ecc p c) := by
  change execBankAccess dt k reqs agent tally ecc p c s = _
  simp only [execBankAccess, ← he, Nat.mod_eq_of_lt hk, Nat.mod_eq_of_lt hp, Nat.mod_eq_of_lt hc]
  rfl

/-! ### Epochs -/

theorem exec_epochDrained : exec (.epochDrained dt) s
    = .next (if e.epochState = 1 ∧ e.oldCount = 0 then e.startResync else e) := by
  rw [he]
  rfl

theorem exec_maxResExpiry : exec (.maxResExpiry dt) s
    = .next (if e.epochState = 1 ∧ e.fwd.actAt + e.fwd.maxRes * 10 ^ 7 ≤ e.clk then e.drainAll.startResync else e) := by
  rw [he]
  rfl

theorem exec_epochActivation : exec (.epochActivation dt) s
    = .next (if e.fwdDue then
        e.activate.foActivated (if e.tbOn e.lineTb then timeWords (e.fwd.commit.getD 0) else [0, 0, 0]) else e) := by
  rw [he]
  rfl

theorem exec_resyncEnd : exec (.resyncEnd dt) s = .next (if e.epochState = 2 then e.endResync.foPoll else e) := by
  rw [he]
  rfl

end

end Sys2Proof.Machine

/-- Settles O50, row by row: the row's condition chooses the branch, and the branch is what the statement names. -/
theorem forwardingEventsComplete : Obligations.ForwardingEventsComplete := by
  unfold Obligations.ForwardingEventsComplete
  refine ⟨?header, ?cell, ?frameEnds, ?trapA, ?trapB, ?granted, ?taken, ?noWinner, ?drained, ?maxRes, ?activation, ?resync⟩
  case header =>
    intro s e dt p ago rho bytes he hp hup hidle
    exact exec_headerReceived_of_idle he hp hup hidle ago rho bytes
  case cell =>
    intro s e dt p bytes he hp
    exact exec_cellArrival he hp bytes
  case frameEnds =>
    intro s e dt p bytes ctxEcc r he hp hr
    exact exec_frameEnd_of_rx he hp hr ctxEcc
  case trapA =>
    intro s e dt t rest he hhead
    exact exec_trapDelivery_of_trapA he hhead
  case trapB =>
    intro s e dt t rest he hhead
    exact exec_trapDelivery_of_trapB he hhead
  case granted =>
    rintro s e dt k reqs agent tally ecc p c w _ he hk hp hc rfl hw hfree
    exact (exec_bankAccess he hk hp hc reqs agent tally ecc).trans (congrArg _ (State.arbitrate_of_free hw hfree ecc p c))
  case taken =>
    rintro s e dt k reqs agent tally ecc p c w _ he hk hp hc rfl hw htaken
    exact (exec_bankAccess he hk hp hc reqs agent tally ecc).trans (congrArg _ (State.arbitrate_of_taken hw htaken ecc p c))
  case noWinner =>
    rintro s e dt k reqs agent tally ecc p c _ he hk hp hc rfl hw
    exact (exec_bankAccess he hk hp hc reqs agent tally ecc).trans (congrArg _ (State.arbitrate_of_no_winner hw ecc p c))
  case drained =>
    intro s e dt he hdraining hnone
    rw [exec_epochDrained he, if_pos ⟨hdraining, hnone⟩]
  case maxRes =>
    intro s e dt he hdraining hexpired
    rw [exec_maxResExpiry he, if_pos ⟨hdraining, hexpired⟩]
  case activation =>
    intro s e dt he hdue
    rw [exec_epochActivation he, if_pos hdue]
  case resync =>
    intro s e dt he hresync
    rw [exec_resyncEnd he, if_pos hresync]
end

section
/-! SUPPORT. The windows of the forwarding tables, of the slot tables and of the stream contexts, and the direct write that
stops a schedule, each through the branch that its condition chooses (R346, R350, R364, R373, R380, R386 to R388, R394, R420,
R427, R453, R660). -/

open Sys2Proof Sys2Proof.Machine

namespace Sys2Proof.Machine

/-! ### A write with GO -/

/-- A write with GO to a window that is not BUSY takes effect. -/
theorem State.windowWrite_of_idle {s : State} {init addr : Nat} {f k : State → State} {busy : Fld}
    (ha : Allowed s.quiet init addr true) (hidle : s.quiet.on busy = false) (hf : k s.quiet = f s.quiet) :
    s.directWrite init addr [] (fun q => if q.on busy then q else k q) = s.quiet.direct f := by
  rw [s.directWrite_of_writable _ ha (State.writable_nil _)]
  exact State.direct_congr _ ((if_neg (by rw [hidle]; decide)).trans hf)

/-! ### Forwarding tables -/

/-- The image that a write of FD_TBL_CTRL names (R346, R364). -/
def State.windowImage (s : State) (w : Nat) : Nat := if bitOf w 28 then s.epoch else 1 - s.epoch

/-- The image that a write names is the active one where IMAGE is set, also once the write's fields stand. -/
theorem State.windowImage_eq_epoch_iff (s : State) (w op tbl : Nat) :
    s.windowImage w = (s.tblFields w op tbl).epoch ↔ bitOf w 28 = true := by
  have hepoch : (s.tblFields w op tbl).epoch = s.epoch := State.get_writes_ne s <| by
    simp [Fld.key, R.FD_EPOCH_STAT_EPOCH, R.FD_TBL_CTRL_IMAGE, R.FD_TBL_CTRL_OP, R.FD_TBL_CTRL_TBL, R.FD_TBL_CTRL_INDEX,
      R.FD_TBL_CTRL_ERR]
  rw [hepoch, State.windowImage]
  split
  next hactive => simp [hactive]
  next hshadow => exact iff_of_false (by omega) hshadow

section

variable {s u : State} {init w op i : Nat} {f : State → State} {k : State → Nat → Nat → Nat → Option (Nat × State)}
  (ha : Allowed s.quiet init R.FD_TBL_CTRL_GO.addr true) (hidle : s.quiet.on R.FD_TBL_CTRL_BUSY = false)

include ha hidle

/-- An operation that is done shows the index it used. -/
theorem State.tblCtrl_of_some (hk : k (s.quiet.tblFields w op (s.quiet.tblNamed w)) (s.quiet.windowImage w)
      (s.quiet.tblNamed w) (bits w 17 0) = some (i, u))
    (hf : u.set R.FD_TBL_CTRL_INDEX i = f s.quiet) : s.tblCtrl init w op k = s.quiet.direct f := by
  simp only [State.windowImage] at hk
  exact State.windowWrite_of_idle ha hidle (by simp only [hk, hf])

/-- An operation that is refused sets ERR alone (R364). -/
theorem State.tblCtrl_of_none (hk : k (s.quiet.tblFields w op (s.quiet.tblNamed w)) (s.quiet.windowImage w)
      (s.quiet.tblNamed w) (bits w 17 0) = none) :
    s.tblCtrl init w op k
      = s.quiet.direct fun q => (q.tblFields w op (s.quiet.tblNamed w)).set R.FD_TBL_CTRL_ERR 1 := by
  simp only [State.windowImage] at hk
  exact State.windowWrite_of_idle ha hidle (by simp only [hk])

end

section

variable {s : State} {img tbl op i : Nat}

theorem State.windowPlan_of_ok (himg : img ≠ s.epoch) (hplan : (s.plan tbl op i s.tblData).status = .ok) :
    s.windowPlan img tbl op i = some (if op = 2 then i else (s.plan tbl op i s.tblData).i,
      s.doPlan tbl (s.plan tbl op i s.tblData)) :=
  (if_neg himg).trans (if_pos hplan)

/-- No change goes to the active image, nor one that its plan refuses (R346, R350). -/
theorem State.windowPlan_of_refused (h : img = s.epoch ∨ (s.plan tbl op i s.tblData).status ≠ .ok) :
    s.windowPlan img tbl op i = none := by
  rcases h with himg | hplan
  · exact if_pos himg
  · simp only [State.windowPlan, if_neg hplan, ite_self]

end

/-! ### Slot tables -/

/-- A write of SC_TBL_CTRL with GO writes its fields and does the operation (R386). -/
theorem State.slotCtrl_of_idle {s : State} {init w op : Nat} {f : State → State} {k : State → Nat → Nat → Nat → State}
    (ha : Allowed s.quiet init R.SC_TBL_CTRL_GO.addr true) (hidle : s.quiet.on R.SC_TBL_CTRL_BUSY = false)
    (hf : k (s.quiet.slotFields w op (s.quiet.slotPort w)) (s.quiet.slotPort w) (bits w 10 10) (bits w 9 0) = f s.quiet) :
    s.slotCtrl init w op k = s.quiet.direct f :=
  State.windowWrite_of_idle ha hidle hf

/-! ### The stop of a schedule -/

section

variable {s : State} {p w : Nat}

theorem exec_scheduleStop (hp : p < 48) (init : Nat) : exec (.scheduleStop init p w) s
    = .next (s.directWrite init (R.SC_Pp_CFG_STOP.addr + 0x100 * p) (s.quiet.schedWrites p (Nat.lor w 2))
        fun q => q.portSchedWrite p (Nat.lor w 2)) := by
  change execScheduleStop init p w s = _
  rw [execScheduleStop, Nat.mod_eq_of_lt hp]
  rfl

/-- STOP stops the schedule of an unmanaged port, and the word's other fields take effect (R373, R388). -/
theorem State.portSchedWrite_of_stop (hstop : bitOf w 1 = true) (htb : s.schedRuns p = true ∨ s.tbOn (bits w 6 4) = true)
    (hfree : s.managed p = false) : s.portSchedWrite p w = (s.writes (s.schedWrites p w)).stopSchedule p := by
  refine (if_neg ?_).trans (if_pos hstop)
  simpa [hfree, Decidable.imp_iff_not_or] using htb

/-- STOP on a managed port is ignored with its write (R394, R660). -/
theorem State.portSchedWrite_of_managed (hstop : bitOf w 1 = true) (hmanaged : s.managed p = true) :
    s.portSchedWrite p w = s :=
  if_pos (by rw [hstop, hmanaged, Bool.and_self, Bool.or_true])

end

/-! ### Stream contexts -/

/-- A state in which a write of RD_CTX_CTRL with GO has written its fields (R453). -/
def State.ctxFields (s : State) (w op : Nat) : State :=
  ((s.set R.RD_CTX_CTRL_OP op).set R.RD_CTX_CTRL_CTX (bits w 12 0)).set R.RD_CTX_CTRL_ERR 0

theorem State.ctxCtrl_of_idle {s : State} {init w op : Nat} {f : State → State} {k : State → Nat → State}
    (ha : Allowed s.quiet init R.RD_CTX_CTRL_GO.addr true) (hidle : s.quiet.on R.RD_CTX_CTRL_BUSY = false)
    (hf : k (s.quiet.ctxFields w op) (bits w 12 0) = f s.quiet) : s.ctxCtrl init w op k = s.quiet.direct f :=
  State.windowWrite_of_idle ha hidle hf

end Sys2Proof.Machine

/-- Settles O51, window by window: the write's condition chooses the branch, and the branch is what the statement names
(that an access refused by the slot tables' window is logged with KIND 3 is log entry 47). -/
theorem tableWindowsComplete : Obligations.TableWindowsComplete := by
  unfold Obligations.TableWindowsComplete
  refine ⟨?read, ?readBeyond, ?write, ?writeRefused, ?delete, ?deleteRefused, ?find, ?findMiss, ?slotRead, ?slotWrite,
    ?slotManaged, ?slotActive, ?stop, ?stopManaged, ?ctxRead, ?ctxWrite, ?ctxRefused⟩
  case read =>
    rintro s _ init w _ rfl ha hidle rfl hi
    exact congrArg Host.Outcome.next (State.tblCtrl_of_some ha hidle (if_pos hi) rfl)
  case readBeyond =>
    rintro s _ init w _ rfl ha hidle rfl hbeyond
    exact congrArg Host.Outcome.next (State.tblCtrl_of_none ha hidle (if_neg (Nat.not_lt.mpr hbeyond)))
  case write =>
    rintro s _ init w _ rfl ha hidle rfl hshadow hplan
    have himg := mt (s.quiet.windowImage_eq_epoch_iff w 1 (s.quiet.tblNamed w)).mp (by rw [hshadow]; decide)
    have hop : (if tblHashed (s.quiet.tblNamed w) then 1 else 0) ≠ 2 := by split <;> decide
    refine congrArg Host.Outcome.next (State.tblCtrl_of_some ha hidle (State.windowPlan_of_ok himg hplan) ?_)
    rw [if_neg hop]
  case writeRefused =>
    rintro s _ init w _ rfl ha hidle rfl hrefused
    rw [← s.quiet.windowImage_eq_epoch_iff w 1 (s.quiet.tblNamed w)] at hrefused
    exact congrArg Host.Outcome.next (State.tblCtrl_of_none ha hidle (State.windowPlan_of_refused hrefused))
  case delete =>
    rintro s _ init w _ rfl ha hidle rfl hshadow hplan
    have himg := mt (s.quiet.windowImage_eq_epoch_iff w 2 (s.quiet.tblNamed w)).mp (by rw [hshadow]; decide)
    exact congrArg Host.Outcome.next (State.tblCtrl_of_some ha hidle (State.windowPlan_of_ok himg hplan) rfl)
  case deleteRefused =>
    rintro s _ init w _ rfl ha hidle rfl hrefused
    rw [← s.quiet.windowImage_eq_epoch_iff w 2 (s.quiet.tblNamed w)] at hrefused
    exact congrArg Host.Outcome.next (State.tblCtrl_of_none ha hidle (State.windowPlan_of_refused hrefused))
  case find =>
    rintro s _ init w _ j rfl ha hidle rfl hhashed hhit
    refine congrArg Host.Outcome.next (State.tblCtrl_of_some ha hidle ((if_neg (by rw [hhashed]; decide)).trans ?_) rfl)
    exact Option.map_eq_some_iff.mpr ⟨j, hhit, rfl⟩
  case findMiss =>
    rintro s _ init w _ rfl ha hidle rfl hhashed hmiss
    refine congrArg Host.Outcome.next (State.tblCtrl_of_none ha hidle ((if_neg (by rw [hhashed]; decide)).trans ?_))
    exact Option.map_eq_none_iff.mpr hmiss
  case slotRead =>
    rintro s _ init w _ rfl ha hidle rfl
    exact congrArg Host.Outcome.next (State.slotCtrl_of_idle ha hidle rfl)
  case slotWrite =>
    rintro s _ init w _ rfl ha hidle rfl hfree hinactive hsettled
    refine congrArg Host.Outcome.next (State.slotCtrl_of_idle ha hidle ?_)
    exact (if_neg (by rw [hfree]; decide)).trans <| (if_neg (by rw [hinactive]; decide)).trans <|
      if_neg (by rw [hsettled]; decide)
  case slotManaged =>
    rintro s _ init w _ rfl ha hidle rfl hmanaged
    exact congrArg Host.Outcome.next (State.slotCtrl_of_idle ha hidle (if_pos hmanaged))
  case slotActive =>
    rintro s _ init w _ rfl ha hidle rfl hfree hactive
    exact congrArg Host.Outcome.next (State.slotCtrl_of_idle ha hidle ((if_neg (by rw [hfree]; decide)).trans (if_pos hactive)))
  case stop =>
    rintro s _ init p w rfl ha hp hw hstop htb hfree
    rw [exec_scheduleStop hp init, s.directWrite_of_writable _ ha hw]
    exact congrArg Host.Outcome.next (State.direct_congr _ (State.portSchedWrite_of_stop hstop htb hfree))
  case stopManaged =>
    rintro s _ init p w rfl ha hp hw hstop hmanaged
    rw [exec_scheduleStop hp init, s.directWrite_of_writable _ ha hw]
    exact congrArg Host.Outcome.next (State.direct_congr _ (State.portSchedWrite_of_managed hstop hmanaged))
  case ctxRead =>
    rintro s _ init w rfl ha hidle
    exact congrArg Host.Outcome.next (State.ctxCtrl_of_idle ha hidle rfl)
  case ctxWrite =>
    rintro s _ init w rfl ha hidle hhost hfrozen
    refine congrArg Host.Outcome.next (State.ctxCtrl_of_idle ha hidle (if_neg ?_))
    rw [State.ctxFields, hhost, hfrozen]
    decide
  case ctxRefused =>
    rintro s _ init w rfl ha hidle hrefused
    exact congrArg Host.Outcome.next (State.ctxCtrl_of_idle ha hidle (if_pos hrefused))
end

section
/-! SUPPORT. The SCHED commands, each through its body under the conditions in which it is carried out (R373, R380 to R382,
R388, R389, R391 to R394). -/

open Sys2Proof Sys2Proof.Machine

namespace Sys2Proof.Machine

@[simp] theorem length_timeWords (t : Nat) : (timeWords t).length = 3 := rfl

/-- The ports that SCHED.COMMIT names. -/
def Ctx.commitPorts (c : Ctx) : List Nat := maskPorts (c.arg 1) (c.bits 2 15 0)

/-- The banks of a set of ports may be committed: each inactive bank is good, no port is managed, each timebase runs and no
commit is pending (R381, R394). -/
structure State.CommitAllowed (q : State) (ps : List Nat) : Prop where
  good : ps.all q.bankGood = true
  unmanaged : ps.any q.managed = false
  timed : (ps.all fun p => q.tbOn (q.schedTb p)) = true
  settled : (ps.all fun p => !q.schedPending p) = true

/-- A target that a port's schedule can take: near its time, and a boundary of a schedule in force, else on the grid of 8 ns
(R381, R382). -/
def State.takesTarget (q : State) (t p : Nat) : Bool :=
  nearTime t (q.time (q.schedTb p))
    && if !q.schedRuns p || q.on R.SC_Pp_STAT_ALIGN_LOST p then onGrid t else q.isBoundary p t

/-- A target at least 10 µs ahead of a port's time (R381). -/
def State.targetAhead (q : State) (t p : Nat) : Bool :=
  decide (tenUs ≤ (linDist (linear t) (linear (q.time (q.schedTb p)))).toNat * linUnit)

/-- The pending commit of a port is less than 10 µs away (R382). -/
def State.commitLate (q : State) (p : Nat) : Bool :=
  match q.toCommit p with
  | some d => decide (d < tenUs)
  | none => false

variable {c : Ctx} {q : State}

theorem State.commitChecks_of_allowed {ps : List Nat} (h : q.CommitAllowed ps) (k : Res) : q.commitChecks ps k = k := by
  obtain ⟨hgood, hfree, htimed, hsettled⟩ := h
  exact (need_pos (by rw [hgood, hfree]; rfl)).trans ((need_pos htimed).trans (need_pos hsettled))

/-! ### SCHED.COMMIT, one operation at a time -/

/-- A commit at the next boundary of each running schedule (R381; that it is OK with no port named is log entry 87). -/
theorem schedCommit_body_next (hop : c.bits 3 1 0 = 0) (hok : q.CommitAllowed c.commitPorts)
    (hruns : c.commitPorts.all q.schedRuns = true) (hfree : q.worldLocked (q.entryNonSecure 15) = false) :
    cmdSchedCommit.body c q = done
      ((c.commitPorts.map fun p => (p, q.nextBoundary p)).foldl
        (fun s e => s.schedAccept e.1 e.2 (s.on R.SC_Pp_STAT_ALIGN_LOST e.1)) q)
      (instantWords (c.commitPorts.map fun p => (p, q.nextBoundary p))) := by
  simp -zeta only [cmdSchedCommit, hop]
  exact (State.commitChecks_of_allowed hok _).trans ((need_pos hruns).trans (unlessLocked_free hfree))

/-- A commit at a target (R381, R382). -/
theorem schedCommit_body_target {t : Nat} (hop : c.bits 3 1 0 = 1) (hlen : 6 ≤ c.args.length)
    (ht : wordsTime (c.arg 4) (c.arg 5) (c.arg 6) = some t) (hok : q.CommitAllowed c.commitPorts)
    (htakes : c.commitPorts.all (q.takesTarget t) = true) (hahead : c.commitPorts.all (q.targetAhead t) = true)
    (hfree : q.worldLocked (q.entryNonSecure 15) = false) :
    cmdSchedCommit.body c q = done (c.commitPorts.foldl (fun s p => s.schedAccept p t false) q)
      (if c.commitPorts.isEmpty then [0, 0, 0] else timeWords t) := by
  simp -zeta only [cmdSchedCommit, hop]
  refine (need_pos (decide_eq_true hlen)).trans ?_
  rw [ht]
  exact (State.commitChecks_of_allowed hok _).trans <| (need_pos htakes).trans <| (need_pos hahead).trans <|
    unlessLocked_free hfree

/-- A cancel, which nothing need be pending for (R382; that it is OK with nothing pending is log entry 87). -/
theorem schedCommit_body_cancel (hop : c.bits 3 1 0 = 2) (hmanaged : c.commitPorts.any q.managed = false)
    (hearly : c.commitPorts.any q.commitLate = false) (hfree : q.worldLocked (q.entryNonSecure 15) = false) :
    cmdSchedCommit.body c q = done (c.commitPorts.foldl (fun s p => (s.set R.SC_Pp_STAT_PENDING 0 p).schedUpd p fun x =>
      { x with commit := none }) q) [0, 0, 0] := by
  simp -zeta only [cmdSchedCommit, hop]
  exact (need_pos (congrArg not hmanaged)).trans <| (need_pos (congrArg not hearly)).trans <| unlessLocked_free hfree

end Sys2Proof.Machine

/-- Settles O30: in each clause the conditions that the command's body asks for hold, and no lock refuses its writes (that a
commit of no port and a cancel with nothing pending answer OK is log entry 87). -/
theorem schedCommandsComplete : Obligations.SchedCommandsComplete := by
  unfold Obligations.SchedCommandsComplete
  refine ⟨?status, ?portCfg, ?queueCfg, ?write, ?read, ?bankCfg, ?copy, ?commitNext, ?commitTarget, ?cancel⟩
  case status =>
    exact .of_body (fun _ _ => rfl) (by decide) (fun _ _ hport => need_pos (decide_eq_true hport)) fun _ _ _ _ => by simp
  case portCfg =>
    refine .of_silent_body (fun _ _ => rfl) (by decide) ?_
    rintro c q ⟨hport, htb, hcfg, hdwrr0, hdwrr1, hstop, htbKept, hfree⟩
    refine (need_pos ?badArg).trans <| (need_pos ?checkFail).trans <| (need_pos ?busy).trans (writeCfg_unlocked hfree)
    case badArg => rw [decide_eq_true hport, htb, hcfg, hdwrr0, hdwrr1]; rfl
    case checkFail => simpa [Decidable.imp_iff_not_or] using hstop
    case busy => simpa using htbKept
  case queueCfg =>
    refine .of_silent_body (fun _ _ => rfl) (by decide) ?_
    rintro c q ⟨hport, hlimit, hshape, hfree⟩
    exact (need_pos (by rw [decide_eq_true hport, hlimit, hshape]; rfl)).trans (writeCfg_unlocked hfree)
  case write =>
    refine .of_silent_body (fun _ _ => rfl) (by decide) ?_
    rintro c q ⟨hport, hsome, hmost, hwords, hend, hmanaged, hinactive, hsettled, hfree⟩
    refine (need_pos ?badArg).trans <| (need_pos (congrArg not hmanaged)).trans <| (if_neg ?inactive).trans <|
      (need_pos (congrArg not hsettled)).trans (unlessLocked_free hfree)
    case badArg => simp [hport, hsome, hmost, hwords, hend]
    case inactive => rw [hinactive]; decide
  case read =>
    refine .of_body (fun _ _ => rfl) (by decide) ?body ?length
    case body =>
      rintro c q ⟨hport, hsome, hmost⟩
      exact need_pos (by rw [decide_eq_true hport, decide_eq_true hsome, decide_eq_true hmost]; rfl)
    case length =>
      rintro c q ⟨-, -, hmost⟩ -
      simp only [List.length_cons, List.length_flatMap, List.length_nil, List.map_const', List.length_range,
        List.sum_replicate, smul_eq_mul]
      omega
  case bankCfg =>
    refine .of_silent_body (fun _ _ => rfl) (by decide) ?_
    rintro c q ⟨hport, hcycle, hnum, hmanaged, hinactive, hsettled, hfree⟩
    refine (need_pos ?badArg).trans <| (need_pos (congrArg not hmanaged)).trans <| (if_neg ?inactive).trans <|
      (need_pos (congrArg not hsettled)).trans (writeCfg_unlocked hfree)
    case badArg => rw [decide_eq_true hport, hcycle, hnum]; rfl
    case inactive => rw [hinactive]; decide
  case copy =>
    refine .of_silent_body (fun _ _ => rfl) (by decide) ?_
    rintro c q ⟨hport, hmanaged, hsettled, hblock, hfree⟩
    exact (need_pos (decide_eq_true hport)).trans <| (need_pos (congrArg not hmanaged)).trans <|
      (need_pos (congrArg not hsettled)).trans <| (unlessLocked_free hblock).trans (writeCfg_unlocked hfree)
  case commitNext =>
    refine .of_body (fun _ _ => rfl) (by decide) ?_ fun _ _ _ _ => by simp [instantWords]
    rintro c q ⟨hop, hgood, hmanaged, htimed, hsettled, hruns, hfree⟩
    exact schedCommit_body_next hop ⟨hgood, hmanaged, htimed, hsettled⟩ hruns hfree
  case commitTarget =>
    refine .of_body (fun _ _ => rfl) (by decide) ?body ?length
    case body =>
      rintro c q ⟨hop, hlen, hspelt, hgood, hmanaged, htimed, hsettled, htakes, hahead, hfree⟩
      obtain ⟨t, ht⟩ := Option.isSome_iff_exists.mp hspelt
      rw [ht] at htakes hahead ⊢
      exact schedCommit_body_target hop hlen ht ⟨hgood, hmanaged, htimed, hsettled⟩ htakes hahead hfree
    case length =>
      intro c q _ _
      split <;> simp
  case cancel =>
    refine .of_body (fun _ _ => rfl) (by decide) ?_ fun _ _ _ _ => by simp
    rintro c q ⟨hop, hmanaged, hearly, hfree⟩
    exact schedCommit_body_cancel hop hmanaged hearly hfree
end

section
/-! SUPPORT. The rows of schedules, of Forester's re-placement and of the stream contexts, each through the branch that its
condition chooses (R373, R378, R383, R411, R412, R424, R426). -/

open Sys2Proof Sys2Proof.Machine

namespace Sys2Proof.Machine

/-- By how much a context's discarded frames fall short of what its paths should have brought (R426). -/
def SCtx.latGap (x : SCtx) : Int := ((x.latPass * (x.latPaths - 1) : Nat) : Int) - (x.latDisc : Int)

section

variable {s e : State} {dt p n : Nat} (he : e = s.elapse dt)

include he

/-! ### Schedules -/

theorem exec_slotEdge (hp : p < 48) : exec (.slotEdge dt p) s
    = .next (if e.schedRuns p then e.set R.SC_Pp_STAT_ENTRY (e.entryNow p) p else e) := by
  change execSlotEdge dt p s = _
  rw [execSlotEdge, ← he, Nat.mod_eq_of_lt hp]

theorem exec_wakeLead (hp : p < 48) : exec (.wakeLead dt p) s
    = .next (if e.schedRuns p && e.wakeDue p then e.wakePort p else e) := by
  change execWakeLead dt p s = _
  rw [execWakeLead, ← he, Nat.mod_eq_of_lt hp]

theorem exec_bankActivation (hp : p < 48) : exec (.bankActivation dt p) s
    = .next (if e.commitDue p then (e.activateBank p).foBank p else e) := by
  change execBankActivation dt p s = _
  rw [execBankActivation, ← he, Nat.mod_eq_of_lt hp]

/-! ### Re-placement -/

theorem exec_replaceDelayExpiry (hp : p < 48) : exec (.replaceDelayExpiry dt p) s
    = .next (if e.serves && e.replaceDue p && decide (e.foState < 2) && !e.fwdBusy then e.replacePort p else e) := by
  change execReplaceDelayExpiry dt p s = _
  rw [execReplaceDelayExpiry, ← he, Nat.mod_eq_of_lt hp]

theorem exec_flowReplace : exec (.flowReplace dt) s
    = .next (if e.foState = 3 ∧ e.fo.phase = 4 then
        (((e.foComplete.incSat R.FO_REPL_STAT_REPL_CNT).set R.FO_REPL_STAT_LAST_US
          (satN 65535 ((e.clk - e.fo.since) / 10 ^ 6))).raise 79 e.fo.count).settleCfg else e) := by
  rw [he]
  rfl

/-! ### Stream contexts -/

theorem exec_resetTimeout (hn : n < 8192) : exec (.resetTimeout dt n) s = .next (e.ctxTimeout n) := by
  change execResetTimeout dt n s = _
  rw [execResetTimeout, ← he, Nat.mod_eq_of_lt hn]

theorem exec_latentTest_of_due (hn : n < 8192) (hen : (e.sctxOf n).latEn = true)
    (hdue : (e.sctxOf n).latAt + (e.sctxOf n).latPeriod ≤ e.clk) : exec (.latentTest dt n) s
    = .next (if (e.sctxOf n).latGap > (e.sctxOf n).latDiff then
        ((e.sctxUpd n fun c => { c with latAt := e.clk }).ctxCount n 8).raise 82 n
      else e.sctxUpd n fun c => { c with latAt := e.clk }) := by
  change execLatentTest dt n s = _
  rw [execLatentTest, ← he, Nat.mod_eq_of_lt hn]
  exact if_pos (by rw [hen, decide_eq_true hdue]; rfl)

theorem exec_latReset (hn : n < 8192) : exec (.latReset dt n) s
    = .next (if (e.sctxOf n).latEn && decide ((e.sctxOf n).latReset + (e.sctxOf n).latResetLen ≤ e.clk) then
        e.sctxUpd n fun c => { c with latReset := e.clk, latPass := 0, latDisc := 0 } else e) := by
  change execLatReset dt n s = _
  rw [execLatReset, ← he, Nat.mod_eq_of_lt hn]

end

end Sys2Proof.Machine

/-- Settles O52, row by row: the row's condition chooses the branch, and the branch is what the statement names. -/
theorem scheduleAndFlowEventsComplete : Obligations.ScheduleAndFlowEventsComplete := by
  unfold Obligations.ScheduleAndFlowEventsComplete
  refine ⟨?edge, ?wake, ?activation, ?replaceDue, ?replaced, ?timeout, ?latent, ?restart⟩
  case edge =>
    intro s e dt p he hp hruns
    rw [exec_slotEdge he hp, if_pos hruns]
  case wake =>
    intro s e dt p he hp hruns hwake
    rw [exec_wakeLead he hp, if_pos (by rw [hruns, hwake]; rfl)]
  case activation =>
    intro s e dt p he hp hdue
    rw [exec_bankActivation he hp, if_pos hdue]
  case replaceDue =>
    intro s e dt p he hp hserves hdue hstate hidle
    rw [exec_replaceDelayExpiry he hp, if_pos (by rw [hserves, hdue, decide_eq_true hstate, hidle]; rfl)]
  case replaced =>
    intro s e dt he hstate hphase
    rw [exec_flowReplace he, if_pos ⟨hstate, hphase⟩]
  case timeout =>
    intro s e dt n he hn
    exact exec_resetTimeout he hn
  case latent =>
    intro s e dt n he hn hen hdue
    exact exec_latentTest_of_due he hn hen hdue
  case restart =>
    intro s e dt n he hn hen hdue
    rw [exec_latReset he hn, if_pos (by rw [hen, decide_eq_true hdue]; rfl)]
end

section
/-! SUPPORT. What a step does with the queue, what a memory reads after a write or an erasure, and what a write of a register
field leaves; and with them the statements on those operations and on the state after reset. -/

open Sys2Proof Sys2Proof.Machine

namespace Sys2Proof.Machine

theorem Memory.read_erase (d : Byte) (m : Memory) (a n b : Nat) :
    Memory.read d (Memory.erase m a n) b = if a ≤ b ∧ b < a + n then d else Memory.read d m b := by
  induction m with
  | nil => simp [Memory.erase, Memory.read]
  | cons c r ih =>
    obtain ⟨j, w⟩ := c
    have hcons : Memory.erase ((j, w) :: r) a n
        = if j < a ∨ a + n ≤ j then (j, w) :: Memory.erase r a n else Memory.erase r a n := by
      simp [Memory.erase, List.filter_cons]
    rw [hcons]
    by_cases hout : j < a ∨ a + n ≤ j
    · rw [if_pos hout]
      by_cases hj : j = b
      · have hb : ¬ (a ≤ b ∧ b < a + n) := by omega
        simp [Memory.read, hj, hb]
      · simp [Memory.read, hj, ih]
    · rw [if_neg hout, ih]
      by_cases hj : j = b
      · have hb : a ≤ b ∧ b < a + n := by omega
        simp [hb]
      · simp [Memory.read, hj]

end Sys2Proof.Machine

/-- Settles O1: the queue's front decides the step's match. -/
theorem stepRunsFrontCommand : Obligations.StepRunsFrontCommand := by
  unfold Obligations.StepRunsFrontCommand
  intro s c rest hq
  rw [step, hq]

/-- Settles O2: an empty queue decides the step's match. -/
theorem stepIdlesOnEmptyQueue : Obligations.StepIdlesOnEmptyQueue := by
  unfold Obligations.StepIdlesOnEmptyQueue
  intro s hq
  rw [step, hq]

/-- Settles O7, from the laws of the byte memories and `Memory.read_erase`. -/
theorem memoryReadsWhatWasWritten : Obligations.MemoryReadsWhatWasWritten := by
  unfold Obligations.MemoryReadsWhatWasWritten
  intro d m a n v hm
  exact ⟨Memory.read_write_same d m a v hm, fun b hb => Memory.read_write_ne d m v hb, Memory.wf_write d m a v hm,
    Memory.read_erase d m a n, Memory.wf_erase d m a n hm⟩

/-- Settles O9: a field is one entry of the register table. -/
theorem fieldWriteFrame : Obligations.FieldWriteFrame := by
  unfold Obligations.FieldWriteFrame
  intro s f v i j
  exact ⟨s.get_set_same f v i j, fun _ _ _ hk => s.get_set_ne v hk, rfl⟩

/-- Settles O6: nothing has been written to a table of the reset state, so each reads its default. -/
theorem resetState : Obligations.ResetState := by
  unfold Obligations.ResetState
  exact ⟨rfl, rfl, rfl, fun _ => rfl, fun _ => rfl, fun _ => rfl, rfl, fun _ _ _ _ _ _ => rfl, rfl, fun _ => rfl, fun _ => rfl⟩
end

section
/-! SUPPORT. The status bit of an event: raising an event sets its bit and clears none (R542), and with it the statements on
events, on responses and on software events. -/

open Sys2Proof Sys2Proof.Machine

namespace Sys2Proof.Machine

variable {s : State} {e e' d : Nat}

/-! ### The status bit -/

theorem State.eventSet_congr {t : State} (h : t.regs = s.regs) : t.eventSet e ↔ s.eventSet e := by
  simp only [State.eventSet, State.get_congr h]

theorem State.sendVec_regs (fn v : Nat) : (s.sendVec fn v).regs = s.regs := by
  unfold State.sendVec
  dsimp only
  split
  · rfl
  · split <;> rfl

/-- Signalling a vector leaves the registers, so latching an event writes its status word alone. -/
theorem State.latchEvent_regs : (s.latchEvent e).regs
    = (s.set R.EV_STATUSi_STATUS (s.get R.EV_STATUSi_STATUS (e / 32) ||| 2 ^ (e % 32)) (e / 32)).regs := by
  unfold State.latchEvent
  dsimp only
  split
  · split <;> split <;> simp only [State.sendVec_regs]
  · rfl

theorem State.recordEvent_regs : (s.recordEvent e d).1.regs = s.regs := by
  unfold State.recordEvent
  split <;> rfl

/-- What raising an event makes of the register table. -/
theorem State.raiseOne_regs : (s.raiseOne e d).1.regs
    = (s.set R.EV_STATUSi_STATUS (s.get R.EV_STATUSi_STATUS (e / 32) ||| 2 ^ (e % 32)) (e / 32)).regs :=
  State.recordEvent_regs.trans State.latchEvent_regs

theorem status_key_inj {i j : Nat} (h : R.EV_STATUSi_STATUS.key i 0 = R.EV_STATUSi_STATUS.key j 0) : i = j := by
  simp only [Fld.key, R.EV_STATUSi_STATUS] at h
  omega

/-- An event's status bit after a raise: set for the event itself, as before for every other. -/
theorem State.eventSet_raiseOne : (s.raiseOne e d).1.eventSet e' ↔ e' = e ∨ s.eventSet e' := by
  rw [State.eventSet_congr State.raiseOne_regs, State.eventSet, State.eventSet]
  by_cases hw : e' / 32 = e / 32
  · have hlow : e' % 32 < 32 := Nat.mod_lt _ (by decide)
    have heq : e % 32 = e' % 32 ↔ e' = e := by omega
    rw [hw, State.get_set_same, bitOf, show R.EV_STATUSi_STATUS.width = 32 from rfl, Nat.testBit_mod_two_pow,
      Nat.testBit_or, Nat.testBit_two_pow, bitOf]
    simp only [hlow, decide_true, Bool.true_and, Bool.or_eq_true, decide_eq_true_eq, heq]
    exact or_comm
  · have hne : e' ≠ e := fun h => hw (h ▸ rfl)
    rw [State.get_set_ne _ _ fun h => hw (status_key_inj h)]
    simp [hne]

theorem ovf_key_ne {f : Fld} (hf : f.addr = 0x100034 ∧ f.s1 = 0 ∧ f.s2 = 0) (hlo : f.lo < 32) (he : e < 128) :
    R.EV_STATUSi_STATUS.key (e / 32) 0 ≠ f.key 0 0 := by
  obtain ⟨ha, h1, h2⟩ := hf
  simp only [Fld.key, R.EV_STATUSi_STATUS, ha, h1, h2]
  omega

/-- An overflow report raises EVREC_OVF and clears no status bit. -/
theorem State.eventSet_evrecOvf (he : e < 128) (h : s.eventSet e) (bs bn : Bool) : (s.evrecOvf bs bn).eventSet e := by
  have hset {t : State} {f : Fld} (hf : f.addr = 0x100034 ∧ f.s1 = 0 ∧ f.s2 = 0) (hlo : f.lo < 32) (d : Nat)
      (ht : t.eventSet e) : ((t.set f 1).raiseOne 100 d).1.eventSet e := by
    refine State.eventSet_raiseOne.mpr (.inr ?_)
    rw [State.eventSet, State.get_set_ne _ _ (ovf_key_ne hf hlo he)]
    exact ht
  have hsec : (if bs then ((s.set R.EV_REC_STAT_S_OVF 1).raiseOne 100 0).1 else s).eventSet e := by
    split
    · exact hset ⟨rfl, rfl, rfl⟩ (by decide) 0 h
    · exact h
  unfold State.evrecOvf
  dsimp only
  split
  · exact hset ⟨rfl, rfl, rfl⟩ (by decide) 1 hsec
  · exact hsec

theorem State.eventSet_raise (s : State) (d : Nat) (he : e < 128) : (s.raise e d).eventSet e :=
  State.eventSet_evrecOvf he (State.eventSet_raiseOne.mpr (.inl rfl)) _ _

theorem State.eventSet_raise_of_set (e d : Nat) (he : e' < 128) (h : s.eventSet e') : (s.raise e d).eventSet e' :=
  State.eventSet_evrecOvf he (State.eventSet_raiseOne.mpr (.inr h)) _ _

/-! ### Software events (R548) -/

theorem State.initSecure_raise (s : State) (init d : Nat) (he : e < 128) : (s.raise e d).initSecure init = s.initSecure init := by
  have hget : (s.raise e d).get R.FB_STAT_DBG_UNLOCKED = s.get R.FB_STAT_DBG_UNLOCKED :=
    s.get_raise d he (by simp only [eventReg, inRegs, Fld.key, R.FB_STAT_DBG_UNLOCKED]; omega)
  simp only [State.initSecure, State.on, hget]

/-- A software raise of the events in a list of bits: what is set stays set, and what the initiator may raise is set. -/
theorem State.swRaise_foldl {init v : Nat} (l : List Nat) (hl : ∀ n ∈ l, n < 8) (s : State) {n : Nat} (hn : n < 8)
    (h : s.eventSet (120 + n) ∨ (n ∈ l ∧ bitOf v n = true ∧ (s.initSecure init = true ∨ 4 ≤ n))) :
    (l.foldl (fun s n => if bitOf v n && (s.initSecure init || decide (4 ≤ n)) then s.raise (120 + n) init else s) s).eventSet
      (120 + n) := by
  induction l generalizing s with
  | nil =>
    obtain h | ⟨hmem, -, -⟩ := h
    · exact h
    · simp at hmem
  | cons m l ih =>
    have hm : m < 8 := hl m List.mem_cons_self
    refine ih (fun x hx => hl x (List.mem_cons_of_mem _ hx)) _ ?_
    dsimp only
    obtain hset | ⟨hmem, hbit, hmay⟩ := h
    · left
      split
      · exact State.eventSet_raise_of_set _ _ (by omega) hset
      · exact hset
    · obtain rfl | hmem := List.mem_cons.mp hmem
      · left
        have hdue : (bitOf v n && (s.initSecure init || decide (4 ≤ n))) = true := by simpa [hbit] using hmay
        rw [if_pos hdue]
        exact s.eventSet_raise init (by omega)
      · right
        refine ⟨hmem, hbit, ?_⟩
        split
        · rwa [State.initSecure_raise _ _ _ (by omega)]
        · exact hmay

theorem State.eventSet_swRaise {init v n : Nat} (hn : n < 8) (hbit : bitOf v n = true)
    (hmay : s.initSecure init = true ∨ 4 ≤ n) : (s.swRaise init v).eventSet (120 + n) :=
  State.swRaise_foldl _ (fun _ h => List.mem_range.mp h) s hn (.inr ⟨List.mem_range.mpr hn, hbit, hmay⟩)

/-- A non-secure write whose upper four bits are 0 raises nothing. -/
theorem State.swRaise_of_low {init v : Nat} (hsec : s.initSecure init = false)
    (hlow : ∀ n, 4 ≤ n → n < 8 → bitOf v n = false) : s.swRaise init v = s := by
  have hnone : ∀ n ∈ List.range 8, (bitOf v n && (s.initSecure init || decide (4 ≤ n))) = false := by
    intro n hn
    by_cases h4 : 4 ≤ n
    · simp [hlow n h4 (List.mem_range.mp hn)]
    · simp [hsec, h4]
  unfold State.swRaise
  exact List.foldlRecOn (motive := fun t => t = s) _ _ rfl fun t ht n hn => by
    subst ht
    rw [hnone n hn]
    rfl

theorem exec_swevt {init v : Nat} (ha : Allowed s init 0x100030 true) :
    exec (.swevt init v) s = .next (s.quiet.direct fun q => q.swRaise init v) :=
  congrArg _ (State.directWrite_allowed (allowed_quiet ha) (State.writable_nil _))

end Sys2Proof.Machine

/-- Settles O10: raising an event is `State.EvOnly`, and its bit stands in the status word. -/
theorem raiseSetsStatusAndKeepsTheRest : Obligations.RaiseSetsStatusAndKeepsTheRest := by
  unfold Obligations.RaiseSetsStatusAndKeepsTheRest
  intro s e d he
  exact ⟨s.eventSet_raise d he, (s.raise_evOnly e d he).regs, (s.raise_evOnly e d he).rest⟩

/-- Settles O11: a response writes its mailbox, frees the cores that hold its command and raises MB_RSP. -/
theorem responseStandsInMailbox : Obligations.ResponseStandsInMailbox := by
  unfold Obligations.ResponseStandsInMailbox
  intro s mb st words hmb hlen
  refine ⟨s.respond_answered hmb st words hlen, ?event, ?regs, ?memories⟩
  case event =>
    rw [s.respond_eq hmb]
    exact State.eventSet_raise _ _ (by omega)
  case regs =>
    intro f i j hk
    rw [not_or] at hk
    exact s.get_respond hmb st words hk.1 hk.2
  case memories =>
    rw [State.MemKept, s.respond_flash hmb, s.respond_csram hmb]
    exact ⟨fun _ => rfl, fun _ => rfl⟩

/-- Settles O16: the raises go bit by bit, and each leaves what the others set. -/
theorem softwareEvents : Obligations.SoftwareEvents := by
  unfold Obligations.SoftwareEvents
  refine ⟨?raises, ?nothing⟩
  case raises =>
    intro s init v n ha hn hbit hmay
    refine ⟨_, exec_swevt ha, ?_⟩
    exact (State.eventSet_congr rfl).mpr (State.eventSet_swRaise (s := s.quiet) hn hbit hmay)
  case nothing =>
    intro s init v ha hsec hlow
    refine ⟨_, exec_swevt ha, ?_⟩
    have hnothing : s.quiet.swRaise init v = s.quiet := State.swRaise_of_low hsec hlow
    simp only [State.direct, hnothing]
    exact ⟨fun _ _ _ _ => rfl, rfl⟩
end

section
/-! SUPPORT. Semaphores: what their rows do, by the case of the semaphore and of the agent (R487 to R491), and with them the
statements on leases and on the semaphores' rows. -/

open Sys2Proof Sys2Proof.Machine

namespace Sys2Proof.Machine

variable {s q : State} {init n lease cmd : Nat} {m : Sem}

/-! ### The semaphore at an access -/

/-- A number below 64 names the semaphore and does not tell of the cycle before. -/
theorem bitOf_six_of_lt (hn : n < 64) : bitOf n 6 = false := Nat.testBit_lt_two_pow hn

theorem bitOf_six_add (hn : n < 64) : bitOf (64 + n) 6 = true := by
  rw [bitOf, show 64 + n = 2 ^ 6 + n from rfl, Nat.testBit_two_pow_add_eq, Nat.testBit_lt_two_pow hn]
  rfl

theorem State.semNow_of_apart : q.semNow false n = { (q.semOf n) with seen := q.clk, tried := [], fresh := false } := rfl

theorem State.semNow_of_same (h : (q.semOf n).seen / 800 = q.clk / 800) : q.semNow true n = q.semOf n := by
  simp [State.semNow, h]

/-! ### A write of CMD -/

section

variable (hinit : init ≠ 8)

include hinit

theorem State.semWrite_of_closed (same : Bool) (hcmd : cmd = 1 ∨ cmd = 2) (hopen : semOpen init n = false) :
    q.semWrite same init n cmd lease = q.semRefuse init n := by
  rcases hcmd with rfl | rfl <;> simp [State.semWrite, hinit, hopen]

variable (hopen : semOpen init n = true)

include hopen

theorem State.semWrite_acquire (same : Bool) (hlease : lease ≤ 1000) :
    q.semWrite same init n 1 lease = q.semAcquire (q.semNow same n) init n lease := by
  simp [State.semWrite, hinit, hopen, hlease]

theorem State.semWrite_acquire_of_long (same : Bool) (hlease : 1000 < lease) : q.semWrite same init n 1 lease = q := by
  simp [State.semWrite, hinit, hopen, hlease]

theorem State.semWrite_release (same : Bool) :
    q.semWrite same init n 2 0 = q.semRelease (q.semNow same n) init n := by
  simp [State.semWrite, hinit, hopen]

end

/-! ### Acquire and release -/

theorem State.semAcquire_of_free (h : m.held = false) : q.semAcquire m init n lease = q.semTake m init n lease := by
  simp [State.semAcquire, h]

/-- Of the acquires of one cycle the lowest owner ID wins (R491). -/
theorem State.semAcquire_of_lower (hfresh : m.fresh = true) (hlow : init < m.owner) :
    q.semAcquire m init n lease = q.semTake m init n lease := by
  simp [State.semAcquire, hfresh, hlow]

theorem State.semAcquire_of_held (hheld : m.held = true) (hfresh : m.fresh = false) : q.semAcquire m init n lease
    = { q with sem := Tab.put q.sem n { m with tried := (init, lease) :: m.tried } } := by
  simp [State.semAcquire, hheld, hfresh]

theorem State.semRelease_of_other (h : m.held = false ∨ m.owner ≠ init) : q.semRelease m init n = q.semRefuse init n := by
  have hcond : (m.held && m.owner == init) = false := by
    rcases h with h | h <;> simp [h]
  rw [State.semRelease, hcond]
  rfl

section

variable (hheld : m.held = true) (howner : m.owner = init)

include hheld howner

theorem State.semRelease_of_untried (htried : m.tried = []) : q.semRelease m init n
    = { q with sem := Tab.put q.sem n { m with
        held := false, broken := false, lease := none, tried := [], fresh := false } } := by
  simp [State.semRelease, hheld, howner, htried, firstTried]

theorem State.semRelease_of_tried {a : Nat} (htried : firstTried m.tried = some (a, lease)) : q.semRelease m init n
    = q.semTake { m with held := false, broken := false, lease := none, tried := [], fresh := false } a n lease := by
  simp [State.semRelease, hheld, howner, htried]

end

/-! ### The rows -/

/-- No row of a refused semaphore access changes a semaphore. -/
theorem State.refuseAccess_sem (s : State) (kind : Nat) (sp : Space) (target init : Nat) (ns : Bool) (acc addr : Nat) :
    (s.refuseAccess kind sp target init ns acc addr).sem = s.sem := by
  rw [(s.refuseAccess_queryOnly kind sp target init ns acc addr).rest]

theorem State.breakSem_sem (s : State) (n : Nat) : (s.breakSem n).sem
    = Tab.put s.sem n { held := false, owner := (s.semOf n).owner, broken := true } :=
  (State.raise_evOnly _ _ _ (by decide)).sem

theorem State.semOf_of_put {t : State} {w : Sem} (h : t.sem = Tab.put q.sem n w) : t.semOf n = w := by
  rw [State.semOf, h, Tab.get_put_same]

theorem State.semOf_semTake : (q.semTake m init n lease).semOf n = { m with
    held := true, owner := init, fresh := true, lease := if lease = 0 then none else some (q.clk + lease * 10 ^ 9) } :=
  State.semOf_of_put rfl

theorem State.semOf_congr {t : State} (h : t.sem = q.sem) : t.semOf n = q.semOf n := by
  rw [State.semOf, State.semOf, h]

theorem State.semOf_elapse (dt : Nat) : (s.elapse dt).semOf n = s.semOf n := State.semOf_congr (s.elapse_sem dt)

variable (hn : n < 64)

include hn

theorem exec_semAcquire (hlease : lease < 1024) :
    exec (.semAcquire init n lease) s = .next (s.quiet.semWrite false init n 1 lease) := by
  change execSemAcquire init n lease s = _
  rw [execSemAcquire, bitOf_six_of_lt hn, Nat.mod_eq_of_lt hn, Nat.mod_eq_of_lt hlease]

theorem exec_semAcquire_same (hlease : lease < 1024) :
    exec (.semAcquire init (64 + n) lease) s = .next (s.quiet.semWrite true init n 1 lease) := by
  change execSemAcquire init (64 + n) lease s = _
  rw [execSemAcquire, bitOf_six_add hn, Nat.add_mod_left, Nat.mod_eq_of_lt hn, Nat.mod_eq_of_lt hlease]

theorem exec_semRelease : exec (.semRelease init n) s = .next (s.quiet.semWrite false init n 2 0) := by
  change execSemRelease init n s = _
  rw [execSemRelease, bitOf_six_of_lt hn, Nat.mod_eq_of_lt hn]

theorem exec_semRelease_same : exec (.semRelease init (64 + n)) s = .next (s.quiet.semWrite true init n 2 0) := by
  change execSemRelease init (64 + n) s = _
  rw [execSemRelease, bitOf_six_add hn, Nat.add_mod_left, Nat.mod_eq_of_lt hn]

theorem exec_semLeaseExpiry {e : State} {dt t : Nat} (he : e = s.elapse dt) (hlease : (e.semOf n).lease = some t) :
    exec (.semLeaseExpiry dt n) s = .next (if (e.semOf n).held && decide (t ≤ e.clk) then e.breakSem n else e) := by
  change execSemLeaseExpiry dt n s = _
  rw [execSemLeaseExpiry, ← he, Nat.mod_eq_of_lt hn]
  simp only [hlease]

theorem exec_semLeaseExpiry_of_none {e : State} {dt : Nat} (he : e = s.elapse dt) (hlease : (e.semOf n).lease = none) :
    exec (.semLeaseExpiry dt n) s = .next e := by
  change execSemLeaseExpiry dt n s = _
  rw [execSemLeaseExpiry, ← he, Nat.mod_eq_of_lt hn]
  simp only [hlease]

/-- An acquire of a free semaphore takes it. -/
theorem exec_semAcquire_of_free (hinit : init ≠ 8) (hopen : semOpen init n = true) (hheld : (s.semOf n).held = false)
    (hlease : lease ≤ 1000) : exec (.semAcquire init n lease) s
    = .next (s.quiet.semTake { (s.semOf n) with seen := s.clk, tried := [], fresh := false } init n lease) := by
  rw [exec_semAcquire hn (by omega), State.semWrite_acquire hinit hopen false hlease, State.semNow_of_apart,
    State.semAcquire_of_free (by exact hheld)]
  rfl

/-- A release by the owner, apart from the cycle of every acquire, frees the semaphore. -/
theorem exec_semRelease_of_owner (hinit : init ≠ 8) (hopen : semOpen init n = true) (hheld : (s.semOf n).held = true)
    (howner : (s.semOf n).owner = init) : exec (.semRelease init n) s
    = .next { s.quiet with sem := Tab.put s.sem n { (s.semOf n) with
        held := false, broken := false, lease := none, seen := s.clk, tried := [], fresh := false } } := by
  rw [exec_semRelease hn, State.semWrite_release hinit hopen, State.semNow_of_apart,
    State.semRelease_of_untried (by exact hheld) (by exact howner) rfl]
  rfl

end Sys2Proof.Machine

/-- Settles O15, by the rows of the semaphore and the cases of its lease. -/
theorem semaphoreLease : Obligations.SemaphoreLease := by
  unfold Obligations.SemaphoreLease
  refine ⟨?leased, ?unleased, ?long, ?released, ?expired, ?running, ?without⟩
  case leased =>
    intro s init n lease hn hinit hopen hheld hmin hmax
    refine ⟨_, exec_semAcquire_of_free hn hinit hopen hheld hmax, ?_⟩
    have hsome : lease ≠ 0 := by omega
    beta_reduce
    rw [State.semOf_semTake, if_neg hsome]
    exact ⟨rfl, rfl, rfl, rfl⟩
  case unleased =>
    intro s init n hn hinit hopen hheld
    refine ⟨_, exec_semAcquire_of_free hn hinit hopen hheld (by decide), ?_⟩
    beta_reduce
    rw [State.semOf_semTake]
    exact ⟨rfl, rfl⟩
  case long =>
    intro s init n lease hmin hmax
    refine ⟨_, rfl, ?_⟩
    rw [Nat.mod_eq_of_lt hmax, State.semWrite]
    simp only [hmin, if_true]
    split
    · exact State.refuseAccess_sem ..
    split
    · rfl
    split
    · exact State.refuseAccess_sem ..
    · rfl
  case released =>
    intro s init n hn hinit hopen hheld howner
    refine ⟨_, exec_semRelease_of_owner hn hinit hopen hheld howner, ?_⟩
    beta_reduce
    rw [State.semOf_of_put (q := s) rfl]
    exact ⟨rfl, rfl, rfl⟩
  case expired =>
    intro s dt n t hn hheld hlease hdue
    refine ⟨_, exec_semLeaseExpiry hn rfl (by rw [State.semOf_elapse, hlease]), ?_⟩
    rw [State.semOf_elapse, State.elapse_clk, hheld, decide_eq_true hdue, if_pos (by rfl)]
    refine ⟨?_, ?_, State.eventSet_raise _ _ (by decide)⟩ <;> rw [State.semOf_of_put (State.breakSem_sem _ n)]
  case running =>
    intro s dt n t hn hlease hearly
    refine ⟨_, exec_semLeaseExpiry hn rfl (by rw [State.semOf_elapse, hlease]), ?_⟩
    rw [State.elapse_clk, decide_eq_false (by omega), Bool.and_false, if_neg (by decide)]
    exact s.elapse_sem dt
  case without =>
    intro s dt n hn hlease
    exact ⟨_, exec_semLeaseExpiry_of_none hn rfl (by rw [State.semOf_elapse, hlease]), s.elapse_sem dt⟩

/-- Settles O37, row by row: the semaphore and the agent choose the branch, and the branch is what the statement names. -/
theorem semaphoresComplete : Obligations.SemaphoresComplete := by
  unfold Obligations.SemaphoresComplete
  refine ⟨?leased, ?unleased, ?long, ?held, ?lower, ?released, ?followed, ?other, ?closed, ?expired⟩
  case leased =>
    rintro s q init n lease rfl hn hinit hopen hheld - hmax
    exact exec_semAcquire_of_free hn hinit hopen hheld hmax
  case unleased =>
    rintro s q init n rfl hn hinit hopen hheld
    exact exec_semAcquire_of_free hn hinit hopen hheld (by decide)
  case long =>
    rintro s q init n lease rfl hn hinit hopen hmin hmax
    rw [exec_semAcquire hn hmax, State.semWrite_acquire_of_long hinit hopen false hmin]
  case held =>
    rintro s q init n lease rfl hn hinit hopen hmax hheld
    rw [exec_semAcquire hn (by omega), State.semWrite_acquire hinit hopen false hmax, State.semNow_of_apart,
      State.semAcquire_of_held (by exact hheld) rfl]
  case lower =>
    rintro s q init n lease rfl hn hinit hopen hsame hmax - hfresh hlow
    rw [exec_semAcquire_same hn (by omega), State.semWrite_acquire hinit hopen true hmax, State.semNow_of_same hsame,
      State.semAcquire_of_lower hfresh hlow]
  case released =>
    rintro s q init n rfl hn hinit hopen hheld howner
    exact exec_semRelease_of_owner hn hinit hopen hheld howner
  case followed =>
    rintro s q init n a lease rfl hn hinit hopen hsame hheld howner htried
    rw [exec_semRelease_same hn, State.semWrite_release hinit hopen, State.semNow_of_same hsame,
      State.semRelease_of_tried hheld howner htried]
  case other =>
    rintro s q init n rfl hn hinit hopen hother
    rw [exec_semRelease hn, State.semWrite_release hinit hopen, State.semNow_of_apart,
      State.semRelease_of_other (by exact hother)]
    rfl
  case closed =>
    rintro s q init n lease rfl hn hinit hopen
    change execSemAcquire init n lease s = _
    rw [execSemAcquire, Nat.mod_eq_of_lt hn, State.semWrite_of_closed hinit _ (.inl rfl) hopen]
    rfl
  case expired =>
    intro s e dt n t he hn hheld hlease hdue
    rw [exec_semLeaseExpiry hn he hlease, hheld, decide_eq_true hdue, if_pos (by rfl)]
    rfl
end

section
/-! SUPPORT. A mailbox at its registers, the opcodes of the command table, and the rows of the cores, each through the branch
that its condition chooses (R458 to R462, R469 to R475), and with them the statements on these. -/

open Sys2Proof Sys2Proof.Machine

namespace Sys2Proof.Machine

variable {s q e : State} {init mb k v dt core : Nat}

/-! ### A mailbox at its registers (R469) -/

theorem exec_doorbellRing (hmb : mb < 16) (ha : Allowed s init (0x1000 * mb + 0x200) true) :
    exec (.doorbellRing init mb) s = .next (s.quiet.direct fun q => q.doorbell init mb) := by
  change execDoorbellRing init mb s = _
  rw [execDoorbellRing, if_neg (by omega), s.directWrite_of_writable _ (allowed_quiet ha) (State.writable_nil _)]

theorem exec_requestWrite (hmb : mb < 16) (hk : k < 64) (ha : Allowed s init (0x1000 * mb + 4 * k) true) :
    exec (.requestWrite init mb k v) s = .next (s.quiet.direct fun q => q.reqWrite mb k v) := by
  change execRequestWrite init mb k v s = _
  simp only [execRequestWrite, Nat.mod_eq_of_lt hk]
  rw [if_neg (by omega), s.directWrite_of_writable _ (allowed_quiet ha) (State.writable_nil _)]

theorem exec_responseRead (hmb : mb < 16) (hk : k < 64) (ha : Allowed s init (0x1000 * mb + 0x100 + 4 * k) false) :
    exec (.responseRead init mb k) s
      = .next ((s.quiet.rspRead mb k).emit (.readData init [s.quiet.rspWord mb k])) := by
  have hc : s.quiet.checkAccess init (0x1000 * mb + 0x100 + 4 * k) false = none := allowed_quiet ha
  change execResponseRead init mb k s = _
  simp only [execResponseRead, Nat.mod_eq_of_lt hk]
  rw [if_neg (by omega)]
  simp only [hc]

/-- What an accepted doorbell makes of its mailbox's three fields. -/
theorem State.ring_fields (s : State) (init mb : Nat) :
    (s.ring init mb).get R.MB_n_STATE_STATE mb = 1
      ∧ (s.ring init mb).get R.MB_n_SEQ_REQ_SEQ mb = (s.get R.MB_n_SEQ_REQ_SEQ mb + 1) % 2 ^ 16
      ∧ (s.ring init mb).on R.MB_n_STATE_PEND_NR mb = !s.coreReady (coreOf mb) := by
  have hseqState : R.MB_n_STATE_STATE.key mb 0 ≠ R.MB_n_SEQ_REQ_SEQ.key mb 0 := by
    simp only [Fld.key, R.MB_n_STATE_STATE, R.MB_n_SEQ_REQ_SEQ]; omega
  have hpendState : R.MB_n_STATE_STATE.key mb 0 ≠ R.MB_n_STATE_PEND_NR.key mb 0 := by
    simp only [Fld.key, R.MB_n_STATE_STATE, R.MB_n_STATE_PEND_NR]; omega
  have hpendSeq : R.MB_n_SEQ_REQ_SEQ.key mb 0 ≠ R.MB_n_STATE_PEND_NR.key mb 0 := by
    simp only [Fld.key, R.MB_n_SEQ_REQ_SEQ, R.MB_n_STATE_PEND_NR]; omega
  have hget (f : Fld) : (s.ring init mb).get f mb = (((s.set R.MB_n_STATE_STATE 1 mb).incWrap R.MB_n_SEQ_REQ_SEQ mb).setB
    R.MB_n_STATE_PEND_NR (!s.coreReady (coreOf mb)) mb).get f mb := rfl
  refine ⟨?_, ?_, ?_⟩
  · rw [hget, State.setB, State.get_set_ne _ _ hpendState, State.incWrap, State.get_set_ne _ _ hseqState, State.get_set_same]
    rfl
  · rw [hget, State.setB, State.get_set_ne _ _ hpendSeq, State.incWrap, State.get_set_same, State.get_set_ne _ _ hseqState.symm]
    rfl
  · rw [State.on, hget, State.setB, State.get_set_same]
    cases s.coreReady (coreOf mb) <;> rfl

/-- The read of a response word consumes a READY response at its last word, and changes STATE alone. -/
theorem State.rspRead_state (s : State) (mb k : Nat) : (s.rspRead mb k).get R.MB_n_STATE_STATE mb
    = if s.get R.MB_n_STATE_STATE mb = 2 ∧ s.get R.MB_n_STATE_LEN mb = k then 3 else s.get R.MB_n_STATE_STATE mb := by
  unfold State.rspRead
  split
  · rw [State.get_set_same]
    rfl
  · rfl

theorem State.rspRead_regsKept (s : State) (mb k : Nat) :
    s.RegsKept (s.rspRead mb k) fun x => x = R.MB_n_STATE_STATE.key mb 0 := by
  unfold State.rspRead
  split
  · exact fun _ _ _ hk => s.get_set_ne _ hk
  · exact fun _ _ _ _ => rfl

/-! ### Opcodes (R475) -/

/-- How many codes of a group the table names, one after the other from 01 on. -/
def groupSize (g : Nat) : Nat :=
  match g with
  | 0x01 => 7 | 0x02 => 5 | 0x03 => 5 | 0x10 => 14 | 0x11 => 11 | 0x12 => 5 | 0x13 => 8 | 0x14 => 4 | 0x20 => 7 | 0x21 => 6
  | 0x22 => 7 | 0x23 => 8 | 0x24 => 9 | 0x25 => 8 | 0x30 => 9 | 0x31 => 7 | 0x32 => 6 | _ => 0

/-- An opcode that names a command lies among the codes of its group. -/
theorem imageCmds_ops : ∀ op ∈ imageCmds.map Cmd.op, 1 ≤ op % 256 ∧ op % 256 ≤ groupSize (op / 256) := by
  simp only [imageCmds, List.map_append, List.forall_mem_append, and_assoc]
  refine ⟨?_, ?_, ?_, ?_, ?_, ?_, ?_, ?_, ?_, ?_, ?_, ?_, ?_, ?_, ?_, ?_, ?_⟩ <;> decide

theorem cmdOf_eq_none {op : Nat} (h : op % 256 = 0 ∨ groupSize (op / 256) < op % 256) : cmdOf op = none := by
  have hload : op ≠ 0x0106 := by
    rintro rfl
    revert h
    decide
  rw [cmdOf, if_neg hload, imageCmd, List.find?_eq_none]
  intro c hc heq
  have hop : c.op = op := by simpa using heq
  have := imageCmds_ops op (hop ▸ List.mem_map_of_mem hc)
  omega

/-- A list of codes names commands that carry them, one after the other from an opcode on. -/
inductive Names : Nat → List (Option Cmd) → Prop
  | nil (op : Nat) : Names op []
  | cons {op : Nat} {o : Option Cmd} {cs : List (Option Cmd)} (hof : cmdOf op = o) (hop : ∀ c ∈ o, c.op = op)
      (hrest : Names (op + 1) cs) : Names op (o :: cs)

theorem Names.getD {op : Nat} {cs : List (Option Cmd)} (h : Names op cs) : ∀ k, k < cs.length →
    cmdOf (op + k) = cs.getD k none ∧ ∀ c, cs.getD k none = some c → c.op = op + k := by
  induction h with
  | nil => exact fun _ hk => absurd hk (Nat.not_lt_zero _)
  | @cons op o cs hof hop hrest ih =>
    intro k hk
    cases k with
    | zero => exact ⟨hof, hop⟩
    | succ k =>
      rw [show op + (k + 1) = op + 1 + k by omega, List.getD_cons_succ]
      exact ih k (Nat.lt_of_succ_lt_succ hk)

theorem Names.some {op : Nat} {c : Cmd} {cs : List (Option Cmd)} (hof : cmdOf op = Option.some c) (hop : c.op = op)
    (hrest : Names (op + 1) cs) : Names op (Option.some c :: cs) :=
  .cons hof (fun _ h => Option.mem_some.mp h ▸ hop) hrest

/-- What the table says of a group: its codes from 01 on name its commands, and no other code names one. -/
def GroupNamed (g : Nat × List (Option Cmd)) : Prop :=
  (∀ k, k < g.2.length → cmdOf (256 * g.1 + k + 1) = g.2.getD k none
      ∧ ∀ c, g.2.getD k none = Option.some c → c.op = 256 * g.1 + k + 1)
    ∧ ∀ op, op / 256 = g.1 → (op % 256 = 0 ∨ g.2.length < op % 256) → cmdOf op = none

theorem GroupNamed.intro {g : Nat} {cs : List (Option Cmd)} (hnames : Names (256 * g + 1) cs)
    (hsize : groupSize g = cs.length) : GroupNamed (g, cs) := by
  refine ⟨fun k hk => ?_, fun op hop hout => cmdOf_eq_none (by rw [hop, hsize]; exact hout)⟩
  rw [show 256 * g + k + 1 = 256 * g + 1 + k by omega]
  exact hnames.getD k hk

theorem groupSize_of_not_mem {g : Nat}
    (h : g ∉ [0x01, 0x02, 0x03, 0x10, 0x11, 0x12, 0x13, 0x14, 0x20, 0x21, 0x22, 0x23, 0x24, 0x25, 0x30, 0x31, 0x32]) :
    groupSize g = 0 := by
  simp only [List.mem_cons, List.not_mem_nil, or_false, not_or] at h
  unfold groupSize
  split
  iterate 17 next => omega
  rfl

/-- A request whose opcode names no command is answered BAD_OPCODE, and nothing else is done. -/
theorem State.exchange_none {op : Nat} {r : Req} (hmb : r.mb < 16) (hworld : r.mb < 8 → s.initSecure r.init = true)
    (hfree : s.mbBusy r.mb = false) (hnow : (s.rung op r).servesNow r.mb = true) :
    s.exchange none op r = ((s.rung op r).holdMb r.mb).respond r.mb .badOpcode [] := by
  have hmay : ¬ (decide (r.mb < 8) && !s.initSecure r.init) = true := by
    simpa using hworld
  rw [State.exchange, if_neg (by omega), if_neg hmay, hfree, if_neg (by decide)]
  simp only [hnow, if_true]
  rfl

/-! ### Cores (R458 to R462, R471) -/

theorem coreNumber (hcore : core = 0 ∨ core = 2 ∨ core = 3) : (if core = 2 ∨ core = 3 then core else 0) = core := by
  rcases hcore with rfl | rfl | rfl <;> rfl

section

variable (he : e = s.elapse dt) (hready : e.coreReady core = true)

include he in
theorem exec_requestTake (hcore : core = 0 ∨ core = 2 ∨ core = 3) :
    exec (.requestTake dt core) s = .next (e.takeNext core) := by
  change execRequestTake dt core s = _
  rw [execRequestTake, ← he, coreNumber hcore]

include hready

theorem State.takeNext_of_idle (hidle : e.takenBy core = none) (hnext : (e.turns core).find? e.mbWaiting = some mb) :
    e.takeNext core = e.takeMb mb (e.mbCmd mb) := by
  simp [State.takeNext, hready, hidle, hnext]

variable {x : Taken} (hholds : e.takenBy core = some x)

include hholds

theorem State.takeNext_of_heldBack (hback : e.heldBack core x.mb = true) :
    e.takeNext core = e.takeMb x.mb (e.mbCmd x.mb) := by
  simp [State.takeNext, hready, hholds, hback]

variable (hback : e.heldBack core x.mb = false)

include hback

theorem State.takeNext_of_semWait (hwait : (Tab.find? e.ctl.semWait x.mb).isSome = true) :
    e.takeNext core = e.carryOut x.mb (e.mbCmd x.mb) := by
  simp [State.takeNext, hready, hholds, hback, hwait]

theorem State.takeNext_of_load (hcore : core = 0) (hwait : (Tab.find? e.ctl.semWait x.mb).isSome = false) {r : ImgRun}
    (hload : e.ctl.load = some (mb, r)) : e.takeNext core = e.loadGo mb r := by
  subst hcore
  simp [State.takeNext, hready, hholds, hback, hwait, hload]

end

/-- C0 holds back no request: the internal queue is its own. -/
theorem State.heldBack_zero (e : State) (mb : Nat) : e.heldBack 0 mb = false := rfl

section

variable (he : e = s.elapse dt)

include he

theorem exec_secureQueuePass {rest : List Nat} (hqueue : e.ctl.queue = mb :: rest) (hready : e.coreReady 0 = true)
    (hfree : e.ctl.takenS = none) : exec (.secureQueuePass dt) s
    = .next (({ e with ctl := { e.ctl with queue := rest } }.setTaken 0 (some { mb := mb })).carryOut mb (e.mbCmd mb)) := by
  change execSecureQueuePass dt s = _
  simp only [execSecureQueuePass, ← he, hqueue, hready, hfree, Option.isNone_none, Bool.and_self, if_true]

theorem exec_lockstepMismatch : exec (.lockstepMismatch dt) s
    = .next (if e.coreRuns 0 then ((e.incSat R.MB_STATUS_LOCKSTEP_CNT).raise 89).restartCore 0 2 else e) := by
  rw [he]
  rfl

theorem exec_csramDbe {region : Nat} (fetch : Bool) (hregion : region < 32) (hruns : e.coreRuns core = true) :
    exec (.csramDbe dt core region fetch) s
      = .next (if fetch then (({ e with ctl := { e.ctl with dbeRegion := some region } }).raise 91 region).restartCore core 3
        else (({ e with ctl := { e.ctl with dbeRegion := some region } }).raise 91 region).emit
          (.errResp core (0x40000 * region))) := by
  change execCsramDbe dt core region fetch s = _
  simp only [execCsramDbe, ← he, Nat.mod_eq_of_lt hregion, hruns, if_true]

theorem exec_watchdogExpiry {t : Nat} (hkicked : Tab.find? e.ctl.kicked core = some t) : exec (.watchdogExpiry dt core) s
    = .next (if 4 * t + 3 * e.get R.MB_WDTc_CFG_TIMEOUT core * 10 ^ 9 ≤ 4 * e.clk then e.restartCore core 1 else e) := by
  change execWatchdogExpiry dt core s = _
  simp only [execWatchdogExpiry, ← he, hkicked]

variable (hrestarts : (Tab.find? e.ctl.restart core).isNone = false)

include hrestarts

theorem exec_coreRestartEnd_of_sound (hsound : e.runSlot = none ∨ e.imageSpoilt core = false) :
    exec (.coreRestartEnd dt core) s = .next (e.coreUp core) := by
  change execCoreRestartEnd dt core s = _
  simp only [execCoreRestartEnd, ← he, hrestarts, Bool.false_eq_true, if_false]
  cases hslot : e.runSlot with
  | none => rfl
  | some slot =>
    have hsound : e.imageSpoilt core = false := hsound.resolve_left (by simp [hslot])
    simp only [hsound, Bool.false_eq_true, if_false]

theorem exec_coreRestartEnd_of_spoilt {slot : Nat} (hslot : e.runSlot = some slot) (hspoilt : e.imageSpoilt core = true) :
    exec (.coreRestartEnd dt core) s = .next (if e.fwAccepted slot then (e.loadFw slot).coreUp core else e) := by
  change execCoreRestartEnd dt core s = _
  simp only [execCoreRestartEnd, ← he, hrestarts, hslot, hspoilt, Bool.false_eq_true, if_false, if_true]

end

theorem exec_wdtKick (hcore : core < 4) (ha : Allowed s.quiet init (0x660000 + 4 * core) true) :
    exec (.wdtKick init core) s = .next (s.quiet.direct fun q => q.kick core) := by
  change execWdtKick init core s = _
  simp only [execWdtKick, Nat.mod_eq_of_lt hcore]
  rw [s.directWrite_of_writable _ ha (State.writable_nil _)]

end Sys2Proof.Machine

/-- Settles O12: at an allowed access the mailbox's STATE chooses what is done, and only its own fields are written. -/
theorem mailboxProtocol : Obligations.MailboxProtocol := by
  unfold Obligations.MailboxProtocol
  refine ⟨?rung, ?lost, ?stored, ?ignored, ?read⟩
  case rung =>
    intro s init mb hmb ha hfree
    have hring : s.quiet.doorbell init mb = s.quiet.ring init mb := if_neg (ne_true_of_eq_false hfree)
    refine ⟨_, exec_doorbellRing hmb ha, ?_⟩
    rw [State.direct, hring]
    obtain ⟨hstate, hseq, hpend⟩ := s.quiet.ring_fields init mb
    refine ⟨hstate, hseq, hpend, fun f i j hk => ?_⟩
    simp only [not_or] at hk
    obtain ⟨hk1, hk2, hk3⟩ := hk
    exact s.quiet.get_ring hk1 hk2 hk3
  case lost =>
    intro s init mb hmb ha hbusy
    have hlost : s.quiet.doorbell init mb = s.quiet.set R.MB_n_STATE_DOOR_LOST 1 mb := if_pos hbusy
    refine ⟨_, exec_doorbellRing hmb ha, ?_⟩
    rw [State.direct, hlost]
    exact ⟨s.quiet.get_set_same R.MB_n_STATE_DOOR_LOST 1 mb 0, fun _ _ _ hk => s.quiet.get_set_ne _ hk⟩
  case stored =>
    intro s init mb k v hmb hk ha hfree
    have hstored : s.quiet.reqWrite mb k v = s.quiet.set R.MB_n_REQ_W v mb k := if_neg (ne_true_of_eq_false hfree)
    refine ⟨_, exec_requestWrite hmb hk ha, ?_⟩
    rw [State.direct, hstored]
    exact ⟨s.quiet.get_set_same R.MB_n_REQ_W v mb k, fun _ _ _ hk => s.quiet.get_set_ne _ hk⟩
  case ignored =>
    intro s init mb k v hmb hk ha hbusy
    have hlost : s.quiet.reqWrite mb k v = s.quiet.set R.MB_n_STATE_REQ_WR_LOST 1 mb := if_pos hbusy
    refine ⟨_, exec_requestWrite hmb hk ha, ?_⟩
    rw [State.direct, hlost]
    exact ⟨s.quiet.get_set_same R.MB_n_STATE_REQ_WR_LOST 1 mb 0, fun _ _ _ hk => s.quiet.get_set_ne _ hk⟩
  case read =>
    intro s init mb k hmb hk ha
    refine ⟨_, exec_responseRead hmb hk ha, ?_, s.quiet.rspRead_state mb k, s.quiet.rspRead_regsKept mb k⟩
    have hout : (s.quiet.rspRead mb k).out = [] := by
      unfold State.rspRead
      split <;> rfl
    simp only [State.emit, hout]
    rfl

/-- Settles O14: an opcode of the table is found in its group's list, and every other lies outside its group's codes. -/
theorem opcodesOfTheTable : Obligations.OpcodesOfTheTable := by
  unfold Obligations.OpcodesOfTheTable
  refine ⟨?table, ?groups, ?answer⟩
  case table =>
    suffices hall : ∀ g ∈ _, GroupNamed g from hall
    simp only [List.forall_mem_cons, List.not_mem_nil, false_imp_iff, implies_true, and_true]
    refine ⟨?_, ?_, ?_, ?_, ?_, ?_, ?gnss, ?_, ?_, ?_, ?_, ?_, ?_, ?_, ?_, ?_, ?_⟩
    case gnss =>
      refine .intro ?_ rfl
      iterate 4 refine .some rfl rfl ?_
      refine .cons rfl (fun _ h => by cases h) ?_
      iterate 3 refine .some rfl rfl ?_
      exact .nil _
    all_goals
      refine .intro ?_ rfl
      repeat refine .some rfl rfl ?_
      exact .nil _
  case groups =>
    intro op hop
    refine cmdOf_eq_none ?_
    rw [groupSize_of_not_mem hop]
    exact Nat.eq_zero_or_pos _
  case answer =>
    intro s op r hop hnone hmb hworld hfree hnow
    refine ⟨_, ?_, State.respond_answered _ hmb _ _ (Nat.zero_le _), rfl⟩
    change execBadOpcode op r s = _
    rw [execBadOpcode, Nat.mod_eq_of_lt hop, hnone, State.exchange_none hmb hworld hfree hnow]

/-- Settles O36, row by row: the row's condition chooses the branch, and the branch is what the statement names. -/
theorem controlEventsComplete : Obligations.ControlEventsComplete := by
  unfold Obligations.ControlEventsComplete
  refine ⟨?next, ?back, ?again, ?load, ?queue, ?mismatch, ?fetch, ?data, ?watchdog, ?kick, ?up, ?reload⟩
  case next =>
    intro s e dt core mb he hcore hready hidle hnext
    rw [exec_requestTake he hcore, State.takeNext_of_idle hready hidle hnext]
  case back =>
    intro s e dt core x he hcore hready hholds hback
    rw [exec_requestTake he (.inr hcore), State.takeNext_of_heldBack hready hholds hback]
  case again =>
    intro s e dt core x he hcore hready hholds hback hwait
    rw [exec_requestTake he hcore, State.takeNext_of_semWait hready hholds hback hwait]
  case load =>
    intro s e dt mb x r he hready hholds hwait hload
    rw [exec_requestTake he (.inl rfl), State.takeNext_of_load hready hholds (e.heldBack_zero _) rfl hwait hload]
  case queue =>
    intro s e dt mb rest he hqueue hready hfree
    exact exec_secureQueuePass he hqueue hready hfree
  case mismatch =>
    intro s e dt he hruns
    rw [exec_lockstepMismatch he, if_pos hruns]
  case fetch =>
    intro s e dt core region he hregion hruns
    exact exec_csramDbe he true hregion hruns
  case data =>
    intro s e dt core region he hregion hruns
    exact exec_csramDbe he false hregion hruns
  case watchdog =>
    intro s e dt core t he hkicked hdue
    rw [exec_watchdogExpiry he hkicked, if_pos hdue]
  case kick =>
    rintro s q init core rfl ha hcore hruns
    have hkick : s.quiet.kick core
        = { s.quiet with ctl := { s.quiet.ctl with kicked := Tab.put s.quiet.ctl.kicked core s.quiet.clk } } := if_pos hruns
    rw [exec_wdtKick hcore ha, State.direct, hkick]
    rfl
  case up =>
    intro s e dt core he hrestarts hsound
    exact exec_coreRestartEnd_of_sound he hrestarts hsound
  case reload =>
    intro s e dt core slot he hrestarts hslot hspoilt
    exact exec_coreRestartEnd_of_spoilt he hrestarts hslot hspoilt
end

section
/-! SUPPORT. What a command leaves alone: the queue of waiting commands, the flash and the control SRAM. One lemma for each
operation of the model, in the model's order; `simp` chains them. -/

open Sys2Proof Sys2Proof.Machine
namespace Sys2Proof.Machine

/-- The queue of waiting commands, the flash and the control SRAM are as they were. -/
@[simp] abbrev State.Keeps (s t : State) : Prop :=
  t.pending = s.pending ∧ t.flash = s.flash ∧ t.csram = s.csram

/-- A row answers a next state that keeps them. -/
def State.Answers (s : State) (o : Host.Outcome State Fault Refusal) : Prop := ∃ t, o = .next t ∧ s.Keeps t

/-- A command's body keeps them. -/
@[simp] abbrev Cmd.Keeps (cmd : Cmd) : Prop := ∀ c (s : State), s.Keeps (cmd.body c s).st

/-- A register's write handler keeps them. -/
@[simp] abbrev Handler.Keeps (h : Handler) : Prop := ∀ x (s : State), s.Keeps (h x s)

@[simp] theorem State.answers_next {s t : State} : s.Answers (.next t) ↔ s.Keeps t := by
  simp [State.Answers]

theorem State.Keeps.refl (s : State) : s.Keeps s := ⟨rfl, rfl, rfl⟩

theorem State.Keeps.trans {s t u : State} (h : s.Keeps t) (g : t.Keeps u) : s.Keeps u :=
  ⟨g.1.trans h.1, g.2.1.trans h.2.1, g.2.2.trans h.2.2⟩

theorem State.Keeps.of_snd {α : Type} {s t : State} {a : α} {p : α × State} (h : s.Keeps p.2) (hp : p = (a, t)) :
    s.Keeps t := by
  subst hp
  exact h

theorem State.keeps_ite {c : Prop} [Decidable c] {s a b : State} (ha : s.Keeps a) (hb : s.Keeps b) :
    s.Keeps (if c then a else b) := by
  split
  · exact ha
  · exact hb

@[simp] theorem State.ite_pending {c : Prop} [Decidable c] (a b : State) :
    (if c then a else b).pending = if c then a.pending else b.pending := apply_ite ..

@[simp] theorem State.ite_flash {c : Prop} [Decidable c] (a b : State) :
    (if c then a else b).flash = if c then a.flash else b.flash := apply_ite ..

@[simp] theorem State.ite_csram {c : Prop} [Decidable c] (a b : State) :
    (if c then a else b).csram = if c then a.csram else b.csram := apply_ite ..

@[simp] theorem Res.ite_st {c : Prop} [Decidable c] (a b : Res) :
    (if c then a else b).st = if c then a.st else b.st := apply_ite ..

@[simp] theorem State.foldl_keeps {α : Type} {f : State → α → State} (h : ∀ (s : State) x, s.Keeps (f s x)) (l : List α)
    (s : State) : s.Keeps (l.foldl f s) := by
  induction l generalizing s with
  | nil => exact .refl s
  | cons x l ih => exact (h s x).trans (ih (f s x))

@[simp] theorem Option.getD_keeps {s d : State} {o : Option State} (h : ∀ t ∈ o, s.Keeps t) (hd : s.Keeps d) :
    s.Keeps (o.getD d) := by
  cases o with
  | none => exact hd
  | some t => exact h t rfl

@[simp] theorem done_st (s : State) (ws : List Nat) : (done s ws).st = s := rfl

@[simp] theorem fail_st (s : State) (st : Status) : (fail s st).st = s := rfl

@[simp] theorem need_res (b : Bool) (st : Status) (s : State) (k : Res) :
    (need b st s k).st = if b then k.st else s := by
  unfold need
  split <;> rfl

@[simp] theorem unlessLocked_st (s : State) (e : Nat) (k : Res) :
    (unlessLocked s e k).st = if s.worldLocked (s.entryNonSecure e) then s else k.st := by
  unfold unlessLocked
  split <;> rfl

/-! #### Ops -/

@[simp] theorem State.set_keeps (s : State) (f : Fld) (v : Nat) (i : Nat) (j : Nat) : s.Keeps (State.set s f v i j) := by
  simp [State.set]

@[simp] theorem State.setB_keeps (s : State) (f : Fld) (b : Bool) (i : Nat) (j : Nat) : s.Keeps (State.setB s f b i j) := by
  simp [State.setB]

@[simp] theorem State.setZ_keeps (s : State) (f : Fld) (z : Int) (i : Nat) (j : Nat) : s.Keeps (State.setZ s f z i j) := by
  simp [State.setZ]

@[simp] theorem State.incSat_keeps (s : State) (f : Fld) (i : Nat) (j : Nat) (n : Nat) : s.Keeps (State.incSat s f i j n) := by
  simp [State.incSat]

@[simp] theorem State.incWrap_keeps (s : State) (f : Fld) (i : Nat) (j : Nat) : s.Keeps (State.incWrap s f i j) := by
  simp [State.incWrap]

@[simp] theorem State.set64_keeps (s : State) (lo hi : Fld) (v : Nat) (i : Nat) (j : Nat) :
    s.Keeps (State.set64 s lo hi v i j) := by
  simp [State.set64]

@[simp] theorem State.set64Z_keeps (s : State) (lo hi : Fld) (z : Int) (i : Nat) (j : Nat) :
    s.Keeps (State.set64Z s lo hi z i j) := by
  simp [State.set64Z]

@[simp] theorem State.writes_keeps (s : State) (ws : List FieldWrite) : s.Keeps (State.writes s ws) := by
  simp [State.writes]

@[simp] theorem State.draw_keeps (s : State) (w : Nat) : s.Keeps (State.draw s w).2 := by
  simp [State.draw]

@[simp] theorem State.trainLinks_keeps (s : State) (l : List Nat) : s.Keeps (s.trainLinks l) := by
  simp [State.trainLinks, State.draw]

@[simp] theorem State.emit_keeps (s : State) (o : Out) : s.Keeps (State.emit s o) := by
  simp [State.emit]

@[simp] theorem State.quiet_keeps (s : State) : s.Keeps (State.quiet s) := by
  simp [State.quiet]

@[simp] theorem State.cfgWrites_keeps (s : State) (ws : List FieldWrite) : s.Keeps (State.cfgWrites s ws) := by
  simp [State.cfgWrites]

@[simp] theorem State.tbUpd_keeps (s : State) (n : Nat) (f : Tb → Tb) : s.Keeps (State.tbUpd s n f) := by
  simp [State.tbUpd]

@[simp] theorem State.slotUpd_keeps (s : State) (i : Nat) (f : Slot → Slot) : s.Keeps (State.slotUpd s i f) := by
  simp [State.slotUpd]

@[simp] theorem State.dpllUpd_keeps (s : State) (n : Nat) (f : Dpll → Dpll) : s.Keeps (State.dpllUpd s n f) := by
  simp [State.dpllUpd]

@[simp] theorem State.tell_keeps (s : State) (line : String) : s.Keeps (State.tell s line) := by
  simp [State.tell]

@[simp] theorem State.sendVec_keeps (s : State) (fn v : Nat) : s.Keeps (State.sendVec s fn v) := by
  simp [State.sendVec]

@[simp] theorem State.latchEvent_keeps (s : State) (e : Nat) : s.Keeps (State.latchEvent s e) := by
  simp [State.latchEvent]

@[simp] theorem State.recordEvent_keeps (s : State) (e detail : Nat) : s.Keeps (State.recordEvent s e detail).1 := by
  unfold State.recordEvent
  (repeat' split) <;> simp

@[simp] theorem State.countProg_keeps (s : State) (ev port m n : Nat) : s.Keeps (State.countProg s ev port m n) := by
  simp [State.countProg]

@[simp] theorem State.raiseOne_keeps (s : State) (e detail : Nat) : s.Keeps (State.raiseOne s e detail).1 := by
  simp [State.raiseOne]

@[simp] theorem State.evrecOvf_keeps (s : State) (bs bn : Bool) : s.Keeps (State.evrecOvf s bs bn) := by
  simp [State.evrecOvf]

@[simp] theorem State.raise_keeps (s : State) (e : Nat) (detail : Nat) : s.Keeps (State.raise s e detail) := by
  simp [State.raise]

@[simp] theorem State.violation_keeps (s : State) (kind : Nat) (sp : Space) (target init : Nat) (tNonSecure : Bool)
    (acc addr : Nat) :
    s.Keeps (State.violation s kind sp target init tNonSecure acc addr) := by
  simp [State.violation]

@[simp] theorem State.clearViolations_keeps (s : State) : s.Keeps (State.clearViolations s) := by
  simp [State.clearViolations]

@[simp] theorem State.breakSem_keeps (s : State) (n : Nat) : s.Keeps (State.breakSem s n) := by
  simp [State.breakSem]

@[simp] theorem State.ownerFault_keeps (s : State) (owner : Nat) : s.Keeps (State.ownerFault s owner) := by
  simp [State.ownerFault]

@[simp] theorem State.count_keeps (s : State) (port i : Nat) (n : Nat) : s.Keeps (State.count s port i n) := by
  simp [State.count]

/-! #### Layout -/

@[simp] theorem State.schedUpd_keeps (s : State) (p : Nat) (f : Sched → Sched) : s.Keeps (State.schedUpd s p f) := by
  simp [State.schedUpd]

@[simp] theorem State.schedAccept_keeps (s : State) (p t : Nat) (keeps : Bool) : s.Keeps (State.schedAccept s p t keeps) := by
  simp [State.schedAccept]

@[simp] theorem State.writeBank_keeps (s : State) (p b : Nat) (l : List (Nat × Nat)) (cyc : Nat) :
    s.Keeps (State.writeBank s p b l cyc) := by
  simp [State.writeBank]

@[simp] theorem State.writeLayout_keeps (s : State) (model : List Flow) (p : Nat) : s.Keeps (State.writeLayout s model p) := by
  simp [State.writeLayout]

@[simp] theorem State.foRecommit_keeps (s : State) (p : Nat) : s.Keeps (State.foRecommit s p) := by
  simp [State.foRecommit]

@[simp] theorem State.foModeChange_keeps (s : State) (p : Nat) : s.Keeps (State.foModeChange s p) := by
  simp [State.foModeChange]

@[simp] theorem State.fwdAccept_keeps (s : State) (mb : Option Nat) (waits : Bool) : s.Keeps (State.fwdAccept s mb waits) := by
  simp [State.fwdAccept]

@[simp] theorem State.foPoll_keeps (s : State) : s.Keeps (State.foPoll s) := by
  simp [State.foPoll]

@[simp] theorem State.queueSync_keeps (s : State) : s.Keeps (State.queueSync s) := by
  simp [State.queueSync]

/-! #### Sweep -/

@[simp] theorem State.sweepRun_keeps (s : State) : s.Keeps (State.sweepRun s) := by
  unfold State.sweepRun
  (repeat' split) <;> simp

/-! #### Time -/

@[simp] theorem State.rebasePair_keeps (s : State) (k : Nat) : s.Keeps (State.rebasePair s k) := by
  simp [State.rebasePair]

@[simp] theorem State.ppsUpd_keeps (s : State) (n : Nat) (f : Pps → Pps) : s.Keeps (State.ppsUpd s n f) := by
  simp [State.ppsUpd]

@[simp] theorem State.followSync_keeps (s : State) : s.Keeps (State.followSync s) := by
  simp [State.followSync]

@[simp] theorem State.applyLeaps_keeps (s : State) (n : Nat) : s.Keeps (State.applyLeaps s n) := by
  simp [State.applyLeaps]

@[simp] theorem State.todTake_keeps (s : State) (sec : Nat) : s.Keeps (State.todTake s sec) := by
  simp [State.todTake]

@[simp] theorem State.todCapture_keeps (s : State) : s.Keeps (State.todCapture s) := by
  simp [State.todCapture]

@[simp] theorem State.countCycles_keeps (s : State) (dt : Nat) : s.Keeps (State.countCycles s dt) := by
  simp [State.countCycles]

@[simp] theorem State.advanceAll_keeps (s : State) (dt : Nat) : s.Keeps (State.advanceAll s dt) := by
  simp [State.advanceAll]

@[simp] theorem State.advanceOcxo_keeps (s : State) (dt : Nat) : s.Keeps (State.advanceOcxo s dt) := by
  simp [State.advanceOcxo]

@[simp] theorem State.clock_keeps (s : State) (dt : Nat) : s.Keeps (State.clock s dt) := by
  simp [State.clock]

@[simp] theorem State.elapse_keeps (s : State) (dt : Nat) : s.Keeps (State.elapse s dt) := by
  simp [State.elapse]

@[simp] theorem State.judgeTime_keeps (s : State) (n : Nat) : s.Keeps (State.judgeTime s n) := by
  simp [State.judgeTime]

@[simp] theorem State.cmpAim_keeps (s : State) (m tb : Nat) : s.Keeps (State.cmpAim s m tb) := by
  simp [State.cmpAim]

@[simp] theorem State.capture_keeps (s : State) (mask : Nat) (cmp : Option Nat) : s.Keeps (State.capture s mask cmp) := by
  simp [State.capture]

@[simp] theorem State.cmpPins_keeps (s : State) (m : Nat) (edge : Nat → Int) : s.Keeps (State.cmpPins s m edge) := by
  simp [State.cmpPins]

@[simp] theorem State.fireCmp_keeps (s : State) (m k : Nat) (edge : Nat → Int) : s.Keeps (State.fireCmp s m k edge) := by
  simp [State.fireCmp]

@[simp] theorem State.stepCmp_keeps (s : State) (m now : Nat) : s.Keeps (State.stepCmp s m now) := by
  simp [State.stepCmp]

@[simp] theorem State.schedAlign_keeps (s : State) (tb : Nat) (ports : List Nat) : s.Keeps (State.schedAlign s tb ports) := by
  simp [State.schedAlign]

@[simp] theorem State.schedPhase_keeps (s : State) (tb : Nat) (delta : Int) : s.Keeps (State.schedPhase s tb delta) := by
  simp [State.schedPhase]

@[simp] theorem State.standOff_keeps (s : State) (tb : Nat) (delta : Int) : s.Keeps (State.standOff s tb delta) := by
  simp [State.standOff]

@[simp] theorem State.synAlign_keeps (s : State) (tb : Nat) : s.Keeps (State.synAlign s tb) := by
  simp [State.synAlign]

@[simp] theorem State.bwStep_keeps (s : State) (tb : Nat) : s.Keeps (State.bwStep s tb) := by
  simp [State.bwStep]

@[simp] theorem State.outputsStepped_keeps (s pre : State) (hitPps : Nat → Bool) (hitTod hitIrig : Bool) :
    s.Keeps (State.outputsStepped s pre hitPps hitTod hitIrig) := by
  simp [State.outputsStepped]

@[simp] theorem State.outputsMoved_keeps (s pre : State) : s.Keeps (State.outputsMoved s pre) := by
  simp [State.outputsMoved]

@[simp] theorem State.pulseHere_keeps (s : State) (n : Nat) : s.Keeps (State.pulseHere s n) := by
  simp [State.pulseHere]

@[simp] theorem State.sendIncrement_keeps (s : State) (n : Nat) : s.Keeps (State.sendIncrement s n) := by
  simp [State.sendIncrement]

@[simp] theorem State.reAim_keeps (s : State) (n : Nat) : s.Keeps (State.reAim s n) := by
  simp [State.reAim]

@[simp] theorem State.lineStepped_keeps (s : State) (n : Nat) : s.Keeps (State.lineStepped s n) := by
  simp [State.lineStepped]

@[simp] theorem State.stepTb_keeps (s : State) (n : Nat) (delta : Int) : s.Keeps (State.stepTb s n delta) := by
  simp [State.stepTb]

@[simp] theorem State.correct_keeps (s : State) (n : Nat) (delta : Int) (dpll step : Bool) :
    s.Keeps (State.correct s n delta dpll step) := by
  simp [State.correct]

@[simp] theorem State.tickTb_keeps (s : State) (n : Nat) : s.Keeps (State.tickTb s n) := by
  simp [State.tickTb]

@[simp] theorem State.sendIncrements_keeps (s : State) : s.Keeps (State.sendIncrements s) := by
  simp [State.sendIncrements]

/-! #### Mailbox -/

theorem writeCfg_keeps_of {s : State} {k : State → Res} (h : ∀ t : State, s.Keeps t → s.Keeps (k t).st) (ws : List FieldWrite) :
    s.Keeps (writeCfg s ws k).st := by
  unfold writeCfg
  split
  · exact .refl s
  · exact h _ (s.cfgWrites_keeps ws)

@[simp] theorem writeCfg_keeps {s : State} {k : State → Res} (h : ∀ t : State, t.Keeps (k t).st) (ws : List FieldWrite) :
    s.Keeps (writeCfg s ws k).st :=
  writeCfg_keeps_of (fun t ht => ht.trans (h t)) ws

@[simp] theorem State.acceptCommit_keeps (s : State) (op value : Nat) (mb : Option Nat) :
    s.Keeps (State.acceptCommit s op value mb) := by
  simp [State.acceptCommit]

@[simp] theorem State.settleCfg_keeps (s : State) : s.Keeps (State.settleCfg s) := by
  simp [State.settleCfg]

@[simp] theorem State.runCmd_keeps {cmd : Cmd} (h : cmd.Keeps) (s : State) (c : Ctx) : s.Keeps (s.runCmd cmd c).st := by
  unfold State.runCmd
  dsimp only
  (repeat' split) <;> simp [h]

@[simp] theorem State.setTaken_keeps (s : State) (core : Nat) (t : Option Taken) : s.Keeps (State.setTaken s core t) := by
  simp [State.setTaken]

@[simp] theorem State.putRsp_keeps (s : State) (mb k : Nat) (ws : List Nat) : s.Keeps (s.putRsp mb k ws) := by
  rw [State.putRsp_eq]
  simp

@[simp] theorem State.freeCores_keeps (s : State) (mb : Nat) : s.Keeps (State.freeCores s mb) := by
  simp [State.freeCores]

@[simp] theorem State.respond_keeps (s : State) (mb : Nat) (status : Status) (words : List Nat) :
    s.Keeps (State.respond s mb status words) := by
  simp [State.respond]

@[simp] theorem State.finish_keeps (s : State) (mb : Option Nat) (status : Status) (words : List Nat) :
    s.Keeps (State.finish s mb status words) := by
  unfold State.finish
  (repeat' split) <;> simp

@[simp] theorem underSem_keeps {s : State} {k : Res} (h : s.Keeps k.st) (c : Ctx) (e n : Nat) :
    s.Keeps (underSem c s e n k).st := by
  unfold underSem
  (repeat' split) <;> simp [h]

@[simp] theorem State.carryOut_keeps {cmd : Option Cmd} (h : ∀ c ∈ cmd, c.Keeps) (s : State) (mb : Nat) :
    s.Keeps (s.carryOut mb cmd) := by
  cases cmd with
  | none => exact s.respond_keeps mb _ _
  | some cmd =>
    have hcmd : cmd.Keeps := h cmd rfl
    simp [State.carryOut, State.runCmd_keeps hcmd]

@[simp] theorem State.holdMb_keeps (s : State) (mb : Nat) : s.Keeps (State.holdMb s mb) := by
  simp [State.holdMb]

@[simp] theorem State.takeMb_keeps {cmd : Option Cmd} (h : ∀ c ∈ cmd, c.Keeps) (s : State) (mb : Nat) :
    s.Keeps (s.takeMb mb cmd) := by
  simp [State.takeMb, State.carryOut_keeps h]

@[simp] theorem State.refuseAccess_keeps (s : State) (kind : Nat) (sp : Space) (target init : Nat) (tNonSecure : Bool)
    (acc addr : Nat) :
    s.Keeps (State.refuseAccess s kind sp target init tNonSecure acc addr) := by
  simp [State.refuseAccess]

@[simp] theorem State.putReq_keeps (s : State) (mb k : Nat) (ws : List Nat) : s.Keeps (s.putReq mb k ws) := by
  rw [State.putReq_eq]
  simp

@[simp] theorem State.ring_keeps (s : State) (init mb : Nat) : s.Keeps (State.ring s init mb) := by
  simp [State.ring]

@[simp] theorem State.rung_keeps (s : State) (op : Nat) (r : Req) : s.Keeps (State.rung s op r) := by
  simp [State.rung]

@[simp] theorem State.exchange_keeps {cmd : Option Cmd} (h : ∀ c ∈ cmd, c.Keeps) (s : State) (op : Nat) (r : Req) :
    s.Keeps (s.exchange cmd op r) := by
  simp [State.exchange, State.takeMb_keeps h]

/-! #### Access -/

@[simp] theorem State.violate_keeps (s : State) (v : Viol) (init addr acc : Nat) : s.Keeps (State.violate s v init addr acc) := by
  simp [State.violate]

@[simp] theorem State.directWrite_keeps {k : State → State} (h : ∀ t : State, t.Keeps (k t)) (s : State) (init addr : Nat)
    (ws : List FieldWrite) : s.Keeps (s.directWrite init addr ws k) := by
  unfold State.directWrite
  dsimp only
  (repeat' split) <;> simp [h]

@[simp] theorem State.eachField_keeps {k : State → Fld → Nat → Nat → State} (h : ∀ (t : State) f i j, t.Keeps (k t f i j))
    (s : State) (sel : Nat → Bool) : s.Keeps (s.eachField sel k) :=
  State.foldl_keeps (fun _ _ => State.foldl_keeps (fun t ij => by
    split
    · exact State.foldl_keeps (fun t f => h t f ij.1 ij.2) _ t
    · exact .refl t) _ _) _ s

@[simp] theorem State.dropLatches_keeps (s : State) (sel : Nat → Bool) : s.Keeps (State.dropLatches s sel) := by
  simp [State.dropLatches]

@[simp] theorem State.restoreField_keeps (s : State) (f : Fld) (i j : Nat) : s.Keeps (State.restoreField s f i j) := by
  unfold State.restoreField
  (repeat' split) <;> simp

@[simp] theorem State.loseRegs_keeps (s : State) (sel : Nat → Bool) : s.Keeps (State.loseRegs s sel) := by
  simp [State.loseRegs]

@[simp] theorem State.restoreRegs_keeps (s : State) (sel : Nat → Bool) : s.Keeps (s.restoreRegs sel) :=
  State.eachField_keeps State.restoreField_keeps s sel

@[simp] theorem State.setBlk_keeps (s : State) (e st : Nat) : s.Keeps (State.setBlk s e st) := by
  simp [State.setBlk]

/-! #### Tables -/

@[simp] theorem State.shadowPut_keeps (s : State) (t i : Nat) (ws : List Nat) : s.Keeps (State.shadowPut s t i ws) := by
  simp [State.shadowPut]

/-! #### Clearing -/

@[simp] theorem State.cellSync_keeps (s : State) (k p : Nat) : s.Keeps (State.cellSync s k p) := by
  simp [State.cellSync]

@[simp] theorem State.setRsv_keeps (s : State) (k v : Nat) : s.Keeps (State.setRsv s k v) := by
  simp [State.setRsv]

@[simp] theorem State.cellCount_keeps (s : State) (p c : Nat) (x : Cell) (f : Nat → Nat) :
    s.Keeps (State.cellCount s p c x f) := by
  unfold State.cellCount
  (repeat' split) <;> simp

theorem State.takeCell_keeps (s : State) (p : Nat) (m : Merged) : ∀ x ∈ s.takeCell p m, s.Keeps x.2 := by
  unfold State.takeCell
  simp only [State.draw]
  (repeat' split) <;> simp

@[simp] theorem State.freeCells_keeps (s : State) (p c : Nat) (l : List Cell) : s.Keeps (State.freeCells s p c l) := by
  simp [State.freeCells]

@[simp] theorem State.portUpd_keeps (s : State) (p : Nat) (f : Port → Port) : s.Keeps (State.portUpd s p f) := by
  simp [State.portUpd]

@[simp] theorem State.judgePause_keeps (s : State) (p : Nat) : s.Keeps (State.judgePause s p) := by
  simp [State.judgePause]

@[simp] theorem State.nextInterval_keeps (s : State) (k : Nat) : s.Keeps (State.nextInterval s k).2 := by
  unfold State.nextInterval
  dsimp only
  (repeat' split) <;> simp

@[simp] theorem State.sampleFrame_keeps (s : State) (kind port : Nat) (v : Seen) (k : Nat) :
    s.Keeps (State.sampleFrame s kind port v k) := by
  simp [State.sampleFrame]

@[simp] theorem State.tallyFrame_keeps (s : State) (kind port : Nat) (v : Seen) : s.Keeps (State.tallyFrame s kind port v) := by
  simp [State.tallyFrame]

@[simp] theorem State.setQueue_keeps (s : State) (p c : Nat) (l : List Nat) : s.Keeps (State.setQueue s p c l) := by
  simp [State.setQueue]

@[simp] theorem State.release_keeps (s : State) (id : Nat) : s.Keeps (State.release s id) := by
  unfold State.release
  (repeat' split) <;> simp

@[simp] theorem State.recordItem_keeps (s : State) (f : Frame) : s.Keeps (State.recordItem s f) := by
  unfold State.recordItem
  (repeat' split) <;> simp

@[simp] theorem State.copyGone_keeps (s : State) (id q : Nat) : s.Keeps (State.copyGone s id q) := by
  unfold State.copyGone
  (repeat' split) <;> simp

@[simp] theorem State.dropCopy_keeps (s : State) (id q reason : Nat) : s.Keeps (State.dropCopy s id q reason) := by
  unfold State.dropCopy
  (repeat' split) <;> simp

@[simp] theorem State.dropWhere_keeps (s : State) (q c reason : Nat) (b : Frame → Bool) :
    s.Keeps (State.dropWhere s q c reason b) := by
  simp [State.dropWhere]

@[simp] theorem State.flush_keeps (s : State) (q c reason : Nat) : s.Keeps (State.flush s q c reason) := by
  simp [State.flush]

@[simp] theorem State.enqueue_keeps (s : State) (id q : Nat) : s.Keeps (State.enqueue s id q) := by
  unfold State.enqueue
  (repeat' split) <;> simp

@[simp] theorem State.abandon_keeps (s : State) (q : Nat) : s.Keeps (State.abandon s q) := by
  unfold State.abandon
  (repeat' split) <;> simp

/-! #### Contexts -/

@[simp] theorem State.sctxUpd_keeps (s : State) (n : Nat) (f : SCtx → SCtx) : s.Keeps (State.sctxUpd s n f) := by
  simp [State.sctxUpd]

@[simp] theorem State.ctxSet_keeps (s : State) (n d0 d1 d2 : Nat) : s.Keeps (State.ctxSet s n d0 d1 d2) := by
  simp [State.ctxSet]

@[simp] theorem State.ctxReset_keeps (s : State) (n : Nat) (clr : Bool) : s.Keeps (State.ctxReset s n clr) := by
  simp [State.ctxReset]

@[simp] theorem State.ctxCount_keeps (s : State) (n i : Nat) (k : Nat) : s.Keeps (State.ctxCount s n i k) := by
  simp [State.ctxCount]

@[simp] theorem State.ctxTimeout_keeps (s : State) (n : Nat) : s.Keeps (State.ctxTimeout s n) := by
  simp [State.ctxTimeout]

@[simp] theorem State.indivTake_keeps (s : State) (n p num : Nat) : s.Keeps (State.indivTake s n p num).2 := by
  unfold State.indivTake
  dsimp only
  (repeat' split) <;> simp

@[simp] theorem State.seqTake_keeps (s : State) (n region : Nat) (num : Option Nat) :
    s.Keeps (State.seqTake s n region num).2 := by
  unfold State.seqTake
  dsimp only
  (repeat' split) <;> simp

@[simp] theorem State.redundancy_keeps (s : State) (p : Nat) (m : Merged) (tag : Option Nat) :
    s.Keeps (State.redundancy s p m tag).2.2.2 := by
  unfold State.redundancy
  dsimp only
  (repeat' split) <;> simp

@[simp] theorem execResetTimeout_keeps (dt n : Nat) (s : State) : s.Answers (execResetTimeout dt n s) := by
  simp [execResetTimeout]

@[simp] theorem execLatentTest_keeps (dt n : Nat) (s : State) : s.Answers (execLatentTest dt n s) := by
  have he := s.elapse_keeps dt
  unfold execLatentTest
  generalize s.elapse dt = e at he ⊢
  dsimp only
  split
  · exact State.answers_next.mpr (he.trans (State.keeps_ite
      ((State.sctxUpd_keeps ..).trans ((State.ctxCount_keeps ..).trans (State.raise_keeps ..))) (State.sctxUpd_keeps ..)))
  · exact State.answers_next.mpr he

@[simp] theorem execLatReset_keeps (dt n : Nat) (s : State) : s.Answers (execLatReset dt n s) := by
  simp [execLatReset]

@[simp] theorem State.ctxCtrl_keeps {k : State → Nat → State} (h : ∀ (t : State) n, t.Keeps (k t n)) (s : State)
    (init w op : Nat) : s.Keeps (s.ctxCtrl init w op k) := by
  simp [State.ctxCtrl, h]

@[simp] theorem execCtxRead_keeps (init w : Nat) (s : State) : s.Answers (execCtxRead init w s) := by
  simp [execCtxRead]

@[simp] theorem execCtxWrite_keeps (init w : Nat) (s : State) : s.Answers (execCtxWrite init w s) := by
  simp [execCtxWrite]

@[simp] theorem cmdRedCtxCfg_keeps : cmdRedCtxCfg.Keeps := by
  simp [cmdRedCtxCfg]

@[simp] theorem execRedCtxCfg_keeps (r : Req) (s : State) : s.Answers (execRedCtxCfg r s) := by
  simp [execRedCtxCfg]

@[simp] theorem cmdRedCtxStatus_keeps : cmdRedCtxStatus.Keeps := by
  simp [cmdRedCtxStatus]

@[simp] theorem execRedCtxStatus_keeps (r : Req) (s : State) : s.Answers (execRedCtxStatus r s) := by
  simp [execRedCtxStatus]

@[simp] theorem cmdRedCtxReset_keeps : cmdRedCtxReset.Keeps := by
  simp [cmdRedCtxReset]

@[simp] theorem execRedCtxReset_keeps (r : Req) (s : State) : s.Answers (execRedCtxReset r s) := by
  simp [execRedCtxReset]

/-! #### Role -/

@[simp] theorem State.outSync_keeps (s : State) : s.Keeps (State.outSync s) := by
  simp [State.outSync]

@[simp] theorem State.stayLow_keeps (s : State) (l : List Nat) (at_ : Nat → Int) : s.Keeps (State.stayLow s l at_) := by
  simp [State.stayLow]

@[simp] theorem State.armedSync_keeps (s : State) : s.Keeps (State.armedSync s) := by
  simp [State.armedSync]

@[simp] theorem State.enterRecovery_keeps (s : State) : s.Keeps (State.enterRecovery s) := by
  simp [State.enterRecovery]

@[simp] theorem State.roleGo_keeps (s : State) (hold : Bool) (cause : Nat) : s.Keeps (State.roleGo s hold cause) := by
  simp [State.roleGo]

@[simp] theorem State.dropRole_keeps (s : State) (cause : Nat) : s.Keeps (State.dropRole s cause) := by
  simp [State.dropRole]

@[simp] theorem State.takeRole_keeps (s : State) (cause : Nat) : s.Keeps (State.takeRole s cause) := by
  simp [State.takeRole]

@[simp] theorem State.pairLink_keeps (s : State) : s.Keeps (State.pairLink s) := by
  simp [State.pairLink]

/-! #### Messages -/

@[simp] theorem State.sendOwn_keeps (s : State) (p : Nat) (o : Orig) (bytes : List Byte) :
    s.Keeps (State.sendOwn s p o bytes) := by
  simp [State.sendOwn]

@[simp] theorem State.sendOrig_keeps (s : State) (o : Orig) : s.Keeps (State.sendOrig s o) := by
  simp [State.sendOrig]

@[simp] theorem State.sendControl_keeps (s : State) (p dst type : Nat) (payload : List Byte) :
    s.Keeps (State.sendControl s p dst type payload) := by
  simp [State.sendControl]

@[simp] theorem State.complete_keeps (s : State) (p : Nat) (o : Orig) (tx : Stamp) : s.Keeps (State.complete s p o tx) := by
  simp [State.complete]

/-! #### EventTimer -/

@[simp] theorem State.etUpd_keeps (s : State) (i : Nat) (f : EtIn → EtIn) : s.Keeps (State.etUpd s i f) := by
  simp [State.etUpd]

@[simp] theorem State.etSync_keeps (s : State) : s.Keeps (State.etSync s) := by
  simp [State.etSync]

@[simp] theorem State.openGate_keeps (s : State) (i : Nat) : s.Keeps (State.openGate s i) := by
  simp [State.openGate]

@[simp] theorem State.etDiscard_keeps (s : State) (i : Nat) (count : Bool) : s.Keeps (State.etDiscard s i count) := by
  simp [State.etDiscard]

@[simp] theorem State.etRef_keeps (s : State) : s.Keeps (State.etRef s) := by
  simp [State.etRef]

@[simp] theorem State.etResult_keeps (s : State) (i kind flags stepSeq w1 w2 w3 : Nat) :
    s.Keeps (State.etResult s i kind flags stepSeq w1 w2 w3) := by
  simp [State.etResult]

@[simp] theorem State.intervalResult_keeps (s : State) (i : Nat) (start : EtEdge) (stop : Option EtEdge) (order : Bool) :
    s.Keeps (State.intervalResult s i start stop order) := by
  unfold State.intervalResult
  (repeat' split) <;> simp

@[simp] theorem State.expireStart_keeps (s : State) (i : Nat) : s.Keeps (State.expireStart s i) := by
  unfold State.expireStart
  (repeat' split) <;> simp

@[simp] theorem State.expireStop_keeps (s : State) (i : Nat) : s.Keeps (State.expireStop s i) := by
  simp [State.expireStop]

@[simp] theorem State.expireAll_keeps (s : State) (i : Nat) : s.Keeps (State.expireAll s i) := by
  simp [State.expireAll]

@[simp] theorem State.startEdge_keeps (s : State) (i : Nat) (e : EtEdge) : s.Keeps (State.startEdge s i e) := by
  unfold State.startEdge
  (repeat' split) <;> simp

@[simp] theorem State.stopEdge_keeps (s : State) (i : Nat) (e : EtEdge) : s.Keeps (State.stopEdge s i e) := by
  unfold State.stopEdge
  (repeat' split) <;> simp

@[simp] theorem State.closeGate_keeps (s : State) (i : Nat) : s.Keeps (State.closeGate s i) := by
  unfold State.closeGate
  (repeat' split) <;> simp

@[simp] theorem State.closeGates_keeps (s : State) (i : Nat) (date : Int) : s.Keeps (State.closeGates s i date) := by
  unfold State.closeGates
  (repeat' split) <;> simp

@[simp] theorem State.countEdge_keeps (s : State) (i date : Nat) : s.Keeps (State.countEdge s i date) := by
  simp [State.countEdge]

@[simp] theorem State.acceptEdge_keeps (s : State) (i : Nat) (falling own : Bool) (err : Int) :
    s.Keeps (State.acceptEdge s i falling own err) := by
  unfold State.acceptEdge
  dsimp only
  (repeat' split) <;> simp

@[simp] theorem State.edge_keeps (s : State) (i : Nat) (falling : Bool) (err : Int) : s.Keeps (State.edge s i falling err) := by
  simp [State.edge]

@[simp] theorem execEventEdge_keeps (dt i : Nat) (falling : Bool) (err : Int) (s : State) :
    s.Answers (execEventEdge dt i falling err s) := by
  simp [execEventEdge]

@[simp] theorem State.etPush_keeps (s : State) (e : EtEntry) : s.Keeps (State.etPush s e) := by
  simp [State.etPush]

@[simp] theorem State.etWrite_keeps (s : State) : s.Keeps (State.etWrite s) := by
  unfold State.etWrite
  (repeat' split) <;> simp

@[simp] theorem execEtResultWrite_keeps (dt : Nat) (s : State) : s.Answers (execEtResultWrite dt s) := by
  simp [execEtResultWrite]

@[simp] theorem execIntervalTimeout_keeps (dt i : Nat) (s : State) : s.Answers (execIntervalTimeout dt i s) := by
  simp [execIntervalTimeout]

@[simp] theorem execPairWindowExpiry_keeps (dt i : Nat) (s : State) : s.Answers (execPairWindowExpiry dt i s) := by
  simp [execPairWindowExpiry]

@[simp] theorem execGateEnd_keeps (dt i : Nat) (s : State) : s.Answers (execGateEnd dt i s) := by
  simp [execGateEnd]

@[simp] theorem State.etPop_keeps (s : State) : s.Keeps (State.etPop s).2 := by
  unfold State.etPop
  (repeat' split) <;> simp

@[simp] theorem State.etReadW0_keeps (s : State) : s.Keeps s.etReadW0.2 := by
  unfold State.etReadW0
  split
  next heq => exact (Keeps.of_snd s.etPop_keeps heq).trans ⟨rfl, rfl, rfl⟩
  next heq => exact (Keeps.of_snd s.etPop_keeps heq).trans ⟨rfl, rfl, rfl⟩

@[simp] theorem execEtFifoPop_keeps (init : Nat) (s : State) : s.Answers (execEtFifoPop init s) := by
  unfold execEtFifoPop
  dsimp only
  (repeat' split) <;> simp

@[simp] theorem State.etPopN_keeps (s : State) (k : Nat) : s.Keeps (s.etPopN k).2 := by
  induction k generalizing s with
  | zero => exact .refl s
  | succ k ih =>
    unfold State.etPopN
    split
    next heq => exact .of_snd s.etPop_keeps heq
    next heq => exact (Keeps.of_snd s.etPop_keeps heq).trans (ih _)

@[simp] theorem cmdEvtStatus_keeps : cmdEvtStatus.Keeps := by
  simp [cmdEvtStatus]

@[simp] theorem execEvtStatus_keeps (r : Req) (s : State) : s.Answers (execEvtStatus r s) := by
  simp [execEvtStatus]

@[simp] theorem cmdEvtCfg_keeps : cmdEvtCfg.Keeps := by
  simp [cmdEvtCfg]

@[simp] theorem execEvtCfg_keeps (r : Req) (s : State) : s.Answers (execEvtCfg r s) := by
  simp [execEvtCfg]

@[simp] theorem State.etEnable_keeps (s : State) (i : Nat) (was : Bool) : s.Keeps (State.etEnable s i was) := by
  simp [State.etEnable]

@[simp] theorem cmdEvtInputCfg_keeps : cmdEvtInputCfg.Keeps := by
  simp [cmdEvtInputCfg]

@[simp] theorem execEvtInputCfg_keeps (r : Req) (s : State) : s.Answers (execEvtInputCfg r s) := by
  simp [execEvtInputCfg]

@[simp] theorem cmdEvtRead_keeps : cmdEvtRead.Keeps := by
  simp [cmdEvtRead]

@[simp] theorem execEvtRead_keeps (r : Req) (s : State) : s.Answers (execEvtRead r s) := by
  simp [execEvtRead]

/-! #### Heartwood -/

@[simp] theorem State.setWord_keeps (s : State) (r : Reg) (w : Nat) (i : Nat) (j : Nat) : s.Keeps (State.setWord s r w i j) := by
  simp [State.setWord]

@[simp] theorem State.pulse_keeps (s : State) (die n : Nat) (err : Int) : s.Keeps (State.pulse s die n err) := by
  simp [State.pulse]

@[simp] theorem execHeartwoodPulse_keeps (dt die tb : Nat) (err : Int) (s : State) :
    s.Answers (execHeartwoodPulse dt die tb err s) := by
  simp [execHeartwoodPulse]

@[simp] theorem State.pairUpd_keeps (s : State) (k : Nat) (f : Pair → Pair) : s.Keeps (State.pairUpd s k f) := by
  simp [State.pairUpd]

@[simp] theorem State.samplePair_keeps (s : State) (k : Nat) : s.Keeps (State.samplePair s k) := by
  simp [State.samplePair]

@[simp] theorem State.requestSwitch_keeps (s : State) (k cause : Nat) (mb : Option Nat) :
    s.Keeps (State.requestSwitch s k cause mb) := by
  simp [State.requestSwitch]

@[simp] theorem State.switchDomain_keeps (s : State) (k cause : Nat) : s.Keeps (State.switchDomain s k cause) := by
  unfold State.switchDomain
  dsimp only
  (repeat' split) <;> simp

@[simp] theorem State.pairTick_keeps (s : State) (k : Nat) : s.Keeps (State.pairTick s k) := by
  unfold State.pairTick
  (repeat' split) <;> simp

@[simp] theorem execPairOffsetSample_keeps (dt k : Nat) (s : State) : s.Answers (execPairOffsetSample dt k s) := by
  simp [execPairOffsetSample]

@[simp] theorem execDomainSwitch_keeps (dt k : Nat) (s : State) : s.Answers (execDomainSwitch dt k s) := by
  simp [execDomainSwitch]

@[simp] theorem State.switchWrite_keeps (s : State) (k : Nat) : s.Keeps (State.switchWrite s k) := by
  simp [State.switchWrite]

@[simp] theorem execPairSwitchWrite_keeps (init k : Nat) (s : State) : s.Answers (execPairSwitchWrite init k s) := by
  simp [execPairSwitchWrite]

@[simp] theorem execLeapApplied_keeps (dt tb : Nat) (s : State) : s.Answers (execLeapApplied dt tb s) := by
  simp [execLeapApplied]

@[simp] theorem State.steerFreq_keeps (s : State) (n : Nat) (z : Int) : s.Keeps (State.steerFreq s n z) := by
  simp [State.steerFreq]

@[simp] theorem State.hostFreq_keeps (s : State) (n : Nat) (z : Int) : s.Keeps (State.hostFreq s n z) := by
  simp [State.hostFreq]

@[simp] theorem State.takeFreq_keeps (s : State) (n : Nat) (z : Int) : s.Keeps (State.takeFreq s n z) := by
  simp [State.takeFreq]

@[simp] theorem State.freqHi_keeps (s : State) (n v : Nat) : s.Keeps (State.freqHi s n v) := by
  simp [State.freqHi]

@[simp] theorem execFreqHiWrite_keeps (init tb v : Nat) (s : State) : s.Answers (execFreqHiWrite init tb v s) := by
  simp [execFreqHiWrite]

@[simp] theorem State.cmpCtrl_keeps (s : State) (m w : Nat) : s.Keeps (State.cmpCtrl s m w) := by
  simp [State.cmpCtrl]

@[simp] theorem execCmpArm_keeps (init m w : Nat) (s : State) : s.Answers (execCmpArm init m w s) := by
  simp [execCmpArm]

@[simp] theorem execCmpFire_keeps (dt m : Nat) (s : State) : s.Answers (execCmpFire dt m s) := by
  simp [execCmpFire]

@[simp] theorem State.snapCtrl_keeps (s : State) (w : Nat) : s.Keeps (State.snapCtrl s w) := by
  simp [State.snapCtrl]

@[simp] theorem execSnapCapture_keeps (init w : Nat) (s : State) : s.Answers (execSnapCapture init w s) := by
  simp [execSnapCapture]

@[simp] theorem State.snapDone_keeps (s : State) : s.Keeps (State.snapDone s) := by
  simp [State.snapDone]

@[simp] theorem execSnapComplete_keeps (dt : Nat) (s : State) : s.Answers (execSnapComplete dt s) := by
  simp [execSnapComplete]

@[simp] theorem State.ppsPulse_keeps (s : State) (n sec : Nat) (edge : Int) : s.Keeps (State.ppsPulse s n sec edge) := by
  simp [State.ppsPulse]

@[simp] theorem State.ppsBoundary_keeps (s : State) (n sec : Nat) : s.Keeps (State.ppsBoundary s n sec) := by
  simp [State.ppsBoundary]

@[simp] theorem State.ppsFire_keeps (s : State) (n : Nat) (edge : Int) : s.Keeps (State.ppsFire s n edge) := by
  simp [State.ppsFire]

@[simp] theorem execPpsPulse_keeps (dt n : Nat) (s : State) : s.Answers (execPpsPulse dt n s) := by
  unfold execPpsPulse
  dsimp only
  (repeat' split) <;> simp

@[simp] theorem execPpsPulseEnd_keeps (dt n : Nat) (s : State) : s.Answers (execPpsPulseEnd dt n s) := by
  unfold execPpsPulseEnd
  dsimp only
  (repeat' split) <;> simp

@[simp] theorem execTodFrame_keeps (dt : Nat) (s : State) : s.Answers (execTodFrame dt s) := by
  unfold execTodFrame
  dsimp only
  (repeat' split) <;> simp

@[simp] theorem State.irigSend_keeps (s : State) (sec : Nat) : s.Keeps (State.irigSend s sec) := by
  simp [State.irigSend]

@[simp] theorem execIrigFrame_keeps (dt : Nat) (s : State) : s.Answers (execIrigFrame dt s) := by
  simp [execIrigFrame]

/-! #### TimeCmds -/

@[simp] theorem State.stopSchedule_keeps (s : State) (p : Nat) : s.Keeps (State.stopSchedule s p) := by
  simp [State.stopSchedule]

@[simp] theorem State.disableTb_keeps (s : State) (n : Nat) : s.Keeps (State.disableTb s n) := by
  simp [State.disableTb]

@[simp] theorem State.tbCtrl_keeps (s : State) (n : Nat) (ws : List FieldWrite) : s.Keeps (State.tbCtrl s n ws) := by
  unfold State.tbCtrl
  (repeat' split) <;> simp

@[simp] theorem cmdTimeStatus_keeps : cmdTimeStatus.Keeps := by
  simp [cmdTimeStatus]

@[simp] theorem execTimeStatus_keeps (r : Req) (s : State) : s.Answers (execTimeStatus r s) := by
  simp [execTimeStatus]

@[simp] theorem cmdTimeTbCfg_keeps : cmdTimeTbCfg.Keeps := by
  intro c s
  simp only [cmdTimeTbCfg]
  (repeat' split) <;> simp

@[simp] theorem execTimeTbCfg_keeps (r : Req) (s : State) : s.Answers (execTimeTbCfg r s) := by
  simp [execTimeTbCfg]

@[simp] theorem cmdTimeSet_keeps : cmdTimeSet.Keeps := by
  intro c s
  simp only [cmdTimeSet]
  (repeat' split) <;> simp

@[simp] theorem execTimeSet_keeps (r : Req) (s : State) : s.Answers (execTimeSet r s) := by
  simp [execTimeSet]

@[simp] theorem cmdTimeAdjPhase_keeps : cmdTimeAdjPhase.Keeps := by
  simp [cmdTimeAdjPhase]

@[simp] theorem execTimeAdjPhase_keeps (r : Req) (s : State) : s.Answers (execTimeAdjPhase r s) := by
  simp [execTimeAdjPhase]

@[simp] theorem cmdTimeAdjFreq_keeps : cmdTimeAdjFreq.Keeps := by
  simp [cmdTimeAdjFreq]

@[simp] theorem execTimeAdjFreq_keeps (r : Req) (s : State) : s.Answers (execTimeAdjFreq r s) := by
  simp [execTimeAdjFreq]

@[simp] theorem cmdTimeUtc_keeps : cmdTimeUtc.Keeps := by
  intro c s
  simp only [cmdTimeUtc]
  (repeat' split) <;> simp

@[simp] theorem execTimeUtc_keeps (r : Req) (s : State) : s.Answers (execTimeUtc r s) := by
  simp [execTimeUtc]

@[simp] theorem cmdTimeDomainMap_keeps : cmdTimeDomainMap.Keeps := by
  simp [cmdTimeDomainMap]

@[simp] theorem execTimeDomainMap_keeps (r : Req) (s : State) : s.Answers (execTimeDomainMap r s) := by
  simp [execTimeDomainMap]

@[simp] theorem State.freshPair_keeps (s : State) (k : Nat) : s.Keeps (State.freshPair s k) := by
  unfold State.freshPair
  dsimp only
  (repeat' split) <;> simp

@[simp] theorem State.disablePair_keeps (s : State) (k : Nat) : s.Keeps (State.disablePair s k) := by
  simp [State.disablePair]

@[simp] theorem cmdTimePair_keeps : cmdTimePair.Keeps := by
  intro c s
  unfold cmdTimePair
  dsimp only
  split
  · simp only [need_res]
    refine State.keeps_ite (writeCfg_keeps (fun t => ?_) _) (.refl s)
    rw [done_st]
    split <;> simp
  · simp only [need_res]
    refine State.keeps_ite (writeCfg_keeps_of (fun t _ => ?_) _) (.refl s)
    rw [done_st]
    split <;> simp
  · simp only [need_res]
    refine State.keeps_ite ?_ (.refl s)
    split <;> simp
  · simp

@[simp] theorem execTimePair_keeps (r : Req) (s : State) : s.Answers (execTimePair r s) := by
  simp [execTimePair]

@[simp] theorem cmdTimeCmp_keeps : cmdTimeCmp.Keeps := by
  intro c s
  simp only [cmdTimeCmp]
  (repeat' split) <;> simp

@[simp] theorem execTimeCmp_keeps (r : Req) (s : State) : s.Answers (execTimeCmp r s) := by
  simp [execTimeCmp]

@[simp] theorem State.restartOutputs_keeps (s pre : State) : s.Keeps (State.restartOutputs s pre) := by
  simp [State.restartOutputs]

@[simp] theorem cmdTimePps_keeps : cmdTimePps.Keeps := by
  simp [cmdTimePps]

@[simp] theorem execTimePps_keeps (r : Req) (s : State) : s.Answers (execTimePps r s) := by
  simp [execTimePps]

@[simp] theorem cmdTimeSerial_keeps : cmdTimeSerial.Keeps := by
  simp [cmdTimeSerial]

@[simp] theorem execTimeSerial_keeps (r : Req) (s : State) : s.Answers (execTimeSerial r s) := by
  simp [execTimeSerial]

/-! #### Taproot -/

@[simp] theorem State.takePrio_keeps (s : State) : s.Keeps (State.takePrio s) := by
  simp [State.takePrio]

@[simp] theorem State.slotSync_keeps (s : State) : s.Keeps s.slotSync :=
  State.foldl_keeps (fun _ _ => (State.set_keeps ..).trans (State.set_keeps ..)) _ s

@[simp] theorem State.judgeDepth_keeps (s : State) (n : Nat) : s.Keeps (State.judgeDepth s n) := by
  simp [State.judgeDepth]

@[simp] theorem State.judgeDepths_keeps (s : State) : s.Keeps (State.judgeDepths s) := by
  simp [State.judgeDepths]

@[simp] theorem State.unqualify_keeps (s : State) (i : Nat) : s.Keeps (State.unqualify s i) := by
  simp [State.unqualify]

@[simp] theorem State.qualify_keeps (s : State) (i : Nat) : s.Keeps (State.qualify s i) := by
  simp [State.qualify]

@[simp] theorem State.loseActivity_keeps (s : State) (i : Nat) : s.Keeps (State.loseActivity s i) := by
  simp [State.loseActivity]

@[simp] theorem State.restartSlot_keeps (s : State) (i : Nat) : s.Keeps (State.restartSlot s i) := by
  simp [State.restartSlot]

@[simp] theorem execActivityLoss_keeps (dt slot : Nat) (s : State) : s.Answers (execActivityLoss dt slot s) := by
  simp [execActivityLoss]

@[simp] theorem State.pdResult_keeps (s : State) (n : Nat) (phase : Int) : s.Keeps (State.pdResult s n phase) := by
  simp [State.pdResult]

@[simp] theorem State.sample_keeps (s : State) (i : Nat) (theta : Int) : s.Keeps (State.sample s i theta) := by
  simp [State.sample]

@[simp] theorem execActivityReturn_keeps (dt slot : Nat) (theta : Int) (s : State) :
    s.Answers (execActivityReturn dt slot theta s) := by
  simp [execActivityReturn]

@[simp] theorem execFeedEstimate_keeps (init slot v : Nat) (s : State) : s.Answers (execFeedEstimate init slot v s) := by
  simp [execFeedEstimate]

@[simp] theorem State.markSlot_keeps (s : State) (i : Nat) : s.Keeps (State.markSlot s i) := by
  simp [State.markSlot]

@[simp] theorem State.monitor_keeps (s : State) (i : Nat) (given : Int) : s.Keeps (State.monitor s i given) := by
  unfold State.monitor
  dsimp only
  (repeat' split) <;> simp

@[simp] theorem execFrequencyMonitorUpdate_keeps (dt : Nat) (fofs : List Int) (ocxo : Int) (s : State) :
    s.Answers (execFrequencyMonitorUpdate dt fofs ocxo s) := by
  simp [execFrequencyMonitorUpdate]

@[simp] theorem State.endWtr_keeps (s : State) (i : Nat) : s.Keeps (State.endWtr s i) := by
  simp [State.endWtr]

@[simp] theorem execWtrExpiry_keeps (dt slot : Nat) (s : State) : s.Answers (execWtrExpiry dt slot s) := by
  simp [execWtrExpiry]

@[simp] theorem State.dispSync_keeps (s : State) : s.Keeps (State.dispSync s) := by
  simp [State.dispSync]

@[simp] theorem State.dispPut_keeps (s : State) (d : Dispute) : s.Keeps (State.dispPut s d) := by
  simp [State.dispPut]

@[simp] theorem State.dispDrop_keeps (s : State) (d : Dispute) : s.Keeps (State.dispDrop s d) := by
  simp [State.dispDrop]

@[simp] theorem State.resolve_keeps (s : State) (d : Dispute) : s.Keeps (State.resolve s d) := by
  simp [State.resolve]

@[simp] theorem State.dispTrack_keeps (s : State) (n a b : Nat) : s.Keeps (State.dispTrack s n a b) := by
  unfold State.dispTrack
  (repeat' split) <;> simp

@[simp] theorem State.clearDispute_keeps (s : State) (d : Dispute) : s.Keeps (State.clearDispute s d) := by
  simp [State.clearDispute]

@[simp] theorem State.dispStep_keeps (s : State) (n a b : Nat) : s.Keeps (State.dispStep s n a b) := by
  unfold State.dispStep
  dsimp only
  (repeat' split) <;> simp

@[simp] theorem State.dispAll_keeps (s : State) : s.Keeps s.dispAll :=
  State.foldl_keeps (fun (t : State) n => by
    split
    · exact State.foldl_keeps (fun (t : State) (d : Dispute) => t.dispStep_keeps n d.a d.b) _ t
    · exact State.foldl_keeps (fun (t : State) a => State.foldl_keeps (fun (t : State) b => by
        split
        · exact t.dispStep_keeps n a b
        · exact .refl t) _ t) _ t) _ s

@[simp] theorem execDisputeResolution_keeps (dt n a b : Nat) (s : State) : s.Answers (execDisputeResolution dt n a b s) := by
  unfold execDisputeResolution
  dsimp only
  (repeat' split) <;> simp

@[simp] theorem execDisputeClear_keeps (dt n a b : Nat) (s : State) : s.Answers (execDisputeClear dt n a b s) := by
  unfold execDisputeClear
  dsimp only
  (repeat' split) <;> simp

@[simp] theorem State.putWord_keeps (s : State) (n : Nat) (z : Int) : s.Keeps (State.putWord s n z) := by
  simp [State.putWord]

@[simp] theorem State.useWord_keeps (s : State) (n : Nat) (z : Int) : s.Keeps (State.useWord s n z) := by
  simp [State.useWord]

@[simp] theorem State.lockSync_keeps (s : State) (n : Nat) : s.Keeps (State.lockSync s n) := by
  unfold State.lockSync
  (repeat' split) <;> simp

@[simp] theorem State.enter_keeps (s : State) (n st slot : Nat) : s.Keeps (State.enter s n st slot) := by
  simp [State.enter]

@[simp] theorem State.setBo_keeps (s : State) (n : Nat) (bo : Int) : s.Keeps (State.setBo s n bo) := by
  simp [State.setBo]

@[simp] theorem State.accrue_keeps (s : State) (n : Nat) : s.Keeps (State.accrue s n) := by
  simp [State.accrue]

@[simp] theorem State.accrueAll_keeps (s : State) : s.Keeps (State.accrueAll s) := by
  simp [State.accrueAll]

@[simp] theorem State.autoSwitch_keeps (s : State) (n : Nat) : s.Keeps (State.autoSwitch s n) := by
  simp [State.autoSwitch]

@[simp] theorem State.enterHold_keeps (s : State) (n : Nat) : s.Keeps (State.enterHold s n) := by
  unfold State.enterHold
  dsimp only
  (repeat' split) <;> simp

@[simp] theorem State.target_keeps (s : State) (ph : List (Nat × Int)) (n i : Nat) : s.Keeps (State.target s ph n i) := by
  simp [State.target]

@[simp] theorem State.handBo_keeps (s : State) (n : Nat) : s.Keeps (State.handBo s n) := by
  simp [State.handBo]

@[simp] theorem State.lockOn_keeps (s : State) (n : Nat) : s.Keeps (State.lockOn s n) := by
  simp [State.lockOn]

@[simp] theorem State.transition_keeps (s : State) (ph : List (Nat × Int)) (n : Nat) : s.Keeps (State.transition s ph n) := by
  unfold State.transition
  dsimp only
  (repeat' split) <;> simp

@[simp] theorem execSwitchTimeElapsed_keeps (dt n : Nat) (s : State) : s.Answers (execSwitchTimeElapsed dt n s) := by
  simp [execSwitchTimeElapsed]

@[simp] theorem State.clampSync_keeps (s : State) (n : Nat) : s.Keeps (State.clampSync s n) := by
  simp [State.clampSync]

@[simp] theorem State.tickLoop_keeps (s : State) (n : Nat) : s.Keeps (State.tickLoop s n) := by
  simp [State.tickLoop]

@[simp] theorem State.resumeLoop_keeps (s : State) (n : Nat) : s.Keeps (State.resumeLoop s n) := by
  simp [State.resumeLoop]

@[simp] theorem State.qoutSync_keeps (s : State) (n : Nat) : s.Keeps (State.qoutSync s n) := by
  simp [State.qoutSync]

@[simp] theorem State.trainUp_keeps (s : State) (n : Nat) : s.Keeps (State.trainUp s n) := by
  simp [State.trainUp]

@[simp] theorem State.hoqStep_keeps (s : State) (n : Nat) : s.Keeps (State.hoqStep s n) := by
  simp [State.hoqStep]

@[simp] theorem execHoqChange_keeps (dt n : Nat) (s : State) : s.Answers (execHoqChange dt n s) := by
  simp [execHoqChange]

@[simp] theorem execModelValid_keeps (dt n : Nat) (s : State) : s.Answers (execModelValid dt n s) := by
  simp [execModelValid]

@[simp] theorem State.dpllSync_keeps (s : State) (n : Nat) : s.Keeps (State.dpllSync s n) := by
  simp [State.dpllSync]

@[simp] theorem State.endSettle_keeps (s : State) : s.Keeps (State.endSettle s) := by
  simp [State.endSettle]

@[simp] theorem execSettleWindowEnd_keeps (dt : Nat) (s : State) : s.Answers (execSettleWindowEnd dt s) := by
  simp [execSettleWindowEnd]

@[simp] theorem State.ocxoSync_keeps (s : State) : s.Keeps (State.ocxoSync s) := by
  simp [State.ocxoSync]

@[simp] theorem State.foldDrift_keeps (s : State) : s.Keeps (State.foldDrift s) := by
  simp [State.foldDrift]

@[simp] theorem State.coreTo_keeps (s : State) (c : Nat) : s.Keeps (State.coreTo s c) := by
  simp [State.coreTo]

@[simp] theorem State.warmFall_keeps (s : State) : s.Keeps (State.warmFall s) := by
  unfold State.warmFall
  dsimp only
  (repeat' split) <;> simp

@[simp] theorem State.warmRise_keeps (s : State) : s.Keeps (State.warmRise s) := by
  simp [State.warmRise]

@[simp] theorem State.warmJudge_keeps (s : State) : s.Keeps (State.warmJudge s) := by
  simp [State.warmJudge]

@[simp] theorem execOcxoFail_keeps (dt : Nat) (s : State) : s.Answers (execOcxoFail dt s) := by
  simp [execOcxoFail]

@[simp] theorem execOcxoActivityReturn_keeps (dt : Nat) (pin : Bool) (s : State) :
    s.Answers (execOcxoActivityReturn dt pin s) := by
  simp [execOcxoActivityReturn]

@[simp] theorem execOcxoWarm_keeps (dt : Nat) (s : State) : s.Answers (execOcxoWarm dt s) := by
  simp [execOcxoWarm]

@[simp] theorem execOcxoWarmPinFall_keeps (dt : Nat) (s : State) : s.Answers (execOcxoWarmPinFall dt s) := by
  simp [execOcxoWarmPinFall]

@[simp] theorem execSwloopTimeout_keeps (dt n : Nat) (s : State) : s.Answers (execSwloopTimeout dt n s) := by
  simp [execSwloopTimeout]

@[simp] theorem State.swWord_keeps (s : State) (n : Nat) (z : Int) : s.Keeps (State.swWord s n z) := by
  simp [State.swWord]

@[simp] theorem execSwFreqWrite_keeps (init n v : Nat) (s : State) : s.Answers (execSwFreqWrite init n v s) := by
  simp [execSwFreqWrite]

@[simp] theorem State.takeEdges_keeps (s : State) (is : List Nat) : s.Keeps (State.takeEdges s is) := by
  simp [State.takeEdges]

@[simp] theorem State.pdTick_keeps (s : State) (ph : List (Nat × Int)) (is : List Nat) (n : Nat) :
    s.Keeps (State.pdTick s ph is n) := by
  simp [State.pdTick]

@[simp] theorem State.dpllTick_keeps (s : State) (ph : List (Nat × Int)) (is : List Nat) (n : Nat) :
    s.Keeps (State.dpllTick s ph is n) := by
  simp [State.dpllTick]

@[simp] theorem State.tick_keeps (s : State) (ph : List (Nat × Int)) : s.Keeps (State.tick s ph) := by
  simp [State.tick]

@[simp] theorem execTick_keeps (dt : Nat) (ph : List (Nat × Int)) (s : State) : s.Answers (execTick dt ph s) := by
  simp [execTick]

/-! #### Sessions -/

@[simp] theorem State.sessUpd_keeps (s : State) (k : Nat) (f : Session → Session) : s.Keeps (State.sessUpd s k f) := by
  unfold State.sessUpd
  (repeat' split) <;> simp

@[simp] theorem State.phaseReset_keeps (s : State) (l : Nat) : s.Keeps (State.phaseReset s l) := by
  simp [State.phaseReset]

@[simp] theorem State.sessSync_keeps (s : State) (p : Nat) : s.Keeps (State.sessSync s p) := by
  simp [State.sessSync]

@[simp] theorem State.sessQuiet_keeps (s : State) (k : Nat) : s.Keeps (State.sessQuiet s k) := by
  simp [State.sessQuiet]

@[simp] theorem State.sessFeed_keeps (s : State) (k : Nat) (theta : Int) : s.Keeps (State.sessFeed s k theta) := by
  simp [State.sessFeed]

@[simp] theorem State.slotQual_keeps (s : State) (i : Nat) : s.Keeps (State.slotQual s i) := by
  simp [State.slotQual]

@[simp] theorem State.sessQual_keeps (s : State) (k : Nat) : s.Keeps (State.sessQual s k) := by
  simp [State.sessQual]

@[simp] theorem State.keepTerms_keeps (s : State) (k : Nat) : s.Keeps (State.keepTerms s k) := by
  unfold State.keepTerms
  (repeat' split) <;> simp

@[simp] theorem State.findLink_keeps (s : State) (k : Nat) (keep : Bool) : s.Keeps (State.findLink s k keep) := by
  unfold State.findLink
  dsimp only
  (repeat' split) <;> simp

@[simp] theorem State.lookLink_keeps (s : State) (k : Nat) : s.Keeps (State.lookLink s k) := by
  simp [State.lookLink]

@[simp] theorem State.sendTlv_keeps (s : State) (k : Nat) (tlv : List Byte) : s.Keeps (State.sendTlv s k tlv) := by
  unfold State.sendTlv
  (repeat' split) <;> simp

@[simp] theorem State.sendCap_keeps (s : State) (k : Nat) : s.Keeps (State.sendCap s k) := by
  simp [State.sendCap]

@[simp] theorem State.setNpx_keeps (s : State) (k st : Nat) : s.Keeps (State.setNpx s k st) := by
  unfold State.setNpx
  (repeat' split) <;> simp

@[simp] theorem State.judgeNpx_keeps (s : State) (k : Nat) : s.Keeps (State.judgeNpx s k) := by
  unfold State.judgeNpx
  (repeat' split) <;> simp

@[simp] theorem State.npxCfg_keeps (s : State) (orgChanged : Bool) : s.Keeps (State.npxCfg s orgChanged) := by
  simp [State.npxCfg]

@[simp] theorem State.closeSession_keeps (s : State) (k : Nat) : s.Keeps (State.closeSession s k) := by
  simp [State.closeSession]

@[simp] theorem State.closePort_keeps (s : State) (p : Nat) : s.Keeps (State.closePort s p) := by
  simp [State.closePort]

@[simp] theorem State.suspendPort_keeps (s : State) (p : Nat) : s.Keeps (State.suspendPort s p) := by
  simp [State.suspendPort]

@[simp] theorem State.resumePort_keeps (s : State) (p : Nat) : s.Keeps (s.resumePort p) :=
  State.foldl_keeps (fun t k => by (repeat' split) <;> simp) _ s

@[simp] theorem State.openSession_keeps (s : State) (k role peer : Nat) : s.Keeps (State.openSession s k role peer) := by
  simp [State.openSession]

/-! #### LaneOps -/

@[simp] theorem State.laneUpd_keeps (s : State) (l : Nat) (f : Lane → Lane) : s.Keeps (State.laneUpd s l f) := by
  simp [State.laneUpd]

@[simp] theorem State.fpmDrop_keeps (s : State) (l : Nat) : s.Keeps (s.fpmDrop l) := by
  have hback (t : State) : t.Keeps ((t.sessions.map Prod.fst).foldl (fun s k => match s.sess? k with
      | some e => if e.npx = 5 && s.fpmLane (k / 256) == l then s.setNpx k 6 else s
      | none => s) t) := State.foldl_keeps (fun t k => by (repeat' split) <;> simp) _ t
  unfold State.fpmDrop
  dsimp only
  split
  · exact .trans (by simp) (hback _)
  · simp

@[simp] theorem State.setCache_keeps (s : State) (l : Nat) (c : LaneCache) : s.Keeps (State.setCache s l c) := by
  simp [State.setCache]

@[simp] theorem State.cacheSync_keeps (s : State) (l : Nat) : s.Keeps (State.cacheSync s l) := by
  simp [State.cacheSync]

@[simp] theorem State.dropCache_keeps (s : State) (l : Nat) : s.Keeps (State.dropCache s l) := by
  simp [State.dropCache]

@[simp] theorem State.laneGo_keeps (s : State) (l st : Nat) : s.Keeps (State.laneGo s l st) := by
  simp [State.laneGo]

@[simp] theorem State.laneDark_keeps (s : State) (l : Nat) : s.Keeps (State.laneDark s l) := by
  simp [State.laneDark]

@[simp] theorem State.laneDetect_keeps (s : State) (l : Nat) : s.Keeps (State.laneDetect s l) := by
  simp [State.laneDetect]

@[simp] theorem State.laneOff_keeps (s : State) (l : Nat) : s.Keeps (State.laneOff s l) := by
  simp [State.laneOff]

@[simp] theorem State.laneClaim_keeps (s : State) (p i : Nat) : s.Keeps (State.laneClaim s p i) := by
  simp [State.laneClaim]

@[simp] theorem State.delaySync_keeps (s : State) (p : Nat) : s.Keeps (State.delaySync s p) := by
  simp [State.delaySync]

@[simp] theorem State.loadK_keeps (s : State) (p : Nat) : s.Keeps (State.loadK s p) := by
  simp [State.loadK]

/-! #### PortOps -/

@[simp] theorem State.causeSync_keeps (s : State) (p : Nat) : s.Keeps (State.causeSync s p) := by
  simp [State.causeSync]

@[simp] theorem State.fillBuckets_keeps (s : State) (p : Nat) : s.Keeps (State.fillBuckets s p) := by
  simp [State.fillBuckets]

@[simp] theorem State.calOver_keeps (s : State) (outcome cause : Nat) : s.Keeps (State.calOver s outcome cause) := by
  simp [State.calOver]

@[simp] theorem State.portGo_keeps (s : State) (p st : Nat) : s.Keeps (State.portGo s p st) := by
  unfold State.portGo
  dsimp only
  (repeat' split) <;> simp

@[simp] theorem State.holdEnd_keeps (s : State) (p : Nat) : s.Keeps (State.holdEnd s p) := by
  simp [State.holdEnd]

@[simp] theorem State.enterHoldPort_keeps (s : State) (p : Nat) : s.Keeps (State.enterHoldPort s p) := by
  simp [State.enterHoldPort]

@[simp] theorem State.dropAged_keeps (s : State) (p c lim n : Nat) : s.Keeps (s.dropAged p c lim n) := by
  induction n generalizing s with
  | zero => exact .refl s
  | succ n ih =>
    unfold State.dropAged
    (repeat' split) <;> simp [ih]

@[simp] theorem State.portUp_keeps (s : State) (p : Nat) : s.Keeps (State.portUp s p) := by
  unfold State.portUp
  (repeat' split) <;> simp

@[simp] theorem State.judgePort_keeps (s : State) (p : Nat) : s.Keeps (State.judgePort s p) := by
  simp [State.judgePort]

@[simp] theorem State.portDisable_keeps (s : State) (p : Nat) : s.Keeps (State.portDisable s p) := by
  simp [State.portDisable]

@[simp] theorem State.spareClaim_keeps (s : State) (p i : Nat) : s.Keeps (State.spareClaim s p i) := by
  simp [State.spareClaim]

@[simp] theorem State.portEnable_keeps (s : State) (p : Nat) : s.Keeps (State.portEnable s p) := by
  simp [State.portEnable]

@[simp] theorem State.raiseReserves_keeps (s : State) (p : Nat) : s.Keeps (s.raiseReserves p) := by
  unfold State.raiseReserves
  extract_lets least more
  split
  · exact .refl s
  · exact (s.cfgWrites_keeps _).trans (State.set_keeps ..)

@[simp] theorem State.portCfgWrite_keeps (s : State) (p : Nat) (ws : List FieldWrite) : s.Keeps (State.portCfgWrite s p ws) := by
  simp [State.portCfgWrite]

@[simp] theorem State.pfcCheck_keeps (s : State) : s.Keeps (State.pfcCheck s) := by
  unfold State.pfcCheck
  dsimp only
  (repeat' split) <;> simp

/-! #### Lanes -/

@[simp] theorem State.judgeLane_keeps (s : State) (l : Nat) : s.Keeps (State.judgeLane s l) := by
  unfold State.judgeLane
  (repeat' split) <;> simp

@[simp] theorem State.forcedIdle_keeps (s : State) (l was : Nat) : s.Keeps (State.forcedIdle s l was) := by
  simp [State.forcedIdle]

@[simp] theorem State.endInject_keeps (s : State) (l : Nat) : s.Keeps (State.endInject s l) := by
  simp [State.endInject]

@[simp] theorem State.endTest_keeps (s : State) (l : Nat) : s.Keeps (State.endTest s l) := by
  simp [State.endTest]

@[simp] theorem State.groupDetect_keeps (s : State) (l : Nat) : s.Keeps (State.groupDetect s l) := by
  simp [State.groupDetect]

@[simp] theorem State.waveSync_keeps (s : State) : s.Keeps (State.waveSync s) := by
  simp [State.waveSync]

@[simp] theorem State.openWave_keeps (s : State) : s.Keeps (State.openWave s) := by
  simp [State.openWave]

@[simp] theorem execTrainingWaveOpen_keeps (dt : Nat) (s : State) : s.Answers (execTrainingWaveOpen dt s) := by
  simp [execTrainingWaveOpen]

@[simp] theorem State.loadCache_keeps (s : State) (l : Nat) : s.Keeps (State.loadCache s l) := by
  unfold State.loadCache
  (repeat' split) <;> simp

@[simp] theorem State.laneTrain_keeps (s : State) (l : Nat) : s.Keeps (State.laneTrain s l) := by
  simp [State.laneTrain]

@[simp] theorem execPartnerSignal_keeps (dt l : Nat) (s : State) : s.Answers (execPartnerSignal dt l s) := by
  simp [execPartnerSignal]

@[simp] theorem State.laneLock_keeps (s : State) (l taps pre eq : Nat) : s.Keeps (State.laneLock s l taps pre eq) := by
  simp [State.laneLock]

@[simp] theorem execTrainingComplete_keeps (dt l taps pre eq : Nat) (s : State) :
    s.Answers (execTrainingComplete dt l taps pre eq s) := by
  simp [execTrainingComplete]

@[simp] theorem execCacheLockTimeout_keeps (dt l : Nat) (s : State) : s.Answers (execCacheLockTimeout dt l s) := by
  simp [execCacheLockTimeout]

@[simp] theorem State.laneFail_keeps (s : State) (l quiet : Nat) : s.Keeps (State.laneFail s l quiet) := by
  simp [State.laneFail]

@[simp] theorem execTrainToExpiry_keeps (dt l : Nat) (s : State) : s.Answers (execTrainToExpiry dt l s) := by
  simp [execTrainToExpiry]

@[simp] theorem execFailIdleEnd_keeps (dt l : Nat) (s : State) : s.Answers (execFailIdleEnd dt l s) := by
  simp [execFailIdleEnd]

@[simp] theorem execLockTimeout_keeps (dt l : Nat) (s : State) : s.Answers (execLockTimeout dt l s) := by
  simp [execLockTimeout]

@[simp] theorem State.sendCapex_keeps (s : State) (p kind pos : Nat) : s.Keeps (State.sendCapex s p kind pos) := by
  simp [State.sendCapex]

@[simp] theorem State.helloSync_keeps (s : State) (p : Nat) : s.Keeps (State.helloSync s p) := by
  simp [State.helloSync]

@[simp] theorem State.portActive_keeps (s : State) (p : Nat) (foreign : Bool) : s.Keeps (State.portActive s p foreign) := by
  simp [State.portActive]

@[simp] theorem State.keepHello_keeps (s : State) (p : Nat) (h : Hello) (stale : Bool) :
    s.Keeps (State.keepHello s p h stale) := by
  simp [State.keepHello]

@[simp] theorem State.portCapex_keeps (s : State) (p : Nat) : s.Keeps (State.portCapex s p) := by
  unfold State.portCapex
  dsimp only
  (repeat' split) <;> simp

@[simp] theorem State.capexOff_keeps (s : State) : s.Keeps (State.capexOff s) := by
  simp [State.capexOff]

@[simp] theorem State.lockDone_keeps (s : State) (l : Nat) : s.Keeps (State.lockDone s l) := by
  unfold State.lockDone
  dsimp only
  (repeat' split) <;> simp

@[simp] theorem execLockReached_keeps (dt l : Nat) (s : State) : s.Answers (execLockReached dt l s) := by
  simp [execLockReached]

@[simp] theorem State.judgeLoop_keeps (s : State) (p : Nat) (h : Hello) (new : Bool) : s.Keeps (State.judgeLoop s p h new) := by
  simp [State.judgeLoop]

@[simp] theorem execHelloReceived_keeps (dt l magic version flags node port : Nat) (s : State) :
    s.Answers (execHelloReceived dt l magic version flags node port s) := by
  unfold execHelloReceived
  dsimp only
  (repeat' split) <;> simp

@[simp] theorem execCapexTimeout_keeps (dt p : Nat) (s : State) : s.Answers (execCapexTimeout dt p s) := by
  simp [execCapexTimeout]

@[simp] theorem execHelloSend_keeps (dt p : Nat) (s : State) : s.Answers (execHelloSend dt p s) := by
  simp [execHelloSend]

@[simp] theorem execLaneLoss_keeps (dt l : Nat) (s : State) : s.Answers (execLaneLoss dt l s) := by
  simp [execLaneLoss]

@[simp] theorem execCacheHoldExpiry_keeps (dt l : Nat) (s : State) : s.Answers (execCacheHoldExpiry dt l s) := by
  unfold execCacheHoldExpiry
  dsimp only
  (repeat' split) <;> simp

@[simp] theorem State.dieClockLost_keeps (s : State) (die : Nat) : s.Keeps (State.dieClockLost s die) := by
  simp [State.dieClockLost]

@[simp] theorem execPartnerIdleChange_keeps (dt l : Nat) (idle : Bool) (s : State) :
    s.Answers (execPartnerIdleChange dt l idle s) := by
  simp [execPartnerIdleChange]

@[simp] theorem State.idleLanes_keeps (s : State) (p : Nat) : s.Keeps (State.idleLanes s p) := by
  simp [State.idleLanes]

@[simp] theorem execIdleEntry_keeps (dt p : Nat) (s : State) : s.Answers (execIdleEntry dt p s) := by
  simp [execIdleEntry]

@[simp] theorem execPhaseBeacon_keeps (dt l : Nat) (s : State) : s.Answers (execPhaseBeacon dt l s) := by
  simp [execPhaseBeacon]

@[simp] theorem State.wakePort_keeps (s : State) (p : Nat) : s.Keeps (State.wakePort s p) := by
  simp [State.wakePort]

@[simp] theorem execIdleExit_keeps (dt p : Nat) (s : State) : s.Answers (execIdleExit dt p s) := by
  simp [execIdleExit]

@[simp] theorem State.countMatch_keeps (s : State) (l : Nat) (ofs : Int) : s.Keeps (State.countMatch s l ofs) := by
  unfold State.countMatch
  (repeat' split) <;> simp

@[simp] theorem execRateMatchMeasure_keeps (dt l : Nat) (ofs : Int) (s : State) :
    s.Answers (execRateMatchMeasure dt l ofs s) := by
  unfold execRateMatchMeasure
  dsimp only
  (repeat' split) <;> simp

@[simp] theorem execElasticOverflow_keeps (dt l : Nat) (s : State) : s.Answers (execElasticOverflow dt l s) := by
  unfold execElasticOverflow
  dsimp only
  (repeat' split) <;> simp

/-! #### Scheduling -/

@[simp] theorem State.dropNoWindow_keeps (s : State) (p c n : Nat) : s.Keeps (s.dropNoWindow p c n) := by
  induction n generalizing s with
  | zero => exact .refl s
  | succ n ih =>
    unfold State.dropNoWindow
    (repeat' split) <;> simp [ih]

@[simp] theorem State.judgeWindows_keeps (s : State) (p : Nat) : s.Keeps (State.judgeWindows s p) := by
  simp [State.judgeWindows]

@[simp] theorem execSlotEdge_keeps (dt p : Nat) (s : State) : s.Answers (execSlotEdge dt p s) := by
  simp [execSlotEdge]

@[simp] theorem execWakeLead_keeps (dt p : Nat) (s : State) : s.Answers (execWakeLead dt p s) := by
  simp [execWakeLead]

@[simp] theorem State.activateBank_keeps (s : State) (p : Nat) : s.Keeps (State.activateBank s p) := by
  unfold State.activateBank
  dsimp only
  (repeat' split) <;> simp

@[simp] theorem State.activeWrite_keeps (s : State) (p b i field src : Nat) : s.Keeps (State.activeWrite s p b i field src) := by
  simp [State.activeWrite]

@[simp] theorem State.putEntries_keeps (s : State) (p b i : Nat) (l : List (Nat × Nat)) :
    s.Keeps (State.putEntries s p b i l) := by
  simp [State.putEntries]

@[simp] theorem State.slotFields_keeps (s : State) (w op p : Nat) : s.Keeps (State.slotFields s w op p) := by
  simp [State.slotFields]

@[simp] theorem State.slotCtrl_keeps {k : State → Nat → Nat → Nat → State} (h : ∀ (t : State) a b n, t.Keeps (k t a b n))
    (s : State) (init w op : Nat) : s.Keeps (s.slotCtrl init w op k) := by
  simp [State.slotCtrl, h]

@[simp] theorem execSlotEntryRead_keeps (init w : Nat) (s : State) : s.Answers (execSlotEntryRead init w s) := by
  simp [execSlotEntryRead]

@[simp] theorem execSlotEntryWrite_keeps (init w : Nat) (s : State) : s.Answers (execSlotEntryWrite init w s) := by
  simp [execSlotEntryWrite]

@[simp] theorem State.portSchedWrite_keeps (s : State) (p w : Nat) : s.Keeps (State.portSchedWrite s p w) := by
  simp [State.portSchedWrite]

@[simp] theorem execScheduleStop_keeps (init p w : Nat) (s : State) : s.Answers (execScheduleStop init p w s) := by
  simp [execScheduleStop]

@[simp] theorem State.commitChecks_keeps {s : State} {k : Res} (h : s.Keeps k.st) (ps : List Nat) :
    s.Keeps (s.commitChecks ps k).st := by
  simp [State.commitChecks, h]

@[simp] theorem cmdSchedCommit_keeps : cmdSchedCommit.Keeps := by
  intro c s
  simp only [cmdSchedCommit]
  (repeat' split) <;> simp

@[simp] theorem execSchedCommit_keeps (r : Req) (s : State) : s.Answers (execSchedCommit r s) := by
  simp [execSchedCommit]

@[simp] theorem cmdSchedStatus_keeps : cmdSchedStatus.Keeps := by
  simp [cmdSchedStatus]

@[simp] theorem execSchedStatus_keeps (r : Req) (s : State) : s.Answers (execSchedStatus r s) := by
  simp [execSchedStatus]

@[simp] theorem cmdSchedPortCfg_keeps : cmdSchedPortCfg.Keeps := by
  simp [cmdSchedPortCfg]

@[simp] theorem execSchedPortCfg_keeps (r : Req) (s : State) : s.Answers (execSchedPortCfg r s) := by
  simp [execSchedPortCfg]

@[simp] theorem cmdSchedQueueCfg_keeps : cmdSchedQueueCfg.Keeps := by
  simp [cmdSchedQueueCfg]

@[simp] theorem execSchedQueueCfg_keeps (r : Req) (s : State) : s.Answers (execSchedQueueCfg r s) := by
  simp [execSchedQueueCfg]

@[simp] theorem cmdSchedWrite_keeps : cmdSchedWrite.Keeps := by
  simp [cmdSchedWrite]

@[simp] theorem execSchedWrite_keeps (r : Req) (s : State) : s.Answers (execSchedWrite r s) := by
  simp [execSchedWrite]

@[simp] theorem cmdSchedRead_keeps : cmdSchedRead.Keeps := by
  simp [cmdSchedRead]

@[simp] theorem execSchedRead_keeps (r : Req) (s : State) : s.Answers (execSchedRead r s) := by
  simp [execSchedRead]

@[simp] theorem cmdSchedBankCfg_keeps : cmdSchedBankCfg.Keeps := by
  simp [cmdSchedBankCfg]

@[simp] theorem execSchedBankCfg_keeps (r : Req) (s : State) : s.Answers (execSchedBankCfg r s) := by
  simp [execSchedBankCfg]

@[simp] theorem cmdSchedCopy_keeps : cmdSchedCopy.Keeps := by
  simp [cmdSchedCopy]

@[simp] theorem execSchedCopy_keeps (r : Req) (s : State) : s.Answers (execSchedCopy r s) := by
  simp [execSchedCopy]

/-! #### Synthesis -/

@[simp] theorem State.apllUpd_keeps (s : State) (a : Nat) (f : Apll → Apll) : s.Keeps (State.apllUpd s a f) := by
  simp [State.apllUpd]

@[simp] theorem State.firstRise_keeps (s : State) (l : List Nat) (inst : Nat) : s.Keeps (State.firstRise s l inst) := by
  simp [State.firstRise]

@[simp] theorem State.gateApll_keeps (s : State) (a : Nat) : s.Keeps (State.gateApll s a) := by
  simp [State.gateApll]

@[simp] theorem State.relock_keeps (s : State) (a : Nat) : s.Keeps (State.relock s a) := by
  simp [State.relock]

@[simp] theorem execBandSearchEnd_keeps (dt a band : Nat) (s : State) : s.Answers (execBandSearchEnd dt a band s) := by
  simp [execBandSearchEnd]

@[simp] theorem execApllLock_keeps (dt a : Nat) (s : State) : s.Answers (execApllLock dt a s) := by
  simp [execApllLock]

@[simp] theorem execApllLol_keeps (dt a : Nat) (s : State) : s.Answers (execApllLol dt a s) := by
  simp [execApllLol]

@[simp] theorem execOutputRestart_keeps (dt a : Nat) (s : State) : s.Answers (execOutputRestart dt a s) := by
  simp [execOutputRestart]

@[simp] theorem State.loseXo_keeps (s : State) : s.Keeps (State.loseXo s) := by
  simp [State.loseXo]

@[simp] theorem execXoLoss_keeps (dt : Nat) (s : State) : s.Answers (execXoLoss dt s) := by
  simp [execXoLoss]

@[simp] theorem State.reloadReplicas_keeps (s : State) (die : Nat) : s.Keeps (State.reloadReplicas s die) := by
  simp [State.reloadReplicas]

@[simp] theorem State.regainXo_keeps (s : State) : s.Keeps (State.regainXo s) := by
  simp [State.regainXo]

@[simp] theorem execXoReturn_keeps (dt : Nat) (s : State) : s.Answers (execXoReturn dt s) := by
  simp [execXoReturn]

@[simp] theorem State.synPend_keeps (s : State) (a l : Nat) : s.Keeps (State.synPend s a l) := by
  simp [State.synPend]

@[simp] theorem State.synCancel_keeps (s : State) (a : Nat) : s.Keeps (State.synCancel s a) := by
  simp [State.synCancel]

@[simp] theorem State.loadOut_keeps (s : State) (a m : Nat) : s.Keeps (State.loadOut s a m) := by
  simp [State.loadOut]

@[simp] theorem State.startAgain_keeps (s was : State) (l : List Nat) (inst : Nat) : s.Keeps (State.startAgain s was l inst) := by
  simp [State.startAgain]

@[simp] theorem State.synActivate_keeps (s : State) (a : Nat) : s.Keeps (State.synActivate s a) := by
  simp [State.synActivate]

@[simp] theorem execApllCommitActivation_keeps (dt a : Nat) (s : State) : s.Answers (execApllCommitActivation dt a s) := by
  simp [execApllCommitActivation]

@[simp] theorem State.synGo_keeps (s : State) (a mode : Nat) : s.Keeps (State.synGo s a mode) := by
  unfold State.synGo
  (repeat' split) <;> simp

@[simp] theorem State.synGoWrite_keeps (s : State) (init a mode : Nat) : s.Keeps (State.synGoWrite s init a mode) := by
  simp [State.synGoWrite]

@[simp] theorem execApllCommitNext_keeps (init a : Nat) (s : State) : s.Answers (execApllCommitNext init a s) := by
  simp [execApllCommitNext]

@[simp] theorem execApllCommitTarget_keeps (init a : Nat) (s : State) : s.Answers (execApllCommitTarget init a s) := by
  simp [execApllCommitTarget]

@[simp] theorem execApllCommitCancel_keeps (init a : Nat) (s : State) : s.Answers (execApllCommitCancel init a s) := by
  simp [execApllCommitCancel]

@[simp] theorem State.phaseTo_keeps (s : State) (a : Nat) (ws : List FieldWrite) : s.Keeps (State.phaseTo s a ws) := by
  simp [State.phaseTo]

@[simp] theorem State.phaseSync_keeps (s : State) (a : Nat) : s.Keeps (State.phaseSync s a) := by
  simp [State.phaseSync]

@[simp] theorem execPhofsMoveDone_keeps (dt a : Nat) (s : State) : s.Answers (execPhofsMoveDone dt a s) := by
  simp [execPhofsMoveDone]

@[simp] theorem cmdSynStatus_keeps : cmdSynStatus.Keeps := by
  simp [cmdSynStatus]

@[simp] theorem execSynStatus_keeps (r : Req) (s : State) : s.Answers (execSynStatus r s) := by
  simp [execSynStatus]

@[simp] theorem State.apllEnable_keeps (s : State) (a : Nat) (was : Bool) : s.Keeps (State.apllEnable s a was) := by
  simp [State.apllEnable]

@[simp] theorem cmdSynApllCfg_keeps : cmdSynApllCfg.Keeps := by
  simp [cmdSynApllCfg]

@[simp] theorem execSynApllCfg_keeps (r : Req) (s : State) : s.Answers (execSynApllCfg r s) := by
  simp [execSynApllCfg]

@[simp] theorem cmdSynOutCfg_keeps : cmdSynOutCfg.Keeps := by
  simp [cmdSynOutCfg]

@[simp] theorem execSynOutCfg_keeps (r : Req) (s : State) : s.Answers (execSynOutCfg r s) := by
  simp [execSynOutCfg]

@[simp] theorem cmdSynCommit_keeps : cmdSynCommit.Keeps := by
  intro c s
  simp only [cmdSynCommit]
  (repeat' split) <;> simp

@[simp] theorem execSynCommit_keeps (r : Req) (s : State) : s.Answers (execSynCommit r s) := by
  simp [execSynCommit]

@[simp] theorem cmdSynPhase_keeps : cmdSynPhase.Keeps := by
  intro c s
  simp only [cmdSynPhase]
  (repeat' split) <;> simp

@[simp] theorem execSynPhase_keeps (r : Req) (s : State) : s.Answers (execSynPhase r s) := by
  simp [execSynPhase]

/-! #### Pair -/

@[simp] theorem State.agentUpd_keeps (s : State) (f : Agent → Agent) : s.Keeps (State.agentUpd s f) := by
  simp [State.agentUpd]

@[simp] theorem State.pairSend_keeps (s : State) (type : Nat) (body : List Byte) : s.Keeps (State.pairSend s type body) := by
  simp [State.pairSend]

@[simp] theorem State.faultAct_keeps (s : State) : s.Keeps (State.faultAct s) := by
  simp [State.faultAct]

@[simp] theorem State.verdict_keeps (s : State) (v : Nat) : s.Keeps (State.verdict s v) := by
  simp [State.verdict]

@[simp] theorem State.mismatch_keeps (s : State) (cause : Nat) : s.Keeps (State.mismatch s cause) := by
  simp [State.mismatch]

@[simp] theorem State.selfFault_keeps (s : State) : s.Keeps (State.selfFault s) := by
  simp [State.selfFault]

@[simp] theorem State.judge_keeps (s : State) : s.Keeps (State.judge s) := by
  unfold State.judge
  (repeat' split) <;> simp

@[simp] theorem State.declare_keeps (s : State) (cause : Nat) : s.Keeps (State.declare s cause) := by
  simp [State.declare]

@[simp] theorem State.settleItems_keeps (s : State) : s.Keeps s.settleItems :=
  State.foldl_keeps (fun t it => by
    split
    · exact .refl t
    · simp) _ s

@[simp] theorem execItemExpiry_keeps (dt : Nat) (s : State) : s.Answers (execItemExpiry dt s) := by
  simp [execItemExpiry]

@[simp] theorem State.sendCompare_keeps (s : State) : s.Keeps (State.sendCompare s) := by
  simp [State.sendCompare]

@[simp] theorem execCompareSend_keeps (dt : Nat) (s : State) : s.Answers (execCompareSend dt s) := by
  unfold execCompareSend
  dsimp only
  (repeat' split) <;> simp

@[simp] theorem State.takeItems_keeps (s : State) (items : List (Nat × Nat × Nat)) (dly : Int) (digest : Nat) :
    s.Keeps (State.takeItems s items dly digest) := by
  simp [State.takeItems]

@[simp] theorem State.takeTod_keeps (s : State) (ms flags : Nat) (tod : PairTod) : s.Keeps (State.takeTod s ms flags tod) := by
  simp [State.takeTod]

@[simp] theorem execCompareReceived_keeps (dt ms : Nat) (items : List (Nat × Nat × Nat)) (sec utc leap flags : Nat)
    (dly : Int) (digest : Nat) (s : State) :
    s.Answers (execCompareReceived dt ms items sec utc leap flags dly digest s) := by
  unfold execCompareReceived
  dsimp only
  (repeat' split) <;> simp

@[simp] theorem State.steer_keeps (s : State) (delta : Int) : s.Keeps (State.steer s delta) := by
  simp [State.steer]

@[simp] theorem State.takeDelta_keeps (s : State) (d : Int) : s.Keeps (State.takeDelta s d) := by
  simp [State.takeDelta]

@[simp] theorem execTimeCompare_keeps (dt : Nat) (s : State) : s.Answers (execTimeCompare dt s) := by
  unfold execTimeCompare
  dsimp only
  (repeat' split) <;> simp

@[simp] theorem execAlignOk_keeps (dt : Nat) (s : State) : s.Answers (execAlignOk dt s) := by
  unfold execAlignOk
  dsimp only
  (repeat' split) <;> simp

@[simp] theorem execJudgeReceived_keeps (dt cause : Nat) (qualified : Bool) (ew : Int) (onset : Nat) (s : State) :
    s.Answers (execJudgeReceived dt cause qualified ew onset s) := by
  simp [execJudgeReceived]

@[simp] theorem execJudgeTimeout_keeps (dt : Nat) (s : State) : s.Answers (execJudgeTimeout dt s) := by
  unfold execJudgeTimeout
  dsimp only
  (repeat' split) <;> simp

@[simp] theorem State.sendRole_keeps (s : State) (request instant : Nat) : s.Keeps (State.sendRole s request instant) := by
  simp [State.sendRole]

@[simp] theorem execRoleSend_keeps (dt : Nat) (s : State) : s.Answers (execRoleSend dt s) := by
  unfold execRoleSend
  dsimp only
  (repeat' split) <;> simp

@[simp] theorem State.settleClaim_keeps (s : State) (state node : Nat) : s.Keeps (State.settleClaim s state node) := by
  unfold State.settleClaim
  (repeat' split) <;> simp

@[simp] theorem execRoleReceived_keeps (dt state request instant health : Nat) (alignErr : Int) (node : Nat) (s : State) :
    s.Answers (execRoleReceived dt state request instant health alignErr node s) := by
  unfold execRoleReceived
  dsimp only
  (repeat' split) <;> simp

@[simp] theorem execRoleInFall_keeps (dt : Nat) (s : State) : s.Answers (execRoleInFall dt s) := by
  simp [execRoleInFall]

@[simp] theorem execRoleInLowTimeout_keeps (dt : Nat) (s : State) : s.Answers (execRoleInLowTimeout dt s) := by
  simp [execRoleInLowTimeout]

@[simp] theorem execRoleContention_keeps (dt node : Nat) (s : State) : s.Answers (execRoleContention dt node s) := by
  simp [execRoleContention]

@[simp] theorem execPlannedHandover_keeps (dt : Nat) (s : State) : s.Answers (execPlannedHandover dt s) := by
  unfold execPlannedHandover
  dsimp only
  (repeat' split) <;> simp

@[simp] theorem execHandoverAnswerTimeout_keeps (dt : Nat) (s : State) : s.Answers (execHandoverAnswerTimeout dt s) := by
  unfold execHandoverAnswerTimeout
  dsimp only
  (repeat' split) <;> simp

@[simp] theorem execRecoveryEnd_keeps (dt : Nat) (s : State) : s.Answers (execRecoveryEnd dt s) := by
  unfold execRecoveryEnd
  dsimp only
  (repeat' split) <;> simp

@[simp] theorem State.healthSync_keeps (s : State) : s.Keeps (State.healthSync s) := by
  simp [State.healthSync]

@[simp] theorem State.setHealth_keeps (s : State) (apll clkout pps serial wire compare : Bool) :
    s.Keeps (State.setHealth s apll clkout pps serial wire compare) := by
  simp [State.setHealth]

@[simp] theorem execSelfTest_keeps (dt : Nat) (band clkout pps serial compare : Bool) (s : State) :
    s.Answers (execSelfTest dt band clkout pps serial compare s) := by
  unfold execSelfTest
  dsimp only
  (repeat' split) <;> simp

@[simp] theorem cmdRedStatus_keeps : cmdRedStatus.Keeps := by
  simp [cmdRedStatus]

@[simp] theorem execRedStatus_keeps (r : Req) (s : State) : s.Answers (execRedStatus r s) := by
  simp [execRedStatus]

@[simp] theorem cmdRedPairCfg_keeps : cmdRedPairCfg.Keeps := by
  simp [cmdRedPairCfg]

@[simp] theorem execRedPairCfg_keeps (r : Req) (s : State) : s.Answers (execRedPairCfg r s) := by
  simp [execRedPairCfg]

@[simp] theorem cmdRedRole_keeps : cmdRedRole.Keeps := by
  intro c s
  simp only [cmdRedRole]
  (repeat' split) <;> simp

@[simp] theorem execRedRole_keeps (r : Req) (s : State) : s.Answers (execRedRole r s) := by
  simp [execRedRole]

@[simp] theorem cmdRedHealth_keeps : cmdRedHealth.Keeps := by
  simp [cmdRedHealth]

@[simp] theorem execRedHealth_keeps (r : Req) (s : State) : s.Answers (execRedHealth r s) := by
  simp [execRedHealth]

@[simp] theorem cmdRedLoopBreak_keeps : cmdRedLoopBreak.Keeps := by
  simp [cmdRedLoopBreak]

@[simp] theorem execRedLoopBreak_keeps (r : Req) (s : State) : s.Answers (execRedLoopBreak r s) := by
  simp [execRedLoopBreak]

/-! #### Ports -/

@[simp] theorem execCauseAppears_keeps (dt p : Nat) (s : State) : s.Answers (execCauseAppears dt p s) := by
  simp [execCauseAppears]

@[simp] theorem execCauseClears_keeps (dt p : Nat) (s : State) : s.Answers (execCauseClears dt p s) := by
  simp [execCauseClears]

@[simp] theorem execHoldTimeExpiry_keeps (dt p : Nat) (s : State) : s.Answers (execHoldTimeExpiry dt p s) := by
  simp [execHoldTimeExpiry]

@[simp] theorem State.degWindow_keeps (s : State) (p more : Nat) : s.Keeps (State.degWindow s p more) := by
  simp [State.degWindow]

@[simp] theorem State.degRoll_keeps (s : State) : s.Keeps (State.degRoll s) := by
  simp [State.degRoll]

@[simp] theorem execDegradationWindowEnd_keeps (dt : Nat) (s : State) : s.Answers (execDegradationWindowEnd dt s) := by
  simp [execDegradationWindowEnd]

@[simp] theorem execDegradation_keeps (dt p corr sym unc blk : Nat) (s : State) :
    s.Answers (execDegradation dt p corr sym unc blk s) := by
  unfold execDegradation
  dsimp only
  (repeat' split) <;> simp

@[simp] theorem execPresenceChange_keeps (dt g : Nat) (low : Bool) (s : State) : s.Answers (execPresenceChange dt g low s) := by
  simp [execPresenceChange]

@[simp] theorem State.pauseSync_keeps (s : State) (p : Nat) : s.Keeps (State.pauseSync s p) := by
  simp [State.pauseSync]

@[simp] theorem State.holdSync_keeps (s : State) (p : Nat) : s.Keeps (State.holdSync s p) := by
  simp [State.holdSync]

@[simp] theorem State.takePause_keeps (s : State) (p : Nat) (pfc : Bool) (quanta : List (Nat × Nat)) :
    s.Keeps (State.takePause s p pfc quanta) := by
  simp [State.takePause]

@[simp] theorem State.macControl_keeps (s : State) (p : Nat) (b : List Byte) (svlan : Bool) :
    s.Keeps (State.macControl s p b svlan) := by
  simp [State.macControl]

@[simp] theorem execPauseFrame_keeps (dt p : Nat) (pfc : Bool) (quanta : List (Nat × Nat)) (s : State) :
    s.Answers (execPauseFrame dt p pfc quanta s) := by
  simp [execPauseFrame]

@[simp] theorem execPauseQuantaExpiry_keeps (dt p : Nat) (s : State) : s.Answers (execPauseQuantaExpiry dt p s) := by
  simp [execPauseQuantaExpiry]

@[simp] theorem State.policeRoll_keeps (s : State) : s.Keeps (State.policeRoll s) := by
  simp [State.policeRoll]

@[simp] theorem State.policeFrame_keeps (s : State) (p : Nat) : s.Keeps (State.policeFrame s p).2 := by
  unfold State.policeFrame
  dsimp only
  (repeat' split) <;> simp

@[simp] theorem execPolicerWindow_keeps (dt : Nat) (s : State) : s.Answers (execPolicerWindow dt s) := by
  simp [execPolicerWindow]

@[simp] theorem cmdPortStatus_keeps : cmdPortStatus.Keeps := by
  simp [cmdPortStatus]

@[simp] theorem execPortStatus_keeps (r : Req) (s : State) : s.Answers (execPortStatus r s) := by
  simp [execPortStatus]

@[simp] theorem cmdPortCfg_keeps : cmdPortCfg.Keeps := by
  intro c s
  simp only [cmdPortCfg]
  (repeat' split) <;> simp

@[simp] theorem execPortCfg_keeps (r : Req) (s : State) : s.Answers (execPortCfg r s) := by
  simp [execPortCfg]

@[simp] theorem cmdPortDownCfg_keeps : cmdPortDownCfg.Keeps := by
  simp [cmdPortDownCfg]

@[simp] theorem execPortDownCfg_keeps (r : Req) (s : State) : s.Answers (execPortDownCfg r s) := by
  simp [execPortDownCfg]

@[simp] theorem State.fcChanged_keeps (s : State) (p : Nat) : s.Keeps (State.fcChanged s p) := by
  simp [State.fcChanged]

@[simp] theorem cmdPortFc_keeps : cmdPortFc.Keeps := by
  simp [cmdPortFc]

@[simp] theorem execPortFc_keeps (r : Req) (s : State) : s.Answers (execPortFc r s) := by
  simp [execPortFc]

@[simp] theorem cmdPortModule_keeps : cmdPortModule.Keeps := by
  simp [cmdPortModule]

@[simp] theorem execPortModule_keeps (r : Req) (s : State) : s.Answers (execPortModule r s) := by
  simp [execPortModule]

@[simp] theorem cmdPortPolice_keeps : cmdPortPolice.Keeps := by
  simp [cmdPortPolice]

@[simp] theorem execPortPolice_keeps (r : Req) (s : State) : s.Answers (execPortPolice r s) := by
  simp [execPortPolice]

/-! #### Pipeline -/

@[simp] theorem State.setRx_keeps (s : State) (p : Nat) (r : Rx) : s.Keeps (State.setRx s p r) := by
  simp [State.setRx]

@[simp] theorem State.dropRx_keeps (s : State) (p : Nat) (r : Rx) (reason : Nat) : s.Keeps (State.dropRx s p r reason) := by
  simp [State.dropRx]

@[simp] theorem State.fillCells_keeps (s : State) (p n : Nat) : s.Keeps (s.fillCells p n) := by
  induction n generalizing s with
  | zero => exact .refl s
  | succ n ih =>
    unfold State.fillCells
    split
    · exact .refl s
    split
    · exact .refl s
    split
    next c t heq =>
      have ht : s.Keeps t := s.takeCell_keeps _ _ _ heq
      refine ht.trans (.trans ?_ (ih _))
      split <;> simp
    · simp

@[simp] theorem State.rxBytes_keeps (s : State) (p : Nat) (b : List Byte) : s.Keeps (State.rxBytes s p b) := by
  unfold State.rxBytes
  (repeat' split) <;> simp

@[simp] theorem execHeaderReceived_keeps (dt p ago rho : Nat) (bytes : List Byte) (s : State) :
    s.Answers (execHeaderReceived dt p ago rho bytes s) := by
  unfold execHeaderReceived
  dsimp only
  (repeat' split) <;> simp

@[simp] theorem execCellArrival_keeps (dt p : Nat) (bytes : List Byte) (s : State) :
    s.Answers (execCellArrival dt p bytes s) := by
  simp [execCellArrival]

@[simp] theorem State.bwAdd_keeps (s : State) (p : Nat) (tx : Bool) (at_ n : Nat) : s.Keeps (State.bwAdd s p tx at_ n) := by
  simp [State.bwAdd]

@[simp] theorem State.countRx_keeps (s : State) (p : Nat) (r : Rx) : s.Keeps (State.countRx s p r) := by
  simp [State.countRx]

@[simp] theorem State.trapFrame_keeps (s : State) (p : Nat) (r : Rx) : s.Keeps (State.trapFrame s p r) := by
  simp [State.trapFrame]

@[simp] theorem State.dropFrame_keeps (s : State) (id reason : Nat) : s.Keeps (State.dropFrame s id reason) := by
  unfold State.dropFrame
  dsimp only
  (repeat' split) <;> simp

@[simp] theorem State.ctxEccError_keeps (s : State) (id n : Nat) : s.Keeps (State.ctxEccError s id n) := by
  simp [State.ctxEccError]

@[simp] theorem State.commitFrame_keeps (s : State) (p : Nat) (r : Rx) (ctxEcc : Bool) :
    s.Keeps (State.commitFrame s p r ctxEcc) := by
  unfold State.commitFrame
  dsimp only
  (repeat' split) <;> simp

@[simp] theorem State.endRx_keeps (s : State) (p : Nat) (r : Rx) (ctxEcc : Bool) : s.Keeps (State.endRx s p r ctxEcc) := by
  unfold State.endRx
  dsimp only
  (repeat' split) <;> simp

@[simp] theorem execFrameEnd_keeps (dt p : Nat) (bytes : List Byte) (ctxEcc : Bool) (s : State) :
    s.Answers (execFrameEnd dt p bytes ctxEcc s) := by
  unfold execFrameEnd
  dsimp only
  (repeat' split) <;> simp

@[simp] theorem execTrapDelivery_keeps (dt die : Nat) (s : State) : s.Answers (execTrapDelivery dt die s) := by
  unfold execTrapDelivery
  dsimp only
  (repeat' split) <;> simp

@[simp] theorem State.bankRead_keeps (s : State) (k ecc p c : Nat) (copy : Bool) : s.Keeps (State.bankRead s k ecc p c copy) := by
  unfold State.bankRead
  dsimp only
  (repeat' split) <;> simp

@[simp] theorem execBankAccess_keeps (dt k : Nat) (reqs : List Nat) (agent tally : Bool) (ecc p c : Nat) (s : State) :
    s.Answers (execBankAccess dt k reqs agent tally ecc p c s) := by
  have he := s.elapse_keeps dt
  unfold execBankAccess
  generalize s.elapse dt = e at he ⊢
  dsimp only
  (repeat' split) <;> simp [he]

/-! #### Spares -/

@[simp] theorem State.bridge_keeps (s : State) (g : Nat) : s.Keeps (State.bridge s g) := by
  unfold State.bridge
  (repeat' split) <;> simp

@[simp] theorem State.startSub_keeps (s : State) (g : Nat) (b : Subst) : s.Keeps (State.startSub s g b) := by
  simp [State.startSub]

@[simp] theorem State.endSub_keeps (s : State) (g : Nat) : s.Keeps (State.endSub s g) := by
  unfold State.endSub
  (repeat' split) <;> simp

@[simp] theorem State.answerSub_keeps (s : State) (g : Nat) (st : Status) : s.Keeps (State.answerSub s g st) := by
  unfold State.answerSub
  (repeat' split) <;> simp

@[simp] theorem State.abandonSub_keeps (s : State) (g : Nat) (st : Status) : s.Keeps (State.abandonSub s g st) := by
  simp [State.abandonSub]

@[simp] theorem State.switchToSpare_keeps (s : State) (g : Nat) : s.Keeps (State.switchToSpare s g) := by
  unfold State.switchToSpare
  dsimp only
  (repeat' split) <;> simp

@[simp] theorem State.subActive_keeps (s : State) (g : Nat) : s.Keeps (State.subActive s g) := by
  unfold State.subActive
  (repeat' split) <;> simp

@[simp] theorem execSubReq_keeps (dt p pos : Nat) (s : State) : s.Answers (execSubReq dt p pos s) := by
  unfold execSubReq
  dsimp only
  (repeat' split) <;> simp

@[simp] theorem execSubAck_keeps (dt g : Nat) (s : State) : s.Answers (execSubAck dt g s) := by
  have he := s.elapse_keeps dt
  unfold execSubAck
  generalize s.elapse dt = e at he ⊢
  dsimp only
  (repeat' split) <;> simp [he]

@[simp] theorem execSubNak_keeps (dt g : Nat) (s : State) : s.Answers (execSubNak dt g s) := by
  have he := s.elapse_keeps dt
  unfold execSubNak
  generalize s.elapse dt = e at he ⊢
  dsimp only
  (repeat' split) <;> simp [he]

@[simp] theorem execSubAckTimeout_keeps (dt g : Nat) (s : State) : s.Answers (execSubAckTimeout dt g s) := by
  have he := s.elapse_keeps dt
  unfold execSubAckTimeout
  generalize s.elapse dt = e at he ⊢
  dsimp only
  (repeat' split) <;> simp [he]

@[simp] theorem execSpareSwitch_keeps (dt g : Nat) (s : State) : s.Answers (execSpareSwitch dt g s) := by
  have he := s.elapse_keeps dt
  unfold execSpareSwitch
  generalize s.elapse dt = e at he ⊢
  dsimp only
  (repeat' split) <;> simp [he]

@[simp] theorem execSubDone_keeps (dt g : Nat) (s : State) : s.Answers (execSubDone dt g s) := by
  have he := s.elapse_keeps dt
  unfold execSubDone
  generalize s.elapse dt = e at he ⊢
  dsimp only
  (repeat' split) <;> simp [he]

@[simp] theorem State.startRelease_keeps (s : State) (g : Nat) : s.Keeps (State.startRelease s g) := by
  unfold State.startRelease
  (repeat' split) <;> simp

@[simp] theorem State.phaseBack_keeps (s : State) (g l : Nat) : s.Keeps (State.phaseBack s g l) := by
  unfold State.phaseBack
  (repeat' split) <;> simp

@[simp] theorem State.endRelease_keeps (s : State) (g : Nat) : s.Keeps (State.endRelease s g) := by
  unfold State.endRelease
  (repeat' split) <;> simp

@[simp] theorem execSubRel_keeps (dt g : Nat) (s : State) : s.Answers (execSubRel dt g s) := by
  have he := s.elapse_keeps dt
  unfold execSubRel
  generalize s.elapse dt = e at he ⊢
  dsimp only
  (repeat' split) <;> simp [he]

@[simp] theorem execSubstitutionTimeout_keeps (dt g : Nat) (s : State) : s.Answers (execSubstitutionTimeout dt g s) := by
  have he := s.elapse_keeps dt
  unfold execSubstitutionTimeout
  generalize s.elapse dt = e at he ⊢
  dsimp only
  (repeat' split) <;> simp [he]

@[simp] theorem State.checkSync_keeps (s : State) (l : Nat) : s.Keeps (State.checkSync s l) := by
  simp [State.checkSync]

@[simp] theorem State.checkClear_keeps (s : State) (l : Nat) : s.Keeps (State.checkClear s l) := by
  simp [State.checkClear]

@[simp] theorem State.laneTest_keeps (s : State) (l : Nat) : s.Keeps (State.laneTest s l) := by
  simp [State.laneTest]

@[simp] theorem execInjectOne_keeps (init l : Nat) (s : State) : s.Answers (execInjectOne init l s) := by
  simp [execInjectOne]

@[simp] theorem cmdLaneStatus_keeps : cmdLaneStatus.Keeps := by
  simp [cmdLaneStatus]

@[simp] theorem execLaneStatus_keeps (r : Req) (s : State) : s.Answers (execLaneStatus r s) := by
  simp [execLaneStatus]

@[simp] theorem cmdLaneCfg_keeps : cmdLaneCfg.Keeps := by
  simp [cmdLaneCfg]

@[simp] theorem execLaneCfg_keeps (r : Req) (s : State) : s.Answers (execLaneCfg r s) := by
  simp [execLaneCfg]

@[simp] theorem cmdLaneRestart_keeps : cmdLaneRestart.Keeps := by
  simp [cmdLaneRestart]

@[simp] theorem execLaneRestart_keeps (r : Req) (s : State) : s.Answers (execLaneRestart r s) := by
  simp [execLaneRestart]

@[simp] theorem cmdLaneSpare_keeps : cmdLaneSpare.Keeps := by
  intro c s
  simp only [cmdLaneSpare]
  (repeat' split) <;> simp

@[simp] theorem execLaneSpare_keeps (r : Req) (s : State) : s.Answers (execLaneSpare r s) := by
  simp [execLaneSpare]

@[simp] theorem cmdLaneTest_keeps : cmdLaneTest.Keeps := by
  simp [cmdLaneTest]

@[simp] theorem execLaneTest_keeps (r : Req) (s : State) : s.Answers (execLaneTest r s) := by
  simp [execLaneTest]

@[simp] theorem cmdLaneInject_keeps : cmdLaneInject.Keeps := by
  simp [cmdLaneInject]

@[simp] theorem execLaneInject_keeps (r : Req) (s : State) : s.Answers (execLaneInject r s) := by
  simp [execLaneInject]

@[simp] theorem cmdLaneGroveCfg_keeps : cmdLaneGroveCfg.Keeps := by
  simp [cmdLaneGroveCfg]

@[simp] theorem execLaneGroveCfg_keeps (r : Req) (s : State) : s.Answers (execLaneGroveCfg r s) := by
  simp [execLaneGroveCfg]

/-! #### TrimStore -/

@[simp] theorem State.nvSync_keeps (s : State) : s.Keeps (State.nvSync s) := by
  simp [State.nvSync]

theorem State.nvPut_keeps (s : State) (type key : Nat) (partner : Option Nat) (payload : List Nat) :
    ∀ x ∈ s.nvPut type key partner payload, s.Keeps x.2 := by
  unfold State.nvPut
  split <;> simp

@[simp] theorem State.nvDrop_keeps (s : State) (type key : Nat) (partner : Option Nat) :
    s.Keeps (State.nvDrop s type key partner) := by
  unfold State.nvDrop
  (repeat' split) <;> simp

@[simp] theorem State.nvFail_keeps (s : State) (k : Nat) : s.Keeps (State.nvFail s k) := by
  simp [State.nvFail]

@[simp] theorem State.nvScan_keeps (s : State) : s.Keeps s.nvScan := by
  unfold State.nvScan
  extract_lets bad t dead t'
  have ht : s.Keeps t := State.foldl_keeps (fun (t : State) k => t.nvFail_keeps k) bad { s with nvBad := [] }
  have ht' : t.Keeps t' := State.foldl_keeps (fun (u : State) e => by split <;> simp) dead { t with nvBad := dead.map Prod.fst }
  exact (ht.trans ht').trans t'.nvSync_keeps

@[simp] theorem State.loadTrim_keeps (s : State) : s.Keeps (State.loadTrim s) := by
  unfold State.loadTrim
  dsimp only
  (repeat' split) <;> simp

/-! #### Calibration -/

@[simp] theorem State.calNext_keeps (s : State) : s.Keeps (State.calNext s) := by
  unfold State.calNext
  dsimp only
  (repeat' split) <;> simp

@[simp] theorem State.calFree_keeps (s : State) (item k : Nat) : s.Keeps (State.calFree s item k) := by
  simp [State.calFree]

@[simp] theorem State.calEnd_keeps (s : State) (k result : Nat) (value prev : Int) (quality : Nat) :
    s.Keeps (State.calEnd s k result value prev quality) := by
  simp [State.calEnd]

@[simp] theorem State.calAbort_keeps (s : State) (cause : Nat) : s.Keeps (State.calAbort s cause) := by
  unfold State.calAbort
  (repeat' split) <;> simp

@[simp] theorem State.calEffect_keeps (s : State) (item k : Nat) (payload : List Nat) (old : Option (List Nat)) :
    s.Keeps (State.calEffect s item k payload old) := by
  unfold State.calEffect
  (repeat' split) <;> simp

@[simp] theorem State.calSwitch_keeps (s : State) (g : Nat) : s.Keeps (State.calSwitch s g) := by
  unfold State.calSwitch
  (repeat' split) <;> simp

@[simp] theorem State.calGive_keeps (s : State) (k : Nat) (payload : List Nat) (v p : Int) :
    s.Keeps (s.calGive k payload v p) := by
  unfold State.calGive
  dsimp only
  split
  next i t heq =>
    have ht : s.Keeps t := s.nvPut_keeps _ _ _ _ _ heq
    split <;> simp [ht]
  next => split <;> simp

@[simp] theorem State.calJudge_keeps (s : State) (k : Nat) (vs : List Int) (q : Nat) : s.Keeps (State.calJudge s k vs q) := by
  simp [State.calJudge]

@[simp] theorem State.peerMeasured_keeps (s : State) (g : Nat) (vs : List Int) (q : Nat) : s.Keeps (s.peerMeasured g vs q) := by
  unfold State.peerMeasured
  dsimp only
  split
  · exact .refl s
  split
  · simp
  split
  next heq => exact State.nvPut_keeps _ _ _ _ _ _ heq
  next => exact ⟨rfl, rfl, rfl⟩

@[simp] theorem execCalTargetDone_keeps (dt : Nat) (vs : List Int) (q : Nat) (s : State) :
    s.Answers (execCalTargetDone dt vs q s) := by
  unfold execCalTargetDone
  dsimp only
  (repeat' split) <;> simp

@[simp] theorem execCalApply_keeps (dt : Nat) (s : State) : s.Answers (execCalApply dt s) := by
  unfold execCalApply
  dsimp only
  (repeat' split) <;> simp

@[simp] theorem execCalRunEnd_keeps (dt : Nat) (s : State) : s.Answers (execCalRunEnd dt s) := by
  simp [execCalRunEnd]

@[simp] theorem execCalRefLoss_keeps (dt : Nat) (pps ten : Bool) (s : State) : s.Answers (execCalRefLoss dt pps ten s) := by
  simp [execCalRefLoss]

@[simp] theorem State.ocxoWrite_keeps (s : State) (payload : List Nat) : s.Keeps (s.ocxoWrite payload) := by
  unfold State.ocxoWrite
  split
  · simp
  split
  next heq => exact s.nvPut_keeps _ _ _ _ _ heq
  next => exact .refl s

@[simp] theorem execOcxoRecordWrite_keeps (dt n : Nat) (ofs age coef : Int) (s : State) :
    s.Answers (execOcxoRecordWrite dt n ofs age coef s) := by
  simp [execOcxoRecordWrite]

@[simp] theorem cmdCalStatus_keeps : cmdCalStatus.Keeps := by
  simp [cmdCalStatus]

@[simp] theorem execCalStatus_keeps (r : Req) (s : State) : s.Answers (execCalStatus r s) := by
  simp [execCalStatus]

@[simp] theorem State.calUnlocked_keeps {s : State} {r : Res} (h : s.Keeps r.st) (item k : Nat) :
    s.Keeps (s.calUnlocked item k r).st := by
  simp [State.calUnlocked, h]

@[simp] theorem State.calBegin_keeps (s : State) (item : Nat) (force : Bool) (args ks : List Nat) :
    s.Keeps (State.calBegin s item force args ks) := by
  simp [State.calBegin]

@[simp] theorem cmdCalRun_keeps : cmdCalRun.Keeps := by
  simp [cmdCalRun]

@[simp] theorem execCalRun_keeps (r : Req) (s : State) : s.Answers (execCalRun r s) := by
  simp [execCalRun]

@[simp] theorem cmdCalResult_keeps : cmdCalResult.Keeps := by
  simp [cmdCalResult]

@[simp] theorem execCalResult_keeps (r : Req) (s : State) : s.Answers (execCalResult r s) := by
  simp [execCalResult]

@[simp] theorem State.relook_keeps (s : State) (type p : Nat) : s.Keeps (State.relook s type p) := by
  simp [State.relook]

@[simp] theorem cmdCalRecordWrite_keeps : cmdCalRecordWrite.Keeps := by
  intro c s
  unfold cmdCalRecordWrite
  dsimp -zeta only
  extract_lets type key erase n payload
  simp only [need_res]
  iterate 4 (refine (State.keeps_ite ?_ (.refl s)))
  split
  · simp
  split
  · simp
  split
  next k t heq => exact (s.nvPut_keeps _ _ _ _ _ heq).trans (State.relook_keeps ..)
  next => exact .refl s

@[simp] theorem execCalRecordWrite_keeps (r : Req) (s : State) : s.Answers (execCalRecordWrite r s) := by
  simp [execCalRecordWrite]

@[simp] theorem cmdCalRecordRead_keeps : cmdCalRecordRead.Keeps := by
  intro c s
  simp only [cmdCalRecordRead]
  (repeat' split) <;> simp

@[simp] theorem execCalRecordRead_keeps (r : Req) (s : State) : s.Answers (execCalRecordRead r s) := by
  simp [execCalRecordRead]

@[simp] theorem cmdCalLinkRecord_keeps : cmdCalLinkRecord.Keeps := by
  intro c s
  unfold cmdCalLinkRecord
  simp only [need_res]
  iterate 3 (refine (State.keeps_ite ?_ (.refl s)))
  split
  · simp
  split
  · simp
  split
  next k t heq => exact (s.nvPut_keeps _ _ _ _ _ heq).trans (State.relook_keeps ..)
  next => exact .refl s

@[simp] theorem execCalLinkRecord_keeps (r : Req) (s : State) : s.Answers (execCalLinkRecord r s) := by
  simp [execCalLinkRecord]

/-! #### Egress -/

theorem State.roundRobin_keeps (s : State) (p n : Nat) : ∀ x ∈ s.roundRobin p n, s.Keeps x.2 := by
  induction n generalizing s with
  | zero => simp [State.roundRobin]
  | succ n ih =>
    unfold State.roundRobin
    extract_lets x c next
    have hnext (d : Int) : ∀ y ∈ (next d).roundRobin p n, s.Keeps y.2 :=
      fun y hy => (s.schedUpd_keeps p _).trans (ih _ y hy)
    split
    · exact hnext _
    split
    · exact hnext _
    split
    · rintro y ⟨⟩
      exact s.schedUpd_keeps p _
    · exact hnext _

theorem State.chooseClass_keeps (s : State) (p : Nat) : ∀ x ∈ s.chooseClass p, s.Keeps x.2 := by
  unfold State.chooseClass
  (repeat' split)
  · simp
  · exact s.roundRobin_keeps p 250
  · simp
  · intro x hx
    obtain ⟨c, -, rfl⟩ := Option.map_eq_some_iff.mp hx
    exact .refl s

@[simp] theorem State.countGuard_keeps (s : State) (p : Nat) (chosen : Option Nat) : s.Keeps (s.countGuard p chosen) :=
  State.foldl_keeps (fun t c => by
    split
    · exact .refl t
    · simp) _ s

@[simp] theorem State.correctCopy_keeps (s : State) (f : Frame) (q rho : Nat) (b : List Byte) (svlan : Bool) :
    s.Keeps (State.correctCopy s f q rho b svlan).2.2 := by
  unfold State.correctCopy
  dsimp only
  (repeat' split) <;> simp

@[simp] theorem State.oneStep_keeps (s : State) (f : Frame) (p rho : Nat) (b : List Byte) :
    s.Keeps (State.oneStep s f p rho b).2 := by
  unfold State.oneStep
  (repeat' split) <;> simp

theorem State.Keeps.drawn {s t : State} (h : s.Keeps t) (b : Bool) (n v : Nat) : s.Keeps (if b then t.draw n else (v, t)).2 := by
  split
  · exact h
  · exact h

@[simp] theorem State.startCopy_keeps (s : State) (p c rho : Nat) (corrupt : Bool) : s.Keeps (s.startCopy p c rho corrupt) := by
  unfold State.startCopy
  split
  · exact .refl s
  split
  · exact .refl s
  next f _ =>
    extract_lets sv b0
    have hq := s.correctCopy_keeps f p rho b0 sv
    generalize s.correctCopy f p rho b0 sv = q at hq ⊢
    obtain ⟨_ | why, b, t⟩ := q
    · have hu := t.oneStep_keeps f p rho b
      dsimp -zeta only
      generalize t.oneStep f p rho b = u at hu ⊢
      obtain ⟨b', u⟩ := u
      dsimp -zeta only
      extract_lets n shaped pay x cl v w y z z'
      have hv : u.Keeps v := ((State.Keeps.refl u).drawn ..).trans (.trans ⟨rfl, rfl, rfl⟩ (State.schedUpd_keeps ..))
      have hw : v.Keeps w := State.keeps_ite (v.count_keeps ..) (.refl v)
      have hz : w.Keeps z' := (w.bwAdd_keeps ..).trans (State.tallyFrame_keeps ..)
      refine ((hq.trans hu).trans hv).trans ((hw.trans hz).trans ?_)
      split
      · split
        · simp
        · exact .refl z'
      · exact .refl z'
    · exact hq.trans (by simp)

@[simp] theorem execSchedulerDecision_keeps (dt p rho : Nat) (corrupt : Bool) (s : State) :
    s.Answers (execSchedulerDecision dt p rho corrupt s) := by
  have he := s.elapse_keeps dt
  unfold execSchedulerDecision
  generalize s.elapse dt = e at he ⊢
  dsimp only
  split
  · exact State.answers_next.mpr he
  split
  · simp [he]
  next c t heq =>
    have ht := State.chooseClass_keeps _ _ _ heq
    simp at ht
    simp [ht, he]

@[simp] theorem State.countTx_keeps (s : State) (p c flow : Nat) (b : List Byte) : s.Keeps (State.countTx s p c flow b) := by
  simp [State.countTx]

@[simp] theorem State.spoilFcs_keeps (s : State) (b : List Byte) : s.Keeps (State.spoilFcs s b).2 := by
  simp [State.spoilFcs]

@[simp] theorem State.endTx_keeps (s : State) (p : Nat) (x : Tx) : s.Keeps (State.endTx s p x) := by
  unfold State.endTx
  dsimp only
  (repeat' split) <;> simp

@[simp] theorem execTransmitEnd_keeps (dt p : Nat) (s : State) : s.Answers (execTransmitEnd dt p s) := by
  unfold execTransmitEnd
  dsimp only
  (repeat' split) <;> simp

/-! #### Epochs -/

@[simp] theorem State.activate_keeps (s : State) : s.Keeps (State.activate s) := by
  simp [State.activate]

@[simp] theorem State.startResync_keeps (s : State) : s.Keeps (State.startResync s) := by
  simp [State.startResync]

@[simp] theorem execEpochDrained_keeps (dt : Nat) (s : State) : s.Answers (execEpochDrained dt s) := by
  simp [execEpochDrained]

@[simp] theorem State.drained_keeps (s : State) (n : Nat) : s.Keeps (State.drained s n) := by
  simp [State.drained]

@[simp] theorem State.drainQueue_keeps (s : State) (p c : Nat) : s.Keeps (State.drainQueue s p c) := by
  simp [State.drainQueue]

@[simp] theorem State.drainTraps_keeps (s : State) : s.Keeps (State.drainTraps s) := by
  simp [State.drainTraps]

@[simp] theorem State.drainRx_keeps (s : State) (p : Nat) : s.Keeps (State.drainRx s p) := by
  unfold State.drainRx
  (repeat' split) <;> simp

@[simp] theorem State.drainAll_keeps (s : State) : s.Keeps (State.drainAll s) := by
  simp [State.drainAll]

@[simp] theorem execMaxResExpiry_keeps (dt : Nat) (s : State) : s.Answers (execMaxResExpiry dt s) := by
  simp [execMaxResExpiry]

@[simp] theorem State.copyEntry_keeps (s : State) (k : Nat) : s.Keeps (State.copyEntry s k) := by
  simp [State.copyEntry]

@[simp] theorem State.endResync_keeps (s : State) : s.Keeps (State.endResync s) := by
  simp [State.endResync]

@[simp] theorem State.doPlan_keeps (s : State) (t : Nat) (p : Plan) : s.Keeps (State.doPlan s t p) := by
  simp [State.doPlan]

@[simp] theorem State.putData_keeps (s : State) (ws : List Nat) : s.Keeps (State.putData s ws) := by
  simp [State.putData]

@[simp] theorem State.tblFields_keeps (s : State) (w op tbl : Nat) : s.Keeps (State.tblFields s w op tbl) := by
  simp [State.tblFields]

@[simp] theorem State.tblCtrl_keeps {k : State → Nat → Nat → Nat → Option (Nat × State)}
    (h : ∀ (t : State) a b n, ∀ x ∈ k t a b n, t.Keeps x.2) (s : State) (init w op : Nat) : s.Keeps (s.tblCtrl init w op k) := by
  refine State.directWrite_keeps (fun t => ?_) _ _ _ _
  split
  · exact .refl t
  extract_lets u
  have hu : t.Keeps u := t.tblFields_keeps _ _ _
  split
  next i v heq => exact (hu.trans (h _ _ _ _ _ heq)).trans (State.set_keeps ..)
  next => exact hu.trans (State.set_keeps ..)

theorem State.windowPlan_keeps (s : State) (img tbl op i : Nat) : ∀ x ∈ s.windowPlan img tbl op i, s.Keeps x.2 := by
  unfold State.windowPlan
  dsimp only
  (repeat' split) <;> simp

@[simp] theorem execTblRead_keeps (init w : Nat) (s : State) : s.Answers (execTblRead init w s) := by
  refine State.answers_next.mpr (s.tblCtrl_keeps (fun t img tbl i x hx => ?_) ..)
  split at hx
  · cases hx
    exact t.putData_keeps _
  · cases hx

@[simp] theorem execTblWrite_keeps (init w : Nat) (s : State) : s.Answers (execTblWrite init w s) :=
  State.answers_next.mpr (s.tblCtrl_keeps (fun t _ _ _ => t.windowPlan_keeps _ _ _ _) ..)

@[simp] theorem execTblDelete_keeps (init w : Nat) (s : State) : s.Answers (execTblDelete init w s) :=
  State.answers_next.mpr (s.tblCtrl_keeps (fun t _ _ _ => t.windowPlan_keeps _ _ _ _) ..)

@[simp] theorem execTblFind_keeps (init w : Nat) (s : State) : s.Answers (execTblFind init w s) := by
  refine State.answers_next.mpr (s.tblCtrl_keeps (fun t img tbl i x hx => ?_) ..)
  split at hx
  · cases hx
  · obtain ⟨j, -, rfl⟩ := Option.map_eq_some_iff.mp hx
    exact t.putData_keeps _

@[simp] theorem cmdFwdStatus_keeps : cmdFwdStatus.Keeps := by
  simp [cmdFwdStatus]

@[simp] theorem execFwdStatus_keeps (r : Req) (s : State) : s.Answers (execFwdStatus r s) := by
  simp [execFwdStatus]

@[simp] theorem cmdFwdWrite_keeps : cmdFwdWrite.Keeps := by
  simp [cmdFwdWrite]

@[simp] theorem execFwdWrite_keeps (r : Req) (s : State) : s.Answers (execFwdWrite r s) := by
  simp [execFwdWrite]

@[simp] theorem cmdFwdRead_keeps : cmdFwdRead.Keeps := by
  intro c s
  simp only [cmdFwdRead]
  (repeat' split) <;> simp

@[simp] theorem execFwdRead_keeps (r : Req) (s : State) : s.Answers (execFwdRead r s) := by
  simp [execFwdRead]

@[simp] theorem cmdFwdCommit_keeps : cmdFwdCommit.Keeps := by
  simp [cmdFwdCommit]

@[simp] theorem execFwdCommit_keeps (r : Req) (s : State) : s.Answers (execFwdCommit r s) := by
  simp [execFwdCommit]

@[simp] theorem State.discard_keeps (s : State) : s.Keeps (State.discard s) := by
  simp [State.discard]

@[simp] theorem cmdFwdDiscard_keeps : cmdFwdDiscard.Keeps := by
  simp [cmdFwdDiscard]

@[simp] theorem execFwdDiscard_keeps (r : Req) (s : State) : s.Answers (execFwdDiscard r s) := by
  simp [execFwdDiscard]

@[simp] theorem cmdFwdBufCfg_keeps : cmdFwdBufCfg.Keeps := by
  intro c s
  simp only [cmdFwdBufCfg]
  (repeat' split) <;> simp

@[simp] theorem execFwdBufCfg_keeps (r : Req) (s : State) : s.Answers (execFwdBufCfg r s) := by
  simp [execFwdBufCfg]

@[simp] theorem cmdFwdEpochCfg_keeps : cmdFwdEpochCfg.Keeps := by
  simp [cmdFwdEpochCfg]

@[simp] theorem execFwdEpochCfg_keeps (r : Req) (s : State) : s.Answers (execFwdEpochCfg r s) := by
  simp [execFwdEpochCfg]

/-! #### Forester -/

@[simp] theorem State.foUpd_keeps (s : State) (f : Forester → Forester) : s.Keeps (State.foUpd s f) := by
  simp [State.foUpd]

@[simp] theorem State.foSync_keeps (s : State) : s.Keeps (State.foSync s) := by
  simp [State.foSync]

@[simp] theorem State.reserve_keeps (s : State) (k n : Nat) : s.Keeps (State.reserve s k n) := by
  simp [State.reserve]

@[simp] theorem State.unreserve_keeps (s : State) (k n : Nat) : s.Keeps (State.unreserve s k n) := by
  simp [State.unreserve]

@[simp] theorem State.letGo_keeps (s : State) (f : Flow) : s.Keeps (State.letGo s f) := by
  simp [State.letGo]

theorem State.foWrite_keeps (s : State) (t op i : Nat) (ws : List Nat) : ∀ u ∈ s.foWrite t op i ws, s.Keeps u := by
  unfold State.foWrite
  dsimp only
  split <;> simp

theorem State.writeFlow_keeps (s : State) (f : Flow) (fresh : Bool) : ∀ t ∈ s.writeFlow f fresh, s.Keeps t := by
  have hput (t : State) (ht : s.Keeps t) (c : Prop) [Decidable c] (tbl op i : Nat) (ws : List Nat) :
      ∀ u ∈ (if c then some t else t.foWrite tbl op i ws), s.Keeps u := by
    split
    · rintro u ⟨⟩
      exact ht
    · exact fun u hu => ht.trans (t.foWrite_keeps _ _ _ _ u hu)
  have hbind {o : Option State} {k : State → Option State} (ho : ∀ t ∈ o, s.Keeps t)
      (hk : ∀ t, s.Keeps t → ∀ u ∈ k t, s.Keeps u) : ∀ u ∈ o.bind k, s.Keeps u := by
    intro u hu
    obtain ⟨t, ht, htu⟩ := Option.bind_eq_some_iff.mp hu
    exact hk t (ho t ht) u htu
  have hctx : s.Keeps (match f.sctx with
      | some n => if fresh then (s.ctxReset n true).ctxSet n f.ctx0 (50 * 65536 + 1000) (30 * 65536 + 2000) else s
      | none => s) := by
    (repeat' split) <;> simp
  unfold State.writeFlow
  dsimp only
  refine hbind ?_ fun t ht u hu => ht.trans (t.foWrite_keeps _ _ _ _ u hu)
  split
  · exact hbind (hput _ hctx _ _ _ _ _) fun t ht => hput t ht _ _ _ _ _
  · exact hput _ hctx _ _ _ _ _

theorem State.book_keeps (s : State) (model : List Flow) (f : Flow) : ∀ x, s.book model f = .ok x → s.Keeps x.2 := by
  intro x hx
  unfold State.book at hx
  dsimp only at hx
  split at hx
  · cases hx
  split at hx
  · cases hx
  split at hx
  · cases hx
  split at hx
  · cases hx
  next heq =>
    cases hx
    have ht := s.writeFlow_keeps _ _ _ heq
    simp [ht]

@[simp] theorem State.unwriteFlow_keeps (s : State) (f : Flow) : s.Keeps (s.unwriteFlow f) :=
  Option.getD_keeps (s.foWrite_keeps _ _ _ _) (.refl s)

@[simp] theorem State.foChange_keeps (s : State) (ports : List Nat) : s.Keeps (State.foChange s ports) := by
  simp [State.foChange]

@[simp] theorem State.stage_keeps (s : State) (work : List Flow) (ports : List Nat) : s.Keeps (State.stage s work ports) := by
  simp [State.stage]

@[simp] theorem State.foDiscard_keeps (s : State) : s.Keeps s.foDiscard := by
  unfold State.foDiscard
  extract_lets t t' ports t''
  have ht : s.Keeps t := State.foldl_keeps (fun (t : State) f => t.letGo_keeps f) _ s
  have ht' : t.Keeps t' := State.foldl_keeps (fun (t : State) f => by (repeat' split) <;> simp) _ t
  have ht'' : t'.Keeps t'' := (State.discard_keeps _).trans (State.foUpd_keeps ..)
  refine ((ht.trans ht').trans ht'').trans (.trans (State.foldl_keeps (fun (u : State) p => ?_) _ t'') (State.set_keeps ..))
  split <;> simp

@[simp] theorem State.commitBanks_keeps (s : State) : s.Keeps (State.commitBanks s) := by
  simp [State.commitBanks]

@[simp] theorem State.foComplete_keeps (s : State) : s.Keeps (State.foComplete s) := by
  simp [State.foComplete]

@[simp] theorem State.foActivated_keeps (s : State) (words : List Nat) : s.Keeps (State.foActivated s words) := by
  simp [State.foActivated]

@[simp] theorem execEpochActivation_keeps (dt : Nat) (s : State) : s.Answers (execEpochActivation dt s) := by
  simp [execEpochActivation]

@[simp] theorem execResyncEnd_keeps (dt : Nat) (s : State) : s.Answers (execResyncEnd dt s) := by
  simp [execResyncEnd]

@[simp] theorem State.foBank_keeps (s : State) (p : Nat) : s.Keeps (State.foBank s p) := by
  simp [State.foBank]

@[simp] theorem execBankActivation_keeps (dt p : Nat) (s : State) : s.Answers (execBankActivation dt p s) := by
  simp [execBankActivation]

@[simp] theorem State.replaceFlow_keeps (s : State) (f : Flow) (p : Nat) : s.Keeps (s.replaceFlow f p) := by
  unfold State.replaceFlow
  extract_lets rest booked
  rcases hb : booked with _ | ⟨g, t⟩
  · simp
  · have ht : s.Keeps t := by
      dsimp only [booked] at hb
      split at hb
      · split at hb
        next hbook =>
          cases hb
          exact s.book_keeps _ _ _ hbook
        · cases hb
      · cases hb
    simp [ht]

@[simp] theorem State.evict_keeps (s : State) (f : Flow) : s.Keeps (State.evict s f) := by
  simp [State.evict]

@[simp] theorem State.replacePort_keeps (s : State) (p : Nat) : s.Keeps (State.replacePort s p) := by
  simp [State.replacePort]

@[simp] theorem execReplaceDelayExpiry_keeps (dt p : Nat) (s : State) : s.Answers (execReplaceDelayExpiry dt p s) := by
  simp [execReplaceDelayExpiry]

@[simp] theorem execFlowReplace_keeps (dt : Nat) (s : State) : s.Answers (execFlowReplace dt s) := by
  have he := s.elapse_keeps dt
  unfold execFlowReplace
  generalize s.elapse dt = e at he ⊢
  rw [State.answers_next]
  split
  · exact ((he.trans e.foComplete_keeps).trans ((State.incSat_keeps ..).trans (State.set_keeps ..))).trans
      ((State.raise_keeps ..).trans (State.settleCfg_keeps _))
  · exact he

@[simp] theorem State.foReinstate_keeps (s : State) : s.Keeps s.foReinstate := by
  unfold State.foReinstate
  extract_lets l t t' ports t''
  have ht : s.Keeps t := s.foUpd_keeps _
  have ht' : t.Keeps t' := State.foldl_keeps (fun (u : State) f => by
    split
    next heq => exact (u.writeFlow_keeps _ _ _ heq).trans (State.reserve_keeps ..)
    next => exact .refl u) l t
  have ht'' : t'.Keeps t'' := (State.foUpd_keeps ..).trans (State.set_keeps ..)
  exact ((ht.trans ht').trans ht'').trans ((State.foldl_keeps (fun (u : State) p => u.foRecommit_keeps p) _ _).trans (State.foPoll_keeps _))

@[simp] theorem State.foLocked_keeps {s : State} {k : Res} (h : s.Keeps k.st) : s.Keeps (s.foLocked k).st := by
  simp [State.foLocked, h]

@[simp] theorem State.refuse_keeps (s : State) (r : Reject) : s.Keeps (State.refuse s r).st := by
  simp [State.refuse]

@[simp] theorem cmdFlowStatus_keeps : cmdFlowStatus.Keeps := by
  simp [cmdFlowStatus]

@[simp] theorem execFlowStatus_keeps (r : Req) (s : State) : s.Answers (execFlowStatus r s) := by
  simp [execFlowStatus]

@[simp] theorem State.foPortCfg_keeps (s : State) (p w : Nat) : s.Keeps (State.foPortCfg s p w) := by
  simp [State.foPortCfg]

@[simp] theorem cmdFlowPortCfg_keeps : cmdFlowPortCfg.Keeps := by
  intro c s
  simp only [cmdFlowPortCfg]
  (repeat' split) <;> simp

@[simp] theorem execFlowPortCfg_keeps (r : Req) (s : State) : s.Answers (execFlowPortCfg r s) := by
  simp [execFlowPortCfg]

@[simp] theorem cmdFlowPlace_keeps : cmdFlowPlace.Keeps := by
  intro c s
  unfold cmdFlowPlace
  simp only [need_res]
  iterate 3 (refine (State.keeps_ite ?_ (.refl s)))
  split
  · simp
  split
  · simp
  split
  · simp
  next g t heq =>
    have ht : s.Keeps t := s.book_keeps _ _ _ heq
    exact State.foLocked_keeps (ht.trans (t.stage_keeps _ _))

@[simp] theorem execFlowPlace_keeps (r : Req) (s : State) : s.Answers (execFlowPlace r s) := by
  simp [execFlowPlace]

@[simp] theorem State.moveFlows_keeps (s : State) (l : List Flow) : s.Keeps (s.moveFlows l) :=
  State.foldl_keeps (fun (t : State) f => by
    dsimp only
    split
    next g u heq =>
      have ht : t.Keeps u := by
        split at heq
        · split at heq
          next hbook =>
            cases heq
            exact t.book_keeps _ _ _ hbook
          · cases heq
        · cases heq
      simp [ht]
    next => simp) _ s

theorem State.pinned_keeps (s : State) (g : Flow) (t : State) : t.Keeps (s.pinned g t) :=
  (t.stage_keeps _ _).trans (State.moveFlows_keeps _ _)

@[simp] theorem cmdFlowPin_keeps : cmdFlowPin.Keeps := by
  intro c s
  unfold cmdFlowPin
  simp only [need_res]
  iterate 3 (refine (State.keeps_ite ?_ (.refl s)))
  split
  · simp
  split
  · simp
  split
  · simp
  next g t heq =>
    have ht : s.Keeps t := s.book_keeps _ _ _ heq
    exact State.foLocked_keeps (ht.trans (s.pinned_keeps g t))

@[simp] theorem execFlowPin_keeps (r : Req) (s : State) : s.Answers (execFlowPin r s) := by
  simp [execFlowPin]

@[simp] theorem cmdFlowRemove_keeps : cmdFlowRemove.Keeps := by
  intro c s
  simp only [cmdFlowRemove]
  (repeat' split) <;> simp

@[simp] theorem execFlowRemove_keeps (r : Req) (s : State) : s.Answers (execFlowRemove r s) := by
  simp [execFlowRemove]

@[simp] theorem cmdFlowCommit_keeps : cmdFlowCommit.Keeps := by
  simp [cmdFlowCommit]

@[simp] theorem execFlowCommit_keeps (r : Req) (s : State) : s.Answers (execFlowCommit r s) := by
  simp [execFlowCommit]

@[simp] theorem cmdFlowDiscard_keeps : cmdFlowDiscard.Keeps := by
  simp [cmdFlowDiscard]

@[simp] theorem execFlowDiscard_keeps (r : Req) (s : State) : s.Answers (execFlowDiscard r s) := by
  simp [execFlowDiscard]

@[simp] theorem cmdFlowQuery_keeps : cmdFlowQuery.Keeps := by
  intro c s
  simp only [cmdFlowQuery]
  (repeat' split) <;> simp

@[simp] theorem execFlowQuery_keeps (r : Req) (s : State) : s.Answers (execFlowQuery r s) := by
  simp [execFlowQuery]

@[simp] theorem cmdFlowCfg_keeps : cmdFlowCfg.Keeps := by
  simp [cmdFlowCfg]

@[simp] theorem execFlowCfg_keeps (r : Req) (s : State) : s.Answers (execFlowCfg r s) := by
  simp [execFlowCfg]

/-! #### Images -/

@[simp] theorem State.runsSlot_keeps (s : State) (slot : Nat) : s.Keeps (State.runsSlot s slot) := by
  simp [State.runsSlot]

@[simp] theorem cmdSysInfo_keeps : cmdSysInfo.Keeps := by
  simp [cmdSysInfo]

@[simp] theorem execSysInfo_keeps (r : Req) (s : State) : s.Answers (execSysInfo r s) := by
  simp [execSysInfo]

@[simp] theorem cmdSysNodeId_keeps : cmdSysNodeId.Keeps := by
  intro c s
  unfold cmdSysNodeId
  simp only [unlessLocked_st]
  refine State.keeps_ite (.refl s) ?_
  split
  next k t heq => exact (s.writes_keeps _).trans (State.nvPut_keeps _ _ _ _ _ _ heq)
  next => exact .refl s

@[simp] theorem execSysNodeId_keeps (r : Req) (s : State) : s.Answers (execSysNodeId r s) := by
  simp [execSysNodeId]

@[simp] theorem cmdSysCoreStatus_keeps : cmdSysCoreStatus.Keeps := by
  simp [cmdSysCoreStatus]

@[simp] theorem execSysCoreStatus_keeps (r : Req) (s : State) : s.Answers (execSysCoreStatus r s) := by
  simp [execSysCoreStatus]

@[simp] theorem cmdSysWdtCfg_keeps : cmdSysWdtCfg.Keeps := by
  simp [cmdSysWdtCfg]

@[simp] theorem execSysWdtCfg_keeps (r : Req) (s : State) : s.Answers (execSysWdtCfg r s) := by
  simp [execSysWdtCfg]

@[simp] theorem State.bootSync_keeps (s : State) : s.Keeps (State.bootSync s) := by
  simp [State.bootSync]

@[simp] theorem cmdSysBootCfg_keeps : cmdSysBootCfg.Keeps := by
  intro c s
  unfold cmdSysBootCfg
  simp only [need_res, unlessLocked_st]
  iterate 2 (refine (State.keeps_ite ?_ (.refl s)))
  refine State.keeps_ite (.refl s) ?_
  split
  · simp
  split
  next k t heq => exact .trans (by simp) (State.nvPut_keeps _ _ _ _ _ _ heq)
  next => exact .refl s

@[simp] theorem execSysBootCfg_keeps (r : Req) (s : State) : s.Answers (execSysBootCfg r s) := by
  simp [execSysBootCfg]

@[simp] theorem cmdSysEcho_keeps : cmdSysEcho.Keeps := by
  simp [cmdSysEcho]

@[simp] theorem execSysEcho_keeps (r : Req) (s : State) : s.Answers (execSysEcho r s) := by
  simp [execSysEcho]

@[simp] theorem cmdNvmStatus_keeps : cmdNvmStatus.Keeps := by
  simp [cmdNvmStatus]

@[simp] theorem execNvmStatus_keeps (r : Req) (s : State) : s.Answers (execNvmStatus r s) := by
  simp [execNvmStatus]

@[simp] theorem cmdNvmRead_keeps : cmdNvmRead.Keeps := by
  simp [cmdNvmRead]

@[simp] theorem execNvmRead_keeps (r : Req) (s : State) : s.Answers (execNvmRead r s) := by
  simp [execNvmRead]

@[simp] theorem cmdNvmVerify_keeps : cmdNvmVerify.Keeps := by
  simp [cmdNvmVerify]

@[simp] theorem execNvmVerify_keeps (r : Req) (s : State) : s.Answers (execNvmVerify r s) := by
  simp [execNvmVerify]

/-! #### Control -/

@[simp] theorem State.doorbell_keeps (s : State) (init mb : Nat) : s.Keeps (State.doorbell s init mb) := by
  simp [State.doorbell]

@[simp] theorem execDoorbellRing_keeps (init mb : Nat) (s : State) : s.Answers (execDoorbellRing init mb s) := by
  simp [execDoorbellRing]

@[simp] theorem State.reqWrite_keeps (s : State) (mb k v : Nat) : s.Keeps (State.reqWrite s mb k v) := by
  simp [State.reqWrite]

@[simp] theorem execRequestWrite_keeps (init mb k v : Nat) (s : State) : s.Answers (execRequestWrite init mb k v s) := by
  simp [execRequestWrite]

@[simp] theorem State.rspRead_keeps (s : State) (mb k : Nat) : s.Keeps (State.rspRead s mb k) := by
  simp [State.rspRead]

@[simp] theorem execResponseRead_keeps (init mb k : Nat) (s : State) : s.Answers (execResponseRead init mb k s) := by
  unfold execResponseRead
  dsimp only
  (repeat' split) <;> simp

@[simp] theorem State.forgetMb_keeps (s : State) (mb : Nat) : s.Keeps (State.forgetMb s mb) := by
  simp [State.forgetMb]

@[simp] theorem State.readySync_keeps (s : State) : s.Keeps (State.readySync s) := by
  simp [State.readySync]

@[simp] theorem State.setReady_keeps (s : State) (core : Nat) (b : Bool) : s.Keeps (State.setReady s core b) := by
  simp [State.setReady]

@[simp] theorem State.restartCore_keeps (s : State) (core cause : Nat) : s.Keeps (State.restartCore s core cause) := by
  unfold State.restartCore
  dsimp only
  (repeat' split) <;> simp

@[simp] theorem execLockstepMismatch_keeps (dt : Nat) (s : State) : s.Answers (execLockstepMismatch dt s) := by
  simp [execLockstepMismatch]

@[simp] theorem execCsramDbe_keeps (dt core region : Nat) (fetch : Bool) (s : State) :
    s.Answers (execCsramDbe dt core region fetch s) := by
  simp [execCsramDbe]

@[simp] theorem execWatchdogExpiry_keeps (dt core : Nat) (s : State) : s.Answers (execWatchdogExpiry dt core s) := by
  unfold execWatchdogExpiry
  dsimp only
  (repeat' split) <;> simp

@[simp] theorem State.kick_keeps (s : State) (core : Nat) : s.Keeps (State.kick s core) := by
  simp [State.kick]

@[simp] theorem execWdtKick_keeps (init core : Nat) (s : State) : s.Answers (execWdtKick init core s) := by
  simp [execWdtKick]

@[simp] theorem State.coreUp_keeps (s : State) (core : Nat) : s.Keeps (State.coreUp s core) := by
  simp [State.coreUp]

@[simp] theorem State.semRefuse_keeps (s : State) (init n : Nat) : s.Keeps (State.semRefuse s init n) := by
  simp [State.semRefuse]

@[simp] theorem State.semTake_keeps (s : State) (m : Sem) (init n lease : Nat) : s.Keeps (State.semTake s m init n lease) := by
  simp [State.semTake]

@[simp] theorem State.semAcquire_keeps (s : State) (m : Sem) (init n lease : Nat) :
    s.Keeps (State.semAcquire s m init n lease) := by
  simp [State.semAcquire]

@[simp] theorem State.semRelease_keeps (s : State) (m : Sem) (init n : Nat) : s.Keeps (State.semRelease s m init n) := by
  unfold State.semRelease
  (repeat' split) <;> simp

@[simp] theorem State.semWrite_keeps (s : State) (same : Bool) (init n cmd lease : Nat) :
    s.Keeps (State.semWrite s same init n cmd lease) := by
  simp [State.semWrite]

@[simp] theorem execSemAcquire_keeps (init n lease : Nat) (s : State) : s.Answers (execSemAcquire init n lease s) := by
  simp [execSemAcquire]

@[simp] theorem execSemRelease_keeps (init n : Nat) (s : State) : s.Answers (execSemRelease init n s) := by
  simp [execSemRelease]

@[simp] theorem execSemLeaseExpiry_keeps (dt n : Nat) (s : State) : s.Answers (execSemLeaseExpiry dt n s) := by
  unfold execSemLeaseExpiry
  dsimp only
  (repeat' split) <;> simp

@[simp] theorem State.nvSlotWords_keeps (s : State) (k : Nat) : s.Keeps (s.nvSlotWords k).2 := by
  unfold State.nvSlotWords
  split
  · exact .refl s
  · refine List.foldlRecOn (motive := fun (a : List Nat × State) => s.Keeps a.2) _ _ (.refl s) fun a ha i _ => ?_
    exact ha

@[simp] theorem State.nvCtrl_keeps (s : State) (init op slot : Nat) : s.Keeps (State.nvCtrl s init op slot) := by
  simp [State.nvCtrl]

@[simp] theorem execNvSlotRead_keeps (init slot : Nat) (s : State) : s.Answers (execNvSlotRead init slot s) := by
  simp [execNvSlotRead]

@[simp] theorem execNvSlotWrite_keeps (init slot : Nat) (s : State) : s.Answers (execNvSlotWrite init slot s) := by
  simp [execNvSlotWrite]

@[simp] theorem execNvSlotErase_keeps (init slot : Nat) (s : State) : s.Answers (execNvSlotErase init slot s) := by
  simp [execNvSlotErase]

@[simp] theorem State.nvFinish_keeps (s : State) (o : NvOp) (ok : Bool) : s.Keeps (State.nvFinish s o ok) := by
  simp [State.nvFinish]

@[simp] theorem execNvOperationEnd_keeps (dt : Nat) (ok : Bool) (s : State) : s.Answers (execNvOperationEnd dt ok s) := by
  unfold execNvOperationEnd
  dsimp only
  (repeat' split) <;> simp

/-! #### Firebreak -/

@[simp] theorem State.takeReference_keeps (s : State) (op value live : Nat) : s.Keeps (s.takeReference op value live) := by
  unfold State.takeReference
  extract_lets t t' t'' ci v mb cv w
  have ht : s.Keeps t := State.foldl_keeps (fun (_ : State) _ => State.set_keeps ..) _ s
  clear_value t
  have ht' : t.Keeps t' := t.writes_keeps _
  clear_value t'
  have hv : t'.Keeps v := State.keeps_ite (t'.set_keeps R.CI_STAT_DRIFT 0 0 0) (.refl t')
  clear_value v
  have hw : v.Keeps w := ⟨rfl, rfl, rfl⟩
  clear_value w
  refine ((ht.trans ht').trans hv).trans (hw.trans ?_)
  cases mb with
  | some m => exact w.finish_keeps ..
  | none => exact .refl w

@[simp] theorem State.comparePass_keeps (s : State) (live : Nat) : s.Keeps (State.comparePass s live) := by
  simp [State.comparePass]

@[simp] theorem State.endPass_keeps (s : State) : s.Keeps (State.endPass s) := by
  unfold State.endPass
  dsimp only
  (repeat' split) <;> simp

@[simp] theorem execSweepPassEnd_keeps (dt : Nat) (s : State) : s.Answers (execSweepPassEnd dt s) := by
  unfold execSweepPassEnd
  dsimp only
  (repeat' split) <;> simp

@[simp] theorem State.lockWorld_keeps (s : State) (nonSecure : Bool) : s.Keeps (State.lockWorld s nonSecure) := by
  simp [State.lockWorld]

@[simp] theorem execCfgLockWrite_keeps (init which : Nat) (s : State) : s.Answers (execCfgLockWrite init which s) := by
  simp [execCfgLockWrite]

@[simp] theorem execViolLogClear_keeps (init : Nat) (s : State) : s.Answers (execViolLogClear init s) := by
  simp [execViolLogClear]

@[simp] theorem cmdSecStatus_keeps : cmdSecStatus.Keeps := by
  simp [cmdSecStatus]

@[simp] theorem execSecStatus_keeps (r : Req) (s : State) : s.Answers (execSecStatus r s) := by
  simp [execSecStatus]

@[simp] theorem State.signal_keeps (s before : State) (all : Bool) : s.Keeps (State.signal s before all) := by
  simp [State.signal]

@[simp] theorem State.putWorld_keeps (s : State) (w : FieldWrite) : s.Keeps (State.putWorld s w) := by
  simp [State.putWorld]

@[simp] theorem worldChange_keeps (s : State) (was new : Bool) (f : Fld) (k : Nat) : s.Keeps (worldChange s was new f k).st := by
  simp [worldChange]

@[simp] theorem cmdSecBlockWorld_keeps : cmdSecBlockWorld.Keeps := by
  simp [cmdSecBlockWorld]

@[simp] theorem execSecBlockWorld_keeps (r : Req) (s : State) : s.Answers (execSecBlockWorld r s) := by
  simp [execSecBlockWorld]

@[simp] theorem cmdSecRegionWorld_keeps : cmdSecRegionWorld.Keeps := by
  simp [cmdSecRegionWorld]

@[simp] theorem execSecRegionWorld_keeps (r : Req) (s : State) : s.Answers (execSecRegionWorld r s) := by
  simp [execSecRegionWorld]

@[simp] theorem cmdSecPartWorld_keeps : cmdSecPartWorld.Keeps := by
  simp [cmdSecPartWorld]

@[simp] theorem execSecPartWorld_keeps (r : Req) (s : State) : s.Answers (execSecPartWorld r s) := by
  simp [execSecPartWorld]

@[simp] theorem cmdSecLock_keeps : cmdSecLock.Keeps := by
  simp [cmdSecLock]

@[simp] theorem execSecLock_keeps (r : Req) (s : State) : s.Answers (execSecLock r s) := by
  simp [execSecLock]

@[simp] theorem cmdSecCrcCommit_keeps : cmdSecCrcCommit.Keeps := by
  simp [cmdSecCrcCommit]

@[simp] theorem execSecCrcCommit_keeps (r : Req) (s : State) : s.Answers (execSecCrcCommit r s) := by
  simp [execSecCrcCommit]

@[simp] theorem cmdSecViolRead_keeps : cmdSecViolRead.Keeps := by
  simp [cmdSecViolRead]

@[simp] theorem execSecViolRead_keeps (r : Req) (s : State) : s.Answers (execSecViolRead r s) := by
  simp [execSecViolRead]

@[simp] theorem cmdSecWindow_keeps : cmdSecWindow.Keeps := by
  simp [cmdSecWindow]

@[simp] theorem execSecWindow_keeps (r : Req) (s : State) : s.Answers (execSecWindow r s) := by
  simp [execSecWindow]

@[simp] theorem State.setUnlocked_keeps (s : State) (b : Bool) : s.Keeps (State.setUnlocked s b) := by
  simp [State.setUnlocked]

@[simp] theorem cmdSecDebugUnlock_keeps : cmdSecDebugUnlock.Keeps := by
  simp [cmdSecDebugUnlock]

@[simp] theorem execSecDebugUnlock_keeps (r : Req) (s : State) : s.Answers (execSecDebugUnlock r s) := by
  simp [execSecDebugUnlock]

/-! #### RefCmds -/

@[simp] theorem cmdRefStatus_keeps : cmdRefStatus.Keeps := by
  simp [cmdRefStatus]

@[simp] theorem execRefStatus_keeps (r : Req) (s : State) : s.Answers (execRefStatus r s) := by
  simp [execRefStatus]

@[simp] theorem cmdRefSlotStatus_keeps : cmdRefSlotStatus.Keeps := by
  simp [cmdRefSlotStatus]

@[simp] theorem execRefSlotStatus_keeps (r : Req) (s : State) : s.Answers (execRefSlotStatus r s) := by
  simp [execRefSlotStatus]

@[simp] theorem State.slotChanged_keeps (s old : State) (i : Nat) : s.Keeps (State.slotChanged s old i) := by
  simp [State.slotChanged]

@[simp] theorem cmdRefSlotCfg_keeps : cmdRefSlotCfg.Keeps := by
  simp [cmdRefSlotCfg]

@[simp] theorem execRefSlotCfg_keeps (r : Req) (s : State) : s.Answers (execRefSlotCfg r s) := by
  simp [execRefSlotCfg]

@[simp] theorem cmdRefDpllCfg_keeps : cmdRefDpllCfg.Keeps := by
  simp [cmdRefDpllCfg]

@[simp] theorem execRefDpllCfg_keeps (r : Req) (s : State) : s.Answers (execRefDpllCfg r s) := by
  simp [execRefDpllCfg]

@[simp] theorem cmdRefPrio_keeps : cmdRefPrio.Keeps := by
  simp [cmdRefPrio]

@[simp] theorem execRefPrio_keeps (r : Req) (s : State) : s.Answers (execRefPrio r s) := by
  simp [execRefPrio]

@[simp] theorem State.lineChosen_keeps (s : State) : s.Keeps (State.lineChosen s) := by
  simp [State.lineChosen]

@[simp] theorem cmdRefGlobal_keeps : cmdRefGlobal.Keeps := by
  simp [cmdRefGlobal]

@[simp] theorem execRefGlobal_keeps (r : Req) (s : State) : s.Answers (execRefGlobal r s) := by
  simp [execRefGlobal]

@[simp] theorem cmdRefOcxo_keeps : cmdRefOcxo.Keeps := by
  simp [cmdRefOcxo]

@[simp] theorem execRefOcxo_keeps (r : Req) (s : State) : s.Answers (execRefOcxo r s) := by
  simp [execRefOcxo]

@[simp] theorem cmdRefForce_keeps : cmdRefForce.Keeps := by
  intro c s
  simp only [cmdRefForce]
  (repeat' split) <;> simp

@[simp] theorem execRefForce_keeps (r : Req) (s : State) : s.Answers (execRefForce r s) := by
  simp [execRefForce]

@[simp] theorem cmdRefSwLoop_keeps : cmdRefSwLoop.Keeps := by
  simp [cmdRefSwLoop]

@[simp] theorem execRefSwLoop_keeps (r : Req) (s : State) : s.Answers (execRefSwLoop r s) := by
  simp [execRefSwLoop]

@[simp] theorem cmdRefSwRead_keeps : cmdRefSwRead.Keeps := by
  simp [cmdRefSwRead]

@[simp] theorem execRefSwRead_keeps (r : Req) (s : State) : s.Answers (execRefSwRead r s) := by
  simp [execRefSwRead]

@[simp] theorem cmdRefSwWrite_keeps : cmdRefSwWrite.Keeps := by
  simp [cmdRefSwWrite]

@[simp] theorem execRefSwWrite_keeps (r : Req) (s : State) : s.Answers (execRefSwWrite r s) := by
  simp [execRefSwWrite]

/-! #### Gnss -/

@[simp] theorem State.gnInUpd_keeps (s : State) (x : Nat) (f : GnIn → GnIn) : s.Keeps (State.gnInUpd s x f) := by
  simp [State.gnInUpd]

@[simp] theorem State.gnAntUpd_keeps (s : State) (x : Nat) (f : GnAnt → GnAnt) : s.Keeps (State.gnAntUpd s x f) := by
  simp [State.gnAntUpd]

@[simp] theorem State.gnSync_keeps (s : State) : s.Keeps (State.gnSync s) := by
  simp [State.gnSync]

@[simp] theorem State.dropInput_keeps (s : State) (x : Nat) : s.Keeps (State.dropInput s x) := by
  simp [State.dropInput]

@[simp] theorem execSampleClockLoss_keeps (dt x : Nat) (s : State) : s.Answers (execSampleClockLoss dt x s) := by
  simp [execSampleClockLoss]

@[simp] theorem execSampleClockReturn_keeps (dt x : Nat) (s : State) : s.Answers (execSampleClockReturn dt x s) := by
  simp [execSampleClockReturn]

@[simp] theorem execClockPhaseMeasure_keeps (dt x : Nat) (phase : Int) (s : State) :
    s.Answers (execClockPhaseMeasure dt x phase s) := by
  simp [execClockPhaseMeasure]

@[simp] theorem execSignalAcquisition_keeps (dt x sig svid elev : Nat) (v : Signal) (s : State) :
    s.Answers (execSignalAcquisition dt x sig svid elev v s) := by
  unfold execSignalAcquisition
  dsimp only
  (repeat' split) <;> simp

@[simp] theorem execLossOfTracking_keeps (dt x sig : Nat) (v : Fading) (s : State) :
    s.Answers (execLossOfTracking dt x sig v s) := by
  simp [execLossOfTracking]

@[simp] theorem State.gnPush_keeps (s : State) (nav : Bool) (e : List Nat) : s.Keeps (State.gnPush s nav e) := by
  simp [State.gnPush]

@[simp] theorem execMeasurementEpoch_keeps (dt : Nat) (ms : List Meas) (s : State) :
    s.Answers (execMeasurementEpoch dt ms s) := by
  simp [execMeasurementEpoch]

@[simp] theorem State.navTaken_keeps (s : State) (key : Nat) (v : NavInfo) : s.Keeps (State.navTaken s key v) := by
  simp [State.navTaken]

@[simp] theorem execNavDataDecoded_keeps (dt ch check nbits sec ns : Nat) (data : List Nat) (v : NavInfo) (s : State) :
    s.Answers (execNavDataDecoded dt ch check nbits sec ns data v s) := by
  unfold execNavDataDecoded
  dsimp only
  (repeat' split) <;> simp

@[simp] theorem State.gnPop_keeps (s : State) (nav : Bool) : s.Keeps (State.gnPop s nav).2 := by
  unfold State.gnPop
  (repeat' split) <;> simp

@[simp] theorem State.gnReadW0_keeps (s : State) (nav : Bool) : s.Keeps (State.gnReadW0 s nav).2 := by
  simp [State.gnReadW0]

@[simp] theorem execGnssFifoPop_keeps (init : Nat) (nav : Bool) (s : State) : s.Answers (execGnssFifoPop init nav s) := by
  unfold execGnssFifoPop
  dsimp only
  (repeat' split) <;> simp

@[simp] theorem State.gnPopN_keeps (s : State) (nav : Bool) (k : Nat) : s.Keeps (s.gnPopN nav k).2 := by
  induction k generalizing s with
  | zero => exact .refl s
  | succ k ih =>
    unfold State.gnPopN
    split
    next heq => exact .of_snd (s.gnPop_keeps nav) heq
    next heq => exact (Keeps.of_snd (s.gnPop_keeps nav) heq).trans (ih _)

@[simp] theorem State.setNotch_keeps (s : State) (x k : Nat) (b : Bool) : s.Keeps (State.setNotch s x k b) := by
  simp [State.setNotch]

@[simp] theorem State.notchStep_keeps (s : State) (x : Nat) (peaks : List (Int × Nat)) (k : Nat) :
    s.Keeps (State.notchStep s x peaks k) := by
  unfold State.notchStep
  dsimp only
  (repeat' split) <;> simp

@[simp] theorem execSpectrumMonitor_keeps (dt x : Nat) (median : Int) (agc : Nat) (peaks : List (Int × Nat)) (s : State) :
    s.Answers (execSpectrumMonitor dt x median agc peaks s) := by
  unfold execSpectrumMonitor
  extract_lets e x i n rise jam now t t' t'' due
  have he : s.Keeps e := s.elapse_keeps dt
  clear_value due e now
  have ht : e.Keeps t := (State.set_keeps ..).trans (State.set_keeps ..)
  clear_value t
  have ht' : t.Keeps t' := t.gnInUpd_keeps ..
  clear_value t'
  have ht'' : t'.Keeps t'' := State.keeps_ite ((State.setB_keeps ..).trans (State.raise_keeps ..)) (.refl t')
  have hall : s.Keeps t'' := ((he.trans ht).trans ht').trans ht''
  clear_value t''
  exact State.answers_next.mpr (State.keeps_ite
    (hall.trans (State.foldl_keeps (fun (u : State) k => u.notchStep_keeps ..) _ _)) he)

@[simp] theorem execNotchRelease_keeps (dt x k : Nat) (s : State) : s.Answers (execNotchRelease dt x k s) := by
  unfold execNotchRelease
  dsimp only
  (repeat' split) <;> simp

@[simp] theorem State.setTrust_keeps (s : State) (x : Nat) (b : Bool) : s.Keeps (State.setTrust s x b) := by
  simp [State.setTrust]

@[simp] theorem State.solSync_keeps (s : State) (x : Nat) : s.Keeps (State.solSync s x) := by
  simp [State.solSync]

@[simp] theorem State.solFailed_keeps (s : State) (x : Nat) : s.Keeps (State.solFailed s x) := by
  simp [State.solFailed]

@[simp] theorem State.solPassed_keeps (s : State) (x : Nat) (ofs : Int) (unbroken : Bool) :
    s.Keeps (State.solPassed s x ofs unbroken) := by
  simp [State.solPassed]

@[simp] theorem State.solution_keeps (s : State) (x : Nat) (v : Sol) : s.Keeps (State.solution s x v) := by
  simp [State.solution]

@[simp] theorem execGnssSolution_keeps (dt ant : Nat) (v : Sol) (s : State) : s.Answers (execGnssSolution dt ant v s) := by
  simp [execGnssSolution]

@[simp] theorem execTrustHoldExpiry_keeps (dt ant : Nat) (s : State) : s.Answers (execTrustHoldExpiry dt ant s) := by
  unfold execTrustHoldExpiry
  dsimp only
  (repeat' split) <;> simp

@[simp] theorem execGnssSurvey_keeps (dt ant px py pz : Nat) (s : State) : s.Answers (execGnssSurvey dt ant px py pz s) := by
  unfold execGnssSurvey
  dsimp only
  (repeat' split) <;> simp

@[simp] theorem State.keepGnss_keeps (s : State) : s.Keeps (State.keepGnss s) := by
  simp [State.keepGnss]

@[simp] theorem execKeptDataRewrite_keeps (dt : Nat) (s : State) : s.Answers (execKeptDataRewrite dt s) := by
  simp [execKeptDataRewrite]

@[simp] theorem State.startGnss_keeps (s : State) : s.Keeps s.startGnss := by
  unfold State.startGnss
  extract_lets t times gn
  have ht : s.Keeps t := State.foldl_keeps (fun (t : State) x => by
    extract_lets u
    have hu : t.Keeps u := (State.set_keeps ..).trans (State.gnAntUpd_keeps ..)
    clear_value u
    split
    · exact State.keeps_ite (hu.trans (u.writes_keeps _)) hu
    · exact hu) [0, 1] s
  clear_value gn t
  exact .trans (.trans ht ⟨rfl, rfl, rfl⟩) (State.gnSync_keeps _)

@[simp] theorem State.loseGnss_keeps (s : State) : s.Keeps (State.loseGnss s) := by
  simp [State.loseGnss]

@[simp] theorem State.sleepGnss_keeps (s : State) : s.Keeps (State.sleepGnss s) := by
  simp [State.sleepGnss]

@[simp] theorem State.wakeGnss_keeps (s : State) : s.Keeps (State.wakeGnss s) := by
  simp [State.wakeGnss]

@[simp] theorem cmdGnssStatus_keeps : cmdGnssStatus.Keeps := by
  simp [cmdGnssStatus]

@[simp] theorem execGnssStatus_keeps (r : Req) (s : State) : s.Answers (execGnssStatus r s) := by
  simp [execGnssStatus]

@[simp] theorem State.gnRetime_keeps (s old : State) : s.Keeps (State.gnRetime s old) := by
  simp [State.gnRetime]

@[simp] theorem State.gnInputChanged_keeps (s : State) (x : Nat) : s.Keeps (State.gnInputChanged s x) := by
  simp [State.gnInputChanged]

@[simp] theorem cmdGnssInputCfg_keeps : cmdGnssInputCfg.Keeps := by
  simp [cmdGnssInputCfg]

@[simp] theorem execGnssInputCfg_keeps (r : Req) (s : State) : s.Answers (execGnssInputCfg r s) := by
  simp [execGnssInputCfg]

@[simp] theorem State.antShift_keeps (s old : State) (x : Nat) : s.Keeps (State.antShift s old x) := by
  simp [State.antShift]

@[simp] theorem State.posChanged_keeps (s old : State) : s.Keeps (State.posChanged s old) := by
  simp [State.posChanged]

@[simp] theorem cmdGnssTimingCfg_keeps : cmdGnssTimingCfg.Keeps := by
  simp [cmdGnssTimingCfg]

@[simp] theorem execGnssTimingCfg_keeps (r : Req) (s : State) : s.Answers (execGnssTimingCfg r s) := by
  simp [execGnssTimingCfg]

@[simp] theorem cmdGnssTrustCfg_keeps : cmdGnssTrustCfg.Keeps := by
  simp [cmdGnssTrustCfg]

@[simp] theorem execGnssTrustCfg_keeps (r : Req) (s : State) : s.Answers (execGnssTrustCfg r s) := by
  simp [execGnssTrustCfg]

@[simp] theorem cmdGnssRead_keeps : cmdGnssRead.Keeps := by
  simp [cmdGnssRead]

@[simp] theorem execGnssRead_keeps (r : Req) (s : State) : s.Answers (execGnssRead r s) := by
  simp [execGnssRead]

@[simp] theorem cmdGnssSleep_keeps : cmdGnssSleep.Keeps := by
  simp [cmdGnssSleep]

@[simp] theorem execGnssSleep_keeps (r : Req) (s : State) : s.Answers (execGnssSleep r s) := by
  simp [execGnssSleep]

@[simp] theorem cmdGnssFeSpi_keeps : cmdGnssFeSpi.Keeps := by
  simp [cmdGnssFeSpi]

@[simp] theorem execGnssFeSpi_keeps (r : Req) (s : State) : s.Answers (execGnssFeSpi r s) := by
  simp [execGnssFeSpi]

/-! #### Telemetry -/

@[simp] theorem State.restartCnt_keeps (s : State) (global : Bool) (g k : Nat) : s.Keeps (State.restartCnt s global g k) := by
  simp [State.restartCnt]

@[simp] theorem State.cntRegWrite_keeps (s : State) (global : Bool) (g k w v : Nat) :
    s.Keeps (State.cntRegWrite s global g k w v) := by
  simp [State.cntRegWrite]

@[simp] theorem execCounterCfgWrite_keeps (init addr v : Nat) (s : State) : s.Answers (execCounterCfgWrite init addr v s) := by
  unfold execCounterCfgWrite
  (repeat' split) <;> simp

@[simp] theorem State.endCntWindow_keeps (s : State) : s.Keeps (State.endCntWindow s) := by
  simp [State.endCntWindow]

@[simp] theorem execCntThresh_keeps (dt : Nat) (s : State) : s.Answers (execCntThresh dt s) := by
  simp [execCntThresh]

@[simp] theorem State.restartBw_keeps (s : State) (p : Nat) : s.Keeps (State.restartBw s p) := by
  simp [State.restartBw]

@[simp] theorem execBwCfgWrite_keeps (init addr v : Nat) (s : State) : s.Answers (execBwCfgWrite init addr v s) := by
  simp [execBwCfgWrite]

@[simp] theorem State.endWindow_keeps (s : State) (p : Nat) : s.Keeps (State.endWindow s p) := by
  simp [State.endWindow]

@[simp] theorem execBwWindowEnd_keeps (dt p : Nat) (s : State) : s.Answers (execBwWindowEnd dt p s) := by
  simp [execBwWindowEnd]

@[simp] theorem State.publish_keeps (s : State) (p : Nat) : s.Keeps (State.publish s p) := by
  unfold State.publish
  dsimp only
  (repeat' split) <;> simp

@[simp] theorem execBwPeriodEnd_keeps (dt p : Nat) (s : State) : s.Answers (execBwPeriodEnd dt p s) := by
  simp [execBwPeriodEnd]

@[simp] theorem State.cntRead_keeps (s : State) (init o : Nat) : s.Keeps (State.cntRead s init o).2 := by
  unfold State.cntRead
  (repeat' split) <;> simp

@[simp] theorem execCounterLoRead_keeps (init off : Nat) (s : State) : s.Answers (execCounterLoRead init off s) := by
  unfold execCounterLoRead
  dsimp only
  (repeat' split) <;> simp

@[simp] theorem State.ringLost_keeps (s : State) (full : Bool) : s.Keeps (State.ringLost s full) := by
  simp [State.ringLost]

@[simp] theorem State.evClear_keeps (s : State) (init i v : Nat) : s.Keeps (State.evClear s init i v) := by
  simp [State.evClear]

@[simp] theorem execEvStatusClear_keeps (init i v : Nat) (s : State) : s.Answers (execEvStatusClear init i v s) := by
  simp [execEvStatusClear]

@[simp] theorem State.swRaise_keeps (s : State) (init v : Nat) : s.Keeps (State.swRaise s init v) := by
  simp [State.swRaise]

@[simp] theorem execSwevt_keeps (init v : Nat) (s : State) : s.Answers (execSwevt init v s) := by
  simp [execSwevt]

@[simp] theorem State.evPop_keeps (s : State) (nonSecure : Bool) : s.Keeps (State.evPop s nonSecure).2 := by
  unfold State.evPop
  dsimp only
  (repeat' split) <;> simp

@[simp] theorem execEvrecPop_keeps (init : Nat) (nonSecure : Bool) (s : State) : s.Answers (execEvrecPop init nonSecure s) := by
  unfold execEvrecPop
  dsimp only
  (repeat' split) <;> simp

@[simp] theorem cmdTelStatus_keeps : cmdTelStatus.Keeps := by
  simp [cmdTelStatus]

@[simp] theorem execTelStatus_keeps (r : Req) (s : State) : s.Answers (execTelStatus r s) := by
  simp [execTelStatus]

@[simp] theorem cmdTelCounterCfg_keeps : cmdTelCounterCfg.Keeps := by
  simp [cmdTelCounterCfg]

@[simp] theorem execTelCounterCfg_keeps (r : Req) (s : State) : s.Answers (execTelCounterCfg r s) := by
  simp [execTelCounterCfg]

@[simp] theorem cmdTelRead_keeps : cmdTelRead.Keeps := by
  simp [cmdTelRead]

@[simp] theorem execTelRead_keeps (r : Req) (s : State) : s.Answers (execTelRead r s) := by
  simp [execTelRead]

@[simp] theorem cmdTelWindowCfg_keeps : cmdTelWindowCfg.Keeps := by
  simp [cmdTelWindowCfg]

@[simp] theorem execTelWindowCfg_keeps (r : Req) (s : State) : s.Answers (execTelWindowCfg r s) := by
  simp [execTelWindowCfg]

@[simp] theorem State.samplerEn_keeps (s : State) (k : Nat) (was : Bool) : s.Keeps (State.samplerEn s k was) := by
  simp [State.samplerEn]

@[simp] theorem State.ringEn_keeps (s : State) (was : Bool) : s.Keeps (State.ringEn s was) := by
  simp [State.ringEn]

@[simp] theorem cmdTelTallyCfg_keeps : cmdTelTallyCfg.Keeps := by
  simp [cmdTelTallyCfg]

@[simp] theorem execTelTallyCfg_keeps (r : Req) (s : State) : s.Answers (execTelTallyCfg r s) := by
  simp [execTelTallyCfg]

@[simp] theorem cmdTelTallyRead_keeps : cmdTelTallyRead.Keeps := by
  simp [cmdTelTallyRead]

@[simp] theorem execTelTallyRead_keeps (r : Req) (s : State) : s.Answers (execTelTallyRead r s) := by
  simp [execTelTallyRead]

@[simp] theorem cmdTelEventCfg_keeps : cmdTelEventCfg.Keeps := by
  simp [cmdTelEventCfg]

@[simp] theorem execTelEventCfg_keeps (r : Req) (s : State) : s.Answers (execTelEventCfg r s) := by
  simp [execTelEventCfg]

/-! #### Power -/

@[simp] theorem State.setPortPower_keeps (s : State) (p st : Nat) : s.Keeps (State.setPortPower s p st) := by
  simp [State.setPortPower]

@[simp] theorem State.blkLose_keeps (s : State) (e : Nat) : s.Keeps (State.blkLose s e) := by
  simp [State.blkLose]

@[simp] theorem State.reloadFreq_keeps (s : State) (n : Nat) : s.Keeps (State.reloadFreq s n) := by
  simp [State.reloadFreq]

@[simp] theorem State.groveCounters_keeps (s : State) (e : Nat) : s.Keeps (State.groveCounters s e) := by
  simp [State.groveCounters]

@[simp] theorem State.blkTo_keeps (s : State) (e st : Nat) : s.Keeps (State.blkTo s e st) := by
  simp [State.blkTo]

@[simp] theorem State.portTo_keeps (s : State) (p st : Nat) : s.Keeps (State.portTo s p st) := by
  simp [State.portTo]

@[simp] theorem State.setMode_keeps (s : State) (m : Nat) : s.Keeps (State.setMode s m) := by
  simp [State.setMode]

@[simp] theorem State.saveTime_keeps (s : State) : s.Keeps (State.saveTime s) := by
  simp [State.saveTime]

@[simp] theorem execTimeRecordSave_keeps (dt : Nat) (s : State) : s.Answers (execTimeRecordSave dt s) := by
  simp [execTimeRecordSave]

@[simp] theorem execSupplyWarn_keeps (dt rail : Nat) (s : State) : s.Answers (execSupplyWarn dt rail s) := by
  simp [execSupplyWarn]

@[simp] theorem execSupplyReturn_keeps (dt rail : Nat) (s : State) : s.Answers (execSupplyReturn dt rail s) := by
  simp [execSupplyReturn]

@[simp] theorem State.tempSync_keeps (s : State) : s.Keeps (State.tempSync s) := by
  simp [State.tempSync]

@[simp] theorem State.tempJudge_keeps (s : State) (die key ev : Nat) (lim : Nat) :
    s.Keeps (State.tempJudge s die key ev lim) := by
  simp [State.tempJudge]

@[simp] theorem execTempSample_keeps (dt : Nat) (t a b : Int) (s : State) : s.Answers (execTempSample dt t a b s) := by
  simp [execTempSample]

@[simp] theorem State.keeperSync_keeps (s : State) : s.Keeps (State.keeperSync s) := by
  simp [State.keeperSync]

@[simp] theorem cmdPwrStatus_keeps : cmdPwrStatus.Keeps := by
  simp [cmdPwrStatus]

@[simp] theorem execPwrStatus_keeps (r : Req) (s : State) : s.Answers (execPwrStatus r s) := by
  simp [execPwrStatus]

@[simp] theorem cmdPwrState_keeps : cmdPwrState.Keeps := by
  simp [cmdPwrState]

@[simp] theorem execPwrState_keeps (r : Req) (s : State) : s.Answers (execPwrState r s) := by
  simp [execPwrState]

@[simp] theorem cmdPwrMode_keeps : cmdPwrMode.Keeps := by
  intro c s
  simp only [cmdPwrMode]
  (repeat' split) <;> simp

@[simp] theorem execPwrMode_keeps (r : Req) (s : State) : s.Answers (execPwrMode r s) := by
  simp [execPwrMode]

@[simp] theorem State.clearFails_keeps (s : State) : s.Keeps (State.clearFails s) := by
  simp [State.clearFails]

@[simp] theorem cmdPwrReset_keeps : cmdPwrReset.Keeps := by
  simp [cmdPwrReset]

@[simp] theorem execPwrReset_keeps (r : Req) (s : State) : s.Answers (execPwrReset r s) := by
  simp [execPwrReset]

@[simp] theorem cmdPwrStartCfg_keeps : cmdPwrStartCfg.Keeps := by
  simp [cmdPwrStartCfg]

@[simp] theorem execPwrStartCfg_keeps (r : Req) (s : State) : s.Answers (execPwrStartCfg r s) := by
  simp [execPwrStartCfg]

/-! #### TimeTransfer -/

@[simp] theorem State.ptpSet_keeps (s : State) (k : Nat) (c : Option PtpCfg) : s.Keeps (State.ptpSet s k c) := by
  unfold State.ptpSet
  dsimp only
  (repeat' split) <;> simp

@[simp] theorem cmdTimePtpPort_keeps : cmdTimePtpPort.Keeps := by
  simp [cmdTimePtpPort]

@[simp] theorem execTimePtpPort_keeps (r : Req) (s : State) : s.Answers (execTimePtpPort r s) := by
  simp [execTimePtpPort]

@[simp] theorem cmdTimeSessStatus_keeps : cmdTimeSessStatus.Keeps := by
  intro c s
  simp only [cmdTimeSessStatus]
  (repeat' split) <;> simp

@[simp] theorem execTimeSessStatus_keeps (r : Req) (s : State) : s.Answers (execTimeSessStatus r s) := by
  simp [execTimeSessStatus]

@[simp] theorem cmdTimeNpx_keeps : cmdTimeNpx.Keeps := by
  simp [cmdTimeNpx]

@[simp] theorem execTimeNpx_keeps (r : Req) (s : State) : s.Answers (execTimeNpx r s) := by
  simp [execTimeNpx]

@[simp] theorem State.heardAnnounce_keeps (s : State) (k peer cls acc var steps : Nat) :
    s.Keeps (State.heardAnnounce s k peer cls acc var steps) := by
  unfold State.heardAnnounce
  dsimp only
  (repeat' split) <;> simp

@[simp] theorem execAnnounce_keeps (dt p dom peer cls acc var steps : Nat) (s : State) :
    s.Answers (execAnnounce dt p dom peer cls acc var steps s) := by
  have he := s.elapse_keeps dt
  unfold execAnnounce
  generalize s.elapse dt = e at he ⊢
  dsimp only
  (repeat' split) <;> simp [he]

@[simp] theorem State.delayAnswer_keeps (s : State) (k peer port seq : Nat) (c : PtpCfg) (pdelay : Bool) (ago rho : Nat)
    (corr : Int) :
    s.Keeps (State.delayAnswer s k peer port seq c pdelay ago rho corr) := by
  simp [State.delayAnswer]

@[simp] theorem State.heardDelayReq_keeps (s : State) (k peer port seq : Nat) (c : PtpCfg) (pdelay : Bool) (ago rho : Nat)
    (corr : Int) :
    s.Keeps (State.heardDelayReq s k peer port seq c pdelay ago rho corr) := by
  unfold State.heardDelayReq
  dsimp only
  (repeat' split) <;> simp

@[simp] theorem execDelayReq_keeps (dt p dom peer seq : Nat) (pdelay : Bool) (ago rho port : Nat) (corr : Int) (s : State) :
    s.Answers (execDelayReq dt p dom peer seq pdelay ago rho port corr s) := by
  have he := s.elapse_keeps dt
  unfold execDelayReq
  generalize s.elapse dt = e at he ⊢
  dsimp only
  (repeat' split) <;> simp [he]

@[simp] theorem execSessionHoldExpiry_keeps (dt p dom : Nat) (s : State) : s.Answers (execSessionHoldExpiry dt p dom s) := by
  unfold execSessionHoldExpiry
  dsimp only
  (repeat' split) <;> simp

@[simp] theorem State.announceBody_keeps (s : State) (k : Nat) : s.Keeps (State.announceBody s k).2 := by
  simp [State.announceBody]

@[simp] theorem State.ptpMessage_keeps (s : State) (k kind seq flags : Nat) (c : PtpCfg) :
    s.Keeps (State.ptpMessage s k kind seq flags c).2 := by
  unfold State.ptpMessage
  dsimp only
  (repeat' split) <;> simp

@[simp] theorem State.ptpSend_keeps (s : State) (k kind flags : Nat) (c : PtpCfg) : s.Keeps (State.ptpSend s k kind flags c) := by
  simp [State.ptpSend]

@[simp] theorem execPtpMessageSend_keeps (dt p dom kind flags : Nat) (s : State) :
    s.Answers (execPtpMessageSend dt p dom kind flags s) := by
  have he := s.elapse_keeps dt
  unfold execPtpMessageSend
  generalize s.elapse dt = e at he ⊢
  dsimp only
  (repeat' split) <;> simp [he]

@[simp] theorem State.tryTrack_keeps (s : State) (k : Nat) : s.Keeps (State.tryTrack s k) := by
  unfold State.tryTrack
  (repeat' split) <;> simp

@[simp] theorem State.track_keeps (s : State) (k : Nat) : s.Keeps (State.track s k) := by
  unfold State.track
  (repeat' split) <;> simp

@[simp] theorem State.takeTheta_keeps (s : State) (k : Nat) (theta mpd asym : Int) (fine : Bool) :
    s.Keeps (State.takeTheta s k theta mpd asym fine) := by
  unfold State.takeTheta
  dsimp only
  (repeat' split) <;> simp

@[simp] theorem execTwoWayExchange_keeps (dt p dom t1 t2 t3 t4 sq2 sq3 : Nat) (fine2 fine4 : Bool) (s : State) :
    s.Answers (execTwoWayExchange dt p dom t1 t2 t3 t4 sq2 sq3 fine2 fine4 s) := by
  have he := s.elapse_keeps dt
  unfold execTwoWayExchange
  generalize s.elapse dt = e at he ⊢
  dsimp only
  (repeat' split) <;> simp [he]

@[simp] theorem State.takeCap_keeps (s : State) (k version flags node depth rate check : Nat) :
    s.Keeps (State.takeCap s k version flags node depth rate check) := by
  simp [State.takeCap]

@[simp] theorem execCapTlv_keeps (dt p dom org version flags node depth mode rate asymVer check : Nat) (s : State) :
    s.Answers (execCapTlv dt p dom org version flags node depth mode rate asymVer check s) := by
  have he := s.elapse_keeps dt
  unfold execCapTlv
  generalize s.elapse dt = e at he ⊢
  dsimp only
  (repeat' split) <;> simp [he]

@[simp] theorem State.takePhase_keeps (s : State) (k flags : Nat) (rx : PhaseRx) : s.Keeps (State.takePhase s k flags rx) := by
  simp [State.takePhase]

@[simp] theorem execPhaseTlv_keeps (dt p dom org seq flags count : Nat) (last mean : Int) (sec ns : Nat) (s : State) :
    s.Answers (execPhaseTlv dt p dom org seq flags count last mean sec ns s) := by
  have he := s.elapse_keeps dt
  unfold execPhaseTlv
  generalize s.elapse dt = e at he ⊢
  dsimp only
  (repeat' split) <;> simp [he]

@[simp] theorem execProbeTimeout_keeps (dt p dom : Nat) (s : State) : s.Answers (execProbeTimeout dt p dom s) := by
  unfold execProbeTimeout
  dsimp only
  (repeat' split) <;> simp

@[simp] theorem execPhaseTimeout_keeps (dt p dom : Nat) (s : State) : s.Answers (execPhaseTimeout dt p dom s) := by
  unfold execPhaseTimeout
  dsimp only
  (repeat' split) <;> simp

@[simp] theorem execCapSend_keeps (dt p dom : Nat) (s : State) : s.Answers (execCapSend dt p dom s) := by
  unfold execCapSend
  dsimp only
  (repeat' split) <;> simp

@[simp] theorem execPhaseSend_keeps (dt p dom : Nat) (s : State) : s.Answers (execPhaseSend dt p dom s) := by
  unfold execPhaseSend
  dsimp only
  (repeat' split) <;> simp

@[simp] theorem State.readSession_keeps (s : State) (k : Nat) : s.Keeps (State.readSession s k) := by
  simp [State.readSession]

@[simp] theorem State.fpmTake_keeps (s : State) (l code : Nat) : s.Keeps (State.fpmTake s l code) := by
  simp [State.fpmTake]

@[simp] theorem State.fpmServe_keeps (s : State) (l : Nat) : s.Keeps (State.fpmServe s l) := by
  simp [State.fpmServe]

@[simp] theorem execFpmReading_keeps (dt l code : Nat) (s : State) : s.Answers (execFpmReading dt l code s) := by
  unfold execFpmReading
  dsimp only
  (repeat' split) <;> simp

@[simp] theorem execFpmValid_keeps (dt l : Nat) (s : State) : s.Answers (execFpmValid dt l s) := by
  unfold execFpmValid
  dsimp only
  (repeat' split) <;> simp

/-! #### Bus -/

@[simp] theorem State.hwStatus_keeps (s : State) : s.Keeps (State.hwStatus s) := by
  simp [State.hwStatus]

@[simp] theorem State.semSync_keeps (s : State) : s.Keeps (State.semSync s) := by
  simp [State.semSync]

@[simp] theorem State.ctxSync_keeps (s : State) : s.Keeps (State.ctxSync s) := by
  simp [State.ctxSync]

@[simp] theorem State.jtagSync_keeps (s : State) : s.Keeps (State.jtagSync s) := by
  simp [State.jtagSync]

@[simp] theorem State.refresh_keeps (s : State) (r : Reg) (i : Nat) : s.Keeps (State.refresh s r i) := by
  simp [State.refresh]

theorem State.ite_some_keeps {c : Prop} [Decidable c] {s : State} {p : Nat × State} {o : Option (Nat × State)}
    (hp : s.Keeps p.2) (ho : ∀ x ∈ o, s.Keeps x.2) : ∀ x ∈ (if c then some p else o), s.Keeps x.2 := by
  split
  · rintro x ⟨⟩
    exact hp
  · exact ho

theorem State.specialRead_keeps (s : State) (init a : Nat) : ∀ x ∈ s.specialRead init a, s.Keeps x.2 := by
  unfold State.specialRead
  iterate 14 refine State.ite_some_keeps (by simp) ?_
  simp

@[simp] theorem State.readWord_keeps (s : State) (init addr : Nat) : s.Keeps (s.readWord init addr).2 := by
  unfold State.readWord
  dsimp only
  split
  · simp
  split
  next heq => exact s.specialRead_keeps _ _ _ heq
  next => (repeat' split) <;> simp

@[simp] theorem State.busRead_keeps (s : State) (init addr : Nat) : s.Keeps (State.busRead s init addr).2 := by
  unfold State.busRead
  dsimp only
  (repeat' split) <;> simp

@[simp] theorem execLatchedLoRead_keeps (init addr : Nat) (s : State) : s.Answers (execLatchedLoRead init addr s) := by
  simp [execLatchedLoRead]

@[simp] theorem State.clearOnes_keeps (s : State) (r : Reg) (v i j : Nat) : s.Keeps (State.clearOnes s r v i j) := by
  simp [State.clearOnes]

@[simp] theorem State.locks_keeps (s : State) (a b : Nat) : s.Keeps (State.locks s a b) := by
  simp [State.locks]

theorem State.tryCmd_keeps {cmd : Cmd} (h : cmd.Keeps) (s : State) (init : Nat) (args : List Nat) :
    ∀ t ∈ s.tryCmd cmd init args, s.Keeps t := by
  unfold State.tryCmd
  dsimp only
  (repeat' split) <;> simp [h]

@[simp] theorem State.asCmd_keeps {cmd : Cmd} (h : cmd.Keeps) (s : State) (init : Nat) (args : List Nat) :
    s.Keeps (s.asCmd cmd init args) :=
  Option.getD_keeps (s.tryCmd_keeps h init args) (.refl s)

@[simp] theorem ran_keeps {s : State} {o : Host.Outcome State Fault Refusal} (h : s.Answers o) : s.Keeps (ran o s) := by
  obtain ⟨t, rfl, ht⟩ := h
  exact ht

@[simp] theorem State.blockRefuse_keeps (s : State) (init addr : Nat) : s.Keeps (State.blockRefuse s init addr) := by
  simp [State.blockRefuse]

@[simp] theorem plain_keeps : Handler.Keeps plain := fun x s => s.writes_keeps x.ws

@[simp] theorem plainIf_keeps (b : Write → State → Bool) : Handler.Keeps (plainIf b) := by
  simp [plainIf]

theorem laneHandlers_keep : ∀ h ∈ laneHandlers, Handler.Keeps h.2 := by
  simp [laneHandlers]

@[simp] theorem pairHandler_keeps : Handler.Keeps pairHandler := by
  intro x s
  unfold pairHandler
  extract_lets o
  have ho : ∀ t ∈ o, s.Keeps t := by
    dsimp only [o]
    split
    · exact s.tryCmd_keeps cmdTimePair_keeps _ _
    split
    · intro t ht
      obtain ⟨u, hu, rfl⟩ := Option.map_eq_some_iff.mp ht
      exact (s.tryCmd_keeps cmdTimePair_keeps _ _ u hu).trans (u.writes_keeps _)
    · rintro t ⟨⟩
      exact s.writes_keeps _
  clear_value o
  cases o with
  | none => exact .refl s
  | some t =>
    have ht : s.Keeps t := ho t rfl
    dsimp only
    (repeat' split) <;> simp [ht]

@[simp] theorem leapHandler_keeps (hi : Bool) : Handler.Keeps (leapHandler hi) := by
  simp [leapHandler]

@[simp] theorem ppsHandler_keeps (ok : State → Nat → Nat → Bool) : Handler.Keeps (ppsHandler ok) := by
  simp [ppsHandler]

theorem timeHandlers_keep : ∀ h ∈ timeHandlers, Handler.Keeps h.2 := by
  simp [timeHandlers]

theorem State.bind_keeps {s : State} {o : Option State} {k : State → Option State} (ho : ∀ t ∈ o, s.Keeps t)
    (hk : ∀ t : State, ∀ u ∈ k t, t.Keeps u) : ∀ u ∈ o.bind k, s.Keeps u := by
  intro u hu
  obtain ⟨t, ht, htu⟩ := Option.bind_eq_some_iff.mp hu
  exact (ho t ht).trans (hk t u htu)

@[simp] theorem dpllHandler_keeps : Handler.Keeps dpllHandler := by
  intro x s
  unfold dpllHandler
  extract_lets n force fs t0 t1 t2
  have h0 : ∀ u ∈ t0, s.Keeps u := s.tryCmd_keeps cmdRefDpllCfg_keeps _ _
  have h1 : ∀ u ∈ t1, s.Keeps u := by
    dsimp only [t1]
    split
    · exact h0
    · exact State.bind_keeps h0 fun t => t.tryCmd_keeps cmdRefForce_keeps _ _
  have h2 : ∀ u ∈ t2, s.Keeps u := by
    dsimp only [t2]
    split
    · exact h1
    · exact State.bind_keeps h1 fun t => t.tryCmd_keeps cmdRefSwLoop_keeps _ _
  clear_value t2
  cases t2 with
  | none => exact .refl s
  | some t => exact (h2 t rfl).trans (t.set_keeps ..)

theorem refHandlers_keep : ∀ h ∈ refHandlers, Handler.Keeps h.2 := by
  simp [refHandlers]

@[simp] theorem unlessPending_keeps {k : Handler} (h : k.Keeps) (pending : Write → State → Bool) :
    Handler.Keeps (unlessPending pending k) := by
  intro x s
  unfold unlessPending
  split
  · simp
  · exact h x s

theorem synHandlers_keep : ∀ h ∈ synHandlers, Handler.Keeps h.2 := by
  simp [synHandlers]

@[simp] theorem gnFifoHandler_keeps : Handler.Keeps gnFifoHandler := by
  intro x s
  unfold gnFifoHandler
  dsimp only
  (repeat' split) <;> simp

@[simp] theorem etStatHandler_keeps : Handler.Keeps etStatHandler := by
  intro x s
  unfold etStatHandler
  dsimp only
  (repeat' split) <;> simp

theorem gnssHandlers_keep : ∀ h ∈ gnssHandlers, Handler.Keeps h.2 := by
  simp [gnssHandlers]

theorem zip_keeps {as : List Nat} {hs : List Handler} (h : ∀ k ∈ hs, Handler.Keeps k) : ∀ e ∈ as.zip hs, Handler.Keeps e.2 :=
  fun _ he => h _ (List.of_mem_zip he).2

theorem etHandlers_keep : ∀ h ∈ etHandlers, Handler.Keeps h.2 :=
  zip_keeps (by
    intro h hh
    obtain ⟨k, -, rfl⟩ := List.mem_map.mp hh
    exact fun x s => s.asCmd_keeps cmdEvtInputCfg_keeps _ _)

@[simp] theorem tblHandler_keeps : Handler.Keeps tblHandler := by
  intro x s
  unfold tblHandler
  (repeat' split) <;> simp

@[simp] theorem slotHandler_keeps : Handler.Keeps slotHandler := by
  intro x s
  unfold slotHandler
  (repeat' split) <;> simp

@[simp] theorem ctxHandler_keeps : Handler.Keeps ctxHandler := by
  intro x s
  unfold ctxHandler
  (repeat' split) <;> simp

@[simp] theorem bankHandler_keeps : Handler.Keeps bankHandler := by
  intro x s
  unfold bankHandler
  (repeat' split) <;> simp

@[simp] theorem bankCfgHandler_keeps (num : Bool) : Handler.Keeps (bankCfgHandler num) := by
  intro x s
  unfold bankCfgHandler
  (repeat' split) <;> simp

theorem pathHandlers_keep : ∀ h ∈ pathHandlers, Handler.Keeps h.2 := by
  simp [pathHandlers]

@[simp] theorem worldHandler_keeps (fixed : Nat → Bool) (f : Fld) (mine : State → Nat → Bool) :
    Handler.Keeps (worldHandler fixed f mine) := by
  intro x s
  unfold worldHandler
  dsimp only
  (repeat' split) <;> simp

theorem tallyHandlers_keep : ∀ h ∈ tallyHandlers, Handler.Keeps h.2 := by
  simp only [tallyHandlers, List.forall_mem_append, List.forall_mem_singleton]
  refine ⟨⟨zip_keeps fun h hh => ?_, zip_keeps fun h hh => ?_⟩, fun x s => ?_⟩
  · obtain ⟨k, -, rfl⟩ := List.mem_map.mp hh
    exact fun x s => s.asCmd_keeps cmdTelTallyCfg_keeps _ _
  · obtain ⟨k, -, rfl⟩ := List.mem_map.mp hh
    exact fun x s => s.asCmd_keeps cmdTelTallyCfg_keeps _ _
  · dsimp only
    split <;> simp

@[simp] theorem enableHandler_keeps : Handler.Keeps enableHandler := by
  intro x s
  simp [enableHandler]

@[simp] theorem recHandler_keeps : Handler.Keeps recHandler := by
  intro x s
  unfold recHandler
  dsimp only
  (repeat' split) <;> simp

@[simp] theorem m0Handler_keeps : Handler.Keeps m0Handler := by
  intro x s
  unfold m0Handler
  split <;> simp

theorem sysHandlers_keep : ∀ h ∈ sysHandlers, Handler.Keeps h.2 := by
  simp [sysHandlers]

theorem handlers_keep : ∀ h ∈ handlers, Handler.Keeps h.2 := by
  simp only [handlers, List.forall_mem_append, and_assoc]
  exact ⟨laneHandlers_keep, timeHandlers_keep, refHandlers_keep, synHandlers_keep, gnssHandlers_keep, etHandlers_keep,
    pathHandlers_keep, tallyHandlers_keep, sysHandlers_keep⟩

@[simp] theorem State.busWrite_keeps (s : State) (init addr v : Nat) : s.Keeps (s.busWrite init addr v) := by
  unfold State.busWrite
  dsimp only
  split
  · exact State.directWrite_keeps .refl ..
  · refine State.directWrite_keeps (fun t => ?_) ..
    split
    next heq => exact handlers_keep _ (List.mem_of_find?_eq_some heq) _ t
    next => simp

@[simp] theorem execRegisterWrite_keeps (init addr v : Nat) (s : State) : s.Answers (execRegisterWrite init addr v s) := by
  simp [execRegisterWrite]

/-! #### HostIf -/

@[simp] theorem State.resetPf_keeps (s : State) (f : Nat) : s.Keeps (State.resetPf s f) := by
  simp [State.resetPf]

@[simp] theorem State.pcieDown_keeps (s : State) : s.Keeps (State.pcieDown s) := by
  simp [State.pcieDown]

@[simp] theorem execPcieLink_keeps (dt gen width : Nat) (hot : Bool) (s : State) :
    s.Answers (execPcieLink dt gen width hot s) := by
  simp [execPcieLink]

@[simp] theorem execPcieFlr_keeps (dt f : Nat) (s : State) : s.Answers (execPcieFlr dt f s) := by
  simp [execPcieFlr]

@[simp] theorem State.sendPending_keeps (s : State) (f : Nat) : s.Keeps (State.sendPending s f) := by
  simp [State.sendPending]

@[simp] theorem execPcieConfigWrite_keeps (f vmask : Nat) (bme msixEn fmask : Bool) (s : State) :
    s.Answers (execPcieConfigWrite f vmask bme msixEn fmask s) := by
  simp [execPcieConfigWrite]

@[simp] theorem State.portWrite_keeps (s : State) (init addr v : Nat) : s.Keeps (State.portWrite s init addr v).2 := by
  simp [State.portWrite]

@[simp] theorem State.portRead_keeps (s : State) (init addr : Nat) : s.Keeps (State.portRead s init addr).2 := by
  simp [State.portRead]

@[simp] theorem execM0Link_keeps (dt speed : Nat) (up : Bool) (s : State) : s.Answers (execM0Link dt speed up s) := by
  simp [execM0Link]

@[simp] theorem execM0FrameArrival_keeps (dt : Nat) (bytes : List Byte) (s : State) :
    s.Answers (execM0FrameArrival dt bytes s) := by
  simp [execM0FrameArrival]

@[simp] theorem State.readWords_keeps (s : State) (init addr k : Nat) : s.Keeps (s.readWords init addr k).2.2 := by
  induction k generalizing s addr with
  | zero => exact .refl s
  | succ k ih =>
    unfold State.readWords
    split
    next heq => exact .of_snd (s.portRead_keeps _ _) heq
    next heq => exact (Keeps.of_snd (s.portRead_keeps _ _) heq).trans (ih _ _)

@[simp] theorem State.writeWords_keeps (s : State) (init addr : Nat) (ws : List Nat) : s.Keeps (s.writeWords init addr ws).2 := by
  induction ws generalizing s addr with
  | nil => exact .refl s
  | cons w ws ih =>
    unfold State.writeWords
    split
    next heq => exact .of_snd (s.portWrite_keeps _ _ _) heq
    next heq => exact (Keeps.of_snd (s.portWrite_keeps _ _ _) heq).trans (ih _ _)

@[simp] theorem State.m0Answer_keeps (s : State) (f : M0Frame) (count status : Nat) (data : List Nat) :
    s.Keeps (State.m0Answer s f count status data) := by
  simp [State.m0Answer]

@[simp] theorem State.m0Handle_keeps {k : State → M0Frame → State} (h : ∀ (t : State) f, t.Keeps (k t f)) (s : State)
    (write : Bool) : s.Keeps (s.m0Handle write k) := by
  unfold State.m0Handle
  split <;> simp [h]

@[simp] theorem execM0Read_keeps (dt : Nat) (s : State) : s.Answers (execM0Read dt s) := by
  simp [execM0Read]

@[simp] theorem execM0Write_keeps (dt : Nat) (s : State) : s.Answers (execM0Write dt s) := by
  simp [execM0Write]

@[simp] theorem State.i2cAnswer_keeps (s : State) (cmd : Nat) (pre bytes : List Byte) :
    s.Keeps (State.i2cAnswer s cmd pre bytes) := by
  simp [State.i2cAnswer]

@[simp] theorem State.i2cDo_keeps {k : State → State} (h : ∀ t : State, t.Keeps (k t)) (s : State) : s.Answers (s.i2cDo k) := by
  simp [State.i2cDo, h]

@[simp] theorem execI2cStatus_keeps (s : State) : s.Answers (execI2cStatus s) := by
  simp [execI2cStatus]

@[simp] theorem execI2cDevId_keeps (s : State) : s.Answers (execI2cDevId s) := by
  simp [execI2cDevId]

@[simp] theorem execI2cNodeId_keeps (s : State) : s.Answers (execI2cNodeId s) := by
  simp [execI2cNodeId]

@[simp] theorem execI2cModeState_keeps (s : State) : s.Answers (execI2cModeState s) := by
  simp [execI2cModeState]

@[simp] theorem execI2cPwrState_keeps (s : State) : s.Answers (execI2cPwrState s) := by
  simp [execI2cPwrState]

@[simp] theorem execI2cTemp_keeps (s : State) : s.Answers (execI2cTemp s) := by
  simp [execI2cTemp]

@[simp] theorem execI2cTime_keeps (s : State) : s.Answers (execI2cTime s) := by
  simp [execI2cTime]

@[simp] theorem execI2cEvents_keeps (s : State) : s.Answers (execI2cEvents s) := by
  simp [execI2cEvents]

@[simp] theorem State.i2cNack_keeps (s : State) : s.Keeps (State.i2cNack s) := by
  simp [State.i2cNack]

@[simp] theorem State.i2cErr_keeps (s : State) : s.Keeps (State.i2cErr s) := by
  simp [State.i2cErr]

@[simp] theorem State.i2cPec_keeps {s k : State} (h : s.Keeps k) (pec : Bool) : s.Keeps (s.i2cPec pec k) := by
  simp [State.i2cPec, h]

@[simp] theorem State.i2cWrite_keeps (s : State) (off : Nat) (ws : List Nat) : s.Keeps (s.i2cWrite off ws) := by
  induction ws generalizing s off with
  | nil => exact .refl s
  | cons w ws ih =>
    unfold State.i2cWrite
    split
    · split
      next heq => exact (Keeps.of_snd (s.portWrite_keeps _ _ _) heq).trans (ih _ _)
      next heq => exact (Keeps.of_snd (s.portWrite_keeps _ _ _) heq).trans (by simp)
    · simp

@[simp] theorem execI2cMbWrite_keeps (off : Nat) (words : List Nat) (pec : Bool) (s : State) :
    s.Answers (execI2cMbWrite off words pec s) := by
  simp [execI2cMbWrite]

@[simp] theorem State.i2cReads_keeps (s : State) (off k : Nat) : s.Keeps (s.i2cReads off k).2 := by
  induction k generalizing s off with
  | zero => exact .refl s
  | succ k ih =>
    unfold State.i2cReads
    dsimp only
    refine .trans ?_ (ih _ _)
    split <;> split <;> simp

@[simp] theorem execI2cMbRead_keeps (off n : Nat) (s : State) : s.Answers (execI2cMbRead off n s) := by
  simp [execI2cMbRead]

@[simp] theorem execI2cSemWrite_keeps (n cmd lease : Nat) (pec : Bool) (s : State) :
    s.Answers (execI2cSemWrite n cmd lease pec s) := by
  simp [execI2cSemWrite]

@[simp] theorem execI2cSemRead_keeps (n : Nat) (s : State) : s.Answers (execI2cSemRead n s) := by
  simp [execI2cSemRead]

@[simp] theorem execI2cUnknownCommand_keeps (c : Nat) (s : State) : s.Answers (execI2cUnknownCommand c s) := by
  simp [execI2cUnknownCommand]

@[simp] theorem execI2cReset_keeps (dt : Nat) (s : State) : s.Answers (execI2cReset dt s) := by
  simp [execI2cReset]

@[simp] theorem execUartByte_keeps (dt b : Nat) (s : State) : s.Answers (execUartByte dt b s) := by
  simp [execUartByte]

@[simp] theorem State.console_keeps (s : State) (b : List Byte → Bool) (answer : String) :
    s.Keeps (State.console s b answer) := by
  unfold State.console
  (repeat' split) <;> simp

@[simp] theorem execUartStatus_keeps (dt : Nat) (s : State) : s.Answers (execUartStatus dt s) := by
  simp [execUartStatus]

@[simp] theorem execUartTemp_keeps (dt : Nat) (s : State) : s.Answers (execUartTemp dt s) := by
  simp [execUartTemp]

@[simp] theorem execUartVer_keeps (dt : Nat) (s : State) : s.Answers (execUartVer dt s) := by
  simp [execUartVer]

@[simp] theorem execUartHelp_keeps (dt : Nat) (s : State) : s.Answers (execUartHelp dt s) := by
  simp [execUartHelp]

@[simp] theorem execUartUnknownLine_keeps (dt : Nat) (s : State) : s.Answers (execUartUnknownLine dt s) := by
  simp [execUartUnknownLine]

@[simp] theorem State.selectIr_keeps (s : State) (ir : Nat) : s.Keeps (State.selectIr s ir) := by
  simp [State.selectIr]

@[simp] theorem State.shiftBypass_keeps (s : State) (bit : Nat) : s.Keeps (State.shiftBypass s bit) := by
  simp [State.shiftBypass]

@[simp] theorem State.jtag_keeps {k : State → State} (h : ∀ t : State, t.Keeps (k t)) (s : State) : s.Answers (s.jtag k) := by
  simp [State.jtag, h]

@[simp] theorem execTapReset_keeps (s : State) : s.Answers (execTapReset s) := by
  simp [execTapReset]

@[simp] theorem execJtagBypass_keeps (code bit : Nat) (s : State) : s.Answers (execJtagBypass code bit s) := by
  simp [execJtagBypass]

@[simp] theorem execJtagIdcode_keeps (s : State) : s.Answers (execJtagIdcode s) := by
  simp [execJtagIdcode]

@[simp] theorem State.scanPins_keeps (s : State) (v : Nat) : s.Keeps (State.scanPins s v) := by
  simp [State.scanPins]

@[simp] theorem execJtagSamplePreload_keeps (v : Nat) (s : State) : s.Answers (execJtagSamplePreload v s) := by
  simp [execJtagSamplePreload]

@[simp] theorem execJtagExtest_keeps (v : Nat) (s : State) : s.Answers (execJtagExtest v s) := by
  simp [execJtagExtest]

@[simp] theorem execJtagClamp_keeps (v : Nat) (s : State) : s.Answers (execJtagClamp v s) := by
  simp [execJtagClamp]

@[simp] theorem execJtagHighz_keeps (v : Nat) (s : State) : s.Answers (execJtagHighz v s) := by
  simp [execJtagHighz]

@[simp] theorem execDbgRead_keeps (addr : Nat) (s : State) : s.Answers (execDbgRead addr s) := by
  simp [execDbgRead]

@[simp] theorem execDbgWrite_keeps (addr v : Nat) (s : State) : s.Answers (execDbgWrite addr v s) := by
  simp [execDbgWrite]

@[simp] theorem State.unlockFails_keeps (s : State) : s.Keeps (State.unlockFails s) := by
  simp [State.unlockFails]

@[simp] theorem execDbgUnlock_keeps (key sr ss : Nat) (s : State) : s.Answers (execDbgUnlock key sr ss s) := by
  simp [execDbgUnlock]

/-! #### Start -/

@[simp] theorem State.copyFields_keeps (s : State) (o : State) (l : List (Fld × Nat)) : s.Keeps (State.copyFields s o l) := by
  simp [State.copyFields]

@[simp] theorem State.countFail_keeps (s : State) (step : Nat) : s.Keeps (State.countFail s step) := by
  simp [State.countFail]

@[simp] theorem State.haltStart_keeps (s : State) : s.Keeps (State.haltStart s) := by
  simp [State.haltStart]

@[simp] theorem State.failEntry_keeps (s : State) : s.Keeps (State.failEntry s) := by
  simp [State.failEntry]

@[simp] theorem State.failStart_keeps (s : State) (step : Nat) : s.Keeps (State.failStart s step) := by
  simp [State.failStart]

@[simp] theorem State.enterS1_keeps (s : State) : s.Keeps (State.enterS1 s) := by
  unfold State.enterS1
  (repeat' split) <;> simp

@[simp] theorem State.stepOut_keeps (s : State) (k result : Nat) : s.Keeps (State.stepOut s k result) := by
  simp [State.stepOut]

@[simp] theorem State.stopped_keeps (s : State) : s.Keeps (State.stopped s) := by
  simp [State.stopped]

@[simp] theorem State.passStep_keeps (s : State) (k : Nat) : s.Keeps (State.passStep s k) := by
  simp [State.passStep]

@[simp] theorem State.failStep_keeps (s : State) (k : Nat) : s.Keeps (State.failStep s k) := by
  simp [State.failStep]

@[simp] theorem State.loadRecords_keeps (s : State) : s.Keeps s.loadRecords.1 := by
  have htrim (t : State) : t.Keeps { t.loadTrim with pw := { t.loadTrim.pw with trim := true } } := by simp
  simp only [State.loadRecords, apply_ite Prod.fst]
  exact State.keeps_ite (s.nvScan_keeps.trans (htrim _)) s.nvScan_keeps

@[simp] theorem State.chooseSlot_keeps (s : State) : s.Keeps (State.chooseSlot s).1 := by
  unfold State.chooseSlot
  dsimp only
  (repeat' split) <;> simp

@[simp] theorem State.fellBack_keeps (s : State) (slot : Nat) : s.Keeps (State.fellBack s slot) := by
  simp [State.fellBack]

@[simp] theorem State.takeImage_keeps (s : State) : s.Keeps (State.takeImage s).1 := by
  unfold State.takeImage
  dsimp only
  (repeat' split) <;> simp

@[simp] theorem State.openTraining_keeps (s : State) : s.Keeps (State.openTraining s) := by
  simp [State.openTraining]

@[simp] theorem State.resumeTb_keeps (s : State) (n el : Nat) (u : UsTb) : s.Keeps (s.resumeTb n el u) := by
  unfold State.resumeTb
  extract_lets t t' t'' t3 e0
  have ht : s.Keeps t := (State.set_keeps ..).trans (State.set_keeps ..)
  clear_value t
  have ht' : t.Keeps t' := State.foldl_keeps (fun (v : State) k => by simp) _ t
  clear_value t'
  have ht'' : t'.Keeps t'' := (State.takeFreq_keeps ..).trans (State.tbUpd_keeps ..)
  clear_value t''
  have ht3 : t''.Keeps t3 := State.keeps_ite (t''.set_keeps ..) (.refl t'')
  clear_value t3
  exact ((ht.trans ht').trans ht'').trans (ht3.trans (t3.dpllUpd_keeps ..))

@[simp] theorem State.resumeOcxo_keeps (s : State) : s.Keeps (State.resumeOcxo s) := by
  unfold State.resumeOcxo
  (repeat' split) <;> simp

@[simp] theorem State.resumeTime_keeps (s : State) : s.Keeps s.resumeTime := by
  unfold State.resumeTime
  split
  · exact .refl s
  · exact s.resumeOcxo_keeps.trans (State.foldl_keeps (fun t n => by (repeat' split) <;> simp) _ _)

@[simp] theorem State.measureDelays_keeps (s : State) (vs : List Int) : s.Keeps (State.measureDelays s vs) := by
  simp [State.measureDelays]

@[simp] theorem State.resumeDelays_keeps (s : State) : s.Keeps (State.resumeDelays s) := by
  unfold State.resumeDelays
  (repeat' split) <;> simp

@[simp] theorem State.reinstate_keeps (s : State) : s.Keeps (State.reinstate s) := by
  unfold State.reinstate
  (repeat' split) <;> simp

@[simp] theorem State.placeAgain_keeps (s : State) : s.Keeps (State.placeAgain s) := by
  simp [State.placeAgain]

@[simp] theorem State.checkCfg_keeps (s : State) : s.Keeps (State.checkCfg s).1 := by
  unfold State.checkCfg
  (repeat' split) <;> simp

@[simp] theorem execStartStepTimeout_keeps (dt : Nat) (s : State) : s.Answers (execStartStepTimeout dt s) := by
  simp [execStartStepTimeout]

@[simp] theorem State.lostRx_keeps (s : State) (die : Nat) (r : Rx) : s.Keeps (State.lostRx s die r) := by
  simp [State.lostRx]

@[simp] theorem State.loseCells_keeps (s : State) (die : Nat) : s.Keeps (s.loseCells die) := by
  unfold State.loseCells
  extract_lets mine
  refine State.foldl_keeps (fun (t : State) p => ?_) _ s
  extract_lets sending u v
  have hu : t.Keeps u := State.keeps_ite (t.abandon_keeps p) (.refl t)
  have hv : u.Keeps v := by
    clear_value u
    dsimp only [v]
    split
    next r _ =>
      have hlost : u.Keeps (if (r.cells.any fun c => c.bank / 32 == die) && r.drop.isNone then u.lostRx die r else u) :=
        State.keeps_ite (u.lostRx_keeps ..) (.refl u)
      generalize (if (r.cells.any fun c => c.bank / 32 == die) && r.drop.isNone then u.lostRx die r else u) = w at hlost ⊢
      refine hlost.trans ?_
      split
      · simp
      split
      · simp
      · exact .refl _
    · exact .refl u
  exact (hu.trans hv).trans (State.foldl_keeps (fun (w : State) c => w.dropWhere_keeps ..) _ v)

@[simp] theorem State.resetDieRegs_keeps (s : State) (die : Nat) : s.Keeps (State.resetDieRegs s die) := by
  simp [State.resetDieRegs]

@[simp] theorem State.restorePort_keeps (s : State) (p : Nat) : s.Keeps (State.restorePort s p) := by
  simp [State.restorePort]

@[simp] theorem State.resetDieState_keeps (s : State) (die : Nat) : s.Keeps (State.resetDieState s die) := by
  simp [State.resetDieState]

@[simp] theorem State.resetDieLanes_keeps (s : State) (die : Nat) : s.Keeps (State.resetDieLanes s die) := by
  simp [State.resetDieLanes]

@[simp] theorem State.resetDie_keeps (s : State) (die : Nat) : s.Keeps (State.resetDie s die) := by
  simp [State.resetDie]

@[simp] theorem execDieReset_keeps (dt : Nat) (s : State) : s.Answers (execDieReset dt s) := by
  unfold execDieReset
  dsimp only
  (repeat' split) <;> simp

/-! #### Every command -/

theorem exec_keeps (c : Instr) (s : State) (h : mayStore c = false) : s.Answers (exec c s) := by
  cases c <;> simp [mayStore, exec] at h ⊢

/-- The queue is as it was, and memories in canonical form stay in it. -/
def State.Sound (s t : State) : Prop := t.pending = s.pending ∧ (s.memOk = true → t.memOk = true)

theorem State.memOk_iff (s : State) :
    s.memOk = true ↔ Memory.wf flashBlank s.flash = true ∧ Memory.wf csramBlank s.csram = true :=
  Bool.and_eq_true_iff

theorem State.Keeps.sound {s t : State} (h : s.Keeps t) : s.Sound t := by
  obtain ⟨hp, hf, hc⟩ := h
  refine ⟨hp, ?_⟩
  rw [State.memOk_iff, State.memOk_iff, hf, hc]
  exact id

theorem State.Sound.refl (s : State) : s.Sound s := ⟨rfl, id⟩

theorem State.Sound.trans {s t u : State} (h : s.Sound t) (g : t.Sound u) : s.Sound u :=
  ⟨g.1.trans h.1, g.2 ∘ h.2⟩

theorem State.Sound.keeps {s t u : State} (h : s.Sound t) (g : t.Keeps u) : s.Sound u := h.trans g.sound

theorem State.Keeps.then {s t u : State} (h : s.Keeps t) (g : t.Sound u) : s.Sound u := h.sound.trans g

theorem State.sound_ite {c : Prop} [Decidable c] {s a b : State} (ha : s.Sound a) (hb : s.Sound b) :
    s.Sound (if c then a else b) := by
  split
  · exact ha
  · exact hb

theorem State.Sound.of_csram {s t : State} (hp : t.pending = s.pending) (hf : t.flash = s.flash)
    (hc : Memory.wf csramBlank s.csram = true → Memory.wf csramBlank t.csram = true) : s.Sound t := by
  refine ⟨hp, ?_⟩
  rw [State.memOk_iff, State.memOk_iff, hf]
  exact And.imp_right hc

theorem State.Sound.of_flash {s t : State} (hp : t.pending = s.pending) (hc : t.csram = s.csram)
    (hf : Memory.wf flashBlank s.flash = true → Memory.wf flashBlank t.flash = true) : s.Sound t := by
  refine ⟨hp, ?_⟩
  rw [State.memOk_iff, State.memOk_iff, hc]
  exact And.imp_left hf

/-! The Tally. -/

theorem State.ringPut_sound (s : State) (bytes : List Byte) : s.Sound (s.ringPut bytes) := by
  unfold State.ringPut
  extract_lets wp a b base t u v
  have ht : s.Keeps t := s.set_keeps ..
  refine ht.then (State.sound_ite ?_ ?_)
  · have hv : t.Keeps v := (t.emit_keeps _).trans (State.keeps_ite (.refl u) (u.emit_keeps _))
    exact (hv.trans (v.emit_keeps _)).sound
  · exact .of_csram rfl rfl fun h => Memory.wf_writeBytes _ _ _ _ (Memory.wf_writeBytes _ _ _ _ h)

theorem State.ringRecord_sound (s : State) (c : Capture) : s.Sound (s.ringRecord c) := by
  unfold State.ringRecord
  extract_lets bytes fill thr t
  have ht : s.Sound t := s.ringPut_sound bytes
  exact State.sound_ite (s.ringLost_keeps _).sound <| State.sound_ite (s.ringLost_keeps _).sound <|
    State.sound_ite (s.ringLost_keeps _).sound <| State.sound_ite (ht.keeps (t.raise_keeps ..)) ht

theorem State.tallyRecord_sound (s : State) (c : Capture) : s.Sound (s.tallyRecord c) := by
  have ht := s.ringRecord_sound c
  unfold State.tallyRecord
  generalize s.ringRecord c = t at ht ⊢
  refine ht.keeps ?_
  dsimp only
  split
  · exact .refl t
  split
  · simp
  · exact .refl t

theorem execTallyDma_sounds (dt : Nat) (s : State) : ∃ t, execTallyDma dt s = .next t ∧ s.Sound t := by
  have he := s.elapse_keeps dt
  unfold execTallyDma
  generalize s.elapse dt = e at he ⊢
  refine ⟨_, rfl, he.then ?_⟩
  split
  · exact .refl e
  next c rest _ =>
    have hw : e.Keeps { e with tally := { e.tally with waiting := rest } } := ⟨rfl, rfl, rfl⟩
    exact hw.then (State.tallyRecord_sound _ _)

theorem Memory.wf_filter (d : Byte) (p : Host.Cell → Bool) (m : Memory) (hm : Memory.wf d m = true) :
    Memory.wf d (m.filter p) = true := by
  cases m with
  | nil => rfl
  | cons c r =>
    obtain ⟨j, w⟩ := c
    simp only [Memory.wf, Bool.and_eq_true] at hm
    obtain ⟨hw, hr⟩ := hm
    have hrest := Memory.above_filter d p r j hr
    rw [List.filter_cons]
    split
    · simp only [Memory.wf, hw, hrest, Bool.and_self]
    · exact Memory.wf_of_above d _ _ hrest

/-! Firmware and images. -/

theorem State.loadFw_sound (s : State) (slot : Nat) : s.Sound (s.loadFw slot) := by
  unfold State.loadFw
  split
  · exact .refl s
  extract_lets p m m' m'' t us
  have ht : s.Sound t := .of_csram rfl rfl fun h =>
    Memory.wf_writeBytes _ _ _ _ (Memory.wf_writeBytes _ _ _ _ (Memory.wf_filter _ _ _ h))
  clear_value t
  exact (ht.keeps (t := t) (u := { t with us := us }) ⟨rfl, rfl, rfl⟩).keeps (State.runsSlot_keeps _ _)

theorem State.bootFw_sound (s : State) : s.Sound s.bootFw.1 := by
  have hc := s.chooseSlot_keeps
  unfold State.bootFw
  generalize s.chooseSlot = q at hc ⊢
  obtain ⟨t, slot, trial, gaveUp⟩ := q
  dsimp only at hc ⊢
  have hnote (u : State) : u.Keeps (if gaveUp then u.fellBack slot else u.setB R.BOOT_STAT_TRIAL_RUN trial) :=
    State.keeps_ite (u.fellBack_keeps slot) (u.setB_keeps ..)
  refine hc.then ?_
  split
  · exact (((t.runsSlot_keeps slot).trans (State.set_keeps ..)).trans (hnote _)).sound
  split
  · exact (t.loadFw_sound slot).keeps (hnote _)
  split
  · exact (t.loadFw_sound _).keeps (State.fellBack_keeps _ _)
  · exact .refl t

/-- A command that never leaves the canonical form. -/
def Cmd.Sound (cmd : Cmd) : Prop := ∀ c (s : State), s.Sound (cmd.body c s).st

theorem Cmd.Keeps.sound {cmd : Cmd} (h : cmd.Keeps) : cmd.Sound := fun c s => State.Keeps.sound (h c s)

theorem cmdNvmErase_sound : cmdNvmErase.Sound := by
  intro c s
  unfold cmdNvmErase
  simp only [need_res, done_st]
  exact State.sound_ite (State.sound_ite (.of_flash rfl rfl fun h => Memory.wf_erase _ _ _ _ h) (.refl s)) (.refl s)

theorem cmdNvmWrite_sound : cmdNvmWrite.Sound := by
  intro c s
  unfold cmdNvmWrite
  simp only [need_res]
  refine State.sound_ite (State.sound_ite ?_ (.refl s)) (.refl s)
  split <;> exact .of_flash rfl rfl fun h => Memory.wf_writeBytes _ _ _ _ h

theorem imageCmds_sound : ∀ c ∈ imageCmds, c.Sound := by
  have hsys : ∀ c ∈ sysCmds, c.Keeps := by simp [sysCmds]
  have hnvm : ∀ c ∈ nvmCmds, c.Sound := by
    simp only [nvmCmds, List.forall_mem_cons, List.not_mem_nil, false_implies, implies_true, and_true]
    exact ⟨Cmd.Keeps.sound cmdNvmStatus_keeps, Cmd.Keeps.sound cmdNvmRead_keeps, cmdNvmErase_sound, cmdNvmWrite_sound,
      Cmd.Keeps.sound cmdNvmVerify_keeps⟩
  have hpwr : ∀ c ∈ pwrCmds, c.Keeps := by simp [pwrCmds]
  have htime : ∀ c ∈ timeCmds, c.Keeps := by simp [timeCmds]
  have href : ∀ c ∈ refCmds, c.Keeps := by simp [refCmds]
  have hsyn : ∀ c ∈ synCmds, c.Keeps := by simp [synCmds]
  have hgnss : ∀ c ∈ gnssCmds, c.Keeps := by simp [gnssCmds]
  have hevt : ∀ c ∈ evtCmds, c.Keeps := by simp [evtCmds]
  have hlane : ∀ c ∈ laneCmds, c.Keeps := by simp [laneCmds]
  have hport : ∀ c ∈ portCmds, c.Keeps := by simp [portCmds]
  have hfwd : ∀ c ∈ fwdCmds, c.Keeps := by simp [fwdCmds]
  have hsched : ∀ c ∈ schedCmds, c.Keeps := by simp [schedCmds]
  have hflow : ∀ c ∈ flowCmds, c.Keeps := by simp [flowCmds]
  have hred : ∀ c ∈ redCmds, c.Keeps := by simp [redCmds]
  have hsec : ∀ c ∈ secCmds, c.Keeps := by simp [secCmds]
  have htel : ∀ c ∈ telCmds, c.Keeps := by simp [telCmds]
  have hcal : ∀ c ∈ calCmds, c.Keeps := by simp [calCmds]
  have hmem {l : List Cmd} (h : ∀ c ∈ l, c.Keeps) : ∀ c ∈ l, c.Sound := fun c hc => Cmd.Keeps.sound (h c hc)
  simp only [imageCmds, List.forall_mem_append, and_assoc]
  exact ⟨hmem hsys, hnvm, hmem hpwr, hmem htime, hmem href, hmem hsyn, hmem hgnss, hmem hevt, hmem hlane, hmem hport,
    hmem hfwd, hmem hsched, hmem hflow, hmem hred, hmem hsec, hmem htel, hmem hcal⟩

theorem imageCmd_sound {op : Nat} {cmd : Cmd} (h : imageCmd op = some cmd) : cmd.Sound :=
  imageCmds_sound cmd (List.mem_of_find?_eq_some h)

theorem State.runCmd_sound {cmd : Cmd} (h : cmd.Sound) (s : State) (c : Ctx) : s.Sound (s.runCmd cmd c).st := by
  have hb := h c s
  unfold State.runCmd
  generalize cmd.body c s = r at hb ⊢
  simp only [Res.ite_st, fail_st]
  refine State.sound_ite (State.violation_keeps ..).sound <| State.sound_ite (.refl s) <| State.sound_ite (.refl s) <|
    State.sound_ite (.refl s) ?_
  split
  · exact hb.keeps (State.settleCfg_keeps _)
  · exact hb.keeps (State.violation_keeps ..)
  · exact hb.keeps (State.violation_keeps ..)
  · exact hb

theorem State.imgRequest_sound (s : State) (mb : Nat) (e : List Nat) : s.Sound (s.imgRequest mb e).1 := by
  unfold State.imgRequest
  extract_lets ctl t
  have ht : s.Keeps t := ⟨rfl, rfl, rfl⟩
  clear_value t
  refine ht.then ?_
  split
  · exact .refl t
  next cmd hc =>
    have hr := t.runCmd_sound (imageCmd_sound hc)
      { mb := some mb, init := 0, secure := true, args := (e.drop 1).take (bits (e.headD 0) 21 16) }
    dsimp only
    split
    · exact hr
    · exact hr

theorem State.imgSteps_sound (s : State) (mb : Nat) (r : ImgRun) (n : Nat) : s.Sound (s.imgSteps mb r n).1 := by
  induction n generalizing s r with
  | zero => exact .refl s
  | succ n ih =>
    unfold State.imgSteps
    split
    · exact .refl s
    next e rest _ =>
      have hq := s.imgRequest_sound mb e
      extract_lets r'
      generalize s.imgRequest mb e = q at hq ⊢
      obtain ⟨t, _ | x⟩ := q
      · exact hq
      · cases x with
        | ok => exact hq.trans (ih _ _)
        | _ => exact hq

theorem State.imgGo_sound (s : State) (mb : Nat) (r : ImgRun) : s.Sound (s.imgGo mb r).1 := by
  unfold State.imgGo
  split
  · split
    · exact .refl s
    · exact s.imgSteps_sound _ _ _
    · exact .refl s
  · exact s.imgSteps_sound _ _ _

theorem State.loadGo_sound (s : State) (mb : Nat) (r : ImgRun) : s.Sound (s.loadGo mb r) := by
  have hq := s.imgGo_sound 17 r
  unfold State.loadGo
  generalize s.imgGo 17 r = q at hq ⊢
  obtain ⟨t, r', _ | st⟩ := q
  · exact hq.keeps ⟨rfl, rfl, rfl⟩
  · have ht : t.Keeps { t with ctl := { t.ctl with load := none } } := ⟨rfl, rfl, rfl⟩
    exact hq.keeps (ht.trans (State.keeps_ite (State.respond_keeps ..) (State.respond_keeps ..)))

theorem cmdSysCfgLoad_sound : cmdSysCfgLoad.Sound := by
  intro c s
  unfold cmdSysCfgLoad
  simp only [need_res]
  refine State.sound_ite ?_ (.refl s)
  split
  · exact .refl s
  · exact State.Keeps.then ⟨rfl, rfl, rfl⟩ (State.loadGo_sound ..)

theorem cmdOf_sound {op : Nat} : ∀ cmd ∈ cmdOf op, cmd.Sound := by
  intro cmd h
  unfold cmdOf at h
  split at h
  · cases h
    exact cmdSysCfgLoad_sound
  · exact imageCmd_sound h

theorem State.carryOut_sound {cmd : Option Cmd} (h : ∀ c ∈ cmd, c.Sound) (s : State) (mb : Nat) : s.Sound (s.carryOut mb cmd) := by
  cases cmd with
  | none => exact (s.respond_keeps ..).sound
  | some cmd =>
    have hr := s.runCmd_sound (h cmd rfl)
      { mb := some mb, init := Tab.get 4 s.ctl.ringer mb, secure := decide (mb < 8), args := s.reqArgs mb }
    exact State.sound_ite hr (hr.keeps (State.respond_keeps ..))

theorem State.takeMb_sound {cmd : Option Cmd} (h : ∀ c ∈ cmd, c.Sound) (s : State) (mb : Nat) : s.Sound (s.takeMb mb cmd) := by
  refine (s.holdMb_keeps mb).then ?_
  exact State.sound_ite
    (State.sound_ite ((State.setTaken_keeps ..).then (State.carryOut_sound h _ _))
      (State.sound_ite (State.Keeps.sound ⟨rfl, rfl, rfl⟩) (.refl _)))
    (State.carryOut_sound h _ _)

theorem State.exchange_sound {cmd : Option Cmd} (h : ∀ c ∈ cmd, c.Sound) (s : State) (op : Nat) (r : Req) :
    s.Sound (s.exchange cmd op r) := by
  unfold State.exchange
  refine State.sound_ite (State.Keeps.sound ?_) <| State.sound_ite (State.Keeps.sound ?_) <|
    State.sound_ite (State.Keeps.sound ?_) ?_
  · simp
  · simp
  · simp
  · exact (s.rung_keeps op r).then (State.sound_ite (State.takeMb_sound h _ _) (.refl _))

theorem State.takeNext_sound (s : State) (core : Nat) : s.Sound (s.takeNext core) := by
  unfold State.takeNext
  refine State.sound_ite (.refl s) ?_
  split
  next x _ =>
    refine State.sound_ite (s.takeMb_sound cmdOf_sound _) <| State.sound_ite (s.carryOut_sound cmdOf_sound _) <|
      State.sound_ite ?_ (.refl s)
    split
    · exact s.loadGo_sound _ _
    · exact .refl s
  next =>
    split
    · exact s.takeMb_sound cmdOf_sound _
    · exact .refl s

/-! The start. -/

theorem State.runEntries_sound (s : State) (k : Nat) : s.Sound (s.runEntries k).1 :=
  (s.imgGo_sound 16 _).keeps ⟨rfl, rfl, rfl⟩

theorem State.runStep_sound {begin_ : State → State × Bool} {finish : State → State × Option Bool}
    (hb : ∀ t : State, t.Sound (begin_ t).1) (hf : ∀ t : State, t.Keeps (finish t).1) (s : State) (k : Nat) :
    s.Sound (s.runStep k begin_ finish) := by
  unfold State.runStep
  extract_lets pw b
  have hb : s.Sound b.1 := by
    dsimp only [b]
    split
    · exact .refl s
    · exact State.Keeps.then ⟨rfl, rfl, rfl⟩ (hb _)
  clear_value b
  refine State.sound_ite (.refl s) <| State.sound_ite (s.failStep_keeps k).sound <|
    State.sound_ite (hb.keeps (State.failStep_keeps _ _)) (hb.trans ?_)
  have hr := b.1.runEntries_sound k
  generalize b.1.runEntries k = q at hr ⊢
  obtain ⟨t, _ | _ | _⟩ := q
  · exact hr
  · exact hr.keeps (t.failStep_keeps k)
  · have hu := hf t
    dsimp only
    generalize finish t = p at hu ⊢
    obtain ⟨u, _ | _ | _⟩ := p
    · exact hr.keeps hu
    · exact (hr.keeps hu).keeps (u.failStep_keeps k)
    · exact (hr.keeps hu).keeps (u.passStep_keeps k)

theorem State.fresh_sound (s : State) (live : Bool) : s.Sound (s.fresh live) := by
  unfold State.fresh
  extract_lets model us pw fo t0 t t' t''
  have ht : s.Sound t := .of_csram rfl rfl fun h => by
    dsimp only [t]
    split
    · exact h
    · rfl
  clear_value t
  have ht' : t.Keeps t' := t.copyFields_keeps _ _
  have ht'' : t'.Keeps t'' := State.keeps_ite (t'.copyFields_keeps _ _) (.refl t')
  clear_value t''
  exact ((ht.keeps ht').keeps ht'').keeps ((t''.bootSync_keeps.trans (State.nvSync_keeps _)).trans (State.set_keeps ..))

theorem State.beginStart_sound (s : State) (live cold clr : Bool) : s.Sound (s.beginStart live cold clr) := by
  unfold State.beginStart
  extract_lets cut s' kind t warm us t' t''
  have hs : s.Keeps s' := State.keeps_ite (s.countFail_keeps _) (.refl s)
  have ht : s'.Sound t := s'.fresh_sound live
  clear_value t
  have ht' : t.Keeps t' := ⟨rfl, rfl, rfl⟩
  clear_value t'
  have ht'' : t'.Keeps t'' := t'.setB_keeps ..
  clear_value t''
  refine hs.then (((ht.keeps ht').keeps ht'').keeps (State.keeps_ite ?_ ?_))
  · exact t''.haltStart_keeps.trans (State.failEntry_keeps _)
  · exact .trans (State.keeps_ite (.refl t'') ((State.raise_keeps ..).trans (State.tell_keeps ..))) (State.enterS1_keeps _)

theorem State.wakeUp_sound (s : State) (source : Nat) : s.Sound (s.wakeUp source) := by
  unfold State.wakeUp
  extract_lets t us
  have ht : s.Keeps t := (s.set_keeps ..).trans (State.set_keeps ..)
  clear_value t
  have hu : t.Keeps { t with us := us } := ⟨rfl, rfl, rfl⟩
  exact (ht.trans hu).then (State.beginStart_sound ..)

theorem State.diesOff_sound (s : State) : s.Sound s.diesOff :=
  (s.fresh_sound false).keeps ((State.haltStart_keeps _).trans (State.set_keeps ..))

/-- A row answers a next state that is sound. -/
def State.Sounds (s : State) (o : Host.Outcome State Fault Refusal) : Prop := ∃ t, o = .next t ∧ s.Sound t

theorem State.sounds_next {s t : State} : s.Sounds (.next t) ↔ s.Sound t := by
  simp [State.Sounds]

theorem State.Answers.sounds {s : State} {o : Host.Outcome State Fault Refusal} (h : s.Answers o) : s.Sounds o := by
  obtain ⟨t, ho, ht⟩ := h
  exact ⟨t, ho, ht.sound⟩

theorem State.runStep_sounds {begin_ : State → State × Bool} {finish : State → State × Option Bool}
    (hb : ∀ t : State, t.Sound (begin_ t).1) (hf : ∀ t : State, t.Keeps (finish t).1) (s : State) (dt k : Nat) :
    s.Sounds (.next ((s.elapse dt).runStep k begin_ finish)) :=
  State.sounds_next.mpr ((s.elapse_keeps dt).then (State.runStep_sound hb hf _ k))

theorem always_sound {f : State → State} (hf : ∀ t : State, t.Keeps (f t)) (t : State) : t.Sound (always f t).1 := (hf t).sound

theorem atOnce_keeps (t : State) : t.Keeps (atOnce t).1 := .refl t

theorem execFirmware_sounds (dt : Nat) (s : State) : s.Sounds (execFirmware dt s) := by
  refine State.runStep_sounds (fun t => ?_) (fun t => ?_) s dt 4
  · have hb := t.bootFw_sound
    generalize t.bootFw = q at hb ⊢
    obtain ⟨u, _ | _⟩ := q
    · exact hb
    · exact hb.keeps u.takeImage_keeps
  · simp

theorem State.railsGood_keeps (s : State) (l : List Nat) :
    s.Keeps (((List.range 4).foldl (fun s a => s.set R.SY_APLLa_STAT_REF_OK 1 a) s).trainLinks l) :=
  .trans (State.foldl_keeps (fun (u : State) _ => u.set_keeps ..) _ s) (State.trainLinks_keeps _ _)

theorem execPowerSequencing_sounds (dt : Nat) (ok : Bool) (s : State) : s.Sounds (execPowerSequencing dt ok s) := by
  have he := (s.elapse_keeps dt).trans (State.enterS1_keeps _)
  refine State.sounds_next.mpr (he.then (State.runStep_sound (fun t => ?_) atOnce_keeps _ 1))
  cases ok with
  | true => exact (t.railsGood_keeps [0, 1, 2]).sound
  | false => exact .refl t

theorem execTrimLoad_sounds (dt : Nat) (ok : Bool) (s : State) : s.Sounds (execTrimLoad dt ok s) := by
  refine State.runStep_sounds (fun t => ?_) (fun t => ⟨rfl, rfl, rfl⟩) s dt 2
  split
  · exact .refl t
  split
  · exact t.loadRecords_keeps.sound
  · exact .refl t

theorem execBist_sounds (dt : Nat) (ok : Bool) (s : State) : s.Sounds (execBist dt ok s) :=
  State.runStep_sounds (fun t => .refl t) atOnce_keeps s dt 3

theorem execTimebases_sounds (dt : Nat) (s : State) : s.Sounds (execTimebases dt s) :=
  State.runStep_sounds (always_sound fun t => State.keeps_ite t.resumeTime_keeps (.refl t)) atOnce_keeps s dt 8

theorem execApllBandSearch_sounds (dt : Nat) (s : State) : s.Sounds (execApllBandSearch dt s) :=
  State.runStep_sounds (always_sound fun t => State.foldl_keeps
    (fun (u : State) a => State.keeps_ite (u.relock_keeps a) (.refl u)) _ t) (fun t => .refl t) s dt 5

theorem execInternalDelayCalibration_sounds (dt : Nat) (ok : Bool) (vs : List Int) (s : State) :
    s.Sounds (execInternalDelayCalibration dt ok vs s) := by
  refine State.runStep_sounds (fun t => ?_) atOnce_keeps s dt 9
  split
  · exact t.resumeDelays_keeps.sound
  split
  · exact (t.measureDelays_keeps vs).sound
  · exact .refl t

theorem execLaneTraining_sounds (dt : Nat) (s : State) : s.Sounds (execLaneTraining dt s) :=
  State.runStep_sounds (always_sound State.openTraining_keeps) atOnce_keeps s dt 6

theorem execCapabilityExchange_sounds (dt : Nat) (s : State) : s.Sounds (execCapabilityExchange dt s) :=
  State.runStep_sounds (always_sound fun t => .refl t) (fun t => .refl t) s dt 7

theorem execGnss_sounds (dt : Nat) (s : State) : s.Sounds (execGnss dt s) :=
  State.runStep_sounds (always_sound State.startGnss_keeps) atOnce_keeps s dt 10

theorem execFlowPlacement_sounds (dt : Nat) (s : State) : s.Sounds (execFlowPlacement dt s) := by
  refine State.runStep_sounds (always_sound fun t => .refl t) (fun t => ?_) s dt 11
  have ht := t.placeAgain_keeps
  generalize t.placeAgain = u at ht ⊢
  dsimp only
  split
  · exact ht.trans ⟨rfl, rfl, rfl⟩
  · exact ht

theorem execConfigurationCrcCheck_sounds (dt : Nat) (s : State) : s.Sounds (execConfigurationCrcCheck dt s) :=
  State.sounds_next.mpr ((s.elapse_keeps dt).then (State.sound_ite (.refl _)
    (State.runStep_sound (always_sound fun t => .refl t) State.checkCfg_keeps _ 12)))

theorem execPowerOn_sounds (dt : Nat) (s : State) : s.Sounds (execPowerOn dt s) := by
  have he := s.elapse_keeps dt
  unfold execPowerOn
  generalize s.elapse dt = e at he ⊢
  extract_lets t at_ u
  have hu : e.Sound u := .of_csram rfl rfl fun _ => rfl
  clear_value u
  refine State.sounds_next.mpr (he.then (hu.keeps ?_))
  exact ((u.bootSync_keeps.trans (State.nvSync_keeps _)).trans (State.set_keeps ..)).trans (State.enterS1_keeps _)

theorem execVddUsLoss_sounds (dt : Nat) (s : State) : s.Sounds (execVddUsLoss dt s) := by
  have he := s.elapse_keeps dt
  unfold execVddUsLoss
  generalize s.elapse dt = e at he ⊢
  extract_lets t u
  have hu : e.Sound u := .of_csram rfl rfl fun _ => rfl
  clear_value u
  exact State.sounds_next.mpr (he.then (hu.keeps (u.haltStart_keeps.trans (State.set_keeps ..))))

theorem execDormantEntry_sounds (dt : Nat) (s : State) : s.Sounds (execDormantEntry dt s) :=
  State.sounds_next.mpr ((s.elapse_keeps dt).then (State.sound_ite
    (((State.saveTime_keeps _).trans (State.sleepGnss_keeps _)).then (State.diesOff_sound _)) (.refl _)))

theorem execDeviceReset_sounds (dt : Nat) (s : State) : s.Sounds (execDeviceReset dt s) := by
  refine State.sounds_next.mpr ((s.elapse_keeps dt).then ?_)
  split
  · exact State.sound_ite (State.beginStart_sound ..) (.refl _)
  · exact .refl _

theorem execWakePin_sounds (dt : Nat) (s : State) : s.Sounds (execWakePin dt s) :=
  State.sounds_next.mpr ((s.elapse_keeps dt).then (State.sound_ite (State.wakeUp_sound _ _) (.refl _)))

theorem execPinReset_sounds (dt : Nat) (s : State) : s.Sounds (execPinReset dt s) :=
  State.sounds_next.mpr ((s.elapse_keeps dt).then (State.sound_ite (.refl _) (State.beginStart_sound ..)))

theorem execKeeperAlarm_sounds (dt : Nat) (s : State) : s.Sounds (execKeeperAlarm dt s) :=
  State.sounds_next.mpr ((s.elapse_keeps dt).then (State.sound_ite (State.wakeUp_sound _ _) (.refl _)))

theorem execStartRetryReset_sounds (dt : Nat) (s : State) : s.Sounds (execStartRetryReset dt s) := by
  refine State.sounds_next.mpr ((s.elapse_keeps dt).then ?_)
  split
  · exact State.sound_ite (State.beginStart_sound ..) (.refl _)
  · exact .refl _

theorem execCoreRestartEnd_sounds (dt core : Nat) (s : State) : s.Sounds (execCoreRestartEnd dt core s) := by
  refine State.sounds_next.mpr ((s.elapse_keeps dt).then (State.sound_ite (.refl _) ?_))
  split
  · exact (State.coreUp_keeps ..).sound
  · exact State.sound_ite (State.sound_ite ((State.loadFw_sound _ _).keeps (State.coreUp_keeps ..)) (.refl _))
      (State.coreUp_keeps ..).sound

theorem execNvmErase_sounds (r : Req) (s : State) : s.Sounds (execNvmErase r s) :=
  State.sounds_next.mpr (s.exchange_sound (by rintro c ⟨⟩; exact cmdNvmErase_sound) _ r)

theorem execNvmWrite_sounds (r : Req) (s : State) : s.Sounds (execNvmWrite r s) :=
  State.sounds_next.mpr (s.exchange_sound (by rintro c ⟨⟩; exact cmdNvmWrite_sound) _ r)

theorem execSysCfgLoad_sounds (r : Req) (s : State) : s.Sounds (execSysCfgLoad r s) :=
  State.sounds_next.mpr (s.exchange_sound (by rintro c ⟨⟩; exact cmdSysCfgLoad_sound) _ r)

theorem execBadOpcode_sounds (op : Nat) (r : Req) (s : State) : s.Sounds (execBadOpcode op r s) :=
  State.sounds_next.mpr (s.exchange_sound cmdOf_sound _ r)

theorem execRequestTake_sounds (dt core : Nat) (s : State) : s.Sounds (execRequestTake dt core s) :=
  State.sounds_next.mpr ((s.elapse_keeps dt).then (State.takeNext_sound _ _))

theorem execSecureQueuePass_sounds (dt : Nat) (s : State) : s.Sounds (execSecureQueuePass dt s) := by
  have he := s.elapse_keeps dt
  unfold execSecureQueuePass
  generalize s.elapse dt = e at he ⊢
  refine State.sounds_next.mpr (he.then ?_)
  split
  next mb rest _ =>
    have hq : e.Keeps { e with ctl := { e.ctl with queue := rest } } := ⟨rfl, rfl, rfl⟩
    exact State.sound_ite ((hq.trans (State.setTaken_keeps ..)).then (State.carryOut_sound cmdOf_sound _ _)) (.refl e)
  next => exact .refl e

/-- Every command answers a next state with the queue as it was, and keeps memories of canonical form so. -/
theorem exec_sounds (c : Instr) (s : State) : s.Sounds (exec c s) := by
  by_cases h : mayStore c = false
  · exact (exec_keeps c s h).sounds
  cases c with
  | nvmErase r => exact execNvmErase_sounds r s
  | nvmWrite r => exact execNvmWrite_sounds r s
  | sysCfgLoad r => exact execSysCfgLoad_sounds r s
  | badOpcode op r => exact execBadOpcode_sounds op r s
  | requestTake dt core => exact execRequestTake_sounds dt core s
  | secureQueuePass dt => exact execSecureQueuePass_sounds dt s
  | firmware dt => exact execFirmware_sounds dt s
  | coreRestartEnd dt core => exact execCoreRestartEnd_sounds dt core s
  | tallyDma dt => exact execTallyDma_sounds dt s
  | powerSequencing dt ok => exact execPowerSequencing_sounds dt ok s
  | trimLoad dt ok => exact execTrimLoad_sounds dt ok s
  | bist dt ok => exact execBist_sounds dt ok s
  | timebases dt => exact execTimebases_sounds dt s
  | apllBandSearch dt => exact execApllBandSearch_sounds dt s
  | internalDelayCalibration dt ok vs => exact execInternalDelayCalibration_sounds dt ok vs s
  | laneTraining dt => exact execLaneTraining_sounds dt s
  | capabilityExchange dt => exact execCapabilityExchange_sounds dt s
  | gnss dt => exact execGnss_sounds dt s
  | flowPlacement dt => exact execFlowPlacement_sounds dt s
  | configurationCrcCheck dt => exact execConfigurationCrcCheck_sounds dt s
  | powerOn dt => exact execPowerOn_sounds dt s
  | vddUsLoss dt => exact execVddUsLoss_sounds dt s
  | dormantEntry dt => exact execDormantEntry_sounds dt s
  | deviceReset dt => exact execDeviceReset_sounds dt s
  | wakePin dt => exact execWakePin_sounds dt s
  | pinReset dt => exact execPinReset_sounds dt s
  | keeperAlarm dt => exact execKeeperAlarm_sounds dt s
  | startRetryReset dt => exact execStartRetryReset_sounds dt s
  | _ => exact absurd rfl h

end Sys2Proof.Machine

/-- Settles O5, from the frame of every command's row. -/
theorem onlyTheseCommandsChangeMemory : Obligations.OnlyTheseCommandsChangeMemory := by
  intro c s t hc ht
  obtain ⟨u, hu, -, hflash, hcsram⟩ := exec_keeps c s hc
  cases hu.symm.trans ht
  exact ⟨hflash, hcsram⟩

/-- Settles O3, from the frame of the rows that write no memory and the soundness of those that may. -/
theorem everyCommandAnswersAndKeepsQueue : Obligations.EveryCommandAnswersAndKeepsQueue := by
  intro c s
  obtain ⟨t, ht, hpending, -⟩ := exec_sounds c s
  exact ⟨t, ht, hpending⟩

/-- Settles O4, by the soundness of the front command's row; the queue is no part of the memories. -/
theorem stepKeepsMemoriesCanonical : Obligations.StepKeepsMemoriesCanonical := by
  intro s t hs ht
  unfold step at ht
  split at ht
  · cases ht
    exact hs
  next c rest _ =>
    obtain ⟨u, hu, -, hok⟩ := exec_sounds c { s with pending := rest }
    cases hu.symm.trans ht
    exact hok hs

end

section
/-! SUPPORT. The bodies of the SYS, NVM and PWR commands under the conditions that let them complete (R461, R476 to R479,
R560, R577, R578, R586, R589). -/

open Sys2Proof Sys2Proof.Machine
namespace Sys2Proof.Machine

section

variable {c : Ctx} {q : State}

theorem sysCoreStatus_body : cmdSysCoreStatus.body c q = done q [q.word R.MB_STATUS, q.rstWord 0, q.rstWord 2, q.rstWord 3,
    q.word R.CSRAM_CORR, (q.ctl.dbeRegion.map fun r => r % 32 + 2 ^ 31).getD 0] := by
  simp only [cmdSysCoreStatus]
  cases q.ctl.dbeRegion <;> rfl

theorem sysNodeId_body (hfree : q.worldLocked (q.entryNonSecure 37) = false)
    (hput : ((q.writes [{ f := R.NODE_ID_NODE_ID, v := c.bits 1 19 0 }, { f := R.NODE_ID_UNSET, v := 0 }]).nvPut 0x02 0 none
      [c.bits 1 19 0]).isSome) :
    cmdSysNodeId.body c q = done ((((q.writes [{ f := R.NODE_ID_NODE_ID, v := c.bits 1 19 0 },
      { f := R.NODE_ID_UNSET, v := 0 }]).nvPut 0x02 0 none [c.bits 1 19 0]).map Prod.snd).getD q) [] := by
  obtain ⟨⟨k, u⟩, hu⟩ := Option.isSome_iff_exists.mp hput
  simp only [cmdSysNodeId, hu]
  exact unlessLocked_free hfree

/-- The boot configuration that SYS.BOOT_CFG writes. -/
def bootCfgOf (c : Ctx) (q : State) : BootCfg :=
  { pref := c.bits 1 0 0, trial := c.bit 1 1 && !c.bit 1 2, tried := q.bootCfg.tried && !c.bit 1 1 && !c.bit 1 2
    cfgPref := c.bits 1 3 3, signed := c.bit 1 4 }

theorem sysBootCfg_body_kept (hver : q.minSec = c.bits 2 15 0)
    (hsigned : q.bootCfg.signed = false ∨ c.bit 1 4 = true ∨ q.mode = 5)
    (hfree : q.worldLocked (q.entryNonSecure 39) = false) :
    cmdSysBootCfg.body c q = done ({ q with bootCfg := bootCfgOf c q }).bootSync [] := by
  refine (need_pos ?_).trans <| (need_pos ?_).trans <| (unlessLocked_free hfree).trans (if_pos hver.symm)
  · simp [hver]
  · rcases hsigned with h | h | h <;> simp [h]

theorem sysBootCfg_body_raised (hlow : q.minSec < c.bits 2 15 0) (hhigh : c.bits 2 15 0 ≤ q.get R.BOOT_STAT_SEC_VER)
    (hsigned : q.bootCfg.signed = false ∨ c.bit 1 4 = true ∨ q.mode = 5)
    (hfree : q.worldLocked (q.entryNonSecure 39) = false)
    (hput : (({ q with bootCfg := bootCfgOf c q }).bootSync.nvPut 0x04 0 none [c.bits 2 15 0]).isSome) :
    cmdSysBootCfg.body c q
      = done (((({ q with bootCfg := bootCfgOf c q }).bootSync.nvPut 0x04 0 none [c.bits 2 15 0]).map Prod.snd).getD q) [] := by
  obtain ⟨⟨k, u⟩, hu⟩ := Option.isSome_iff_exists.mp hput
  unfold bootCfgOf at hu ⊢
  simp only [cmdSysBootCfg, hu]
  refine (need_pos ?_).trans <| (need_pos ?_).trans <| (unlessLocked_free hfree).trans (if_neg hlow.ne')
  · simp [hlow.le, hhigh]
  · rcases hsigned with h | h | h <;> simp [h]

theorem sysCfgLoad_body (hok : q.cfgAccepted (c.bits 1 0 0) = true) (hsome : (q.entries (c.bits 1 0 0)).isSome) :
    cmdSysCfgLoad.body c q = { st := ({ q with ctl := { q.ctl with
      cfgImage := some ((q.header 2 (c.bits 1 0 0)).version, (q.header 2 (c.bits 1 0 0)).check)
      cfgSlot := c.bits 1 0 0 } }).loadGo (c.mb.getD 0) { left := (q.entries (c.bits 1 0 0)).getD [] }, wait := true } := by
  obtain ⟨l, hl⟩ := Option.isSome_iff_exists.mp hsome
  rw [hl]
  refine (need_pos hok).trans ?_
  simp only [hl]
  rfl

theorem nvmErase_body (haligned : c.arg 1 % (if c.bit 2 0 then 65536 else 4096) = 0)
    (hin : inFlash (c.arg 1) (if c.bit 2 0 then 65536 else 4096) = true)
    (hfree : q.nvmProtected (c.arg 1) (if c.bit 2 0 then 65536 else 4096) = false) :
    cmdNvmErase.body c q = done { q with
      flash := Memory.erase q.flash (c.arg 1) (if c.bit 2 0 then 65536 else 4096)
      ctl := { q.ctl with nvmFailed := false } } [] :=
  (need_pos (by rw [haligned, hin]; rfl)).trans (need_pos (congrArg not hfree))

/-- The bytes that the words of an NVM.WRITE give. -/
def nvmData (c : Ctx) : List Byte := ((c.args.drop 2).flatMap fun w => leBytes 4 w).take (c.bits 2 7 0)

theorem nvmWrite_body (hsome : 1 ≤ c.bits 2 7 0) (hmost : c.bits 2 7 0 ≤ 240) (hpage : c.arg 1 % 256 + c.bits 2 7 0 ≤ 256)
    (hin : inFlash (c.arg 1) (c.bits 2 7 0) = true) (hwords : 2 + (c.bits 2 7 0 + 3) / 4 ≤ c.args.length)
    (hfree : q.nvmProtected (c.arg 1) (c.bits 2 7 0) = false)
    (hfits : List.zipWith (fun (x y : Byte) => x &&& y) (q.flashBytes (c.arg 1) (c.bits 2 7 0)) (nvmData c) = nvmData c) :
    cmdNvmWrite.body c q = done { q with
      flash := Memory.writeBytes flashBlank q.flash (c.arg 1) (nvmData c), ctl := { q.ctl with nvmFailed := false } } [] := by
  refine (need_pos ?_).trans <| (need_pos (congrArg not hfree)).trans <| (if_pos hfits).trans ?_
  · simp [hsome, hmost, hpage, hin, hwords]
  · change done { q with flash := Memory.writeBytes flashBlank q.flash (c.arg 1) (List.zipWith (fun (x y : Byte) => x &&& y)
      (q.flashBytes (c.arg 1) (c.bits 2 7 0)) (nvmData c)), ctl := { q.ctl with nvmFailed := false } } [] = _
    rw [hfits]

theorem pwrState_body_port (hport : c.bit 1 8 = true) (hlt : c.bits 1 5 0 < 48)
    (hmay : c.bits 1 13 12 < 2 ∨ q.portState (c.bits 1 5 0) = 0) :
    cmdPwrState.body c q = done (q.portTo (c.bits 1 5 0) (c.bits 1 13 12)) [] := by
  refine (if_pos hport).trans <| (need_pos (decide_eq_true hlt)).trans (need_pos ?_)
  rcases hmay with h | h <;> simp [h]

theorem pwrState_body_block (hblock : c.bit 1 8 = false) (hlt : c.bits 1 5 0 < 48)
    (hallowed : (blkAllowed (c.bits 1 5 0)).contains (c.bits 1 13 12) = true)
    (hsleep : 2 ≤ c.bits 1 13 12 → q.blkMaySleep (c.bits 1 5 0) = true)
    (hwake : c.bits 1 13 12 < 2 → q.blkOff (c.bits 1 5 0) = false) :
    cmdPwrState.body c q = done (q.blkTo (c.bits 1 5 0) (c.bits 1 13 12)) [] := by
  refine (if_neg (by rw [hblock]; decide)).trans <| (need_pos (by rw [decide_eq_true hlt, hallowed]; rfl)).trans (need_pos ?_)
  by_cases h : c.bits 1 13 12 < 2
  · rw [if_pos h, hwake h]
    rfl
  · rw [if_neg h, hsleep (Nat.le_of_not_lt h)]

theorem pwrMode_body_enter (hsome : 1 ≤ c.bits 1 2 0) (hmost : c.bits 1 2 0 ≤ 5)
    (hok : q.modeAnswer (c.bits 1 2 0) = .ok) :
    cmdPwrMode.body c q
      = done (({ q with pw := { q.pw with stop := q.on R.MODE_STATE_START_RUN } }).setMode (c.bits 1 2 0)) [] := by
  refine (need_pos (decide_eq_true hmost)).trans ?_
  simp only [hok]
  exact if_neg (by omega)

theorem pwrMode_body_dormant (hmode : c.bits 1 2 0 = 0) (hok : q.modeAnswer 0 = .ok) (harmed : q.wakeArmed = true)
    (hholds : q.wakeHolds = false) :
    cmdPwrMode.body c q = done { q with pw := { q.pw with dormant := true } } [] := by
  refine (need_pos (by rw [hmode]; rfl)).trans ?_
  simp only [hmode, hok]
  have hgo : (q.wakeArmed && !q.wakeHolds) = true := by rw [harmed, hholds]; rfl
  exact (if_pos trivial).trans (need_pos hgo)

theorem pwrReset_body (hscope : c.bits 1 1 0 ≤ 2) (hrun : c.bits 1 1 0 = 0 ∨ q.on R.MODE_STATE_START_RUN = false) :
    cmdPwrReset.body c q = done { (if c.bit 1 5 then q.clearFails else q).saveTime with
      pw := { (if c.bit 1 5 then q.clearFails else q).saveTime.pw with
        reset := some { scope := c.bits 1 1 0, warm := c.bit 1 4, clr := c.bit 1 5, at_ := q.clk } } } [] := by
  refine (need_pos (decide_eq_true hscope)).trans (need_pos ?_)
  rcases hrun with h | h <;> simp [h]

end

end Sys2Proof.Machine

/-- Settles O21: in each clause the conditions that the command's body asks for hold, and no lock refuses its writes. -/
theorem systemCommandsComplete : Obligations.SystemCommandsComplete := by
  unfold Obligations.SystemCommandsComplete
  refine ⟨?info, ?nodeId, ?coreStatus, ?wdtCfg, ?bootKept, ?bootRaised, ?echo, ?cfgLoad, ?nvmStatus, ?nvmRead, ?nvmErase,
    ?nvmWrite, ?nvmVerify, ?pwrStatus, ?statePort, ?stateBlock, ?mode, ?dormant, ?reset, ?startCfg⟩
  case info => exact .of_body (fun _ _ => rfl) (by decide) (fun _ _ _ => rfl) fun _ _ _ _ => by simp
  case nodeId =>
    refine .of_silent_body (fun _ _ => rfl) (by decide) ?_
    rintro c q ⟨hfree, hput⟩
    exact sysNodeId_body hfree hput
  case coreStatus => exact .of_body (fun _ _ => rfl) (by decide) (fun _ _ _ => sysCoreStatus_body) fun _ _ _ _ => by simp
  case wdtCfg =>
    refine .of_silent_body (fun _ _ => rfl) (by decide) ?_
    rintro c q ⟨hcore, hrange, hfree⟩
    exact (need_pos (by rw [hrange]; simpa using hcore)).trans (writeCfg_unlocked hfree)
  case bootKept =>
    refine .of_silent_body (fun _ _ => rfl) (by decide) ?_
    rintro c q ⟨hver, hsigned, hfree⟩
    exact sysBootCfg_body_kept hver hsigned hfree
  case bootRaised =>
    refine .of_silent_body (fun _ _ => rfl) (by decide) ?_
    rintro c q ⟨hlow, hhigh, hsigned, hfree, hput⟩
    exact sysBootCfg_body_raised hlow hhigh hsigned hfree hput
  case echo => exact .of_body (fun _ _ => rfl) (by decide) (fun _ _ _ => rfl) fun _ _ _ hlen => hlen
  case cfgLoad =>
    refine .of_body (fun _ _ => rfl) (by decide) ?_
    rintro c q ⟨hok, hsome⟩
    exact sysCfgLoad_body hok hsome
  case nvmStatus => exact .of_body (fun _ _ => rfl) (by decide) (fun _ _ _ => rfl) fun _ _ _ _ => by simp
  case nvmRead =>
    refine .of_body (fun _ _ => rfl) (by decide) ?body ?length
    case body =>
      rintro c q ⟨hsome, hmost, hin⟩
      exact need_pos (by rw [decide_eq_true hsome, decide_eq_true hmost, hin]; rfl)
    case length => exact fun c q _ _ => (leWords_length 60 _).trans (by decide)
  case nvmErase =>
    refine .of_silent_body (fun _ _ => rfl) (by decide) ?_
    rintro c q ⟨haligned, hin, hfree⟩
    exact nvmErase_body haligned hin hfree
  case nvmWrite =>
    refine .of_silent_body (fun _ _ => rfl) (by decide) ?_
    rintro c q ⟨hsome, hmost, hpage, hin, hwords, hfree, hfits⟩
    exact nvmWrite_body hsome hmost hpage hin hwords hfree hfits
  case nvmVerify =>
    refine .of_body (fun _ _ => rfl) (by decide) (fun _ _ _ => rfl) fun c q _ _ => ?_
    exact Nat.succ_le_succ ((leWords_length 8 _).trans (by decide : 8 ≤ 62))
  case pwrStatus => exact .of_body (fun _ _ => rfl) (by decide) (fun _ _ _ => rfl) fun _ _ _ _ => by simp
  case statePort =>
    refine .of_silent_body (fun _ _ => rfl) (by decide) ?_
    rintro c q ⟨hport, hlt, hmay⟩
    exact pwrState_body_port hport hlt hmay
  case stateBlock =>
    refine .of_silent_body (fun _ _ => rfl) (by decide) ?_
    rintro c q ⟨hblock, hlt, hallowed, hsleep, hwake⟩
    exact pwrState_body_block hblock hlt hallowed hsleep hwake
  case mode =>
    refine .of_silent_body (fun _ _ => rfl) (by decide) ?_
    rintro c q ⟨hsome, hmost, hok⟩
    exact pwrMode_body_enter hsome hmost hok
  case dormant =>
    refine .of_silent_body (fun _ _ => rfl) (by decide) ?_
    rintro c q ⟨hmode, hok, harmed, hholds⟩
    exact pwrMode_body_dormant hmode hok harmed hholds
  case reset =>
    refine .of_silent_body (fun _ _ => rfl) (by decide) ?_
    rintro c q ⟨hscope, hrun⟩
    exact pwrReset_body hscope hrun
  case startCfg =>
    refine .of_silent_body (fun _ _ => rfl) (by decide) ?_
    rintro c q ⟨htemp, hfree⟩
    exact (need_pos htemp).trans (writeCfg_unlocked hfree)
end

section
/-! SUPPORT. Which bytes of the flash NVM.ERASE and NVM.WRITE may change, whatever a core answers, and what they read as
afterwards (R478, R479). -/

open Sys2Proof Sys2Proof.Machine
namespace Sys2Proof.Machine

/-! ### Runs of bytes -/

theorem Memory.read_writeBytes_ne (d : Byte) (l : List Byte) (m : Memory) (a b : Nat) (h : b < a ∨ a + l.length ≤ b) :
    Memory.read d (Memory.writeBytes d m a l) b = Memory.read d m b := by
  induction l generalizing m a with
  | nil => rfl
  | cons v l ih =>
    rw [List.length_cons] at h
    exact (ih _ _ (by omega)).trans (Memory.read_write_ne d m v (by omega))

theorem Memory.read_writeBytes_at (d : Byte) (l : List Byte) (m : Memory) (a k : Nat) (hm : Memory.wf d m = true)
    (hk : k < l.length) : Memory.read d (Memory.writeBytes d m a l) (a + k) = l.getD k d := by
  induction l generalizing m a k with
  | nil => cases hk
  | cons v l ih =>
    cases k with
    | zero => exact (Memory.read_writeBytes_ne d l _ _ _ (by omega)).trans (Memory.read_write_same d m a v hm)
    | succ k =>
      have h := ih _ (a + 1) k (Memory.wf_write d m a v hm) (Nat.lt_of_succ_lt_succ hk)
      rwa [Nat.add_right_comm] at h

theorem leBytes_length (n w : Nat) : (leBytes n w).length = n := by
  induction n generalizing w with
  | zero => rfl
  | succ n ih => rw [leBytes, List.length_cons, ih]

theorem leBytes_getD (n w k : Nat) (d : Byte) (hk : k < n) : (leBytes n w).getD k d = BitVec.ofNat 8 (w / 256 ^ k) := by
  induction n generalizing w k with
  | zero => cases hk
  | succ n ih =>
    cases k with
    | zero => simp [leBytes]
    | succ k => rw [leBytes, List.getD_cons_succ, ih _ _ (Nat.lt_of_succ_lt_succ hk), Nat.div_div_eq_div_mul, Nat.pow_succ']

theorem wordBytes_length (ws : List Nat) : (ws.flatMap fun w => leBytes 4 w).length = 4 * ws.length := by
  induction ws with
  | nil => rfl
  | cons w ws ih => rw [List.flatMap_cons, List.length_append, ih, leBytes_length, List.length_cons]; omega

/-- Byte k of some words, low byte of each first. -/
theorem wordBytes_getD (ws : List Nat) (k : Nat) (d : Byte) (hk : k < 4 * ws.length) :
    (ws.flatMap fun w => leBytes 4 w).getD k d = BitVec.ofNat 8 (ws.getD (k / 4) 0 / 256 ^ (k % 4)) := by
  induction ws generalizing k with
  | nil => simp at hk
  | cons w ws ih =>
    rw [List.flatMap_cons]
    by_cases h : k < 4
    · rw [List.getD_append _ _ _ _ (by rwa [leBytes_length]), leBytes_getD 4 w k d h, Nat.div_eq_of_lt h, Nat.mod_eq_of_lt h,
        List.getD_cons_zero]
    · obtain ⟨j, rfl⟩ := Nat.exists_eq_add_of_le (Nat.le_of_not_lt h)
      rw [List.length_cons] at hk
      rw [List.getD_append_right _ _ _ _ (by rw [leBytes_length]; omega), leBytes_length, Nat.add_sub_cancel_left,
        ih j (by omega), show (4 + j) / 4 = j / 4 + 1 by omega, List.getD_cons_succ, Nat.add_mod_left]

/-- Where every byte of a range is erased, the flash can take any data there. -/
theorem and_blank (l : List Byte) (n : Nat) (h : l.length ≤ n) :
    List.zipWith (fun (x y : Byte) => x &&& y) (List.replicate n flashBlank) l = l := by
  induction l generalizing n with
  | nil => exact List.zipWith_nil_right
  | cons v l ih =>
    obtain ⟨n, rfl⟩ := Nat.exists_eq_add_of_lt h
    rw [show l.length + n + 1 = (l.length + n) + 1 from rfl, List.replicate_succ, List.zipWith_cons_cons,
      ih _ (Nat.le_add_right ..)]
    exact congrArg (· :: l) (BitVec.allOnes_and (x := v))

theorem Memory.bytes_blank (m : Memory) (a n : Nat) (h : ∀ k, k < n → Memory.read flashBlank m (a + k) = flashBlank) :
    Memory.bytes flashBlank m a n = List.replicate n flashBlank := by
  refine List.eq_replicate_iff.mpr ⟨by simp [Memory.bytes], fun b hb => ?_⟩
  obtain ⟨k, hk, rfl⟩ := List.mem_map.mp hb
  exact h k (List.mem_range.mp hk)

theorem nvmData_length {c : Ctx} (h : 2 + (c.bits 2 7 0 + 3) / 4 ≤ c.args.length) : (nvmData c).length = c.bits 2 7 0 := by
  rw [nvmData, List.length_take, wordBytes_length, List.length_drop]
  omega

theorem nvmData_length_le (c : Ctx) : (nvmData c).length ≤ c.bits 2 7 0 := by
  rw [nvmData, List.length_take]
  exact Nat.min_le_left ..

theorem nvmData_getD {c : Ctx} {k : Nat} (h : 2 + (c.bits 2 7 0 + 3) / 4 ≤ c.args.length) (hk : k < c.bits 2 7 0) :
    (nvmData c).getD k flashBlank = BitVec.ofNat 8 (c.args.getD (2 + k / 4) 0 / 256 ^ (k % 4)) := by
  have hlen : k < 4 * (c.args.drop 2).length := by
    rw [List.length_drop]
    omega
  have hdrop : (c.args.drop 2).getD (k / 4) 0 = c.args.getD (2 + k / 4) 0 := by
    simp only [List.getD_eq_getElem?_getD, List.getElem?_drop]
  rw [← hdrop, ← wordBytes_getD _ _ flashBlank hlen, nvmData]
  simp only [List.getD_eq_getElem?_getD, List.getElem?_take_of_lt hk]

/-! ### What a request may do to the memories -/

theorem State.asked_keeps (s : State) (cmd : Cmd) (r : Req) : s.Keeps (s.asked cmd r) := by
  unfold State.asked
  exact State.keeps_ite (by simp) (by simp)

/-- A core that carries out a request answers in a state that keeps the memories of the one before, or of the one that the
command's body leaves. -/
theorem State.carryOut_keeps_or (q : State) (mb : Nat) (cmd : Cmd) :
    q.Keeps (q.carryOut mb (some cmd))
      ∨ ∃ c : Ctx, c.args = q.reqArgs mb ∧ (cmd.body c q).st.Keeps (q.carryOut mb (some cmd)) := by
  have hrun (c : Ctx) : q.Keeps (q.runCmd cmd c).st ∨ (cmd.body c q).st.Keeps (q.runCmd cmd c).st := by
    unfold State.runCmd
    split
    · exact .inl (State.violation_keeps ..)
    split
    · exact .inl (.refl q)
    split
    · exact .inl (.refl q)
    split
    · exact .inl (.refl q)
    refine .inr ?_
    generalize cmd.body c q = b
    dsimp only
    split <;> simp
  have hanswer (a : Res) : a.st.Keeps (if a.wait then a.st else a.st.respond mb a.status a.words) :=
    State.keeps_ite (.refl a.st) (State.respond_keeps ..)
  refine (hrun _).imp (fun h => h.trans (hanswer _)) fun h => ⟨_, rfl, h.trans (hanswer _)⟩

/-- A request answers in a state that keeps the memories, or those that the command's body leaves for its arguments. -/
theorem State.exchange_keeps_or (s : State) {cmd : Cmd} {r : Req} (hop : cmd.op < 2 ^ 16) (hlen : r.args.length ≤ 63)
    (hwords : ∀ w ∈ r.args, w < 2 ^ 32) :
    s.Keeps (s.exchange (some cmd) cmd.op r)
      ∨ ∃ c : Ctx, c.args = r.args ∧ (cmd.body c (s.asked cmd r)).st.Keeps (s.exchange (some cmd) cmd.op r) := by
  have hcarried : s.Keeps ((s.asked cmd r).carryOut r.mb (some cmd))
      ∨ ∃ c : Ctx, c.args = r.args ∧ (cmd.body c (s.asked cmd r)).st.Keeps ((s.asked cmd r).carryOut r.mb (some cmd)) := by
    rw [← s.asked_args hop hlen hwords]
    exact ((s.asked cmd r).carryOut_keeps_or r.mb cmd).imp_left (s.asked_keeps cmd r).trans
  unfold State.exchange
  split
  · exact .inl (by simp)
  split
  · exact .inl (by simp)
  split
  · exact .inl (by simp)
  dsimp only
  split
  · unfold State.takeMb
    unfold State.asked at hcarried ⊢
    dsimp only at hcarried ⊢
    split
    next hpair =>
      rw [if_pos hpair] at hcarried
      split
      · exact hcarried
      · exact .inl (State.keeps_ite (by simp) (by simp))
    next hpair =>
      rw [if_neg hpair] at hcarried
      exact hcarried
  · exact .inl (State.rung_keeps ..)

theorem Ctx.arg_congr {c d : Ctx} (h : c.args = d.args) (k : Nat) : c.arg k = d.arg k := by
  rw [Ctx.arg, Ctx.arg, h]

theorem nvmErase_body_frame (c : Ctx) (q : State) (b : Nat)
    (hb : b < c.arg 1 ∨ c.arg 1 + (if c.bit 2 0 then 65536 else 4096) ≤ b) :
    Memory.read flashBlank (cmdNvmErase.body c q).st.flash b = Memory.read flashBlank q.flash b
      ∧ (cmdNvmErase.body c q).st.csram = q.csram := by
  have hout : ¬ (c.arg 1 ≤ b ∧ b < c.arg 1 + (if c.bit 2 0 then 65536 else 4096)) := by omega
  simp only [cmdNvmErase, need_res, done_st]
  generalize (if c.bit 2 0 = true then 65536 else 4096) = n at hout ⊢
  split
  · split
    · exact ⟨(Memory.read_erase ..).trans (if_neg hout), rfl⟩
    · exact ⟨rfl, rfl⟩
  · exact ⟨rfl, rfl⟩

theorem nvmWrite_body_frame (c : Ctx) (q : State) (b : Nat) (hb : b < c.arg 1 ∨ c.arg 1 + c.bits 2 7 0 ≤ b) :
    Memory.read flashBlank (cmdNvmWrite.body c q).st.flash b = Memory.read flashBlank q.flash b
      ∧ (cmdNvmWrite.body c q).st.csram = q.csram := by
  have hlen : (List.zipWith (fun (x y : Byte) => x &&& y) (q.flashBytes (c.arg 1) (c.bits 2 7 0)) (nvmData c)).length
      ≤ c.bits 2 7 0 := by
    rw [List.length_zipWith]
    exact (Nat.min_le_right ..).trans (nvmData_length_le c)
  have hread := Memory.read_writeBytes_ne flashBlank _ q.flash (c.arg 1) b
    (hb.imp_right fun h => (Nat.add_le_add_left hlen _).trans h)
  simp only [cmdNvmWrite, need_res]
  split
  · split
    · split <;> exact ⟨hread, rfl⟩
    · exact ⟨rfl, rfl⟩
  · exact ⟨rfl, rfl⟩

theorem nvmErase_frame {s t : State} {r : Req} {b : Nat} (hlen : r.args.length ≤ 63) (hwords : ∀ w ∈ r.args, w < 2 ^ 32)
    (ht : exec (.nvmErase r) s = .next t)
    (hb : b < (ctxOf r).arg 1 ∨ (ctxOf r).arg 1 + (if (ctxOf r).bit 2 0 then 65536 else 4096) ≤ b) :
    Memory.read flashBlank t.flash b = Memory.read flashBlank s.flash b ∧ t.csram = s.csram := by
  cases (show Host.Outcome.next (s.exchange (some cmdNvmErase) cmdNvmErase.op r) = .next t from ht)
  obtain ⟨-, hflash, hcsram⟩ | ⟨c, hc, -, hflash, hcsram⟩ := s.exchange_keeps_or (cmd := cmdNvmErase) (by decide) hlen hwords
  · rw [hflash, hcsram]
    exact ⟨rfl, rfl⟩
  · obtain ⟨-, hasked, hasked'⟩ := s.asked_keeps cmdNvmErase r
    have harg := Ctx.arg_congr (d := ctxOf r) hc
    have hbody := nvmErase_body_frame c (s.asked cmdNvmErase r) b (by rwa [Ctx.bit, harg, harg])
    rwa [hflash, hcsram, ← hasked, ← hasked']

theorem nvmWrite_frame {s t : State} {r : Req} {b : Nat} (hlen : r.args.length ≤ 63) (hwords : ∀ w ∈ r.args, w < 2 ^ 32)
    (ht : exec (.nvmWrite r) s = .next t)
    (hb : b < (ctxOf r).arg 1 ∨ (ctxOf r).arg 1 + (ctxOf r).bits 2 7 0 ≤ b) :
    Memory.read flashBlank t.flash b = Memory.read flashBlank s.flash b ∧ t.csram = s.csram := by
  cases (show Host.Outcome.next (s.exchange (some cmdNvmWrite) cmdNvmWrite.op r) = .next t from ht)
  obtain ⟨-, hflash, hcsram⟩ | ⟨c, hc, -, hflash, hcsram⟩ := s.exchange_keeps_or (cmd := cmdNvmWrite) (by decide) hlen hwords
  · rw [hflash, hcsram]
    exact ⟨rfl, rfl⟩
  · obtain ⟨-, hasked, hasked'⟩ := s.asked_keeps cmdNvmWrite r
    have harg := Ctx.arg_congr (d := ctxOf r) hc
    have hbody := nvmWrite_body_frame c (s.asked cmdNvmWrite r) b (by rwa [Ctx.bits, harg, harg])
    rwa [hflash, hcsram, ← hasked, ← hasked']

theorem State.answeredOk_flash (q : State) (r : Req) (ws : List Nat) : (q.answeredOk r ws).flash = q.flash := by
  simp [State.answeredOk]

end Sys2Proof.Machine

/-- Settles O8: a body changes bytes of its range alone, and a served one leaves the erased block or the data there. -/
theorem flashWritesAndErasesStoreTheirRange : Obligations.FlashWritesAndErasesStoreTheirRange := by
  refine ⟨fun s t r b => nvmErase_frame, fun s t r b => nvmWrite_frame, ?erased, ?written⟩
  case erased =>
    intro s r hserved haligned hin hfree
    obtain ⟨-, -, -, -, -, -, -, -, -, -, herase, -⟩ := systemCommandsComplete
    obtain ⟨t, ht, hanswer, rfl⟩ := herase s r hserved ⟨haligned, hin, hfree⟩
    refine ⟨_, ht, hanswer, fun k hk => ?_⟩
    rw [State.answeredOk_flash]
    exact (Memory.read_erase ..).trans (if_pos ⟨Nat.le_add_right .., Nat.add_lt_add_left hk _⟩)
  case written =>
    intro s r hserved hok hsome hmost hpage hin hwords hfree hblank
    obtain ⟨-, -, -, -, -, -, -, -, -, -, -, hwrite, -⟩ := systemCommandsComplete
    obtain ⟨-, hflash, -⟩ := s.asked_keeps cmdNvmWrite r
    have hlen : (nvmData (ctxOf r)).length = (ctxOf r).bits 2 7 0 := nvmData_length hwords
    have hfits : List.zipWith (fun (x y : Byte) => x &&& y)
        ((s.asked cmdNvmWrite r).flashBytes ((ctxOf r).arg 1) ((ctxOf r).bits 2 7 0)) (nvmData (ctxOf r))
        = nvmData (ctxOf r) := by
      rw [State.flashBytes, hflash, Memory.bytes_blank _ _ _ hblank]
      exact and_blank _ _ hlen.le
    obtain ⟨t, ht, hanswer, rfl⟩ := hwrite s r hserved ⟨hsome, hmost, hpage, hin, hwords, hfree, hfits⟩
    refine ⟨_, ht, hanswer, fun k hk => ?_⟩
    have hread := Memory.read_writeBytes_at flashBlank (nvmData (ctxOf r)) s.flash ((ctxOf r).arg 1) k
      (s.memOk_iff.mp hok).1 (by rwa [hlen])
    rw [nvmData_getD hwords hk, ← hflash] at hread
    rw [State.answeredOk_flash]
    exact (congrArg BitVec.toNat hread).trans (BitVec.toNat_ofNat ..)
end

section
/-! SUPPORT. The bodies of the FLOW commands under the conditions that let them complete (R402 to R418). -/

open Sys2Proof Sys2Proof.Machine
namespace Sys2Proof.Machine

theorem Except.ok_of_toOption {ε α : Type} {o : Except ε α} {a : α} (h : o.toOption = some a) : o = .ok a := by
  cases o with
  | error e => cases h
  | ok b => exact congrArg Except.ok (Option.some.inj h)

/-- No lock covers a block whose fields a placement changes. -/
theorem State.foLocked_free {q : State} {k : Res} (h : ∀ e ∈ [13, 14, 15, 16, 18], q.worldLocked (q.entryNonSecure e) = false) :
    q.foLocked k = k := by
  have hall (l : List Nat) (k : Res) (hl : ∀ e ∈ l, q.worldLocked (q.entryNonSecure e) = false) :
      l.foldl (fun r e => unlessLocked q e r) k = k := by
    induction l generalizing k with
    | nil => rfl
    | cons e l ih =>
      rw [List.foldl_cons, unlessLocked_free (hl e (List.mem_cons_self ..))]
      exact ih k fun e' he' => hl e' (List.mem_cons_of_mem _ he')
  exact hall _ k h

theorem Flow.answer_length (f : Flow) : f.answer.length = 6 := rfl

section

variable {c : Ctx} {q : State}

theorem flowPortCfg_body (hport : c.bits 1 5 0 < 48) (hcfg : foCfgOk (c.arg 2) = true)
    (htb : bitOf (c.arg 2) 31 = true → q.tbOn (q.schedTb (c.bits 1 5 0)) = true)
    (hidle : q.foPortBusy (c.bits 1 5 0) = false) (hsettled : q.schedPending (c.bits 1 5 0) = false)
    (hfree : q.unlocked (R.FO_PORTp_CFG.writes (c.arg 2) (c.bits 1 5 0))) :
    cmdFlowPortCfg.body c q = done (q.foPortCfg (c.bits 1 5 0) (c.arg 2)) [] := by
  have hnone := List.find?_eq_none.mpr fun w hw => by simpa using hfree w hw
  refine (need_pos ?_).trans <| (need_pos (by rw [hidle, hsettled]; rfl)).trans ?_
  · rw [decide_eq_true hport, hcfg]
    cases hen : bitOf (c.arg 2) 31 with
    | false => rfl
    | true => rw [htb hen]; rfl
  · simp only [hnone]

theorem flowPlace_body (hok : q.flowOk (flowOf c) = true) (hstate : q.foState < 2) (hidle : q.fwdBusy = false)
    (hmay : q.mayPlace (flowOf c) true) {g : Flow} {t : State} (hplaced : q.placed (flowOf c) = some (g, t))
    (hfree : ∀ e ∈ [13, 14, 15, 16, 18], q.worldLocked (q.entryNonSecure e) = false) :
    cmdFlowPlace.body c q = done (t.stage (insertFlow g t.fo.work) g.ports) g.answer := by
  obtain ⟨hchecks, hpair, hdup⟩ := hmay
  obtain ⟨f, hf, hbook⟩ := Option.bind_eq_some_iff.mp hplaced
  have hred : ¬ ((flowOf c).red = 2 ∧ q.on R.RD_PAIR_STAT_LINK_UP = false) := by
    rintro ⟨hr, hl⟩
    rw [hpair rfl hr] at hl
    cases hl
  simp only [cmdFlowPlace, hchecks, hdup, if_neg hred, Except.ok_of_toOption hf, Except.ok_of_toOption hbook,
    Option.orElse]
  exact (need_pos hok).trans <| (need_pos (decide_eq_true hstate)).trans <| (need_pos (congrArg not hidle)).trans
    (State.foLocked_free hfree)

/-- The flow that FLOW.PIN books: at the windows of the request on its egress ports. -/
def pinnedFlow (c : Ctx) (q : State) : Flow :=
  { flowOf c with
    pinned := true
    subs := ((flowOf c).egress.zip [c.bits 20 26 0, c.bits 21 26 0]).map fun e =>
      (e.1, e.2, q.subLen { flowOf c with pinned := true } e.1) }

theorem flowPin_body (hok : q.flowOk (flowOf c) = true)
    (hegress : (flowOf c).egress.length = (if (flowOf c).red = 0 then 1 else 2))
    (hwords : 19 + (if (flowOf c).red = 0 then 1 else 2) ≤ c.args.length) (hstate : q.foState < 2) (hidle : q.fwdBusy = false)
    (hmay : q.mayPlace { flowOf c with pinned := true } false)
    (hconflict : ((flowOf c).egress.zip [c.bits 20 26 0, c.bits 21 26 0]).all
      (fun e => !q.pinConflict { flowOf c with pinned := true } e.1 e.2) = true)
    (hfits : (pinnedFlow c q).ports.all (fun p => q.entriesFit (q.fo.work ++ [pinnedFlow c q]) p) = true) {g : Flow} {t : State}
    (hbook : (q.book q.fo.work (pinnedFlow c q)).toOption = some (g, t))
    (hfree : ∀ e ∈ [13, 14, 15, 16, 18], q.worldLocked (q.entryNonSecure e) = false) :
    cmdFlowPin.body c q = done (q.pinned g t) { g with
      latWc := ((q.pinned g t).worst (q.pinned g t).fo.work g).1
      jitWc := ((q.pinned g t).worst (q.pinned g t).fo.work g).2 }.answer := by
  obtain ⟨hchecks, -, hdup⟩ := hmay
  have hnone : ((flowOf c).egress.zip [c.bits 20 26 0, c.bits 21 26 0]).find?
      (fun e => q.pinConflict { flowOf c with pinned := true } e.1 e.2) = none := by
    simpa [List.find?_eq_none] using hconflict
  have hroom : (pinnedFlow c q).ports.find? (fun p => !q.entriesFit (q.fo.work ++ [pinnedFlow c q]) p) = none := by
    simpa [List.find?_eq_none] using hfits
  have hfit : portFails (pinnedFlow c q).ports 0x08 (fun p => !q.entriesFit (q.fo.work ++ [pinnedFlow c q]) p) = none := by
    rw [portFails, hroom]
    rfl
  have hb := Except.ok_of_toOption hbook
  unfold pinnedFlow at hfit hb
  simp only [cmdFlowPin, hchecks, hdup, hnone, hfit, hb, Option.orElse, Option.map_none]
  refine (need_pos ?_).trans <| (need_pos (decide_eq_true hstate)).trans <| (need_pos (congrArg not hidle)).trans
    (State.foLocked_free hfree)
  rw [decide_eq_true hwords, Bool.and_true, Bool.and_eq_true]
  exact ⟨hok, beq_iff_eq.mpr hegress⟩

theorem flowRemove_body {f : Flow} (hf : (q.fo.work.find? fun f => f.id == c.bits 1 15 0) = some f) (hstate : q.foState < 2)
    (hidle : q.fwdBusy = false) (hfree : ∀ e ∈ [13, 14, 15, 16, 18], q.worldLocked (q.entryNonSecure e) = false) :
    cmdFlowRemove.body c q = done (((q.letGo f).unwriteFlow f).stage (dropFlow f.id q.fo.work) f.ports) [] := by
  simp only [cmdFlowRemove, hf]
  exact (need_pos (decide_eq_true hstate)).trans <| (need_pos (congrArg not hidle)).trans (State.foLocked_free hfree)

theorem flowCommit_body (hstate : q.foState < 2) (hidle : q.fwdBusy = false)
    (hsettled : (q.fo.changed.all fun p => !q.schedPending p) = true)
    (hfree : ∀ e ∈ [13, 14, 15, 16, 18], q.worldLocked (q.entryNonSecure e) = false) :
    cmdFlowCommit.body c q = { st := ((q.foUpd fun o => { o with phase := 1, mb := c.mb, waits := true }).set
      R.FO_STAT_STATE 2).commitBanks, wait := true } :=
  (need_pos (decide_eq_true hstate)).trans <| (need_pos (by rw [hidle, hsettled]; rfl)).trans (State.foLocked_free hfree)

theorem flowQuery_body {f : Flow} {x : CopyW} (hf : (q.fo.work.find? fun f => f.id == c.bits 1 15 0) = some f)
    (hx : ((q.modelCopies q.fo.work (c.bits 1 21 16)).find? fun x => x.flow.id == f.id) = some x) :
    cmdFlowQuery.body c q
      = done q (q.queryWords f x (q.modelCopies q.fo.work (c.bits 1 21 16)) (c.bits 1 21 16)) := by
  simp only [cmdFlowQuery, hf, hx]

end

end Sys2Proof.Machine

/-- Settles O31: in each clause the conditions that the command's body asks for hold, so that its checks find nothing and no
lock refuses its writes. -/
theorem flowCommandsComplete : Obligations.FlowCommandsComplete := by
  unfold Obligations.FlowCommandsComplete
  refine ⟨?status, ?portCfg, ?place, ?pin, ?remove, ?commit, ?discard, ?query, ?cfg⟩
  case status => exact .of_body (fun _ _ => rfl) (by decide) (fun _ _ _ => rfl) fun _ _ _ _ => by simp
  case portCfg =>
    refine .of_silent_body (fun _ _ => rfl) (by decide) ?_
    rintro c q ⟨hport, hcfg, htb, hidle, hsettled, hfree⟩
    exact flowPortCfg_body hport hcfg htb hidle hsettled hfree
  case place =>
    refine .of_body (fun _ _ => rfl) (by decide) ?body ?length
    case body =>
      rintro c q ⟨hok, hstate, hidle, hmay, hplaced, hfree⟩
      obtain ⟨⟨g, t⟩, hgt⟩ := Option.isSome_iff_exists.mp hplaced
      rw [hgt]
      exact flowPlace_body hok hstate hidle hmay hgt hfree
    case length =>
      intro c q _ _
      cases q.placed (flowOf c) <;> simp [Flow.answer_length]
  case pin =>
    refine .of_body (fun _ _ => rfl) (by decide) ?body ?length
    case body =>
      rintro c q ⟨hok, hegress, hwords, hstate, hidle, hmay, hconflict, hfits, hbooked, hfree⟩
      obtain ⟨⟨g, t⟩, hgt⟩ := Option.isSome_iff_exists.mp hbooked
      rw [hgt]
      exact flowPin_body hok hegress hwords hstate hidle hmay hconflict hfits hgt hfree
    case length =>
      intro c q _ _
      split <;> simp [Flow.answer_length]
  case remove =>
    refine .of_silent_body (fun _ _ => rfl) (by decide) ?_
    rintro c q ⟨hsome, hstate, hidle, hfree⟩
    obtain ⟨f, hf⟩ := Option.isSome_iff_exists.mp hsome
    rw [hf]
    exact flowRemove_body hf hstate hidle hfree
  case commit =>
    refine .of_body (fun _ _ => rfl) (by decide) ?_
    rintro c q ⟨hstate, hidle, hsettled, hfree⟩
    exact flowCommit_body hstate hidle hsettled hfree
  case discard =>
    refine .of_silent_body (fun _ _ => rfl) (by decide) ?_
    rintro c q ⟨hstate, hidle⟩
    exact need_pos (by rw [decide_eq_true hstate, hidle]; rfl)
  case query =>
    refine .of_body (fun _ _ => rfl) (by decide) ?body ?length
    case body =>
      intro c q hsome
      obtain ⟨x, hbind⟩ := Option.isSome_iff_exists.mp hsome
      obtain ⟨f, hf, hx⟩ := Option.bind_eq_some_iff.mp hbind
      rw [hf]
      simp only [hx]
      exact flowQuery_body hf hx
    case length =>
      intro c q _ _
      split
      · simp
      · split <;> simp [State.queryWords]
  case cfg =>
    refine .of_silent_body (fun _ _ => rfl) (by decide) ?_
    rintro c q ⟨hok, hstate, hfree⟩
    exact (need_pos hok).trans <| (need_pos (by simpa using hstate)).trans (writeCfg_unlocked hfree)
end

section
/-! SUPPORT. The bodies of the RED commands under the conditions that let them complete (R427, R428, R445, R448, R451). -/

open Sys2Proof Sys2Proof.Machine
namespace Sys2Proof.Machine

section

variable {c : Ctx} {q : State}

theorem redCtxCfg_body (hok : ctxOk (c.arg 2) (c.arg 3) (c.arg 4) = true) (hhost : foresterCtx (c.bits 1 12 0) = false)
    (hidle : (q.sctxOf (c.bits 1 12 0)).frozen (c.arg 2) = false) (hfree : q.worldLocked (q.entryNonSecure 16) = false) :
    cmdRedCtxCfg.body c q = done (q.ctxSet (c.bits 1 12 0) (c.arg 2) (c.arg 3) (c.arg 4)) [] :=
  (need_pos (by rw [hok, hhost]; rfl)).trans <| (need_pos (congrArg not hidle)).trans (unlessLocked_free hfree)

theorem redPairCfg_body (hmode : q.mode ≠ 1 ∧ q.mode ≠ 5 ∨ c.image = true) (hcfg : R.RD_PAIR_CFG.ok (c.arg 1) = true)
    (hcfg2 : R.RD_PAIR_CFG2.ok (c.arg 2) = true) (hrole : R.RD_ROLE_CFG.ok (c.arg 3) = true)
    (htb : q.tbOn (c.bits 1 30 28) = true) (ha : q.pairFits (c.bits 1 27 22) = true)
    (hb : q.pairFits (c.bits 1 21 16) = true)
    (hfree : q.unlocked (R.RD_PAIR_CFG.writes (c.arg 1) ++ R.RD_PAIR_CFG2.writes (c.arg 2) ++ R.RD_ROLE_CFG.writes (c.arg 3))) :
    cmdRedPairCfg.body c q = done (((q.cfgWrites (R.RD_PAIR_CFG.writes (c.arg 1) ++ R.RD_PAIR_CFG2.writes (c.arg 2)
      ++ R.RD_ROLE_CFG.writes (c.arg 3))).agentUpd fun x => { x with dropping := false }).pairLink).outSync [] := by
  refine (need_pos ?_).trans <| (need_pos ?_).trans <| (need_pos (by rw [ha, hb]; rfl)).trans (writeCfg_unlocked hfree)
  · rcases hmode with ⟨h1, h5⟩ | h
    · simp [h1, h5]
    · simp [h]
  · rw [hcfg, hcfg2, hrole, htb]
    rfl

theorem redRole_body_release (hop : c.bits 1 1 0 = 0) (hfree : q.worldLocked (q.entryNonSecure 17) = false) :
    cmdRedRole.body c q = done (q.dropRole 0) [] := by
  simp only [cmdRedRole, hop]
  exact unlessLocked_free hfree

theorem redRole_body_handover (hop : c.bits 1 1 0 = 1) (hlink : q.on R.RD_PAIR_STAT_LINK_UP = true)
    (harmed : (q.agent.role.map fun r => bitOf r.state 1) = some true) (hheld : q.roleHeld = true)
    (hidle : q.agent.handover = none) (hfree : q.worldLocked (q.entryNonSecure 17) = false) :
    cmdRedRole.body c q = done ((q.agentUpd fun x => { x with handover := some (linear q.handoverAt, true, false) }).sendRole 1
      (linear q.handoverAt)) (timeWords q.handoverAt) := by
  obtain ⟨r, hr, hbit⟩ := Option.map_eq_some_iff.mp harmed
  simp only [cmdRedRole, hop, hr]
  exact (need_pos (by rw [hlink, hbit, hheld]; rfl)).trans <| (need_pos (by rw [hidle]; rfl)).trans (unlessLocked_free hfree)

end

end Sys2Proof.Machine

/-- Settles O32: in each clause the conditions that the command's body asks for hold, and no lock refuses its writes (that a
release asks for `dropRole 0` is log entry 88, and that an image entry passes the mode check of RED.PAIR_CFG is log entry
237). -/
theorem redCommandsComplete : Obligations.RedCommandsComplete := by
  unfold Obligations.RedCommandsComplete
  refine ⟨?status, ?ctxCfg, ?ctxStatus, ?ctxReset, ?pairCfg, ?release, ?handover, ?health, ?healthRun, ?loopBreak⟩
  case status => exact .of_body (fun _ _ => rfl) (by decide) (fun _ _ _ => rfl) fun _ _ _ _ => by simp [count64]
  case ctxCfg =>
    refine .of_silent_body (fun _ _ => rfl) (by decide) ?_
    rintro c q ⟨hok, hhost, hidle, hfree⟩
    exact redCtxCfg_body hok hhost hidle hfree
  case ctxStatus =>
    refine .of_body (fun _ _ => rfl) (by decide) (fun _ _ _ => rfl) fun c q _ _ => ?_
    simp [State.ctxWords, List.length_flatMap]
  case ctxReset =>
    refine .of_silent_body (fun _ _ => rfl) (by decide) ?_
    rintro c q ⟨hhost, hfree⟩
    exact (need_pos (congrArg not hhost)).trans (unlessLocked_free hfree)
  case pairCfg =>
    refine .of_silent_body (fun _ _ => rfl) (by decide) ?_
    rintro c q ⟨hmode, hcfg, hcfg2, hrole, htb, ha, hb, hfree⟩
    exact redPairCfg_body hmode hcfg hcfg2 hrole htb ha hb hfree
  case release =>
    refine .of_silent_body (fun _ _ => rfl) (by decide) ?_
    rintro c q ⟨hop, hfree⟩
    exact redRole_body_release hop hfree
  case handover =>
    refine .of_body (fun _ _ => rfl) (by decide) ?_ fun _ _ _ _ => by simp [timeWords]
    rintro c q ⟨hop, hlink, harmed, hheld, hidle, hfree⟩
    exact redRole_body_handover hop hlink harmed hheld hidle hfree
  case health =>
    refine .of_body (fun _ _ => rfl) (by decide) (fun c q hop => ?_) fun _ _ _ _ => by simp
    exact if_neg (by rw [hop]; decide)
  case healthRun =>
    refine .of_body (fun _ _ => rfl) (by decide) ?_
    rintro c q ⟨hop, -⟩
    exact if_pos hop
  case loopBreak =>
    refine .of_silent_body (fun _ _ => rfl) (by decide) ?_
    rintro c q ⟨hport, hfree⟩
    exact (need_pos (decide_eq_true hport)).trans (writeCfg_unlocked hfree)
end

section
/-! SUPPORT. The bodies of the SEC commands under the conditions that let them complete (R505, R506, R509, R512, R513). -/

open Sys2Proof Sys2Proof.Machine
namespace Sys2Proof.Machine

/-- A move of a block, a region or a partition that no lock refuses is made, and the vectors it makes pending are signalled. -/
theorem worldChange_free {q : State} {was now : Bool} {f : Fld} {k : Nat} (hs : q.worldLocked false = false)
    (hwas : q.worldLocked was = false) (hnow : q.worldLocked now = false) :
    worldChange q was now f k = done ((q.cfgWrites [{ f := f, v := withBit (q.get f) k now }]).signal q false) [] := by
  simp [worldChange, State.putWorld, hs, hwas, hnow]

section

variable {c : Ctx} {q : State}

theorem secBlockWorld_body (hlt : c.bits 1 5 0 < 48) (hfixed : fixedEntry (c.bits 1 5 0) = true → c.bit 1 8 = false)
    (hs : q.worldLocked false = false) (hwas : q.worldLocked (q.entryNonSecure (c.bits 1 5 0)) = false)
    (hnow : q.worldLocked (c.bit 1 8) = false) :
    cmdSecBlockWorld.body c q = done ((q.cfgWrites
      [{ f := if c.bits 1 5 0 < 32 then R.FB_BLK_WORLD_LO_ENTRY else R.FB_BLK_WORLD_HI_ENTRY
         v := withBit (q.get (if c.bits 1 5 0 < 32 then R.FB_BLK_WORLD_LO_ENTRY else R.FB_BLK_WORLD_HI_ENTRY))
           (c.bits 1 5 0 % 32) (c.bit 1 8) }]).signal q false) [] := by
  refine (need_pos (decide_eq_true hlt)).trans <| (need_pos ?_).trans (worldChange_free hs hwas hnow)
  cases hf : fixedEntry (c.bits 1 5 0) with
  | false => rfl
  | true => rw [hfixed hf]; rfl

theorem secRegionWorld_body (himage : (c.bits 1 4 0 < 8 ∨ 16 ≤ c.bits 1 4 0 ∧ c.bits 1 4 0 < 24) →
      q.ctl.fwVersion.isSome = true → bitOf (q.get R.FB_REGION_WORLD_REGION) (c.bits 1 4 0) = c.bit 1 8)
    (hs : q.worldLocked false = false)
    (hwas : q.worldLocked (bitOf (q.get R.FB_REGION_WORLD_REGION) (c.bits 1 4 0)) = false)
    (hnow : q.worldLocked (c.bit 1 8) = false) :
    cmdSecRegionWorld.body c q = done ((q.cfgWrites 
      [{ f := R.FB_REGION_WORLD_REGION
         v := withBit (q.get R.FB_REGION_WORLD_REGION) (c.bits 1 4 0) (c.bit 1 8) }]).signal q false) [] := by
  refine (need_pos ?_).trans (worldChange_free hs hwas hnow)
  by_cases hregion : c.bits 1 4 0 < 8 ∨ 16 ≤ c.bits 1 4 0 ∧ c.bits 1 4 0 < 24
  · cases hfw : q.ctl.fwVersion.isSome with
    | false => simp
    | true => simp [himage hregion hfw]
  · have hnot : (decide (c.bits 1 4 0 < 8) || (decide (16 ≤ c.bits 1 4 0) && decide (c.bits 1 4 0 < 24))) = false := by
      simpa using hregion
    rw [hnot]
    rfl

theorem secLock_body (hworld : c.secure = true ∨ c.bit 1 0 = false) (hsome : 1 ≤ c.args.length) :
    cmdSecLock.body c q = done (if c.bit 1 1 then (if c.bit 1 0 then q.lockWorld false else q).lockWorld true
        else (if c.bit 1 0 then q.lockWorld false else q))
      [(if c.bit 1 1 then (if c.bit 1 0 then q.lockWorld false else q).lockWorld true
          else (if c.bit 1 0 then q.lockWorld false else q)).get R.CFG_LOCK_S_LOCK
        + 2 * (if c.bit 1 1 then (if c.bit 1 0 then q.lockWorld false else q).lockWorld true
          else (if c.bit 1 0 then q.lockWorld false else q)).get R.CFG_LOCK_N_LOCK] := by
  refine (need_pos ?_).trans (need_pos (decide_eq_true hsome))
  rcases hworld with h | h <;> simp [h]

theorem secCrcCommit_body (hgiven : c.bit 1 0 = true → 2 ≤ c.args.length) (hidle : q.on R.CI_STAT_PENDING = false) :
    cmdSecCrcCommit.body c q = { st := q.acceptCommit (c.bits 1 0 0) (c.arg 2) c.mb, wait := true } := by
  refine (need_pos ?_).trans (need_pos (congrArg not hidle))
  cases hop : c.bit 1 0 with
  | false => rfl
  | true => rw [decide_eq_true (hgiven hop)]; rfl

theorem secViolRead_body (hworld : c.secure = true ∨ c.bit 1 16 = false) (hargs : 1 ≤ c.args.length)
    (hsome : 1 ≤ c.bits 1 11 8) (hmost : c.bits 1 11 8 ≤ 12) :
    cmdSecViolRead.body c q = done (if c.bit 1 16 then q.clearViolations else q)
      ((min (c.bits 1 11 8) (q.get R.FB_VIOL_STAT_COUNT - c.bits 1 3 0))
        :: ((List.range (min (c.bits 1 11 8) (q.get R.FB_VIOL_STAT_COUNT - c.bits 1 3 0))).flatMap
          fun k => q.violWords (c.bits 1 3 0 + k))) := by
  refine (need_pos ?_).trans (need_pos ?_)
  · rcases hworld with h | h <;> simp [h]
  · rw [decide_eq_true hargs, decide_eq_true hsome, decide_eq_true hmost]
    rfl

end

end Sys2Proof.Machine

/-- Settles O33: in each clause the conditions that the command's body asks for hold, and no lock refuses its writes (that a
move to the present world is OK is log entry 136, and that the vectors made pending are signalled at once is log entry 253). -/
theorem secCommandsComplete : Obligations.SecCommandsComplete := by
  unfold Obligations.SecCommandsComplete
  refine ⟨?status, ?blockWorld, ?regionWorld, ?partWorld, ?lock, ?crcCommit, ?violRead, ?window, ?debugUnlock⟩
  case status => exact .of_body (fun _ _ => rfl) (by decide) (fun _ _ _ => rfl) fun _ _ _ _ => by simp
  case blockWorld =>
    refine .of_silent_body (fun _ _ => rfl) (by decide) ?_
    rintro c q ⟨hlt, hfixed, hs, hwas, hnow⟩
    exact secBlockWorld_body hlt hfixed hs hwas hnow
  case regionWorld =>
    refine .of_silent_body (fun _ _ => rfl) (by decide) ?_
    rintro c q ⟨himage, hs, hwas, hnow⟩
    exact secRegionWorld_body himage hs hwas hnow
  case partWorld =>
    refine .of_silent_body (fun _ _ => rfl) (by decide) ?_
    rintro c q ⟨hs, hwas, hnow⟩
    exact worldChange_free hs hwas hnow
  case lock =>
    refine .of_body (fun _ _ => rfl) (by decide) ?_ fun _ _ _ _ => by simp
    rintro c q ⟨hworld, hsome⟩
    exact secLock_body hworld hsome
  case crcCommit =>
    refine .of_body (fun _ _ => rfl) (by decide) ?_
    rintro c q ⟨hgiven, hidle⟩
    exact secCrcCommit_body hgiven hidle
  case violRead =>
    refine .of_body (fun _ _ => rfl) (by decide) ?body ?length
    case body =>
      rintro c q ⟨hworld, hargs, hsome, hmost⟩
      exact secViolRead_body hworld hargs hsome hmost
    case length =>
      rintro c q ⟨-, -, -, hmost⟩ -
      simp only [List.length_cons, List.length_flatMap, State.violWords, List.length_nil, List.map_const', List.length_range,
        List.sum_replicate, smul_eq_mul]
      omega
  case window =>
    refine .of_silent_body (fun _ _ => rfl) (by decide) fun c q hfree => ?_
    simp only [cmdSecWindow]
    exact writeCfg_unlocked hfree
  case debugUnlock =>
    refine .of_body (fun _ _ => rfl) (by decide) (fun c q hfree => ?_) fun _ _ _ _ => by simp
    simp only [cmdSecDebugUnlock]
    exact writeCfg_unlocked hfree
end

section
/-! SUPPORT. The bodies of the CAL commands under the conditions that let them complete (R594 to R596, R601 to R605). -/

open Sys2Proof Sys2Proof.Machine
namespace Sys2Proof.Machine

/-- No lock covers the block that a calibration of K_TX or of the die offsets writes. -/
theorem State.calUnlocked_free {q : State} {item k : Nat} {r : Res}
    (hk : item = 5 → q.worldLocked (q.entryNonSecure (blockEntry (R.PT_KTXp_K_TX.addr + R.PT_KTXp_K_TX.s1 * k))) = false)
    (hdie : item = 4 → q.worldLocked (q.entryNonSecure (blockEntry R.PT_DIE_OFS_DIE_OFS.addr)) = false) :
    q.calUnlocked item k r = r := by
  unfold State.calUnlocked
  split
  next h => exact unlessLocked_free (hk h)
  split
  next h => exact unlessLocked_free (hdie h)
  rfl

theorem CalRes.flatMap_words_length (l : List CalRes) : (l.flatMap CalRes.words).length = 4 * l.length := by
  induction l with
  | nil => rfl
  | cons x l ih =>
    rw [List.flatMap_cons, List.length_append, ih, List.length_cons, CalRes.words]
    simp only [List.length_cons, List.length_nil]
    omega

section

variable {c : Ctx} {q : State}

theorem calRun_body_abort (hmode : q.mode = 4) (hawake : q.blkState 36 = 0) (hargs : 1 ≤ c.args.length)
    (hstop : c.bit 1 17 = true) :
    cmdCalRun.body c q = done (if q.calRuns then q.calAbort 4 else q)
      [(if q.calRuns then q.calAbort 4 else q).get R.CA_RUN_STAT_RUN_SEQ] :=
  (need_pos (by rw [hmode, hawake]; rfl)).trans <| (need_pos (decide_eq_true hargs)).trans (if_pos hstop)

/-- The targets of a CAL.RUN. -/
def calTargetsOf (c : Ctx) (q : State) : List Nat := q.calTargetsOf (c.bits 1 3 0) (c.bits 1 15 8) (c.bits 4 23 16)

theorem calRun_body_begin (hmode : q.mode = 4) (hawake : q.blkState 36 = 0) (hargs : 1 ≤ c.args.length)
    (hstop : c.bit 1 17 = false) (hsome : 1 ≤ c.bits 1 3 0) (hmost : c.bits 1 3 0 ≤ 8)
    (htarget : c.bits 1 15 8 = 255 ∨ c.bits 1 15 8 < calTargets (c.bits 1 3 0))
    (hwords : (if c.bits 1 3 0 = 7 then 4 else if c.bits 1 3 0 = 5 ∨ c.bits 1 3 0 = 6 then 2 else 1) ≤ c.args.length)
    (hlen : c.bits 1 3 0 = 7 → c.bits 4 15 0 ≠ 0)
    (hup : c.bits 1 15 8 = 255 ∨ q.calAsleep (c.bits 1 3 0) (c.bits 1 15 8) = false) (hidle : q.calRuns = false)
    (hrefs : q.calRefs (c.bits 1 3 0) = true)
    (hcond : ((calTargetsOf c q).any fun k => q.calCond (c.bits 1 3 0) k (c.bits 4 23 16)) = true)
    (hk : c.bits 1 3 0 = 5 → q.worldLocked (q.entryNonSecure (blockEntry
      (R.PT_KTXp_K_TX.addr + R.PT_KTXp_K_TX.s1 * (calTargetsOf c q).headD 0))) = false)
    (hdie : c.bits 1 3 0 = 4 → q.worldLocked (q.entryNonSecure (blockEntry R.PT_DIE_OFS_DIE_OFS.addr)) = false) :
    cmdCalRun.body c q = done (q.calBegin (c.bits 1 3 0) (c.bit 1 16) (c.args.drop 1) (calTargetsOf c q))
      [(q.calBegin (c.bits 1 3 0) (c.bit 1 16) (c.args.drop 1) (calTargetsOf c q)).get R.CA_RUN_STAT_RUN_SEQ] := by
  refine (need_pos (by rw [hmode, hawake]; rfl)).trans <| (need_pos (decide_eq_true hargs)).trans <|
    (if_neg (by rw [hstop]; decide)).trans <| (need_pos ?badArg).trans <| (need_pos ?awake).trans <|
    (need_pos (congrArg not hidle)).trans <| (need_pos ?checkFail).trans (State.calUnlocked_free hk hdie)
  case badArg =>
    have hitem : (c.bits 1 3 0 != 7 || c.bits 4 15 0 != 0) = true := by
      by_cases h : c.bits 1 3 0 = 7
      · simp [hlen h]
      · simp [h]
    have hname : (c.bits 1 15 8 == 255 || decide (c.bits 1 15 8 < calTargets (c.bits 1 3 0))) = true := by
      simpa using htarget
    rw [decide_eq_true hsome, decide_eq_true hmost, hname, decide_eq_true hwords, hitem]
    rfl
  case awake => simpa using hup
  case checkFail =>
    rw [hrefs]
    exact hcond

/-- The payload of a CAL.RECORD_WRITE and how many words its record holds. -/
def calRecLen (c : Ctx) : Nat :=
  if c.bits 1 7 0 = 0x12 then max 2 (min 11 (c.args.length - 1)) else recLen (c.bits 1 7 0) (c.bits 1 31 16)

def calPayload (c : Ctx) : List Nat := (c.args.drop 1).take (calRecLen c)

section

variable (hforce : q.forceOk (c.bit 1 8) = true) (hargs : 1 ≤ c.args.length) (hkey : c.bits 1 31 16 < recKeys (c.bits 1 7 0))
  (hidle : q.calWrites (c.bits 1 7 0) (c.bits 1 31 16) = false)
  (htype : [0x01, 0x02, 0x04].contains (c.bits 1 7 0) = false)

include hforce hargs hkey hidle htype

theorem calRecordWrite_body_erase (herase : c.bit 1 9 = true) (hroot : c.bits 1 7 0 ≠ 0x03) :
    cmdCalRecordWrite.body c q = done ((q.nvDrop (c.bits 1 7 0) (c.bits 1 31 16) none).relook (c.bits 1 7 0) (c.bits 1 31 16))
      [((q.nvFind (c.bits 1 7 0) (c.bits 1 31 16) none).map Prod.fst).getD 0] := by
  refine (need_pos hforce).trans <| (need_pos ?badArg).trans <| (need_pos (congrArg not hidle)).trans <|
    (need_pos ?checkFail).trans (if_pos herase)
  case badArg => rw [decide_eq_true hargs, decide_eq_true hkey, herase]; rfl
  case checkFail =>
    rw [htype, beq_eq_false_iff_ne.mpr hroot]
    rfl

theorem calRecordWrite_body_write (herase : c.bit 1 9 = false) (hlen : (calPayload c).length = calRecLen c)
    (hroot : c.bits 1 7 0 = 0x03 → q.rootOk (c.bits 1 31 16) (calPayload c) = true)
    (hplausible : q.plausible (c.bits 1 7 0) (c.bits 1 31 16) none (calPayload c) (c.bit 1 8) = 0) {k : Nat} {t : State}
    (hput : q.nvPut (c.bits 1 7 0) (c.bits 1 31 16) none (calPayload c) = some (k, t)) :
    cmdCalRecordWrite.body c q = done (t.relook (c.bits 1 7 0) (c.bits 1 31 16)) [k] := by
  unfold calPayload calRecLen at hlen hroot hplausible hput
  simp only [cmdCalRecordWrite, hput]
  refine (need_pos hforce).trans <| (need_pos ?badArg).trans <| (need_pos (congrArg not hidle)).trans <|
    (need_pos ?checkFail).trans <| (if_neg (by rw [herase]; decide)).trans (if_neg (by simpa using hplausible))
  case badArg =>
    rw [decide_eq_true hargs, decide_eq_true hkey, herase]
    exact beq_iff_eq.mpr hlen
  case checkFail =>
    rw [htype, herase]
    by_cases h : c.bits 1 7 0 = 0x03
    · rw [hroot h]
      simp
    · simp [h]

end

theorem calRecordRead_body_found (hkey : c.bits 1 31 16 < recKeys (c.bits 1 7 0)) {k : Nat} {w : List Nat}
    (hfind : q.nvFind (c.bits 1 7 0) (c.bits 1 31 16) (if 2 ≤ c.args.length then some (c.bits 2 19 0) else none) = some (k, w)) :
    cmdCalRecordRead.body c q = done q ((2 ^ 31 + k) :: (List.range 16).map fun i => w.getD i 0) := by
  simp only [cmdCalRecordRead, hfind]
  exact need_pos (decide_eq_true hkey)

theorem calRecordRead_body_absent (hkey : c.bits 1 31 16 < recKeys (c.bits 1 7 0))
    (hfind : q.nvFind (c.bits 1 7 0) (c.bits 1 31 16) (if 2 ≤ c.args.length then some (c.bits 2 19 0) else none) = none) :
    cmdCalRecordRead.body c q = done q (List.replicate 17 0) := by
  simp only [cmdCalRecordRead, hfind]
  exact need_pos (decide_eq_true hkey)

theorem calLinkRecord_body_erase (hforce : q.forceOk (c.bit 1 9) = true) (herase : c.bit 1 8 = true) (hargs : 2 ≤ c.args.length)
    (hport : c.bits 1 5 0 < 48) (hidle : q.calWrites 0x20 (c.bits 1 5 0) = false) :
    cmdCalLinkRecord.body c q
      = done ((q.nvDrop 0x20 (c.bits 1 5 0) (some (c.bits 2 19 0))).relook 0x20 (c.bits 1 5 0)) [0] := by
  refine (need_pos hforce).trans <| (need_pos ?_).trans <| (need_pos (congrArg not hidle)).trans (if_pos herase)
  rw [herase, if_pos rfl, decide_eq_true hargs, decide_eq_true hport]
  rfl

theorem calLinkRecord_body_write (hforce : q.forceOk (c.bit 1 9) = true) (herase : c.bit 1 8 = false)
    (hargs : 5 ≤ c.args.length) (hport : c.bits 1 5 0 < 48) (hspan : c.bits 3 15 0 ≠ 0)
    (hidle : q.calWrites 0x20 (c.bits 1 5 0) = false)
    (hplausible : q.plausible 0x20 (c.bits 1 5 0) (some (c.bits 2 19 0)) [c.bits 3 15 0, c.arg 4, c.arg 5, 0] (c.bit 1 9) = 0)
    {k : Nat} {t : State}
    (hput : q.nvPut 0x20 (c.bits 1 5 0) (some (c.bits 2 19 0)) [c.bits 3 15 0, c.arg 4, c.arg 5, 0] = some (k, t)) :
    cmdCalLinkRecord.body c q
      = done (t.relook 0x20 (c.bits 1 5 0)) [asymCheck q.nodeId (c.bits 2 19 0) (Tab.get [] t.nv k)] := by
  simp only [cmdCalLinkRecord, hput]
  refine (need_pos hforce).trans <| (need_pos ?_).trans <| (need_pos (congrArg not hidle)).trans <|
    (if_neg (by rw [herase]; decide)).trans (if_neg (by simpa using hplausible))
  rw [herase, if_neg (by decide), decide_eq_true hargs, decide_eq_true hport]
  simpa using hspan

end

end Sys2Proof.Machine

/-- Settles O35: in each clause the conditions that the command's body asks for hold, and no lock refuses its writes (that an
abort with no run answers OK is log entry 153, and that the erasure of an absent record answers slot 0 is log entry 160). -/
theorem calCommandsComplete : Obligations.CalCommandsComplete := by
  unfold Obligations.CalCommandsComplete
  refine ⟨?status, ?abort, ?run, ?result, ?eraseRecord, ?writeRecord, ?readRecord, ?readAbsent, ?eraseLink, ?writeLink⟩
  case status => exact .of_body (fun _ _ => rfl) (by decide) (fun _ _ _ => rfl) fun _ _ _ _ => by simp
  case abort =>
    refine .of_body (fun _ _ => rfl) (by decide) ?_ fun _ _ _ _ => by simp
    rintro c q ⟨hmode, hawake, hargs, hstop⟩
    exact calRun_body_abort hmode hawake hargs hstop
  case run =>
    refine .of_body (fun _ _ => rfl) (by decide) ?_ fun _ _ _ _ => by simp
    rintro c q ⟨hmode, hawake, hargs, hstop, hsome, hmost, htarget, hwords, hlen, hup, hidle, hrefs, hcond, hk, hdie⟩
    exact calRun_body_begin hmode hawake hargs hstop hsome hmost htarget hwords hlen hup hidle hrefs hcond hk hdie
  case result =>
    refine .of_body (fun _ _ => rfl) (by decide) (fun _ _ _ => rfl) fun c q _ _ => ?_
    rw [List.length_cons, CalRes.flatMap_words_length, List.length_take]
    omega
  case eraseRecord =>
    refine .of_body (fun _ _ => rfl) (by decide) ?_ fun _ _ _ _ => by simp
    rintro c q ⟨hforce, hargs, hkey, hidle, htype, herase, hroot⟩
    exact calRecordWrite_body_erase hforce hargs hkey hidle htype herase hroot
  case writeRecord =>
    refine .of_body (fun _ _ => rfl) (by decide) ?_ fun _ _ _ _ => by simp
    rintro c q ⟨hforce, hargs, hkey, hidle, htype, herase, hlen, hroot, hplausible, hput⟩
    obtain ⟨⟨k, t⟩, ht⟩ := Option.isSome_iff_exists.mp hput
    rw [ht]
    exact calRecordWrite_body_write hforce hargs hkey hidle htype herase hlen hroot hplausible ht
  case readRecord =>
    refine .of_body (fun _ _ => rfl) (by decide) ?_ fun _ _ _ _ => by simp
    rintro c q ⟨hkey, hsome⟩
    obtain ⟨⟨k, w⟩, hkw⟩ := Option.isSome_iff_exists.mp hsome
    rw [hkw]
    exact calRecordRead_body_found hkey hkw
  case readAbsent =>
    refine .of_body (fun _ _ => rfl) (by decide) ?_ fun _ _ _ _ => by simp
    rintro c q ⟨hkey, hnone⟩
    exact calRecordRead_body_absent hkey hnone
  case eraseLink =>
    refine .of_body (fun _ _ => rfl) (by decide) ?_ fun _ _ _ _ => by simp
    rintro c q ⟨hforce, herase, hargs, hport, hidle⟩
    exact calLinkRecord_body_erase hforce herase hargs hport hidle
  case writeLink =>
    refine .of_body (fun _ _ => rfl) (by decide) ?_ fun _ _ _ _ => by simp
    rintro c q ⟨hforce, herase, hargs, hport, hspan, hidle, hplausible, hput⟩
    obtain ⟨⟨k, t⟩, ht⟩ := Option.isSome_iff_exists.mp hput
    rw [ht]
    exact calLinkRecord_body_write hforce herase hargs hport hspan hidle hplausible ht
end

section
/-! SUPPORT. The bodies of the TEL commands under the conditions that let them complete (R525 to R548). -/

open Sys2Proof Sys2Proof.Machine
namespace Sys2Proof.Machine

section

variable {c : Ctx} {q : State}

theorem telCounterCfg_body (hgroup : (if c.bit 1 0 then 0 else c.bits 1 11 8) < 12)
    (hcounter : c.bit 1 0 = true ∨ c.bits 1 20 16 < 8)
    (hevent : evnumOk (c.bit 1 0) (if c.bit 1 0 then 0 else c.bits 1 11 8) (c.bits 2 25 16) (c.bits 2 5 0) = true)
    (hfree : q.unlocked (cntWrites (c.bit 1 0) (if c.bit 1 0 then 0 else c.bits 1 11 8) (c.bits 1 20 16) (c.arg 2) (c.arg 3)
      (c.arg 4))) :
    cmdTelCounterCfg.body c q = done ((q.cfgWrites (cntWrites (c.bit 1 0) (if c.bit 1 0 then 0 else c.bits 1 11 8)
      (c.bits 1 20 16) (c.arg 2) (c.arg 3) (c.arg 4))).restartCnt (c.bit 1 0) (if c.bit 1 0 then 0 else c.bits 1 11 8)
        (c.bits 1 20 16)) [] := by
  refine (need_pos ?_).trans (writeCfg_unlocked hfree)
  rw [decide_eq_true hgroup, hevent]
  rcases hcounter with h | h <;> simp [h]

/-- The last index of a kind of counters that TEL.READ answers, and how many a request gets. -/
def telLast (c : Ctx) : Nat := if c.bits 1 1 0 = 0 then 63 else if c.bits 1 1 0 = 1 then 7 else 31

def telCount (c : Ctx) : Nat := min (c.bits 1 28 24) (telLast c + 1 - c.bits 1 21 16)

theorem telRead_body_counters (hkind : c.bits 1 1 0 ≠ 3)
    (hgroup : c.bits 1 13 8 < (if c.bits 1 1 0 = 1 then 12 else if c.bits 1 1 0 = 2 then 64 else 48))
    (hfirst : c.bits 1 21 16 ≤ telLast c) (hsome : 1 ≤ c.bits 1 28 24) (hmost : c.bits 1 28 24 ≤ 30) :
    cmdTelRead.body c q = done q (telCount c :: (List.range (telCount c)).flatMap fun k =>
      [(q.cntValue (cntOff (c.bits 1 1 0) (c.bits 1 13 8) (c.bits 1 21 16 + k))).getD 0 % 2 ^ 32,
       (q.cntValue (cntOff (c.bits 1 1 0) (c.bits 1 13 8) (c.bits 1 21 16 + k))).getD 0 / 2 ^ 32]) := by
  refine (need_pos ?_).trans (if_neg hkind)
  unfold telLast at hfirst
  rw [decide_eq_true hgroup, decide_eq_true hfirst, decide_eq_true hsome, decide_eq_true hmost, Bool.true_and]
  exact Bool.or_true _

theorem telRead_body_windows (hkind : c.bits 1 1 0 = 3) (hport : c.bits 1 13 8 < 48) :
    cmdTelRead.body c q
      = done (q.draw 32).2 ((q.draw 32).1 :: (List.range 14).map fun k => (q.bwOf (c.bits 1 13 8)).result.getD k 0) := by
  refine (need_pos ?_).trans (if_pos hkind)
  simp [hkind, hport]

theorem telWindowCfg_body (hport : c.bits 1 5 0 < 48) (hcfg : R.TL_BWp_CFG.ok (c.arg 2) = true)
    (hper : R.TL_BWp_PER.ok (c.arg 3) = true)
    (hfree : q.unlocked (bwWrites (c.bits 1 5 0) 0 (c.arg 2) ++ bwWrites (c.bits 1 5 0) 1 (c.arg 3)
      ++ bwWrites (c.bits 1 5 0) 2 (c.arg 4))) :
    cmdTelWindowCfg.body c q = done ((q.cfgWrites (bwWrites (c.bits 1 5 0) 0 (c.arg 2) ++ bwWrites (c.bits 1 5 0) 1 (c.arg 3)
      ++ bwWrites (c.bits 1 5 0) 2 (c.arg 4))).restartBw (c.bits 1 5 0)) [] :=
  (need_pos (by rw [decide_eq_true hport, hcfg, hper]; rfl)).trans (writeCfg_unlocked hfree)

section

variable (hworld : c.secure = true ∨ q.entryNonSecure 34 = true) (hawake : q.asleep 34 = false)

include hworld

theorem tally_world : (c.secure || q.entryNonSecure 34) = true := by
  rcases hworld with h | h <;> simp [h]

include hawake

theorem telTallyCfg_body_ring (hring : c.bit 1 0 = true) (hargs : 6 ≤ c.args.length)
    (hok : ringOk (c.arg 2) (c.arg 3) (c.arg 4) = true)
    (hidle : q.on R.TL_RING_CFG_EN = true →
      q.changesMore R.TL_RING_CFG_EN ((List.range 5).flatMap fun w => ringWrites w (c.arg (2 + w))) = false)
    (hplace : q.ringWorld (c.arg 2) (c.arg 3) = true)
    (hfree : q.unlocked ((List.range 5).flatMap fun w => ringWrites w (c.arg (2 + w)))) :
    cmdTelTallyCfg.body c q = done ((q.cfgWrites ((List.range 5).flatMap fun w => ringWrites w (c.arg (2 + w)))).ringEn
      (q.on R.TL_RING_CFG_EN)) [] := by
  refine (need_pos (tally_world hworld)).trans <| (need_pos (congrArg not hawake)).trans <| (if_pos hring).trans <|
    (need_pos (by rw [decide_eq_true hargs, hok]; rfl)).trans <| (need_pos ?busy).trans <| (need_pos hplace).trans
    (writeCfg_unlocked hfree)
  case busy =>
    cases hen : q.on R.TL_RING_CFG_EN with
    | false => rfl
    | true => rw [hidle hen]; rfl

theorem telTallyCfg_body_sampler (hring : c.bit 1 0 = false) (hargs : 6 ≤ c.args.length)
    (hok : R.TL_TSs_CFG.ok (c.arg 2) = true)
    (hidle : q.on R.TL_TSs_CFG_EN (c.bits 1 11 8) = true → q.changesMore R.TL_TSs_CFG_EN
      ((List.range 5).flatMap fun w => samplerWrites (c.bits 1 11 8) w (c.arg (2 + w))) = false)
    (hfree : q.unlocked ((List.range 5).flatMap fun w => samplerWrites (c.bits 1 11 8) w (c.arg (2 + w)))) :
    cmdTelTallyCfg.body c q = done ((q.cfgWrites ((List.range 5).flatMap fun w =>
      samplerWrites (c.bits 1 11 8) w (c.arg (2 + w)))).samplerEn (c.bits 1 11 8) (q.on R.TL_TSs_CFG_EN (c.bits 1 11 8))) [] := by
  refine (need_pos (tally_world hworld)).trans <| (need_pos (congrArg not hawake)).trans <|
    (if_neg (by rw [hring]; decide)).trans <| (need_pos (by rw [decide_eq_true hargs, hok]; rfl)).trans <|
    (need_pos ?busy).trans (writeCfg_unlocked hfree)
  case busy =>
    cases hen : q.on R.TL_TSs_CFG_EN (c.bits 1 11 8) with
    | false => rfl
    | true => rw [hidle hen]; rfl

theorem telTallyRead_body_skip (hskip : c.bit 1 0 = true) (hargs : 2 ≤ c.args.length) (hlt : c.arg 2 < q.ringSize)
    (hsem : q.semTaken 36 (c.agent q 34) = false) :
    cmdTelTallyRead.body c q = done (q.set R.TL_RING_RP_RP (c.arg 2)) [0, c.arg 2] :=
  (need_pos (tally_world hworld)).trans <| (need_pos (congrArg not hawake)).trans <| (if_pos hskip).trans <|
    (need_pos (by rw [decide_eq_true hargs, decide_eq_true hlt]; rfl)).trans (underSem_free hsem)

theorem telTallyRead_body_read (hskip : c.bit 1 0 = false) (hargs : 1 ≤ c.args.length) (hsome : 1 ≤ c.bits 1 15 8)
    (hmost : c.bits 1 15 8 ≤ 240) (hlocal : q.on R.TL_RING_CFG_HOST = false) (hsem : q.semTaken 36 (c.agent q 34) = false) :
    cmdTelTallyRead.body c q = done
      (q.set R.TL_RING_RP_RP ((q.get R.TL_RING_RP_RP + min (c.bits 1 15 8) q.ringFill) % q.ringSize))
      (min (c.bits 1 15 8) q.ringFill :: ((q.get R.TL_RING_RP_RP + min (c.bits 1 15 8) q.ringFill) % q.ringSize)
        :: leWords 60 (q.ringBytes (min (c.bits 1 15 8) q.ringFill))) :=
  (need_pos (tally_world hworld)).trans <| (need_pos (congrArg not hawake)).trans <|
    (if_neg (by rw [hskip]; decide)).trans <|
    (need_pos (by rw [decide_eq_true hargs, decide_eq_true hsome, decide_eq_true hmost]; rfl)).trans <|
    (need_pos (congrArg not hlocal)).trans (underSem_free hsem)

end

end

end Sys2Proof.Machine

/-- Settles O34: in each clause the conditions that the command's body asks for hold, and no lock refuses its writes (the
first word of a port's bandwidth results is the free value of log entry 132). -/
theorem telCommandsComplete : Obligations.TelCommandsComplete := by
  unfold Obligations.TelCommandsComplete
  refine ⟨?status, ?counterCfg, ?counters, ?windows, ?windowCfg, ?ring, ?sampler, ?skip, ?read, ?eventCfg⟩
  case status => exact .of_body (fun _ _ => rfl) (by decide) (fun _ _ _ => rfl) fun _ _ _ _ => by simp
  case counterCfg =>
    refine .of_silent_body (fun _ _ => rfl) (by decide) ?_
    rintro c q ⟨hgroup, hcounter, hevent, hfree⟩
    exact telCounterCfg_body hgroup hcounter hevent hfree
  case counters =>
    refine .of_body (fun _ _ => rfl) (by decide) ?body ?length
    case body =>
      rintro c q ⟨hkind, hgroup, hfirst, hsome, hmost⟩
      exact telRead_body_counters hkind hgroup hfirst hsome hmost
    case length =>
      rintro c q ⟨-, -, -, -, hmost⟩ -
      simp only [List.length_cons, List.length_flatMap, List.length_nil, List.map_const', List.length_range,
        List.sum_replicate, smul_eq_mul]
      omega
  case windows =>
    refine .of_body (fun _ _ => rfl) (by decide) ?_ fun _ _ _ _ => by simp
    rintro c q ⟨hkind, hport⟩
    exact telRead_body_windows hkind hport
  case windowCfg =>
    refine .of_silent_body (fun _ _ => rfl) (by decide) ?_
    rintro c q ⟨hport, hcfg, hper, hfree⟩
    exact telWindowCfg_body hport hcfg hper hfree
  case ring =>
    refine .of_silent_body (fun _ _ => rfl) (by decide) ?_
    rintro c q ⟨hworld, hawake, hring, hargs, hok, hidle, hplace, hfree⟩
    exact telTallyCfg_body_ring hworld hawake hring hargs hok hidle hplace hfree
  case sampler =>
    refine .of_silent_body (fun _ _ => rfl) (by decide) ?_
    rintro c q ⟨hworld, hawake, hring, hargs, hok, hidle, hfree⟩
    exact telTallyCfg_body_sampler hworld hawake hring hargs hok hidle hfree
  case skip =>
    refine .of_body (fun _ _ => rfl) (by decide) ?_ fun _ _ _ _ => by simp
    rintro c q ⟨hworld, hawake, hskip, hargs, hlt, hsem⟩
    exact telTallyRead_body_skip hworld hawake hskip hargs hlt hsem
  case read =>
    refine .of_body (fun _ _ => rfl) (by decide) ?body ?length
    case body =>
      rintro c q ⟨hworld, hawake, hskip, hargs, hsome, hmost, hlocal, hsem⟩
      exact telTallyRead_body_read hworld hawake hskip hargs hsome hmost hlocal hsem
    case length => exact fun c q _ _ => Nat.add_le_add_right (leWords_length 60 _) 2 |>.trans (by decide)
  case eventCfg => exact .of_silent_body (fun _ _ => rfl) (by decide) fun _ _ _ => rfl
end

section
/-! SUPPORT. The rows of a pair's comparison, self-test and role, each through the branch that its condition chooses (R430 to
R448). -/

open Sys2Proof Sys2Proof.Machine
namespace Sys2Proof.Machine

theorem State.agentUpd_congr {s : State} {f g : Agent → Agent} (h : f s.agent = g s.agent) : s.agentUpd f = s.agentUpd g := by
  rw [State.agentUpd, State.agentUpd, h]

theorem State.agentUpd_agentUpd (s : State) (f g : Agent → Agent) :
    (s.agentUpd f).agentUpd g = s.agentUpd fun x => g (f x) := rfl

section

variable {s e : State} {dt : Nat} (he : e = s.elapse dt)

include he

/-! ### Comparison -/

theorem exec_compareSend {q : State} (hq : q = e.settleItems) (hruns : q.pairRuns = true) (hms : q.agent.sentMs ≠ q.pairMs) :
    exec (.compareSend dt) s = .next q.sendCompare := by
  change execCompareSend dt s = _
  rw [execCompareSend, ← he, ← hq]
  exact if_pos (by rw [hruns, Bool.true_and]; exact bne_iff_ne.mpr hms)

theorem exec_compareReceived {ms sec utc leap flags digest : Nat} {items : List (Nat × Nat × Nat)} {dly : Int}
    (hruns : e.pairRuns = true) : exec (.compareReceived dt ms items sec utc leap flags dly digest) s
      = .next ((e.takeItems items dly digest).takeTod ms flags { sec := sec, utc := utc, leap := leap }) := by
  change execCompareReceived dt ms items sec utc leap flags dly digest s = _
  rw [execCompareReceived, ← he]
  exact if_neg (by rw [hruns]; decide)

theorem exec_itemExpiry {q : State} (hq : q = e.settleItems) (hown : ∀ i ∈ q.agent.own, q.clk < i.at_ + 4 * 10 ^ 9)
    (htheirs : ∀ i ∈ q.agent.theirs, i.at_ + 4 * 10 ^ 9 ≤ q.clk) :
    exec (.itemExpiry dt) s
      = .next (q.agentUpd fun x => { x with theirs := [], missing := x.missing + q.agent.theirs.length }) := by
  have hkept : q.agent.own.filter (fun i => decide (q.clk < i.at_ + 4 * 10 ^ 9)) = q.agent.own :=
    List.filter_eq_self.mpr fun i hi => decide_eq_true (hown i hi)
  have hold : ∀ i ∈ q.agent.theirs, ¬ q.clk < i.at_ + 4 * 10 ^ 9 := fun i hi => Nat.not_lt.mpr (htheirs i hi)
  have hempty : q.agent.theirs.filter (fun i => decide (q.clk < i.at_ + 4 * 10 ^ 9)) = [] :=
    List.filter_eq_nil_iff.mpr fun i hi h => hold i hi (of_decide_eq_true h)
  have hgone : q.agent.theirs.filter (fun i => !decide (q.clk < i.at_ + 4 * 10 ^ 9)) = q.agent.theirs :=
    List.filter_eq_self.mpr fun i hi => by rw [decide_eq_false (hold i hi)]; rfl
  change execItemExpiry dt s = _
  rw [execItemExpiry, ← he, ← hq]
  refine congrArg Host.Outcome.next (State.agentUpd_congr ?_)
  simp only [hkept, hempty, hgone]

theorem exec_timeCompare_idle (hen : e.on R.RD_PAIR_CFG_EN = true) (hms : e.agent.lastMs ≠ e.pairMs) (hcmp : e.cmpTime = false) :
    exec (.timeCompare dt) s = .next ((e.setB R.RD_PAIR_STAT_CMP_TIME false).agentUpd fun x => { x with
      lastMs := e.pairMs, samples := ((e.pairMs, e.todFields 500000000) :: x.samples).take 8, beyond := 0, declared := false }) := by
  change execTimeCompare dt s = _
  rw [execTimeCompare, ← he]
  simp only [hcmp]
  exact if_neg (by rw [hen, beq_eq_false_iff_ne.mpr hms]; decide)

theorem exec_timeCompare_runs {x : Session} (hen : e.on R.RD_PAIR_CFG_EN = true) (hms : e.agent.lastMs ≠ e.pairMs)
    (hcmp : e.cmpTime = true) (hx : e.pairSession = some x) :
    exec (.timeCompare dt) s = .next (((e.setB R.RD_PAIR_STAT_CMP_TIME true).agentUpd fun x => { x with
        lastMs := e.pairMs, samples := ((e.pairMs, e.todFields 500000000) :: x.samples).take 8
        beyond := if e.agent.lastMs + 1 = e.pairMs then x.beyond else 0 }).takeDelta
      (x.theta * 1000 + (e.getZ R.HW_PPSn_DLY_DLY 0 - e.agent.dly) * 65536)) := by
  change execTimeCompare dt s = _
  rw [execTimeCompare, ← he]
  simp only [hcmp, hx]
  exact if_neg (by rw [hen, beq_eq_false_iff_ne.mpr hms]; decide)

theorem exec_judgeReceived {cause onset : Nat} {qualified : Bool} {ew : Int} (hruns : e.pairRuns = true) :
    exec (.judgeReceived dt cause qualified ew onset) s = .next ((e.agentUpd fun x => { x with
      theirJudge := some { cause := cause, qualified := qualified, ew := ew, onset := onset % 2 ^ 64, at_ := e.clk } }).judge) := by
  change execJudgeReceived dt cause qualified ew onset s = _
  rw [execJudgeReceived, ← he]
  exact congrArg Host.Outcome.next (if_pos hruns)

theorem exec_judgeTimeout {j : Judge} (hj : e.agent.ownJudge = some j) (hdue : j.at_ + 4 * 10 ^ 9 ≤ e.clk) :
    exec (.judgeTimeout dt) s = .next (e.verdict 3) := by
  change execJudgeTimeout dt s = _
  rw [execJudgeTimeout, ← he]
  simp only [hj]
  exact congrArg Host.Outcome.next (if_pos hdue)

/-- What a pass of the self-test leaves (R448). -/
def State.tested (e : State) (band clkout pps serial compare : Bool) : State :=
  (e.setHealth (band && e.roleAplls.all fun a => e.on R.SY_APLLa_STAT_LOCKED a && !e.on R.SY_APLLa_STAT_ALIGN_LOST a)
    clkout pps serial e.wireRight compare).agentUpd fun x => { x with testAt := e.clk, asked := false, askedMb := none }

theorem exec_selfTest {band clkout pps serial compare : Bool}
    (hdue : e.agent.asked = true ∨ e.testRuns = true ∧ e.agent.testAt + 10 ^ 10 ≤ e.clk) :
    exec (.selfTest dt band clkout pps serial compare) s
      = .next (if e.agent.asked then (e.tested band clkout pps serial compare).finish e.agent.askedMb .ok
          [(e.tested band clkout pps serial compare).word R.RD_HEALTH] else e.tested band clkout pps serial compare) := by
  change execSelfTest dt band clkout pps serial compare s = _
  rw [execSelfTest, ← he]
  refine if_neg ?_
  rcases hdue with h | ⟨h, hat⟩
  · simp [h]
  · rw [h, decide_eq_true hat]
    simp

/-! ### The role -/

theorem exec_roleSend {t : State} (hruns : e.pairRuns = true)
    (ht : t = if e.mayTake && !e.on R.RD_ROLE_STAT_ROLE_IN && e.agent.claim.isNone then
      e.agentUpd fun x => { x with claim := some e.clk } else e)
    (hdue : t.roleState ≠ t.agent.roleByte ∨ t.agent.roleAt + 10 ^ 10 ≤ t.clk) :
    exec (.roleSend dt) s = .next (t.sendRole 0 0) := by
  have hgo : (t.roleState != t.agent.roleByte || decide (t.agent.roleAt + 10 ^ 10 ≤ t.clk)) = true := by
    simpa using hdue
  subst ht
  change execRoleSend dt s = _
  rw [execRoleSend, ← he]
  exact (if_neg (by rw [hruns]; decide)).trans (congrArg Host.Outcome.next (if_pos hgo))

/-- The state in which a ROLE frame of the partner has been kept and a claim settled (R442). -/
def State.roleKept (e : State) (state request instant health : Nat) (alignErr : Int) (node : Nat) : State :=
  (e.agentUpd fun x => { x with
    role := some { state := state % 256, request := request, instant := instant, health := health, alignErr := alignErr,
                   at_ := e.clk } }).settleClaim state node

section

variable {state request instant health node : Nat} {alignErr : Int} {t : State} (hruns : e.pairRuns = true)
  (ht : t = e.roleKept state request instant health alignErr node)

include hruns ht

theorem exec_roleReceived_proposal (hreq : request = 1) (harmed : t.on R.RD_ROLE_STAT_ARMED = true)
    (hheld : t.roleHeld = false) : exec (.roleReceived dt state request instant health alignErr node) s
      = .next ((t.agentUpd fun x => { x with handover := some (instant % 2 ^ 64, false, true) }).sendRole 2 (instant % 2 ^ 64)) := by
  subst ht
  change execRoleReceived dt state request instant health alignErr node s = _
  rw [execRoleReceived, ← he]
  exact (if_neg (by rw [hruns]; decide)).trans (congrArg Host.Outcome.next (if_pos ⟨hreq, harmed, hheld⟩))

theorem exec_roleReceived_accepted {i : Nat} {b : Bool} (hreq : request = 2) (hmine : t.agent.handover = some (i, true, b))
    (hi : i = instant % 2 ^ 64) : exec (.roleReceived dt state request instant health alignErr node) s
      = .next (t.agentUpd fun x => { x with handover := some (i, true, true) }) := by
  have hone : request ≠ 1 := by omega
  subst ht
  unfold State.roleKept at hmine ⊢
  change execRoleReceived dt state request instant health alignErr node s = _
  rw [execRoleReceived, ← he]
  simp only [hmine, if_pos hi]
  exact (if_neg (by rw [hruns]; decide)).trans (congrArg Host.Outcome.next ((if_neg fun h => hone h.1).trans (if_pos hreq)))

theorem exec_roleReceived_other (hone : request ≠ 1) (htwo : request ≠ 2) :
    exec (.roleReceived dt state request instant health alignErr node) s = .next t := by
  subst ht
  change execRoleReceived dt state request instant health alignErr node s = _
  rw [execRoleReceived, ← he]
  exact (if_neg (by rw [hruns]; decide)).trans (congrArg Host.Outcome.next ((if_neg fun h => hone h.1).trans (if_neg htwo)))

end

theorem exec_roleInFall (hhigh : e.on R.RD_ROLE_STAT_ROLE_IN = true) :
    exec (.roleInFall dt) s
      = .next (((e.set R.RD_ROLE_STAT_ROLE_IN 0).agentUpd fun x => { x with lowFrom := some e.clk }).takeRole 2) := by
  change execRoleInFall dt s = _
  rw [execRoleInFall, ← he]
  simp only [hhigh, if_true]

theorem exec_roleInLowTimeout {t : Nat} (hlow : e.on R.RD_ROLE_STAT_ROLE_IN = false) (hfrom : e.agent.lowFrom = some t)
    (hdue : t + 10 ^ 11 ≤ e.clk) (hlink : e.on R.RD_PAIR_STAT_LINK_UP = false) (hpref : e.on R.RD_ROLE_CFG_PREF = true) :
    exec (.roleInLowTimeout dt) s = .next (e.takeRole 1) := by
  change execRoleInLowTimeout dt s = _
  rw [execRoleInLowTimeout, ← he]
  simp only [hfrom]
  exact congrArg Host.Outcome.next (if_pos (by rw [hlow, decide_eq_true hdue, hlink, hpref]; rfl))

theorem exec_roleContention {node : Nat} {t : State}
    (ht : t = (e.set R.RD_ROLE_STAT_ROLE_IN 1).agentUpd fun x => { x with lowFrom := none }) (hheld : t.roleHeld = true)
    (hloses : t.wins (match t.agent.role with | some r => bitOf r.state 2 | none => false) node = false) :
    exec (.roleContention dt node) s = .next ((t.dropRole 5).set R.RD_ROLE_STAT_CONTEND 1) := by
  subst ht
  change execRoleContention dt node s = _
  rw [execRoleContention, ← he]
  exact congrArg Host.Outcome.next (if_pos (Bool.and_eq_true_iff.mpr ⟨hheld, congrArg not hloses⟩))

theorem exec_plannedHandover {i : Nat} {mine : Bool} (hover : e.agent.handover = some (i, mine, true))
    (hdue : linDist i (linear e.pairTime) ≤ 0) :
    exec (.plannedHandover dt) s
      = .next (if mine then e.dropRole 3 else (e.agentUpd fun x => { x with handover := none }).takeRole 3) := by
  change execPlannedHandover dt s = _
  rw [execPlannedHandover, ← he]
  simp only [hover]
  exact congrArg Host.Outcome.next (if_pos hdue)

theorem exec_handoverAnswerTimeout {i : Nat} (hover : e.agent.handover = some (i, true, false))
    (hdue : linDist i (linear e.pairTime) ≤ 10 ^ 6 * 65536) :
    exec (.handoverAnswerTimeout dt) s = .next (e.agentUpd fun x => { x with handover := none }) := by
  change execHandoverAnswerTimeout dt s = _
  rw [execHandoverAnswerTimeout, ← he]
  simp only [hover]
  exact congrArg Host.Outcome.next (if_pos hdue)

theorem exec_alignOk_rise {t : Nat} (hlow : e.on R.RD_ROLE_STAT_ALIGN_OK = false) (hfrom : e.agent.alignFrom = some t)
    (hdue : t + 10 ^ 12 ≤ e.clk) (hfresh : e.clk < e.agent.alignAt + 10 ^ 12) :
    exec (.alignOk dt) s = .next (e.set R.RD_ROLE_STAT_ALIGN_OK 1).armedSync := by
  change execAlignOk dt s = _
  rw [execAlignOk, ← he]
  simp only [hfrom]
  exact congrArg Host.Outcome.next ((if_neg (by rw [hlow]; decide)).trans (if_pos ⟨hdue, hfresh⟩))

theorem exec_alignOk_fall (hhigh : e.on R.RD_ROLE_STAT_ALIGN_OK = true) (hstale : e.agent.alignAt + 10 ^ 12 ≤ e.clk) :
    exec (.alignOk dt) s
      = .next ((e.set R.RD_ROLE_STAT_ALIGN_OK 0).agentUpd fun x => { x with alignFrom := none }).armedSync := by
  change execAlignOk dt s = _
  rw [execAlignOk, ← he]
  exact congrArg Host.Outcome.next ((if_pos hhigh).trans (if_pos hstale))

theorem exec_recoveryEnd {t : Nat} {q : State} (hq : q = e.armedSync) (hfrom : q.agent.armedFrom = some t)
    (hrecovers : q.on R.RD_PAIR_STAT_RECOVERY = true)
    (hdue : t + q.get R.RD_PAIR_CFG2_RECOVERY_TIME * 10 ^ 12 ≤ q.clk) :
    exec (.recoveryEnd dt) s = .next (q.set R.RD_PAIR_STAT_RECOVERY 0) := by
  change execRecoveryEnd dt s = _
  rw [execRecoveryEnd, ← he, ← hq]
  simp only [hfrom]
  exact congrArg Host.Outcome.next (if_pos ⟨hrecovers, hdue⟩)

end

end Sys2Proof.Machine

/-- Settles O55, row by row: the row's condition chooses the branch, and the branch is what the statement names. -/
theorem pairComparisonComplete : Obligations.PairComparisonComplete := by
  unfold Obligations.PairComparisonComplete
  refine ⟨?send, ?received, ?expiry, ?idle, ?runs, ?judge, ?timeout, ?asked, ?due⟩
  case send =>
    intro s e dt q he hq hruns hms
    exact exec_compareSend he hq hruns hms
  case received =>
    intro s e dt ms items sec utc leap flags dly digest he hruns
    exact exec_compareReceived he hruns
  case expiry =>
    intro s e dt q he hq hown htheirs
    exact exec_itemExpiry he hq hown htheirs
  case idle =>
    intro s e dt he hen hms hcmp
    exact exec_timeCompare_idle he hen hms hcmp
  case runs =>
    intro s e dt x he hen hms hcmp hx
    exact exec_timeCompare_runs he hen hms hcmp hx
  case judge =>
    intro s e dt cause qualified ew onset he hruns
    exact exec_judgeReceived he hruns
  case timeout =>
    intro s e dt j he hj hdue
    exact exec_judgeTimeout he hj hdue
  case asked =>
    intro s e dt band clkout pps serial compare apll t he hapll ht hasked
    rw [exec_selfTest he (.inl hasked), if_pos hasked, ht, hapll]
    rfl
  case due =>
    intro s e dt band clkout pps serial compare apll he hapll hasked hruns hdue
    rw [exec_selfTest he (.inr ⟨hruns, hdue⟩), if_neg (by rw [hasked]; decide), hapll]
    rfl

/-- Settles O56, row by row: the row's condition chooses the branch, and the branch is what the statement names (the rise of
`pair_role_in` at a contention is log entry 94). -/
theorem pairRoleComplete : Obligations.PairRoleComplete := by
  unfold Obligations.PairRoleComplete
  refine ⟨?send, ?proposal, ?accepted, ?other, ?fall, ?low, ?contention, ?handover, ?unanswered, ?rise, ?stale, ?recovery⟩
  case send =>
    intro s e dt t he hruns ht hdue
    exact exec_roleSend he hruns ht hdue
  case proposal =>
    intro s e dt state request instant health alignErr node t he hruns ht hreq harmed hheld
    exact exec_roleReceived_proposal he hruns ht hreq harmed hheld
  case accepted =>
    intro s e dt state request instant health alignErr node i b t he hruns ht hreq hmine hi
    exact exec_roleReceived_accepted he hruns ht hreq hmine hi
  case other =>
    intro s e dt state request instant health alignErr node he hruns hone htwo
    exact exec_roleReceived_other he hruns rfl hone htwo
  case fall =>
    intro s e dt he hhigh
    exact exec_roleInFall he hhigh
  case low =>
    intro s e dt t he hlow hfrom hdue hlink hpref
    exact exec_roleInLowTimeout he hlow hfrom hdue hlink hpref
  case contention =>
    intro s e dt node t he ht hheld hloses
    exact exec_roleContention he ht hheld hloses
  case handover =>
    intro s e dt i mine he hover hdue
    exact exec_plannedHandover he hover hdue
  case unanswered =>
    intro s e dt i he hover hdue
    exact exec_handoverAnswerTimeout he hover hdue
  case rise =>
    intro s e dt t he hlow hfrom hdue hfresh
    exact exec_alignOk_rise he hlow hfrom hdue hfresh
  case stale =>
    intro s e dt he hhigh hstale
    exact exec_alignOk_fall he hhigh hstale
  case recovery =>
    intro s e dt t q he hq hfrom hrecovers hdue
    exact exec_recoveryEnd he hq hfrom hrecovers hdue
end

section
/-! SUPPORT. The rows of resets, DORMANT and the monitors, each through the branch that its condition chooses (R566 to R568,
R578 to R581, R640). -/

open Sys2Proof Sys2Proof.Machine
namespace Sys2Proof.Machine

section

variable {s e : State} {dt : Nat} (he : e = s.elapse dt)

include he

/-! ### Resets -/

theorem exec_pinReset (hpowered : e.pw.off = false) :
    exec (.pinReset dt) s = .next (e.beginStart (e.mode != 0) (!e.on R.PM_START_CFG_PIN_KIND) false) := by
  change execPinReset dt s = _
  rw [execPinReset, ← he]
  exact congrArg Host.Outcome.next (if_neg (by rw [hpowered]; decide))

theorem exec_deviceReset {r : ResetReq} (hr : e.pw.reset = some r) (hscope : r.scope = 0) (hdue : r.at_ + 10 ^ 9 ≤ e.clk) :
    exec (.deviceReset dt) s = .next (e.beginStart true (!r.warm) r.clr) := by
  change execDeviceReset dt s = _
  rw [execDeviceReset, ← he]
  simp only [hr]
  exact congrArg Host.Outcome.next (if_pos ⟨hscope, hdue⟩)

theorem exec_dieReset {r : ResetReq} (hr : e.pw.reset = some r) (hscope : r.scope ≠ 0) (hdue : r.at_ + 10 ^ 9 ≤ e.clk) :
    exec (.dieReset dt) s = .next ({ e with pw := { e.pw with reset := none } }.resetDie (r.scope - 1)) := by
  change execDieReset dt s = _
  rw [execDieReset, ← he]
  simp only [hr]
  exact congrArg Host.Outcome.next (if_pos ⟨hscope, hdue⟩)

theorem exec_startRetryReset {f : Nat} (hf : e.pw.failedAt = some f) (hdue : f + 10 ^ 11 ≤ e.clk) :
    exec (.startRetryReset dt) s = .next (e.beginStart true (!e.on R.MODE_STATE_START_KIND) false) := by
  change execStartRetryReset dt s = _
  rw [execStartRetryReset, ← he]
  simp only [hf]
  exact congrArg Host.Outcome.next (if_pos hdue)

/-! ### DORMANT and its wakes -/

theorem exec_dormantEntry (hready : e.pw.dormant = true) :
    exec (.dormantEntry dt) s = .next e.saveTime.sleepGnss.diesOff := by
  change execDormantEntry dt s = _
  rw [execDormantEntry, ← he]
  exact congrArg Host.Outcome.next (if_pos hready)

theorem exec_wakePin (hdormant : e.dormantNow = true) (harmed : e.on R.PM_WAKE_CFG_WAKE_PIN_EN = true) :
    exec (.wakePin dt) s = .next (e.wakeUp 0) := by
  change execWakePin dt s = _
  rw [execWakePin, ← he]
  exact congrArg Host.Outcome.next (if_pos (by rw [hdormant, harmed]; rfl))

theorem exec_keeperAlarm (hdormant : e.dormantNow = true) (harmed : e.on R.PM_WAKE_CFG_ALARM_EN = true)
    (hdue : e.get64 R.PM_WAKE_ALARM_LO_ALARM R.PM_WAKE_ALARM_HI_ALARM ≤ e.keeper) :
    exec (.keeperAlarm dt) s = .next (e.wakeUp 1) := by
  have hholds : e.wakeHolds = true := by simp [State.wakeHolds, harmed, hdue]
  change execKeeperAlarm dt s = _
  rw [execKeeperAlarm, ← he]
  exact congrArg Host.Outcome.next (if_pos (by rw [hdormant, harmed, hholds]; rfl))

/-! ### Supplies, temperature and the time record -/

theorem exec_supplyWarn {r : Nat} (hr : r < 8) (hgood : bitOf (e.get R.PM_SUPPLY_STAT_OUT) r = false) :
    exec (.supplyWarn dt r) s = .next (((e.set R.PM_SUPPLY_STAT_OUT (e.get R.PM_SUPPLY_STAT_OUT + 2 ^ r)).set
      R.PWR_STATE_SUPPLY_WARN 1).raise 106 r) := by
  change execSupplyWarn dt r s = _
  rw [execSupplyWarn, ← he, Nat.mod_eq_of_lt hr]
  exact congrArg Host.Outcome.next (if_neg (by rw [hgood]; decide))

theorem exec_supplyReturn {r : Nat} (hr : r < 8) (hout : bitOf (e.get R.PM_SUPPLY_STAT_OUT) r = true) :
    exec (.supplyReturn dt r) s = .next ((e.set R.PM_SUPPLY_STAT_OUT (e.get R.PM_SUPPLY_STAT_OUT - 2 ^ r)).setB
      R.PWR_STATE_SUPPLY_WARN (e.get R.PM_SUPPLY_STAT_OUT - 2 ^ r != 0)) := by
  have hbit : b2n true * 2 ^ r = 2 ^ r := Nat.one_mul _
  change execSupplyReturn dt r s = _
  rw [execSupplyReturn, ← he, Nat.mod_eq_of_lt hr]
  simp only [hout, hbit]

theorem exec_tempSample {t a b : Int} (hdue : e.pw.tempAt + 10 ^ 9 ≤ e.clk) :
    exec (.tempSample dt t a b) s = .next ([0, 1, 2].foldl (fun s d => (s.tempJudge d d 107 (s.get
      R.PM_TEMP_CFG_WARN_LIM)).tempJudge d (3 + d) 108 (s.get R.PM_TEMP_CFG_CRIT_LIM))
      ((({ e with pw := { e.pw with tempAt := e.clk } }.accrueAll).writes [{ f := R.PM_TEMP_STAT_TEMP_T, v := wrap 8 t },
        { f := R.PM_TEMP_STAT_TEMP_A, v := wrap 8 a }, { f := R.PM_TEMP_STAT_TEMP_B, v := wrap 8 b }]).tempSync)) := by
  change execTempSample dt t a b s = _
  rw [execTempSample, ← he]
  exact congrArg Host.Outcome.next (if_pos hdue)

theorem exec_timeRecordSave (hdue : e.pw.saveAt + 10 ^ 12 ≤ e.clk) (hruns : e.coreRuns 0 = true) :
    exec (.timeRecordSave dt) s = .next e.saveTime := by
  change execTimeRecordSave dt s = _
  rw [execTimeRecordSave, ← he]
  exact congrArg Host.Outcome.next (if_pos ⟨hdue, hruns⟩)

end

end Sys2Proof.Machine

/-- Settles O38, row by row: the row's condition chooses the branch, and the branch is what the statement names (that the boot
configuration outlasts power-on is log entry 119, and the kind of a retry's start is log entry 139). -/
theorem resetsAndMonitorsComplete : Obligations.ResetsAndMonitorsComplete := by
  unfold Obligations.ResetsAndMonitorsComplete
  refine ⟨?powerOn, ?pin, ?device, ?die, ?retry, ?dormant, ?wakePin, ?alarm, ?vddUs, ?warn, ?good, ?temp, ?save⟩
  case powerOn =>
    intro s e dt he
    rw [he]
    rfl
  case pin =>
    intro s e dt he hpowered
    exact exec_pinReset he hpowered
  case device =>
    intro s e dt r he hr hscope hdue
    exact exec_deviceReset he hr hscope hdue
  case die =>
    intro s e dt r he hr hscope hdue
    exact exec_dieReset he hr hscope hdue
  case retry =>
    intro s e dt f he hf hdue
    exact exec_startRetryReset he hf hdue
  case dormant =>
    intro s e dt he hready
    exact exec_dormantEntry he hready
  case wakePin =>
    intro s e dt he hdormant harmed
    exact exec_wakePin he hdormant harmed
  case alarm =>
    intro s e dt he hdormant harmed hdue
    exact exec_keeperAlarm he hdormant harmed hdue
  case vddUs =>
    intro s e dt he
    rw [he]
    rfl
  case warn =>
    intro s e dt r he hr hgood
    exact exec_supplyWarn he hr hgood
  case good =>
    intro s e dt r he hr hout
    exact exec_supplyReturn he hr hout
  case temp =>
    intro s e dt t a b he hdue
    exact exec_tempSample he hdue
  case save =>
    intro s e dt he hdue hruns
    exact exec_timeRecordSave he hdue hruns
end

section
/-! SUPPORT. One attempt at a step of the start: its own work, its entries, and what it waits for (R570 to R573), and with it
the rows of the twelve steps. -/

open Sys2Proof Sys2Proof.Machine
namespace Sys2Proof.Machine

/-! ### One attempt at a step -/

/-- What a step does after its own work: its entries of the image run, and then what it waits for is judged. -/
def State.stepRest (t : State) (k : Nat) (finish : State → State × Option Bool) : State :=
  match t.runEntries k with
  | (v, none) => v
  | (v, some false) => v.failStep k
  | (v, some true) => match finish v with
    | (u, none) => u
    | (u, some true) => u.passStep k
    | (u, some false) => u.failStep k

section

variable {s t u : State} {k : Nat} {begin_ : State → State × Bool} {finish : State → State × Option Bool}
  (hnow : s.stepNow k = true) (hlim : s.overLimit k = false)

include hnow hlim

/-- A step that runs and has time left does its own work where it has not, and goes on from there. -/
theorem State.runStep_goes {b : State × Bool} (hb : (if s.pw.begun then (s, true) else begin_ s.beganStep) = b) :
    s.runStep k begin_ finish = if !b.2 then b.1.failStep k else b.1.stepRest k finish := by
  subst hb
  unfold State.runStep
  exact (if_neg (by rw [hnow]; decide)).trans (if_neg (by rw [hlim]; decide))

/-- A step whose own work fails fails the start. -/
theorem State.runStep_fails (hbegun : s.pw.begun = false) (hwork : begin_ s.beganStep = (t, false)) :
    s.runStep k begin_ finish = t.failStep k :=
  (State.runStep_goes hnow hlim ((if_neg (by rw [hbegun]; decide)).trans hwork)).trans (if_pos rfl)

section

variable (hwork : s.pw.begun = true ∧ t = s ∨ s.pw.begun = false ∧ begin_ s.beganStep = (t, true))

include hwork

/-- A step goes on from its own work, which it has done before or does now. -/
theorem State.runStep_worked : s.runStep k begin_ finish = t.stepRest k finish := by
  rcases hwork with ⟨hbegun, rfl⟩ | ⟨hbegun, hnew⟩
  · exact State.runStep_goes hnow hlim (if_pos hbegun)
  · exact State.runStep_goes hnow hlim ((if_neg (by rw [hbegun]; decide)).trans hnew)

variable (hentries : (t.runEntries k).2 = some true)

include hentries

/-- A step whose entries have run passes when what it waits for holds. -/
theorem State.runStep_passes (hdone : finish (t.runEntries k).1 = (u, some true)) :
    s.runStep k begin_ finish = u.passStep k := by
  rw [State.runStep_worked hnow hlim hwork, State.stepRest]
  generalize t.runEntries k = q at hentries hdone ⊢
  obtain ⟨v, x⟩ := q
  cases hentries
  simp only [hdone]

/-- A step whose entries have run waits while what it waits for does not hold. -/
theorem State.runStep_waits (hwait : finish (t.runEntries k).1 = (u, none)) : s.runStep k begin_ finish = u := by
  rw [State.runStep_worked hnow hlim hwork, State.stepRest]
  generalize t.runEntries k = q at hentries hwait ⊢
  obtain ⟨v, x⟩ := q
  cases hentries
  simp only [hwait]

end

end

/-! ### What S5, S7, S11 and S12 wait for -/

theorem State.checkCfg_commits {s : State} (himage : s.imageCommits = false) (hnot : s.pw.committed = false) :
    s.checkCfg = (let t := if s.ci.commit.isSome then s else s.acceptCommit 0 0 none
      { t with pw := { t.pw with committed := true } }, none) := by
  simp only [State.checkCfg, himage, hnot]
  rfl

theorem State.checkCfg_taken {s : State} (himage : s.imageCommits = false) (hdone : s.pw.committed = true)
    (hnone : s.ci.commit = none) : s.checkCfg = (s, some true) := by
  simp [State.checkCfg, himage, hdone, hnone]

theorem State.checkCfg_matches {s : State} (himage : s.imageCommits = true) (hdone : s.pw.committed = true)
    (hnext : s.pw.checkNext = false) (hmatch : s.on R.CI_STAT_DRIFT = false) : s.checkCfg = (s, some true) := by
  simp [State.checkCfg, himage, hdone, hnext, hmatch]

theorem State.apllsLocked {s : State} (h : (s.on R.SY_APLLa_STAT_LOCKED 0 && s.on R.SY_APLLa_STAT_LOCKED 1) = true) :
    (s, if s.on R.SY_APLLa_STAT_LOCKED 0 && s.on R.SY_APLLa_STAT_LOCKED 1 then some true else none) = (s, some true) := by
  rw [if_pos h]

theorem State.apllsOpen {s : State} (h : (s.on R.SY_APLLa_STAT_LOCKED 0 && s.on R.SY_APLLa_STAT_LOCKED 1) = false) :
    (s, if s.on R.SY_APLLa_STAT_LOCKED 0 && s.on R.SY_APLLa_STAT_LOCKED 1 then some true else none) = (s, none) := by
  rw [if_neg (by rw [h]; decide)]

theorem State.portsReady {s : State} (h : s.allActive = true ∨ s.pw.stepAt + 10 ^ 12 ≤ s.clk) :
    (s, if s.allActive || decide (s.pw.stepAt + 10 ^ 12 ≤ s.clk) then some true else none) = (s, some true) := by
  rw [if_pos (Bool.or_eq_true_iff.mpr (h.imp_right decide_eq_true))]

/-! ### The rows of the steps -/

section

variable {s e : State} {dt : Nat} (he : e = s.elapse dt)

include he

theorem exec_powerSequencing {ok : Bool} : exec (.powerSequencing dt ok) s = .next (e.enterS1.runStep 1
    (fun s => (if ok then ((List.range 4).foldl (fun s a => s.set R.SY_APLLa_STAT_REF_OK 1 a) s).trainLinks [0, 1, 2] else s, ok))
    atOnce) := by
  rw [he]
  rfl

theorem exec_trimLoad {ok : Bool} : exec (.trimLoad dt ok) s = .next (e.runStep 2
    (fun s => if s.warmStart && s.pw.trim then (s, true) else if ok then s.loadRecords else (s, false))
    fun s => ({ s with ci := { s.ci with passStart := some s.clk } }, some true)) := by
  rw [he]
  rfl

theorem exec_bist {ok : Bool} : exec (.bist dt ok) s = .next (e.runStep 3 (fun s => (s, s.warmStart || ok)) atOnce) := by
  rw [he]
  rfl

theorem exec_firmware : exec (.firmware dt) s = .next (e.runStep 4
    (fun s => match s.bootFw with
      | (t, true) => t.takeImage
      | (t, false) => (t, false))
    fun s => (((s.coreUp 0).coreUp 2).coreUp 3, some true)) := by
  rw [he]
  rfl

theorem exec_apllBandSearch : exec (.apllBandSearch dt) s = .next (e.runStep 5
    (always fun s => (List.range 4).foldl (fun s a => if s.on R.SY_APLLa_CFG_EN a then s.relock a else s) s)
    fun s => (s, if s.on R.SY_APLLa_STAT_LOCKED 0 && s.on R.SY_APLLa_STAT_LOCKED 1 then some true else none)) := by
  rw [he]
  rfl

theorem exec_laneTraining : exec (.laneTraining dt) s = .next (e.runStep 6 (always State.openTraining) atOnce) := by
  rw [he]
  rfl

theorem exec_capabilityExchange : exec (.capabilityExchange dt) s = .next (e.runStep 7 (always id)
    fun s => (s, if s.allActive || decide (s.pw.stepAt + 10 ^ 12 ≤ s.clk) then some true else none)) := by
  rw [he]
  rfl

theorem exec_timebases : exec (.timebases dt) s
    = .next (e.runStep 8 (always fun s => if s.warmStart then s.resumeTime else s) atOnce) := by
  rw [he]
  rfl

theorem exec_internalDelayCalibration {ok : Bool} {vs : List Int} : exec (.internalDelayCalibration dt ok vs) s
    = .next (e.runStep 9
      (fun s => if s.warmStart then (s.resumeDelays, true) else if ok then (s.measureDelays vs, true) else (s, false)) atOnce) := by
  rw [he]
  rfl

theorem exec_gnss : exec (.gnss dt) s = .next (e.runStep 10 (always State.startGnss) atOnce) := by
  rw [he]
  rfl

theorem exec_flowPlacement : exec (.flowPlacement dt) s = .next (e.runStep 11 (always id)
    fun s => if s.placeAgain.foState < 2 then
        ({ s.placeAgain with pw := { s.placeAgain.pw with placed := true, model := none } }, some true)
      else (s.placeAgain, none)) := by
  rw [he]
  rfl

/-- Outside its first attempt, and where no commit is pending at it, S12 runs as a step. -/
theorem exec_configurationCrcCheck (h : e.pw.begun = true ∨ e.ci.commit = none) :
    exec (.configurationCrcCheck dt) s = .next (e.runStep 12 (always id) State.checkCfg) := by
  change execConfigurationCrcCheck dt s = _
  rw [execConfigurationCrcCheck, ← he]
  refine congrArg Host.Outcome.next (if_neg ?_)
  rcases h with h | h <;> simp [h]

end

theorem exec_startStepTimeout {s e : State} {dt k l : Nat} (he : e = s.enterS1.elapse dt)
    (hrun : e.on R.MODE_STATE_START_RUN = true) (hk : e.get R.MODE_STATE_STEP = k) (hl : stepLimit k e.warmStart = some l)
    (hlate : e.pw.stepAt + l * 10 ^ 9 < e.clk) : exec (.startStepTimeout dt) s = .next (e.failStep k) := by
  have hover : e.overLimit k = true := by
    simp only [State.overLimit, hl]
    exact decide_eq_true hlate
  change execStartStepTimeout dt s = _
  rw [execStartStepTimeout, ← he, hk]
  exact congrArg Host.Outcome.next (if_pos (by rw [hrun, hover]; rfl))

end Sys2Proof.Machine

/-- Settles O39: a step's row is one attempt at it, which passes, waits or fails as its work, its entries and what it waits for
do (when S6 and S8 to S11 pass is log entry 142, the commit of S12 is log entry 143, and the model reinstated after the
entries of S11 is log entry 245). -/
theorem startStepsComplete : Obligations.StartStepsComplete := by
  unfold Obligations.StartStepsComplete
  refine ⟨?s1, ?s1Fails, ?s2, ?s2Kept, ?s3, ?s3Fails, ?s4, ?s4Passes, ?s5, ?s5Waits, ?s6, ?s7, ?s8, ?s9, ?s9Kept, ?s10, ?s11,
    ?s12Commits, ?s12Taken, ?s12Checked, ?late⟩
  case s1 =>
    intro s e dt he hnow hbegun hentries hlim
    rw [exec_powerSequencing he]
    exact congrArg Host.Outcome.next (State.runStep_passes hnow hlim (.inr ⟨hbegun, rfl⟩) hentries rfl)
  case s1Fails =>
    intro s e dt he hnow hbegun hlim
    rw [exec_powerSequencing he]
    exact congrArg Host.Outcome.next (State.runStep_fails (t := e.enterS1.beganStep) hnow hlim hbegun rfl)
  case s2 =>
    intro s e dt he hnow hbegun hcold hloaded hentries hlim
    have hwork : (if e.beganStep.warmStart && e.beganStep.pw.trim then (e.beganStep, true) else e.beganStep.loadRecords)
        = (e.beganStep.loadRecords.1, true) := (if_neg (by rw [hcold]; decide)).trans (Prod.ext rfl hloaded)
    rw [exec_trimLoad he]
    exact congrArg Host.Outcome.next (State.runStep_passes hnow hlim (.inr ⟨hbegun, hwork⟩) hentries rfl)
  case s2Kept =>
    intro s e dt ok he hnow hbegun hwarm htrim hentries hlim
    have hkept : (e.beganStep.warmStart && e.beganStep.pw.trim) = true := by rw [hwarm, htrim]; rfl
    rw [exec_trimLoad he]
    exact congrArg Host.Outcome.next (State.runStep_passes hnow hlim (.inr ⟨hbegun, if_pos hkept⟩) hentries rfl)
  case s3 =>
    intro s e dt ok he hnow hbegun hgood hentries hlim
    rw [exec_bist he]
    exact congrArg Host.Outcome.next (State.runStep_passes hnow hlim (.inr ⟨hbegun, Prod.ext rfl hgood⟩) hentries rfl)
  case s3Fails =>
    intro s e dt he hnow hbegun hcold hlim
    have hbad : (e.warmStart || false) = false := (Bool.or_false _).trans hcold
    rw [exec_bist he]
    exact congrArg Host.Outcome.next (State.runStep_fails hnow hlim hbegun (Prod.ext rfl hbad))
  case s4 =>
    intro s e dt he _ _
    exact exec_firmware he
  case s4Passes =>
    intro s e dt he hnow hbegun hentries hlim
    rw [exec_firmware he]
    exact congrArg Host.Outcome.next (State.runStep_passes hnow hlim (.inl ⟨hbegun, rfl⟩) hentries rfl)
  case s5 =>
    intro s e dt he hnow hbegun hentries h0 h1 hlim
    have hlocked := State.apllsLocked (s := (e.runEntries 5).1) (Bool.and_eq_true_iff.mpr ⟨h0, h1⟩)
    rw [exec_apllBandSearch he]
    exact congrArg Host.Outcome.next (State.runStep_passes hnow hlim (.inl ⟨hbegun, rfl⟩) hentries hlocked)
  case s5Waits =>
    intro s e dt he hnow hbegun hentries hopen hlim
    rw [exec_apllBandSearch he]
    exact congrArg Host.Outcome.next
      (State.runStep_waits hnow hlim (.inr ⟨hbegun, rfl⟩) hentries (State.apllsOpen hopen))
  case s6 =>
    intro s e dt he hnow hbegun hentries hlim
    rw [exec_laneTraining he]
    exact congrArg Host.Outcome.next (State.runStep_passes hnow hlim (.inr ⟨hbegun, rfl⟩) hentries rfl)
  case s7 =>
    intro s e dt he hnow hbegun hentries hready hlim
    rw [exec_capabilityExchange he]
    exact congrArg Host.Outcome.next (State.runStep_passes hnow hlim (.inr ⟨hbegun, rfl⟩) hentries (State.portsReady hready))
  case s8 =>
    intro s e dt he hnow hbegun hentries hlim
    rw [exec_timebases he]
    exact congrArg Host.Outcome.next (State.runStep_passes hnow hlim (.inr ⟨hbegun, rfl⟩) hentries rfl)
  case s9 =>
    intro s e dt vs he hnow hbegun hcold hentries hlim
    have hwork : (if e.beganStep.warmStart then (e.beganStep.resumeDelays, true) else (e.beganStep.measureDelays vs, true))
        = (e.beganStep.measureDelays vs, true) := if_neg (by rw [hcold]; decide)
    rw [exec_internalDelayCalibration he]
    exact congrArg Host.Outcome.next (State.runStep_passes hnow hlim (.inr ⟨hbegun, hwork⟩) hentries rfl)
  case s9Kept =>
    intro s e dt ok vs he hnow hbegun hwarm hentries hlim
    rw [exec_internalDelayCalibration he]
    exact congrArg Host.Outcome.next (State.runStep_passes hnow hlim (.inr ⟨hbegun, if_pos hwarm⟩) hentries rfl)
  case s10 =>
    intro s e dt he hnow hbegun hentries hlim
    rw [exec_gnss he]
    exact congrArg Host.Outcome.next (State.runStep_passes hnow hlim (.inr ⟨hbegun, rfl⟩) hentries rfl)
  case s11 =>
    intro s e dt he hnow hbegun hentries hidle hlim
    rw [exec_flowPlacement he]
    exact congrArg Host.Outcome.next (State.runStep_passes hnow hlim (.inr ⟨hbegun, rfl⟩) hentries (if_pos hidle))
  case s12Commits =>
    intro s e dt he hnow hbegun hnone hentries himage hnot hlim
    rw [exec_configurationCrcCheck he (.inr hnone)]
    exact congrArg Host.Outcome.next
      (State.runStep_waits hnow hlim (.inr ⟨hbegun, rfl⟩) hentries (State.checkCfg_commits himage hnot))
  case s12Taken =>
    intro s e dt he hnow hbegun hentries himage hdone hnone hlim
    rw [exec_configurationCrcCheck he (.inl hbegun)]
    exact congrArg Host.Outcome.next
      (State.runStep_passes hnow hlim (.inl ⟨hbegun, rfl⟩) hentries (State.checkCfg_taken himage hdone hnone))
  case s12Checked =>
    intro s e dt he hnow hbegun hentries himage hdone hnext hmatch hlim
    rw [exec_configurationCrcCheck he (.inl hbegun)]
    exact congrArg Host.Outcome.next
      (State.runStep_passes hnow hlim (.inl ⟨hbegun, rfl⟩) hentries (State.checkCfg_matches himage hdone hnext hmatch))
  case late =>
    intro s e dt k l he hrun hk hl hlate
    exact exec_startStepTimeout he hrun hk hl hlate
end

section
/-! SUPPORT. The console and the test port (R624 to R628): what they do where the block is powered. -/
open Sys2Proof Sys2Proof.Machine
namespace Sys2Proof.Machine

/-! ### The console -/

/-- The console takes bytes while its block is powered, awake and enabled. -/
theorem console_open {e : State} (hpow : e.powered = true) (hawake : e.asleep 44 = false)
    (hen : e.on R.HI_UART_CFG_EN = true) : (e.powered && !e.asleep 44 && e.on R.HI_UART_CFG_EN) = true := by
  rw [hpow, hawake, hen]; rfl

theorem exec_uartByte_stored {s e : State} {dt : Nat} (b : Nat) (he : e = s.elapse dt) (hpow : e.powered = true)
    (hawake : e.asleep 44 = false) (hen : e.on R.HI_UART_CFG_EN = true) (hroom : e.hi.uart.length < 256) :
    exec (.uartByte dt b) s = .next { e with hi := { e.hi with uart := e.hi.uart ++ [BitVec.ofNat 8 b] } } := by
  change execUartByte dt b s = _
  rw [execUartByte, ← he]
  exact congrArg Host.Outcome.next ((if_pos (console_open hpow hawake hen)).trans (if_pos hroom))

theorem exec_uartByte_lost {s e : State} {dt : Nat} (b : Nat) (he : e = s.elapse dt) (hpow : e.powered = true)
    (hawake : e.asleep 44 = false) (hen : e.on R.HI_UART_CFG_EN = true) (hfull : 256 ≤ e.hi.uart.length) :
    exec (.uartByte dt b) s = .next ((e.incSat R.HI_UART_STAT_OVF_CNT).raise 119 1) := by
  change execUartByte dt b s = _
  rw [execUartByte, ← he]
  exact congrArg Host.Outcome.next ((if_pos (console_open hpow hawake hen)).trans (if_neg (Nat.not_lt.mpr hfull)))

/-- A first line that the row is for is taken from the buffer and answered. -/
theorem State.console_answers {e : State} {line rest : List Byte} (b : List Byte → Bool) (answer : String)
    (hready : e.on R.MB_STATUS_FW_READY = true) (hawake : e.asleep 44 = false) (hen : e.on R.HI_UART_CFG_EN = true)
    (hline : firstLine e.hi.uart = some (line, rest)) (hb : b line = true) :
    e.console b answer = ({ e with hi := { e.hi with uart := rest } } : State).emit (.uart answer) := by
  simp [State.console, hline, hready, hawake, hen, hb]

/-- A line that the console knows is answered by its own row. -/
theorem State.console_answers_line {e : State} {rest : List Byte} (l : String)
    (hready : e.on R.MB_STATUS_FW_READY = true) (hawake : e.asleep 44 = false) (hen : e.on R.HI_UART_CFG_EN = true)
    (hline : firstLine e.hi.uart = some (ascii l, rest)) :
    e.console (· == ascii l) l = ({ e with hi := { e.hi with uart := rest } } : State).emit (.uart l) :=
  State.console_answers _ l hready hawake hen hline (beq_self_eq_true _)

theorem exec_uartStatus {s e : State} {dt : Nat} {rest : List Byte} (he : e = s.elapse dt)
    (hready : e.on R.MB_STATUS_FW_READY = true) (hawake : e.asleep 44 = false) (hen : e.on R.HI_UART_CFG_EN = true)
    (hline : firstLine e.hi.uart = some (ascii "status", rest)) :
    exec (.uartStatus dt) s = .next (({ e with hi := { e.hi with uart := rest } } : State).emit (.uart "status")) := by
  change execUartStatus dt s = _
  rw [execUartStatus, ← he, State.console_answers_line _ hready hawake hen hline]

theorem exec_uartTemp {s e : State} {dt : Nat} {rest : List Byte} (he : e = s.elapse dt)
    (hready : e.on R.MB_STATUS_FW_READY = true) (hawake : e.asleep 44 = false) (hen : e.on R.HI_UART_CFG_EN = true)
    (hline : firstLine e.hi.uart = some (ascii "temp", rest)) :
    exec (.uartTemp dt) s = .next (({ e with hi := { e.hi with uart := rest } } : State).emit (.uart "temp")) := by
  change execUartTemp dt s = _
  rw [execUartTemp, ← he, State.console_answers_line _ hready hawake hen hline]

theorem exec_uartVer {s e : State} {dt : Nat} {rest : List Byte} (he : e = s.elapse dt)
    (hready : e.on R.MB_STATUS_FW_READY = true) (hawake : e.asleep 44 = false) (hen : e.on R.HI_UART_CFG_EN = true)
    (hline : firstLine e.hi.uart = some (ascii "ver", rest)) :
    exec (.uartVer dt) s = .next (({ e with hi := { e.hi with uart := rest } } : State).emit (.uart "ver")) := by
  change execUartVer dt s = _
  rw [execUartVer, ← he, State.console_answers_line _ hready hawake hen hline]

theorem exec_uartHelp {s e : State} {dt : Nat} {rest : List Byte} (he : e = s.elapse dt)
    (hready : e.on R.MB_STATUS_FW_READY = true) (hawake : e.asleep 44 = false) (hen : e.on R.HI_UART_CFG_EN = true)
    (hline : firstLine e.hi.uart = some (ascii "help", rest)) :
    exec (.uartHelp dt) s = .next (({ e with hi := { e.hi with uart := rest } } : State).emit (.uart "help")) := by
  change execUartHelp dt s = _
  rw [execUartHelp, ← he, State.console_answers_line _ hready hawake hen hline]

/-- Any other line is answered with a question mark. -/
theorem exec_uartUnknownLine {s e : State} {dt : Nat} {line rest : List Byte} (he : e = s.elapse dt)
    (hready : e.on R.MB_STATUS_FW_READY = true) (hawake : e.asleep 44 = false) (hen : e.on R.HI_UART_CFG_EN = true)
    (hline : firstLine e.hi.uart = some (line, rest)) (hother : (consoleLines.any fun l => line == ascii l) = false) :
    exec (.uartUnknownLine dt) s = .next (({ e with hi := { e.hi with uart := rest } } : State).emit (.uart "?")) := by
  change execUartUnknownLine dt s = _
  rw [execUartUnknownLine, ← he, State.console_answers _ "?" hready hawake hen hline (congrArg not hother)]

/-! ### The test port -/

theorem State.jtag_powered {s : State} (k : State → State) (hpow : s.powered = true) (hawake : s.asleep 45 = false) :
    s.jtag k = .next (k s) := by
  simp [State.jtag, hpow, hawake]

theorem exec_jtagBypass {s : State} {code : Nat} (bit : Nat) (hpow : s.powered = true) (hawake : s.asleep 45 = false)
    (hcode : code < 256) (hfree : [0x01, 0x02, 0x03, 0x04, 0x05, 0x20, 0x21].contains code = false) :
    exec (.jtagBypass code bit) s = .next ((s.selectIr code).shiftBypass bit) := by
  change execJtagBypass code bit s = _
  rw [execJtagBypass, Nat.mod_eq_of_lt hcode]
  exact (s.jtag_powered _ hpow hawake).trans
    (congrArg Host.Outcome.next (if_neg (ne_true_of_eq_false hfree)))

theorem exec_jtagExtest_pins {s : State} (v : Nat) (hpow : s.powered = true) (hawake : s.asleep 45 = false)
    (hmode : (s.selectIr 3).mode = 5) : exec (.jtagExtest v) s = .next ((s.selectIr 3).scanPins v) := by
  change execJtagExtest v s = _
  rw [execJtagExtest]
  exact (s.jtag_powered _ hpow hawake).trans (congrArg Host.Outcome.next (if_pos hmode))

/-- Outside MAINTENANCE EXTEST acts as BYPASS (R626). -/
theorem exec_jtagExtest_bypass {s : State} (v : Nat) (hpow : s.powered = true) (hawake : s.asleep 45 = false)
    (hmode : (s.selectIr 3).mode ≠ 5) : exec (.jtagExtest v) s = .next ((s.selectIr 3).shiftBypass v) := by
  change execJtagExtest v s = _
  rw [execJtagExtest]
  exact (s.jtag_powered _ hpow hawake).trans (congrArg Host.Outcome.next (if_neg hmode))

/-! ### Unlocking -/

/-- Without DEBUG_PERMIT the challenge is all zeros and no answer is judged. -/
theorem exec_dbgUnlock_unpermitted {s t : State} (key sr ss : Nat) (hpow : s.powered = true)
    (hawake : s.asleep 45 = false) (ht : t = s.selectIr 0x21) (hpermit : t.on R.FB_CFG_DEBUG_PERMIT = false) :
    exec (.dbgUnlock key sr ss) s = .next (({ t with drawn := t.drawn + 1 } : State).emit (.tdo 256 0)) := by
  change execDbgUnlock key sr ss s = _
  rw [execDbgUnlock, s.jtag_powered _ hpow hawake, ← ht]
  simp [hpermit]

/-- With it the answer to a fresh challenge is judged, unless three failures block the port. -/
theorem exec_dbgUnlock_permitted {s t u : State} {key sr ss ch : Nat} (hpow : s.powered = true)
    (hawake : s.asleep 45 = false) (ht : t = s.selectIr 0x21) (hpermit : t.on R.FB_CFG_DEBUG_PERMIT = true)
    (hch : ch = Config.challenge t.drawn % 2 ^ 256)
    (hu : u = ({ t with drawn := t.drawn + 1 } : State).emit (.tdo 256 ch))
    (hfree : u.on R.HI_JTAG_STAT_UNLOCK_BLOCKED = false) (hkey : key < 256) (hsr : sr < 2 ^ 256) (hss : ss < 2 ^ 256) :
    exec (.dbgUnlock key sr ss) s = .next (if u.keyAccepted key && Config.ecdsaVerify key (Config.sha256 (beBytes 32 ch ++
      u.serialBytes) % 2 ^ 256) (sr * 2 ^ 256 + ss) then u.setUnlocked true else u.unlockFails) := by
  change execDbgUnlock key sr ss s = _
  rw [execDbgUnlock, s.jtag_powered _ hpow hawake, ← ht, Nat.mod_eq_of_lt hkey, Nat.mod_eq_of_lt hsr,
    Nat.mod_eq_of_lt hss]
  simp only [hpermit, if_true, ← hch, ← hu]
  exact congrArg Host.Outcome.next (if_neg (by rw [hfree]; decide))

end Sys2Proof.Machine

/-- Settles O60: each clause is one row of the console or the test port, by the lemma above that says what it does while
its block is powered. -/
theorem consoleAndTestPortComplete : Obligations.ConsoleAndTestPortComplete := by
  unfold Obligations.ConsoleAndTestPortComplete
  refine ⟨?_, ?_, ?_, ?_, ?_, ?_, ?_, ?_, ?_, ?_, ?_, ?_, ?_, ?_, ?_, ?_, ?_, ?_, ?_⟩
  case refine_1 =>
    intro s e dt b he hpow hawake hen hroom
    exact exec_uartByte_stored b he hpow hawake hen hroom
  case refine_2 =>
    intro s e dt b he hpow hawake hen hfull
    exact exec_uartByte_lost b he hpow hawake hen hfull
  case refine_3 =>
    intro s e dt rest he hready hawake hen hline
    exact exec_uartStatus he hready hawake hen hline
  case refine_4 =>
    intro s e dt rest he hready hawake hen hline
    exact exec_uartTemp he hready hawake hen hline
  case refine_5 =>
    intro s e dt rest he hready hawake hen hline
    exact exec_uartVer he hready hawake hen hline
  case refine_6 =>
    intro s e dt rest he hready hawake hen hline
    exact exec_uartHelp he hready hawake hen hline
  case refine_7 =>
    intro s e dt line rest he hready hawake hen hline hother
    exact exec_uartUnknownLine he hready hawake hen hline hother
  case refine_8 =>
    intro s hpow hawake
    change execTapReset s = _
    rw [execTapReset]
    exact s.jtag_powered _ hpow hawake
  case refine_9 =>
    intro s code bit hpow hawake hcode hfree
    exact exec_jtagBypass bit hpow hawake hcode hfree
  case refine_10 =>
    intro s hpow hawake
    change execJtagIdcode s = _
    rw [execJtagIdcode]
    exact s.jtag_powered _ hpow hawake
  case refine_11 =>
    intro s v hpow hawake
    change execJtagSamplePreload v s = _
    rw [execJtagSamplePreload]
    exact s.jtag_powered _ hpow hawake
  case refine_12 =>
    intro s v hpow hawake hmode
    exact exec_jtagExtest_pins v hpow hawake hmode
  case refine_13 =>
    intro s v hpow hawake hmode
    exact exec_jtagExtest_bypass v hpow hawake hmode
  case refine_14 =>
    intro s v hpow hawake
    change execJtagClamp v s = _
    rw [execJtagClamp]
    exact s.jtag_powered _ hpow hawake
  case refine_15 =>
    intro s v hpow hawake
    change execJtagHighz v s = _
    rw [execJtagHighz]
    exact s.jtag_powered _ hpow hawake
  case refine_16 =>
    intro s addr hpow hawake
    change execDbgRead addr s = _
    rw [execDbgRead]
    exact s.jtag_powered _ hpow hawake
  case refine_17 =>
    intro s addr v hpow hawake
    change execDbgWrite addr v s = _
    rw [execDbgWrite]
    exact s.jtag_powered _ hpow hawake
  case refine_18 =>
    intro s key sr ss t hpow hawake ht hpermit
    exact exec_dbgUnlock_unpermitted key sr ss hpow hawake ht hpermit
  case refine_19 =>
    intro s key sr ss ch t u hpow hawake ht hpermit hch hu hfree hkey hsr hss
    exact exec_dbgUnlock_permitted hpow hawake ht hpermit hch hu hfree hkey hsr hss
end

section
/-! SUPPORT. The host interfaces (R610 to R621): the PCIe link and its functions, the frames of M0, and the SMBus
commands of a powered device. -/
open Sys2Proof Sys2Proof.Machine
namespace Sys2Proof.Machine

/-! ### PCIe -/

/-- The endpoint can train to a generation and a width after S1. -/
theorem pcie_trains {e : State} {gen width : Nat} (hstart : e.beforeStep 2 = false) (hgen : 1 ≤ gen) (hgen4 : gen ≤ 4)
    (hwidth : width = 1 ∨ width = 2 ∨ width = 4) :
    (decide (1 ≤ gen) && decide (gen ≤ 4) && [1, 2, 4].contains width && !e.beforeStep 2) = true := by
  have hmem : [1, 2, 4].contains width = true := by
    obtain rfl | rfl | rfl := hwidth <;> rfl
  rw [decide_eq_true hgen, decide_eq_true hgen4, hmem, hstart]
  rfl

theorem exec_pcieLink_up {s e : State} {dt gen width : Nat} (he : e = s.elapse dt) (hpow : e.powered = true)
    (hstart : e.beforeStep 2 = false) (hgen : 1 ≤ gen) (hgen4 : gen ≤ 4) (hwidth : width = 1 ∨ width = 2 ∨ width = 4)
    (hdown : e.on R.HI_PCIE_STAT_LINK_UP = false) :
    exec (.pcieLink dt gen width false) s = .next ((e.writes [{ f := R.HI_PCIE_STAT_LINK_UP, v := 1 },
      { f := R.HI_PCIE_STAT_SPEED, v := gen }, { f := R.HI_PCIE_STAT_WIDTH, v := width }]).raise 114 (16 * gen + width)) := by
  change execPcieLink dt gen width false s = _
  have hgen0 : gen ≠ 0 := Nat.ne_of_gt hgen
  rw [execPcieLink, ← he]
  simp only [hpow, hgen0, pcie_trains hstart hgen hgen4 hwidth, hdown, if_false, Bool.not_true, Bool.false_and,
    Bool.not_false, Bool.and_true, if_true, Bool.false_eq_true]

/-- Generation 0 takes the link out of L0. -/
theorem exec_pcieLink_down {s e : State} {dt width : Nat} (hot : Bool) (he : e = s.elapse dt) (hpow : e.powered = true) :
    exec (.pcieLink dt 0 width hot) s = .next e.pcieDown := by
  change execPcieLink dt 0 width hot s = _
  rw [execPcieLink, ← he]
  simp [hpow]

theorem exec_pcieFlr {s e : State} {dt f : Nat} (he : e = s.elapse dt) (hf : f < 2)
    (hup : e.on R.HI_PCIE_STAT_LINK_UP = true) :
    exec (.pcieFlr dt f) s = .next (((e.resetPf f).incSat (if f = 0 then R.HI_PCIE_STAT_FLR_CNT0 else
      R.HI_PCIE_STAT_FLR_CNT1)).raise 115 f) := by
  change execPcieFlr dt f s = _
  rw [execPcieFlr, ← he, Nat.mod_eq_of_lt hf]
  exact congrArg Host.Outcome.next (if_pos hup)

theorem exec_pcieConfigWrite {s q : State} {f vmask : Nat} (bme msixEn fmask : Bool) (hq : q = s.quiet) (hf : f < 2)
    (hmask : vmask < 2 ^ 32) (hup : q.on R.HI_PCIE_STAT_LINK_UP = true) :
    exec (.pcieConfigWrite f vmask bme msixEn fmask) s = .next
      ((({ q with pf := Tab.put q.pf f { Tab.get {} q.pf f with bme := bme, msixEn := msixEn, fmask := fmask, vmask := vmask } }
      : State).setB (if f = 0 then R.HI_PCIE_STAT_PF0_BME else R.HI_PCIE_STAT_PF1_BME) bme).sendPending f) := by
  change execPcieConfigWrite f vmask bme msixEn fmask s = _
  rw [execPcieConfigWrite, ← hq, Nat.mod_eq_of_lt hf, Nat.mod_eq_of_lt hmask]
  exact congrArg Host.Outcome.next (if_pos hup)

/-! ### The management port -/

theorem exec_m0Link {s e : State} {dt speed v : Nat} {up : Bool} (he : e = s.elapse dt) (hpow : e.powered = true)
    (hawake : e.asleep 41 = false)
    (hv : v = (if !up then 0 else if e.on R.HI_M0_CFG_MODE then min 2 speed else 2))
    (hnew : (e.on R.HI_M0_STAT_LINK != up || e.get R.HI_M0_STAT_SPEED != v) = true) :
    exec (.m0Link dt speed up) s = .next (((e.setB R.HI_M0_STAT_LINK up).set R.HI_M0_STAT_SPEED v).raise 116 (b2n up + 2 * v)) := by
  change execM0Link dt speed up s = _
  rw [execM0Link, ← he]
  simp only [hpow, hawake, ← hv, hnew, Bool.not_false, Bool.and_true, if_true]

theorem exec_m0FrameArrival {s e : State} {dt : Nat} {bytes : List Byte} (he : e = s.elapse dt)
    (hawake : e.asleep 41 = false) (hlink : e.on R.HI_M0_STAT_LINK = true) (htakes : e.m0Takes bytes = true) :
    exec (.m0FrameArrival dt bytes) s = .next (if e.hi.m0.length < 8 then
      { e with hi := { e.hi with m0 := e.hi.m0 ++ [{ src := fieldAt bytes 6 6, payload := bytes.drop 14 }] } } else
      e.incSat R.HI_M0_STAT_DROP) := by
  change execM0FrameArrival dt bytes s = _
  rw [execM0FrameArrival, ← he]
  exact congrArg Host.Outcome.next (if_pos (by rw [hawake, hlink, htakes]; rfl))

/-- The oldest waiting frame is taken by the row that its kind, WRITE or not, names. -/
theorem State.m0Handle_takes {e : State} {f : M0Frame} {rest : List M0Frame} {write : Bool} (k : State → M0Frame → State)
    (hawake : e.asleep 41 = false) (hm0 : e.hi.m0 = f :: rest) (hkind : (fieldAt f.payload 2 1 == 2) = write) :
    e.m0Handle write k = k { e with hi := { e.hi with m0 := rest } } f := by
  simp only [State.m0Handle, hm0, hawake, hkind, Bool.false_eq_true, if_false, beq_self_eq_true, if_true]

theorem exec_m0Read_good {s e p : State} {dt : Nat} {f : M0Frame} {rest : List M0Frame} (he : e = s.elapse dt)
    (hawake : e.asleep 41 = false) (hm0 : e.hi.m0 = f :: rest) (hp : p = { e with hi := { e.hi with m0 := rest } })
    (hkind : fieldAt f.payload 2 1 = 1) (hgood : m0Good f false = true) :
    exec (.m0Read dt) s = .next ((p.readWords p.m0Init (fieldAt f.payload 8 4) (fieldAt f.payload 3 1)).2.2.m0Answer f
      (p.readWords p.m0Init (fieldAt f.payload 8 4) (fieldAt f.payload 3 1)).1.length
      (b2n (!(p.readWords p.m0Init (fieldAt f.payload 8 4) (fieldAt f.payload 3 1)).2.1))
      (p.readWords p.m0Init (fieldAt f.payload 8 4) (fieldAt f.payload 3 1)).1) := by
  change execM0Read dt s = _
  rw [execM0Read, ← he, State.m0Handle_takes _ hawake hm0 (by rw [hkind]; rfl), ← hp]
  exact congrArg Host.Outcome.next (if_pos ⟨hkind, hgood⟩)

/-- A frame that is no READ, or none in good form, is a bad request. -/
theorem exec_m0Read_bad {s e : State} {dt : Nat} {f : M0Frame} {rest : List M0Frame} (he : e = s.elapse dt)
    (hawake : e.asleep 41 = false) (hm0 : e.hi.m0 = f :: rest) (hkind : fieldAt f.payload 2 1 ≠ 2)
    (hbad : fieldAt f.payload 2 1 ≠ 1 ∨ m0Good f false = false) :
    exec (.m0Read dt) s = .next (({ e with hi := { e.hi with m0 := rest } } : State).m0Answer f 0 2 []) := by
  change execM0Read dt s = _
  rw [execM0Read, ← he, State.m0Handle_takes _ hawake hm0 (beq_false_of_ne hkind)]
  refine congrArg Host.Outcome.next (if_neg fun h => ?_)
  obtain hno | hno := hbad
  · exact hno h.1
  · exact Bool.false_ne_true (hno.symm.trans h.2)

theorem exec_m0Write_good {s e p : State} {dt : Nat} {f : M0Frame} {rest : List M0Frame} (he : e = s.elapse dt)
    (hawake : e.asleep 41 = false) (hm0 : e.hi.m0 = f :: rest) (hp : p = { e with hi := { e.hi with m0 := rest } })
    (hkind : fieldAt f.payload 2 1 = 2) (hgood : m0Good f true = true) :
    exec (.m0Write dt) s = .next ((p.writeWords p.m0Init (fieldAt f.payload 8 4) ((List.range (fieldAt f.payload 3 1)).map
      fun i => fieldAt f.payload (12 + 4 * i) 4)).2.m0Answer f (p.writeWords p.m0Init (fieldAt f.payload 8 4) ((List.range
      (fieldAt f.payload 3 1)).map fun i => fieldAt f.payload (12 + 4 * i) 4)).1 (b2n ((p.writeWords p.m0Init (fieldAt
      f.payload 8 4) ((List.range (fieldAt f.payload 3 1)).map fun i => fieldAt f.payload (12 + 4 * i) 4)).1 != fieldAt
      f.payload 3 1)) []) := by
  change execM0Write dt s = _
  rw [execM0Write, ← he, State.m0Handle_takes _ hawake hm0 (by rw [hkind]; rfl), ← hp]
  exact congrArg Host.Outcome.next (if_pos hgood)

/-! ### The I²C target -/

theorem State.i2cDo_powered {s q : State} (k : State → State) (hq : q = s.quiet) (hpow : q.powered = true) :
    s.i2cDo k = .next (k q) := by
  subst hq
  exact congrArg Host.Outcome.next (if_pos hpow)

/-- A write with no PEC to check, or a right one, goes on. -/
theorem State.i2cPec_passes {q : State} {pec : Bool} (k : State) (h : q.on R.HI_I2C_CFG_PEC_EN = false ∨ pec = true) :
    q.i2cPec pec k = k := by
  obtain hoff | hright := h
  · simp [State.i2cPec, hoff]
  · simp [State.i2cPec, hright]

theorem exec_i2cTime {s q : State} {n u : Nat} (hq : q = s.quiet) (hpow : q.powered = true) (hn : n = q.lineTb)
    (hu : u = units16 (q.time n) / 65536) :
    exec .i2cTime s = .next (q.i2cAnswer 0x06 [] (leBytes 6 (u / 10 ^ 9 % 2 ^ 48) ++ leBytes 4 (u % 10 ^ 9) ++ leBytes 1
      (b2n (q.tbOf n).timeValid + 2 * b2n (q.dpllState n == 2)))) := by
  change execI2cTime s = _
  rw [execI2cTime, State.i2cDo_powered _ hq hpow, ← hn, hu]

theorem exec_i2cMbWrite_discarded {s q : State} (off : Nat) (words : List Nat) (hq : q = s.quiet)
    (hpow : q.powered = true) (hpec : q.on R.HI_I2C_CFG_PEC_EN = true) :
    exec (.i2cMbWrite off words false) s = .next ((q.set R.HI_I2C_STAT_PEC_ERR 1).i2cNack) := by
  change execI2cMbWrite off words false s = _
  rw [execI2cMbWrite, State.i2cDo_powered _ hq hpow]
  exact congrArg Host.Outcome.next (if_pos (by rw [hpec]; rfl))

theorem exec_i2cMbRead_inside {s q : State} {off n : Nat} (hq : q = s.quiet) (hpow : q.powered = true)
    (hoff : mbOffset off = true) (hn : n < 256) :
    exec (.i2cMbRead off n) s = .next ((q.i2cReads off n).2.i2cAnswer 0x10 (leBytes 2 off) ((q.i2cReads off n).1.flatMap
      fun w => leBytes 4 w)) := by
  change execI2cMbRead off n s = _
  rw [execI2cMbRead, State.i2cDo_powered _ hq hpow, Nat.mod_eq_of_lt hn]
  exact congrArg Host.Outcome.next (if_pos hoff)

theorem exec_i2cMbRead_outside {s q : State} {off : Nat} (n : Nat) (hq : q = s.quiet) (hpow : q.powered = true)
    (hoff : mbOffset off = false) : exec (.i2cMbRead off n) s = .next q.i2cNack := by
  change execI2cMbRead off n s = _
  rw [execI2cMbRead, State.i2cDo_powered _ hq hpow]
  exact congrArg Host.Outcome.next (if_neg (ne_true_of_eq_false hoff))

theorem exec_i2cSemWrite {s q : State} {n cmd lease : Nat} {pec : Bool} (hq : q = s.quiet) (hpow : q.powered = true)
    (hn : n < 64) (hcmd : cmd < 4) (hlease : lease < 1024) (hpec : q.on R.HI_I2C_CFG_PEC_EN = false ∨ pec = true) :
    exec (.i2cSemWrite n cmd lease pec) s = .next (if (q.portWrite 7 (semAddr n) (cmd + lease * 2 ^ 10)).1 then
      (q.portWrite 7 (semAddr n) (cmd + lease * 2 ^ 10)).2 else
      (q.portWrite 7 (semAddr n) (cmd + lease * 2 ^ 10)).2.i2cErr.i2cNack) := by
  change execI2cSemWrite n cmd lease pec s = _
  have hn' : n % 256 = n := Nat.mod_eq_of_lt (by omega)
  rw [execI2cSemWrite, State.i2cDo_powered _ hq hpow, hn', Nat.mod_eq_of_lt hcmd, Nat.mod_eq_of_lt hlease]
  exact congrArg Host.Outcome.next ((State.i2cPec_passes _ hpec).trans (if_neg (Nat.not_le.mpr hn)))

theorem exec_i2cSemRead {s q : State} {n : Nat} (hq : q = s.quiet) (hpow : q.powered = true) (hn : n < 64) :
    exec (.i2cSemRead n) s = .next ((if (q.portRead 7 (semAddr n)).1.isNone then (q.portRead 7 (semAddr n)).2.i2cErr else
      (q.portRead 7 (semAddr n)).2).i2cAnswer 0x11 (leBytes 1 n) (leBytes 4 ((q.portRead 7 (semAddr n)).1.getD 0))) := by
  change execI2cSemRead n s = _
  have hn' : n % 256 = n := Nat.mod_eq_of_lt (by omega)
  rw [execI2cSemRead, State.i2cDo_powered _ hq hpow, hn']
  exact congrArg Host.Outcome.next (if_neg (Nat.not_le.mpr hn))

theorem exec_i2cSemRead_beyond {s q : State} {n : Nat} (hq : q = s.quiet) (hpow : q.powered = true) (hn : 64 ≤ n)
    (hn' : n < 256) : exec (.i2cSemRead n) s = .next q.i2cNack := by
  change execI2cSemRead n s = _
  rw [execI2cSemRead, State.i2cDo_powered _ hq hpow, Nat.mod_eq_of_lt hn']
  exact congrArg Host.Outcome.next (if_pos hn)

theorem exec_i2cUnknownCommand {s q : State} {c : Nat} (hq : q = s.quiet) (hpow : q.powered = true) (hlow : 8 ≤ c)
    (hc : c < 256) (hmb : c ≠ 0x10) (hsem : c ≠ 0x11) : exec (.i2cUnknownCommand c) s = .next q.i2cNack := by
  change execI2cUnknownCommand c s = _
  rw [execI2cUnknownCommand, State.i2cDo_powered _ hq hpow, Nat.mod_eq_of_lt hc]
  exact congrArg Host.Outcome.next (if_neg (by omega))

theorem exec_i2cReset {s e : State} {dt : Nat} (he : e = s.elapse dt) (hpow : e.powered = true) :
    exec (.i2cReset dt) s = .next ((e.ownerFault 7).raise 117 0) := by
  change execI2cReset dt s = _
  rw [execI2cReset, ← he]
  exact congrArg Host.Outcome.next (if_pos hpow)

end Sys2Proof.Machine

/-- Settles O59: each clause is one row of a host interface, by the lemma above that says what it does; the registers
that SMBus reads need only the target powered. -/
theorem hostAndManagementPortsComplete : Obligations.HostAndManagementPortsComplete := by
  unfold Obligations.HostAndManagementPortsComplete
  refine ⟨?_, ?_, ?_, ?_, ?_, ?_, ?_, ?_, ?_, ?_, ?_, ?_, ?_, ?_, ?_, ?_, ?_, ?_, ?_, ?_, ?_, ?_, ?_, ?_, ?_, ?_⟩
  case refine_1 =>
    intro s e dt gen width he hpow hstart hgen hgen4 hwidth hdown
    exact exec_pcieLink_up he hpow hstart hgen hgen4 hwidth hdown
  case refine_2 =>
    intro s e dt width hot he hpow
    exact exec_pcieLink_down hot he hpow
  case refine_3 =>
    intro s e dt f he hf hup
    exact exec_pcieFlr he hf hup
  case refine_4 =>
    intro s q f vmask bme msixEn fmask hq hf hmask hup
    exact exec_pcieConfigWrite bme msixEn fmask hq hf hmask hup
  case refine_5 =>
    intro s e dt speed v up he hpow hawake hv hnew
    exact exec_m0Link he hpow hawake hv hnew
  case refine_6 =>
    intro s e dt bytes he hawake hlink htakes
    exact exec_m0FrameArrival he hawake hlink htakes
  case refine_7 =>
    intro s e dt f rest p he hawake hm0 hp hkind hgood
    exact exec_m0Read_good he hawake hm0 hp hkind hgood
  case refine_8 =>
    intro s e dt f rest he hawake hm0 hkind hbad
    exact exec_m0Read_bad he hawake hm0 hkind hbad
  case refine_9 =>
    intro s e dt f rest p he hawake hm0 hp hkind hgood
    exact exec_m0Write_good he hawake hm0 hp hkind hgood
  case refine_10 =>
    intro s q hq hpow
    change execI2cStatus s = _
    rw [execI2cStatus, State.i2cDo_powered _ hq hpow]
  case refine_11 =>
    intro s q hq hpow
    change execI2cDevId s = _
    rw [execI2cDevId, State.i2cDo_powered _ hq hpow]
  case refine_12 =>
    intro s q hq hpow
    change execI2cNodeId s = _
    rw [execI2cNodeId, State.i2cDo_powered _ hq hpow]
  case refine_13 =>
    intro s q hq hpow
    change execI2cModeState s = _
    rw [execI2cModeState, State.i2cDo_powered _ hq hpow]
  case refine_14 =>
    intro s q hq hpow
    change execI2cPwrState s = _
    rw [execI2cPwrState, State.i2cDo_powered _ hq hpow]
  case refine_15 =>
    intro s q hq hpow
    change execI2cTemp s = _
    rw [execI2cTemp, State.i2cDo_powered _ hq hpow]
  case refine_16 =>
    intro s q n u hq hpow hn hu
    exact exec_i2cTime hq hpow hn hu
  case refine_17 =>
    intro s q hq hpow
    change execI2cEvents s = _
    rw [execI2cEvents, State.i2cDo_powered _ hq hpow]
  case refine_18 =>
    intro s q off words pec hq hpow hpec
    change execI2cMbWrite off words pec s = _
    rw [execI2cMbWrite, State.i2cDo_powered _ hq hpow, State.i2cPec_passes _ hpec]
  case refine_19 =>
    intro s q off words hq hpow hpec
    exact exec_i2cMbWrite_discarded off words hq hpow hpec
  case refine_20 =>
    intro s q off n hq hpow hoff hn
    exact exec_i2cMbRead_inside hq hpow hoff hn
  case refine_21 =>
    intro s q off n hq hpow hoff
    exact exec_i2cMbRead_outside n hq hpow hoff
  case refine_22 =>
    intro s q n cmd lease pec hq hpow hn hcmd hlease hpec
    exact exec_i2cSemWrite hq hpow hn hcmd hlease hpec
  case refine_23 =>
    intro s q n hq hpow hn
    exact exec_i2cSemRead hq hpow hn
  case refine_24 =>
    intro s q n hq hpow hn hn'
    exact exec_i2cSemRead_beyond hq hpow hn hn'
  case refine_25 =>
    intro s q c hq hpow hlow hc hmb hsem
    exact exec_i2cUnknownCommand hq hpow hlow hc hmb hsem
  case refine_26 =>
    intro s e dt he hpow
    exact exec_i2cReset he hpow
end

section
/-! SUPPORT. The rows of telemetry and of the event block (R526 to R554): counters, windows, the Tally and event records. -/
open Sys2Proof Sys2Proof.Machine
namespace Sys2Proof.Machine

/-! ### Counters and windows -/

/-- A LO word of the counter window latches its HI bits for the reader. -/
theorem State.cntRead_lo {q : State} {off v : Nat} (init : Nat) (hv : q.cntValue off = some v) :
    q.cntRead init off
      = (v % 2 ^ 32, { q with hi := { q.hi with latch := Tab.put q.hi.latch init (off, v / 2 ^ 32) } }) := by
  simp only [State.cntRead, hv]

theorem exec_counterLoRead {s q : State} {init off v : Nat} (hq : q = s.quiet)
    (ha : Allowed q init (0x300000 + off) false) (hoff : off < 0xB000) (haligned : off % 4 = 0)
    (hv : q.cntValue off = some v) :
    exec (.counterLoRead init off) s = .next
      (({ q with hi := { q.hi with latch := Tab.put q.hi.latch init (off, v / 2 ^ 32) } } : State).emit
        (.readData init [v % 2 ^ 32])) := by
  have hc : q.checkAccess init (0x300000 + off) false = none := ha
  change execCounterLoRead init off s = _
  rw [execCounterLoRead, ← hq, Nat.mod_eq_of_lt hoff, haligned, Nat.sub_zero]
  simp only [hc, State.cntRead_lo init hv]

theorem exec_counterCfgWrite {s q : State} {init addr v g k w : Nat} {gl : Bool} (hq : q = s.quiet)
    (ha : Allowed q init addr true) (hat : cntAt addr = some (gl, g, k, w))
    (hw : q.writable ((cntWrites gl g k v v v).filter fun x => (x.f.addr % 16) / 4 == w)) :
    exec (.counterCfgWrite init addr v) s = .next (q.direct fun q => q.cntRegWrite gl g k w v) := by
  subst hq
  change execCounterCfgWrite init addr v s = _
  simp only [execCounterCfgWrite, hat]
  exact congrArg Host.Outcome.next (s.directWrite_of_writable _ ha hw)

theorem exec_cntThresh {s e : State} {dt : Nat} (he : e = s.elapse dt) (hover : e.cntWin < e.clk / 10 ^ 9) :
    exec (.cntThresh dt) s = .next e.endCntWindow := by
  change execCntThresh dt s = _
  rw [execCntThresh, ← he]
  exact congrArg Host.Outcome.next (if_neg (Nat.not_le.mpr hover))

theorem exec_bwCfgWrite {s q : State} {init p w : Nat} (v : Nat) (hq : q = s.quiet)
    (ha : Allowed q init (0x67A000 + 16 * p + 4 * w) true) (hp : p < 48) (hw : w < 3)
    (hfree : q.writable (inRangeWrites (bwWrites p w v))) :
    exec (.bwCfgWrite init (0x67A000 + 16 * p + 4 * w) v) s
      = .next (q.direct fun q => (q.writes (inRangeWrites (bwWrites p w v))).restartBw p) := by
  subst hq
  have hport : (0x67A000 + 16 * p + 4 * w - 0x67A000) / 16 = p := by omega
  have hword : (0x67A000 + 16 * p + 4 * w - 0x67A000) % 16 / 4 = w := by omega
  change execBwCfgWrite init _ v s = _
  simp only [execBwCfgWrite, hport, hword]
  rw [if_neg (by omega), s.directWrite_of_writable _ ha hfree]

theorem exec_bwWindowEnd {s e : State} {dt p : Nat} (he : e = s.elapse dt) (hp : p < 48) (hover : e.windowOver p = true) :
    exec (.bwWindowEnd dt p) s = .next (e.endWindow p) := by
  change execBwWindowEnd dt p s = _
  rw [execBwWindowEnd, ← he, Nat.mod_eq_of_lt hp]
  exact congrArg Host.Outcome.next (if_pos hover)

theorem exec_bwPeriodEnd {s e : State} {dt p : Nat} (he : e = s.elapse dt) (hp : p < 48)
    (hen : e.on R.TL_BWp_CFG_EN p = true) (hfull : e.get R.TL_BWp_PER_PERIOD_N p ≤ (e.bwOf p).windows) :
    exec (.bwPeriodEnd dt p) s = .next (e.publish p) := by
  change execBwPeriodEnd dt p s = _
  rw [execBwPeriodEnd, ← he, Nat.mod_eq_of_lt hp]
  exact congrArg Host.Outcome.next (if_pos (Bool.and_eq_true_iff.mpr ⟨hen, decide_eq_true hfull⟩))

theorem exec_tallyDma {s e : State} {dt : Nat} {c : Capture} {rest : List Capture} (he : e = s.elapse dt)
    (hwaiting : e.tally.waiting = c :: rest) :
    exec (.tallyDma dt) s = .next (({ e with tally := { e.tally with waiting := rest } } : State).tallyRecord c) := by
  change execTallyDma dt s = _
  rw [execTallyDma, ← he]
  simp only [hwaiting]

/-! ### The event block -/

theorem exec_evStatusClear {s q : State} {init i : Nat} (v : Nat) (hq : q = s.quiet)
    (ha : Allowed q init (0x100000 + 4 * i) true) (hi : i < 4) :
    exec (.evStatusClear init i v) s = .next (q.direct fun q => q.evClear init i v) := by
  subst hq
  change execEvStatusClear init i v s = _
  rw [execEvStatusClear, Nat.mod_eq_of_lt hi, s.directWrite_of_writable _ ha (State.writable_nil _)]

/-- A read of W0 of a record window that its initiator may read pops it. -/
theorem exec_evrecPop {s q : State} {init : Nat} (nonSecure : Bool) (hq : q = s.quiet)
    (ha : Allowed q init (if nonSecure then 0x100050 else 0x100040) false) :
    exec (.evrecPop init nonSecure) s
      = .next ((q.evPop nonSecure).2.emit (.readData init [(q.evPop nonSecure).1])) := by
  have hc : q.checkAccess init (if nonSecure then 0x100050 else 0x100040) false = none := ha
  change execEvrecPop init nonSecure s = _
  rw [execEvrecPop, ← hq]
  simp only [hc]

theorem State.evPop_secure {q : State} {r : EvRec} {rest : List EvRec} (h : q.ev.secFifo = r :: rest) :
    q.evPop false = (r.w0, { q with ev := { q.ev with secLatch := r, secFifo := rest } }) := by
  simp [State.evPop, h]

theorem State.evPop_nonSecure {q : State} {r : EvRec} {rest : List EvRec} (h : q.ev.nonFifo = r :: rest) :
    q.evPop true = (r.w0, { q with ev := { q.ev with nonLatch := r, nonFifo := rest } }) := by
  simp [State.evPop, h]

/-- An empty FIFO reads as bit 31 alone and leaves an empty record in the latch. -/
theorem State.evPop_secure_empty {q : State} (h : q.ev.secFifo = []) :
    q.evPop false = (2 ^ 31, { q with ev := { q.ev with secLatch := {} } }) := by
  simp [State.evPop, h]

end Sys2Proof.Machine

/-- Settles O57: each clause is one row of telemetry or of the event block, by the lemma above that says what it does;
a pop reads what `evPop` takes from its FIFO. -/
theorem telemetryEventsComplete : Obligations.TelemetryEventsComplete := by
  unfold Obligations.TelemetryEventsComplete
  refine ⟨?_, ?_, ?_, ?_, ?_, ?_, ?_, ?_, ?_, ?_, ?_, ?_⟩
  case refine_1 =>
    intro s q init off v hq ha hoff haligned hv
    exact exec_counterLoRead hq ha hoff haligned hv
  case refine_2 =>
    intro s q init addr v gl g k w hq ha hat hw
    exact exec_counterCfgWrite hq ha hat hw
  case refine_3 =>
    intro s e dt he hover
    exact exec_cntThresh he hover
  case refine_4 =>
    intro s q init p w v hq ha hp hw hfree
    exact exec_bwCfgWrite v hq ha hp hw hfree
  case refine_5 =>
    intro s e dt p he hp hover
    exact exec_bwWindowEnd he hp hover
  case refine_6 =>
    intro s e dt p he hp hen hfull
    exact exec_bwPeriodEnd he hp hen hfull
  case refine_7 =>
    intro s e dt c rest he hwaiting
    exact exec_tallyDma he hwaiting
  case refine_8 =>
    intro s q init i v hq ha hi
    exact exec_evStatusClear v hq ha hi
  case refine_9 =>
    intro s q init v hq ha
    subst hq
    exact congrArg Host.Outcome.next (s.directWrite_of_writable _ ha (State.writable_nil _))
  case refine_10 =>
    intro s q init r rest hq ha hfifo
    rw [exec_evrecPop false hq ha, State.evPop_secure hfifo]
  case refine_11 =>
    intro s q init r rest hq ha hfifo
    rw [exec_evrecPop true hq ha, State.evPop_nonSecure hfifo]
  case refine_12 =>
    intro s q init hq ha hfifo
    rw [exec_evrecPop false hq ha, State.evPop_secure_empty hfifo]
end
